-- ==== Sys2Proof/Word.lean ====
section
/-!
DEFINITION. Word types of the block: register words, submission entries and payload words (R6, R261, R43).
-/
namespace Sys2Proof

/-- A byte of an addressed buffer. -/
abbrev Byte := BitVec 8
/-- A 32-bit register or dword (R6). -/
abbrev Word := BitVec 32
/-- A 64-bit payload word or host address. -/
abbrev DWord := BitVec 64
/-- A 64-byte submission entry, byte n in bits [8n+7:8n] (R261). -/
abbrev Sqe := BitVec 512

end Sys2Proof
end

