-- ==== Sys2Proof/Syntax.lean ====
section
/-!
DEFINITION. The commands of the block, one constructor for each row of the table of operations and events. An operation carries what its
sender writes; an event carries what the world outside the device decides: what a converter read, what a host read returned, what a pin did.
-/
namespace Sys2Proof

/-- How a host read by the device ended (R305). -/
inductive HostRead where
  | ok | ur | ca | poisoned | timeout
deriving DecidableEq, Repr

/-- Whose host read it was: an I/O queue's or a function's admin queue's fetch, or the sequencer's refill (R218, R305). -/
inductive Reader where
  | io (q : Nat)
  | admin (fn : Nat)
  | refill
deriving DecidableEq, Repr

/-- What verification measured on one checked output in one plane (R89, R191). Levels are 2^-16 dBm; arrival is in 0.5 ns, none when not reached.
The last three are what a fast lane has besides: SETTLE and RISE in the units of FL_RES, none when not settled or less than 3 dB apart, and
whether a sample was at full scale. -/
structure Meas where
  out : Nat
  plane : Bool
  /-- Mean output level over the last 1 µs. -/
  level : Int
  arrival : Option Nat
  settle : Option Nat := none
  rise : Option Nat := none
  clip : Bool := false
deriving DecidableEq, Repr

/-- What a sweep or a capture of calibration measured in one window (R236): the currents of a heater's driver at the four codes, in µA; the mean codes
of a fast lane, in 1/16 code, on the output for the gain and on the one for the offset. -/
inductive CalMeas where
  | heater (aa : Nat) (currents : List Nat)
  | lane (k gain dark : Nat)
deriving DecidableEq, Repr

/-- A map entry on the snapshot link (R364): output, input if connected, bridge branch, sum of the stored targets in 0.05 dB. -/
structure LinkEntry where
  out : Nat
  inp : Option Nat
  bridge : Bool
  atten : Nat
deriving DecidableEq, Repr

/-- The mask that MSIX_UNMASK clears: that of a function's vector, or the whole function's (R275). -/
structure Unmask where
  fn : Nat
  whole : Bool
deriving DecidableEq, Repr

/-- How far SEQ_LOAD goes: a queue, and how many samples more of its copy are written (R220). -/
structure LoadPart where
  q : Nat
  n : Nat
deriving DecidableEq, Repr

/-- A correctable error of PCI Express: its function, and its bit in the AER correctable error status (R247). -/
structure AerBit where
  fn : Nat
  bit : Nat
deriving DecidableEq, Repr

/-- What the responder acts on of a message of the SPDM requester (R391). -/
structure SpdmMsg where
  /-- The message is well formed and in order for the SPDM specification. -/
  good : Bool
  /-- Heartbeat period asked for at KEY_EXCHANGE, in seconds; slot number at GET_CERTIFICATE and CHALLENGE; index at GET_MEASUREMENTS. -/
  param : Nat
deriving DecidableEq, Repr

inductive Instr where
  -- doorbells: function, size of the write in bytes, value
  | sqTail (fn q nbytes : Nat) (value : Word)
  | cqHead (fn q nbytes : Nat) (value : Word)
  | aqSqTail (fn nbytes : Nat) (value : Word)
  | aqCqHead (fn nbytes : Nat) (value : Word)
  | evtHead (fn nbytes : Nat) (value : Word)
  | telHead (fn nbytes : Nat) (value : Word)
  | irqRearm (fn nbytes : Nat) (value : Word)
  -- QCTL: bits [31:3] and the two options that the row's bit does not fix
  | qctlEnable (fn q nbytes : Nat) (rsv : BitVec 29) (flush : Bool)
  | qctlDisable (fn q nbytes : Nat) (rsv : BitVec 29) (flush : Bool)
  | resume (fn q nbytes : Nat) (rsv : BitVec 29) (enable : Bool)
  | flush (fn q nbytes : Nat) (rsv : BitVec 29) (enable : Bool)
  -- host reads: the queue (or function, for its admin queue), the entry, its payload and how each read ended; a failure names the entry if
  -- that was read, and the part of the payload that had arrived
  | commandFetch (admin : Bool) (q : Nat) (sqe : Sqe) (payload : List DWord) (entry data : HostRead)
  | completionTimeout (r : Reader) (sqe : Option Sqe) (part : List DWord)
  | hostReadFailure (r : Reader) (sqe : Option Sqe) (part : List DWord) (how : HostRead)
  | aggTime (ring q : Nat)
  | msixUnmask (mask : Unmask)
  | telemetryRecord
  | adminQueueEnable (fn target : Nat) (value : Word)
  | adminQueueDisable (fn target : Nat) (value : Word)
  | adminAbortEnd (fn : Nat)
  | eventRingEnable (fn target : Nat) (value : Word)
  | eventRingDisable (fn target : Nat) (value : Word)
  | telemetryEnable (fn : Nat) (value : Word)
  | create (fn q : Nat) (value : Word)
  -- commands of an I/O queue: the front command of queue q executes
  | connectBatch (q : Nat)
  | attenSet (q : Nat)
  | fence (q : Nat)
  | queryConn (q : Nat)
  | calRun (q : Nat)
  | snapshot (q : Nat)
  | cellDirect (q : Nat)
  | loopMode (q : Nat)
  | seqLoad (part : LoadPart)
  | nop (q : Nat)
  -- commands of function fn's admin queue
  | queueCreate (fn : Nat)
  | queueDelete (fn : Nat)
  | abort (fn : Nat)
  | domainSet (fn : Nat)
  | fwActivate (fn : Nat)
  | islandRead (fn : Nat)
  -- route, commit, verification
  | routeJobStart (q : Nat)
  | routeJobComplete (slot : Nat)
  | heldBatchRerun (slot : Nat)
  | stagingComplete (slot : Nat)
  | laneReservation
  | midnight
  | verificationWindowClose (slot : Nat) (meas : List Meas)
  | rollbackCommit (slot : Nat)
  | devicePlaneCommit (inp : Nat)
  | planeRestoreCommit (inp : Nat)
  | rollRampStart (slot : Nat)
  | releaseCommit (slot : Nat)
  | settleWindowEnd (ca : Nat)
  | handoverEnd (ca : Nat)
  | demodulatorWindowFull (ca : Nat)
  | attenTargetApply
  | loopModeApply
  | snapshotRecord
  | abortCut
  | abortComplete (admin : Bool) (q : Nat)
  -- resets
  | flr (fn : Nat)
  | flrComplete (fn : Nat)
  | perstN
  | perstNRelease
  | linkDown
  | linkUp (gen width : Nat) (flit : Bool)
  | vfRemoval (numVfs : Nat)
  | vfEnable (numVfs : Nat)
  | vfTeardownComplete
  | supervisorRestart (memory : Bool)
  | supervisorRestartEnd
  -- loops: what a tick brings from outside: HRAIL in mV as the drivers will measure it at the fast periods from its boundary on, the 1 MS/s
  -- stream of the taps of lit switch cells over the tick (by cell, a pair of levels of tap 0 and tap 1 each µs, in 2^-16 dBm), ring frames that
  -- failed their CRC by receiving LE and TN, and output VOA tile pairs with a twin-link error
  | tick (rail : List Nat) (stream : List (Nat × List (Int × Int))) (ringErr : List (Nat × Nat)) (twinErr : List Nat)
  | fastPeriod
  | leFailure (le : Nat) (bit : Nat)
  | takeover (tn : Nat)
  | takeoverComplete (tn : Nat)
  | spareReq (fn le : Nat) (value : Word)
  | returnReq (fn le : Nat) (value : Word)
  | leRejoin (le : Nat) (pass : Bool)
  | lptWriteBack (tn : Nat)
  | lockDeclared (ca : Nat)
  | lockLost (ca : Nat)
  | regionChange (ca : Nat)
  | cellUnlit (ca : Nat)
  | cellLit (ca : Nat)
  | wrapTaken (ca : Nat)
  -- monitors
  | conversionResult (mpa code : Nat) (fast clip err : Bool)
  | windowTransition (mpa : Nat)
  | go (fn slot : Nat) (value : Word)
  | cancel (fn slot : Nat) (value : Word)
  | injectedResult (slot code : Nat) (clip : Bool)
  | claim (fn lane : Nat) (value : Word)
  | claimClear (fn lane : Nat) (value : Word)
  | arm (fn lane : Nat) (value : Word)
  | captureComplete (lane : Nat) (samples : List (BitVec 12)) (trigAt : Nat)
  | metWrite (fn mpa : Nat) (value : DWord)
  | lptWrite (fn addr : Nat) (data : List Word)
  | parameterLoad
  -- drives
  | shapeLoad (fn : Nat) (value : Word)
  | shapeLoadComplete
  | toneApply (fn : Nat) (value : Word)
  | tonePlanChange
  | ditherAmplitudeChange (aa : Nat)
  | driveFault (kind aa : Nat)
  -- sequencer
  | run (fn : Nat) (value : Word)
  | stop (fn : Nat) (value : Word)
  | jump (fn : Nat) (value : Word)
  | seqBind (fn lane : Nat) (value : Word)
  | unbind (lane : Nat)
  | sampleBoundary
  | iterationBoundary
  | segmentReady
  | refillEnable (fn : Nat) (value : Word)
  | segmentFilled (seg : Nat) (data : List DWord)
  -- a descriptor is a register of SEQ, addressed by its offset in the block
  | patternWrite (fn : Nat) (desc : Bool) (addr nbytes : Nat) (value : DWord)
  | syncin
  | syncPulseEnd (x : Nat)
  -- calibration
  | calTileStart (tn : Nat)
  | calWindowEnd (tn : Nat) (meas : List CalMeas)
  | spareWaitTimeout (tn : Nat)
  | store
  | storeComplete (verifies : Bool)
  | calApply (tn : Nat)
  | calReturn (tn : Nat)
  | storeRetry
  | interpolation
  -- faults and blank
  | force (fn src : Nat) (value : Word)
  | latchedClear (fn src : Nat) (value : Word)
  | outClear (fn src : Nat) (value : Word)
  | quietPeriodEnd (src scope : Nat)
  | fatalRecoveryTimeout
  | blankNAssert (widthNs : Nat)
  | blankNDeassert
  | swBlank (fn : Nat) (value : Word)
  | blankStage2
  | blankRelease
  | errNPulseEnd
  | fltCtlLock (fn : Nat) (value : Word)
  -- time
  | ppsIn
  | todFrame (bytes : List Byte) (gapNs : Nat)
  | ptmExchange
  | ptmResponse (ok : Bool) (master : Nat)
  | sourceLost
  | srcChange (fn : Nat) (value : Word)
  | timEpochReset (fn : Nat) (value : Word)
  | step (fn : Nat) (value : Word)
  | timStepForce (fn : Nat) (value : Word)
  | ppsOut
  | todTx
  -- island
  | islandSample (tap nW : Nat)
  | snapshotLinkDelta (strobe : Option Nat) (esn tb0 : Nat) (release : Bool) (ents : List LinkEntry)
  | fullMap (ents : List LinkEntry)
  | linkSilence
  | split
  | unclaimedOpen (out : Nat)
  | blockSigning
  | checkpoint
  | islandStart
  | clockCheck
  | islandHeartbeat
  | heartbeatLoss
  | islandReply
  | identify
  | lastResult
  | seek (obj index : Nat)
  | read (len : Nat)
  | ack (index : DWord)
  | timeSet (ns : DWord)
  | challenge
  | token (chunk : Nat) (bytes : List Byte)
  | sealOp (op : Nat)
  | configWrite (bytes : List Byte)
  -- SPDM and debug
  | getVersion (doe : Bool) (m : SpdmMsg)
  | getCapabilities (doe : Bool) (m : SpdmMsg)
  | negotiateAlgorithms (doe : Bool) (m : SpdmMsg)
  | getDigests (doe : Bool) (m : SpdmMsg)
  | getCertificate (doe : Bool) (m : SpdmMsg)
  | spdmChallenge (doe : Bool) (m : SpdmMsg)
  | getMeasurements (doe : Bool) (m : SpdmMsg)
  | keyExchange (doe : Bool) (m : SpdmMsg)
  | finish (doe : Bool) (m : SpdmMsg)
  | heartbeat (doe : Bool) (m : SpdmMsg)
  | endSession (doe : Bool) (m : SpdmMsg)
  | heartbeatTimeout (doe : Bool)
  | chalReq (fn : Nat) (value : Word)
  | submit (fn : Nat) (value : Word) (token : List Byte) (how : HostRead)
  | relock (fn : Nat) (value : Word)
  | dbgChal
  | dbgToken (token : List Byte)
  | jtagInstructionLoad (code : Nat)
  -- power
  | vin48Good (refsel : Bool) (strapId : BitVec 4)
  | dawnReq (fn : Nat) (value : Word)
  | dawnStepEnd (byLimit : Bool)
  | duskReq (fn : Nat) (value : Word)
  | duskStepEnd
  | vinWarn (mv10 : Nat)
  | vin48Low (mv10 : Nat)
  | uvlo (mv10 : Nat)
  | vin48High (mv10 : Nat)
  | railOutOfWindow (rail mv : Nat)
  | pllLockLoss
  | refinLoss
  | sensorUpdate (sensor : Nat) (temp : Int) (convErr : Bool)
  | powerMean (vin10 pin : Nat)
  | permitSense
  | masterStall (m fn : Nat)
  -- counters, registers
  | snap (fn : Nat) (value : Word)
  | clearAll (fn : Nat) (value : Word)
  | pmcLiveWrite (fn : Nat) (hi : Bool) (value : Word) (atOverflow : Bool)
  | pmcLiveRead (fn : Nat)
  | dumpComplete
  | glbCtlLock (fn : Nat) (value : Word)
  | captureRead (fn bar off nbytes : Nat)
  | mrtValueRead (fn mpa : Nat)
  | rcRead (fn off nbytes : Nat)
  -- bar 0, 2 and 4 are the BARs, 7 configuration space, in reads too; the bytes written in ascending order
  | registerWrite (fn bar off : Nat) (data : List Byte)
  -- conditions that end
  | pllLockRegained
  | refinRestored
  | railInWindow (rail mv : Nat)
  | vin48Return (mv10 : Nat)
  | iclkAgreement
  | pcieCorrectableError (err : AerBit)
deriving DecidableEq, Repr

end Sys2Proof
end

