-- ==== Sys2Proof/WellFormed.lean ====
section
/-!
DEFINITION. Which commands are well formed: their operands lie in the ranges the spec gives the things they name. `exec` gives an ill-formed
command the meaning of an access to nothing; these checks let a statement say which operands name something.
-/
namespace Sys2Proof

/-- Function numbers (R252), I/O queues (R253), commit slots (R77), fast lanes, tiles, loop engines, fault sources. -/
def okFn (n : Nat) : Bool := decide (n < 16)
def okQueue (n : Nat) : Bool := decide (n < 64)
def okSlot (n : Nat) : Bool := decide (n < 16)
def okLane (n : Nat) : Bool := decide (n < 128)
def okTile (n : Nat) : Bool := decide (n < 336)
def okLe (n : Nat) : Bool := decide (n < 352)
def okSrc (n : Nat) : Bool := decide (n < 96)
/-- Cell, actuator and monitor addresses that are not holes of the address space (R19, R20). -/
def okCa (n : Nat) : Bool := decide (n < 32768)
def okAa (n : Nat) : Bool := decide (n < 131072)
def okMpa (n : Nat) : Bool := decide (n < 65536)

/-- The BARs, with their sizes (R250, R440, R447, R450). -/
def okBar (n : Nat) : Bool := n == 0 || n == 2 || n == 4
def barSize (n : Nat) : Nat := if n = 0 then 0x100000 else if n = 2 then 0x4000000 else 4096

/-- Operands within the ranges of the spec. -/
def Instr.wf : Instr → Bool
  | .sqTail fn q _ _ | .cqHead fn q _ _ => okFn fn && okQueue q
  | .qctlEnable fn q _ _ _ | .qctlDisable fn q _ _ _ | .resume fn q _ _ _ | .flush fn q _ _ _ => okFn fn && okQueue q
  | .aqSqTail fn _ _ | .aqCqHead fn _ _ | .evtHead fn _ _ | .telHead fn _ _ | .irqRearm fn _ _ => okFn fn
  | .commandFetch a q _ _ _ _ | .abortComplete a q => if a then okFn q else okQueue q
  | .completionTimeout r _ _ | .hostReadFailure r _ _ _ => (match r with
      | .io q => okQueue q
      | .admin f => okFn f
      | .refill => true)
  | .create fn q _ => okFn fn && okQueue q
  | .connectBatch q | .attenSet q | .fence q | .queryConn q | .calRun q | .snapshot q | .cellDirect q | .loopMode q | .nop q
  | .routeJobStart q => okQueue q
  | .queueCreate fn | .queueDelete fn | .abort fn | .domainSet fn | .fwActivate fn | .islandRead fn | .flr fn
  | .flrComplete fn | .adminAbortEnd fn => okFn fn
  | .msixUnmask m => okFn m.fn
  | .seqLoad x => okQueue x.q
  | .pcieCorrectableError e => okFn e.fn && decide (e.bit < 32)
  | .adminQueueEnable fn t _ | .adminQueueDisable fn t _ | .eventRingEnable fn t _ | .eventRingDisable fn t _ => okFn fn && okFn t
  | .routeJobComplete s | .heldBatchRerun s | .stagingComplete s | .rollbackCommit s | .rollRampStart s
  | .releaseCommit s => okSlot s
  | .verificationWindowClose s _ => decide (s < 528)
  | .settleWindowEnd ca | .handoverEnd ca | .demodulatorWindowFull ca | .lockDeclared ca | .lockLost ca | .regionChange ca | .cellUnlit ca
  | .cellLit ca | .wrapTaken ca => okCa ca
  | .leFailure k _ | .leRejoin k _ => okLe k
  | .takeover t | .takeoverComplete t | .lptWriteBack t | .calTileStart t | .calWindowEnd t _ | .spareWaitTimeout t | .calApply t
  | .calReturn t => okTile t
  | .spareReq fn k _ | .returnReq fn k _ => okFn fn && okLe k
  | .conversionResult m c _ _ _ => okMpa m && decide (c < 65536)
  | .windowTransition m => okMpa m
  | .go fn k _ | .cancel fn k _ => okFn fn && decide (k < 8)
  | .injectedResult k c _ => decide (k < 8) && decide (c < 65536)
  | .claim fn l _ | .claimClear fn l _ | .arm fn l _ => okFn fn && okLane l
  | .captureComplete l _ _ => okLane l
  | .metWrite fn m _ | .mrtValueRead fn m => okFn fn && okMpa m
  | .ditherAmplitudeChange aa | .driveFault _ aa => okAa aa
  | .force fn n _ | .latchedClear fn n _ | .outClear fn n _ => okFn fn && okSrc n
  | .quietPeriodEnd n _ => okSrc n
  | .islandSample t _ => decide (t < 1024)
  | .unclaimedOpen o => decide (o < 512)
  | .sensorUpdate n _ _ => okLe n
  | .seqBind fn l _ => okFn fn && decide (l < 4)
  | .unbind l => decide (l < 4)
  | .segmentFilled g _ => decide (g < 64)
  | .syncPulseEnd x => decide (x < 4)
  | .vfRemoval n | .vfEnable n => decide (n ≤ 15)
  | .railOutOfWindow r _ | .railInWindow r _ => decide (r < 6)
  | .masterStall m fn => decide (m < 9) && okFn fn
  | .devicePlaneCommit i | .planeRestoreCommit i => decide (i < 512)
  | .token c b => decide (c < 20) && decide (b.length ≤ 239)
  | .configWrite b => decide (b.length ≤ 240)
  | .read n => decide (1 ≤ n) && decide (n ≤ 241)
  | .aggTime r q => decide (r < 2) && (if r = 0 then okQueue q else okFn q)
  | .pmcLiveRead fn | .pmcLiveWrite fn _ _ _ | .snap fn _ | .clearAll fn _ | .glbCtlLock fn _ | .telemetryEnable fn _ | .lptWrite fn _ _
  | .patternWrite fn _ _ _ _ | .shapeLoad fn _ | .toneApply fn _ | .run fn _ | .stop fn _ | .jump fn _ | .refillEnable fn _ | .swBlank fn _
  | .fltCtlLock fn _ | .srcChange fn _ | .timEpochReset fn _ | .step fn _ | .timStepForce fn _ | .chalReq fn _ | .submit fn _ _ _ | .relock fn _
  | .dawnReq fn _ | .duskReq fn _ => okFn fn
  | .captureRead fn bar off n => okFn fn && (okBar bar || bar == 7) && decide (1 ≤ n) && decide (n ≤ 4096) && decide (off + n ≤ barSize bar)
  | .registerWrite fn bar off data =>
    okFn fn && (okBar bar || bar == 7) && decide (1 ≤ data.length) && decide (data.length ≤ 4096) && decide (off + data.length ≤ barSize bar)
  | .rcRead fn off n => okFn fn && decide (1 ≤ n) && decide (off + n ≤ 0x100000)
  | .telemetryRecord | .laneReservation | .midnight | .attenTargetApply | .loopModeApply | .snapshotRecord | .abortCut | .perstN | .perstNRelease
  | .linkDown | .linkUp _ _ _ | .vfTeardownComplete | .supervisorRestart _ | .supervisorRestartEnd | .tick _ _ _ _ | .fastPeriod | .parameterLoad
  | .shapeLoadComplete | .tonePlanChange | .sampleBoundary | .iterationBoundary | .segmentReady | .syncin | .store | .storeComplete _
  | .storeRetry | .interpolation | .fatalRecoveryTimeout | .blankNAssert _ | .blankNDeassert | .blankStage2 | .blankRelease | .errNPulseEnd
  | .ppsIn | .todFrame _ _ | .ptmExchange | .ptmResponse _ _ | .sourceLost | .ppsOut | .todTx | .snapshotLinkDelta _ _ _ _ _ | .fullMap _
  | .linkSilence | .split | .blockSigning | .checkpoint | .islandStart | .clockCheck | .islandHeartbeat | .heartbeatLoss | .islandReply
  | .identify | .lastResult | .seek _ _ | .ack _ | .timeSet _ | .challenge | .sealOp _ | .getVersion _ _ | .getCapabilities _ _
  | .negotiateAlgorithms _ _ | .getDigests _ _ | .getCertificate _ _ | .spdmChallenge _ _ | .getMeasurements _ _ | .keyExchange _ _ | .finish _ _
  | .heartbeat _ _ | .endSession _ _ | .heartbeatTimeout _ | .dbgChal | .dbgToken _ | .jtagInstructionLoad _ | .vin48Good _ _ | .dawnStepEnd _
  | .duskStepEnd | .vinWarn _ | .vin48Low _ | .uvlo _ | .vin48High _ | .pllLockLoss | .refinLoss | .powerMean _ _ | .permitSense | .dumpComplete
  | .pllLockRegained | .refinRestored | .vin48Return _ | .iclkAgreement => true

end Sys2Proof
end

