-- ==== Sys2Proof/Decode.lean ====
section
/-!
DEFINITION. The table of operations and events gives its rows no bits, so no word spells a command (log entry 1).
-/
namespace Sys2Proof

/-- The command that a word of nbits bits spells by the table's bits: none, since no row has bits. -/
def decodeTableWord (_nbits _w : Nat) : Option Instr := none

end Sys2Proof
end

