-- ==== Sys2Proof/Config.lean ====
section
/-!
DEFINITION. What one part fixes (its one-time and factory contents) and the values the spec leaves open. Every constant here is opaque:
nothing in Lean can evaluate it, so a claim that mentions one holds for every part. Log entries 4 to 8 list them.
-/
namespace Sys2Proof.Config

/-- SERIAL, from OTP (R444). -/
opaque serial : BitVec 128
/-- GLB_STRAP.VARIANT_S, from OTP (R3, R444). -/
opaque variantS : Bool
/-- NVM_FACT_ID, the identifier of the factory set (R246). -/
opaque factId : Word
/-- SHA3-512 of the key the OTP holds in each of the four key slots (R385). -/
opaque keyDigest : Nat → BitVec 512
/-- Does the factory region's signature verify (R226)? -/
opaque factoryGood : Bool
/-- A factory gain-set word, signed Q7.24: index 256 × TN + 16 × set + word (R122). -/
opaque factoryGain : Nat → Int
/-- A sample s_k of factory pre-emphasis shape n at index 32n + k, signed 8 bits (R201, R202). -/
opaque factoryShape : Nat → Int
/-- Factory cell coefficient: set 0 to 4, CA, field by number, as `Sys2Proof.Machine.cellCoeffAt` numbers them (R225, R245). -/
opaque factoryCell : Nat → Nat → Nat → Int
/-- Factory monitor coefficient: set, MPA, field (0 to 2 DARK, 3 RESP, 4 K_TAP, 5 to 7 G) (R245). -/
opaque factoryMon : Nat → Nat → Nat → Int
/-- Factory fast-lane coefficient: set, lane, field (0 OFFSET, 1 GAIN) (R245). -/
opaque factoryFl : Nat → Nat → Nat → Int
/-- AA of κ neighbour number j of an actuator; calibrated with KAPPA (R120, R224). -/
opaque neighbour : Nat → Nat → Nat
/-- Calibrated loss of the light path IN, OUT, plane, in 2^-16 dB: the spec builds the expected level from it and gives it no record (R89). -/
opaque pathLoss : Nat → Nat → Bool → Int
/-- SHA3-512, named by the spec and defined outside it (R391). Bytes in order. -/
opaque sha3 : List Byte → BitVec 512
/-- ML-DSA-87 signing by the device identity key and by the island key (R357, R381). -/
opaque sign : Bool → List Byte → List Byte
/-- Digest of the device identity key (R241, R381). -/
opaque identityKey : BitVec 512
/-- ML-DSA-87 verification: digest of the public key, message, signature (R384, R375, R395). -/
opaque verify : BitVec 512 → List Byte → List Byte → Bool
/-- Digests of the approval authority key (island OTP, R375) and of the debug authority key (R395). -/
opaque authority : Bool → BitVec 512
/-- The bundle that an image slot holds as manufactured (R386). -/
opaque imageBytes : Nat → List Byte
/-- Versions that a part runs whose preferred bundle has no component of a type: 1 supervisor, 2 LE microcode. -/
opaque imageUnstated : Nat → Word
/-- SHA3-512 of the mask ROM, and of the factory region (R393). -/
opaque romDigest : Bool → BitVec 512
/-- SPDM and measurement payload bytes: the SPDM 1.3 specification forms them, not this manual (R391, R393). -/
opaque spdmBody : Nat → List Byte
/-- APPROVAL_ID of the island (R376). -/
opaque approvalId : BitVec 256
/-- FW_VERSION of the island's mask ROM, and SHA3-512 of the ROM with its patches (R376). -/
opaque islandFw : Word
/-- SHA3-512 of the island's mask ROM with its applied OTP patches (R376). -/
opaque islandRom : BitVec 512
/-- SHA3-512 of calibration and configuration of the island, after what CONFIG_WRITE has written (R376). -/
opaque islandCfgDigest : List (List Byte) → BitVec 512
/-- SPLIT_MIN, BLOCK_MAX and ACK_SRC that the writes of CONFIG_WRITE set: their format is not exchanged with users (R375). -/
opaque islandConfig : List (List Byte) → Nat × Nat × Bool
/-- Does the island's self-test pass at its start (R374)? -/
opaque islandSelfTest : Bool
/-- Fields and results of the island for which the spec states no value: which one, and an operand. -/
opaque islandUnstated : Nat → Nat → DWord
/-- DER certificate chains: false the device's, true the island's (R357, R381). -/
opaque certChain : Bool → List Byte
/-- A fresh value for the model's counter of fresh values: challenges, undefined memory, an unstated bit (log entry 4). -/
opaque fresh : Nat → BitVec 256
/-- Is a BLANK_N pulse between 5 and 10 ns accepted? The filter is undefined there (R330). -/
opaque pulseAccepted : Nat → Bool
/-- t_Z in ns: how long a heater driver, by its AA, is high-impedance for its range change at the tick boundary of a TB2; at most 40 (R198). -/
opaque rangeGap : Nat → Nat → Nat
/-- Dither amplitude the device gives an actuator, 2^-16 turn, less one: AMPL is read-only and the spec states no value (R120, R134). -/
opaque ditherAmpl : Nat → Nat
/-- The value of a control law where the spec states none: division by a zero sum of coefficients or by a zero gradient reference (log entry 5). -/
opaque lawUnstated : Nat → Int → Int

end Sys2Proof.Config
end

