-- ==== Sys2Proof/Machine/Tab.lean ====
section
/-!
DEFINITION. Sparse tables and the addressed buffers, both as lists in ONE canonical form: keys strictly rising and no entry equal to what
an unlisted key reads as. Equal contents are equal data.
-/
namespace Sys2Proof.Machine

/-- A sparse table by number: what a key that is not listed holds is the table's default, given at each read. -/
abbrev Tab (α : Type) := List (Nat × α)

/-- The entry of key k, or the default. -/
def Tab.get {α : Type} (d : α) : Tab α → Nat → α
  | [], _ => d
  | (k', v) :: t, k => if k' = k then v else Tab.get d t k

/-- Set key k to v, keeping the keys rising; an entry equal to its default is not listed. -/
def Tab.set {α : Type} [DecidableEq α] (d : α) : Tab α → Nat → α → Tab α
  | [], k, v => if v = d then [] else [(k, v)]
  | (k', w) :: t, k, v =>
    if k' < k then (k', w) :: Tab.set d t k v
    else if v = d then (if k' = k then Tab.set d t k v else (k', w) :: Tab.set d t k v)
    else if k' = k then (k, v) :: t
    else (k, v) :: (k', w) :: t

/-- Change the entry of key k by a function. -/
def Tab.mod {α : Type} [DecidableEq α] (d : α) (t : Tab α) (k : Nat) (f : α → α) : Tab α :=
  t.set d k (f (t.get d k))

/-- Set every key of a list to the value a function gives. -/
def Tab.setAll {α : Type} [DecidableEq α] (d : α) (t : Tab α) (ks : List Nat) (f : Nat → α) : Tab α :=
  ks.foldl (fun u k => u.set d k (f k)) t

/-- Change the entries of keys given in rising order, in one pass. -/
def Tab.modMany {α : Type} [DecidableEq α] (d : α) (f : Nat → α → α) : List Nat → Tab α → Tab α
  | [], t => t
  | k :: ks, t =>
    let (pre, rest) := t.span (fun e => decide (e.1 < k))
    let (old, rest) := match rest with
      | (k', v) :: r => if k' = k then (v, r) else (d, rest)
      | [] => (d, [])
    let v := f k old
    if v = d then pre ++ Tab.modMany d f ks rest else pre ++ (k, v) :: Tab.modMany d f ks rest

/-- Change every listed entry. -/
def Tab.mapVals {α : Type} [DecidableEq α] (d : α) (f : Nat → α → α) (t : Tab α) : Tab α :=
  t.filterMap (fun p => if f p.1 p.2 = d then none else some (p.1, f p.1 p.2))

/-- The keys that are listed. -/
def Tab.keys {α : Type} (t : Tab α) : List Nat := t.map (·.1)

/-- The canonical form of a table: keys strictly rising, no listed default. -/
def Tab.wf {α : Type} [DecidableEq α] (d : α) : Tab α → Bool
  | [] => true
  | [(_, v)] => decide (v ≠ d)
  | (k, v) :: (k', v') :: t => decide (k < k') && decide (v ≠ d) && Tab.wf d ((k', v') :: t)

/-- What a byte of an addressed buffer reads as before anything has written it (log entry 9). -/
def blankByte : Byte := 0

/-- Read one byte of an addressed buffer. -/
def Memory.read (m : List (Nat × Byte)) (a : Nat) : Byte := Tab.get blankByte m a

/-- Write one byte. -/
def Memory.write (m : List (Nat × Byte)) (a : Nat) (b : Byte) : List (Nat × Byte) := Tab.set blankByte m a b

/-- Write bytes at consecutive addresses, the first at `a`. -/
def Memory.writeBytes (m : List (Nat × Byte)) (a : Nat) : List Byte → List (Nat × Byte)
  | [] => m
  | b :: bs => Memory.writeBytes (Memory.write m a b) (a + 1) bs

/-- Read n bytes from a, as a little-endian number. -/
def Memory.readNat (m : List (Nat × Byte)) (a : Nat) : Nat → Nat
  | 0 => 0
  | n + 1 => (Memory.read m a).toNat + 256 * Memory.readNat m (a + 1) n

/-- The canonical form of an addressed buffer. -/
def Memory.wf (m : List (Nat × Byte)) : Bool := Tab.wf blankByte m

/-- The bytes of a number, least significant first. -/
def bytesLE (v : Nat) : Nat → List Byte
  | 0 => []
  | n + 1 => BitVec.ofNat 8 v :: bytesLE (v / 256) n

/-- Bytes lo to lo + n − 1 of a byte string as a number, least significant first. -/
def leField (bs : List Byte) (lo n : Nat) : Nat := ((bs.drop lo).take n).foldr (fun b v => b.toNat + 256 * v) 0

/-- Bits [lo + w - 1 : lo] of a number. -/
def fieldOf (v lo w : Nat) : Nat := v / 2 ^ lo % 2 ^ w

/-- Put an element into a sorted list, before those it may precede. -/
def insertBy {α : Type} (le : α → α → Bool) (x : α) : List α → List α
  | [] => [x]
  | y :: ys => if le x y then x :: y :: ys else y :: insertBy le x ys
/-- A list sorted; equal elements keep their order. -/
def sortBy {α : Type} (le : α → α → Bool) (l : List α) : List α := l.foldr (insertBy le) []

/-- Bit n of a number. -/
def bitOf (v n : Nat) : Bool := v / 2 ^ n % 2 == 1

/-- 1 or 0. -/
def b2n (b : Bool) : Nat := if b then 1 else 0

/-- A Nat held within [lo, hi]. -/
def clampN (x lo hi : Nat) : Nat := max lo (min x hi)

/-- An Int held within [lo, hi]. -/
def clampI (x lo hi : Int) : Int := max lo (min x hi)

/-- A bit vector's value as a signed number, of a field w bits wide. -/
def signedOf (v w : Nat) : Int := if v % 2 ^ w < 2 ^ (w - 1) then (v % 2 ^ w : Nat) else ((v % 2 ^ w : Nat) : Int) - ((2 ^ w : Nat) : Int)

/-- The two's complement of a signed number in w bits. -/
def twos (x : Int) (w : Nat) : Nat := (x % ((2 ^ w : Nat) : Int)).toNat

/-- A counter of w bits that stops at its top. -/
def satAdd (x n w : Nat) : Nat := min (x + n) (2 ^ w - 1)

end Sys2Proof.Machine
end

