-- ==== Sys2Proof/Machine/State.lean ====
section
/-!
DEFINITION. The state of the block, all of it, as plain data. Every field's default is its value in `State.reset`: Dawn has just reached
D0 on a part that has never run before (R408, R443). A table lists only what differs from its default; the default is its reset value.
-/
namespace Sys2Proof.Machine

/-- No command of this block stops the machine: the spec gives each of them an effect or names what is ignored. Nobody raises this. -/
inductive Fault where
  /-- Raised by nobody. -/
  | none
deriving DecidableEq, Repr

/-- Why the model has no meaning for a command. -/
inductive Refusal where
  /-- Raised by an arm of `exec` that has no meaning yet, by mnemonic. Safe: nothing is claimed of it. -/
  | notModelled (mnemonic : String)
deriving DecidableEq, Repr

/-- Switch states a cell can be recorded in (R12, R25). -/
inductive Sw where
  | bar | cross | split
deriving DecidableEq, Repr

/-- CONSTRAINT of a switch cell (R25). -/
inductive Cons where
  | free | forcedBar | forcedCross
deriving DecidableEq, Repr

/-! ## The connection map: changed by commits alone (R75) -/

/-- One connection of the map: IN to OUT, or to OUT and OUT2 while bridged or rolling (R31, R39). -/
structure Conn where
  inp : Nat := 0
  out : Nat := 0
  out2 : Option Nat := none
  pinned : Bool := false
  /-- The plane in which a device plane commit holds the input VOA DARK: false A, true B (R97). -/
  dark : Option Bool := none
deriving DecidableEq, Repr

/-- The map, the recorded switch states (one per twin pair, keyed by the plane A address, R11) and the ESNs that changed them. -/
structure Net where
  /-- In ascending input order. -/
  conns : List Conn := []
  sw : Tab Sw := []
  /-- LAST_ESN of a cell, by CA (R25). -/
  esnCell : Tab Nat := []
  /-- LAST_ESN of an output, by port (R39). -/
  esnOut : Tab Nat := []
deriving DecidableEq, Repr

/-! ## Host interface -/

/-- A completion entry before its ring fields: R263, R264. -/
structure Comp where
  esn : Nat := 0
  dw2 : Nat := 0
  dw3 : Nat := 0
  dw4 : Nat := 0
  dw5 : Nat := 0
  status : Nat := 0
  defer : Bool := false
  late : Bool := false
  holdover : Bool := false
  cid : Nat := 0
deriving DecidableEq, Repr

/-- A command that has been fetched and whose completion is not written (R258, R289). -/
structure Cmd where
  idx : Nat := 0
  sqe : Sqe := 0
  payload : List DWord := []
  /-- It has passed from fetch to its unit. -/
  executed : Bool := false
  /-- It has taken effect (R297). -/
  effect : Bool := false
  done : Option Comp := none
  /-- The payload's read failed part-way (R220, R305). -/
  short : Bool := false
  /-- Completing it stalls the queue (R301). -/
  stalls : Bool := false
deriving DecidableEq, Repr

/-- Producer side of a ring of 32-byte entries in host memory: CQ, event ring, telemetry header ring (R254). -/
structure Ring where
  base : Nat := 0
  /-- Entries, a power of two; 0 while the ring is not in use. -/
  size : Nat := 0
  tail : Nat := 0
  head : Nat := 0
  phase : Bool := true
  /-- TB2 time of each entry not consumed, oldest first, and the age in µs that it was written under, 0 for none (R276, R288). -/
  ages : List (Nat × Nat) := []
  /-- The ring's leaf cause (R276). -/
  cause : Bool := false
deriving DecidableEq, Repr

/-- QM_Q_STAT.STATE (R288). -/
inductive QState where
  | none | disabled | enabled | stalled | aborting | enablePending
deriving DecidableEq, Repr

/-- Why a queue is being aborted, which fixes how the abort ends (R300, R308). -/
inductive AbortKind where
  /-- An ABORT command of the function's admin queue. -/
  | abort (fn : Nat)
  /-- QUEUE_DELETE. -/
  | delete (fn : Nat)
  /-- FLR, PERST_N, link loss, VF removal: writes nothing. -/
  | reset
  /-- Dusk (R320): ends as ABORT does, with no admin completion. -/
  | dusk
deriving DecidableEq, Repr

/-- The abort of one queue (R306). -/
structure Abort where
  kind : AbortKind := .reset
  /-- TB2 at abort start. -/
  start : Nat := 0
  /-- The tail in force at abort start. -/
  tail : Nat := 0
  /-- The cut, once fixed. -/
  cut : Option Nat := none
  /-- Its ABORTED_RANGE is written; the admin completion and the change of state are still to come. -/
  ranged : Bool := false
deriving DecidableEq, Repr

/-- An I/O queue pair and its QM registers (R288). -/
structure Queue where
  sqBase : Nat := 0
  cqBase : Nat := 0
  sqs : Nat := 0
  cqs : Nat := 0
  domain : Nat := 0
  qosW : Nat := 1
  startEn : Bool := false
  aggCount : Nat := 1
  aggTime : Nat := 0
  state : QState := .none
  createErr : Bool := false
  /-- SQ_HEAD: the next index to fetch. -/
  head : Nat := 0
  tail : Nat := 0
  cq : Ring := {}
  /-- Fetched and not completed, in ring order. -/
  cmds : List Cmd := []
  abort : Option Abort := none
  /-- RESUME with FLUSH: the flush tail (R304). -/
  flushTo : Option Nat := none
  /-- Instant of the last Midnight of this queue's batches, TB0 ns (R83). -/
  prevMidnight : Nat := 0
deriving DecidableEq, Repr

/-- The configuration space of one function as far as software writes it (R247, R275): Device Control and Device Control 2, the function mask of
MSI-X, and the AER capability. Places and resets are those of the PCI Express base specification (PRESUMED, log entry 123). -/
structure Cfg where
  devCtl : Nat := 0x2010
  devCtl2 : Nat := 0
  fnMask : Bool := false
  aerUnc : Nat := 0
  aerUncMask : Nat := 0
  aerUncSev : Nat := 0x00462030
  aerCor : Nat := 0
  aerCorMask : Nat := 0x2000
deriving DecidableEq, Repr

/-- Registers, rings and reset state of one function (R287). -/
structure Fn where
  aqSqBase : Nat := 0
  aqCqBase : Nat := 0
  aqSqs : Nat := 0
  aqCqs : Nat := 0
  aqEn : Bool := false
  aqActive : Bool := false
  aqHead : Nat := 0
  aqTail : Nat := 0
  acq : Ring := {}
  cmds : List Cmd := []
  /-- Admin commands of a disabled pair that have begun and end without a completion (R469). -/
  orphans : List Cmd := []
  evtBase : Nat := 0
  evtEs : Nat := 0
  evtEn : Bool := false
  evtActive : Bool := false
  evtAgg : Nat := 0
  evt : Ring := {}
  evtSeq : Nat := 0
  evtLost : Nat := 0
  lostFlag : Bool := false
  /-- MSI-X table entry, mask and pending bit (R275). -/
  msixAddr : Nat := 0
  msixData : Nat := 0
  msixMask : Bool := true
  msixPend : Bool := false
  cfg : Cfg := {}
  scratch : Nat := 0
  /-- The queues whose aborts the running ABORT or QUEUE_DELETE waits for, and what its ABORTED_RANGE completions cover (R308). -/
  waits : List Nat := []
  covered : Nat := 0
  /-- TB2 at which a Function Level Reset was received, while it runs (R313). -/
  flrAt : Option Nat := none
deriving DecidableEq, Repr

/-- Registers whose reset is 1 in every defined bit are held as the bits that software has cleared: leaf enables (R340). -/
structure View where
  /-- ATN_EN and ATN_PIN_EN (R340). -/
  en : Nat := 0xFFF
  pinEn : Nat := 0xE04
  /-- Leaf bits that are W1C, by register offset (R338). -/
  leaf : Tab Nat := []
  /-- Cleared bits of the leaf enable registers, by leaf offset. -/
  off : Tab Nat := []
deriving DecidableEq, Repr

/-- What the device sends out. The newest is first. -/
inductive Out where
  /-- A posted write to host memory: address and dwords (R255). -/
  | hostWrite (addr : Nat) (dws : List Word)
  /-- A posted write of bulk data: address, what it holds and its length in bytes (R274, R278). -/
  | hostBulk (addr : Nat) (data : List Byte)
  /-- The same with the Relaxed Ordering attribute (R274). -/
  | hostRelaxed (addr : Nat) (data : List Byte)
  /-- The MSI-X message of a function (R275). -/
  | msix (fn : Nat)
  /-- The answer of a register or table read. -/
  | readData (fn value : Nat)
  /-- A pin takes a level. -/
  | pin (name : String) (level : Bool)
  /-- Bytes of a frame on TOD_TX (R353). -/
  | tod (bytes : List Byte)
  /-- A PTM request (R354). -/
  | ptm
  /-- An SPDM response: transport and response code, and the bytes (R391). -/
  | spdm (doe : Bool) (code : Nat) (bytes : List Byte)
  /-- A reply of the island to its reader: status, then bytes (R377). -/
  | reader (status : Nat) (bytes : List Byte)
  /-- A JTAG answer. -/
  | tap (bytes : List Byte)
deriving DecidableEq, Repr

/-- A record in the telemetry bulk buffer whose header is not consumed: offset and padded length (R274). -/
structure Bulk where
  off : Nat := 0
  len : Nat := 0
deriving DecidableEq, Repr

/-- Telemetry (R271 to R274, R287). -/
structure Tel where
  hdrBase : Nat := 0
  bulkBase : Nat := 0
  hs : Nat := 0
  bs : Nat := 16
  en : Bool := false
  content : Nat := 7
  period : Nat := 1000
  ring : Ring := {}
  bulk : List Bulk := []
  bulkNext : Nat := 0
  seq : Nat := 0
  /-- Drops since the previous header, and TEL_STAT.DROPPED. -/
  dropNow : Nat := 0
  dropped : Nat := 0
deriving DecidableEq, Repr

/-- The captures of one function: words captured by reads of low words, by BAR0 offset (R104, R192, R356, R439), and the time word captured
by the last read of an MRT value word, with its MPA (R174). -/
structure Capture where
  words : Tab (Option Nat) := []
  mrt : Option (Nat × Nat) := none
deriving DecidableEq, Repr

/-- The host interface. -/
structure Io where
  queues : Tab Queue := []
  fns : Tab Fn := []
  views : Tab View := []
  tel : Tel := {}
  telRo : Bool := true
  linkUp : Bool := false
  linkGen : Nat := 0
  linkWidth : Nat := 0
  linkFlit : Bool := false
  numVfs : Nat := 0
  /-- VF Enable was set while removed VFs are torn down: NumVFs asked for (R316). -/
  vfHeld : Option Nat := none
  /-- TB2 at which the last VF removal started, while teardown runs. -/
  teardown : Option Nat := none
  /-- PERST_N is asserted. -/
  perst : Bool := true
  /-- Owner domain by side × 512 + port: side 0 inputs, 1 outputs (R35). -/
  owner : Tab Nat := []
  /-- DOM_DISTURB masks (R73). -/
  disturb : Tab Nat := []
  cap : Tab Capture := []
  /-- The last ATTN_N level driven (low is true). -/
  attn : Bool := false
  /-- Which views had a non-zero ATN_SUM after the last command. -/
  atnOn : List Nat := []
  out : List Out := []
deriving DecidableEq, Repr

/-! ## Faults, blank -/

/-- An instance of a contained or fatal source that awaits recovery (R328). -/
structure Inst where
  scope : Nat := 0
  /-- TB2 since which it has been quiet; none while a condition is present. -/
  since : Option Nat := none
  /-- The full reaction was carried out. -/
  full : Bool := false
deriving DecidableEq, Repr

/-- A fault source (R325, R339). A default entry means: as R324 gives it. -/
structure Src where
  /-- Scope identifiers whose real condition is present. -/
  conds : List Nat := []
  force : Bool := false
  latched : Bool := false
  real : Bool := false
  inj : Bool := false
  out : Bool := false
  recCnt : Nat := 0
  count : Nat := 0
  first : Nat := 0
  last : Nat := 0
  /-- TB2 of the recoveries that count for the window, newest first. -/
  recs : List Nat := []
  insts : List Inst := []
  /-- The scope of the forced condition. -/
  forceScope : Nat := 0
  /-- FLT_SRC_CFG [26:6] once written; none is the reset of R324. -/
  cfg : Option Nat := none
deriving DecidableEq, Repr

/-- FLT (R339) and the blank path. -/
structure Flt where
  src : Tab Src := []
  swBlank : Bool := false
  injEn : Bool := false
  injAct : Bool := false
  lock : Bool := false
  blankN : Bool := false
  extest : Bool := false
  blank : Bool := false
  stage2 : Bool := false
  releasing : Bool := false
  /-- TB2 at which blank became active, and at which its last cause ended. -/
  blankAt : Nat := 0
  causeEnd : Option Nat := none
  /-- TB2 deadline of the release's settle windows. -/
  releaseEnd : Nat := 0
  /-- The fatal state holds (R329). -/
  fatal : Bool := false
  /-- After the last fatal source has recovered: TB2 by which every lit cell must lock, and that source. -/
  relock : Option (Nat × Nat) := none
  blankCnt : Nat := 0
  fatalCnt : Nat := 0
  injScope : Nat := 0
  tsSel : Nat := 0
  errSw : Bool := false
  errPw : Nat := 10
  /-- TB2 end of the ERR_N pulse. -/
  errEnd : Option Nat := none
  permit : Bool := false
  errN : Bool := false
deriving DecidableEq, Repr

/-! ## Time -/

/-- Time bases and discipline (R341 to R356). -/
structure Tim where
  tb0 : Nat := 0
  tb0Frac : Nat := 0
  tb2 : Nat := 0
  src : Nat := 0
  autoStep : Bool := true
  forceAuto : Bool := false
  tol : Nat := 10
  /-- 0 FREE_RUN, 1 ACQUIRING, 2 LOCKED, 3 HOLDOVER, 4 STEP_PENDING. -/
  state : Nat := 0
  stepUsed : Bool := false
  epoch : Nat := 1
  disciplined : Bool := false
  set : Nat := 0
  rate : Int := 0
  /-- The frequency term F, in 2^-32 of the units of RATE (R471). -/
  freq : Int := 0
  offset : Int := 0
  hoTime : Nat := 0
  hoTotal : Nat := 0
  /-- ns of the present episode not yet counted as a second. -/
  hoFrac : Nat := 0
  hoTotFrac : Nat := 0
  outEn : Bool := false
  width : Nat := 100
  todEn : Bool := false
  inDly : Int := 0
  outAdv : Int := 0
  ptmPer : Nat := 10
  todAcc : Nat := 0
  todDisc : Nat := 0
  lastFlags : Nat := 0
  /-- FLAGS of the last valid frame (R355). -/
  validFlags : Nat := 0
  stepVal : Int := 0
  errUsed : Bool := false
  errRefused : Bool := false
  rejects : Nat := 0
  /-- The last PPS_IN edge: TB0 less IN_DLY, TB2, and whether a frame has named it. -/
  edge : Option (Int × Nat × Bool) := none
  /-- TB2 from which the silence of PPS_IN is counted. -/
  quietFrom : Nat := 0
  edgesBare : Nat := 0
  /-- SEQ of the last frame with good SYNC, VER and CRC. -/
  lastSeq : Option Nat := none
  /-- FORCE has been written in STEP_PENDING. -/
  forceNext : Bool := false
  lost : Bool := false
  utcOff : Nat := 0
  leap : Nat := 0
  quality : Nat := 0
  txSeq : Nat := 0
  /-- TB0 whole seconds output last on PPS_OUT and TOD_TX, and the second left out after a step. -/
  ppsLast : Nat := 0
  todLast : Nat := 0
  skipTo : Nat := 0
  ppsHighEnd : Option Nat := none
  ptmFails : Nat := 0
  ptmLastOk : Nat := 0
  ptmLast : Nat := 0
  /-- PTM Enable and Root Select are set in the PTM capability; an exchange is outstanding. -/
  ptmEn : Bool := false
  ptmOut : Bool := false
  /-- TB2 of the last tick and fast period that have run, plus one; 0 before the first. -/
  tickDone : Nat := 0
  fastDone : Nat := 0
deriving DecidableEq, Repr

/-! ## Fabric: cells, loops, tiles, loop engines -/

/-- A pre-emphasis shape that a fast driver plays: TB2 of the DCLK edge, the offset of R84 in units of 62.5 ps, the signed current before the
edge in 2^-16 of a code, and the bank it is taken from (R84, R201, R202). -/
structure Wave where
  edge : Nat := 0
  delay : Nat := 0
  old : Int := 0
  bank : Bool := false
deriving DecidableEq, Repr

/-- A cell (R25, R132, R144, R149 to R155). Phases are turns in Q24. -/
structure Cell where
  region : Nat := 0
  /-- Lock declared (R146). -/
  locked : Bool := false
  settling : Bool := false
  /-- TB2 end of the settle window at the latest; once it has ended, TB2 of its end, or of the release of a roll over the cell. -/
  settleEnd : Nat := 0
  handover : Bool := false
  /-- TB2 at which the demodulator window is full again. -/
  demodAt : Option Nat := none
  /-- The power test of R132 reads lit. -/
  power : Bool := false
  /-- The VOA is held DARK (R16, R67, R97): its target state. -/
  dark : Bool := true
  attenAct : Nat := 0
  /-- Set-point A_ref, dB in Q7.24 (R131). -/
  aRef : Int := 0
  /-- HP's absolute phase target and the estimate φ̂_th. -/
  phiTgt : Int := 0
  phiTh : Int := 0
  fTrim : Int := 0
  /-- F's output, what its driver is commanded, and what it takes at the next fast period (R109). -/
  f : Int := 0
  fDue : Option Int := none
  /-- After a lane has let F go: TB2 of that, and the signed code that F keeps until the next fast period (R211). -/
  heldI : Option (Nat × Int) := none
  /-- s[μ] of R149: true is +1, and |e_F| of the last period; −1 before the first. -/
  sgn : Bool := true
  eF : Int := 0
  shape : Nat := 0
  wrapping : Bool := false
  /-- Linear ramp of a roll: TB2 start, TB2 end, phase at start, phase at end (R152). -/
  ramp : Option (Nat × Nat × Int × Int) := none
  /-- In CAL (R233). -/
  cal : Bool := false
  /-- The fast driver, and the heater drivers, are high-impedance (R204). -/
  hzF : Bool := false
  hzH : Bool := false
  /-- The F table of an earlier temperature is kept until handover ends (R229). -/
  fWait : Option Int := none
  /-- CONSTRAINT was set by the device and by nothing since (R323). -/
  devCons : Bool := false
  /-- Fault sources whose constraint waits for the cell to leave SPLIT. -/
  pendCons : List Nat := []
  /-- Slow lanes in fast mode by the settle window (R169): TB2 of the Midnight they entered it at, and of the end that came last. -/
  fast : Bool := false
  fastAt : Nat := 0
  fastOff : Nat := 0
  /-- Consecutive ticks that meet a condition: lock, loss, change of metric region, dark, light; fast periods that meet lock (R132, R145,
  R146); ticks tap 0 and tap 1 are OVER, the input is above P_IN or below −40 dBm (R324). -/
  nLock : Nat := 0
  nLoss : Nat := 0
  nMove : Nat := 0
  nDark : Nat := 0
  nLit : Nat := 0
  nFast : Nat := 0
  ovr : Nat := 0
  over1 : Nat := 0
  nHigh : Nat := 0
  nLow : Nat := 0
  /-- |d| at the start of the present run of fast periods of a two-path cell, Q24 (R146). -/
  dFast : Int := 0
  /-- ATTEN_SET asked for DARK by a slew to 25 dB, then a step (R156). -/
  toDark : Bool := false
  /-- TB2 since WRAP_PENDING, and since LIMITED, of R324's FS34 and FS35. -/
  wrapSince : Option Nat := none
  limSince : Option Nat := none
  /-- The demodulator's sliding window: the last 1,000 samples of the lock metric, newest first, with their µs within the millisecond (R134). -/
  demod : List (Nat × Int) := []
  wave : Option Wave := none
deriving DecidableEq, Repr

/-- A heater loop (R120, R138 to R142, R160). Powers are mW in Q24. -/
structure Loop where
  mode : Nat := 0
  limited : Bool := false
  /-- R110 skipped it in the last tick. -/
  skipped : Bool := false
  winner : Nat := 0
  wrapPending : Bool := false
  sat : Bool := false
  slewPh : Nat := 0x1000
  slewDb : Nat := 10000
  /-- CEIL as written; none is the reset of its kind. -/
  ceil : Option Nat := none
  integ : Int := 0
  d : Int := 0
  y : Int := 0
  v : Int := 0
  u : Int := 0
  w1 : Int := 0
  w2 : Int := 0
  w3 : Int := 0
  e1 : Int := 0
  e2 : Int := 0
  e3 : Int := 0
  /-- The slewed manual command and the command asked for, mW in Q24 (R156). -/
  manual : Int := 0
  code : Int := 0
  ampl : Nat := 0
  amplNext : Option Nat := none
  /-- Power amplitude of the dither in force, mW in Q24 (R134, R208). -/
  ap : Int := 0
  dither : Bool := false
  held : Nat := 0
  satCnt : Nat := 0
  /-- Mode before HOLD of a fatal fault (R161). -/
  prevMode : Option Nat := none
  /-- The next sample is preset by R162: 1 with the command in force, 2 from PARK, with the feed-forward. -/
  preset : Nat := 0
  /-- Gain set the loop used last (R147), plus one, 0 none; its KP, and the compensator coefficients used last. -/
  lastSet : Nat := 0
  lastKp : Int := 0
  lastC : List Int := []
  /-- What of a change of the feed-forward by calibration the slew limit has not yet let through, mW Q24 (R229). -/
  ffHold : Int := 0
  /-- Driver range: true HIGH (R197). -/
  high : Bool := false
  /-- TB2 of its last change of range, plus one; 0 none (R198). -/
  rangeAt : Nat := 0
  /-- Its driver has clamped in the tick in course (R196). -/
  clamped : Bool := false
  /-- Power code in force at the driver, and in the tick before (R112, R195). -/
  drv : Nat := 0
  /-- A power code that a shadow load puts in force at an SCLK update: its TB2, and the code (R81, R143, R150). -/
  drvNext : Option (Nat × Nat) := none
  drvPrev : Nat := 0
  /-- The RO words last written back (R121). -/
  wb : List Nat := []
deriving DecidableEq, Repr

/-- LE_STAT.STATE (R128). -/
inductive LeState where
  | own | lent | failed | moving | spareIdle | spareServing | unavailable
deriving DecidableEq, Repr

/-- Why a tile is served by a spare (R114). -/
inductive LeCause where
  | permanent | cal | request | microcode
deriving DecidableEq, Repr

/-- A loop engine (R128). Its state is a default of its kind where none. -/
structure Le where
  state : Option LeState := none
  partner : Nat := 0
  cause : Option LeCause := none
  spareReq : Bool := false
  returnReq : Bool := false
  budget : Nat := 160
  tileMap : Nat := 0x76543210
  loadLast : Nat := 0
  loadPeak : Nat := 0
  loadHeld : Nat := 0
  err : Nat := 0
  calActive : Bool := false
  /-- A takeover or return of this tile starts at the next tick boundary after TB2 = the number: to a spare, or back. -/
  pend : Option Nat := none
  back : Bool := false
  /-- TB2 of T_n of a move in progress, and what it ends in. -/
  moveAt : Option Nat := none
  /-- It runs older microcode than is in force (R127). -/
  oldUcode : Bool := false
  /-- Loops take the spare-takeover preset of R117 at completion. -/
  presetDue : Bool := false
  /-- TB2 from which the fast trims of the tile run again after such a move (R117). -/
  trimsFrom : Nat := 0
deriving DecidableEq, Repr

/-- A tile's own values (R122, R141, R142, R112). -/
structure Tile where
  kDer : Int := 16777216
  level : Int := 402653184
  /-- Temperature the coefficients in force were formed at, in 2^-4 °C; none before Dawn step D2 (R227). -/
  tUse : Option Int := none
  /-- Its LPT, GST or MET entry is uncorrectable: the loops HOLD (FS71). -/
  holdErr : Bool := false
  /-- Consecutive ticks in which a heater of the tile was clamped (R324). -/
  hrSat : Nat := 0
  /-- Fast-trim evaluations of the tick in course, and those skipped (R128). -/
  fastUsed : Nat := 0
  fastHeld : Nat := 0
deriving DecidableEq, Repr

/-- An entry waiting for its tick boundary at least 1 µs after the write (R124): TB2 of the write, and what is loaded. -/
inductive Load where
  /-- LPT words 2 and 3 of an actuator. -/
  | lpt (aa word value : Nat)
  /-- GST word. -/
  | gst (index value : Nat)
  /-- LE_TILE of an LE. -/
  | tile (k value : Nat)
deriving DecidableEq, Repr

/-- The fabric's control state. -/
structure Fab where
  cells : Tab Cell := []
  loops : Tab Loop := []
  les : Tab Le := []
  tiles : Tab Tile := []
  /-- CONSTRAINT, by plane A CA (R11). -/
  cons : Tab Cons := []
  /-- Stored attenuation target by side × 512 + port: 0 to 500, 511 DARK (R46). -/
  tgt : Tab Nat := []
  /-- β, dB in Q7.24, outputs whose balancing is disabled, and what a disabled β has left in the effective target of a plane, which returns under
  the slew limit, by 2 × output + plane (R158, R159). -/
  beta : Tab Int := []
  balOff : List Nat := []
  balRest : Tab Int := []
  /-- Gain set words that differ from the factory's once loaded (R122). -/
  gst : Tab (Option Int) := []
  gstLoaded : Bool := false
  loads : List (Nat × Load) := []
  /-- Written LPT words not yet loaded read back as written: by 16 × AA + word. -/
  lptW : Tab (Option Nat) := []
  rollRamp : Nat := 10
deriving DecidableEq, Repr

/-! ## Commit unit -/

/-- CMT_SLOT_STAT.STATE (R103). -/
inductive SlotSt where
  | free | routing | held | staging | staged | verifying | settling | rolling | rollback
deriving DecidableEq, Repr

/-- An edit of the map that a batch makes at its Midnight (R45, R72). -/
inductive Edit where
  | add (inp out : Nat) (pin : Bool)
  | remove (inp out : Nat)
  | bridge (inp out out2 : Nat)
  | roll (inp out out2 : Nat)
  | pin (inp out : Nat) (on : Bool)
deriving DecidableEq, Repr

/-- What CMT_CTL and CMT_VER say of a commit: TWIN_FAIL, LVL_TOL, ARR_MAX, MIN_IN. A write applies to commits whose Midnight follows it (R103). -/
structure VerLimits where
  twinKeep : Bool := false
  lvlTol : Nat := 20
  arrMax : Nat := 125
  minIn : Nat := 0xE2
deriving DecidableEq, Repr

/-- The result of a route job (R53, R79). Cell addresses are plane A. -/
structure Delta where
  edits : List Edit := []
  sw : List (Nat × Sw) := []
  cons : List (Nat × Cons) := []
  /-- OATT: output and target (R43). -/
  oatt : List (Nat × Nat) := []
  /-- Outputs of connections moved and not named (R49). -/
  moved : List Nat := []
  /-- Outputs whose path the commit creates, moves or bridges: verified (R87). -/
  checked : List Nat := []
  /-- Every plane A cell of the paths it creates or moves, and the VOA cells (R32, R51). -/
  foot : List Nat := []
  /-- SPLIT cells left by a collapse or an unreleased roll are in sw; bridges of the final map. -/
  bridges : Nat := 0
deriving DecidableEq, Repr

/-- What a rollback restores (R92). -/
structure Undo where
  conns : List Conn := []
  /-- Inputs the batch touched. -/
  inps : List Nat := []
  sw : List (Nat × Sw) := []
  cons : List (Nat × Cons) := []
  tgt : List (Nat × Nat) := []
deriving DecidableEq, Repr

/-- One commit slot with the batch behind it (R77, R103). -/
structure Slot where
  state : SlotSt := .free
  queue : Nat := 0
  domain : Nat := 0
  sched : Bool := false
  defer : Bool := false
  late : Bool := false
  holdover : Bool := false
  cid : Nat := 0
  /-- Intended Midnight, TB0 ns; 0 until staging has ended (R103). -/
  time : Nat := 0
  -- the batch
  idx : Nat := 0
  direct : Bool := false
  rbOnFail : Bool := false
  stopOnFail : Bool := false
  lateOk : Bool := false
  allowTwl : Bool := false
  commitTime : Nat := 0
  entries : List DWord := []
  delta : Delta := {}
  /-- What the route job found wrong, with its completion; whether phase 1 alone served it. -/
  bad : Option Comp := none
  phase1 : Bool := true
  /-- TB2 of the route job's start and of its end. -/
  t0 : Nat := 0
  ready : Nat := 0
  /-- The instant at or after which it commits, on the first DCLK edge, TB0 ns (R42, R83); while staging, as it is expected. -/
  due : Nat := 0
  /-- The batches, queue and index, that its route job took to be earlier (R50, R80). -/
  after : List (Nat × Nat) := []
  /-- The command it is held behind: queue and index. -/
  heldBy : Option (Nat × Nat) := none
  -- after Midnight
  esn : Nat := 0
  /-- TB2 of the last Midnight of this slot. -/
  mn : Nat := 0
  /-- CMT_CTL and CMT_VER as they stood at that Midnight (R103). -/
  ver : VerLimits := {}
  deferBy : Nat := 0
  rbDelta : Nat := 0
  undo : Undo := {}
  /-- Checked cells, both planes, whose lock is not decided. -/
  locks : List Nat := []
  /-- Changed cells whose settle windows have not ended. -/
  wait : List Nat := []
  /-- Cells that failed lock. -/
  lockFails : List Nat := []
  /-- Failures: output and plane bits 1 A, 2 B. -/
  fails : List (Nat × Nat) := []
  failFirst : Option (Nat × Nat) := none
  unver : List Nat := []
  /-- Plane A and plane B power of the input of each checked output, as measured in the tick before Midnight (R89). -/
  inputs : List (Nat × Int × Int) := []
  /-- Outputs of the verification in course that are not judged (R90), and inputs whose connections have been acted on as failed (R97). -/
  skip : List Nat := []
  acted : List Nat := []
  /-- The window's checks are decided. -/
  window : Bool := false
  lanes : List Nat := []
  failed : Bool := false
  rolledBack : Bool := false
  kept : Bool := false
  /-- Unreleased rolls: IN and whether the ramp has started and ended (TB2 end). -/
  rolls : List (Nat × Option Nat) := []
  rampUs : Nat := 10
  blankedKept : Bool := false
  /-- TB2 at which its failure was known, or its verification passed. -/
  knownAt : Nat := 0
  /-- The abort of its queue shortens ramps: TB2 of abort start (R307). -/
  abortAt : Option Nat := none
  /-- The mask for its edge is fixed (R306). -/
  masked : Bool := false
  /-- The shape bank and the shape selection its delta was staged with (R79, R202). -/
  bank : Bool := false
  shapeSel : Nat := 0x3210
deriving DecidableEq, Repr

/-- A device plane commit that waits for its edge (R97, R98): input, plane, dark or restore, the cell that failed lock, TB2 it was asked at. -/
structure PlaneJob where
  inp : Nat := 0
  plane : Bool := false
  restore : Bool := false
  failCa : Option Nat := none
  at2 : Nat := 0
deriving DecidableEq, Repr

/-- A device plane restore under verification (R98): the plane, its input VOA's lock and its window's checks, its fast lanes, the limits in
force at its Midnight, and the plane bits of its failures. -/
structure Restore where
  inp : Nat := 0
  plane : Bool := false
  mn : Nat := 0
  locked : Bool := false
  window : Bool := false
  lanes : List Nat := []
  ver : VerLimits := {}
  /-- The plane powers of its input in the tick before that Midnight (R89). -/
  inputs : List (Nat × Int × Int) := []
  failed : Nat := 0
deriving DecidableEq, Repr

/-- The commit unit (R103). -/
structure Cmt where
  tset : Nat := 0
  tsSrc : Bool := false
  asapRsv : Nat := 2
  ver : VerLimits := {}
  /-- The last ESN given, and TB0 of the most recent Midnight. -/
  esn : Nat := 0
  mn : Nat := 0
  slots : Tab Slot := []
  planes : List PlaneJob := []
  /-- Single-plane restores being verified, and the failed cell, if one is known, of each single-plane input. -/
  restoring : List Restore := []
  single : List (Nat × Option Nat) := []
deriving DecidableEq, Repr

/-! ## Monitors and fast lanes -/

/-- An MRT pair (R172) with its lane's range (R166). -/
structure Mrt where
  value : Int := 0
  tag : Nat := 0
  flags : Nat := 3
  time : Nat := 0
  range : Nat := 0
  /-- Consecutive results at or below half of the next lower range (R166). -/
  low : Nat := 0
  /-- Coefficients replaced at TB2 coAt, and what they make of the first window after (R177, R229). -/
  oldCo : List Int := []
  coAt : Nat := 0
  old : Option Int := none
  /-- The last tick result: TB2 of its T_n, value, OVER. -/
  tick : Option (Nat × Int × Bool) := none
  /-- T_n of the last regular window answered, of the last one displaced, and start of the last fast period answered; each plus one. -/
  nAt : Nat := 0
  dispAt : Nat := 0
  fAt : Nat := 0
deriving DecidableEq, Repr

/-- A MET entry (R178) with its comparator's count. -/
structure Met where
  low : Nat := 0
  high : Nat := 0
  ref : Nat := 0
  hyst : Nat := 0
  nq : Nat := 0
  en : Bool := false
  rel : Bool := false
  rng : Nat := 0
  state : Nat := 0
  count : Nat := 0
  /-- The side the count is for: 0 IN, 1 LOW, 2 HIGH. -/
  side : Nat := 0
  /-- A transition is due: the new STATE, and the value and time words of the deciding result. -/
  due : Option (Nat × Nat × Nat) := none
  /-- Written entries that wait, in order (R183): TB2 of the write, word 0, word 1. -/
  next : List (Nat × Nat × Nat) := []
deriving DecidableEq, Repr

/-- An injected-conversion slot (R194). -/
structure Inj where
  mpa : Nat := 0
  trig : Nat := 0
  fast : Bool := false
  go : Bool := false
  done : Bool := false
  displaced : Bool := false
  notDone : Bool := false
  /-- Its trigger has come, at TB2. -/
  triggered : Bool := false
  trigAt : Nat := 0
  val : Nat := 0xC0000000
  time : Nat := 0
deriving DecidableEq, Repr

/-- FL_STAT.STATE (R194). -/
inductive FlSt where
  | free | reserved | verify | claimed | armed | capturing | done
deriving DecidableEq, Repr

/-- A fast lane (R187 to R194). -/
structure Fl where
  tap : Nat := 0
  rangeSel : Nat := 3
  claim : Bool := false
  trig : Nat := 0
  arm : Bool := false
  pre : Nat := 0
  len : Nat := 15
  seqTrig : Nat := 0
  state : FlSt := .free
  claimPend : Bool := false
  tapBusy : Bool := false
  preShort : Bool := false
  aborted : Bool := false
  wrPtr : Nat := 0
  slot : Nat := 0
  /-- The tap attached, and its frozen range. -/
  att : Option Nat := none
  range : Nat := 0
  /-- TB2 of ARM, and of the trigger. -/
  armAt : Nat := 0
  trigTime : Nat := 0
  /-- It is out of the pool on a fault (R323). -/
  bad : Bool := false
  arrival : Nat := 0xFFFF
  settle : Nat := 0xFFFF
  final : Nat := 0
  rise : Nat := 0xFF
  tag : Nat := 0
  flags : Nat := 3
  /-- Calibrated offset and gain, and the tap's correction coefficients, used from this capture's start (R177, R229). -/
  co : Int × Int := (0, 0)
  tapCo : List Int := []
deriving DecidableEq, Repr

/-- MON and FL (R194). -/
structure Mon where
  winEn : Bool := true
  dnCount : Nat := 2
  mrt : Tab Mrt := []
  met : Tab Met := []
  inj : Tab Inj := []
  fl : Tab Fl := []
  /-- Output VOA cells whose tap 0 is checked from its slow lane: TB2 of the Midnight, plus one (R169). -/
  slowVer : Tab Nat := []
  /-- TB2 at which the last injected conversion of a point ended. -/
  injEnd : Tab Nat := []
deriving DecidableEq, Repr

/-! ## Drives and sequencer -/

/-- DRV (R222). -/
structure Drv where
  shapeLoad : Bool := false
  shapeSeg : Nat := 0
  /-- The segment that a shape load copies (R202). -/
  copySeg : Nat := 0
  toneApply : Bool := false
  armed : Bool := false
  bank : Bool := false
  hrSat : Bool := false
  hrailMv : Nat := 0
  /-- What the drivers measure of HRAIL at the fast periods to come, as TICK brought it, mV (R196). -/
  rail : List Nat := []
  shapeSel : Nat := 0x3210
  err : Nat := 0
  /-- Written plan, and plan in force, where it differs from 24 + t kHz. -/
  tone : Tab (Option Nat) := []
  toneOn : Tab (Option Nat) := []
  /-- The plan that waits for its millisecond boundary, which was checked at TONE_APPLY, and that boundary's TB2 (R207). -/
  toneNew : Tab (Option Nat) := []
  toneAt : Nat := 0
  /-- TB2 at which every lock loop may resume after a tone-plan change (R207). -/
  demodAt : Nat := 0
  /-- TB2 up to which the SCLK updates of the heater drivers have been looked at for clamps (R196). -/
  satTo : Nat := 0
  /-- The two shape banks: none holds the factory's, else 512 samples. -/
  bankA : Option (List Int) := none
  bankB : Option (List Int) := none
deriving DecidableEq, Repr

/-- A lane of the sequencer (R211). -/
structure Lane where
  aa : Nat := 0
  en : Bool := false
  bound : Bool := false
  /-- Its value, TB2 at which it was loaded, and the value in force at the SCLK update before that (R210). -/
  value : Nat := 0
  at2 : Nat := 0
  old : Nat := 0
  /-- TB2 of the write of EN = 0 (R211). -/
  offAt : Nat := 0
deriving DecidableEq, Repr

/-- A SYNC output (R216). -/
structure SyncOut where
  src : Nat := 0
  pw : Nat := 0
  inv : Bool := false
  /-- TB2 end of the pulse. -/
  endAt : Option Nat := none
deriving DecidableEq, Repr

/-- SEQ_STAT.STATE (R223). -/
inductive SeqSt where
  | stopped | waitTrig | running | underrun
deriving DecidableEq, Repr

/-- What follows the playing segment's iteration, from its decision point on (R212 to R214). -/
inductive SeqNext where
  | undecided | stop | again | go (seg : Nat)
deriving DecidableEq, Repr

/-- A SEQ_LOAD whose copy runs (R220): its command's queue and index, the segment, the number in pattern memory of the first sample to copy, and
how many have been written. -/
structure SegLoad where
  q : Nat := 0
  idx : Nat := 0
  seg : Nat := 0
  first : Nat := 0
  pos : Nat := 0
deriving DecidableEq, Repr

/-- SEQ (R223) and its playback (R212 to R219). -/
structure Seq where
  stopMode : Bool := false
  jumpSyncin : Bool := false
  startSeg : Nat := 0
  startTrig : Nat := 0
  state : SeqSt := .stopped
  ownerCal : Bool := false
  seg : Nat := 0
  tsAct : Nat := 0
  iter : Nat := 0
  target : Nat := 0
  jumpPend : Bool := false
  stopPend : Bool := false
  err : Nat := 0
  errAddr : Nat := 0
  under : Nat := 0
  rfEn : Bool := false
  rfWrap : Bool := false
  rfLen : Nat := 0
  rfAddr : Nat := 0
  rfPos : Nat := 0
  /-- The refill has stopped with its buffer exhausted (R219). -/
  rfStop : Bool := false
  fill : List Nat := []
  loads : List SegLoad := []
  /-- TB2 at which a segment last became ready (R219). -/
  readyAt : Nat := 0
  lanes : Tab Lane := []
  sync : Tab SyncOut := []
  segA : Tab Nat := []
  segB : Tab Nat := []
  /-- Timing-set entries by 38 × set + entry: values in force. -/
  ts : Tab Nat := []
  /-- Later writes, in order: TB2 of the write, entry, value. -/
  tsNext : List (Nat × Nat × Nat) := []
  /-- Sample being played, TB2 at which it started, and iterations played of this segment. -/
  sample : Nat := 0
  sampleAt : Nat := 0
  next : SeqNext := .undecided
  /-- The pending jump is the one that was chosen. -/
  jumpTaken : Bool := false
deriving DecidableEq, Repr

/-- The two addressed buffers: pattern memory in bytes from offset 0 (R209), and the capture buffers, 0x2000 bytes a lane (R190). -/
structure Mem where
  pattern : List Host.Cell := []
  fcb : List Host.Cell := []
deriving DecidableEq, Repr

/-! ## Calibration -/

/-- Deltas (R224, R245): cell, monitor, fast lane, in the units of the records. -/
structure CellDelta where
  bias : Int := 0
  hc : Int := 0
  sPturn : Nat := 0x8000
  sRhp : Nat := 0x8000
  sRhc : Nat := 0x8000
deriving DecidableEq, Repr

/-- A delta set. -/
structure DeltaSet where
  cell : Tab CellDelta := []
  dark : Tab Int := []
  flOff : Tab Int := []
  flGain : Tab Nat := []
deriving DecidableEq, Repr

/-- The commit record of a delta bank (R241). -/
structure BankRecord where
  gen : Nat := 0
  len : Nat := 0
  digest : BitVec 512 := 0
  sig : List Byte := []
deriving DecidableEq, Repr

/-- A delta bank of the NVM: GEN of its header, its payload, and its commit record; none while that is zero (R241, R242). -/
structure Bank where
  gen : Nat := 0
  set : DeltaSet := {}
  record : Option BankRecord := none
deriving DecidableEq, Repr

/-- What a calibration window gathers of an element, of a cell's taps or of a sensor (R236, R237): how many values, their sum, the sum of what goes
with them, the smallest and the largest, and the results that were missing. -/
structure CalStat where
  n : Nat := 0
  a : Int := 0
  b : Int := 0
  lo : Int := 0
  hi : Int := 0
  miss : Nat := 0
deriving DecidableEq, Repr

/-- A tile under calibration: the step it is in (R233). -/
structure CalTile where
  tn : Nat := 0
  /-- 2 takeover, 3 W1, 4 W2, 5 evaluated, 6 in a store, 7 stored, 8 applied and returning, 9 returning with the run ended. -/
  step : Nat := 0
  spare : Nat := 0
  /-- TB2 at which the window in course opened, or the step was entered. -/
  t0 : Nat := 0
  /-- What the window in course has gathered, and what W1 had, by 8 × address + kind; kind 6 is the taps of a cell and 7 a sensor. -/
  now : Tab CalStat := []
  w1 : Tab CalStat := []
  /-- Estimates of W1, none where there is none, and the lowest reason of R237 that an element has failed by, 0 none: by the same key. -/
  est : Tab (Option Int) := []
  bad : Tab Nat := []
  /-- The ESN when W1 opened. -/
  esn0 : Nat := 0
  /-- The sweeps of the window in course have ended. -/
  swept : Bool := false
  /-- Fast lanes measured with this tile, and the outputs of plane A for their gain and for their offset. -/
  lanes : List Nat := []
  outGain : Option Nat := none
  outDark : Option Nat := none
  /-- Changes accepted: kind, address, new delta words. -/
  accepted : List (Nat × Nat × List Int) := []
  /-- CAL_CTL.WIN and CAL_TOL as they stood when the tile started (R246). -/
  win : Nat := 10
  tolPh : Nat := 4
  tolSlope : Nat := 10
  tolDb : Nat := 5
  tolR : Nat := 5
deriving DecidableEq, Repr

/-- A CAL_RUN (R230). -/
structure CalRun where
  q : Nat := 0
  idx : Nat := 0
  report : Nat := 0
  reportMax : Nat := 0
  clear : Bool := false
  tiles : List Nat := []
  kinds : Nat := 0
  flMask : Nat := 0
  /-- Tiles not yet started, and active tiles. -/
  todo : List Nat := []
  active : List CalTile := []
  flTodo : List Nat := []
  accept : Nat := 0
  /-- Report entries: sort key and word. -/
  reports : List (Nat × Nat) := []
  /-- TB2 since which the next tile waits for a spare. -/
  waitFrom : Nat := 0
  /-- It has been ended by an abort or Dusk, and its lent tiles are still to return (R240). -/
  ended : Bool := false
deriving DecidableEq, Repr

/-- The HEATER_R sweeps of a tile in one window (R235, R236): heaters still to be swept; those being swept, with the command and the power code they
held before; and whether they are being swept for the second time. -/
structure Sweep where
  tn : Nat := 0
  todo : List Nat := []
  cur : List (Nat × Int × Nat) := []
  again : Bool := false
deriving DecidableEq, Repr

/-- CAL and NVM (R246). -/
structure Cal where
  win : Nat := 10
  spareWait : Nat := 100
  interpEn : Bool := true
  tolPh : Nat := 4
  tolSlope : Nat := 10
  tolDb : Nat := 5
  tolR : Nat := 5
  err : Nat := 0
  view : Nat := 2
  delta : DeltaSet := {}
  bankA : Bank := {}
  bankB : Bank := {}
  factValid : Bool := false
  storing : Bool := false
  /-- What the store in progress writes, and TB2 of its start. -/
  storeSet : DeltaSet := {}
  storeAt : Nat := 0
  pfAbort : Bool := false
  noDelta : Bool := false
  stores : Nat := 0
  /-- A store was abandoned on a power warning and is to be repeated; VIN48 back above the threshold at TB2. -/
  retry : Bool := false
  retryAt : Option Nat := none
  /-- The store in progress is a repeat. -/
  again : Bool := false
  run : Option CalRun := none
  sweep : Option Sweep := none
  waiting : List CalRun := []
  /-- Sensor temperature the fast lane's coefficients were formed at, in 2^-4 °C. -/
  flUse : Tab (Option Int) := []
deriving DecidableEq, Repr

/-! ## Measurement island: its own agent; no control-side command writes it (R358, R363) -/

/-- A connection as the island is told it, by output (R364). -/
structure Claim where
  inp : Nat := 0
  bridge : Bool := false
  /-- The sum of both stored targets, in 0.05 dB. -/
  atten : Nat := 0
deriving DecidableEq, Repr

/-- An open interval with its accumulators (R365 to R369). Powers are nW; an energy sum is nW·ms = pJ. -/
structure Interval where
  inp : Nat := 0
  tStart : Nat := 0
  esnStart : Nat := 0
  /-- TB0 of the start commit; none for a split or resync start. -/
  tb0Start : Option Nat := none
  openStart : Bool := false
  splitStart : Bool := false
  resync : Bool := false
  bridge : Bool := false
  ovr : Bool := false
  sealedAll : Bool := true
  eIn : Nat := 0
  eOut : Nat := 0
  /-- Σp² over the same samples. -/
  sqIn : Nat := 0
  sqOut : Nat := 0
  n : Nat := 0
  tSpec : Nat := 0
  tBlank : Nat := 0
  tDark : Nat := 0
  /-- Highest A_c, in 0.05 dB. -/
  aClaim : Nat := 0
  /-- Evaluated samples, consecutive inconsistent ones, and whether 100 of these have come (R367). -/
  evald : Nat := 0
  bad : Nat := 0
  contra : Bool := false
  /-- The input's and the output's last samples: TB1 millisecond and nW. -/
  pIn : Option (Nat × Nat) := none
  pOut : Option (Nat × Nat) := none
deriving DecidableEq, Repr

/-- An output that no claim names (R368): consecutive samples with light, and the open record's accumulators. -/
structure Unclaimed where
  count : Nat := 0
  isOpen : Bool := false
  tStart : Nat := 0
  eOut : Nat := 0
  sqOut : Nat := 0
  ovr : Bool := false
  splitStart : Bool := false
  sealedAll : Bool := true
deriving DecidableEq, Repr

/-- A block of the record store that has been begun (R370, R371). -/
structure Block where
  num : Nat := 0
  /-- The island's running time at which it was opened. -/
  openAt : Nat := 0
  /-- The 256 bytes of each record, in order. -/
  recs : List (List Byte) := []
  trailer : Option (List Byte) := none
deriving DecidableEq, Repr

/-- Records lost to a reserve (R373): those since the last GAP record with their E_OUT and span, all since the reserve began, and those lost
while the reserve is full, GAP_PENDING. -/
structure Gap where
  lost : Nat := 0
  energy : Nat := 0
  t0 : Nat := 0
  t1 : Nat := 0
  all : Nat := 0
  pend : Nat := 0
deriving DecidableEq, Repr

/-- The island (R357 to R380). -/
structure Isl where
  /-- The island is powered and has started; VIN48 has been below the lockout since. -/
  up : Bool := false
  dip : Bool := false
  tb1 : Nat := 0
  epoch : Nat := 0
  /-- CCLK edges since TB1 advanced, and the model's own count of the island's running time in ns, which nothing sets. -/
  sub : Nat := 0
  mono : Nat := 0
  /-- TB1 uncertain since the start, and on a clock disagreement (R362). -/
  uncStart : Bool := true
  uncClock : Bool := false
  addr : Nat := 0x58
  /-- Strobes seen, and their stamps: sequence number and TB1 (R363). -/
  strobe : Nat := 0
  fifo : List (Nat × Nat) := []
  /-- The blank copy, and TB1 of its last change (R363). -/
  blank : Bool := false
  blankAt : Nat := 0
  /-- The claimed map, by output. -/
  map : Tab (Option Claim) := []
  /-- The link is discarded until the next full map; the map has not come since the start; running time at the link's last message. -/
  deaf : Bool := true
  started : Bool := true
  lastLink : Nat := 0
  ivs : Tab (Option Interval) := []
  uncl : Tab Unclaimed := []
  /-- Millisecond of each tap's last sample, plus one. -/
  taps : Tab Nat := []
  next : Nat := 0
  ackNext : Nat := 0
  /-- SHA3-512 of the last record; zero before the first. -/
  chain : BitVec 512 := 0
  blocks : List Block := []
  /-- A reserve exists, and its block number. -/
  reserve : Bool := false
  reserveNum : Nat := 0
  gap : Gap := {}
  /-- Fuses blown since manufacture (R374). -/
  sealF : Nat := 0
  unsealF : Nat := 0
  splitMin : Nat := 60
  blockMax : Nat := 60
  ackSrc : Bool := true
  /-- What CONFIG_WRITE has written, in order. -/
  cfgData : List (List Byte) := []
  /-- The challenge and the running time until which it is valid. -/
  chal : Option (BitVec 256 × Nat) := none
  /-- The chunks of an authorisation token. -/
  token : Tab (List Byte) := []
  lastResult : Nat := 0
  /-- The reader's stream: the certificate chain instead of records; record INDEX, and byte within the unit. -/
  certs : Bool := false
  streamPos : Nat := 0
  streamOff : Nat := 0
  /-- The unit is the trailer that follows record streamPos − 1. -/
  inTrailer : Bool := false
  /-- The last checkpoint: running time, TB1, and what was open (R372). -/
  ckptAt : Nat := 0
  ckpt : Nat := 0
  ckptIvs : Tab (Option Interval) := []
  ckptUncl : Tab Unclaimed := []
  ckptGap : Gap := {}
  /-- TB1 of the last split, or at which it was last set. -/
  splitAt : Nat := 0
  /-- ISLAND events that wait for the next heartbeat: KIND, DW3, DW4, DW5. -/
  events : List (Nat × Nat × Nat × Nat) := []
deriving DecidableEq, Repr

/-- The MI registers: the last heartbeat's report (R380), with TB2 of its arrival. -/
structure Mi where
  evtEn : Bool := true
  nearFull : Nat := 16
  alive : Bool := false
  lastBeat : Nat := 0
  sealState : Nat := 0
  uncertain : Bool := false
  clockFault : Bool := false
  reserve : Bool := false
  hostAck : Bool := false
  free : Nat := 0
  next : Nat := 0
  ack : Nat := 0
  tb1 : Nat := 0
  gap : Nat := 0
  /-- ISLAND_READ requests in the mailbox, oldest first: function, or 16 after its reset, ring index, entry. -/
  reqs : List (Nat × Nat × Sqe) := []
deriving DecidableEq, Repr

/-! ## Security, power, clocks, temperature, matrix, counters, time of the rest -/

/-- What an FW_ACTIVATE found, which stands again where a restart of the supervisor cuts it short (R315): the staged bundle and the image slots, the
version of microcode and the loop engines with an older one, the delta banks and the set in force. -/
structure ActBefore where
  staged : Bool := false
  fwStaged : Nat := 0
  img0 : Option (List Byte) := none
  img1 : Option (List Byte) := none
  ucode : Nat := 0
  oldLes : List Nat := []
  delta : DeltaSet := {}
  bankA : Bank := {}
  bankB : Bank := {}
  pfAbort : Bool := false
  noDelta : Bool := false
  stores : Nat := 0
deriving DecidableEq, Repr

/-- An activation in progress (R127, R387): of PF0's admin command at an index. -/
structure Activation where
  idx : Nat := 0
  /-- Tiles whose own LE has still to be lent, and the one whose turn it is. -/
  todo : List Nat := []
  cur : Option Nat := none
  /-- Tiles that change at the next Dawn. -/
  deferred : Nat := 0
  /-- The supervisor restart of step 5 runs. -/
  restarting : Bool := false
  was : ActBefore := {}
deriving DecidableEq, Repr

/-- An SPDM session (R391, R392). -/
structure Session where
  /-- 0 none, 1 handshake, 2 established. -/
  state : Nat := 0
  /-- Heartbeat period in seconds, 0 for none, and TB2 by which a heartbeat must come. -/
  period : Nat := 0
  beat : Option Nat := none
deriving DecidableEq, Repr

/-- SEC (R396) and what it guards. -/
structure Sec where
  bootSlot : Bool := false
  fallback : Bool := false
  recovery : Bool := false
  staged : Bool := false
  doe : Session := {}
  mctp : Session := {}
  counter : Nat := 0
  revoked : Nat := 0
  /-- The bundles in the image slots; none is as manufactured. -/
  img0 : Option (List Byte) := none
  img1 : Option (List Byte) := none
  /-- The preferred slot. -/
  preferred : Bool := false
  fwActive : Nat := 0
  fwStaged : Nat := 0
  level : Nat := 0
  fails : Nat := 0
  lockout : Bool := false
  chal : BitVec 256 := 0
  /-- TB2 until which the challenge is valid. -/
  chalEnd : Option Nat := none
  tok : Nat := 0
  /-- A supervisor restart is in progress (R315): TB2 of its start. -/
  restart : Option Nat := none
  /-- An FW_ACTIVATE in progress, and admin commands that complete BLOCKED once the supervisor is up again: function, index. -/
  act : Option Activation := none
  blocked : List (Nat × Nat) := []
  /-- The version of LE microcode in force (R393). -/
  ucode : Nat := 0
  /-- The JTAG instruction in effect: 0 EXTEST, 1 SAMPLE/PRELOAD, 2 IDCODE, 3 BYPASS, 4 and above the others. -/
  jtag : Nat := 3
deriving DecidableEq, Repr

/-- PWR_STAT.PHASE (R416). -/
inductive Phase where
  | dawn | run | dusk | parked | stopped
deriving DecidableEq, Repr

/-- PWR, CLK (R416). -/
structure Pwr where
  phase : Phase := .dawn
  step : Nat := 0
  /-- TB2 at which the present step began. -/
  stepAt : Nat := 0
  halt : Nat := 0
  done : Bool := false
  vinWarn : Bool := false
  capWarn : Bool := false
  capAlarm : Bool := false
  vin : Nat := 0
  pin : Nat := 0
  peak : Nat := 0
  warn : Nat := 600
  alarm : Nat := 680
  vWarn : Nat := 4100
  dawnMs : Nat := 0
  duskUs : Nat := 0
  /-- TB2 of the Dusk request. -/
  duskAt : Nat := 0
  /-- Dusk was requested during Dawn. -/
  duskWait : Bool := false
  rails : Nat := 0
  pllLock : Bool := false
  refOk : Bool := false
  refSel : Bool := false
  strapId : Nat := 0
  lockLoss : Nat := 0
  /-- Consecutive means above, and below, each threshold. -/
  overW : Nat := 0
  underW : Nat := 0
  overA : Nat := 0
  underA : Nat := 0
  /-- Power is absent below the lockout. -/
  off : Bool := false
  supUp : Bool := false
  /-- TB2 of the last power mean, plus one. -/
  meanAt : Nat := 0
deriving DecidableEq, Repr

/-- A temperature sensor (R406), in 1/16 °C. -/
structure Sensor where
  temp : Int := 0
  valid : Bool := false
  goodRun : Nat := 0
  /-- It has updated since Dawn. -/
  seen : Bool := false
deriving DecidableEq, Repr

/-- THM (R416). -/
structure Thm where
  tDer : Nat := 140
  sel : Nat := 0
  sensors : Tab Sensor := []
deriving DecidableEq, Repr

/-- A performance counter (R431 to R435). -/
structure Ctr where
  value : Nat := 0
  en : Bool := true
  chain : Bool := false
  ovf : Bool := false
deriving DecidableEq, Repr

/-- PMC (R439). -/
structure Pmc where
  en : Bool := true
  snapReq : Bool := false
  dumping : Bool := false
  ovfLost : Bool := false
  idx : Nat := 0
  ctr : Tab Ctr := []
  /-- Snapshot values, OVF bits, and EN at the SNAP. -/
  snap : Tab Nat := []
  snapOvf : List Nat := []
  snapEn : Bool := false
  snapTb2 : Nat := 0
  snapTb0 : Nat := 0
  dumpDrop : Nat := 0
deriving DecidableEq, Repr

/-- BMX (R430). QOS is kept as written; none is its reset. -/
structure Bmx where
  decode : Bool := false
  stall : Bool := false
  decMaster : Nat := 0
  decTarget : Nat := 0
  stallMaster : Nat := 0
  addr : Nat := 0
  qos : Tab (Option Nat) := []
deriving DecidableEq, Repr

/-- A burst that a master has asked the bus matrix for and that has not ended (R418, R421). -/
structure Burst where
  /-- 0 to 8, and 9 for the inbound channel of M0 (R417). -/
  master : Nat := 0
  write : Bool := false
  target : Nat := 0
  addr : Nat := 0
  len : Nat := 0
  /-- Bytes whose sub-bursts have been granted. -/
  granted : Nat := 0
  /-- The arbitration point of the sub-burst in progress, and its beats still to come. -/
  point : Nat := 0
  beats : Nat := 0
  /-- CCLK cycles that its next sub-burst has waited at the head of its master's queue for its point (R419). -/
  wait : Nat := 0
  /-- A read of a submission entry for this I/O queue: outstanding until its completion has come over the link (R258, R428). -/
  fetch : Option Nat := none
  /-- Its master was reset meanwhile: what returns is discarded (R428). -/
  dead : Bool := false
deriving DecidableEq, Repr

/-- A weighted round-robin over the I/O queues (R258, R50): the queue served last, and one entry for each service of the present round. -/
structure Wrr where
  last : Nat := 63
  spent : List Nat := []
deriving DecidableEq, Repr

/-- What crosses the bus matrix: bursts in the order of their requests, and at each arbitration point the master granted last, by its place in the
round-robin order, for reads and for writes (R419, R423). -/
structure Traffic where
  bursts : List Burst := []
  last : List Nat := List.replicate 42 9
  /-- The round-robins of the queue manager and of the route engine. -/
  qm : Wrr := {}
  rte : Wrr := {}
deriving DecidableEq, Repr

/-- An ATTEN_SET that is executed: queue, index, entries (side × 512 + port, target), WAIT_SETTLED, and what is applied (R66, R68). -/
structure AttJob where
  q : Nat := 0
  idx : Nat := 0
  ents : List (Nat × Nat) := []
  wait : Bool := false
  applied : Bool := false
  superseded : Bool := false
  blanked : Bool := false
  at2 : Nat := 0
  /-- Entries not yet within the accuracy of their target. -/
  left : List Nat := []
deriving DecidableEq, Repr

/-- A LOOP_MODE that is executed and waits for its boundary (R164). -/
structure LmJob where
  q : Nat := 0
  idx : Nat := 0
  ents : List DWord := []
  at2 : Nat := 0
deriving DecidableEq, Repr

/-- A SNAPSHOT that waits for its trigger (R278). -/
structure SnapJob where
  q : Nat := 0
  idx : Nat := 0
  addr : Nat := 0
  len : Nat := 0
  trig : Nat := 0
  time : Nat := 0
  dom : Nat := 0
  at2 : Nat := 0
  /-- TRIG = 1: a Midnight has come since, at TB2. -/
  mn : Option Nat := none
deriving DecidableEq, Repr

/-- A telemetry or SNAPSHOT record taken and not yet written (R271, R278): what is latched at T_n, and what it is for. -/
structure Rec where
  /-- TB2 of T_n. -/
  t : Nat := 0
  time : Nat := 0
  esn : Nat := 0
  holdover : Bool := false
  /-- The SNAPSHOT it is for: queue, index, RESULT_ADDR and domain; none for a periodic record. -/
  cmd : Option (Nat × Nat × Nat × Nat) := none
  /-- It carries the counters of the SNAP of its boundary. -/
  counters : Bool := false
  /-- LOCKED and LIMITED of each tile, by TN, where the record has the section. -/
  lock : Option (List (Nat × Nat)) := none
  powers : Bool := true
  /-- The POWERS words, once the window that opens at T_n has ended. -/
  words : Option (List Nat) := none
deriving DecidableEq, Repr

/-- Commands of I/O queues that wait for an instant of their own, and records not yet written. -/
structure Jobs where
  att : List AttJob := []
  lm : List LmJob := []
  snap : List SnapJob := []
  recs : List Rec := []
deriving DecidableEq, Repr

/-- GLB_CTL (R445). -/
structure Glb where
  vfTimeEn : Bool := true
  lock : Bool := false
deriving DecidableEq, Repr

/-- Everything on the control side but the map and the addressed buffers. -/
structure Dev where
  io : Io := {}
  flt : Flt := {}
  tim : Tim := {}
  fab : Fab := {}
  cmt : Cmt := {}
  jobs : Jobs := {}
  mon : Mon := {}
  drv : Drv := {}
  seq : Seq := {}
  cal : Cal := {}
  mi : Mi := {}
  sec : Sec := {}
  pwr : Pwr := {}
  thm : Thm := {}
  pmc : Pmc := {}
  bmx : Bmx := {}
  mtx : Traffic := {}
  glb : Glb := {}
  /-- The model's own count of free values used (log entry 4). -/
  fresh : Nat := 0
deriving DecidableEq, Repr

/-- The state of the block and the commands that wait, first in, first out. -/
structure State where
  d : Dev := {}
  net : Net := {}
  mem : Mem := {}
  isl : Isl := {}
  pending : List Instr := []
deriving DecidableEq, Repr

/-- The machine right after reset: Dawn step D0 has started, every register at its reset value, the map empty (R408, R443). -/
def State.reset : State := {}

end Sys2Proof.Machine
end

