-- ==== Sys2Proof/Machine/Clock.lean ====
section
/-!
DEFINITION. The counters that the clocks advance: TB0, TB2 and TB1 (R341, R342, R361, R401), and the time spent in holdover (R344).
-/
namespace Sys2Proof.Machine

/-- TB0 after one CCLK edge: 1 ns plus RATE × 2^-32 ns (R342). -/
def tb0Edge (t : Tim) : Nat :=
  ((t.tb0 : Int) * 4294967296 + t.tb0Frac + 4294967296 + t.rate).toNat

/-- In holdover: a source is selected, TB0 has been disciplined, and it is not LOCKED (R471). -/
def Tim.inHoldover (t : Tim) : Bool := t.src != 0 && t.disciplined && t.state != 2

/-- One CCLK edge of TIM: TB0, TB2 and the holdover counters (R341, R342, R356). -/
def Tim.edge1 (t : Tim) : Tim :=
  let q := tb0Edge t
  let ho := t.inHoldover
  let t := { t with tb0 := q / 4294967296 % 2 ^ 64, tb0Frac := q % 4294967296, tb2 := (t.tb2 + 1) % 2 ^ 64 }
  if ho then
    let t := if t.hoFrac + 1 = 1000000000 then { t with hoFrac := 0, hoTime := satAdd t.hoTime 1 32 } else { t with hoFrac := t.hoFrac + 1 }
    if t.hoTotFrac + 1 = 1000000000 then { t with hoTotFrac := 0, hoTotal := satAdd t.hoTotal 1 32 } else { t with hoTotFrac := t.hoTotFrac + 1 }
  else t

/-- No clock but the island's runs while the PLL is out of lock or the rails are off (R402, R398). -/
def Dev.clocked (d : Dev) : Bool := !d.pwr.off && (d.pwr.pllLock || (d.pwr.phase == .dawn && d.pwr.step == 0))

/-- TB1 advances 16 ns on every ICLK edge, one in 16 CCLK periods; on the RC oscillator, which the spec gives no phase, it does the same (log
entry 3). -/
def Isl.edge1 (i : Isl) : Isl :=
  if !i.up then i
  else if i.sub = 15 then { i with sub := 0, tb1 := (i.tb1 + 16) % 2 ^ 64, mono := i.mono + 16 }
  else { i with sub := i.sub + 1 }

/-- The island's blank copy follows blank, and each change is stamped (R330, R363). -/
def Isl.copyBlank (i : Isl) (f : Flt) : Isl :=
  let b := f.blank && !f.releasing
  if i.up && b != i.blank then { i with blank := b, blankAt := i.tb1 } else i

/-- The clocks of the whole block advance by one CCLK edge. -/
def clockEdge (s : State) : State :=
  let d := if s.d.clocked then { s.d with tim := s.d.tim.edge1 } else s.d
  { s with d := d, isl := (s.isl.copyBlank s.d.flt).edge1 }

end Sys2Proof.Machine
end

