-- ==== Sys2Proof/Machine/Fixed.lean ====
section
/-!
DEFINITION. The fixed-point arithmetic of the laws (R131) and the few real functions that the spec's formulas use (R136, R149, R176,
R196), computed to more bits than any result keeps. Where the spec states no rounding for a real formula, log entry 10 says what is done.
-/
namespace Sys2Proof.Machine

/-- 1.0 in Q7.24. -/
def oneQ : Int := 16777216

/-- Product of two Q7.24 numbers, formed exactly and rounded to 24 fraction bits, a half rounding upward; then the 48-bit accumulator (R131). -/
def mulQ (a b : Int) : Int := clampI ((a * b + 8388608) / 16777216) (-140737488355328) 140737488355327

/-- Saturate a sum to the accumulator (R131). -/
def accQ (a : Int) : Int := clampI a (-140737488355328) 140737488355327

/-- Saturate a stored state or a candidate to Q7.24 (R131). -/
def satQ (a : Int) : Int := clampI a (-2147483648) 2147483647

/-- A quotient rounded to the nearest integer, a half upward. -/
def divRound (a b : Int) : Int := if b ≤ 0 then 0 else (2 * a + b) / (2 * b)

/-- The next bits of a base-two logarithm of a mantissa in [1, 2) held with 64 fraction bits. -/
def log2Bits : Nat → Nat → Nat → Nat
  | 0, _, acc => acc
  | n + 1, m, acc =>
    let q := m * m / 18446744073709551616
    if q < 36893488147419103232 then log2Bits n q (2 * acc) else log2Bits n (q / 2) (2 * acc + 1)

/-- log2 (num / den) in units of 2^-40; both positive. -/
def log2Fix (num den : Nat) : Int :=
  let x := num * 2 ^ 200 / den
  let e := Nat.log2 x
  let m := if e < 64 then x * 2 ^ (64 - e) else x / 2 ^ (e - 64)
  ((e : Int) - 200) * 1099511627776 + (log2Bits 40 m 0 : Nat)

/-- 2^(2^-j) for j = 1 to 40, with 64 fraction bits. -/
def exp2Table : List Nat :=
  [26087635650665564425, 21936999301089678047, 20116317054877281742, 19263451207323153962, 18850675170876015534] ++
  [18647615946650685159, 18546908069882975960, 18496758270674070881, 18471734244850835106, 18459234930309000272] ++
  [18452988445124272033, 18449865995240371898, 18448304968436414829, 18447524504564044946, 18447134285009651015] ++
  [18446939178327825412, 18446841625760745902, 18446792849670663277, 18446768461673986097, 18446756267687738522] ++
  [18446750170697637486, 18446747122203342655, 18446745597956384162, 18446744835832952145, 18446744454771247945] ++
  [18446744264240398796, 18446744168974974960, 18446744121342263227, 18446744097525907406, 18446744085617729507] ++
  [18446744079663640561, 18446744076686596088, 18446744075198073852, 18446744074453812734, 18446744074081682175] ++
  [18446744073895616895, 18446744073802584256, 18446744073756067936, 18446744073732809776, 18446744073721180696]

/-- The product of the table's factors at the set bits of a 40-bit fraction, most significant first. -/
def exp2Frac : Nat → List Nat → Nat → Nat
  | _, [], acc => acc
  | f, c :: cs, acc =>
    let f2 := 2 * f
    if f2 < 1099511627776 then exp2Frac f2 cs acc
    else exp2Frac (f2 - 1099511627776) cs (acc * c / 18446744073709551616)

/-- 2^x for x in units of 2^-40, with 64 fraction bits. -/
def exp2Fix (x : Int) : Nat :=
  let i := x / 1099511627776
  let m := exp2Frac (x % 1099511627776).toNat exp2Table 18446744073709551616
  if 0 ≤ i then m * 2 ^ i.toNat else m / 2 ^ (-i).toNat

/-- 10·log10 (num / den) in units of 2^-16 dB, to the nearest unit. -/
def dbOf (num den : Nat) : Int := (log2Fix num den * 847324110187280 + 2361183241434822606848) / 4722366482869645213696

/-- 10^(x/10) for x in units of 2^-16 dB, with 64 fraction bits. -/
def linOf (x : Int) : Nat := exp2Fix (x * 365249856696 / 65536)

/-- 10^(x/10) for x in dB Q7.24, with 64 fraction bits. -/
def linQ (x : Int) : Nat := exp2Fix (x * 365249856696 / 16777216)

/-- e^(-num/den), with 24 fraction bits. -/
def expNeg (num den : Nat) : Int := ((exp2Fix (-(((num * 1586259972792) / den : Nat) : Int)) / 1099511627776 : Nat) : Int)

/-- The integer square root, one bit of the root at a time. -/
def isqrtBits : Nat → Nat → Nat → Nat
  | 0, _, r => r
  | n + 1, x, r => let r' := r + 2 ^ n; isqrtBits n x (if r' * r' ≤ x then r' else r)

/-- ⌊√x⌋ for x below 2^128. -/
def isqrt (x : Nat) : Nat := isqrtBits 64 x 0

/-- √(num / den) rounded to the nearest integer. -/
def sqrtRound (num den : Nat) : Nat := (isqrt (4 * num / den) + 1) / 2

/-- Terms of the cosine series for a squared angle with 40 fraction bits; n counts down the terms left, k is the next even factorial base. -/
def cosTerms : Nat → Nat → Int → Int → Int → Int
  | 0, _, _, _, acc => acc
  | n + 1, k, x2, t, acc =>
    let t' := -(t * x2 / 1099511627776) / (((k + 1) * (k + 2) : Nat) : Int)
    cosTerms n (k + 2) x2 t' (acc + t')

/-- cos 2πx for x in turns, Q24, |x| ≤ 0.5; result with 40 fraction bits. -/
def cosTurn (x : Int) : Int :=
  let a := x * 6908435304715 / 16777216
  cosTerms 14 0 (a * a / 1099511627776) 1099511627776 1099511627776

/-- sin 2πx for any x in turns, Q24; result Q24. -/
def sinTurn (x : Int) : Int :=
  let y := (x - 4194304) % 16777216
  let y' := if y ≤ 8388608 then y else y - 16777216
  cosTurn y' / 65536

/-- sin²πx for |x| ≤ 0.5 turn, Q24. -/
def sinSqPi (x : Int) : Int := (1099511627776 - cosTurn x) / 131072

/-- Bits of the angle whose sin²π is at most m. -/
def asinBits : Nat → Int → Int → Int
  | 0, _, r => r
  | n + 1, m, r => let r' := r + ((2 ^ n : Nat) : Int); asinBits n m (if r' ≤ 8388608 ∧ sinSqPi r' ≤ m then r' else r)

/-- asin(√m)/π in turns, Q24, for m in [0, 1] Q24 (R149). -/
def asinSqrtPi (m : Int) : Int := asinBits 24 m 0

/-- 1/(2π²) and 1/(2π), with 40 fraction bits (R135, R137). -/
def inv2PiSq : Int := 55701909777
/-- 1/(2π), with 40 fraction bits. -/
def inv2Pi : Int := 174992710548
/-- 2π, with 40 fraction bits. -/
def twoPi : Int := 6908435304715

end Sys2Proof.Machine
end

