-- ==== Sys2Proof/Machine/Geometry.lean ====
section
/-!
DEFINITION. Addresses, tiles and wiring of the fabric: R17 to R22, R84, R111.
-/
namespace Sys2Proof.Machine

/-- PLANE, COL and IDX of a cell address (R19). -/
def caPlane (ca : Nat) : Nat := ca / 16384 % 2
/-- COL of a cell address (R19). -/
def caCol (ca : Nat) : Nat := ca / 512 % 32
/-- IDX of a cell address (R19). -/
def caIdx (ca : Nat) : Nat := ca % 512
/-- The cell address of PLANE, COL, IDX (R19). -/
def mkCa (plane col idx : Nat) : Nat := plane * 16384 + col * 512 + idx
/-- The twin cell differs in bit 14 alone (R10). -/
def twinCa (ca : Nat) : Nat := if ca < 16384 then ca + 16384 else ca - 16384
/-- The plane A address of a cell. -/
def planeACa (ca : Nat) : Nat := ca % 16384

/-- Is the address a switch cell (R19)? -/
def isSwitchCa (ca : Nat) : Bool := decide (ca < 32768) && decide (caCol ca ≤ 16) && decide (caIdx ca < 256)
/-- Is the address an input VOA cell? -/
def isInVoa (ca : Nat) : Bool := decide (ca < 32768) && caCol ca == 30
/-- Is the address an output VOA cell? -/
def isOutVoa (ca : Nat) : Bool := decide (ca < 32768) && caCol ca == 31
/-- Is the address a VOA cell? -/
def isVoaCa (ca : Nat) : Bool := isInVoa ca || isOutVoa ca
/-- Is the address a cell, not a hole (R19)? -/
def isCellCa (ca : Nat) : Bool := isSwitchCa ca || isVoaCa ca

/-- The input VOA cell of IN i in a plane. -/
def inVoa (plane i : Nat) : Nat := mkCa plane 30 i
/-- The output VOA cell of OUT o in a plane. -/
def outVoa (plane o : Nat) : Nat := mkCa plane 31 o

/-- Actuator kinds (R14): 0 HP, 1 HC, 2 F; 3 is reserved. -/
def aaKind (aa : Nat) : Nat := aa % 4
/-- The cell of an actuator address (R20). -/
def aaCell (aa : Nat) : Nat := aa / 4
/-- Is an actuator address a hole (R20)? -/
def aaHole (aa : Nat) : Bool :=
  !(isCellCa (aaCell aa)) || aaKind aa == 3 || (aaKind aa == 1 && isVoaCa (aaCell aa))
/-- The HP, HC and F addresses of a cell. -/
def hpAa (ca : Nat) : Nat := 4 * ca
/-- The HC address of a cell. -/
def hcAa (ca : Nat) : Nat := 4 * ca + 1
/-- The F address of a cell. -/
def fAa (ca : Nat) : Nat := 4 * ca + 2
/-- The heaters a cell carries (R14). -/
def heatersOf (ca : Nat) : List Nat := if isSwitchCa ca then [hpAa ca, hcAa ca] else [hpAa ca]

/-- The cell and tap of a monitor point address, and whether it is a hole (R20). -/
def mpaCell (mpa : Nat) : Nat := mpa / 2
/-- Is a monitor point address a hole (R20)? -/
def mpaHole (mpa : Nat) : Bool := !(isCellCa (mpaCell mpa))
/-- The monitor point of a cell's tap. -/
def mkMpa (ca tap : Nat) : Nat := 2 * ca + tap

/-- The tile of a cell (R21). -/
def tileOf (ca : Nat) : Nat :=
  caPlane ca * 168 +
    (if caCol ca ≤ 16 then caCol ca * 8 + caIdx ca / 32 % 8
     else 136 + (if caCol ca = 31 then 16 else 0) + caIdx ca / 32)

/-- The first cell of a tile: its 32 cells are consecutive (R21). -/
def tileBase (tn : Nat) : Nat :=
  let p := tn / 168
  let k := tn % 168
  if k < 136 then mkCa p (k / 8) (k % 8 * 32)
  else if k < 152 then mkCa p 30 ((k - 136) * 32)
  else mkCa p 31 ((k - 152) * 32)
/-- The cells of a tile. -/
def tileCells (tn : Nat) : List Nat := (List.range 32).map (tileBase tn + ·)
/-- The plane of a tile or of a loop engine (R105). -/
def tilePlane (tn : Nat) : Nat := tn / 168
/-- Is a loop engine a spare (R105)? -/
def isSpare (k : Nat) : Bool := decide (336 ≤ k) && decide (k < 352)
/-- The spares of a plane in ascending order (R105). -/
def sparesOf (plane : Nat) : List Nat := (List.range 8).map (336 + 8 * plane + ·)
/-- Is a tile a plane A output VOA tile, which runs the balancing loops (R113)? -/
def isBalTile (tn : Nat) : Bool := decide (152 ≤ tn) && decide (tn < 168)
/-- Tiles of switch cells. -/
def isSwitchTile (tn : Nat) : Bool := decide (tn % 168 < 136)

/-- The wire on which light leaving column c on wire w arrives at column c + 1 (R17). -/
def nextWire (c w : Nat) : Nat :=
  let k := if c ≤ 7 then 9 - c else c - 6
  let m := 2 ^ k
  let lo := w % m
  let hi := w - lo
  if c ≤ 7 then hi + lo / 2 + lo % 2 * 2 ^ (k - 1)
  else hi + lo * 2 % m + lo / 2 ^ (k - 1)

/-- The parity of the output wire by which light for OUT o must leave column c of C08 to C16: bit 16 - c of o (R18). -/
def wantedParity (c o : Nat) : Nat := o / 2 ^ (16 - c) % 2

/-- The highest bit in which two outputs differ, b of R57. -/
def splitBit (o o2 : Nat) : Nat := Nat.log2 (o ^^^ o2)
/-- The column of the SPLIT cell of a bridge (R57). -/
def splitCol (o o2 : Nat) : Nat := 16 - splitBit o o2

/-- The edge position of a cell: entry plane × 19 + j of a timing set (R84). -/
def edgeEntry (ca : Nat) : Nat :=
  caPlane ca * 19 + (if caCol ca = 30 then 0 else if caCol ca = 31 then 18 else caCol ca + 1)

/-- Dither tone of a cell's HP; the HC has the next one (R206). -/
def hpTone (ca : Nat) : Nat := (2 * (caIdx ca % 16) + 8 * (caCol ca % 4)) % 32

/-- The eleven-bit TAP field names an output VOA tap: its monitor point with COL = 31 removed (R187). -/
def tapMpa (tap : Nat) : Nat := mkMpa (outVoa (tap / 1024 % 2) (tap / 2 % 512)) (tap % 2)

end Sys2Proof.Machine
end

