-- ==== Sys2Proof/Machine/Access.lean ====
section
/-!
DEFINITION. The one home of each element of the state: how an entry of a table is read and changed, and the views of the map that the spec
gives as tables (R25, R39): which input a cell input carries, which VOA belongs to a connection.
-/
namespace Sys2Proof.Machine

/-! ## Entries -/

def Dev.queue (d : Dev) (q : Nat) : Queue := d.io.queues.get {} q
def Dev.modQueue (d : Dev) (q : Nat) (f : Queue → Queue) : Dev := { d with io := { d.io with queues := d.io.queues.mod {} q f } }
def Dev.fn (d : Dev) (f : Nat) : Fn := d.io.fns.get {} f
def Dev.modFn (d : Dev) (f : Nat) (g : Fn → Fn) : Dev := { d with io := { d.io with fns := d.io.fns.mod {} f g } }
def Dev.view (d : Dev) (f : Nat) : View := d.io.views.get {} f
def Dev.modView (d : Dev) (f : Nat) (g : View → View) : Dev := { d with io := { d.io with views := d.io.views.mod {} f g } }
def Dev.cap (d : Dev) (f : Nat) : Capture := d.io.cap.get {} f
def Dev.modCap (d : Dev) (f : Nat) (g : Capture → Capture) : Dev := { d with io := { d.io with cap := d.io.cap.mod {} f g } }
def Dev.src (d : Dev) (n : Nat) : Src := d.flt.src.get {} n
def Dev.modSrc (d : Dev) (n : Nat) (f : Src → Src) : Dev := { d with flt := { d.flt with src := d.flt.src.mod {} n f } }
def Dev.cell (d : Dev) (ca : Nat) : Cell := d.fab.cells.get {} ca
def Dev.modCell (d : Dev) (ca : Nat) (f : Cell → Cell) : Dev := { d with fab := { d.fab with cells := d.fab.cells.mod {} ca f } }
def Dev.loop (d : Dev) (aa : Nat) : Loop := d.fab.loops.get {} aa
def Dev.modLoop (d : Dev) (aa : Nat) (f : Loop → Loop) : Dev := { d with fab := { d.fab with loops := d.fab.loops.mod {} aa f } }
def Dev.tile (d : Dev) (tn : Nat) : Tile := d.fab.tiles.get {} tn
def Dev.modTile (d : Dev) (tn : Nat) (f : Tile → Tile) : Dev := { d with fab := { d.fab with tiles := d.fab.tiles.mod {} tn f } }
def Dev.le (d : Dev) (k : Nat) : Le := d.fab.les.get {} k
def Dev.modLe (d : Dev) (k : Nat) (f : Le → Le) : Dev := { d with fab := { d.fab with les := d.fab.les.mod {} k f } }
/-- LE_STAT.STATE: OWN for a tile LE and SPARE_IDLE for a spare until something changes it (R128). -/
def Dev.leState (d : Dev) (k : Nat) : LeState := ((d.le k).state).getD (if isSpare k then .spareIdle else .own)
def Dev.cons (d : Dev) (ca : Nat) : Cons := d.fab.cons.get .free (planeACa ca)
def Dev.setCons (d : Dev) (ca : Nat) (c : Cons) : Dev := { d with fab := { d.fab with cons := d.fab.cons.set .free (planeACa ca) c } }
/-- Stored target of a port's VOA (R46): side 0 input, 1 output. -/
def Dev.tgt (d : Dev) (side port : Nat) : Nat := d.fab.tgt.get 0 (side * 512 + port)
def Dev.setTgt (d : Dev) (side port v : Nat) : Dev := { d with fab := { d.fab with tgt := d.fab.tgt.set 0 (side * 512 + port) v } }
def Dev.owner (d : Dev) (side port : Nat) : Nat := d.io.owner.get 0 (side * 512 + port)
def Dev.disturb (d : Dev) (dom : Nat) : Nat := d.io.disturb.get 0 dom
def Dev.slot (d : Dev) (s : Nat) : Slot := d.cmt.slots.get {} s
def Dev.modSlot (d : Dev) (s : Nat) (f : Slot → Slot) : Dev := { d with cmt := { d.cmt with slots := d.cmt.slots.mod {} s f } }
def Dev.mrt (d : Dev) (m : Nat) : Mrt := d.mon.mrt.get {} m
def Dev.modMrt (d : Dev) (m : Nat) (f : Mrt → Mrt) : Dev := { d with mon := { d.mon with mrt := d.mon.mrt.mod {} m f } }
def Dev.met (d : Dev) (m : Nat) : Met := d.mon.met.get {} m
def Dev.modMet (d : Dev) (m : Nat) (f : Met → Met) : Dev := { d with mon := { d.mon with met := d.mon.met.mod {} m f } }
def Dev.inj (d : Dev) (k : Nat) : Inj := d.mon.inj.get {} k
def Dev.modInj (d : Dev) (k : Nat) (f : Inj → Inj) : Dev := { d with mon := { d.mon with inj := d.mon.inj.mod {} k f } }
def Dev.fl (d : Dev) (k : Nat) : Fl := d.mon.fl.get {} k
def Dev.modFl (d : Dev) (k : Nat) (f : Fl → Fl) : Dev := { d with mon := { d.mon with fl := d.mon.fl.mod {} k f } }
def Dev.lane (d : Dev) (l : Nat) : Lane := d.seq.lanes.get {} l
def Dev.modLane (d : Dev) (l : Nat) (f : Lane → Lane) : Dev := { d with seq := { d.seq with lanes := d.seq.lanes.mod {} l f } }
/-- The lane bound to an actuator. -/
def Dev.laneOf (d : Dev) (aa : Nat) : Option Nat := (List.range 4).find? (fun l => (d.lane l).bound && (d.lane l).aa == aa)
/-- Is a cell bound to a sequencer lane (R211)? -/
def Dev.seqBound (d : Dev) (ca : Nat) : Bool := (List.range 4).any (fun l => (d.lane l).bound && aaCell (d.lane l).aa == ca)
def Dev.sensor (d : Dev) (n : Nat) : Sensor := d.thm.sensors.get {} n
/-- Send something out: the newest is first. -/
def Dev.send (d : Dev) (o : Out) : Dev := { d with io := { d.io with out := o :: d.io.out } }
/-- A master asks the bus matrix for a burst (R417, R418). -/
def Dev.bus (d : Dev) (master : Nat) (write : Bool) (target addr len : Nat) (fetch : Option Nat := none) : Dev :=
  { d with mtx := { d.mtx with bursts := d.mtx.bursts ++ [{ master, write, target, addr, len, fetch }] } }
/-- A posted write to host memory: M1's, by T3 (R255). -/
def Dev.toHost (d : Dev) (addr len : Nat) (o : Out) : Dev := (d.send o).bus 1 true 3 addr len
def Dev.tb0 (d : Dev) : Nat := d.tim.tb0
def Dev.tb2 (d : Dev) : Nat := d.tim.tb2
/-- Take a fresh value of the part (log entry 4). -/
def Dev.takeFresh (d : Dev) : BitVec 256 × Dev := (Config.fresh d.fresh, { d with fresh := d.fresh + 1 })

/-! ## The map (R31, R39) -/

/-- The connection of an input. -/
def Net.ofIn (n : Net) (i : Nat) : Option Conn := n.conns.find? (fun c => c.inp == i)
/-- Does a connection use an output? -/
def Conn.uses (c : Conn) (o : Nat) : Bool := c.out == o || c.out2 == some o
/-- The outputs of a connection. -/
def Conn.outs (c : Conn) : List Nat := c.out :: c.out2.toList
/-- A bridge: two branches, a roll not released included (R48, R73). -/
def Conn.isBridge (c : Conn) : Bool := c.out2.isSome
/-- The connection of an output. -/
def Net.ofOut (n : Net) (o : Nat) : Option Conn := n.conns.find? (fun c => c.uses o)
/-- The recorded state of a switch cell; twins share it (R11). -/
def Net.swOf (n : Net) (ca : Nat) : Sw := n.sw.get .bar (planeACa ca)

/-- Light entering column c of plane A on wire w under given switch states: its cells in order, each with the wire it enters by. -/
def traceFrom (sw : Nat → Sw) (o : Nat) : Nat → Nat → Nat → List (Nat × Nat)
  | 0, _, _ => []
  | k + 1, c, w =>
    let ca := mkCa 0 c (w / 2)
    let w' := match sw ca with
      | .bar => w
      | .cross => if w % 2 = 0 then w + 1 else w - 1
      | .split => if 8 ≤ c then w / 2 * 2 + wantedParity c o else w
    (ca, w) :: traceFrom sw o k (c + 1) (if c < 16 then nextWire c w' else w')

/-- The cells, and the wires they are entered by, of the light path from IN i under given states; at a SPLIT cell it follows OUT o. -/
def traceWith (sw : Nat → Sw) (i o : Nat) : List (Nat × Nat) := traceFrom sw o 17 0 i

/-- Cell inputs (plane A cell, wire) of every light path of a connection. -/
def Net.pathOf (n : Net) (c : Conn) : List (Nat × Nat) :=
  (c.outs.flatMap (fun o => traceWith n.swOf c.inp o)).eraseDups

/-- Plane A cells of a connection: its footprint with the VOA cells (R32). -/
def Net.footOf (n : Net) (c : Conn) : List Nat :=
  inVoa 0 c.inp :: (c.outs.map (outVoa 0)) ++ ((n.pathOf c).map (·.1)).eraseDups

/-- USED and PORT of a switch cell's input by wire parity: the connection whose path enters there (R25). -/
def Net.carried (n : Net) (ca par : Nat) : Option Nat :=
  (n.conns.find? (fun c => (n.pathOf c).contains (planeACa ca, caIdx ca * 2 + par))).map (·.inp)

/-- The connection that a VOA cell's port belongs to. -/
def Net.voaConn (n : Net) (ca : Nat) : Option Conn := if isInVoa ca then n.ofIn (caIdx ca) else n.ofOut (caIdx ca)

/-- USED0 or USED1 is set (R25, R132). -/
def Net.used (n : Net) (ca : Nat) : Bool :=
  if isVoaCa ca then (n.voaConn ca).isSome else (n.carried ca 0).isSome || (n.carried ca 1).isSome

/-- Light paths through a switch cell: 0, 1 or 2 (R133). -/
def Net.pathsAt (n : Net) (ca : Nat) : Nat := b2n (n.carried ca 0).isSome + b2n (n.carried ca 1).isSome

/-- Lit (R132): an input VOA cell by its power alone, any other cell only while it carries a path. -/
def lit (n : Net) (d : Dev) (ca : Nat) : Bool := (d.cell ca).power && (isInVoa ca || n.used ca)

/-- Bridges of a map, rolls not released included. -/
def bridgeCount (cs : List Conn) : Nat := (cs.filter (·.isBridge)).length

/-- Insert a connection in input order. -/
def insertConn (c : Conn) : List Conn → List Conn
  | [] => [c]
  | x :: xs => if c.inp < x.inp then c :: x :: xs else if c.inp = x.inp then c :: xs else x :: insertConn c xs

/-- Is a VOA held DARK (R16, R67, R97)? -/
def voaHeldDark (n : Net) (d : Dev) (ca : Nat) : Bool :=
  match n.voaConn ca with
  | none => true
  | some c =>
    let side := if isInVoa ca then 0 else 1
    d.tgt side (caIdx ca) == 511 || (isInVoa ca && c.dark == some (caPlane ca == 1))

/-- The 2,048 VOA cells, and those of one side. -/
def outVoas : List Nat := ((List.range 512).map (outVoa 0)) ++ ((List.range 512).map (outVoa 1))
/-- The input VOA cells of both planes. -/
def inVoas : List Nat := ((List.range 512).map (inVoa 0)) ++ ((List.range 512).map (inVoa 1))
/-- Every cell of the device, tile by tile. -/
def allCells : List Nat := (List.range 336).flatMap tileCells

/-! ## Commands in flight -/

/-- The command of a queue at a ring index. -/
def Queue.cmd (q : Queue) (idx : Nat) : Option Cmd := q.cmds.find? (fun c => c.idx == idx)
/-- Change the command at a ring index. -/
def Queue.modCmd (q : Queue) (idx : Nat) (f : Cmd → Cmd) : Queue :=
  { q with cmds := q.cmds.map (fun c => if c.idx = idx then f c else c) }
/-- The first command that has not executed. -/
def Queue.front (q : Queue) : Option Cmd := q.cmds.find? (fun c => !c.executed)
/-- Entries of a size code (R254). -/
def ringSize (code : Nat) : Nat := 2 ^ (code + 4)
def Queue.sqSize (q : Queue) : Nat := ringSize q.sqs
/-- Opcode, IMM_IRQ and CID of an entry (R261). -/
def sqeOp (s : Sqe) : Nat := (s.extractLsb' 0 8).toNat
def sqeCid (s : Sqe) : Nat := (s.extractLsb' 16 16).toNat
def sqeImm (s : Sqe) : Bool := s.getLsbD 8
/-- Byte n to n + k − 1 of a submission entry, little-endian (R261). -/
def sqeField (s : Sqe) (byte k : Nat) : Nat := (s.toNat / 2 ^ (8 * byte)) % 2 ^ (8 * k)

end Sys2Proof.Machine
end

