-- ==== Sys2Proof/Machine/Banks.lean ====
section
/-!
DEFINITION. Delta sets and the delta banks of the NVM (R224, R230, R241, R242, R245).
-/
namespace Sys2Proof.Machine

/-- The bytes of a digest. -/
def digestBytes (h : BitVec 512) : List Byte := bytesLE h.toNat 64

/-- Replace one element's delta of a kind: AA, MPA or lane (R230, R236). -/
def DeltaSet.put (s : DeltaSet) (a : Nat × Nat × List Int) : DeltaSet :=
  let v := a.2.2.headD 0
  let cell := fun (f : CellDelta → CellDelta) => { s with cell := s.cell.mod {} (aaCell a.2.1) f }
  if a.1 = 0 then cell (fun c => { c with bias := v })
  else if a.1 = 1 then cell (fun c => { c with hc := v })
  else if a.1 = 2 then cell (fun c => { c with sPturn := v.toNat })
  else if a.1 = 5 then cell (fun c => if aaKind a.2.1 = 0 then { c with sRhp := v.toNat } else { c with sRhc := v.toNat })
  else if a.1 = 3 then { s with dark := [0, 1, 2].foldl (fun t r => t.set 0 (4 * a.2.1 + r) (a.2.2.getD r 0)) s.dark }
  else { s with flOff := s.flOff.set 0 a.2.1 v, flGain := s.flGain.set 0x8000 a.2.1 (a.2.2.getD 1 0x8000).toNat }

/-! ## Bytes (R241, R245) -/

/-- Length of a bank's header and payload. -/
def bankLen : Nat := 0x100440
/-- A bank's header and payload. -/
def bankBytes (b : Bank) : List Byte :=
  let cell := fun (ca : Nat) =>
    let c := b.set.cell.get {} ca
    bytesLE (twos c.bias 32) 4 ++ bytesLE (twos c.hc 32) 4 ++ bytesLE c.sPturn 2 ++ bytesLE c.sRhp 2 ++ bytesLE c.sRhc 2 ++ [0, 0]
  let mon := fun (m : Nat) => [0, 1, 2].flatMap (fun r => bytesLE (twos (b.set.dark.get 0 (4 * m + r)) 16) 2) ++ [0, 0]
  let fl := fun (k : Nat) => bytesLE (twos (b.set.flOff.get 0 k) 16) 2 ++ bytesLE (b.set.flGain.get 0x8000 k) 2 ++ [0, 0, 0, 0]
  bytesLE 1 4 ++ bytesLE bankLen 4 ++ bytesLE b.gen 8 ++ List.replicate 48 0 ++ (List.range 32768).flatMap cell ++
  (List.range 65536).flatMap mon ++ (List.range 128).flatMap fl
/-- The bytes of a commit record that its signature covers. -/
def recordBytes (r : BankRecord) : List Byte := bytesLE r.gen 8 ++ bytesLE r.len 4 ++ bytesLE 0 4 ++ digestBytes r.digest

/-! ## Validity (R241) -/

/-- The digest in a record is that of the bank. -/
def Bank.digestOk (b : Bank) (r : BankRecord) : Bool := r.digest == Config.sha3 (bankBytes b)
/-- The record's signature verifies with the device identity key. -/
def BankRecord.signed (r : BankRecord) : Bool := Config.verify Config.identityKey (recordBytes r) r.sig
/-- A bank is valid: GEN is not 0, header and record carry the same GEN, the digest matches and the signature verifies. -/
def Bank.valid (b : Bank) : Bool := b.gen != 0 && b.record.any (fun r => r.gen == b.gen && b.digestOk r && r.signed)
/-- A bank with GEN other than 0 that fails its digest or signature (R246). -/
def Bank.broken (b : Bank) : Bool := b.gen != 0 && !b.record.any (fun r => b.digestOk r && r.signed)
/-- The commit record that a store writes for a bank. -/
def Bank.seal (b : Bank) : Bank :=
  let r : BankRecord := { gen := b.gen, len := bankLen, digest := Config.sha3 (bankBytes b) }
  { b with record := some { r with sig := Config.sign false (recordBytes r) } }
/-- The bank in force, the newest valid one: false A, true B. -/
def Cal.inForce (c : Cal) : Option Bool :=
  if c.bankA.valid && (!c.bankB.valid || decide (c.bankB.gen ≤ c.bankA.gen)) then some false
  else if c.bankB.valid then some true else none
/-- A bank. -/
def Cal.bank (c : Cal) (b : Bool) : Bank := if b then c.bankB else c.bankA
def Cal.setBank (c : Cal) (b : Bool) (x : Bank) : Cal := if b then { c with bankB := x } else { c with bankA := x }
/-- The bank that a store writes: not the one in force, or A when neither is valid (R242). -/
def Cal.target (c : Cal) : Bool := c.inForce == some false
/-- The generation a store gives (R242). -/
def Cal.nextGen (c : Cal) : Nat := match c.inForce with
  | some b => (c.bank b).gen + 1
  | none => 1
/-- A set with what tiles have accepted. -/
def DeltaSet.taking (s : DeltaSet) (ts : List CalTile) : DeltaSet := (ts.flatMap (·.accepted)).foldl DeltaSet.put s

end Sys2Proof.Machine
end

