-- ==== Sys2Proof/Machine/Flags.lean ====
section
/-!
DEFINITION. Status words and flags that are computed: completion dwords (R263 to R266), the fault source table (R324), event and FAULT
dwords (R268, R322), the attention tree (R337, R338, R340), blank and permit (R329 to R334).
-/
namespace Sys2Proof.Machine

/-- A 32-bit word of a number. -/
def w32 (n : Nat) : Word := BitVec.ofNat 32 n

/-- A word from fields: value and lowest bit of each. -/
def pack (fs : List (Nat × Nat)) : Nat := (fs.map (fun p => p.1 * 2 ^ p.2)).sum

/-! ## Status codes (R266) -/

def stOk : Nat := 0
def stSuperseded : Nat := 1
def stAborted : Nat := 2
def stBlocked : Nat := 3
def stNotOwned : Nat := 4
def stPin : Nat := 5
def stRolledBack : Nat := 6
def stKept : Nat := 7
def stTile : Nat := 8
def stFetch : Nat := 9
def stMalformed : Nat := 0xA
def stLate : Nat := 0xB
def stTimeDisc : Nat := 0xC
def stBlanked : Nat := 0xD
def stNotHitless : Nat := 0xE
def stCalDisagree : Nat := 0xF
def stInput : Nat := 0x10
def stDeferred : Nat := 0x11
def stQStalled : Nat := 0x12

/-- STATUS as written: a deferred commit that would be OK reads DEFERRED (R265). -/
def Comp.statusOut (c : Comp) : Nat := if c.status = stOk ∧ c.defer then stDeferred else c.status

/-- The eight dwords of a completion entry (R263). -/
def Comp.dws (c : Comp) (head qid : Nat) (admin phase : Bool) : List Word :=
  [w32 c.esn, w32 (c.esn / 2 ^ 32), w32 c.dw2, w32 c.dw3, w32 c.dw4, w32 c.dw5,
   w32 (pack [(head % 65536, 0), (qid, 16), (b2n admin, 22), (c.statusOut, 24)]),
   w32 (pack [(b2n phase, 0), (b2n c.defer, 1), (b2n c.late, 2), (b2n c.holdover, 3), (c.cid % 65536, 16)])]

/-- The eight dwords of an event entry (R268). -/
def eventDws (time dw2 dw3 dw4 dw5 type : Nat) (phase lost : Bool) (seq : Nat) : List Word :=
  [w32 time, w32 (time / 2 ^ 32), w32 dw2, w32 dw3, w32 dw4, w32 dw5, w32 type,
   w32 (pack [(b2n phase, 0), (b2n lost, 1), (seq % 65536, 16)])]

/-! ## Fault sources (R322, R324, R339) -/

/-- Sources that R324 marks reserved. -/
def srcReserved (n : Nat) : Bool :=
  decide (96 ≤ n) || [43, 50, 51, 59, 60, 61, 75, 76, 77, 83, 84, 85, 93, 94].contains n
/-- CONTAINED sources of R324. -/
def srcContained (n : Nat) : Bool :=
  [21, 22, 24, 25, 26, 27, 28, 29, 30, 31, 32, 33, 36, 37, 38, 40, 41, 44, 47, 48, 52, 53, 63, 64, 65, 71, 73, 78, 79].contains n
/-- CLASS: 0 CORRECTED, 1 CONTAINED, 2 FATAL, 3 reserved (R339). -/
def srcClass (n : Nat) : Nat := if srcReserved n then 3 else if n ≤ 12 then 2 else if srcContained n then 1 else 0
/-- Scope kind of a source (R322, R324). -/
def srcKind (n : Nat) : Nat :=
  if [28, 29, 30, 31, 32, 34, 35, 44, 45, 49].contains n then 1
  else if [14, 19, 20, 21, 22, 23, 24, 25, 26, 27, 33, 42, 71].contains n then 2
  else if [36, 37, 38, 39, 40, 41].contains n then 3
  else if n = 64 then 4
  else if [62, 63, 65, 66, 67, 68, 69, 73, 78, 79, 80].contains n then 5
  else if n = 47 ∨ n = 48 then 6
  else if n = 52 ∨ n = 53 then 7
  else 0
/-- Does a source have a recovery: contained, or fatal with a quiet default (R324)? -/
def srcRecovers (n : Nat) : Bool := srcContained n || (decide (1 ≤ n) && decide (n ≤ 11))
/-- FLT_SRC_CFG [26:6] at reset (R339). -/
def srcCfgReset (n : Nat) : Nat :=
  let c := srcClass n
  pack [(b2n (c == 1 || c == 2), 0), (1, 1), (b2n (c == 1), 2), (b2n (c == 2), 3), (if c = 2 then 3 else 8, 4),
    (if c = 2 then 5000 else 10, 8)]
/-- FLT_SRC_CFG [26:6] in force. -/
def Dev.srcCfg (d : Dev) (n : Nat) : Nat := (d.src n).cfg.getD (srcCfgReset n)
def Dev.srcErrEn (d : Dev) (n : Nat) : Bool := bitOf (d.srcCfg n) 0
def Dev.srcEvtEn (d : Dev) (n : Nat) : Bool := bitOf (d.srcCfg n) 1
/-- REC_EN reads 0 where R324 gives no recovery. -/
def Dev.srcRecEn (d : Dev) (n : Nat) : Bool := srcRecovers n && bitOf (d.srcCfg n) 2
def Dev.srcWin (d : Dev) (n : Nat) : Bool := bitOf (d.srcCfg n) 3
def Dev.srcLimit (d : Dev) (n : Nat) : Nat := fieldOf (d.srcCfg n) 4 4
/-- QUIET in ms. -/
def Dev.srcQuiet (d : Dev) (n : Nat) : Nat := fieldOf (d.srcCfg n) 8 13
/-- CURRENT (R325). -/
def Src.current (s : Src) : Bool := !s.conds.isEmpty || s.force
/-- The condition, real or forced, of one instance. -/
def Src.currentAt (s : Src) (scope : Nat) : Bool := s.conds.contains scope || (s.force && s.forceScope == scope)
/-- DW2 of a FAULT event (R269). -/
def faultDw2 (n : Nat) (current inj : Bool) : Nat :=
  pack [(n, 0), (srcClass n, 7), (srcKind n, 9), (b2n current, 13), (b2n inj, 14)]
/-- Scope identifier of a light path (R322); planes 1 A, 2 B, 3 both, 0 not connected. -/
def pathScope (inp out planes : Nat) : Nat := pack [(inp, 0), (out, 9), (planes, 18)]

/-- Does a fatal source hold the fatal state: a real condition, an occurrence with full reaction that awaits recovery, OUT, or a forced
condition with INJ_ACT (R329)? -/
def Src.fatalHold (s : Src) (injAct : Bool) : Bool :=
  !s.conds.isEmpty || s.insts.any (·.full) || s.out || (s.force && injAct)
/-- Some fatal source holds the fatal state. -/
def Dev.fatalCause (d : Dev) : Bool := (List.range 13).any (fun n => (d.src n).fatalHold d.flt.injAct)
/-- A cause of blank holds (R330). -/
def Dev.blankCause (d : Dev) : Bool := d.flt.blankN || d.flt.swBlank || d.flt.fatal || d.flt.extest
/-- Blank is in force, from its first stage to its release boundary: the commit unit makes no Midnight (R318, R333). -/
def Dev.blankOn (d : Dev) : Bool := d.flt.blank && !d.flt.releasing
/-- LIGHT_PERMIT may conduct (R334); in Dusk it is withdrawn at step DK1 (R320, R414). -/
def Dev.permitOk (d : Dev) : Bool :=
  !d.pwr.off && d.pwr.done && (d.pwr.phase == .run || d.pwr.phase == .dawn || (d.pwr.phase == .dusk && d.pwr.step == 0)) && !d.flt.blank &&
  !d.flt.fatal
/-- BLANKED of a cell: output VOA cells from the first stage, input VOA cells from the second, until the release, and both from Dusk step DK2
(R25, R203, R331 to R333, R414). -/
def Dev.blanked (d : Dev) (ca : Nat) : Bool :=
  let dusk := d.pwr.phase == .dusk && decide (2 ≤ d.pwr.step)
  let on := d.flt.blank && !d.flt.releasing
  (isOutVoa ca && (on || dusk)) || (isInVoa ca && ((on && d.flt.stage2) || dusk))
/-- GLB_STAT.HOLDOVER and TIM_STAT.HOLDOVER (R344). -/
def Dev.holdover (d : Dev) : Bool := d.tim.inHoldover

/-! ## Attention tree -/

/-- Leaf registers (R338, R340): offset, group, bit of the group register (none: the group has this register alone), defined bits, bits a
VF can see. -/
def leafTable : List (Nat × Nat × Option Nat × Nat × Nat) :=
  [(0x100, 0, some 0, 0xFFFFFFFF, 0xFFFFFFFF), (0x104, 0, some 1, 0xFFFFFFFF, 0xFFFFFFFF), (0x108, 0, some 2, 0xFFFF, 0xFFFF),
   (0x110, 1, none, 0xF, 5),
   (0x120, 2, some 0, 0xFFFFFFFF, 0), (0x124, 2, some 1, 0xFFFFFFFF, 0), (0x128, 2, some 2, 0xFFFFFFFF, 0), (0x12C, 2, some 3, 0xF, 1)] ++
  (List.range 11).map (fun w => (0x140 + 4 * w, 3, some w, (if w = 10 then 0xFFFF else 0xFFFFFFFF), 0)) ++
  [(0x16C, 3, some 11, 3, 3)] ++
  (List.range 11).map (fun w => (0x180 + 4 * w, 4, some w, (if w = 10 then 0xFFFF else 0xFFFFFFFF), 0)) ++
  [(0x1AC, 4, some 11, 0x1FF, 0x100)] ++
  (List.range 4).map (fun w => (0x1B0 + 4 * w, 4, some (12 + w), 0xFFFFFFFF, 0)) ++
  [(0x1C0, 5, none, 0x1F, 0), (0x1C4, 6, none, 0xF, 0), (0x1C8, 7, none, 0x15F, 0), (0x1CC, 8, none, 3, 0), (0x1D0, 9, none, 7, 0),
   (0x1D4, 10, none, 0x1F, 0), (0x1D8, 11, none, 0x1F, 0)]

/-- The leaf register at an offset. -/
def leafAt (off : Nat) : Option (Nat × Nat × Option Nat × Nat × Nat) := leafTable.find? (fun r => r.1 == off)

/-- A number from the bits a test gives, bit k of n bits. -/
def bitsOf (n : Nat) (f : Nat → Bool) : Nat := ((List.range n).map (fun k => if f k then 2 ^ k else 0)).sum

/-- Is the leaf register a level that follows its condition, in part or whole (R338)? Bits that are W1C. -/
def leafW1c (off mask : Nat) : Nat :=
  if off = 0x100 ∨ off = 0x104 ∨ off = 0x108 ∨ off = 0x120 ∨ off = 0x124 ∨ off = 0x128 then 0 else if off = 0x110 then 0xC else mask

/-- The causes of a leaf register in a function's view (R337, R338). -/
def Dev.leaf (d : Dev) (f off : Nat) : Nat :=
  match leafAt off with
  | none => 0
  | some (_, _, _, mask, vf) =>
    let own := fun q => (d.queue q).cq.cause && (f == 0 || (d.queue q).domain == f)
    let v :=
      if off = 0x100 then bitsOf 32 own
      else if off = 0x104 then bitsOf 32 (fun q => own (q + 32))
      else if off = 0x108 then bitsOf 16 (fun k => (f == 0 || f == k) && (d.fn k).acq.cause)
      else if off = 0x110 then
        ((d.view f).leaf.get 0 off &&& 0xC) ||| pack [(b2n (d.fn f).evt.cause, 0), (b2n (f == 0 && d.io.tel.ring.cause), 1)]
      else if 0x120 ≤ off ∧ off ≤ 0x128 then bitsOf 32 (fun k => (d.src (8 * (off - 0x120) + k)).latched)
      else (d.view f).leaf.get 0 off
    v &&& (if f = 0 then mask else vf)

/-- A leaf register's enable register (R340): 1 in every defined bit until cleared. -/
def Dev.leafEn (d : Dev) (f off : Nat) : Nat :=
  match leafAt off with
  | none => 0
  | some (_, _, _, mask, _) => mask &&& (0xFFFFFFFF ^^^ (d.view f).off.get 0 off)

/-- A group cause register (R337, R340). -/
def Dev.group (d : Dev) (f g : Nat) : Nat :=
  ((leafTable.filter (fun r => r.2.1 == g)).map (fun r =>
    let v := d.leaf f r.1 &&& d.leafEn f r.1
    match r.2.2.1 with
    | some b => if v = 0 then 0 else 2 ^ b
    | none => v)).sum

/-- ATN_SUM (R337). -/
def Dev.atnSum (d : Dev) (f : Nat) : Nat :=
  bitsOf 12 (fun g => bitOf (d.view f).en g && decide (d.group f g ≠ 0))

/-- Set bits of a W1C leaf register of one view. -/
def Dev.setLeaf (d : Dev) (f off bits : Nat) : Dev :=
  d.modView f (fun v => { v with leaf := v.leaf.mod 0 off (· ||| bits) })

/-- Set the bit of a tile in a bitmap leaf group of PF0's view. -/
def Dev.setTileLeaf (d : Dev) (off tn : Nat) : Dev := d.setLeaf 0 (off + 4 * (tn / 32)) (2 ^ (tn % 32))

/-- FLT_STAT (R339). -/
def Dev.fltStat (d : Dev) : Nat :=
  let n := fun (p : Src → Bool) => ((List.range 96).filter (fun k => p (d.src k))).length
  pack [(b2n d.flt.blank, 0), (b2n d.flt.blankN, 1), (b2n d.flt.fatal, 2), (b2n d.flt.permit, 3), (b2n d.flt.stage2, 4),
    (b2n d.flt.releasing, 5), (n Src.current, 8), (n Src.latched, 16)]

/-- FLT_SRC_STAT (R339). -/
def Dev.srcStat (d : Dev) (n : Nat) : Nat :=
  let s := d.src n
  pack [(b2n s.current, 0), (b2n s.latched, 1), (b2n s.real, 2), (b2n s.inj, 3), (b2n s.out, 4), (b2n s.force, 5), (s.recCnt, 8),
    (s.count, 16)]

/-- FLT_SRC_CFG (R339). -/
def Dev.srcCfgWord (d : Dev) (n : Nat) : Nat :=
  let v := d.srcCfg n
  pack [(srcClass n, 0), (srcKind n, 2), (if srcRecovers n then v else v - v / 4 % 2 * 4, 6)]

end Sys2Proof.Machine
end

