-- ==== Sys2Proof/Machine/Ops.lean ====
section
/-!
DEFINITION. Operations that many commands share: performance counters (R431 to R433), rings in host memory (R254), events (R268 to R270),
occurrences of fault sources as the reaction matrix signals them (R321, R325), completions and stalls (R263, R290, R301, R303), interrupts
and pins (R275, R334 to R336).
-/
namespace Sys2Proof.Machine

/-! ## Counters -/

/-- Indices that R431 marks reserved. -/
def ctrReserved (n : Nat) : Bool :=
  decide (3040 ≤ n) || (decide (2888 ≤ n) && decide (n ≤ 2895)) || (decide (2925 ≤ n) && decide (n ≤ 2927)) ||
  (decide (2934 ≤ n) && decide (n ≤ 2943)) || (decide (2949 ≤ n) && decide (n ≤ 2959)) || n == 2966 || n == 2967 ||
  (decide (2972 ≤ n) && decide (n ≤ 2975)) || n == 3023 || n == 3030 || n == 3031 || n == 3038 || n == 3039
/-- The last counter of a block takes no CHAIN (R433). -/
def ctrLast (n : Nat) : Bool :=
  (decide (n < 2816) && n % 8 == 7) || [2879, 2895, 2927, 2943, 2959, 2967, 2975, 3011, 3023, 3031, 3039].contains n

/-- Add k to counter n; an overflow of a chained counter carries into the next on the same edge (R432, R433). -/
def ctrAdd : Nat → Tab Ctr → Nat → Nat → Tab Ctr
  | 0, t, _, _ => t
  | fuel + 1, t, n, k =>
    let c := t.get {} n
    if !c.en then t
    else if c.value + k < 2 ^ 32 then t.set {} n { c with value := c.value + k }
    else
      let v := (c.value + k) % 2 ^ 32
      if c.chain then ctrAdd fuel (t.set {} n { c with value := v }) (n + 1) 1 else t.set {} n { c with value := v, ovf := true }

/-- Is a counter's own event ignored because the counter before it is chained to it (R433)? -/
def Pmc.isPartner (p : Pmc) (n : Nat) : Bool := decide (0 < n) && (p.ctr.get {} (n - 1)).chain

/-- k events of counter n (R432). -/
def Pmc.add (p : Pmc) (n k : Nat) : Pmc :=
  if !p.en || ctrReserved n || p.isPartner n then p else { p with ctr := ctrAdd 64 p.ctr n k }

/-- Count k events. -/
def Dev.countN (d : Dev) (n k : Nat) : Dev := { d with pmc := d.pmc.add n k }
/-- Count one event. -/
def Dev.count (d : Dev) (n : Nat) : Dev := d.countN n 1

/-! ## Rings -/

/-- Entries written and not consumed (R254). -/
def Ring.used (r : Ring) : Nat := if r.size = 0 then 0 else (r.tail + r.size - r.head) % r.size
/-- The producer never fills the last free entry (R254). -/
def Ring.hasRoom (r : Ring) : Bool := decide (r.used + 1 < r.size)
/-- A ring just enabled: indices 0, PHASE 1 (R287). -/
def Ring.start (base code : Nat) : Ring := { base := base, size := ringSize code }
/-- The ring after one entry at a TB2 time, written under an AGG_TIME: PHASE inverts at the wrap (R267). -/
def Ring.pushed (r : Ring) (now agg : Nat) : Ring :=
  { r with tail := if r.tail + 1 = r.size then 0 else r.tail + 1, phase := if r.tail + 1 = r.size then !r.phase else r.phase,
           ages := r.ages ++ [(now, agg)] }
/-- May the head move to h: forward from its value up to the tail and no further (R257)? -/
def Ring.headOk (r : Ring) (h : Nat) : Bool := decide (h < r.size) && decide ((h + r.size - r.head) % r.size ≤ r.used)
/-- The head moves; a ring made empty clears its cause (R276). -/
def Ring.consumed (r : Ring) (h : Nat) : Ring :=
  let n := (h + r.size - r.head) % r.size
  { r with head := h, ages := r.ages.drop n, cause := if h = r.tail then false else r.cause }

/-- Is there a completion entry for one more command: one free entry stays for ABORTED_RANGE (R260)? -/
def Queue.cqRoom (x : Queue) : Bool := decide (x.cq.used + x.cmds.length + 2 < x.cq.size)

/-! ## Events -/

/-- Does a function take writes to host memory: not during its Function Level Reset (R313)? -/
def Dev.mayWrite (d : Dev) (f : Nat) : Bool := (d.fn f).flrAt.isNone

/-- Write an event to a function's ring, or lose it (R268, R270). Answers whether it was written. -/
def Dev.evtPush (d : Dev) (f type dw2 dw3 dw4 dw5 : Nat) : Bool × Dev :=
  let fn := d.fn f
  let seq := (fn.evtSeq + 1) % 65536
  if fn.evtActive && d.mayWrite f && fn.evt.hasRoom then
    let r := fn.evt.pushed d.tb2 fn.evtAgg
    let at_ := fn.evt.base + 32 * fn.evt.tail
    let d := d.toHost at_ 32 (.hostWrite at_ (eventDws d.tb0 dw2 dw3 dw4 dw5 type fn.evt.phase fn.lostFlag seq))
    let d := d.modFn f (fun x => { x with evtSeq := seq, lostFlag := false, evt := { r with cause := r.cause || fn.evtAgg == 0 } })
    (true, d.count 3015)
  else
    let d := d.modFn f (fun x => { x with evtSeq := seq, lostFlag := true, evtLost := satAdd x.evtLost 1 16 })
    (false, (d.setLeaf f 0x110 4).count 3016)

/-- Where the FAULT event of an instance goes besides PF0 (R322); a queue scope of 64 + f is function f's admin queue (log entry 61). -/
def Dev.scopeFn (d : Dev) (n scope : Nat) : Nat :=
  match srcKind n with
  | 3 => d.owner 0 (scope % 512)
  | 4 => if scope < 64 then (d.queue scope).domain else if scope < 80 then scope - 64 else 0
  | 5 => if scope < 16 then scope else 0
  | _ => 0

/-- The functions a FAULT event is written to. -/
def Dev.faultDests (d : Dev) (n scope : Nat) : List Nat :=
  let f := d.scopeFn n scope
  if f = 0 then [0] else [0, f]

/-- One FAULT event to one function; FLT_MISC [0] where it is written (R269, R338). -/
def Dev.faultPush (d : Dev) (f n scope : Nat) (current inj : Bool) : Bool × Dev :=
  let (ok, d) := d.evtPush f 4 (faultDw2 n current inj) scope (d.src n).count 0
  (ok, if ok then d.setLeaf f 0x12C 1 else d)

/-- An ERR_N pulse starts or restarts (R335). -/
def Dev.errPulse (d : Dev) : Dev :=
  let d := if d.flt.errEnd.isNone then d.setLeaf 0 0x12C 8 else d
  { d with flt := { d.flt with errEnd := some (d.tb2 + d.flt.errPw * 1000) } }

/-- The instance of a source, noted or updated at an occurrence (R328). -/
def Src.noteInst (s : Src) (scope now : Nat) (full : Bool) : Src :=
  let old := (s.insts.find? (fun i => i.scope == scope)).getD {}
  let i : Inst := { scope := scope, since := if s.currentAt scope then none else some now, full := old.full || full }
  { s with insts := i :: s.insts.filter (fun x => x.scope != scope) }

/-- Status, count, timestamps and ERR_N of an occurrence (R321, R325, R335). -/
def Dev.mark (d : Dev) (n scope : Nat) (inj : Bool) : Dev :=
  let now := d.tb2
  let full := !inj || d.flt.injAct
  let d := d.modSrc n (fun s =>
    let s := { s with latched := true, real := s.real || !inj, inj := s.inj || inj, count := satAdd s.count 1 16,
                      first := if s.count = 0 then now else s.first, last := now }
    if srcRecovers n || srcClass n == 2 then s.noteInst scope now full else s)
  if (srcClass n == 1 || srcClass n == 2) && d.srcErrEn n then d.errPulse else d

/-- An occurrence of FS68 for a function: its own lost FAULT event is no further occurrence (R270). -/
def Dev.eventLost (d : Dev) (f : Nat) : Dev :=
  let d := d.mark 68 f false
  if d.srcEvtEn 68 then (d.faultDests 68 f).foldl (fun d g => (d.faultPush g 68 f ((d.src 68).currentAt f) false).2) d else d

/-- Write an event to a function; a loss is an occurrence of FS68 (R270). -/
def Dev.evt (d : Dev) (f type dw2 dw3 dw4 dw5 : Nat) : Dev :=
  let (ok, d) := d.evtPush f type dw2 dw3 dw4 dw5
  if ok then d else d.eventLost f

/-- The FAULT events of an instance (R321, R322). -/
def Dev.faultEvents (d : Dev) (n scope : Nat) (current inj : Bool) : Dev :=
  if d.srcEvtEn n then
    (d.faultDests n scope).foldl (fun d f =>
      let (ok, d) := d.faultPush f n scope current inj
      if ok || n == 68 then d else d.eventLost f) d
  else d

/-- The signalling actions of an occurrence (R321); FS90 has a leaf cause of its own (R338). -/
def Dev.signal (d : Dev) (n scope : Nat) (inj : Bool) : Dev :=
  if srcReserved n then d
  else
    let d := d.mark n scope inj
    let d := if n = 90 then d.setLeaf 0 0x1D0 4 else d
    d.faultEvents n scope (d.src n).current inj

/-- A single error of a source: one occurrence with no standing condition (R325). -/
def Dev.once (d : Dev) (n scope : Nat) : Dev := d.signal n scope false

/-- The condition of an instance rises: an occurrence, unless it is present already (R325). -/
def Dev.condOn (d : Dev) (n scope : Nat) : Dev :=
  if (d.src n).conds.contains scope then d
  else (d.modSrc n (fun s => { s with conds := scope :: s.conds })).signal n scope false

/-- The condition of an instance ends; its quiet time starts (R328). -/
def Dev.condOff (d : Dev) (n scope : Nat) : Dev :=
  let now := d.tb2
  d.modSrc n (fun s =>
    let s := { s with conds := s.conds.filter (· != scope) }
    { s with insts := s.insts.map (fun i => if i.scope = scope ∧ !s.currentAt scope ∧ i.since.isNone then { i with since := some now } else i) })

/-! ## Completions -/

/-- Write one completion entry to the CQ of an I/O queue: ring order, cause, counters (R263, R267, R276). -/
def Dev.cqPush (d : Dev) (q : Nat) (c : Comp) (imm : Bool) : Dev :=
  let qu := d.queue q
  let at_ := qu.cq.base + 32 * qu.cq.tail
  let d := d.toHost at_ 32 (.hostWrite at_ (c.dws qu.head q false qu.cq.phase))
  let r := qu.cq.pushed d.tb2 qu.aggTime
  let r := { r with cause := r.cause || imm || decide (max 1 qu.aggCount ≤ r.used) }
  ((d.modQueue q (fun x => { x with cq := r })).count (2816 + q)).count 3014

/-- Write one completion entry to the admin CQ of a function (R276). -/
def Dev.acqPush (d : Dev) (f : Nat) (c : Comp) : Dev :=
  let fn := d.fn f
  if fn.aqActive && d.mayWrite f then
    let at_ := fn.acq.base + 32 * fn.acq.tail
    let d := d.toHost at_ 32 (.hostWrite at_ (c.dws fn.aqHead 0 true fn.acq.phase))
    let r := fn.acq.pushed d.tb2 0
    (d.modFn f (fun x => { x with acq := { r with cause := true } })).count 3014
  else d

/-- Nothing of a queue's is written to host memory while a reset aborts it (R308, R313). -/
def Queue.silent (q : Queue) : Bool :=
  match q.abort with
  | some a => a.kind == .reset
  | none => false

/-- The commit unit releases a fast lane: a pending claim takes it, else it is FREE (R188, R192). -/
def Dev.releaseLane (d : Dev) (k : Nat) : Dev :=
  d.modFl k (fun l =>
    if l.state = .reserved ∨ l.state = .verify then
      { l with state := if l.claimPend then .claimed else .free, claimPend := false, att := none }
    else l)

/-- A slot returns to FREE: its lanes are released, and its fields keep their last values (R77, R103). -/
def Dev.freeSlot (d : Dev) (k : Nat) : Dev :=
  let d := (d.slot k).lanes.foldl Dev.releaseLane d
  d.modSlot k (fun s => { s with state := .free, lanes := [], locks := [], masked := false, heldBy := none, rolls := [] })

/-- The slot that holds a command. -/
def Dev.slotOf (d : Dev) (q idx : Nat) : Option Nat :=
  (List.range 16).find? (fun k => (d.slot k).state != .free && (d.slot k).queue == q && (d.slot k).idx == idx)

/-- A batch that has not committed. -/
def SlotSt.uncommitted (s : SlotSt) : Bool := s == .routing || s == .held || s == .staging || s == .staged

/-- Forget commands that are returned or discarded: their slots are freed and their waiting work ends (R303, R308). -/
def Dev.dropCmds (d : Dev) (q : Nat) (gone : Nat → Bool) : Dev :=
  let mine := fun (q' idx : Nat) => q' == q && gone idx
  let d := (List.range 16).foldl (fun d k =>
    if (d.slot k).state.uncommitted && mine (d.slot k).queue (d.slot k).idx then d.freeSlot k else d) d
  let js := d.jobs
  let d := { d with jobs := { js with att := js.att.filter (fun j => !mine j.q j.idx), lm := js.lm.filter (fun j => !mine j.q j.idx),
                                      snap := js.snap.filter (fun j => !mine j.q j.idx) } }
  d.modQueue q (fun x => { x with cmds := x.cmds.filter (fun c => !gone c.idx) })

/-- The queue stalls after the command at idx: later commands are returned, and a QUEUE_STALLED event follows the completion (R301, R303). -/
def Dev.stallAt (d : Dev) (q idx : Nat) : Dev :=
  let d := d.dropCmds q (fun _ => true)
  d.modQueue q (fun x => { x with state := .stalled, head := (idx + 1) % x.sqSize })

/-- Write the completion of the first command in the ring, if it is done; a stalling one stalls an ENABLED queue (R290, R300, R303). -/
def Dev.drain1 (d : Dev) (q : Nat) : Dev :=
  match (d.queue q).cmds with
  | [] => d
  | c :: rest =>
    match c.done with
    | none => d
    | some comp =>
      let st := c.stalls && (d.queue q).state == .enabled
      let d := d.modQueue q (fun x => { x with cmds := rest })
      let d := match d.slotOf q c.idx with
        | some k => d.freeSlot k
        | none => d
      let d := if st then d.stallAt q c.idx else d
      let d := if (d.queue q).silent then d else d.cqPush q comp (sqeImm c.sqe)
      if st then d.evt (d.queue q).domain 5 (pack [(q, 0), (comp.statusOut, 8), (comp.cid, 16)]) c.idx 0 0 else d

/-- Write every completion that is due, in ring order. -/
def Dev.drain (d : Dev) (q : Nat) : Dev := (List.range (d.queue q).cmds.length).foldl (fun d _ => d.drain1 q) d

/-- Bit [1] of BATCH_FLAGS in a CONNECT_BATCH or CELL_DIRECT entry (R41, R301). -/
def sqeStop (s : Sqe) : Bool := (sqeOp s == 1 || sqeOp s == 7) && bitOf (sqeField s 26 2) 1

/-- A command of an I/O queue completes: it has taken effect, and its completion is written in ring order. -/
def Dev.complete (d : Dev) (q idx : Nat) (comp : Comp) : Dev :=
  let d := d.modQueue q (fun x => x.modCmd idx (fun c =>
    { c with executed := true, effect := true, done := some { comp with cid := sqeCid c.sqe },
             stalls := sqeStop c.sqe && !(comp.status == stOk) }))
  d.drain q

/-- The completion of a plain status. -/
def statusComp (st : Nat) : Comp := { status := st }

/-- The admin command of a function at idx ends: its completion is written, or none where the pair was disabled meanwhile (R280, R469). -/
def Dev.adminDone (d : Dev) (f idx : Nat) (comp : Comp) : Dev :=
  match (d.fn f).orphans.find? (fun c => c.idx == idx) with
  | some _ => d.modFn f (fun x => { x with orphans := x.orphans.filter (fun c => c.idx != idx) })
  | none =>
    match (d.fn f).cmds.find? (fun c => c.idx == idx) with
    | none => d
    | some c =>
      let d := d.modFn f (fun x => { x with cmds := x.cmds.filter (fun c => c.idx != idx) })
      d.acqPush f { comp with cid := sqeCid c.sqe }

/-! ## Interrupts and pins -/

/-- A message of a function is due: sent, or pending while the vector or the function is masked (R275). -/
def Dev.message (d : Dev) (f : Nat) : Dev :=
  if (d.fn f).msixMask || (d.fn f).cfg.fnMask then d.modFn f (fun x => { x with msixPend := true })
  else if d.mayWrite f then (d.send (.msix f)).count 3017 else d

/-- The functions that exist: PF0 and the enabled VFs. -/
def Dev.fnList (d : Dev) : List Nat := List.range (d.io.numVfs + 1)

/-- Drive a pin that has changed. -/
def Dev.pinTo (d : Dev) (name : String) (old new : Bool) : Dev := if old = new then d else d.send (.pin name new)

/-- ERR_N is driven low: during a pulse or by SW, released before the supervisor's boot (R335). -/
def Dev.errLow (d : Dev) : Bool :=
  !(d.pwr.phase == .dawn && decide (d.pwr.step ≤ 1)) && (d.flt.errEnd.isSome || d.flt.errSw)

/-- After any change: messages of the views whose ATN_SUM has become non-zero, and the levels of ATTN_N, ERR_N and LIGHT_PERMIT. -/
def Dev.notify (d : Dev) : Dev :=
  let on := d.fnList.filter (fun f => decide (d.atnSum f ≠ 0))
  let d := (on.filter (fun f => !d.io.atnOn.contains f)).foldl Dev.message d
  let attn := decide (d.atnSum 0 &&& (d.view 0).pinEn ≠ 0)
  let err := d.errLow
  let permit := d.permitOk
  let d := d.pinTo "ATTN_N" (!d.io.attn) (!attn)
  let d := d.pinTo "ERR_N" (!d.flt.errN) (!err)
  let d := d.pinTo "LIGHT_PERMIT" d.flt.permit permit
  { d with io := { d.io with atnOn := on, attn := attn }, flt := { d.flt with errN := err, permit := permit } }

/-- A command's effect on the control side alone. -/
def finish (s : State) (d : Dev) : Host.Outcome State Fault Refusal := .next { s with d := d.notify }

/-- A command whose event does not occur in this state, or whose write is ignored: nothing changes (log entry 11). -/
def ignored (s : State) : Host.Outcome State Fault Refusal := .next s

/-! ## Host accesses -/

/-- Does a host access by a function reach the device: powered and clocked, D0 ended, link up, the function enabled and not in reset
(R412, R313, R314, R316)? -/
def Dev.reach (d : Dev) (f : Nat) : Bool :=
  d.clocked && !(d.pwr.phase == .dawn && d.pwr.step == 0) && d.io.linkUp && !d.io.perst && (d.fn f).flrAt.isNone &&
  decide (f ≤ d.io.numVfs) && (f == 0 || d.io.vfHeld.isNone)

/-- A host access as it crosses the bus matrix by M0's inbound channel: BAR2's tables lie in T0, all else behind T2 (R417, R427). -/
def Dev.inbound (d : Dev) (write : Bool) (bar addr len : Nat) : Dev :=
  (d.count (if write then 3021 else 3020)).bus 9 write (if bar = 2 ∧ addr < 0x1000000 then 0 else 2) addr len

/-- A host write of a BAR by function f: counted (R431), then carried out. -/
def hostWrBar (s : State) (f bar addr len : Nat) (g : Dev → Dev) : Host.Outcome State Fault Refusal :=
  if s.d.reach f then finish s (g (s.d.inbound true bar addr len)) else ignored s

/-- A host write of a register by function f, at a BAR0 offset. -/
def hostWr (s : State) (f addr : Nat) (g : Dev → Dev) : Host.Outcome State Fault Refusal := hostWrBar s f 0 addr 4 g

/-- A host write to a block that only PF0's BAR0 shows (R251). -/
def pf0Wr (s : State) (f addr : Nat) (g : Dev → Dev) : Host.Outcome State Fault Refusal :=
  hostWr s f addr (fun d => if f = 0 then g d else d)

/-- Is an access to function f answered with zeros: its Function Level Reset runs (R313)? -/
def Dev.inFlr (d : Dev) (f : Nat) : Bool :=
  d.clocked && d.io.linkUp && !d.io.perst && (d.fn f).flrAt.isSome && decide (f ≤ d.io.numVfs)

/-- A host read of a BAR by function f: its answer is sent (R440, R441); during the function's reset it is 0 (R313). -/
def hostRd (s : State) (f bar addr len : Nat) (g : Dev → Nat × Dev) : Host.Outcome State Fault Refusal :=
  if s.d.reach f then
    let (v, d) := g (s.d.inbound false bar addr len)
    finish s (d.send (.readData f v))
  else if s.d.inFlr f then finish s (s.d.send (.readData f 0))
  else ignored s

end Sys2Proof.Machine
end

