-- ==== Sys2Proof/Machine/Matrix.lean ====
section
/-!
DEFINITION. The internal bus matrix (R417 to R429): sub-bursts, their arbitration with ageing QoS, outstanding limits, reads held back behind writes,
and the reset of a master; and the weighted round-robin by which fetches start (R258).
-/
namespace Sys2Proof.Machine

/-! ## Sub-bursts (R418) -/

/-- The address of the next sub-burst. -/
def Burst.next (b : Burst) : Nat := b.addr + b.granted
/-- The bytes of the next sub-burst: at most 256, up to the next 256-byte boundary. -/
def Burst.piece (b : Burst) : Nat := min (b.len - b.granted) (256 - b.next % 256)
/-- The arbitration point of the next sub-burst: each bank of T0, and each other target (R417). -/
def Burst.point' (b : Burst) : Nat := if b.target = 0 then b.next / 256 % 16 else 15 + b.target
/-- Reads and writes travel on channels of their own (R423). -/
def Burst.channel (b : Burst) (point : Nat) : Nat := 2 * point + b2n b.write
/-- Beats of 64 bytes that the next sub-burst takes. -/
def Burst.pieceBeats (b : Burst) : Nat := (b.next % 64 + b.piece + 63) / 64
/-- Every sub-burst has been granted and is complete. -/
def Burst.out (b : Burst) : Bool := decide (b.len ≤ b.granted) && b.beats == 0
/-- Sub-bursts that a burst has still to be granted. -/
def Burst.ungranted (b : Burst) : Nat := if b.len ≤ b.granted then 0 else (b.addr + b.len - 1) / 256 - b.next / 256 + 1
/-- Of one master and one channel: in issue order between themselves. -/
def Burst.rival (a b : Burst) : Bool := a.master == b.master && a.write == b.write

/-! ## Arbitration (R419, R421, R422) -/

/-- Reset QoS of the masters, M0's inbound channel last (R417). -/
def qosReset (m : Nat) : Nat := [8, 8, 4, 12, 14, 2, 10, 1, 6, 12].getD m 0
/-- A master's QoS. -/
def Bmx.qosOf (b : Bmx) (m : Nat) : Nat := (b.qos.get none m).getD (qosReset m)
/-- Outstanding reads or writes of a master, at most (R417). -/
def outLimit (m : Nat) (write : Bool) : Nat := if write || m == 9 then 32 else 64
/-- A master's place in the round-robin order: M0, its inbound channel, M1 to M8. -/
def rrPlace (m : Nat) : Nat := if m = 0 then 0 else if m = 9 then 1 else m + 1

/-- Is a read held back: it shares a 256-byte block with a write of its master that has not been acknowledged (R422)? -/
def Traffic.holds (t : Traffic) (b : Burst) : Bool :=
  !b.write && t.bursts.any (fun a => a.write && a.master == b.master && a.target == b.target && decide (0 < a.len) && decide (0 < b.len) &&
    decide (a.addr / 256 ≤ (b.addr + b.len - 1) / 256) && decide (b.addr / 256 ≤ (a.addr + a.len - 1) / 256))

/-- Does the burst at a place of the list wait for a grant: within its master's outstanding limit, not held back, no sub-burst of it in progress, and
at the head of its master's queue for its point? T3 takes none without link credits (R421 to R424). -/
def Traffic.waits (t : Traffic) (link : Bool) (i : Nat) (b : Burst) : Bool :=
  let before := (t.bursts.take i).filter (·.rival b)
  b.beats == 0 && decide (b.granted < b.len) && !b.dead && (b.target != 3 || link) && decide (before.length < outLimit b.master b.write) &&
  !before.any (fun a => decide (a.granted < a.len) && a.point' == b.point') && !t.holds b

/-- The effective QoS of a waiting sub-burst (R419). -/
def Burst.effective (b : Burst) (x : Bmx) : Nat := max (x.qosOf b.master) (min 15 (x.qosOf b.master + b.wait / 256))

/-- Is a preferred to b at a point whose last grant went to the master in a place of the round-robin order (R419)? -/
def Burst.before (a b : Burst) (x : Bmx) (last : Nat) : Bool :=
  let dist := fun (c : Burst) => (rrPlace c.master + 9 - last) % 10
  decide (b.effective x < a.effective x) || (a.effective x == b.effective x && decide (dist a < dist b))

/-- The grants of one CCLK edge, by place in the list: one at every channel that has none in progress. -/
def Traffic.grants (t : Traffic) (x : Bmx) (waiting : List (Nat × Burst)) : List Nat :=
  (waiting.filter (fun p =>
    let ch := p.2.channel p.2.point'
    !t.bursts.any (fun a => a.beats != 0 && a.channel a.point == ch) &&
    waiting.all (fun q => q.1 == p.1 || q.2.channel q.2.point' != ch || p.2.before q.2 x (t.last.getD ch 9)))).map (·.1)

/-- A burst as its next sub-burst is granted. -/
def Burst.grant (b : Burst) : Burst := { b with granted := b.granted + b.piece, point := b.point', beats := b.pieceBeats, wait := 0 }

/-- The beats of one CCLK edge; a burst that is complete has ended, but a fetch lasts until its data has come (R421). -/
def Traffic.beat (t : Traffic) : Traffic :=
  { t with bursts := (t.bursts.map (fun b => { b with beats := b.beats - 1 })).filter (fun b => !b.out || b.fetch.isSome) }

/-- One CCLK edge of the matrix: beats, grants and waiting, with their counters (R431); the inbound channel of M0 has none (R430). -/
def Dev.matrixEdge (d : Dev) : Dev :=
  if d.mtx.bursts.isEmpty then d
  else
    let t := d.mtx.beat
    let waiting := t.bursts.zipIdx.filterMap (fun (p : Burst × Nat) => if t.waits d.io.linkUp p.2 p.1 then some (p.2, p.1) else none)
    let got := t.grants d.bmx waiting
    let bursts := t.bursts.zipIdx.map (fun (p : Burst × Nat) =>
      if got.contains p.2 then p.1.grant else if waiting.any (fun w => w.1 == p.2) then { p.1 with wait := p.1.wait + 1 } else p.1)
    let won := waiting.filter (fun p => got.contains p.1)
    let last := won.foldl (fun (l : List Nat) p => l.set (p.2.channel p.2.point') (rrPlace p.2.master)) t.last
    let d := { d with mtx := { t with bursts := bursts, last := last } }
    waiting.foldl (fun d p =>
      let b := p.2
      let k := 2976 + 4 * b.master
      if b.master = 9 then d
      else if got.contains p.1 then d.count (k + b2n b.write)
      else if (b.wait + 1) % 256 = 0 ∧ d.bmx.qosOf b.master + (b.wait + 1) / 256 ≤ 15 then d.count (k + 2)
      else d) d

/-! ## Reset of a master (R428) -/

/-- Some bursts are reset: what is not granted of them is abandoned, granted sub-bursts complete, and a host read that is out stays outstanding
until it ends. -/
def Dev.resetBursts (d : Dev) (p : Burst → Bool) : Dev :=
  let gone := d.mtx.bursts.filter p
  let cut := fun (b : Burst) => if !p b then some b else if b.granted = 0 then none else some { b with len := b.granted, dead := true }
  let d := { d with mtx := { d.mtx with bursts := d.mtx.bursts.filterMap cut } }
  gone.foldl (fun d b => if b.master < 9 then d.countN (2976 + 4 * b.master + 3) b.ungranted else d) d

/-- The link is lost: no burst to or from host memory is left. -/
def Dev.dropHostBursts (d : Dev) : Dev := { d with mtx := { d.mtx with bursts := d.mtx.bursts.filter (fun b => b.target != 3) } }

/-! ## Weighted round-robin (R258, R50) -/

/-- The next queue of a round-robin among the ready ones, given in rising order: after the one served last, each as often in a round as its weight
says; a round ends when every ready queue has had its share (log entry 24). -/
def Wrr.next (w : Wrr) (weight : Nat → Nat) (ready : List Nat) : Option (Nat × Wrr) :=
  let share := ready.filter (fun q => decide (w.spent.count q < weight q))
  let pool := if share.isEmpty then ready else share
  let pick := match pool.find? (fun q => decide (w.last < q)) with
    | some q => some q
    | none => pool.head?
  pick.map (fun q => (q, { last := q, spent := q :: (if share.isEmpty then [] else w.spent) }))

/-! ## Fetches -/

/-- Queues are fetched from D8 until Dusk (R412, R415). -/
def Dev.fetching (d : Dev) : Bool := d.clocked && d.pwr.done && (d.pwr.phase == .run || d.pwr.phase == .dawn) && d.io.linkUp

/-- Would the queue manager read the next entry of an I/O queue (R258, R260, R300, R304)? A flush goes on once earlier commands have completed; no
entry is read behind one that stalls the queue. -/
def Dev.ioFetch (d : Dev) (q : Nat) : Bool :=
  let x := d.queue q
  okQueue q && d.fetching && d.mayWrite x.domain && x.cqRoom && !x.cmds.any (·.stalls) &&
  (match x.state, x.flushTo with
   | .enabled, _ => x.head != x.tail
   | .stalled, some t => x.head != t && x.cmds.isEmpty
   | _, _ => false)

/-- The fetch of a queue that is in flight: the oldest, where a reset has left one outstanding. -/
def Traffic.fetchOf (t : Traffic) (q : Nat) : Option Burst := t.bursts.find? (fun b => b.fetch == some q)
/-- The fetch of a queue has ended. -/
def Dev.endFetch (d : Dev) (q : Nat) : Dev :=
  { d with mtx := { d.mtx with bursts := d.mtx.bursts.eraseP (fun b => b.fetch == some q) } }

/-- The queues that could be fetched next, in rising order: within one queue, fetches are made one at a time. -/
def Dev.fetchable (d : Dev) : List Nat :=
  (d.io.queues.map (·.1)).filter (fun q => d.ioFetch q && d.mtx.bursts.all (fun b => b.fetch != some q || b.dead))

/-- Start fetches by weighted round-robin while fewer than 16 are in flight and M0 has a read to spare (R258). -/
def Dev.startFetches : Nat → Dev → Dev
  | 0, d => d
  | k + 1, d =>
    if 16 ≤ (d.mtx.bursts.filter (fun b => b.fetch.isSome)).length ∨ 64 ≤ (d.mtx.bursts.filter (fun b => b.master == 0 && !b.write)).length then d
    else match d.mtx.qm.next (fun q => (d.queue q).qosW) d.fetchable with
      | none => d
      | some (q, w) =>
        let x := d.queue q
        startFetches k (({ d with mtx := { d.mtx with qm := w } }).bus 0 false 3 (x.sqBase + 64 * x.head) 64 (some q))

/-- What the device does by itself on one CCLK edge: the matrix moves, and fetches start. -/
def Dev.busEdge (d : Dev) : Dev := if d.clocked then d.matrixEdge.startFetches 16 else d

/-- An idle step: the clocks advance by one CCLK edge, and the bus matrix with them (log entries 2, 78). -/
def idleEdge (s : State) : State :=
  let s := clockEdge s
  { s with d := s.d.busEdge }

end Sys2Proof.Machine
end

