-- ==== Sys2Proof/Machine/Operands.lean ====
section
/-!
DEFINITION. Operand forms: which bits of a submission entry each opcode defines (R261, R262), the fields of each command and of its payload
entries (R40, R43, R65, R69, R71, R163, R220, R230, R277 to R286).
-/
namespace Sys2Proof.Machine

/-- The defined bits of the common bytes: OPCODE, IMM_IRQ, CID (R261). -/
def commonFields : List (Nat × Nat) := [(0, 8), (8, 1), (16, 16)]

/-- Bits that an opcode defines beyond the common bytes: lowest bit and width. An undefined opcode has none. -/
def opFields (op : Nat) : List (Nat × Nat) :=
  if op = 0x01 then [(64, 64), (128, 64), (192, 16), (208, 4)]
  else if op = 0x02 then [(64, 64), (192, 16), (208, 1)]
  else if op = 0x03 then [(64, 8)]
  else if op = 0x04 then [(64, 64), (128, 16), (144, 16)]
  else if op = 0x05 then [(64, 64), (128, 16), (144, 8), (152, 8), (160, 16), (176, 6), (192, 128)]
  else if op = 0x06 then [(64, 64), (128, 32), (160, 8), (192, 64)]
  else if op = 0x07 then [(64, 64), (128, 64), (192, 16), (208, 3)]
  else if op = 0x08 then [(64, 64), (192, 16)]
  else if op = 0x09 then [(64, 64), (128, 8), (160, 32), (192, 32)]
  else if op = 0x40 then [(64, 64), (128, 64), (192, 8), (200, 8), (208, 8), (216, 8), (224, 16), (240, 8), (248, 1)]
  else if op = 0x41 then [(64, 8)]
  else if op = 0x42 then [(64, 8), (72, 8), (80, 8)]
  else if op = 0x43 then [(64, 8), (72, 8), (80, 16), (96, 16), (112, 8), (128, 16)]
  else if op = 0x44 then [(64, 64), (128, 32), (160, 8)]
  else if op = 0x45 then [(64, 64), (128, 32), (160, 8), (192, 64), (256, 32)]
  else []

/-- Every bit of the entry that its opcode leaves reserved is 0 (R261). -/
def sqeClean (s : Sqe) : Bool :=
  let def_ := ((commonFields ++ opFields (sqeOp s)).map (fun p => (2 ^ p.2 - 1) * 2 ^ p.1)).sum
  s.toNat &&& (2 ^ 512 - 1 - def_) == 0

/-- Opcodes of an I/O queue and of an admin queue (R262). -/
def ioOpcode (op : Nat) : Bool := decide (1 ≤ op) && decide (op ≤ 0x0A)
def adminOpcode (op : Nat) : Bool := decide (0x40 ≤ op) && decide (op ≤ 0x45)

/-- Bytes that a command asks to be read as its payload or buffer before it executes; 0 where its fields ask for none (R258, R259). -/
def payloadBytes (s : Sqe) : Nat :=
  let op := sqeOp s
  if op = 1 ∨ op = 2 ∨ op = 7 ∨ op = 8 then 8 * sqeField s 24 2
  else if op = 9 then 8 * sqeField s 24 4
  else if op = 0x44 ∧ sqeField s 20 1 ≠ 1 then sqeField s 16 4
  else 0

/-! ## Commands with an entry list -/

def sqeAddr (s : Sqe) : Nat := sqeField s 8 8
def sqeCount (s : Sqe) : Nat := sqeField s 24 2
def sqeFlags (s : Sqe) : Nat := sqeField s 26 2
def sqeTime (s : Sqe) : Nat := sqeField s 16 8

/-- PAYLOAD_ADDR a multiple of 8, ENTRY_COUNT 1 to 512, reserved bits clear (R48 step 1). -/
def listFieldsOk (s : Sqe) : Bool :=
  sqeClean s && sqeAddr s % 8 == 0 && decide (1 ≤ sqeCount s) && decide (sqeCount s ≤ 512)

/-- An entry of CONNECT_BATCH (R43). -/
structure BatchEnt where
  typ : Nat
  pinNew : Bool
  inp : Nat
  out : Nat
  out2 : Nat
  oatt : Nat
  rsv : Nat
deriving DecidableEq, Repr

def batchEnt (w : DWord) : BatchEnt :=
  let n := w.toNat
  { typ := n % 16, pinNew := bitOf n 4, inp := fieldOf n 8 9, out := fieldOf n 17 9, out2 := fieldOf n 26 9, oatt := fieldOf n 35 9,
    rsv := fieldOf n 5 3 + fieldOf n 44 20 }

/-- Reserved values and bits of a CONNECT_BATCH entry (R43). -/
def BatchEnt.ok (e : BatchEnt) : Bool :=
  decide (1 ≤ e.typ) && decide (e.typ ≤ 6) && e.rsv == 0 && (!e.pinNew || e.typ == 1) && (e.out2 == 0 || e.typ == 3 || e.typ == 4) &&
  (decide (e.oatt ≤ 500) || e.oatt == 511)

/-- An entry of ATTEN_SET (R65). -/
structure AttEnt where
  port : Nat
  side : Nat
  att : Nat
  rsv : Nat
deriving DecidableEq, Repr

def attEnt (w : DWord) : AttEnt :=
  let n := w.toNat
  { port := n % 512, side := fieldOf n 9 1, att := fieldOf n 16 9, rsv := fieldOf n 10 6 + fieldOf n 25 39 }

def AttEnt.ok (e : AttEnt) : Bool := e.rsv == 0 && (decide (e.att ≤ 500) || e.att == 511)

/-- An entry of CELL_DIRECT (R71). -/
structure DirEnt where
  op : Nat
  ca : Nat
  value : Nat
  inp : Nat
  out : Nat
  rsv : Nat
deriving DecidableEq, Repr

def dirEnt (w : DWord) : DirEnt :=
  let n := w.toNat
  { op := n % 16, ca := fieldOf n 8 15, value := fieldOf n 23 3, inp := fieldOf n 32 9, out := fieldOf n 41 9,
    rsv := fieldOf n 4 4 + fieldOf n 26 6 + fieldOf n 50 14 }

/-- Reserved values and bits of a CELL_DIRECT entry; fields its OP does not use are 0 (R71). -/
def DirEnt.ok (e : DirEnt) : Bool :=
  let cell := isSwitchCa e.ca && decide (e.ca < 16384) && e.inp == 0 && e.out == 0
  e.rsv == 0 &&
  (if e.op = 1 then cell && decide (e.value ≤ 2)
   else if e.op = 2 then cell && (e.value == 1 || e.value == 2)
   else if e.op = 3 then cell && e.value == 0
   else if e.op = 4 ∨ e.op = 5 then e.ca == 0 && e.value == 0
   else false)

/-- An entry of LOOP_MODE (R163). -/
structure LoopEnt where
  op : Nat
  mode : Nat
  flag : Bool
  aa : Nat
  twin : Bool
  code : Nat
  rsv : Nat
deriving DecidableEq, Repr

def loopEnt (w : DWord) : LoopEnt :=
  let n := w.toNat
  { op := n % 16, mode := fieldOf n 4 3, flag := bitOf n 7, aa := fieldOf n 8 17, twin := bitOf n 25, code := fieldOf n 32 16,
    rsv := fieldOf n 26 6 + fieldOf n 48 16 }

/-- The actuators a SET_MODE or SET_CODE entry names: the twin has bit 16 of the AA inverted (R163). -/
def LoopEnt.aas (e : LoopEnt) : List Nat :=
  if e.twin then [e.aa, if e.aa < 65536 then e.aa + 65536 else e.aa - 65536] else [e.aa]

/-- Output port of a BALANCE entry. -/
def LoopEnt.out (e : LoopEnt) : Nat := e.aa % 512

/-- The completion of an opcode with a status and nothing else to report: FAIL_IDX and VER_FAIL_OUT read 0x3FF (R264). -/
def baseComp (op st : Nat) : Comp :=
  if op = 1 ∨ op = 7 then { status := st, dw2 := 0x3FF, dw5 := 0x3FF0000 }
  else if op = 2 ∨ op = 8 then { status := st, dw2 := 0x3FF }
  else { status := st }

/-- A failure of a batch before its Midnight, or of an entry of ATTEN_SET or LOOP_MODE: FAIL_IDX and the conflict (R49, R56, R264). -/
def failComp (batch : Bool) (st idx kind cin cout ca : Nat) : Comp :=
  { status := st, dw2 := idx + kind * 1024, dw3 := cin + cout * 512, dw4 := ca, dw5 := if batch then 0x3FF0000 else 0 }

/-! ## Commands of their own form -/

/-- CAL_RUN (R230). -/
def calScope (s : Sqe) : Nat := sqeField s 18 1
def calAction (s : Sqe) : Nat := sqeField s 19 1
def calTarget (s : Sqe) : Nat := sqeField s 20 2
def calKinds (s : Sqe) : Nat := sqeField s 22 2
def calFlMask (s : Sqe) : Nat := sqeField s 24 16

/-- TARGET fits SCOPE (R230, R231). -/
def calTargetOk (scope target : Nat) : Bool :=
  if scope = 0 then decide (target < 336)
  else if scope = 1 then decide (target < 64) && (decide (target % 32 ≤ 16) || target % 32 == 30 || target % 32 == 31)
  else if scope = 2 then decide (target < 2)
  else scope == 3 && target == 0

/-- The tiles in scope, ascending. -/
def calTiles (scope target : Nat) : List Nat :=
  if scope = 0 then [target]
  else if scope = 1 then (List.range 336).filter (fun tn => caCol (tileBase tn) == target % 32 && tilePlane tn == target / 32)
  else if scope = 2 then (List.range 168).map (168 * target + ·)
  else List.range 336

/-- The field checks of CAL_RUN from domain 0 (R231). -/
def calFieldsOk (s : Sqe) : Bool :=
  sqeClean s && sqeAddr s % 8 == 0 && decide (calAction s ≤ 1) && calTargetOk (calScope s) (calTarget s) && calKinds s != 0 &&
  !(bitOf (calKinds s) 4 && calFlMask s == 0)

/-- QUERY_CONN (R69). -/
def queryFieldsOk (s : Sqe) : Bool :=
  sqeClean s && sqeAddr s % 16 == 0 && decide (1 ≤ sqeField s 18 2) && decide (sqeField s 16 2 + sqeField s 18 2 ≤ 512)

/-- Length in bytes of a SNAPSHOT record by its sections (R273, R437). -/
def recordLen (counters powers lock : Bool) : Nat :=
  64 + (if counters then 13120 else 0) + (if powers then 4096 else 0) + (if lock then 2688 else 0)

/-- SNAPSHOT's field checks for a domain (R278). -/
def snapFieldsOk (s : Sqe) (dom : Nat) : Bool :=
  let addr := sqeAddr s
  sqeClean s && addr % 64 == 0 && (addr != 0 || dom == 0) && decide (sqeField s 20 1 ≤ 2) &&
  (addr == 0 || decide (recordLen (dom == 0) true (dom == 0) ≤ sqeField s 16 4))

/-- QUEUE_CREATE's field checks (R281); the same hold for CREATE (R288). -/
def createFieldsOk (sqBase cqBase sqs cqs w : Nat) : Bool :=
  sqBase % 4096 == 0 && cqBase % 4096 == 0 && decide (sqs ≤ 12) && decide (cqs ≤ 12) && decide (1 ≤ w) && decide (w ≤ 15)

end Sys2Proof.Machine
end

