-- ==== Sys2Proof/Machine/Router.lean ====
section
/-!
DEFINITION. The route engine's search (R53 to R58, R467). A light path through the Beneš network from IN i to OUT o is fixed by eight free
choices: bit k of x tells which half of its level-k sub-network it uses, that is, the parity by which it leaves column Ck. All work is on the
cell addresses of plane A.
-/
namespace Sys2Proof.Machine

/-- A light path: its choices x, the first in bit 7; the other output where it is one branch of a bridge; whether it may move (R37). -/
structure RPath where
  inp : Nat
  out : Nat
  x : Nat
  split : Option Nat := none
  locked : Bool := false
  isNew : Bool := false
deriving DecidableEq, Repr

/-- Choice k of x, and the number of the level-k sub-network that the earlier choices lead to. -/
def choice (x k : Nat) : Nat := x / 2 ^ (7 - k) % 2
def subnet (x k : Nat) : Nat := x / 2 ^ (8 - k)

/-- The wire by which a path enters column c (R17, R18). -/
def RPath.wire (p : RPath) (c : Nat) : Nat :=
  if c ≤ 8 then subnet p.x c * 2 ^ (9 - c) + p.inp / 2 ^ c
  else
    let k := 16 - c
    subnet p.x k * 2 ^ (9 - k) + 2 * (p.out / 2 ^ (k + 1)) + choice p.x k

/-- The cell of a path in column c. -/
def RPath.cell (p : RPath) (c : Nat) : Nat := mkCa 0 c (p.wire c / 2)

/-- BAR or CROSS by whether two parities agree. -/
def swOfParity (a b : Nat) : Sw := if a % 2 = b % 2 then .bar else .cross

/-- The state a path needs in column c; SPLIT where its bridge divides (R57). -/
def RPath.state (p : RPath) (c : Nat) : Sw :=
  let plain :=
    if c ≤ 7 then swOfParity (p.inp / 2 ^ c) (choice p.x c)
    else if c = 8 then swOfParity (p.inp / 256) (p.out / 256)
    else swOfParity (choice p.x (16 - c)) (p.out / 2 ^ (16 - c))
  match p.split with
  | some o2 => if splitCol p.out o2 = c then .split else plain
  | none => plain

/-- The path's cells with the states it needs. -/
def RPath.cells (p : RPath) : List (Nat × Sw) := (List.range 17).map (fun c => (p.cell c, p.state c))

/-- The choices of an existing path, read from the switch states. -/
def choicesOf (sw : Nat → Sw) (i o : Nat) : Nat :=
  ((traceWith sw i o).take 8).foldl (fun x (ca, w) =>
    2 * x + (match sw ca with
      | .bar => w % 2
      | .cross => 1 - w % 2
      | .split => w % 2)) 0

/-- Barriers that a stage of R56 lifts. -/
structure Lift where
  domain : Bool := false
  foot : Bool := false
  pins : Bool := false
  forced : Bool := false
  tiles : Bool := false
  /-- No path may move at all: a ROLL without ALLOW_TWILIGHT (R62). -/
  noMove : Bool := false
deriving DecidableEq, Repr

/-- What the search works on: states, constraints, cells held in their state (R55, R211, R233), cells of later staged batches (R51), and
the paths routed so far. -/
structure RCtx where
  sw : Nat → Sw
  cons : Nat → Cons
  held : Nat → Bool
  late : Nat → Bool
  lift : Lift
  paths : List RPath

/-- Is the wire into a column used by a path? -/
def RCtx.used (r : RCtx) (c w : Nat) : Bool := r.paths.any (fun p => p.wire c == w)
/-- Does a cell carry light: a path on either input, or SPLIT, also where it has been freed (R53; log entry 12)? -/
def RCtx.lit (r : RCtx) (c idx : Nat) : Bool := r.sw (mkCa 0 c idx) == .split || r.paths.any (fun p => p.wire c / 2 == idx)
/-- May a cell be put into a state: constraints and held cells (R55)? -/
def RCtx.canSet (r : RCtx) (ca : Nat) (st : Sw) : Bool :=
  r.sw ca == st ||
  ((r.lift.forced || (match r.cons ca with
      | .free => true
      | .forcedBar => st == .bar
      | .forcedCross => st == .cross)) &&
   (r.lift.tiles || !r.held ca))
/-- May a new or moved path use a cell (R51)? -/
def RCtx.mayUse (r : RCtx) (ca : Nat) : Bool := r.lift.foot || !r.late ca

/-- May a new path take a cell in the state it needs, changing only cells that carry no light (R53, phase 1)? -/
def RCtx.fits (r : RCtx) (p : RPath) (c : Nat) : Bool :=
  let ca := p.cell c
  let w := p.wire c
  r.mayUse ca && !r.used c w &&
  (if r.lit c (w / 2) then r.sw ca == p.state c && p.state c != .split && r.sw ca != .split else r.canSet ca (p.state c))

/-- The choices at a free column in the order of the search: the present state first; a cell with light takes no other, by `fits` (R53). -/
def RCtx.order (r : RCtx) (p : RPath) (c : Nat) : List Nat :=
  let ca := p.cell c
  let pres := match r.sw ca with
    | .cross => 1 - p.inp / 2 ^ c % 2
    | _ => p.inp / 2 ^ c % 2
  [pres, 1 - pres]

/-- Set choice k of a path whose later choices are 0. -/
def RPath.choose (p : RPath) (k v : Nat) : RPath := { p with x := subnet p.x k * 2 ^ (8 - k) + v * 2 ^ (7 - k) }

/-- The depth-first search over columns from c, in order; a path is complete when every later column fits. -/
def RCtx.search (r : RCtx) : Nat → Nat → RPath → Option RPath
  | 0, _, p => if (List.range 9).all (fun j => r.fits p (8 + j)) then some p else none
  | n + 1, c, p =>
    let try_ := fun v => let q := p.choose c v; if r.fits q c then r.search n (c + 1) q else none
    match r.order p c with
    | [a, b] => (match try_ a with
      | some q => some q
      | none => try_ b)
    | _ => none

/-- The columns in which the branch of a bridge has cells of its own: the SPLIT cell and those after it (R58). -/
def branchCols (o o2 : Nat) : List Nat := (List.range 17).filter (fun c => decide (splitCol o o2 ≤ c))

/-- May a branch take its cell of one column with nothing moved? The SPLIT cell's other input is dark (R58). -/
def RCtx.branchColFits (r : RCtx) (p : RPath) (o c : Nat) : Bool :=
  if c = splitCol p.out o then
    let w := p.wire c
    !r.used c (if w % 2 = 0 then w + 1 else w - 1) && r.canSet (p.cell c) .split && r.mayUse (p.cell c)
  else r.fits p c

/-- May a branch take its cells with nothing moved? The SPLIT cell carries the bridged path alone (R58). Against the footprint of a later staged
batch (R51) it counts the SPLIT cell and the columns after it, not the prefix that the bridge shares (log entry 102). -/
def RCtx.branchFits (r : RCtx) (p : RPath) (o : Nat) : Bool :=
  (branchCols p.out o).all (r.branchColFits p o)

/-! ## The looping algorithm (R53, phase 2) -/

/-- A demand on a sub-network: a path and whether its choices are fixed. -/
abbrev Dem := RPath

/-- Must two demands of one level-k sub-network take different halves: they share an outer cell on different wires; or the same half: they
are branches of one bridge? -/
def demRel (k : Nat) (a b : Dem) : Option Bool :=
  if a.inp = b.inp then some true
  else if a.inp / 2 ^ (k + 1) = b.inp / 2 ^ (k + 1) ∨ a.out / 2 ^ (k + 1) = b.out / 2 ^ (k + 1) then some false
  else none

/-- Grow a loop: demands already in it with their halves relative to the first, demands outside. One demand is added at a time. -/
def growLoop (k : Nat) : Nat → List (Dem × Nat) → List Dem → List (Dem × Nat) × List Dem
  | 0, ins, outs => (ins, outs)
  | n + 1, ins, outs =>
    match outs.findSome? (fun o => ins.findSome? (fun (i, v) =>
        match demRel k i o with
        | some same => some (o, if same then v else 1 - v)
        | none => none)) with
    | none => (ins, outs)
    | some (o, v) => growLoop k n (ins ++ [(o, v)]) (outs.filter (fun d => !(d.inp == o.inp && d.out == o.out)))

/-- The loops of a level, in order of their first demand. -/
def loopsOf (k : Nat) : Nat → List Dem → List (List (Dem × Nat))
  | 0, _ => []
  | _, [] => []
  | n + 1, d :: ds =>
    let (l, rest) := growLoop k ds.length [(d, 0)] ds
    l :: loopsOf k n rest

/-- One orientation of a loop: the halves flipped by f. -/
def orient (f : Nat) (l : List (Dem × Nat)) : List (Dem × Nat) := l.map (fun (d, v) => (d, if f = 0 then v else 1 - v))

/-- A demand placed in a half of the level-k sub-network `id`. -/
def place (k id : Nat) (d : Dem) (v : Nat) : Dem := { d with x := id * 2 ^ (8 - k) + v * 2 ^ (7 - k) }

/-- Is an orientation consistent: demands that share a cell differ, branches agree, fixed ones keep their half, constraints hold? -/
def orientOk (r : RCtx) (k id : Nat) (l : List (Dem × Nat)) : Bool :=
  l.all (fun (d, v) =>
    l.all (fun (e, u) => (d.inp == e.inp && d.out == e.out) || (match demRel k d e with
      | some true => v == u
      | some false => v != u
      | none => true)) &&
    (!d.locked || choice d.x k == v) &&
    (let p := place k id d v
     (d.locked && !d.isNew) ||
      (r.canSet (p.cell k) (p.state k) && r.canSet (p.cell (16 - k)) (p.state (16 - k)) &&
       r.mayUse (p.cell k) && r.mayUse (p.cell (16 - k)))))

/-- Existing paths that stay in the inner sub-network they use now. -/
def retained (old : Dem → Option Nat) (k id : Nat) (l : List (Dem × Nat)) : Nat :=
  (l.filter (fun (d, v) => (old d).map (fun x => subnet x (k + 1)) == some (2 * id + v))).length

/-- The outer cells of a loop in ascending CA with the states an orientation gives them. -/
def outerCells (k id : Nat) (l : List (Dem × Nat)) : List (Nat × Sw) :=
  let cs := l.flatMap (fun (d, v) => let p := place k id d v; [(p.cell k, p.state k), (p.cell (16 - k), p.state (16 - k))])
  sortBy (fun a b => decide (a.1 ≤ b.1)) cs

/-- On a tie, does orientation 0 win: the first outer cell in BAR or CROSS keeps its state; with none, the lowest cell goes to BAR (R53)? -/
def tieFirst (r : RCtx) (k id : Nat) (l : List (Dem × Nat)) : Bool :=
  let cs := outerCells k id l
  match cs.find? (fun (ca, _) => r.sw ca != .split) with
  | some (ca, st) => r.sw ca == st
  | none => match cs with
    | (_, st) :: _ => st == .bar
    | [] => true

/-- The orientations of a loop to try, best first. A loop of existing paths that all stay where they are is left alone. -/
def orientations (r : RCtx) (old : Dem → Option Nat) (k id : Nat) (l : List (Dem × Nat)) : List (List (Dem × Nat)) :=
  let a := orient 0 l
  let b := orient 1 l
  let ka := retained old k id a
  let kb := retained old k id b
  let both := if kb < ka ∨ (ka = kb ∧ tieFirst r k id a) then [a, b] else [b, a]
  let ok := both.filter (orientOk r k id)
  match ok.find? (fun o => retained old k id o == l.length) with
  | some o => [o]
  | none => ok

/-- Try combinations of orientations, the first loop's best first. R53 names one orientation of each loop; where deeper levels or fixed paths
leave that one no solution, the search goes back to the other, then to further ways and larger sub-networks (log entry 103). -/
def tryLoops (next : List (Dem × Nat) → Option (List Dem)) : List (List (List (Dem × Nat))) → List (Dem × Nat) → Option (List Dem)
  | [], acc => next acc
  | os :: rest, acc => os.findSome? (fun o => tryLoops next rest (acc ++ o))

/-- The looping algorithm on the level-k sub-network `id`, down to the single cell of column C08. -/
def solve (r : RCtx) (old : Dem → Option Nat) : Nat → Nat → Nat → List Dem → Option (List Dem)
  | 0, _, id, ds =>
    let ps := ds.map (fun d => { d with x := id })
    if ps.all (fun p => (p.locked && !p.isNew) || (r.canSet (p.cell 8) (p.state 8) && r.mayUse (p.cell 8))) then some ps else none
  | n + 1, k, id, ds =>
    tryLoops (fun placed =>
        let half := fun v => (placed.filter (fun (_, u) => u == v)).map (·.1)
        match solve r old n (k + 1) (2 * id) (half 0), solve r old n (k + 1) (2 * id + 1) (half 1) with
        | some a, some b => some (a ++ b)
        | _, _ => none)
      ((loopsOf k ds.length ds).map (orientations r old k id)) []

/-! ## Routing one new path -/

/-- Existing cells changed outside the sub-network of a way. -/
def RCtx.changes (r : RCtx) (p : RPath) (cols : List Nat) : Nat := (cols.filter (fun c => r.sw (p.cell c) != p.state c)).length

/-- Columns outside the level-k sub-network. -/
def outerCols (k : Nat) : List Nat := (List.range 17).filter (fun c => decide (c < k) || decide (16 - k < c))

/-- Ways into the level-k sub-networks in the search order of phase 1: prefixes of k choices whose outside columns fit. -/
def RCtx.ways (r : RCtx) (p : RPath) : Nat → Nat → List RPath
  | 0, _ => [p]
  | n + 1, c =>
    (r.order p c).flatMap (fun v => let q := p.choose c v; if r.fits q c then RCtx.ways r q n (c + 1) else [])

/-- Rearrange the level-k sub-network that a way leads to (R53). -/
def RCtx.rearrange (r : RCtx) (k : Nat) (p : RPath) : Option (List RPath) :=
  let id := subnet p.x k
  let inside := r.paths.filter (fun q => subnet q.x k == id)
  let outside := r.paths.filter (fun q => subnet q.x k != id)
  let old := fun (d : Dem) => (r.paths.find? (fun q => q.inp == d.inp && q.out == d.out)).map (·.x)
  (solve r old (8 - k) k id (inside ++ [p])).map (fun ps => outside ++ ps)

/-- The ways of level k, fewest changes outside first; equal ones keep the search order. -/
def RCtx.sortedWays (r : RCtx) (k : Nat) (ws : List RPath) : List RPath :=
  sortBy (fun a b => decide (r.changes a (outerCols k) ≤ r.changes b (outerCols k))) ws

/-- Phase 2: the smallest sub-network first (R53). -/
def RCtx.phase2 (r : RCtx) (ways : Nat → List RPath) : Nat → Option (List RPath)
  | 0 => (r.sortedWays 0 (ways 0)).findSome? (r.rearrange 0)
  | k + 1 =>
    match (r.sortedWays (k + 1) (ways (k + 1))).findSome? (r.rearrange (k + 1)) with
    | some ps => some ps
    | none => RCtx.phase2 r ways k

/-- Which existing paths stay fixed: with nothing that may move, every one. -/
def RCtx.locks (r : RCtx) : RCtx := if r.lift.noMove then { r with paths := r.paths.map (fun p => { p with locked := true }) } else r

/-- Route IN i to OUT o: the paths after it, and whether phase 1 sufficed. -/
def RCtx.route (r : RCtx) (i o : Nat) : Option (List RPath × Bool) :=
  let p : RPath := { inp := i, out := o, x := 0, isNew := true }
  match r.search 8 0 p with
  | some q => some (r.paths ++ [q], true)
  | none =>
    let ways := fun k => (r.ways p k 0).filter (fun q => (outerCols k).all (fun c => decide (c < k) || r.fits q c))
    (r.phase2 ways 8).map (fun ps => (ps, false))

/-- Route the branch of a bridge on i → o to o2: its choices are those of the bridged path (R58). -/
def RCtx.routeBranch (r : RCtx) (i o o2 : Nat) : Option (List RPath × Bool) :=
  match r.paths.find? (fun p => p.inp == i && p.out == o) with
  | none => none
  | some p =>
    let stem := { p with split := some o2, locked := true }
    let b : RPath := { inp := i, out := o2, x := p.x, split := some o, locked := true, isNew := true }
    let r' := { r with paths := r.paths.map (fun (q : RPath) => if q.inp = i ∧ q.out = o then stem else q) }
    if r'.branchFits b o then some (r'.paths ++ [b], true)
    else if r.lift.noMove then none
    else if !r'.canSet (b.cell (splitCol o o2)) .split || !r'.mayUse (b.cell (splitCol o o2)) then none
    else
      let ways := fun k =>
        if (outerCols k).all (fun c => decide (c < splitCol o o2) || r'.branchColFits b o c) then [b] else []
      (r'.phase2 ways 8).map (fun ps => (ps, false))

end Sys2Proof.Machine
end

