-- ==== Sys2Proof/Machine/Route.lean ====
section
/-!
DEFINITION. The route job (R38, R44, R45, R48 to R56, R72, R77, R78, R95, R467): the walk over the entries, the result or the conflict,
the slot it takes, and staging (R79, R80, R83).
-/
namespace Sys2Proof.Machine

/-! ## The map as a list -/

/-- Replace the connection of an input. -/
def putConn (c : Conn) (cs : List Conn) : List Conn := cs.map (fun x => if x.inp = c.inp then c else x)
/-- The connection of an input that lights an output. -/
def findConn (cs : List Conn) (i o : Nat) : Option Conn := cs.find? (fun c => c.inp == i && c.uses o)
/-- Is an input, is an output free (R31)? -/
def inFree (cs : List Conn) (i : Nat) : Bool := !cs.any (fun c => c.inp == i)
def outFree (cs : List Conn) (o : Nat) : Bool := !cs.any (fun c => c.uses o)

/-- A connection less one of its outputs: nothing, or the other branch alone (R60). -/
def Conn.less (c : Conn) (o : Nat) : Option Conn :=
  match c.out2 with
  | none => if c.out = o then none else some c
  | some o2 =>
    if c.out = o then some { c with out := o2, out2 := none }
    else if o2 = o then some { c with out2 := none }
    else some c

/-- Make one edit of the map; an edit whose connection is not there, or whose ports are taken, changes nothing. -/
def applyEdit (cs : List Conn) : Edit → List Conn
  | .add i o p => if inFree cs i && outFree cs o then insertConn { inp := i, out := o, pinned := p } cs else cs
  | .remove i o => if (findConn cs i o).isSome then cs.filterMap (fun c => if c.inp = i then c.less o else some c) else cs
  | .bridge i o o2 | .roll i o o2 =>
    cs.map (fun c => if c.inp = i ∧ c.out = o ∧ c.out2 = none ∧ outFree cs o2 then { c with out2 := some o2 } else c)
  | .pin i o on => cs.map (fun c => if c.inp = i ∧ c.uses o then { c with pinned := on } else c)

/-- Light paths of a map as pairs of ports. -/
def lightPaths (cs : List Conn) : List (Nat × Nat) := cs.flatMap (fun c => c.outs.map (fun o => (c.inp, o)))

/-! ## The base state (R50, R80) -/

/-- Is the batch of a slot done, so that its slot only waits for its completion's turn in the ring (R77, R290)? -/
def Dev.slotDone (d : Dev) (k : Nat) : Bool := ((d.queue (d.slot k).queue).cmd (d.slot k).idx).any (·.done.isSome)
/-- The route engine runs a job. -/
def Dev.routing (d : Dev) : Bool := (List.range 16).any (fun k => (d.slot k).state == .routing && !d.slotDone k)

/-- t_LEAD in ns. -/
def tLead : Nat := 1000

/-- The first DCLK edge at or after a TB0 instant: DCLK edges are the even values of TB2 (R341, R401). -/
def Dev.edgeAt (d : Dev) (t : Nat) : Nat := t + (t + d.tb0 + d.tb2) % 2
/-- The DCLK edge of a slot's Midnight, as TB0 runs now (R42). -/
def Dev.slotEdge (d : Dev) (k : Nat) : Nat := d.edgeAt (d.slot k).due
/-- Where a command stands in its ring, from the front. -/
def Dev.ringPos (d : Dev) (q idx : Nat) : Nat := ((d.queue q).cmds.takeWhile (fun c => c.idx != idx)).length
/-- The order of commits on one edge: ascending queue, ring order within a queue (R82). -/
def Dev.edgePos (d : Dev) (k : Nat) : Nat := (d.slot k).queue * 2 ^ 20 + d.ringPos (d.slot k).queue (d.slot k).idx

/-- The slots of staged batches in the order of their Midnights. -/
def Dev.stagedSlots (d : Dev) : List Nat :=
  sortBy (fun a b => decide (d.slotEdge a < d.slotEdge b) || d.slotEdge a == d.slotEdge b && decide (d.edgePos a ≤ d.edgePos b))
    ((List.range 16).filter (fun k => ((d.slot k).state == .staged || (d.slot k).state == .staging) && !d.slotDone k))

/-- When a batch that starts now is expected to commit: its COMMIT_TIME, or 6 µs from now (R76); no earlier than its predecessor (R83). -/
def Dev.expectedMidnight (d : Dev) (q commitTime : Nat) : Nat :=
  let t := if commitTime = 0 then d.tb0 + 6000 else commitTime
  d.edgeAt ((d.stagedSlots.filter (fun k => (d.slot k).queue == q)).foldl (fun t k => max t (d.slot k).due) (max t (d.queue q).prevMidnight))

/-- What a route job starts from. -/
structure Base where
  conns : List Conn
  sw : Tab Sw
  cons : Tab Cons
  /-- Cells of staged batches with a later Midnight (R51). -/
  late : List Nat
  /-- The slots of the earlier ones (R80). -/
  early : List Nat := []

/-- The map, states and constraints just before a Midnight on the edge t, and the footprints of later staged batches; one on the same edge counts
as earlier (R50, R51, R80). -/
def Dev.base (d : Dev) (n : Net) (t : Nat) : Base :=
  let early := d.stagedSlots.filter (fun k => decide (d.slotEdge k ≤ t))
  let later := d.stagedSlots.filter (fun k => decide (t < d.slotEdge k))
  let b0 : Base := { conns := n.conns, sw := n.sw, cons := d.fab.cons, late := later.flatMap (fun k => (d.slot k).delta.foot), early := early }
  early.foldl (fun b k =>
    let x := (d.slot k).delta
    { b with conns := x.edits.foldl applyEdit b.conns, sw := x.sw.foldl (fun t p => t.set .bar p.1 p.2) b.sw,
             cons := x.cons.foldl (fun t p => t.set .free p.1 p.2) b.cons }) b0

/-! ## Held cells (R55, R211, R233) -/

/-- A tile is unavailable when neither its own LE nor a spare can run its loops (R55, R115). -/
def Dev.tileGone (d : Dev) (tn : Nat) : Bool := d.leState tn == .unavailable
/-- Can a cell not be driven to another state: in either twin, an unavailable tile, a sequencer lane, or CAL? -/
def Dev.cellHeld (d : Dev) (ca : Nat) : Bool :=
  [planeACa ca, twinCa (planeACa ca)].any (fun c => d.tileGone (tileOf c) || d.seqBound c || (d.cell c).cal)

/-! ## Entries (R36, R43 to R45, R48 step 2) -/

/-- The working copy of an entry walk. -/
structure Walk where
  conns : List Conn
  /-- Edits with the entry that made each. -/
  edits : List (Nat × Edit) := []
  oatt : List (Nat × Nat) := []
  /-- Connections created or rolled in this batch. -/
  fresh : List (Nat × Nat) := []
  /-- Pairs that an entry names. -/
  named : List (Nat × Nat) := []

/-- Why an entry fails: status. -/
abbrev EntryFail := Nat

/-- May a domain name every port of an entry (R36)? -/
def BatchEnt.owned (d : Dev) (dom : Nat) (e : BatchEnt) : Bool :=
  dom == 0 || (d.owner 0 e.inp == dom && d.owner 1 e.out == dom && (!(e.typ == 3 || e.typ == 4) || d.owner 1 e.out2 == dom))

/-- Ports an entry names, as side × 512 + port. -/
def BatchEnt.ports (e : BatchEnt) : List Nat := [e.inp, 512 + e.out] ++ (if e.typ = 3 ∨ e.typ = 4 then [512 + e.out2] else [])

/-- Record an OATT of an output: 511 leaves the stored target (R46). -/
def Walk.att (w : Walk) (o v : Nat) : Walk := if v = 511 then w else { w with oatt := w.oatt.filter (fun p => p.1 != o) ++ [(o, v)] }
/-- Record and make an edit. -/
def Walk.edit (w : Walk) (idx : Nat) (e : Edit) : Walk := { w with conns := applyEdit w.conns e, edits := w.edits ++ [(idx, e)] }

/-- BRIDGE and ROLL: what both ask for (R45). -/
def Walk.bridgeOk (w : Walk) (e : BatchEnt) : Except EntryFail Unit :=
  match findConn w.conns e.inp e.out with
  | none => .error stMalformed
  | some c =>
    if c.pinned then .error stPin
    else if w.fresh.contains (e.inp, e.out) || c.isBridge || !outFree w.conns e.out2 then .error stMalformed
    else .ok ()

/-- One entry against the working copy; `later` are the entries after it (R45). -/
def Walk.entry (w : Walk) (idx : Nat) (e : BatchEnt) (later : List BatchEnt) : Except EntryFail Walk :=
  let w := { w with named := (e.inp, e.out) :: w.named }
  match e.typ with
  | 1 =>
    if inFree w.conns e.inp && outFree w.conns e.out then
      .ok ({ (w.edit idx (.add e.inp e.out e.pinNew)) with fresh := (e.inp, e.out) :: w.fresh }.att e.out e.oatt)
    else .error stMalformed
  | 2 =>
    match findConn w.conns e.inp e.out with
    | none => .error stMalformed
    | some c =>
      if c.pinned then .error stPin
      else match c.less e.out with
        | none => if e.oatt = 511 then .ok (w.edit idx (.remove e.inp e.out)) else .error stMalformed
        | some r => .ok ((w.edit idx (.remove e.inp e.out)).att r.out e.oatt)
  | 3 =>
    match w.bridgeOk e with
    | .error x => .error x
    | .ok _ => .ok (((w.edit idx (.bridge e.inp e.out e.out2)).att e.out e.oatt).att e.out2 e.oatt)
  | 4 =>
    match w.bridgeOk e with
    | .error x => .error x
    | .ok _ =>
      if later.any (fun x => x.ports.any e.ports.contains) then .error stMalformed
      else .ok ({ (w.edit idx (.roll e.inp e.out e.out2)) with fresh := (e.inp, e.out) :: w.fresh }.att e.out2 e.oatt)
  | _ =>
    match findConn w.conns e.inp e.out with
    | none => .error stMalformed
    | some _ => if e.oatt = 511 then .ok (w.edit idx (.pin e.inp e.out (e.typ == 5))) else .error stMalformed

/-- The walk over the entries in order: reserved values, ownership, preconditions (R48 step 2). -/
def walkBatch (d : Dev) (dom : Nat) : Nat → List BatchEnt → Walk → Except (EntryFail × Nat) Walk
  | _, [], w => .ok w
  | idx, e :: es, w =>
    if !e.ok then .error (stMalformed, idx)
    else if !e.owned d dom then .error (stNotOwned, idx)
    else match w.entry idx e es with
      | .error x => .error (x, idx)
      | .ok w => walkBatch d dom (idx + 1) es w

/-! ## Routing a batch -/

/-- The existing paths of a map under given states (R467). -/
def pathsOf (sw : Nat → Sw) (cs : List Conn) : List RPath :=
  cs.flatMap (fun c => match c.out2 with
    | none => [{ inp := c.inp, out := c.out, x := choicesOf sw c.inp c.out }]
    | some o2 => [{ inp := c.inp, out := c.out, x := choicesOf sw c.inp c.out, split := some o2 },
                  { inp := c.inp, out := o2, x := choicesOf sw c.inp o2, split := some c.out }])

/-- What decides who may move: the batch's domain, its final map, the pairs it names. -/
structure Movers where
  dom : Nat
  final : List Conn
  named : List (Nat × Nat)

/-- Is moving barred by the domain permission (R37)? -/
def Movers.barDomain (m : Movers) (d : Dev) (i o : Nat) : Bool :=
  let e := d.owner 0 i
  !(m.named.contains (i, o) || e == m.dom || bitOf (d.disturb m.dom) e)
/-- Is it barred by a pin, a bridge or an unreleased roll? -/
def Movers.barPin (m : Movers) (i : Nat) : Bool := m.final.any (fun c => c.inp == i && (c.pinned || c.isBridge))
/-- Is it barred by the footprint of a later staged batch? -/
def barFoot (late : List Nat) (p : RPath) : Bool :=
  !late.isEmpty && (late.contains (inVoa 0 p.inp) || late.contains (outVoa 0 p.out) || p.cells.any (fun c => late.contains c.1))

/-- The paths with the fixed ones marked for a stage (R37, R56). -/
def lockPaths (d : Dev) (m : Movers) (late : List Nat) (l : Lift) (ps : List RPath) : List RPath :=
  ps.map (fun p => { p with locked := l.noMove || (!l.domain && m.barDomain d p.inp p.out) || (!l.foot && barFoot late p) ||
                              (!l.pins && m.barPin p.inp) })

/-- The search's context over a table of states. -/
def mkCtx (d : Dev) (b : Base) (sw : Tab Sw) (m : Movers) (l : Lift) (ps : List RPath) : RCtx :=
  { sw := fun ca => sw.get .bar ca, cons := fun ca => b.cons.get .free ca, held := d.cellHeld, late := b.late.contains, lift := l,
    paths := lockPaths d m b.late l ps }

/-- The states with every path's cells as the paths need them. -/
def settleSw (sw : Tab Sw) (ps : List RPath) : Tab Sw :=
  ps.foldl (fun t p => p.cells.foldl (fun t c => if t.get .bar c.1 = c.2 then t else t.set .bar c.1 c.2) t) sw

/-- A light path to add: input, output, the output it branches from, a roll without ALLOW_TWILIGHT, the entry that makes it. -/
structure Add where
  inp : Nat
  out : Nat
  stem : Option Nat
  hitless : Bool
  idx : Nat

/-- Route one addition at a stage. -/
def routeAdd (d : Dev) (b : Base) (sw : Tab Sw) (m : Movers) (l : Lift) (ps : List RPath) (a : Add) : Option (List RPath × Bool) :=
  let r := (mkCtx d b sw m l ps).locks
  match a.stem with
  | none => r.route a.inp a.out
  | some o => r.routeBranch a.inp o a.out

/-- Connections that a route moves, lowest output first. -/
def movedPaths (old new : List RPath) : List RPath :=
  sortBy (fun a b => decide (a.out ≤ b.out))
    (old.filter (fun p => (new.find? (fun q => q.inp == p.inp && q.out == p.out)).any (fun q => q.x != p.x)))

/-- Cells that a route changes, lowest first. -/
def changedCells (sw : Tab Sw) (new : List RPath) : List (Nat × Sw) :=
  sortBy (fun a b => decide (a.1 ≤ b.1)) ((new.flatMap (fun p => p.cells.filter (fun c => sw.get .bar c.1 != c.2))).eraseDups)

/-- The stages of R56 after the one that failed: kind, what is lifted. The one stage of a ROLL without ALLOW_TWILIGHT also lifts the footprints
of later staged batches for the branch's own cells (log entry 104). -/
def stages (hitless : Bool) : List (Nat × Lift) :=
  if hitless then
    [(6, { domain := true, foot := true, pins := true }), (2, { domain := true, foot := true, pins := true, forced := true }),
     (5, { domain := true, foot := true, pins := true, forced := true, tiles := true })]
  else
    [(0, { domain := true }), (4, { domain := true, foot := true }), (1, { domain := true, foot := true, pins := true }),
     (2, { domain := true, foot := true, pins := true, forced := true }),
     (5, { domain := true, foot := true, pins := true, forced := true, tiles := true })]

/-- The conflict of an addition that no route serves (R56). -/
def conflictOf (d : Dev) (b : Base) (sw : Tab Sw) (m : Movers) (ps : List RPath) (a : Add) : Comp :=
  match (stages a.hitless).findSome? (fun (k, l) => (routeAdd d b sw m l ps a).map (fun r => (k, r.1))) with
  | none => failComp true stBlocked a.idx 7 0 0 0
  | some (k, new) =>
    let st := if k = 5 then stTile else if k = 6 then stNotHitless else stBlocked
    if k = 2 ∨ k = 5 then
      let bars := fun (c : Nat × Sw) =>
        if k = 5 then d.cellHeld c.1
        else match b.cons.get .free c.1 with
          | .free => false
          | .forcedBar => c.2 != .bar
          | .forcedCross => c.2 != .cross
      match (changedCells sw new).find? bars with
      | some c => failComp true st a.idx k 0 0 c.1
      | none => failComp true st a.idx k 0 0 0
    else
      let bars := fun (p : RPath) =>
        if k = 0 then m.barDomain d p.inp p.out else if k = 4 then barFoot b.late p else if k = 1 then m.barPin p.inp else true
      match (movedPaths ps new).find? bars with
      | some p => failComp true st a.idx k p.inp p.out 0
      | none => failComp true st a.idx k 0 0 0

/-- Route every addition in order. -/
def routeAll (d : Dev) (b : Base) (m : Movers) : List Add → Tab Sw → List RPath → Bool → Except Comp (Tab Sw × List RPath × Bool)
  | [], sw, ps, ph => .ok (sw, ps, ph)
  | a :: as, sw, ps, ph =>
    match routeAdd d b sw m { noMove := a.hitless } ps a with
    | some (new, p1) => routeAll d b m as (settleSw sw new) (new.map (fun p => { p with isNew := false })) (ph && p1)
    | none => .error (conflictOf d b sw m ps a)

/-- The additions of a batch in the order of the entries that create them (R467). A branch whose bridged path a later entry removes is routed as
a path of its own, since removals come first (log entry 105). -/
def additions (w : Walk) (base : List Conn) (allowTwl : Bool) : List Add :=
  let l0 := lightPaths base
  let last := fun (i o : Nat) => w.edits.foldl (fun r p => match p.2 with
    | .add i' o' _ => if i' = i ∧ o' = o then some (p.1, none, false) else r
    | .bridge i' s o' => if i' = i ∧ o' = o then some (p.1, some s, false) else r
    | .roll i' s o' => if i' = i ∧ o' = o then some (p.1, some s, !allowTwl) else r
    | _ => r) (none : Option (Nat × Option Nat × Bool))
  let l1 := lightPaths w.conns
  let all := (l1.filter (fun p => !l0.contains p)).filterMap (fun p =>
    (last p.1 p.2).map (fun (idx, stem, h) =>
      ({ inp := p.1, out := p.2, stem := stem.filter (fun s => l1.contains (p.1, s)), hitless := h, idx := idx } : Add)))
  sortBy (fun a b => decide (a.idx ≤ b.idx)) all

/-- The delta of a routed batch (R53, R79). The outputs that a BRIDGE or ROLL branches from are checked too: it bridges their paths (R87; log entry
110). -/
def deltaOf (n : Base) (w : Walk) (old new : List RPath) (adds : List Add) (sw1 : Tab Sw) : Delta :=
  let moved := movedPaths old new
  let gone := (lightPaths n.conns).filter (fun p => !(lightPaths w.conns).contains p)
  let touched := fun (i : Nat) => adds.any (fun a => a.inp == i) || moved.any (fun p => p.inp == i) || gone.any (fun p => p.1 == i)
  let cellsOf := fun (ps : List RPath) => (ps.filter (fun p => touched p.inp)).flatMap (fun p =>
    inVoa 0 p.inp :: outVoa 0 p.out :: p.cells.map (·.1))
  let before := pathsOf (fun ca => n.sw.get .bar ca) n.conns
  let keys := ((sw1.keys ++ n.sw.keys).eraseDups).filter (fun ca => sw1.get .bar ca != n.sw.get .bar ca)
  let bridged := w.edits.filterMap (fun p => match p.2 with
    | .bridge _ o _ | .roll _ o _ => some o
    | _ => none)
  let outs := (lightPaths w.conns).map (·.2)
  { edits := w.edits.map (·.2)
    sw := (sortBy (fun a b => decide (a ≤ b)) keys).map (fun ca => (ca, sw1.get .bar ca))
    oatt := w.oatt
    moved := (moved.filter (fun p => !w.named.contains (p.inp, p.out))).map (·.out)
    checked := sortBy (fun a b => decide (a ≤ b)) (((adds.map (·.out)) ++ (moved.map (·.out)) ++ bridged).eraseDups.filter outs.contains)
    foot := ((cellsOf before) ++ (cellsOf new) ++ keys).eraseDups
    bridges := bridgeCount w.conns }

/-- A bridge collapse whose SPLIT cell cannot be driven (R55, R60): the first DISCONNECT that gives the branch up, and the cell (log entry 106). -/
def heldCollapse (d : Dev) (b : Base) (w : Walk) (old : List RPath) (sw0 : Tab Sw) : Option Comp :=
  let stuck := (changedCells b.sw old).filter (fun c => sw0.get .bar c.1 == c.2 && d.cellHeld c.1)
  w.edits.findSome? (fun p => match p.2 with
    | .remove i _ =>
      (stuck.find? (fun c => old.any (fun q => q.inp == i && q.cells.contains c))).map (fun c => failComp true stTile p.1 5 0 0 c.1)
    | _ => none)

/-- Route a batch whose entries have passed (R48 steps 3 and 4, R467). -/
def routeBatch (d : Dev) (dom : Nat) (b : Base) (w : Walk) (allowTwl : Bool) : Except Comp (Delta × Bool) :=
  let m : Movers := { dom := dom, final := w.conns, named := w.named.filter (fun p => (findConn w.conns p.1 p.2).isSome) }
  let l1 := lightPaths w.conns
  let kept := b.conns.filterMap (fun c =>
    match c.outs.filter (fun o => l1.contains (c.inp, o)) with
    | [] => none
    | [o] => some { c with out := o, out2 := none }
    | _ => some c)
  let old := pathsOf (fun ca => b.sw.get .bar ca) kept
  let sw0 := settleSw b.sw old
  let adds := additions w b.conns allowTwl
  match heldCollapse d b w old sw0 with
  | some c => .error c
  | none =>
  match routeAll d b m adds sw0 old true with
  | .error c => .error c
  | .ok (sw1, new, ph) =>
    if 32 < bridgeCount w.conns then .error (failComp true stBlocked 0x3FF 3 0 0 0) else .ok (deltaOf b w old new adds sw1, ph)

/-! ## CELL_DIRECT (R72) -/

/-- A path that uses a cell under given states: lowest output. -/
def userOf (sw : Tab Sw) (cs : List Conn) (ca : Nat) : Option (Nat × Nat) :=
  ((lightPaths cs).filter (fun p => (traceWith (fun c => sw.get .bar c) p.1 p.2).any (fun t => t.1 == ca))).foldl
    (fun r p => match r with
      | none => some p
      | some q => if p.2 < q.2 then some p else r) none

/-- The first cell of a claimed trace that breaks a condition (R72). -/
def claimFault (sw : Tab Sw) (cs : List Conn) (i o : Nat) : Option Nat :=
  let f := fun c => sw.get .bar c
  let taken := (lightPaths cs).flatMap (fun p => traceWith f p.1 p.2)
  ((traceWith f i o).find? (fun (ca, w) =>
    let c := caCol ca
    let out := match f ca with
      | .bar => w % 2
      | .cross => 1 - w % 2
      | .split => w % 2
    f ca == .split || taken.contains (ca, w) || (decide (8 ≤ c) && out != wantedParity c o))).map (·.1)

/-- The working copy of CELL_DIRECT. -/
structure DirWalk where
  conns : List Conn
  sw : Tab Sw
  cons : Tab Cons
  edits : List Edit := []
  created : List (Nat × Nat) := []
  gone : List Nat := []
  consSet : List Nat := []
  /-- Cells whose state an entry sets, in order, whether or not it differs at the time of the walk. -/
  stSet : List Nat := []

/-- The forced state of a CONSTRAINT value. -/
def swOfVal (v : Nat) : Sw := if v = 0 then .bar else if v = 1 then .cross else .split
/-- One CELL_DIRECT entry against the working copy. -/
def DirWalk.entry (d : Dev) (w : DirWalk) (idx : Nat) (e : DirEnt) : Except Comp DirWalk :=
  let fail := fun st kind i o ca => Except.error (failComp true st idx kind i o ca)
  let user := userOf w.sw w.conns e.ca
  let now := w.sw.get .bar e.ca
  if !e.ok then fail stMalformed 0 0 0 0
  else match e.op with
    | 1 =>
      let st := swOfVal e.value
      match user with
      | some (i, o) => fail stBlocked 1 i o 0
      | none =>
        let c := w.cons.get .free e.ca
        if (c == .forcedBar && st != .bar) || (c == .forcedCross && st != .cross) then fail stBlocked 2 0 0 e.ca
        else if st != now && d.cellHeld e.ca then fail stTile 5 0 0 e.ca
        else .ok { w with sw := w.sw.set .bar e.ca st, stSet := w.stSet ++ [e.ca] }
    | 2 =>
      let st : Sw := if e.value = 1 then .bar else .cross
      match (if st = now then none else user) with
      | some (i, o) => fail stBlocked 1 i o 0
      | none =>
        if st != now && d.cellHeld e.ca then fail stTile 5 0 0 e.ca
        else .ok { w with sw := w.sw.set .bar e.ca st, cons := w.cons.set .free e.ca (if e.value = 1 then .forcedBar else .forcedCross),
                          consSet := e.ca :: w.consSet, stSet := w.stSet ++ [e.ca] }
    | 3 => .ok { w with cons := w.cons.set .free e.ca .free, consSet := e.ca :: w.consSet }
    | 4 =>
      if !(inFree w.conns e.inp && outFree w.conns e.out) then fail stMalformed 0 0 0 0
      else match claimFault w.sw w.conns e.inp e.out with
        | some ca => fail stBlocked 2 0 0 ca
        | none => .ok { w with conns := applyEdit w.conns (.add e.inp e.out false), edits := w.edits ++ [.add e.inp e.out false],
                               created := (e.inp, e.out) :: w.created }
    | _ =>
      match findConn w.conns e.inp e.out with
      | none => fail stMalformed 0 0 0 0
      | some c =>
        if c.pinned then fail stPin 0 0 0 0
        else if c.isBridge then fail stMalformed 0 0 0 0
        else .ok { w with conns := applyEdit w.conns (.remove e.inp e.out), edits := w.edits ++ [.remove e.inp e.out],
                          gone := e.inp :: w.gone, created := w.created.filter (· != (e.inp, e.out)) }

/-- The walk over CELL_DIRECT entries. -/
def walkDirect (d : Dev) : Nat → List DirEnt → DirWalk → Except Comp DirWalk
  | _, [], w => .ok w
  | idx, e :: es, w =>
    match w.entry d idx e with
    | .error c => .error c
    | .ok w => walkDirect d (idx + 1) es w

/-- The delta of a CELL_DIRECT. Every cell that a SET_STATE or SET_CONSTRAINT names is in it, also one that the base has in that state already:
its Midnight sets the state whatever has become of the base by then (R72). -/
def directDelta (b : Base) (w : DirWalk) : Delta :=
  let keys := w.stSet.eraseDups
  let before : Net := { conns := b.conns, sw := b.sw }
  let after : Net := { conns := w.conns, sw := w.sw }
  { edits := w.edits
    sw := keys.map (fun ca => (ca, w.sw.get .bar ca))
    cons := w.consSet.eraseDups.map (fun ca => (ca, w.cons.get .free ca))
    checked := sortBy (fun a b => decide (a ≤ b)) (w.created.map (·.2))
    foot := ((before.conns.filter (fun c => w.gone.contains c.inp)).flatMap before.footOf ++
             (after.conns.filter (fun c => w.created.contains (c.inp, c.out))).flatMap after.footOf ++ keys).eraseDups
    bridges := bridgeCount w.conns }

/-! ## The job -/

/-- What a batch's route job finds: entry failures at once, routing failures when the job ends, or the delta. -/
inductive Job where
  | entryFail (c : Comp)
  | routeFail (c : Comp)
  | done (x : Delta) (phase1 : Bool)

/-- The checks and the result of a route job that starts now (R38, R50). -/
def Dev.routeJob (d : Dev) (n : Net) (q : Nat) (s : Slot) : Job :=
  let b := d.base n (d.expectedMidnight q s.commitTime)
  if s.direct then
    match walkDirect d 0 (s.entries.map dirEnt) { conns := b.conns, sw := b.sw, cons := b.cons } with
    | .error c => if c.status = stMalformed ∨ c.status = stPin then .entryFail c else .routeFail c
    | .ok w => .done (directDelta b w) true
  else
    match walkBatch d (d.queue q).domain 0 (s.entries.map batchEnt) { conns := b.conns } with
    | .error (st, idx) => .entryFail (failComp true st idx 0 0 0 0)
    | .ok w =>
      match routeBatch d (d.queue q).domain b w s.allowTwl with
      | .error c => .routeFail c
      | .ok (x, ph) => .done x ph

/-- Run the route job of slot k now. -/
def Dev.startJob (d : Dev) (n : Net) (k : Nat) : Dev :=
  let s := d.slot k
  let after := (d.base n (d.expectedMidnight s.queue s.commitTime)).early.map (fun j => ((d.slot j).queue, (d.slot j).idx))
  let d := (d.count 2880).modSlot k (fun s => { s with after := after })
  match d.routeJob n s.queue s with
  | .entryFail c => (d.modSlot k (fun s => { s with state := .routing })).complete s.queue s.idx c
  | .routeFail c => d.modSlot k (fun s => { s with state := .routing, delta := {}, bad := some c, t0 := d.tb2 })
  | .done x ph => d.modSlot k (fun s => { s with state := .routing, delta := x, bad := none, phase1 := ph, t0 := d.tb2 })

/-- Is a command a batch? -/
def isBatch (c : Cmd) : Bool := sqeOp c.sqe == 1 || sqeOp c.sqe == 7

/-- The first batch of a queue that has executed and has no slot; the commands before it that are not batches have taken effect, and the
batches before it have slots and are neither routing nor held (OP1, R78). -/
def Dev.nextBatch (d : Dev) (q : Nat) : List Cmd → Option Cmd
  | [] => none
  | c :: cs =>
    if isBatch c && c.executed && c.done.isNone then
      match d.slotOf q c.idx with
      | none => some c
      | some k => if (d.slot k).state == .routing || (d.slot k).state == .held then none else Dev.nextBatch d q cs
    else if c.effect then Dev.nextBatch d q cs
    else none

/-- Free slots. -/
def Dev.freeSlots (d : Dev) : List Nat := (List.range 16).filter (fun k => (d.slot k).state == .free)

/-- The slot of a batch that starts its route job; earlier values stay in the fields that nothing sets (R103). -/
def Slot.take (c : Cmd) (q dom : Nat) : Slot :=
  let fl := sqeFlags c.sqe
  { state := .routing, queue := q, domain := dom, sched := sqeTime c.sqe != 0, cid := sqeCid c.sqe, idx := c.idx,
    direct := sqeOp c.sqe == 7, rbOnFail := bitOf fl 0, stopOnFail := bitOf fl 1, lateOk := bitOf fl 2, allowTwl := bitOf fl 3,
    commitTime := sqeTime c.sqe, entries := c.payload }

/-- The route engine may take the batch c now (R77, R78). -/
def Dev.mayStart (d : Dev) (c : Cmd) : Bool :=
  let free := d.freeSlots.length
  (if sqeTime c.sqe = 0 then decide (0 < free) else decide (d.cmt.asapRsv < free)) &&
  !d.routing

/-- The batch of a queue that the route engine could start now. -/
def Dev.routable (d : Dev) (q : Nat) : Option Cmd :=
  let qu := d.queue q
  let live := qu.state != .none && qu.state != .aborting && qu.state != .enablePending
  match (if live then d.nextBatch q qu.cmds else none) with
  | some c => if d.mayStart c then some c else none
  | none => none

/-- ROUTE_JOB_START (R38, R77, R78): the first waiting batch of queue q takes the lowest free slot, where the queue is the one that weighted
round-robin
serves next (R258). -/
def execRouteJobStart (q : Nat) (s : State) : Host.Outcome State Fault Refusal :=
  let d := s.d
  match d.routable q, d.mtx.rte.next (fun k => (d.queue k).qosW) ((d.io.queues.map (·.1)).filter (fun k => (d.routable k).isSome)), d.freeSlots with
  | some c, some (turn, w), k :: _ =>
    if turn ≠ q then ignored s
    else finish s ((({ d with mtx := { d.mtx with rte := w } }).modSlot k (fun _ => Slot.take c q (d.queue q).domain)).startJob s.net k)
  | _, _, _ => ignored s

/-! ## The end of the job, HELD, staging -/

/-- Do two footprints intersect? -/
def meets (a b : List Nat) : Bool := a.any b.contains

/-- The command that holds a route result back: a ROLLBACK_ON_FAIL batch not completed whose footprint it meets, or an earlier STOP_ON_FAIL
batch of its queue (R95, R302). -/
def Dev.holder (d : Dev) (k : Nat) : Option (Nat × Nat) :=
  let s := d.slot k
  let byRb := ((List.range 16).filter (fun j => j != k && (d.slot j).state != .free && (d.slot j).state != .routing &&
    (d.slot j).state != .held && (d.slot j).rbOnFail && meets (d.slot j).delta.foot s.delta.foot)).map
    (fun j => ((d.slot j).queue, (d.slot j).idx))
  let byStop := (((d.queue s.queue).cmds.takeWhile (fun c => c.idx != s.idx)).filter (fun c => sqeStop c.sqe)).map (fun c => (s.queue, c.idx))
  (byRb ++ byStop).head?

/-- A routed result is held, or staging starts (R79, R95). -/
def Dev.holdOrStage (d : Dev) (k : Nat) : Dev :=
  match d.holder k with
  | some h => (d.modSlot k (fun s => { s with state := .held, heldBy := some h })).count 2905
  | none => d.modSlot k (fun s => { s with state := .staging, heldBy := none, due := d.expectedMidnight s.queue s.commitTime })

/-- Count a routing failure. -/
def Dev.countBad (d : Dev) (st : Nat) : Dev :=
  if st = stBlocked then d.count 2883 else if st = stTile then d.count 2884 else if st = stNotHitless then d.count 2885 else d

/-- ROUTE_JOB_COMPLETE (R53, R56, R79, R95). -/
def execRouteJobComplete (slot : Nat) (s : State) : Host.Outcome State Fault Refusal :=
  let d := s.d
  let x := d.slot slot
  if x.state != .routing || d.slotDone slot then ignored s
  else
    let d := d.countN 2887 (d.tb2 - x.t0)
    match x.bad with
    | some c => finish s ((d.countBad c.status).complete x.queue x.idx c)
    | none =>
      let d := x.delta.sw.foldl (fun d e => d.bus 3 true 0 (32 * e.1) 32) (d.count (if x.phase1 then 2881 else 2882))
      finish s ((d.countN 2886 x.delta.moved.length).holdOrStage slot)

/-- Is a command still without its completion? -/
def Dev.isOpen (d : Dev) (q idx : Nat) : Bool := ((d.queue q).cmd idx).isSome

/-- HELD_BATCH_RERUN (R95): the holding command's completion is written, and the job runs again from the new base state. -/
def execHeldBatchRerun (slot : Nat) (s : State) : Host.Outcome State Fault Refusal :=
  let x := s.d.slot slot
  match x.state, x.heldBy with
  | .held, some (q, idx) =>
    if s.d.isOpen q idx || s.d.routing then ignored s
    else finish s ((s.d.modSlot slot (fun x => { x with heldBy := none })).startJob s.net slot)
  | _, _ => ignored s

/-- The Midnight of the batch before this one in its queue, or of one that has already committed (R83). -/
def Dev.prevMidnight (d : Dev) (k : Nat) : Nat :=
  let s := d.slot k
  let before := ((d.queue s.queue).cmds.takeWhile (fun c => c.idx != s.idx)).map (·.idx)
  ((List.range 16).filter (fun j => j != k && (d.slot j).state == .staged && !d.slotDone j && (d.slot j).queue == s.queue &&
      before.contains (d.slot j).idx)).foldl
    (fun t j => max t (d.slotEdge j)) (d.queue s.queue).prevMidnight

/-- STAGING_COMPLETE (R48 step 5, R79, R83): the ready time; the batch commits on the first DCLK edge at or after the instant it has now. -/
def execStagingComplete (slot : Nat) (s : State) : Host.Outcome State Fault Refusal :=
  let d := s.d
  let x := d.slot slot
  if x.state != .staging || d.slotDone slot then ignored s
  else
    let prev := d.prevMidnight slot
    let ready := d.tb0 + tLead
    let late := x.commitTime != 0 && decide (x.commitTime < max ready prev)
    if late && !x.lateOk then finish s ((d.count 2902).complete x.queue x.idx (baseComp 1 stLate))
    else
      let t := max (max x.commitTime ready) prev
      let d := x.delta.sw.foldl (fun d e => d.bus 4 false 0 (32 * e.1) 32) d
      finish s (d.modSlot slot (fun y =>
        { y with state := .staged, bank := d.drv.bank, shapeSel := d.drv.shapeSel, ready := d.tb2, due := t, time := d.edgeAt t, late := late }))

end Sys2Proof.Machine
end

