-- ==== Sys2Proof/Machine/Coeff.lean ====
section
/-!
DEFINITION. Coefficients in force (R224, R227, R244, R245): the factory sets interpolated to a sensor's temperature and combined with the
delta, gain sets (R122, R123), and the phases that states and attenuations stand for (R12, R13).
-/
namespace Sys2Proof.Machine

/-! ## Interpolation (R227) -/

/-- A quotient rounded to the nearest integer, a half upward; a zero divisor is a value the spec does not state (log entry 5). -/
def divLaw (n : Nat) (a b : Int) : Int :=
  if b = 0 then Config.lawUnstated n a else if 0 < b then (2 * a + b) / (2 * b) else (2 * (-a) + (-b)) / (2 * (-b))

/-- Temperatures of the factory sets, in 1/16 °C. -/
def setTemp (i : Nat) : Int := if i = 0 then -880 else if i = 1 then -240 else if i = 2 then 400 else if i = 3 then 1200 else 2000

/-- The interval of the factory sets a clamped temperature lies in. -/
def setIndex (t : Int) : Nat := if 1200 ≤ t then 3 else if 400 ≤ t then 2 else if -240 ≤ t then 1 else 0

/-- Linear interpolation between factory values, in units of the record. -/
def interp (f : Nat → Int) (t : Int) : Int :=
  let t := clampI t (-880) 2000
  let i := setIndex t
  f i + divRound ((f (i + 1) - f i) * (t - setTemp i)) (setTemp (i + 1) - setTemp i)

/-- The same with the difference taken on the shortest arc modulo one turn of 2^32. -/
def interpArc (f : Nat → Int) (t : Int) : Int :=
  let t := clampI t (-880) 2000
  let i := setIndex t
  let df := (f (i + 1) - f i + 2147483648) % 4294967296 - 2147483648
  (f i + divRound (df * (t - setTemp i)) (setTemp (i + 1) - setTemp i)) % 4294967296

/-- A ratio delta, Q1.15. -/
def byRatio (c : Int) (r : Nat) : Int := divRound (c * r) 32768

/-! ## Records in force -/

/-- Temperature the coefficients of a cell's tile were last formed at; none before Dawn step D3. -/
def Dev.cellTemp (d : Dev) (ca : Nat) : Option Int := (d.tile (tileOf ca)).tUse

/-- Fields of a cell record: 0 BIAS, 1 P_TURN, 2 HC_BAL, 3 TAU, 4 R_HP, 5 R_HC, 6 to 11 KAPPA_HP, 12 to 17 KAPPA_HC, 18 to 33 and 34 to 49
the F table by polarity (R245). Fields that do not apply to the cell read 0. -/
def cellFieldApplies (ca f : Nat) : Bool := isSwitchCa ca || !(f == 2 || f == 5 || (decide (12 ≤ f) && decide (f ≤ 17)))

/-- A cell coefficient at a temperature with a delta (R224, R227). -/
def cellCoeffAt (ca f : Nat) (t : Int) (x : CellDelta) : Int :=
  let fac := fun i => Config.factoryCell i ca f
  if !isCellCa ca || !cellFieldApplies ca f then 0
  else if f = 0 then (interpArc fac t + x.bias * 65536) % 4294967296
  else if f = 1 then byRatio (interp fac t) x.sPturn
  else if f = 2 then interp fac t + divRound (x.hc * 16777216) 10000
  else if f = 4 then byRatio (interp fac t) x.sRhp
  else if f = 5 then byRatio (interp fac t) x.sRhc
  else interp fac t

/-- A cell coefficient in force; 0 before it is computed (R412). -/
def Dev.cellCoeff (d : Dev) (ca f : Nat) : Int :=
  match d.cellTemp ca with
  | none => 0
  | some t => cellCoeffAt ca f t (d.cal.delta.cell.get {} ca)

/-- A monitor coefficient in force: 0 to 2 DARK, 3 RESP, 4 K_TAP, 5 to 7 G (R245). -/
def Dev.monCoeff (d : Dev) (mpa f : Nat) : Int :=
  match d.cellTemp (mpaCell mpa) with
  | none => 0
  | some t =>
    if mpaHole mpa then 0
    else
      let c := interp (fun i => Config.factoryMon i mpa f) t
      if f ≤ 2 then c + d.cal.delta.dark.get 0 (4 * mpa + f) else c

/-- Fast-lane offset, 1/16 code, and gain, Q1.15, at a temperature (R245). -/
def Dev.flCoeff (d : Dev) (k : Nat) (t : Int) : Int × Int :=
  (interp (fun i => Config.factoryFl i k 0) t + d.cal.delta.flOff.get 0 k,
   byRatio (interp (fun i => Config.factoryFl i k 1) t) (d.cal.delta.flGain.get 0x8000 k))

/-- Offset and gain of a fast lane in force; 0 before they are computed (R412). -/
def Dev.flNow (d : Dev) (k : Nat) : Int × Int :=
  match d.cal.flUse.get none k with
  | some t => d.flCoeff k t
  | none => (0, 0)

/-- Bias phase in turns, Q24. -/
def Dev.bias (d : Dev) (ca : Nat) : Int := d.cellCoeff ca 0 / 256
/-- P_TURN in mW, Q24. -/
def Dev.pTurn (d : Dev) (ca : Nat) : Int := d.cellCoeff ca 1
/-- The reciprocal of P_TURN, turn per mW, Q7.24: the laws multiply by it and never divide (R131). -/
def Dev.perTurn (d : Dev) (ca : Nat) : Int := satQ (divLaw 11 (oneQ * oneQ) (d.pTurn ca))
/-- 1 − e^(−1 µs/τ), Q24; τ is TAU × 10 ns (R149). -/
def Dev.decay (d : Dev) (ca : Nat) : Int :=
  let tau := (d.cellCoeff ca 3).toNat
  oneQ - expNeg 100 (max 1 tau)
/-- κ number j of a heater, signed Q1.13, and the actuator it names (R120). -/
def Dev.kappa (d : Dev) (aa j : Nat) : Int := d.cellCoeff (aaCell aa) ((if aaKind aa = 0 then 6 else 12) + j)

/-- The F code for a phase share (turns, Q24): inverse of the 16-point table of its polarity, linear between points, signed code (R149,
R245). Point k is the phase at code 64k + 63; code 0 is 0 turn. -/
def fCodeIn (tab : Nat → Int) (x : Int) : Nat → Nat → Int → Int → Int
  | 0, _, _, c0 => c0
  | n + 1, k, p0, c0 =>
    let p1 := tab k * 256
    let c1 : Int := 64 * k + 63
    if x ≤ p1 then c0 + divLaw 1 ((x - p0) * (c1 - c0)) (p1 - p0) else fCodeIn tab x n (k + 1) p1 c1
def Dev.fCode (d : Dev) (ca : Nat) (x : Int) : Int :=
  let tab := fun (f : Nat) => match (d.cell ca).fWait with
    | some t => cellCoeffAt ca f t {}
    | none => d.cellCoeff ca f
  if 0 ≤ x then fCodeIn (fun k => tab (18 + k)) x 16 0 0 0 else -(fCodeIn (fun k => tab (34 + k)) (-x) 16 0 0 0)

/-! ## Gain sets (R122, R123) -/

/-- A gain-set word in force; 0 until D2 loads it. -/
def Dev.gain (d : Dev) (index : Nat) : Int :=
  if d.fab.gstLoaded then (d.fab.gst.get none index).getD (Config.factoryGain index) else 0
/-- The set that LE_TILE of the tile's own LE names for a region. -/
def Dev.setOf (d : Dev) (tn region : Nat) : Nat := fieldOf (d.le tn).tileMap (4 * region) 4

/-! ## Phases -/

/-- Half a turn, a quarter, one turn, 0.55 turn, in Q24. -/
def halfTurn : Int := 8388608
def quarterTurn : Int := 4194304
def oneTurn : Int := 16777216
def maxF : Int := 9227469
/-- The phase of a switch state (R12). -/
def swPhase (s : Sw) : Int :=
  match s with
  | .bar => 0
  | .cross => halfTurn
  | .split => quarterTurn
/-- The phase of an attenuation in dB Q7.24, in [0, 0.5] turn (R13). -/
def attPhase (a : Int) : Int := asinSqrtPi (oneQ - ((linQ (-a) / 1099511627776 : Nat) : Int))
/-- A stored target in 2^-16 dB. -/
def tgtDb (t : Nat) : Int := divRound ((t : Int) * 65536) 20
/-- A stored target in dB Q7.24. -/
def tgtQ (t : Nat) : Int := divRound ((t : Int) * 16777216) 20
/-- 25 dB in Q7.24. -/
def db25 : Int := 419430400
/-- A phase brought into [−0.5, 0.5) turn. -/
def wrapHalf (x : Int) : Int := (x + halfTurn) % oneTurn - halfTurn

end Sys2Proof.Machine
end

