-- ==== Sys2Proof/Machine/Waves.lean ====
section
/-!
DEFINITION. What the drivers put out: timing sets and edge placement (R84, R85, R215), fast-drive current and the pre-emphasis shapes (R199
to R202), heater DAC codes and the heat a range change restores (R196 to R198), and the dither generator (R205). Currents are signed, in 2^-16
of a code, so that 1,023 × 2^16 is 8 mA.
-/
namespace Sys2Proof.Machine

/-! ## Segment descriptors (R212, R223) -/

structure Desc where
  base : Nat
  len : Nat
  endB : Bool
  next : Nat
  refill : Bool
  trig : Nat
  ts : Nat
  tsEn : Bool
  loop : Nat
  div : Nat
deriving DecidableEq, Repr

def Seq.desc (q : Seq) (g : Nat) : Desc :=
  let a := q.segA.get 0 g
  let b := q.segB.get 0 g
  { base := fieldOf a 0 17, len := fieldOf a 17 14, endB := bitOf a 31, next := fieldOf b 0 6, refill := bitOf b 6, trig := fieldOf b 7 4,
    ts := fieldOf b 11 3, tsEn := bitOf b 14, loop := fieldOf b 15 8, div := fieldOf b 23 9 }

/-- A sample's duration in ns: (M + 1) × 4^E DCLK cycles of 2 ns. -/
def Desc.dur (x : Desc) : Nat := 2 * ((x.div % 64 + 1) * 4 ^ (x.div / 64))
/-- A descriptor that the sequencer plays. -/
def Desc.valid (x : Desc) : Bool := decide (x.base + x.len ≤ 131071) && !(x.refill && x.loop != 0)

/-- A segment is ready: a refill segment once it is filled, and none while a SEQ_LOAD writes it (R219). -/
def Dev.segReady (d : Dev) (g : Nat) : Bool := (!(d.seq.desc g).refill || d.seq.fill.contains g) && !d.seq.loads.any (fun l => l.seg == g)

/-! ## Timing sets and edge placement -/

/-- The value of a timing-set entry for a Midnight: a write counts from 1 µs after it (R215). -/
def Seq.tsValue (q : Seq) (now e : Nat) : Nat :=
  match (q.tsNext.filter (fun x => x.2.1 == e && decide (x.1 + 1000 ≤ now))).getLast? with
  | some x => x.2.2
  | none => q.ts.get 0 e
/-- The writes that are in force move into the sets. -/
def Seq.tsAge (q : Seq) (now : Nat) : Seq :=
  { q with ts := (q.tsNext.takeWhile (fun x => decide (x.1 + 1000 ≤ now))).foldl (fun t x => t.set 0 x.2.1 x.2.2) q.ts,
           tsNext := q.tsNext.dropWhile (fun x => decide (x.1 + 1000 ≤ now)) }
/-- A write of a timing-set entry (R215). -/
def Seq.tsWrite (q : Seq) (now e v : Nat) : Seq := { q with tsNext := q.tsNext ++ [(now, e, v % 32)] }
/-- The timing set of a Midnight on the present DCLK edge: the active one, or the one that becomes active on the edge with a segment's start, where
an iteration ends there, a wait does, or the Midnight itself is the start trigger (R85, R215). -/
def Dev.tsNow (d : Dev) : Nat :=
  let q := d.seq
  let x := q.desc q.seg
  let starts := fun (g : Nat) => if (q.desc g).valid && d.segReady g && (q.desc g).tsEn then (q.desc g).ts else q.tsAct
  match q.state with
  | .stopped => q.tsAct
  | .waitTrig => if q.startTrig = 2 then starts q.startSeg else q.tsAct
  | .underrun => if q.readyAt < d.tb2 then starts q.seg else q.tsAct
  | .running =>
    if q.stopPend ∨ q.sample < x.len ∨ d.tb2 < q.sampleAt + x.dur then q.tsAct
    else match q.next with
      | .again => starts q.seg
      | .go g => starts g
      | _ => q.tsAct
/-- Offset of a changed cell's edge behind the Midnight DCLK edge, in units of 62.5 ps, by the set that CMT_CTL chooses (R84, R85). -/
def Dev.edgeDelay (d : Dev) (ca : Nat) : Nat :=
  d.seq.tsValue d.tb2 (38 * (if d.cmt.tsSrc then d.tsNow else d.cmt.tset) + edgeEntry ca)

/-! ## Fast drivers -/

/-- 8 mA. -/
def maxCurrent : Int := 1023 * 65536
/-- Sample s_k of shape n in a bank: the factory's until a shape load fills the bank (R201, R202). -/
def Drv.sample (v : Drv) (bank : Bool) (n k : Nat) : Int :=
  match (if bank then v.bankB else v.bankA) with
  | some l => l.getD (32 * n + k) 0
  | none => Config.factoryShape (32 * n + k)
/-- I_k of R201 from the currents before and after the step and the shape's sample. -/
def shapeCurrent (old new s : Int) : Int := clampI (old + divRound ((new - old) * (64 + s)) 64) (-maxCurrent) maxCurrent
/-- A shape's current at a time in units of 62.5 ps: the old one before its edge, its 32 samples of 2 ns, and then the new one (R84, R201). -/
def Wave.currentAt (w : Wave) (v : Drv) (shape : Nat) (new : Int) (x : Nat) : Int :=
  let edge := 16 * w.edge + w.delay
  if x < edge then w.old
  else if x < edge + 1024 then shapeCurrent w.old new (v.sample w.bank shape ((x - edge) / 32))
  else new
/-- Is a shape still to be played or being played? -/
def Cell.playing (c : Cell) (now : Nat) : Bool :=
  match c.wave with
  | some w => decide (16 * now < 16 * w.edge + w.delay + 1024)
  | none => false
/-- The signed code of an F lane's value (R199, R209). -/
def laneCode (v : Nat) : Int := if bitOf v 10 then -((v % 1024 : Nat) : Int) else ((v % 1024 : Nat) : Int)
/-- The signed code that a lane gives F: a bound lane's, which F keeps until the fast period after its release, under the blank override none
(R200, R203, R211). -/
def Dev.laneDrive (d : Dev) (ca : Nat) : Option Int :=
  if d.blanked ca then none
  else match d.laneOf (fAa ca) with
    | some l => some (laneCode (d.lane l).value)
    | none => (d.cell ca).heldI.map (·.2)
/-- The signed code that F is commanded: a lane's, or the one of the cell's output, which under the override is the blank code. -/
def Dev.codeNow (d : Dev) (ca : Nat) : Int := (d.laneDrive ca).getD (d.fCode ca (d.cell ca).f)
/-- The signed current of a fast driver at a time in units of 62.5 ps (R199 to R204): none while it is high-impedance, a lane's code, and else the
code of the cell's output with the shape of its step while it plays. -/
def Dev.driveAt (d : Dev) (ca x : Nat) : Int :=
  let c := d.cell ca
  if c.hzF || !d.drv.armed then 0
  else match d.laneDrive ca, c.wave with
    | none, some w => w.currentAt d.drv c.shape (d.codeNow ca * 65536) x
    | _, _ => d.codeNow ca * 65536
/-- The signed current of a fast driver now. -/
def Dev.driveNow (d : Dev) (ca : Nat) : Int := d.driveAt ca (16 * d.tb2)

/-! ## Heater drivers -/

/-- Full scale of a range as a share of HRAIL, in 1/100: 0.96 for HIGH and 0.48 for LOW (R196). -/
def rangeShare (high : Bool) : Nat := if high then 96 else 48
/-- The DAC code for a power in mW Q24 through a resistance in 0.1 Ω, and whether it was clamped (R196). -/
def dacCode (p r : Int) (hrailMv : Nat) (high : Bool) : Nat × Bool :=
  let fs := rangeShare high * hrailMv
  let x := sqrtRound (4294967296 * (p * r).toNat * 1000000) (16777216 * (fs * fs))
  (min x 65535, decide (65535 < x))
/-- Absolute limit of a heater, mW Q24: 24 mW for HP and 6 mW for HC (R14). -/
def heaterLimit (aa : Nat) : Int := if aaKind aa = 0 then 402653184 else 100663296
/-- R_h of a heater in 0.1 Ω (R196). -/
def Dev.heaterOhms (d : Dev) (aa : Nat) : Int := d.cellCoeff (aaCell aa) (if aaKind aa = 0 then 4 else 5)
/-- Power for the rest of a tick after a range change of measured high-impedance time t_Z in ns, at most 40 (R198). -/
def restoredPower (aa : Nat) (p : Int) (tz : Nat) : Int := min (divRound (p * 10000) ((10000 - min 40 tz : Nat) : Int)) (heaterLimit aa)

/-! ## Dither generator -/

/-- Written tone t in kHz, and tone t in force (R205, R222). -/
def Dev.toneSet (d : Dev) (t : Nat) : Nat := (d.drv.tone.get none t).getD (24 + t)
def Dev.toneNow (d : Dev) (t : Nat) : Nat := (d.drv.toneOn.get none t).getD (24 + t)
/-- The NCO of a tone of f kHz at a TB2 instant: modulo 125,000, one advance each SCLK cycle of 8 ns from a millisecond boundary (R205). -/
def ncoAt (f tb2 : Nat) : Nat := f * (tb2 % 1000000 / 8) % 125000
/-- The shared 1,024-entry sine table, Q24 (R205). -/
def sineEntry (k : Nat) : Int := sinTurn ((k % 1024 * 16384 : Nat) : Int)
/-- P_d of a tone of f kHz with amplitude A_P (R205). -/
def ditherAt (ap : Int) (f tb2 : Nat) : Int := if ap = 0 then 0 else mulQ ap (sineEntry (ncoAt f tb2 * 1024 / 125000))
/-- The tone of a heater of a switch cell in kHz (R206). -/
def Dev.toneOf (d : Dev) (aa : Nat) : Nat := d.toneNow ((hpTone (aaCell aa) + aaKind aa) % 32)
/-- Power amplitude of a heater's dither of amplitude a, in 2^-16 turn: mW Q24 (R134). -/
def Dev.ditherPower (d : Dev) (aa a : Nat) : Int :=
  if a = 0 then 0
  else
    let ca := aaCell aa
    let w2 := (d.toneOf aa * (d.cellCoeff ca 3).toNat) ^ 2 * twoPi.toNat ^ 2
    let den := 10 ^ 10 * 2 ^ 80
    mulQ (divRound (d.pTurn ca * (a : Nat)) 65536) (sqrtRound (2 ^ 48 * (den + w2)) den : Nat)

end Sys2Proof.Machine
end

