-- ==== Sys2Proof/Machine/Cells.lean ====
section
/-!
DEFINITION. What a Midnight does to one cell: the phase step that F takes and the heater target that follows it (R12, R13, R101, R148, R155),
region SETTLE (R144, R149), the fast mode of its slow lanes (R169, R170), and the modes the step needs (R161).
-/
namespace Sys2Proof.Machine

/-- W_LO, 2.0 mW (R153). -/
def wLo : Int := 33554432
/-- t_SET in ns (R149). -/
def tSet : Nat := 20000

/-- Share that F carries: its output less the trim. -/
def Cell.share (c : Cell) : Int := c.f - c.fTrim
/-- HP's present target power, mW Q24 (R143). -/
def Dev.tgtPower (d : Dev) (ca : Nat) : Int := mulQ (d.pTurn ca) ((d.cell ca).phiTgt - d.bias ca)
/-- A phase, modulo one turn, on the branch whose heater power falls in the preferred band [W_LO, W_LO + P_turn) (R15, R153). -/
def Dev.onBranch (d : Dev) (ca : Nat) (phi : Int) : Int :=
  let lo := d.bias ca + mulQ wLo (d.perTurn ca)
  lo + (phi - lo) % oneTurn
/-- The band rule: with nothing left in F and the heater high in its band, the step goes down (R148). -/
def Dev.stepsDown (d : Dev) (ca : Nat) (delta : Int) : Bool :=
  (d.cell ca).share == 0 && decide (wLo + mulQ delta (d.pTurn ca) ≤ d.tgtPower ca)
/-- F's new total from its share and the step, taking the other direction where R101 says so. -/
def fTotal (r step : Int) : Int := if maxF < r + step ∨ (0 < r + step ∧ 0 < r) then r - step else r + step
/-- Of the two quarter-turn steps out of SPLIT, the one whose phase is the new state's (R12, R101; log entry 13). -/
def outOfSplit (phi target : Int) : Int :=
  if (wrapHalf (phi + quarterTurn - target)).natAbs ≤ (wrapHalf (phi - quarterTurn - target)).natAbs then quarterTurn else -quarterTurn
/-- F's new total for a switch step (R101, R148, R155). -/
def Dev.switchTotal (d : Dev) (ca : Nat) (old new : Sw) : Int :=
  let c := d.cell ca
  if c.wrapping then wrapHalf (swPhase new - c.phiTh)
  else if old = .split then c.share + outOfSplit c.phiTgt (swPhase new)
  else
    let delta := if new = .split then quarterTurn else halfTurn
    fTotal c.share (if d.stepsDown ca delta then -delta else delta)
/-- F's new total for a VOA step to a target phase: of ±φ modulo one turn, what puts F nearest zero; of two totals of one size, ±0.5 turn
among them, the band rule chooses (R101, R148). -/
def Dev.voaTotal (d : Dev) (ca : Nat) (phi : Int) : Int :=
  let c := d.cell ca
  if c.wrapping then wrapHalf (phi - c.phiTh)
  else
    let f1 := wrapHalf (c.share + phi - c.phiTgt)
    let f2 := wrapHalf (c.share - phi - c.phiTgt)
    if f1.natAbs < f2.natAbs then f1
    else if f2.natAbs < f1.natAbs then f2
    else if f1 = f2 ∧ f1.natAbs ≠ halfTurn.natAbs then f1
    else if d.stepsDown ca f1.natAbs then -(f1.natAbs : Int) else f1.natAbs

/-! ## Selection (R140 to R142) -/

/-- mW in Q24 of a number of µW. -/
def uw (x : Nat) : Int := ((x * 16777216 / 1000 : Nat) : Int)
/-- CEIL in force. -/
def Loop.ceilUw (l : Loop) (aa : Nat) : Nat := l.ceil.getD (if aaKind aa = 0 then 16000 else 4000)
/-- C1 = CEIL × k_der. -/
def Dev.c1 (d : Dev) (aa : Nat) (l : Loop) : Int := mulQ (uw (l.ceilUw aa)) (d.tile (tileOf (aaCell aa))).kDer
/-- u = max (0, min (C0, C1, C2)); the lowest-numbered of equal candidates wins. -/
def Loop.select (l : Loop) (c0 c1 c2 : Int) : Loop :=
  let m := min c0 (min c1 c2)
  let win := if c0 = m then 0 else if c1 = m then 1 else 2
  { l with u := max 0 m, winner := win, limited := win != 0 }
/-- The power code of a command: units of 0.5 µW, 16 bits (R195). -/
def powerCode (u : Int) : Nat := clampN ((divRound (u * 2000) 16777216).toNat) 0 65535
/-- mW in Q24 of a power code. -/
def codePower (c : Nat) : Int := ((c * 16777216 / 2000 : Nat) : Int)

/-! ## Feed-forward (R143) -/

/-- Σ κ_j P_j over the neighbours, with the powers in force as their tiles' ring frames carry them; a frame that failed its CRC at the LE is
replaced by the tile's values of the tick before (R112, R143). bad lists the tiles of such frames. -/
def Dev.decouple (d : Dev) (bad : List Nat) (aa : Nat) : Int :=
  (List.range 6).foldl (fun s j =>
    let k := d.kappa aa j
    if k = 0 then s
    else
      let nb := Config.neighbour aa j
      let l := d.loop nb
      accQ (s + mulQ (k * 2048) (codePower (if bad.contains (tileOf (aaCell nb)) then l.drvPrev else l.drv)))) 0
/-- The feed-forward of a heater, with the commanded step of its cell in its target (R143). -/
def Dev.ff (d : Dev) (bad : List Nat) (aa : Nat) : Int :=
  let ca := aaCell aa
  satQ (accQ ((if aaKind aa = 0 then d.tgtPower ca else d.cellCoeff ca 2) + d.decouple bad aa))

/-- Power of a heater lane's value: 32 µW a code, in mW Q24 (R209). -/
def lanePower (v : Nat) : Int := (((v % 1024 * 32 * 16777216) / 1000 : Nat) : Int)
/-- A lane's value in force at the SCLK update at or before an instant that follows its last load (R210). -/
def Lane.atSclk (x : Lane) (now : Nat) : Nat := if x.at2 ≤ now / 8 * 8 then x.value else x.old
/-- A heater loop with its command's selection as it stands at an instant: a bound one's is its lane's value within C1 and C2 (R140, R210). -/
def Dev.selected (d : Dev) (aa now : Nat) : Loop :=
  let l := d.loop aa
  match d.laneOf aa with
  | some k => l.select (lanePower ((d.lane k).atSclk now)) (d.c1 aa l) (d.tile (tileOf (aaCell aa))).level
  | none => l

/-- The power code in force at a heater driver at a TB2 instant: a shadow load lands at its SCLK update (R81, R143). -/
def Loop.drvAt (l : Loop) (now : Nat) : Nat :=
  match l.drvNext with
  | some (t, c) => if t ≤ now then c else l.drv
  | none => l.drv
/-- The power code in force at a heater's driver at an instant: its loop's, or its lane's (R210). -/
def Dev.drvAt (d : Dev) (aa now : Nat) : Nat := if (d.laneOf aa).isSome then powerCode (d.selected aa now).u else (d.loop aa).drvAt now
/-- The power code in force now. -/
def Dev.drvOf (d : Dev) (aa : Nat) : Nat := d.drvAt aa d.tb2
/-- Does a heater's candidate from its ceiling or its tile's level win now (R140, R210)? -/
def Dev.limitedNow (d : Dev) (aa : Nat) : Bool := (d.selected aa d.tb2).limited
/-- A shadow load whose SCLK update has come is the command in force. -/
def Loop.landed (l : Loop) (now : Nat) : Loop :=
  { l with
    drv := l.drvAt now
    drvNext := l.drvNext.filter (fun x => decide (now < x.1)) }
/-- FF takes the step of its cell's heater target: the HP drives FF alone from the first SCLK update after this instant (R143, R144, R150). -/
def Dev.ffStep (d : Dev) (ca : Nat) : Dev :=
  let aa := hpAa ca
  let l := d.loop aa
  if (l.mode != 2 && l.mode != 5) || (d.laneOf aa).isSome then d
  else
    let ff := satQ (d.ff [] aa + l.ffHold)
    let r := (l.landed d.tb2).select ff (d.c1 aa l) (d.tile (tileOf ca)).level
    d.modLoop aa (fun _ => { r with
      v := ff
      sat := false
      drvNext := some (d.tb2 / 8 * 8 + 8, powerCode r.u) })

/-! ## Injected conversions (R184 to R186) -/

/-- Slots that wait on a monitor point for a conversion, or have it running. -/
def Dev.waiting (d : Dev) (mpa : Nat) : List Nat :=
  (List.range 8).filter (fun k => (d.inj k).go && (d.inj k).triggered && (d.inj k).mpa == mpa)
/-- Was or is a monitor point in fast mode within [t, t + w): by its settle window, or as a tap checked from its slow lane (R169)? -/
def Dev.fastIn (d : Dev) (mpa t w : Nat) : Bool :=
  let c := d.cell (mpaCell mpa)
  let v := if mpa % 2 = 0 then d.mon.slowVer.get 0 (mpaCell mpa) else 0
  ((c.fast || decide (t < c.fastOff)) && decide (c.fastAt < t + w)) || (decide (0 < v) && decide (v - 1 < t + w) && decide (t < v + 3999))
/-- The first moment at or after b at which the lane of a point is free: no injected conversion runs, nor the regular window of the tick, which
is not run where it is displaced or the point was in fast mode at the boundary (R171, R184, R185). -/
def Dev.laneFree (d : Dev) (mpa b : Nat) : Nat :=
  let b := max b (d.mon.injEnd.get 0 mpa)
  let t := b / 10000 * 10000
  if b < t + 3840 ∧ (d.mrt mpa).dispAt ≠ t + 1 ∧ !d.fastIn mpa t 1 then t + 3840 else b
/-- The slot whose conversion is the next or the running one on a normal-mode point, and TB2 of its start: of the slots that have their trigger
when the lane is free, the lowest (R184, R186). -/
def Dev.injNext (d : Dev) (mpa : Nat) : Option (Nat × Nat) :=
  let ws := d.waiting mpa
  match (ws.map (fun k => (d.inj k).trigAt)).min? with
  | none => none
  | some b =>
    let t := d.laneFree mpa b
    (ws.find? (fun k => decide ((d.inj k).trigAt ≤ t))).map (fun k => (k, t))
/-- Two slots name the same point with the same trigger, and share a conversion (R186). -/
def Inj.same (x y : Inj) : Bool := x.mpa == y.mpa && x.trigAt == y.trigAt && x.trig == y.trig
/-- Length of an injected conversion's window, and its result's delay (R167). -/
def Inj.window (x : Inj) : Nat := if x.fast then 960 else 3840
def Inj.delay (x : Inj) : Nat := if x.fast then 1000 else 4000
/-- Has a slot's conversion started: its own, or the fast window whose result it takes? -/
def Dev.injStarted (d : Dev) (k : Nat) : Bool :=
  let x := d.inj k
  if !x.triggered then false
  else if d.fastIn x.mpa d.tb2 1 then decide ((x.trigAt / 1000 + 1) * 1000 ≤ d.tb2)
  else match d.injNext x.mpa with
    | some (h, t) => decide (t ≤ d.tb2) && (d.inj h).same x
    | none => false
/-- Slots whose conversion is this one are done: the result, and a leaf cause (R184, R338). -/
def Dev.injDone (d : Dev) (ks : List Nat) (value flags t : Nat) : Dev :=
  ks.foldl (fun d k =>
    (d.modInj k (fun x => { x with go := false, triggered := false, done := true, time := t % 2 ^ 32,
                                   val := pack [(value, 0), ((x.val / 2 ^ 24 + 1) % 64, 24), (flags, 30)] })).setLeaf 0 0x1AC (2 ^ k)) d
/-- An injected conversion that runs on a lane is abandoned: its slots take an INVALID result that keeps VALUE (R170). -/
def Dev.injAbandon (d : Dev) (mpa : Nat) : Dev :=
  match d.injNext mpa with
  | none => d
  | some (h, t) =>
    let x := d.inj h
    if d.tb2 ≤ t ∨ t + x.window ≤ d.tb2 then d
    else
      let ks := (d.waiting mpa).filter (fun k => (d.inj k).same x)
      let d := ks.foldl (fun d k => d.injDone [k] ((d.inj k).val % 2 ^ 24) 3 t) d
      (({ d with mon := { d.mon with injEnd := d.mon.injEnd.set 0 mpa d.tb2 } }).count 2928).count 2930

/-- A lane's conversion is abandoned, or its window displaced: an INVALID result that keeps VALUE (R170, R173). -/
def Dev.invalid (d : Dev) (mpa time : Nat) : Dev :=
  (d.modMrt mpa (fun m => { m with tag := (m.tag + 1) % 64, flags := 3, time := time % 2 ^ 32 })).count 2930
/-- At a Midnight the lane of a point that is not in fast mode abandons the conversion in progress, injected or regular (R170). -/
def Dev.abandon (d : Dev) (mpa : Nat) : Dev :=
  let d := if d.fastIn mpa d.tb2 1 then d else d.injAbandon mpa
  let t := d.tb2 - d.tb2 % 10000
  let m := d.mrt mpa
  if d.tb2 = t ∨ t + 3840 ≤ d.tb2 ∨ d.fastIn mpa t (d.tb2 - t) ∨ m.nAt = t + 1 then d
  else (d.invalid mpa t).modMrt mpa (fun m => { m with nAt := t + 1 })
/-- The taps of a cell enter fast mode at a Midnight (R169, R170). -/
def Dev.enterFast (d : Dev) (ca : Nat) : Dev :=
  if (d.cell ca).fast then d
  else ((d.abandon (mkMpa ca 0)).abandon (mkMpa ca 1)).modCell ca (fun c => { c with fast := true, fastAt := d.tb2 })
/-- Tap 0 of an output VOA cell that is checked from its slow lane enters fast mode at the Midnight (R88, R169). -/
def Dev.slowCheck (d : Dev) (ca : Nat) : Dev :=
  let d := if (d.cell ca).fast then d else d.abandon (mkMpa ca 0)
  { d with mon := { d.mon with slowVer := d.mon.slowVer.set 0 ca (d.tb2 + 1) } }

/-- Heaters in MANUAL or HOLD move to AUTO at the Midnight that changes their cell; one held by a fatal fault does so when it returns (R161). -/
def Loop.stepMode (l : Loop) : Loop :=
  match l.prevMode with
  | some m => if m = 1 ∨ m = 3 then { l with prevMode := some 2 } else l
  | none => if l.mode = 1 ∨ l.mode = 3 then { l with mode := 2, preset := 1 } else l
/-- Change every heater loop of a cell. -/
def Dev.modHeaters (d : Dev) (ca : Nat) (f : Loop → Loop) : Dev := (heatersOf ca).foldl (fun d aa => d.modLoop aa f) d

/-- The region of a VOA's set-point, crossing a boundary only by 0.25 dB from the region it is in; 5 is DARK (R144). -/
def voaRegion (old : Nat) (dark : Bool) (a : Int) : Nat :=
  if dark then 5
  else
    let band := fun (x : Int) => min 4 (x / 83886080).toNat
    if old ≤ 4 ∧ band a ≠ old then
      if decide (old < band a) && decide (a < ((old + 1 : Nat) : Int) * 83886080 + 4194304) then old
      else if decide (band a < old) && decide ((old : Int) * 83886080 - 4194304 < a) then old
      else band a
    else band a

/-- The states of a cell's fast trim start from zero: they live in the loop of its F actuator (R149, R150). -/
def Dev.clearTrim (d : Dev) (ca : Nat) : Dev :=
  d.modLoop (fAa ca) (fun l => { l with
    integ := 0
    d := 0
    y := 0
    u := 0
    v := 0
    sat := false
    preset := 0
    lastSet := 0
    lastKp := 0 })

/-- The comparators of a point hold from now on: their next evaluated result starts a new count (R180). -/
def Dev.restartMet (d : Dev) (mpa : Nat) : Dev := d.modMet mpa (fun m => { m with count := 0 })

/-- A cell steps at a Midnight: F takes the whole step, the heater's target and its feed-forward follow, and the settle window opens (R81, R84,
R143, R148, R149, R201). -/
def Dev.stepTo (d : Dev) (ca : Nat) (f : Int) (kind : Nat) : Dev :=
  let now := d.tb2
  let shape := fieldOf d.drv.shapeSel (4 * kind) 4
  let delay := d.edgeDelay ca
  let w : Wave := { edge := now, delay := delay, old := d.driveAt ca (16 * now + delay), bank := d.drv.bank }
  let d := ((d.enterFast ca).restartMet (mkMpa ca 0)).restartMet (mkMpa ca 1)
  let d := (d.modCell ca (fun c =>
    let tgt := if c.wrapping then c.phiTh + f else c.phiTgt + (f - c.share)
    { c with phiTgt := tgt, f := f, fDue := none, fTrim := 0, sgn := true, eF := -1, nFast := 0, settling := true, settleEnd := now + tSet, handover := false,
             demodAt := none, region := if isSwitchCa ca then 4 else c.region, locked := false, wrapping := false, shape := shape,
             ramp := none, toDark := false, wave := some w })).clearTrim ca
  (d.modHeaters ca Loop.stepMode).ffStep ca

/-- A switch cell steps from one recorded state to another. -/
def Dev.stepSwitch (d : Dev) (ca : Nat) (old new : Sw) : Dev :=
  if old = new then d else d.stepTo ca (d.switchTotal ca old new) (if old = .split ∨ new = .split then 1 else 0)

/-- What a balancing candidate adds to a plane's target: only the stronger plane is attenuated (R158). -/
def upFor (plane : Nat) (b : Int) : Int := max (if plane = 0 then b else -b) 0
/-- Effective attenuation target of a VOA in a plane, dB Q7.24: balancing adds to the stronger plane of an output, and what is left of a candidate
that was disabled still does (R158, R159). -/
def Dev.attEff (d : Dev) (ca : Nat) : Int :=
  let a := (d.cell ca).aRef
  if isOutVoa ca then
    min db25 (a + upFor (caPlane ca) (d.fab.beta.get 0 (caIdx ca)) + d.fab.balRest.get 0 (2 * caIdx ca + caPlane ca))
  else a

/-- σ of a cell's heater branch: +1 where heat raises the attenuation, or at 0.25 turn relative to BAR (R136, R137). -/
def Cell.sigma (c : Cell) : Int := if 0 ≤ wrapHalf c.phiTgt then 1 else -1
/-- REF of an output VOA's tap 0 follows its effective target with the opposite sign (R181). -/
def Dev.followRef (d d0 : Dev) (ca : Nat) : Dev :=
  let r := divRound (d.attEff ca) 65536 - divRound (d0.attEff ca) 65536
  if r = 0 then d else d.modMet (mkMpa ca 0) (fun m => { m with ref := twos (signedOf m.ref 16 - r) 16 })
/-- The phase target of a VOA's heater follows a change of its effective target on its branch (R13, R156). -/
def Dev.followEff (d d0 : Dev) (ca : Nat) : Dev :=
  if d.attEff ca = d0.attEff ca ∨ (d.cell ca).dark then d
  else d.modCell ca (fun c => { c with phiTgt := c.phiTgt + c.sigma * (attPhase (d.attEff ca) - attPhase (d0.attEff ca)) })
/-- Set the balancing candidate of an output and what is left of a disabled one; both planes' targets and REFs follow (R158, R159, R181). -/
def Dev.setBal (d : Dev) (o : Nat) (b restA restB : Int) : Dev :=
  let d1 := { d with fab := { d.fab with
    beta := d.fab.beta.set 0 o b
    balRest := (d.fab.balRest.set 0 (2 * o) restA).set 0 (2 * o + 1) restB } }
  [outVoa 0 o, outVoa 1 o].foldl (fun x ca => (x.followEff d ca).followRef d ca) d1

/-- Without a declared lock a switch cell is in NEAR where it was in LOCKED; a VOA's region is its band (R144, R145). -/
def unlockedRegion (sw : Bool) (region : Nat) : Nat := if sw ∧ region = 2 then 1 else region
/-- Balancing of an output is disabled: β is 0, and the effective targets return under the slew limit (R159). -/
def Dev.balDisable (d : Dev) (o : Nat) : Dev :=
  let b := d.fab.beta.get 0 o
  d.setBal o 0 (d.fab.balRest.get 0 (2 * o) + upFor 0 b) (d.fab.balRest.get 0 (2 * o + 1) + upFor 1 b)

/-- A cell that carries light anew has no lock to keep: it declares it after it has been lit, and its demodulator starts anew (R132, R134, R146). -/
def Cell.relit (c : Cell) (sw was : Bool) : Cell :=
  if was then { c with power := true }
  else { c with
    power := true
    locked := false
    region := unlockedRegion sw c.region
    nLock := 0
    nLoss := 0
    nMove := 0
    nDark := 0
    demod := [] }

/-- The blank code of a VOA cell: what puts it at its extinction point given its present thermal phase (R203). -/
def Cell.blankCode (c : Cell) : Int := wrapHalf (halfTurn - c.phiTh)
/-- The heater target of a VOA cell becomes DARK without slew, on the branch nearest the thermal phase (R332). -/
def Cell.darkTarget (c : Cell) : Cell :=
  { c with
    phiTgt := c.phiTh + c.blankCode
    fTrim := 0
    region := 5
    handover := true
    settling := false
    settleEnd := 0
    demodAt := none }
/-- A VOA cell steps to DARK or to a set-point by F (R13, R101, R156). Under its blank override the driver takes nothing from the step, whose
set-point waits for the release; a heater target that becomes DARK does so at once (R200, R203, R333; log entry 59). -/
def Dev.stepVoa (d : Dev) (ca : Nat) (dark : Bool) (a : Int) : Dev :=
  let d := d.modCell ca (fun c => { c with dark := dark, toDark := false, aRef := if dark then c.aRef else a, region := voaRegion c.region dark a })
  if d.blanked ca then (if dark then d.modCell ca Cell.darkTarget else d)
  else d.stepTo ca (d.voaTotal ca (if dark then halfTurn else attPhase (d.attEff ca))) 2

end Sys2Proof.Machine
end

