-- ==== Sys2Proof/Machine/Sequencer.lean ====
section
/-!
DEFINITION. The stimulus sequencer (R209 to R223): playback, jumps, triggers and timing sets, lane bindings, refill, SEQ_LOAD, and what a
trigger starts elsewhere (R184, R189, R216, R217).
-/
namespace Sys2Proof.Machine

/-! ## Active segments (R213) -/

/-- The playing segment, the ready one chosen to follow, or one a shape load copies (R213). -/
def Dev.segActive (d : Dev) (g : Nat) : Bool :=
  (d.seq.state == .running && (d.seq.seg == g || (d.seq.next == .go g && d.segReady g))) || (d.drv.shapeLoad && d.drv.copySeg == g)
/-- The segments whose samples hold a sample number. -/
def Dev.activeAt (d : Dev) (sample : Nat) : Bool :=
  (List.range 64).any (fun g => d.segActive g && decide ((d.seq.desc g).base ≤ sample) && decide (sample ≤ (d.seq.desc g).base + (d.seq.desc g).len))

/-- Set a bit of SEQ_ERR with its leaf cause or its fault source (R223, R324, R338). -/
def Dev.seqErr (d : Dev) (b : Nat) : Dev :=
  let d := { d with seq := { d.seq with err := d.seq.err ||| 2 ^ b } }
  if b = 5 then d.once 52 0 else if b = 7 then d.once 53 0 else d.setLeaf 0 0x1C8 (2 ^ b)

/-- A dropped write: ACTIVE_WR and the address (R213). -/
def Dev.droppedWrite (d : Dev) (addr : Nat) : Dev := ({ d with seq := { d.seq with errAddr := addr } }).seqErr 0

/-! ## Triggers -/

/-- The first DCLK edge at or after now. -/
def Dev.nextDclk (d : Dev) : Nat := d.tb2 + d.tb2 % 2

/-- Level of a SYNC output: low while SRC is 0 (R216). -/
def SyncOut.level (o : SyncOut) : Bool := o.src != 0 && (o.inv != o.endAt.isSome)
/-- An event of a SYNC output: a pulse of PW + 1 DCLK cycles starts, or is extended (R216). -/
def Dev.syncEvent (d : Dev) (x : Nat) : Dev :=
  let o := d.seq.sync.get {} x
  let d := if o.endAt.isNone then d.send (.pin ("SYNC" ++ toString x) (!o.inv)) else d
  { d with seq := { d.seq with sync := d.seq.sync.set {} x { o with endAt := some (d.nextDclk + 2 * (o.pw + 1)) } } }

/-- A trigger reaches the injected-conversion slots armed for it (R184). -/
def Dev.injTrigger (d : Dev) (t : Nat) : Dev :=
  { d with mon := { d.mon with inj := d.mon.inj.mapVals {} (fun _ x =>
      if x.go && !x.triggered && x.trig == t then { x with triggered := true, trigAt := d.tb2 } else x) } }

/-- A trigger reaches an armed fast lane: it records LENGTH − PRE further samples; PRE_SHORT if too few came before (R189). -/
def Fl.trigger (l : Fl) (now : Nat) : Fl :=
  { l with state := .capturing, trigTime := now, preShort := decide ((now - l.armAt) / 4 < 16 * l.pre) }
def Dev.flTrigger (d : Dev) (p : Fl → Bool) : Dev :=
  { d with mon := { d.mon with fl := d.mon.fl.mapVals {} (fun _ l => if l.state == .armed && p l then l.trigger d.tb2 else l) } }

/-- A segment's trigger lines on the first edge of an iteration (R216). -/
def Dev.trigLines (d : Dev) (lines : Nat) : Dev :=
  let d := d.flTrigger (fun l => l.trig == 2 && bitOf lines l.seqTrig)
  (List.range 4).foldl (fun d x =>
    if bitOf lines x && ((d.seq.sync.get {} x).src == 1 || (d.seq.sync.get {} x).src == 3) then d.syncEvent x else d) d

/-! ## Playback -/

/-- A lane takes its word of a sample at an edge: KEEP keeps the last value (R209, R210). -/
def loadLane (w t : Nat) (l : Lane) : Lane := if l.bound && !bitOf w 11 then { l with value := w % 2048, at2 := t, old := l.atSclk t } else l
/-- The lanes load a sample at an edge. -/
def Dev.loadSample (d : Dev) (m : Mem) (x t : Nat) : Dev :=
  let v := Memory.readNat m.pattern (8 * x) 8
  (List.range 4).foldl (fun d l => d.modLane l (loadLane (fieldOf v (16 * l) 16) t)) d

/-- Playback stops; bound lanes keep their values (R217). -/
def Dev.seqStop (d : Dev) : Dev :=
  ({ d with seq := { d.seq with state := .stopped, stopPend := false, next := .undecided } }).setLeaf 0 0x1C8 0x100

/-- The decision point, at the start of an iteration's last sample (R213, R214). -/
def Seq.decide (q : Seq) : Seq :=
  let x := q.desc q.seg
  if q.jumpPend then { q with next := .go q.target, jumpTaken := true }
  else if x.loop = 255 ∨ q.iter < x.loop then { q with next := .again }
  else if x.endB then { q with next := .stop }
  else { q with next := .go x.next }

/-- The first sample of an iteration, at TB2 t: lanes, triggers, timing set; a one-sample iteration is decided at once (R212, R215). -/
def Dev.startIteration (d : Dev) (m : Mem) (t : Nat) : Dev :=
  let x := d.seq.desc d.seq.seg
  let d := { d with seq := { d.seq with sample := 0, sampleAt := t, next := .undecided, tsAct := if x.tsEn then x.ts else d.seq.tsAct } }
  let d := (d.loadSample m x.base t).trigLines x.trig
  if x.len = 0 then { d with seq := d.seq.decide } else d

/-- Playback reaches segment g at TB2 t: an invalid descriptor stops it, a segment that is not ready makes it wait, unless the refill has
stopped (R212, R219). -/
def Dev.reachSeg (d : Dev) (m : Mem) (g t : Nat) : Dev :=
  let x := d.seq.desc g
  if !x.valid then (d.seqErr 5).seqStop
  else if !d.segReady g then
    if x.refill && !d.seq.fill.contains g && d.seq.rfStop then ({ d with seq := { d.seq with seg := g, iter := 0 } }).seqStop
    else
      let d := { d with seq := { d.seq with state := .underrun, seg := g, iter := 0, next := .undecided, under := satAdd d.seq.under 1 32 } }
      (d.seqErr 2).seqErr 3
  else ({ d with seq := { d.seq with state := .running, seg := g, iter := 0 } }).startIteration m t

/-- A write of RUN = 1 (R217). -/
def Dev.seqRun (d : Dev) (m : Mem) : Dev :=
  if d.seq.state != .stopped then d
  else
    let err := d.seq.err &&& (0xFFFFFFFF ^^^ 0xA)
    let d := { d with seq := { d.seq with under := 0, err := err, stopPend := false } }
    if d.seq.startTrig = 0 then d.reachSeg m d.seq.startSeg d.nextDclk else
        { d with seq := { d.seq with state := .waitTrig, seg := d.seq.startSeg, iter := 0 } }

/-- A start trigger comes: 1 SYNCIN, 2 Midnight (R217). -/
def Dev.seqTrigger (d : Dev) (m : Mem) (t : Nat) : Dev :=
  if d.seq.state == .waitTrig && d.seq.startTrig == t then d.reachSeg m d.seq.startSeg d.nextDclk else d

/-- A write of STOP = 1: at the end of the sample or iteration; a wait ends at once (R217). -/
def Dev.seqStopReq (d : Dev) : Dev :=
  match d.seq.state with
  | .stopped => d
  | .running => { d with seq := { d.seq with stopPend := true } }
  | _ => d.seqStop

/-- A jump is requested: after the decision point it waits for the next boundary (R214). -/
def Dev.seqJump (d : Dev) : Dev :=
  let late := d.seq.state == .running && d.seq.next != .undecided
  let d := { d with seq := { d.seq with jumpPend := true, jumpTaken := false } }
  if late then d.seqErr 1 else d

/-- The Midnight marker and what a Midnight edge triggers (R81, R184, R189, R216, R217). -/
def Dev.midnightTriggers (d : Dev) (m : Mem) : Dev :=
  let d := (List.range 4).foldl (fun d x => if (d.seq.sync.get {} x).src == 2 || (d.seq.sync.get {} x).src == 3 then d.syncEvent x else d) d
  ((d.injTrigger 2).flTrigger (fun l => l.trig == 3)).seqTrigger m 2

/-! ## Commands -/

/-- The fields of SEQ_CTL that a write sets (R223). -/
def Seq.ctlWrite (q : Seq) (v : Nat) : Seq :=
  { q with stopMode := bitOf v 2, jumpSyncin := bitOf v 3, startSeg := fieldOf v 4 6, startTrig := fieldOf v 10 2 }

/-- A write of SEQ_CTL: fields, then RUN, dropped while calibration owns the sequencer, then STOP (R217, R221). -/
def Dev.seqCtl (d : Dev) (m : Mem) (v : Nat) : Dev :=
  let d := { d with seq := d.seq.ctlWrite v }
  let d := if bitOf v 0 then (if d.seq.ownerCal then d.seqErr 6 else d.seqRun m) else d
  if bitOf v 1 then d.seqStopReq else d

def execRun (fn : Nat) (value : Word) (s : State) : Host.Outcome State Fault Refusal :=
  pf0Wr s fn 0xC000 (fun d => if bitOf value.toNat 0 then d.seqCtl s.mem value.toNat else d)
def execStop (fn : Nat) (value : Word) (s : State) : Host.Outcome State Fault Refusal :=
  pf0Wr s fn 0xC000 (fun d => if bitOf value.toNat 1 && !bitOf value.toNat 0 then d.seqCtl s.mem value.toNat else d)

/-- A write of SEQ_JUMP: TARGET, and a request where REQ = 1 (R214, R221). -/
def Dev.seqJumpWrite (d : Dev) (v : Nat) : Dev :=
  if d.seq.ownerCal then d.seqErr 6
  else
    let d := { d with seq := { d.seq with target := v % 64 } }
    if bitOf v 8 then d.seqJump else d

def execJump (fn : Nat) (value : Word) (s : State) : Host.Outcome State Fault Refusal :=
  pf0Wr s fn 0xC008 (fun d => if bitOf value.toNat 8 then d.seqJumpWrite value.toNat else d)

/-- Is the cell in the footprint of a staged or committed batch that has not completed (R211)? One in STAGING is not staged yet. -/
def Dev.inFootprint (d : Dev) (ca : Nat) : Bool :=
  (List.range 16).any (fun k =>
    let s := d.slot k
    s.state != .free && s.state != .routing && s.state != .held && s.state != .staging && s.delta.foot.contains (planeACa ca))

/-- May a lane be bound to an actuator (R211)? -/
def Dev.bindOk (d : Dev) (n : Net) (l aa : Nat) : Bool :=
  !(aaHole aa) && !(lit n d (aaCell aa)) && !(n.used (aaCell aa)) && !(d.inFootprint (aaCell aa)) &&
  !(List.range 4).any (fun j => j != l && (d.lane j).bound && (d.lane j).aa == aa)

/-- A write of SEQ_BIND: while EN = 1 it may only clear EN (R211, R223). -/
def Dev.seqBindWrite (d : Dev) (n : Net) (l v : Nat) : Dev :=
  if d.seq.ownerCal then d.seqErr 6
  else if (d.lane l).en then (if bitOf v 17 then d else d.modLane l (fun x => { x with en := false, offAt := d.tb2 }))
  else if !bitOf v 17 then d.modLane l (fun x => if x.bound then x else { x with aa := v % 2 ^ 17 })
  else if (d.lane l).bound then d
  else if d.bindOk n l (v % 2 ^ 17) then d.modLane l (fun _ => { aa := v % 2 ^ 17, en := true, bound := true, at2 := d.tb2 })
  else (d.modLane l (fun x => { x with aa := v % 2 ^ 17 })).seqErr 4

def execSeqBind (fn lane : Nat) (value : Word) (s : State) : Host.Outcome State Fault Refusal :=
  pf0Wr s fn (0xC040 + 4 * lane) (fun d => if lane < 4 then d.seqBindWrite s.net lane value.toNat else d)

/-- A lane gives its actuator back: F keeps its code until the next fast period, and the loops take the lane's last value as the command in force
(R162, R211). -/
def Dev.unbindLane (d : Dev) (lane : Nat) : Dev :=
  let x := d.lane lane
  if !x.bound then d
  else
    let ca := aaCell x.aa
    let code := d.drvOf x.aa
    let d := d.modLane lane (fun l => { l with bound := false, en := false })
    let d := if aaKind x.aa = 2 then d.modCell ca (fun c => { c with f := 0, fDue := none, wave := none, heldI := some (d.tb2, laneCode x.value) })
             else d.modLoop x.aa (fun l => { l with u := lanePower x.value, drv := code, drvNext := none })
    if d.seqBound ca then d else d.modHeaters ca (fun l => { l with preset := 1 })

/-- UNBIND: at the tick boundary after EN = 0 (R211, R466). -/
def execUnbind (lane : Nat) (s : State) : Host.Outcome State Fault Refusal :=
  let x := s.d.lane lane
  if x.bound && !x.en && decide (x.offAt < s.d.tb2) && s.d.tb2 % 10000 == 0 then finish s (s.d.unbindLane lane) else ignored s

/-- A sample before an iteration's last ends, and the next begins, or playback stops (R212, R217). -/
def Dev.sampleNext (d : Dev) (m : Mem) : Dev :=
  let q := d.seq
  let x := q.desc q.seg
  if q.stopPend && !q.stopMode then d.seqStop
  else
    let d := { d with seq := { q with sample := q.sample + 1, sampleAt := q.sampleAt + x.dur } }
    let d := d.loadSample m (x.base + q.sample + 1) (q.sampleAt + x.dur)
    if q.sample + 1 = x.len then { d with seq := d.seq.decide } else d

/-- The last sample of an iteration ends (R212 to R219). -/
def Dev.iterationNext (d : Dev) (m : Mem) : Dev :=
  let q := d.seq
  let x := q.desc q.seg
  let t := q.sampleAt + x.dur
  let q' := { q with iter := satAdd q.iter 1 8, fill := if x.refill then q.fill.filter (· != q.seg) else q.fill,
                     jumpPend := q.jumpPend && !q.jumpTaken, jumpTaken := false }
  let d' := { d with seq := q' }
  if q.stopPend then ({ d with seq := { q' with jumpPend := q.jumpPend, jumpTaken := false } }).seqStop
  else match q.next with
    | .again => d'.startIteration m t
    | .go g => d'.reachSeg m g t
    | _ => d'.seqStop

/-- SAMPLE_BOUNDARY: a sample before an iteration's last ends. -/
def execSampleBoundary (s : State) : Host.Outcome State Fault Refusal :=
  let q := s.d.seq
  let x := q.desc q.seg
  if q.state != .running || decide (x.len ≤ q.sample) || decide (s.d.tb2 < q.sampleAt + x.dur) then ignored s
  else finish s (s.d.sampleNext s.mem)

/-- ITERATION_BOUNDARY: the last sample of an iteration ends. -/
def execIterationBoundary (s : State) : Host.Outcome State Fault Refusal :=
  let q := s.d.seq
  let x := q.desc q.seg
  if q.state != .running || decide (q.sample < x.len) || decide (s.d.tb2 < q.sampleAt + x.dur) then ignored s
  else finish s (s.d.iterationNext s.mem)

/-- The largest code of each lane up to a TB2 instant, from its value now and playback as it goes on without commands; `best` is what the samples
before hold (R210). -/
def Dev.lanesAhead (d : Dev) (m : Mem) (stop : Nat) : Nat → List Nat → List Nat
  | 0, best => best
  | k + 1, best =>
    let best := (List.range 4).map (fun l => max (best.getD l 0) ((d.lane l).value % 1024))
    let q := d.seq
    let x := q.desc q.seg
    if q.state != .running || decide (stop ≤ q.sampleAt + x.dur) then best
    else (if q.sample < x.len then d.sampleNext m else d.iterationNext m).lanesAhead m stop k best

/-- SEGMENT_READY: playback resumes at the awaited segment's first sample on the next DCLK edge (R219, R466). -/
def execSegmentReady (s : State) : Host.Outcome State Fault Refusal :=
  let q := s.d.seq
  if q.state == .underrun && s.d.segReady q.seg && decide (q.readyAt < s.d.tb2) then
    finish s (({ s.d with seq := { q with state := .running } }).startIteration s.mem s.d.nextDclk)
  else ignored s

/-- A write of SEQ_RF_CTL (R218): EN from 0 to 1 starts the DMA at the buffer's start. -/
def Seq.rfWrite (q : Seq) (v : Nat) : Seq :=
  let q := if bitOf v 0 && !q.rfEn then { q with rfPos := 0, rfStop := false } else q
  { q with rfEn := bitOf v 0, rfWrap := bitOf v 1 }

def execRefillEnable (fn : Nat) (value : Word) (s : State) : Host.Outcome State Fault Refusal :=
  pf0Wr s fn 0xC018 (fun d => if bitOf value.toNat 0 then { d with seq := d.seq.rfWrite value.toNat } else d)

/-- The refill stops; a playback that waits for it stops too (R218, R219). -/
def Dev.rfEnds (d : Dev) : Dev :=
  let d := { (d.resetBursts (fun b => b.master == 6 && !b.dead)) with seq := { d.seq with rfStop := true } }
  if d.seq.state == .underrun && (d.seq.desc d.seq.seg).refill && !d.segReady d.seq.seg then d.seqStop else d

/-- The segments that the link chain reaches from one on. -/
def Seq.chainFrom (q : Seq) : Nat → Option Nat → List Nat
  | k + 1, some g => g :: q.chainFrom k (if (q.desc g).endB then none else some (q.desc g).next)
  | _, _ => []
/-- The link chain from the playing segment, whose successor is the one chosen, a jump's target or NEXT; it begins with an awaited segment, and while
nothing plays with START_SEG (R218; log entry 119). -/
def Seq.chain (q : Seq) : List Nat :=
  q.chainFrom 64 (match q.state, q.next with
    | .running, .go g => some g
    | .running, .stop => none
    | .running, _ => if q.jumpPend then some q.target else if (q.desc q.seg).endB then none else some (q.desc q.seg).next
    | .underrun, _ => some q.seg
    | _, _ => some q.startSeg)
/-- The segment that the refill DMA fills: enabled and not stopped, it fills the inactive unfilled refill segment that the link chain reaches first
(R218). -/
def Dev.refillNext (d : Dev) : Option Nat :=
  let q := d.seq
  if q.rfEn && !q.rfStop && d.io.linkUp && d.mayWrite 0 && decide (0 < q.rfLen) then
    q.chain.find? (fun g => (q.desc g).refill && (q.desc g).valid && !q.fill.contains g && !d.segActive g)
  else none

/-- A write of a segment descriptor's word, by register offset in SEQ: dropped while the segment is active (R213). -/
def Dev.descWrite (d : Dev) (off v : Nat) : Dev :=
  let g := (off - 0x400) / 8
  if off < 0x400 ∨ 64 ≤ g ∨ off % 4 ≠ 0 then d
  else if d.segActive g then d.droppedWrite 0x3FFFFF
  else
    let q := { d.seq with readyAt := if g = d.seq.seg then d.tb2 else d.seq.readyAt }
    { d with seq := if off % 8 = 0 then { q with segA := q.segA.set 0 g v } else { q with segB := q.segB.set 0 g v } }

/-- Is a sample in a refill segment while the DMA alone writes those (R218)? -/
def Dev.refillOnly (d : Dev) (sample : Nat) : Bool :=
  d.seq.rfEn && (List.range 64).any (fun g => (d.seq.desc g).refill && decide ((d.seq.desc g).base ≤ sample) &&
      decide (sample ≤ (d.seq.desc g).base + (d.seq.desc g).len))
/-- A write of bytes of one sample of pattern memory: dropped past its last sample, while it belongs to an active segment, or, but for the DMA's, to a
refill segment while refill is enabled (R209, R213, R218). -/
def sampleWrite (dma : Bool) (m : Mem) (d : Dev) (addr : Nat) (bs : List Byte) : Mem × Dev :=
  if 131072 ≤ addr / 8 then (m, d)
  else if d.activeAt (addr / 8) then (m, d.droppedWrite ((0x2000000 + addr) / 8))
  else if !dma && d.refillOnly (addr / 8) then (m, d)
  else ({ m with pattern := Memory.writeBytes m.pattern addr bs }, d)

/-- A write of pattern memory from a byte offset, sample by sample. -/
def patternPut (dma : Bool) (m : Mem) (d : Dev) (addr : Nat) (bs : List Byte) : Mem × Dev :=
  let first := addr / 8
  (List.range ((addr + bs.length + 7) / 8 - first)).foldl (fun (a : Mem × Dev) k =>
    let lo := max addr (8 * (first + k))
    let hi := min (addr + bs.length) (8 * (first + k) + 8)
    sampleWrite dma a.1 a.2 lo ((bs.drop (lo - addr)).take (hi - lo))) (m, d)

/-- SEGMENT_FILLED: the DMA has read the next samples of the buffer into the segment it fills: LEN + 1 of them set FILLED; a buffer that is
exhausted goes on from its start with WRAP, and else ends the refill (R218). -/
def execSegmentFilled (seg : Nat) (data : List DWord) (s : State) : Host.Outcome State Fault Refusal :=
  let q := s.d.seq
  let x := q.desc seg
  let room := if q.rfWrap then x.len + 1 else min (x.len + 1) (q.rfLen - q.rfPos)
  if s.d.refillNext != some seg || data.length != room then ignored s
  else
    let r := patternPut true s.mem ((s.d.bus 6 false 3 (q.rfAddr + 8 * q.rfPos) (8 * room)).bus 6 true 5 (8 * x.base) (8 * room)) (8 * x.base)
      (data.flatMap (fun w => bytesLE w.toNat 8))
    let q := r.2.seq
    let pos := q.rfPos + room
    let d := { r.2 with seq := { q with
      fill := if room = x.len + 1 then seg :: q.fill else q.fill
      readyAt := r.2.tb2
      rfPos := if q.rfWrap then pos % q.rfLen else pos } }
    let d := if !q.rfWrap && decide (q.rfLen ≤ pos) then d.rfEnds else d
    .next { s with mem := r.1, d := d.notify }

/-- PATTERN_WRITE: a write of pattern memory, by byte offset in it, or of a segment descriptor, by register offset in SEQ (R209, R213). -/
def execPatternWrite (fn : Nat) (desc : Bool) (addr nbytes : Nat) (value : DWord) (s : State) : Host.Outcome State Fault Refusal :=
  if !s.d.reach fn then ignored s
  else
    let d := s.d.inbound true (if desc then 0 else 2) (if desc then 0xC000 + addr else 0x2000000 + addr) nbytes
    if fn ≠ 0 then finish s d
    else if desc then finish s (if nbytes = 4 then d.descWrite addr (value.toNat % 2 ^ 32) else d)
    else if 0x100000 < addr + nbytes ∨ 8 < nbytes then finish s d
    else
      let r := patternPut false s.mem d addr (bytesLE value.toNat nbytes)
      .next { s with mem := r.1, d := r.2.notify }

/-- SYNCIN rises: a jump request with the TARGET in force, a start, injected conversions, captures (R214). -/
def execSyncin (s : State) : Host.Outcome State Fault Refusal :=
  if !s.d.clocked then ignored s
  else
    let d := s.d
    let d := if d.seq.jumpSyncin then (if d.seq.ownerCal then d else d.seqJump) else d
    finish s (((d.seqTrigger s.mem 1).injTrigger 1).flTrigger (fun l => l.trig == 1))

/-- A SYNC pulse ends (R216). -/
def execSyncPulseEnd (x : Nat) (s : State) : Host.Outcome State Fault Refusal :=
  let o := s.d.seq.sync.get {} x
  match o.endAt with
  | none => ignored s
  | some t =>
    if s.d.tb2 < t then ignored s
    else
      let d := s.d.send (.pin ("SYNC" ++ toString x) o.inv)
      finish s { d with seq := { d.seq with sync := d.seq.sync.set {} x { o with endAt := none } } }

/-! ## Shapes and tones (R202, R207) -/

/-- A write of DRV_CTL.SHAPE_LOAD = 1 (R202). -/
def Dev.shapeLoadReq (d : Dev) (seg : Nat) : Dev :=
  let bad := d.drv.shapeLoad || d.segActive seg || (d.seq.desc seg).len != 63
  if bad then ({ d with drv := { d.drv with err := d.drv.err ||| 16 } }).once 54 0
  else { d with drv := { d.drv with shapeLoad := true, copySeg := seg } }

/-- A write of DRV_CTL.TONE_APPLY = 1: the written plan is checked (R207). -/
def Dev.toneApplyReq (d : Dev) : Dev :=
  let ts := (List.range 32).map d.toneSet
  if ts.all (fun f => decide (20 ≤ f) && decide (f ≤ 60)) && decide (ts.eraseDups.length = 32) then
    let t := d.tb2 + 1000
    { d with drv := { d.drv with toneApply := true, toneNew := d.drv.tone, toneAt := (t + 999999) / 1000000 * 1000000 } }
  else ({ d with drv := { d.drv with err := d.drv.err ||| 32 } }).once 55 0

/-- A write of DRV_CTL (R222). -/
def Dev.drvCtl (d : Dev) (v : Nat) : Dev :=
  let d := { d with drv := { d.drv with shapeSeg := fieldOf v 1 6 } }
  let d := if bitOf v 0 then d.shapeLoadReq (fieldOf v 1 6) else d
  if bitOf v 7 then d.toneApplyReq else d

def execShapeLoad (fn : Nat) (value : Word) (s : State) : Host.Outcome State Fault Refusal :=
  pf0Wr s fn 0xA000 (fun d => if bitOf value.toNat 0 then d.drvCtl value.toNat else d)
def execToneApply (fn : Nat) (value : Word) (s : State) : Host.Outcome State Fault Refusal :=
  pf0Wr s fn 0xA000 (fun d => if bitOf value.toNat 7 && !bitOf value.toNat 0 then d.drvCtl value.toNat else d)

/-- The copy completes: the inactive bank holds the shapes and becomes active (R202). -/
def execShapeLoadComplete (s : State) : Host.Outcome State Fault Refusal :=
  if !s.d.drv.shapeLoad then ignored s
  else
    let x := s.d.seq.desc s.d.drv.copySeg
    let smp := (List.range 512).map (fun k => signedOf (Memory.read s.mem.pattern (8 * x.base + k)).toNat 8)
    let v := { s.d.drv with shapeLoad := false, bank := !s.d.drv.bank }
    finish s { s.d with drv := if s.d.drv.bank then { v with bankA := some smp } else { v with bankB := some smp } }

/-- The new plan takes effect at its TB2 millisecond, where every NCO is at its reset and at a zero crossing: amplitudes follow their tones, the
demodulator windows restart, and lock loops drive FF alone for 1 ms (R134, R205, R207, R208). -/
def execTonePlanChange (s : State) : Host.Outcome State Fault Refusal :=
  let d := s.d
  if !d.drv.toneApply || decide (d.tb2 < d.drv.toneAt) then ignored s
  else
    let d := { d with drv := { d.drv with toneApply := false, toneOn := d.drv.toneNew, toneNew := [], demodAt := d.drv.toneAt + 1000000 } }
    let cells := d.fab.cells.mapVals {} (fun _ c => { c with demod := [] })
    let loops := d.fab.loops.mapVals {} (fun aa l => if l.dither then { l with ap := d.ditherPower aa l.ampl } else l)
    finish s { d with fab := { d.fab with cells := cells, loops := loops } }

end Sys2Proof.Machine
end

