-- ==== Sys2Proof/Machine/Commit.lean ====
section
/-!
DEFINITION. The commit unit (R75, R77 to R104): what a commit does to the map, the cells and the VOAs, its verification, the completion of
its batch, and what fails.
-/
namespace Sys2Proof.Machine

/-! ## Commits -/

/-- What a commit changes. Targets are by side × 512 + port. -/
structure Change where
  conns : List Conn
  sw : List (Nat × Sw) := []
  cons : List (Nat × Cons) := []
  tgt : List (Nat × Nat) := []
  /-- The recorded states change with no step: the ramp has made it (R61). -/
  still : Bool := false
  /-- CELL_DIRECT names the constraints (R323). -/
  byHost : Bool := true
  /-- The input VOA cell that a device plane commit acts on: its LAST_ESN is written whatever its stored target (R25). -/
  plane : Option Nat := none

/-- The map after a commit, its ESNs apart. -/
def Net.apply (n : Net) (c : Change) : Net := { n with conns := c.conns, sw := c.sw.foldl (fun t p => t.set .bar p.1 p.2) n.sw }

/-- Connections of one map that the other does not hold alike, by ports, pin or path. -/
def touchedOf (n m : Net) (c : Change) : List Conn :=
  n.conns.filter (fun x => !m.conns.contains x || (!c.sw.isEmpty && (n.pathOf x).any (fun p => c.sw.any (·.1 == p.1))))

/-- A map's touched connections with their paths. -/
abbrev Paths := List (Conn × List (Nat × Nat))
def withPaths (n : Net) (cs : List Conn) : Paths := cs.map (fun x => (x, n.pathOf x))
/-- The input carried on a cell's input, among touched connections (R25). -/
def Paths.at (ps : Paths) (ca par : Nat) : Option Nat :=
  (ps.find? (fun x => x.2.contains (ca, caIdx ca * 2 + par))).map (·.1.inp)
/-- The touched connection of an output. -/
def Paths.ofOut (ps : Paths) (o : Nat) : Option Conn := (ps.find? (fun x => x.1.uses o)).map (·.1)
def Paths.ofIn (ps : Paths) (i : Nat) : Option Conn := (ps.find? (fun x => x.1.inp == i)).map (·.1)
/-- Light paths with their cells, plane and pin left out. -/
def Paths.light (ps : Paths) (n : Net) : List (Nat × Nat × List (Nat × Nat)) :=
  ps.flatMap (fun x => x.1.outs.map (fun o => (x.1.inp, o, traceWith n.swOf x.1.inp o)))

/-- Two lists of numbers joined, each once. -/
def joinNats (a b : List Nat) : List Nat := (a ++ b).eraseDups

/-- What a commit has done: the map, the rest, the cells that step, the light paths it lights anew, the branches it bridges. -/
structure Made where
  net : Net
  dev : Dev
  stepped : List Nat
  lit : List (Nat × Nat)
  bridged : List (Nat × Nat)

/-- The constraint of a cell that leaves SPLIT, or that the device had constrained, at a commit (R92, R323). -/
def Dev.reconstrain (d : Dev) (ca : Nat) (old new : Sw) : Dev :=
  let a := planeACa ca
  let forced : Cons := match new with
    | .cross => .forcedCross
    | _ => .forcedBar
  let pend := !(d.cell a).pendCons.isEmpty || !(d.cell (twinCa a)).pendCons.isEmpty
  if old = .split ∧ new ≠ .split ∧ pend then
    let d := [a, twinCa a].foldl (fun d c => d.modCell c (fun x => { x with pendCons := [] })) d
    (d.setCons a forced).modCell a (fun x => { x with devCons := true })
  else if (d.cell a).devCons ∧ d.cons a ≠ .free ∧ new ≠ .split then d.setCons a forced
  else d

/-- One VOA cell at a commit: DARK, or out of it, or to a new target (R16, R34, R46); and whether it opens a settle window. -/
def Dev.voaAt (d : Dev) (n : Net) (c : Change) (ca : Nat) : Dev × Bool :=
  let dark := voaHeldDark n d ca
  let side := if isInVoa ca then 0 else 1
  let a := tgtQ (d.tgt side (caIdx ca))
  let x := d.cell ca
  if dark then (if x.dark || (x.toDark && d.tgt side (caIdx ca) == 511 && (n.voaConn ca).any (fun k => k.dark != some (caPlane ca == 1))) then
      (d, false) else (d.stepVoa ca true 0, !d.blanked ca))
  else if x.dark || (c.tgt.any (fun p => p.1 == side * 512 + caIdx ca) && x.aRef != a) then (d.stepVoa ca false a, !d.blanked ca)
  else (d, false)

/-- An ATTEN_SET that waits for a VOA is superseded there (R68). -/
def Dev.supersede (d : Dev) (keys : List Nat) : Dev :=
  { d with jobs := { d.jobs with att := d.jobs.att.map (fun j =>
      if j.applied && j.left.any keys.contains then { j with superseded := true, left := j.left.filter (fun k => !keys.contains k) } else j) } }

/-- Complete every ATTEN_SET that has nothing left to wait for (R68, R319). -/
def Dev.attFinish (d : Dev) : Dev :=
  (d.jobs.att.filter (fun j => j.applied && j.left.isEmpty)).foldl (fun d j =>
    let d := { d with jobs := { d.jobs with att := d.jobs.att.filter (fun k => !(k.q == j.q && k.idx == j.idx)) } }
    d.complete j.q j.idx (baseComp 2 (if j.blanked then stBlanked else if j.superseded then stSuperseded else stOk))) d

/-- A comparator with REL = 1 whose port is freed returns to IN without an event (R180). -/
def Dev.freeMet (d : Dev) (mpa : Nat) : Dev :=
  if (d.met mpa).rel then d.modMet mpa (fun m => { m with state := 0, count := 0, due := none }) else d

/-- Expected level at an output in one plane, 2^-16 dBm, from the input's plane power (R89). -/
def levelOf (i o : Nat) (plane : Bool) (input : Int) (tgt : Nat) (split : Bool) : Int :=
  input - Config.pathLoss i o plane - tgtDb tgt - (if split then 196608 else 0)
/-- The expected level on the map as it stands, at the output's stored target. -/
def Dev.expected (d : Dev) (n : Net) (i o : Nat) (plane : Bool) (input : Int) : Int :=
  levelOf i o plane input (d.tgt 1 o) ((n.ofOut o).any (·.isBridge))
/-- The input's plane power, from the monitor result of input VOA tap 0. -/
def Dev.inputPower (d : Dev) (i : Nat) (plane : Bool) : Int := (d.mrt (mkMpa (inVoa (b2n plane) i) 0)).value
/-- A level as REF holds it, signed Q7.8 dBm (R178). -/
def refOf (x : Int) : Nat := twos (divRound x 256) 16
/-- REF of an output's tap 0 in both planes becomes the expected level (R181). -/
def Dev.setRef (d : Dev) (n : Net) (i o : Nat) : Dev :=
  [false, true].foldl (fun d p => d.modMet (mkMpa (outVoa (b2n p) o) 0) (fun m => { m with ref := refOf (d.expected n i o p (d.inputPower i p)) })) d

/-- Make a commit: the next ESN, the map and states, cell by cell the steps, and what follows the map (R24, R25, R39, R46, R81, R82, R159,
R180, R181). -/
def makeCommit (n : Net) (d : Dev) (c : Change) : Made :=
  let esn := d.cmt.esn + 1
  let n1 := n.apply c
  let was := withPaths n (touchedOf n n1 c)
  let now := withPaths n1 (touchedOf n1 n c)
  let d0 := d
  let d := { d with cmt := { d.cmt with esn := esn, mn := d.tb0 } }
  let tgts : Tab Nat := c.tgt.foldl (fun t p => t.set 0 p.1 p.2) d.fab.tgt
  let cons : Tab Cons := c.cons.foldl (fun t p => t.set .free p.1 p.2) d.fab.cons
  let d := { d with fab := { d.fab with tgt := tgts, cons := cons } }
  let d := if c.byHost then c.cons.foldl (fun d p => d.modCell p.1 (fun x => { x with devCons := false })) d else d
  let d := c.sw.foldl (fun d p => d.reconstrain p.1 (n.swOf p.1) p.2) d
  -- switch cells
  let swCells := joinNats ((was.flatMap (·.2)).map (·.1) ++ (now.flatMap (·.2)).map (·.1)) (c.sw.map (·.1) ++ c.cons.map (·.1))
  let moved := fun (ca : Nat) => was.at ca 0 != now.at ca 0 || was.at ca 1 != now.at ca 1
  let esnSw := swCells.filter (fun ca => n.swOf ca != n1.swOf ca || d0.cons ca != d.cons ca || moved ca)
  let newly := swCells.filter (fun ca => (now.at ca 0).isSome && was.at ca 0 != now.at ca 0 || (now.at ca 1).isSome && was.at ca 1 != now.at ca 1)
  let relight := fun (d : Dev) (ca : Nat) => d.modCell ca (fun x => x.relit (isSwitchCa ca) (lit n d0 ca))
  let d := newly.foldl (fun d ca => relight (relight d ca) (twinCa ca)) d
  let steps := c.sw.filter (fun p => n.swOf p.1 != p.2)
  let d := if c.still then d
           else steps.foldl (fun d p => (d.stepSwitch p.1 (n.swOf p.1) p.2).stepSwitch (twinCa p.1) (n.swOf p.1) p.2) d
  -- ports
  let ins := joinNats (was.map (·.1.inp)) (now.map (·.1.inp) ++ (c.tgt.filter (·.1 < 512)).map (·.1))
  let outs := joinNats (was.flatMap (·.1.outs)) (now.flatMap (·.1.outs) ++ (c.tgt.filter (512 ≤ ·.1)).map (·.1 - 512))
  let newOuts := outs.filter (fun o => ((now.ofOut o).map (·.inp)).isSome && (now.ofOut o).map (·.inp) != (was.ofOut o).map (·.inp))
  let d := newOuts.foldl (fun d o => d.setBal o 0 0 0) d
  let d := newOuts.foldl (fun d o => [outVoa 0 o, outVoa 1 o].foldl relight d) d
  let voas := ins.flatMap (fun i => [inVoa 0 i, inVoa 1 i]) ++ outs.flatMap (fun o => [outVoa 0 o, outVoa 1 o])
  let (d, stepped) := voas.foldl (fun (d, l) ca => let (d, s) := d.voaAt n1 c ca; (d, if s then ca :: l else l)) (d, [])
  let esnVoa := voas.filter (fun ca =>
    let side := if isInVoa ca then 0 else 1
    voaHeldDark n d0 ca != voaHeldDark n1 d ca || (n.voaConn ca).map (·.inp) != (n1.voaConn ca).map (·.inp) ||
    d0.tgt side (caIdx ca) != d.tgt side (caIdx ca))
  let freedIn := ins.filter (fun i => (was.ofIn i).isSome && (n1.ofIn i).isNone)
  let freedOut := outs.filter (fun o => (was.ofOut o).isSome && (n1.ofOut o).isNone)
  let freed := freedIn.flatMap (fun i => [inVoa 0 i, inVoa 1 i]) ++ freedOut.flatMap (fun o => [outVoa 0 o, outVoa 1 o])
  let d := freed.foldl (fun d ca => (d.freeMet (mkMpa ca 0)).freeMet (mkMpa ca 1)) d
  let d := (d.supersede (c.tgt.map (·.1) ++ freedIn ++ freedOut.map (512 + ·))).attFinish
  -- light paths
  let before := was.light n
  let lit : List (Nat × Nat) := ((now.light n1).filter (fun p => !before.contains p)).map (fun p => (p.1, p.2.1))
  let bridged : List (Nat × Nat) := now.flatMap (fun x => if x.1.isBridge then x.1.outs.map (fun o => (x.1.inp, o)) else [])
  let d := (lit ++ bridged.filter (fun p => !lit.contains p)).foldl (fun d p => d.setRef n1 p.1 p.2) d
  let chg := outs.filter (fun o =>
    (now.ofOut o).map (fun x => { x with dark := none }) != (was.ofOut o).map (fun x => { x with dark := none }) || lit.any (·.2 == o))
  let cells := esnSw.flatMap (fun ca => [ca, twinCa ca]) ++ esnVoa ++ c.plane.toList
  { net := { n1 with esnCell := cells.foldl (fun t ca => t.set 0 ca esn) n1.esnCell, esnOut := chg.foldl (fun t o => t.set 0 o esn) n1.esnOut }
    dev := d
    stepped := (if c.still then [] else steps.flatMap (fun p => [p.1, twinCa p.1])) ++ stepped
    lit := lit
    bridged := bridged.filter (fun p => (n.ofIn p.1).map (·.outs) != (n1.ofIn p.1).map (·.outs)) }

/-! ## Light paths over failed drives (FS40) -/

/-- Scopes of a source whose condition, real or forced, is present. -/
def Src.currentScopes (s : Src) : List Nat := if s.force then s.forceScope :: s.conds else s.conds

/-- Cells with FS30 to FS33 CURRENT (R324). -/
def Dev.badCells (d : Dev) : List Nat :=
  ([30, 31, 32].flatMap (fun k => (d.src k).currentScopes)) ++ ((d.src 33).currentScopes.flatMap (fun tn => if tn < 336 then tileCells tn else []))

/-- Does a light path cross one of some cells, VOAs of its ports included? -/
def Net.crosses (n : Net) (c : Conn) (o : Nat) (bad : List Nat) (plane : Nat) : Bool :=
  bad.any (fun ca => caPlane ca == plane &&
    (ca == inVoa plane c.inp || ca == outVoa plane o || (traceWith n.swOf c.inp o).any (fun p => p.1 == planeACa ca)))

/-- FS40 follows the light paths that cross a cell with FS30 to FS33 CURRENT (R324). -/
def Dev.pathFaults (d : Dev) (n : Net) : Dev :=
  let bad := d.badCells
  let want := if bad.isEmpty then [] else n.conns.flatMap (fun c => c.outs.filterMap (fun o =>
    let p := b2n (n.crosses c o bad 0) + 2 * b2n (n.crosses c o bad 1)
    if p = 0 then none else some (pathScope c.inp o p)))
  let d := ((d.src 40).conds.filter (fun x => !want.contains x)).foldl (fun d x => d.condOff 40 x) d
  want.foldl (fun d x => d.condOn 40 x) d

/-- Single-plane inputs whose connection has gone, or has been made anew, are so no longer, and FS37 ends for them (R34, R98). -/
def Dev.singlesGone (d : Dev) (n : Net) : Dev :=
  let gone := (d.cmt.single.map (·.1)).filter (fun i => (n.ofIn i).all (fun c => c.dark.isNone) && !d.cmt.restoring.any (fun r => r.inp == i))
  let d := ((d.src 37).conds.filter (fun x => gone.contains (x % 512))).foldl (fun d x => d.condOff 37 x) d
  { d with cmt := { d.cmt with single := d.cmt.single.filter (fun p => !gone.contains p.1) } }

/-- A SNAPSHOT that waits for a Midnight has seen it (R278). -/
def Dev.snapMidnight (d : Dev) : Dev :=
  { d with jobs := { d.jobs with snap := d.jobs.snap.map (fun (j : SnapJob) => if j.trig = 1 ∧ j.mn.isNone then { j with mn := some d.tb2 } else
      j) } }

/-- The strobe of a Midnight reaches the sequencer, lanes, SYNC outputs and the island (R81, R216, R363). -/
def strobe (s : State) (r : Net × Dev) : State :=
  let d := ((((r.2.midnightTriggers s.mem).count 2896).pathFaults r.1).singlesGone r.1).snapMidnight
  { s with net := r.1, d := d.notify,
           isl := { s.isl with strobe := s.isl.strobe + 1, fifo := if s.isl.up then (s.isl.fifo ++
               [(s.isl.strobe + 1, s.isl.tb1)]).drop (s.isl.fifo.length - 15) else [] } }

/-! ## Verification and disposition -/

/-- Numbers in ascending order. -/
def sorted (l : List Nat) : List Nat := sortBy (fun a b => decide (a ≤ b)) l

/-- The plane bit of a failure: 1 plane A, 2 plane B. -/
def planeBit (plane : Nat) : Nat := if plane = 0 then 1 else 2
/-- Record that an output failed in a plane. -/
def addFail (fs : List (Nat × Nat)) (o bit : Nat) : List (Nat × Nat) :=
  match fs.find? (fun p => p.1 == o) with
  | some p => (o, p.2 ||| bit) :: fs.filter (fun q => q.1 != o)
  | none => (o, bit) :: fs

/-- The checked outputs of a slot whose path crosses a cell, in the cell's plane. -/
def Dev.outsThrough (d : Dev) (n : Net) (k ca : Nat) : List Nat :=
  (d.slot k).delta.checked.filter (fun o =>
    match n.ofOut o with
    | none => false
    | some c =>
      if isInVoa ca then c.inp == caIdx ca
      else if isOutVoa ca then caIdx ca == o
      else (traceWith n.swOf c.inp o).any (fun p => p.1 == planeACa ca))

/-- Set CONSTRAINT of a switch cell and its twin to its present state; in SPLIT, when it leaves SPLIT (R323). -/
def Dev.constrain (d : Dev) (n : Net) (ca src : Nat) : Dev :=
  if !isSwitchCa ca then d
  else match n.swOf ca with
    | .split => d.modCell ca (fun x => { x with pendCons := src :: x.pendCons.filter (· != src) })
    | .bar => (d.setCons ca .forcedBar).modCell (planeACa ca) (fun x => { x with devCons := true })
    | .cross => (d.setCons ca .forcedCross).modCell (planeACa ca) (fun x => { x with devCons := true })

/-- A cell failed lock in verification: FS29 with its constraint, and the LOCK bitmap (R91, R324, R338). -/
def Dev.lockFail (d : Dev) (n : Net) (ca : Nat) : Dev := ((d.once 29 ca).constrain n ca 29).setTileLeaf 0x140 (tileOf ca)

/-- A PLANE_LOST or PLANE_RESTORED event, to PF0 and the owner of IN, with the LOCK leaf (R269, R338). -/
def Dev.planeEvent (d : Dev) (type inp out plane ca : Nat) : Dev :=
  let own := d.owner 0 inp
  (if own = 0 then [0] else [0, own]).foldl (fun d f =>
    let (ok, d) := d.evtPush f type (inp + out * 512 + plane * 262144) ca 0 0
    if ok then d.setLeaf f 0x16C (if type = 2 then 1 else 2) else d.eventLost f) d

/-- The failing plane of a connection that fails in one plane only: 0 A, 1 B. -/
def onePlane (c : Conn) (fails : List (Nat × Nat)) : Option Nat :=
  let bits := (fails.filter (fun p => c.uses p.1)).foldl (fun b p => b ||| p.2) 0
  if bits = 1 then some 0 else if bits = 2 then some 1 else none

/-- A connection loses a plane: PLANE_LOST alone under KEEP, else a device plane commit follows (R97). A failure of level or arrival alone names
no cell, and CA reads 0 (log entry 107). -/
def Dev.dropPlane (d : Dev) (keep : Bool) (c : Conn) (pl : Nat) (ca : Option Nat) : Dev :=
  if keep then d.planeEvent 2 c.inp c.out pl (ca.getD 0)
  else { d with cmt := { d.cmt with planes := d.cmt.planes ++ [{ inp := c.inp, plane := pl == 1, failCa := ca, at2 := d.tb2 }] } }

/-- The failed cell of a connection in a plane. -/
def failedCell (n : Net) (c : Conn) (pl : Nat) (cells : List Nat) : Option Nat :=
  cells.find? (fun x => caPlane x == pl && (planeACa x == inVoa 0 c.inp || (n.footOf c).contains (planeACa x)))

/-- A kept connection's failures: FS41 for each output, and by TWIN_FAIL where one plane only has failed (R93, R97). -/
def Dev.keepFailed (d : Dev) (n : Net) (s : Slot) (c : Conn) : Dev :=
  let mine := sortBy (fun a b => decide (a.1 ≤ b.1)) (s.fails.filter (fun p => c.uses p.1))
  let d := mine.foldl (fun d p => d.once 41 (pathScope c.inp p.1 p.2)) d
  match onePlane c s.fails with
  | none => d
  | some pl => d.dropPlane s.ver.twinKeep c pl (failedCell n c pl s.lockFails)

/-- Failed connections of a kept batch whose own checks are all decided, and that have not been acted on: that one plane alone fails is known
then, whatever other connections still wait for (R91, R97; log entry 107). -/
def Dev.failedConns (d : Dev) (n : Net) (k : Nat) : List Conn :=
  let s := d.slot k
  if !s.window then []
  else n.conns.filter (fun c => s.fails.any (fun p => c.uses p.1) && !s.acted.contains c.inp &&
    !s.locks.any (fun ca => (d.outsThrough n k ca).any c.uses))

/-- The completion of a committed batch (R49, R102, R264, R265). -/
def Slot.comp (s : Slot) : Comp :=
  let vo := s.failFirst.getD (0x3FF, 0)
  { esn := s.esn
    dw2 := 0x3FF + s.delta.moved.length * 65536
    dw3 := s.unver.length * 262144
    dw4 := min s.deferBy 65535 * 65536
    dw5 := min s.rbDelta 65535 + vo.1 * 65536 + vo.2 * 67108864
    status := if s.rolledBack then stRolledBack else if s.blankedKept then stBlanked else if s.kept then stKept else stOk
    defer := s.defer, late := s.late, holdover := s.holdover }

/-- Every check of a slot's commit is decided (R91). -/
def Slot.decided (s : Slot) : Bool := s.window && s.locks.isEmpty

/-- Every roll of the batch is released, or none will be. -/
def Slot.rollsDone (s : Slot) : Bool := s.rolls.isEmpty

/-- Go on with a committed slot after one of its checks, windows or rolls has ended: a failure waits for the rollback, and what fails before it
is reported with it; the failures of a kept batch act connection by connection; when nothing is open the completion is written (R61, R63, R91 to
R97, R102, R291). -/
def Dev.advance (d : Dev) (n : Net) (k : Nat) : Dev :=
  let s := d.slot k
  if d.slotDone k then d else
  let first := (sorted (s.fails.map (·.1))).head?.bind (fun o => s.fails.find? (fun p => p.1 == o))
  match s.state with
  | .verifying =>
    if !s.fails.isEmpty && s.rbOnFail then d.modSlot k (fun s => { s with state := .rollback, failed := true, failFirst := first, knownAt := d.tb2 })
    else
      let cs := d.failedConns n k
      let d := (cs.foldl (fun d c => d.keepFailed n s c) d).modSlot k (fun s => { s with acted := s.acted ++ cs.map (·.inp) })
      if !s.decided then d
      else
      let d := if s.fails.isEmpty then d else d.count 2903
      let bad := !s.fails.isEmpty
      let d := d.modSlot k (fun s => { s with state := if bad || s.rolls.isEmpty then .settling else .rolling, kept := s.kept || bad, failed := bad,
                                              failFirst := first, rolls := if bad then [] else s.rolls, knownAt := d.tb2 })
      let s := d.slot k
      if s.wait.isEmpty && s.rollsDone then d.complete s.queue s.idx s.comp else d
  | .settling | .rolling => if s.wait.isEmpty && s.rollsDone then d.complete s.queue s.idx s.comp else d
  | .rollback =>
    if s.rolledBack && s.decided && s.wait.isEmpty then
      let d := s.fails.foldl (fun d p => match n.ofOut p.1 with
        | some c => d.once 36 (pathScope c.inp p.1 p.2)
        | none => d) d
      d.complete s.queue s.idx s.comp
    else if s.rolledBack then d
    else d.modSlot k (fun s => { s with failFirst := first })
  | _ => d

/-- A light path whose level verification can see: both its VOAs leave DARK. -/
def Dev.carries (d : Dev) (n : Net) (o : Nat) : Bool :=
  match n.ofOut o with
  | some c => d.tgt 1 o != 511 && d.tgt 0 c.inp != 511
  | none => false

/-- The plane powers of the inputs of outputs, from the tick before (R89). -/
def Dev.inputsOf (d : Dev) (n : Net) (outs : List Nat) : List (Nat × Int × Int) :=
  outs.filterMap (fun o => (n.ofOut o).map (fun c => (o, d.inputPower c.inp false, d.inputPower c.inp true)))
/-- The input power recorded for an output in a plane. -/
def inputAt (l : List (Nat × Int × Int)) (o : Nat) (p : Bool) : Int :=
  match l.find? (fun x => x.1 == o) with
  | some x => if p then x.2.2 else x.2.1
  | none => 0
/-- CMT_VER.MIN_IN in 2^-16 dBm (R103). -/
def VerLimits.minInput (c : VerLimits) : Int := signedOf c.minIn 8 * 65536
/-- The outputs that cannot be judged. An input below MIN_IN in either plane leaves the output unjudged in both: R90 does not say whether the other
plane is judged alone (log entry 108). -/
def VerLimits.unjudged (v : VerLimits) (l : List (Nat × Int × Int)) (outs : List Nat) : List Nat :=
  outs.filter (fun o => decide (inputAt l o false < v.minInput) || decide (inputAt l o true < v.minInput))

/-- Start verification of a slot after its Midnight (R87, R89, R90): the checked outputs, what their inputs measured, the locks to decide, the lanes.
-/
def Dev.startVerify (d : Dev) (n : Net) (k : Nat) (checked stepped : List Nat) : Dev :=
  let outs := (sorted checked).filter (d.carries n)
  let d := d.modSlot k (fun s => { s with delta := { s.delta with checked := outs }, wait := stepped, window := outs.isEmpty, fails := [],
                                          lockFails := [], acted := [], mn := d.tb2, ver := d.cmt.ver,
                                          inputs := d.inputsOf n outs, skip := d.cmt.ver.unjudged (d.inputsOf n outs) outs })
  let d := d.modSlot k (fun s => { s with locks := stepped.filter (fun ca => !(d.outsThrough n k ca).isEmpty) })
  let d := (d.slot k).lanes.foldl (fun d l => d.modFl l (fun x => { x with state := .verify, slot := k, trigTime := d.tb2 })) d
  let seen := (d.slot k).lanes.filterMap (fun l => (d.fl l).att)
  let slow := outs.filter (fun o => !seen.contains (mkMpa (outVoa 0 o) 0))
  (slow.foldl (fun d o => (d.slowCheck (outVoa 0 o)).slowCheck (outVoa 1 o)) d).countN 2945 slow.length

/-! ## Lanes (R88, R188) -/

/-- The range whose full scale is at least 3 dB above a level: full scales −30, −3 and +24 dBm (R165, R188). -/
def laneRange (level : Int) : Nat := if level ≤ -2162688 then 0 else if level ≤ -393216 then 1 else 2

/-- Select lanes for outputs with their inputs, ascending, two an output, from the free ones, and answer them. Each tap is frozen in the range of
the level expected after the commit: on its map, at its targets, given as OATTs by output (R88, R188). -/
def Dev.pickLanes (d : Dev) (conns : List Conn) (oatt : List (Nat × Nat)) (k : Nat) (outs : List (Nat × Nat)) : Dev × List Nat :=
  outs.foldl (fun (d, ls) (i, o) =>
    let taps := [mkMpa (outVoa 0 o) 0, mkMpa (outVoa 1 o) 0]
    let taken := (List.range 128).any (fun l => match (d.fl l).att with
      | some m => taps.contains m && (d.fl l).state != .free
      | none => false)
    match (List.range 128).filter (fun l => (d.fl l).state == .free && !(d.fl l).bad) with
    | a :: b :: _ =>
      if taken then (d, ls)
      else
        let tgt := ((oatt.find? (fun p => p.1 == o)).map (·.2)).getD (d.tgt 1 o)
        let split := conns.any (fun c => c.uses o && c.isBridge)
        let set := fun (d : Dev) (l : Nat) (m : Nat) (p : Bool) => d.modFl l (fun x =>
          { x with state := .reserved, att := some m, slot := k, range := laneRange (levelOf i o p (d.inputPower i p) tgt split) })
        ((set (set d a (mkMpa (outVoa 0 o) 0) false) b (mkMpa (outVoa 1 o) 0) true).countN 2944 2, ls ++ [a, b])
    | _ => (d, ls)) (d, [])

/-- The lanes of a slot's verification. -/
def Dev.reserveLanes (d : Dev) (conns : List Conn) (oatt : List (Nat × Nat)) (k : Nat) (outs : List (Nat × Nat)) : Dev :=
  let (d, ls) := d.pickLanes conns oatt k outs
  d.modSlot k (fun s => { s with lanes := s.lanes ++ ls })

/-- The map that the batch of a slot makes. -/
def Slot.connsOn (s : Slot) (n : Net) : List Conn := s.delta.edits.foldl applyEdit n.conns
/-- The input that will light each checked output of a slot, where neither VOA stays DARK (R87). -/
def Dev.checkedPairs (d : Dev) (n : Net) (k : Nat) : List (Nat × Nat) :=
  let s := d.slot k
  let lit := fun (i o : Nat) => d.tgt 0 i != 511 && ((s.delta.oatt.find? (fun p => p.1 == o)).map (·.2)).getD (d.tgt 1 o) != 511
  (sorted s.delta.checked).filterMap (fun o => ((s.connsOn n).find? (fun c => c.uses o && lit c.inp o)).map (fun c => (c.inp, o)))
/-- Lanes for the batch of a slot (R188). -/
def Dev.reserveFor (d : Dev) (n : Net) (k : Nat) : Dev :=
  d.reserveLanes ((d.slot k).connsOn n) (d.slot k).delta.oatt k (d.checkedPairs n k)

/-- LANE_RESERVATION: 0.5 µs before an edge the strobe mask is fixed, and lanes are attached (R188, R306). -/
def execLaneReservation (s : State) : Host.Outcome State Fault Refusal :=
  let due := (List.range 16).filter (fun k => (s.d.slot k).state == .staged && !s.d.slotDone k && !(s.d.slot k).masked &&
      decide ((s.d.slot k).due ≤ s.d.tb0 + 500))
  if due.isEmpty then ignored s
  else finish s (due.foldl (fun d k => (d.modSlot k (fun x => { x with masked := true })).reserveFor s.net k) s.d)

/-! ## MIDNIGHT -/

/-- Is a cell, in either plane, inside a settle window? -/
def Dev.settling (d : Dev) (ca : Nat) : Bool := (d.cell ca).settling || (d.cell (twinCa ca)).settling
/-- The footprints of rolls not released (R64). -/
def Dev.rollFoot (d : Dev) (n : Net) : List Nat :=
  (List.range 16).flatMap (fun k => (d.slot k).rolls.flatMap (fun r => match n.ofIn r.1 with
    | some c => n.footOf c
    | none => []))
/-- Does R99 defer a commit with this footprint? -/
def Dev.mustDefer (d : Dev) (n : Net) (foot : List Nat) : Bool :=
  foot.any d.settling || (let r := d.rollFoot n; foot.any r.contains)

/-- Has a settle window or a roll over a footprint ended at this very instant? A deferred commit is made strictly later (R99, R466). -/
def Dev.justFree (d : Dev) (foot : List Nat) : Bool := foot.any (fun ca => decide (d.tb2 ≤ (d.cell ca).settleEnd) ||
    decide (d.tb2 ≤ (d.cell (twinCa ca)).settleEnd))

/-- What the batch of a slot changes at its Midnight. -/
def Slot.change (s : Slot) (n : Net) : Change :=
  { conns := s.connsOn n
    sw := s.delta.sw.filter (fun p => n.swOf p.1 != p.2)
    cons := s.delta.cons
    tgt := s.delta.oatt.map (fun p => (512 + p.1, p.2)) }

/-- Inputs that an edit names. -/
def Edit.inp : Edit → Nat
  | .add i _ _ | .remove i _ | .bridge i _ _ | .roll i _ _ | .pin i _ _ => i

/-- What a rollback of the batch must restore (R92). -/
def Slot.undoOf (s : Slot) (n : Net) (d : Dev) (c : Change) : Undo :=
  let inps := (s.delta.edits.map Edit.inp).eraseDups
  { conns := n.conns.filter (fun x => inps.contains x.inp), inps := inps, sw := c.sw.map (fun p => (p.1, n.swOf p.1)),
    cons := c.cons.map (fun p => (p.1, d.cons p.1)), tgt := c.tgt.map (fun p => (p.1, d.fab.tgt.get 0 p.1)) }

/-- The connections of a map that a roll of the batch made. -/
def Slot.newRolls (s : Slot) (cs : List Conn) : List (Nat × Option Nat) :=
  s.delta.edits.filterMap (fun e => match e with
    | .roll i o o2 => if cs.any (fun c => c.inp == i && c.out == o && c.out2 == some o2) then some (i, none) else none
    | _ => none)

/-- A single-plane connection that a commit moves off its failed cell is to be restored; one for which no cell is known, when its path moves at all
(R98; log entry 107). -/
def Dev.planeMoved (d : Dev) (n : Net) (moved : List Nat) : Dev :=
  n.conns.foldl (fun d c =>
    match c.dark, d.cmt.single.find? (fun p => p.1 == c.inp) with
    | some pl, some (_, ca) =>
      let away := match ca with
        | some x => !(n.footOf c).contains (planeACa x)
        | none => moved.contains c.inp
      if away && !d.cmt.planes.any (fun j => j.inp == c.inp) && !d.cmt.restoring.any (fun r => r.inp == c.inp) then
        { d with cmt := { d.cmt with planes := d.cmt.planes ++ [{ inp := c.inp, plane := pl, restore := true, failCa := ca, at2 := d.tb2 }] } }
      else d
    | _, _ => d) d

/-- The batch of slot k commits now (R81 to R83). -/
def commitSlot (k : Nat) (r : Net × Dev) : Net × Dev :=
  let (n, d) := r
  let s := d.slot k
  let c := s.change n
  let undo := s.undoOf n d c
  let m := makeCommit n { d with drv := { d.drv with bank := s.bank, shapeSel := s.shapeSel } } c
  let d := { m.dev with drv := { m.dev.drv with bank := d.drv.bank, shapeSel := d.drv.shapeSel } }
  let ho := d.tim.inHoldover
  let d := (d.count 2897).count (2908 + k)
  let d := if s.late then d.count 2901 else d
  let d := if ho then (d.count 2904).once 88 0 else d
  let d := d.modQueue s.queue (fun q => { q.modCmd s.idx (fun x => { x with effect := true }) with prevMidnight := d.tb0 })
  let d := d.modSlot k (fun x =>
    { x with state := .verifying, esn := d.cmt.esn, undo := undo, holdover := ho, deferBy := if x.defer then (d.tb0 - x.time) / 20 else 0,
             rolls := x.newRolls m.net.conns, rampUs := d.fab.rollRamp })
  let d := ((d.startVerify m.net k s.delta.checked m.stepped).planeMoved m.net (m.lit.map (·.1)))
  (m.net, d.advance m.net k)

/-- The order of ESNs on one edge: ascending queue, ring order within a queue (R82). -/
def Dev.commitOrder (d : Dev) : List Nat :=
  let due := (List.range 16).filter (fun k => (d.slot k).state == .staged && !d.slotDone k && (d.slot k).masked && decide ((d.slot k).due ≤ d.tb0))
  sortBy (fun a b => decide (d.edgePos a ≤ d.edgePos b)) due

/-- Every command before this one in its queue has taken effect, and no STOP_ON_FAIL one is open (OP1, R302). -/
def Dev.maySlot (d : Dev) (k : Nat) : Bool :=
  let s := d.slot k
  ((d.queue s.queue).cmds.takeWhile (fun c => c.idx != s.idx)).all (fun c => c.effect && !sqeStop c.sqe)

/-- Does the batch of slot j go before that of slot k on the cells they share: k was routed on it, or neither was routed on the other and j's
Midnight comes first (R80, R100)? -/
def Dev.goesBefore (d : Dev) (j k : Nat) : Bool :=
  let a := d.slot j
  let b := d.slot k
  b.after.contains (a.queue, a.idx) ||
  (!a.after.contains (b.queue, b.idx) && (decide (d.slotEdge j < d.slotEdge k) || d.slotEdge j == d.slotEdge k && decide (a.t0 < b.t0)))
/-- A staged batch that goes before that of slot k and shares a cell with it has still to commit (R80, R100). -/
def Dev.behind (d : Dev) (k : Nat) : Bool :=
  (List.range 16).any (fun j => j != k && (d.slot j).state == .staged && !d.slotDone j && d.goesBefore j k &&
    meets (d.slot j).delta.foot (d.slot k).delta.foot)

/-- A commit of the device's own is due on this edge: a rollback, a device plane commit or a release (R82). -/
def Dev.deviceDue (d : Dev) (n : Net) : Bool :=
  (List.range 16).any (fun k =>
    ((d.slot k).state == .rollback && !(d.slot k).rolledBack && decide ((d.slot k).knownAt < d.tb2)) ||
    ((d.slot k).state == .rolling && !(d.slot k).rolls.isEmpty && (d.slot k).rolls.all (fun r => r.2.any (fun t => decide (t < d.tb2))))) ||
  d.cmt.planes.any (fun j => decide (j.at2 < d.tb2) && !d.blankOn && (n.ofIn j.inp).isSome &&
    (!j.restore || !(d.cell (inVoa (b2n j.plane) j.inp)).settling))

/-- One slot whose instant has come: BLANKED during blank, deferred, waiting for its predecessor, or committed (R83, R99, R318). A batch that must
let another go first on their cells is deferred, and `held` are the slots that had to at the edge. -/
def slotMidnight (held : List Nat) (r : Net × Dev) (k : Nat) : Net × Dev :=
  let (n, d) := r
  let s := d.slot k
  if s.state != .staged then r
  else if d.blankOn then
    (n, (d.count 2907).complete s.queue s.idx (baseComp 1 stBlanked))
  else if !d.maySlot k then r
  else if held.contains k || d.mustDefer n s.delta.foot then
    (n, if s.defer then d else (d.modSlot k (fun x => { x with defer := true })).count 2900)
  else if s.defer && d.justFree s.delta.foot then r
  else commitSlot k r

/-- MIDNIGHT (R81, R82): on a DCLK edge every slot of the strobe mask whose instant has come commits, after the device's own commits of the edge. -/
def execMidnight (s : State) : Host.Outcome State Fault Refusal :=
  let ks := s.d.commitOrder
  if s.d.tb2 % 2 = 1 || ks.isEmpty || !s.d.clocked || s.d.deviceDue s.net then ignored s
  else
    let r := ks.foldl (slotMidnight (ks.filter s.d.behind)) (s.net, s.d)
    if r.2.cmt.esn = s.d.cmt.esn then finish s r.2 else .next (strobe s r)

/-! ## VERIFICATION_WINDOW_CLOSE -/

/-- The measurement of an output in a plane. -/
def measOf (ms : List Meas) (o : Nat) (p : Bool) : Option Meas := ms.find? (fun m => m.out == o && m.plane == p)
/-- CMT_VER.LVL_TOL in 2^-16 dB (R103). -/
def VerLimits.tol (c : VerLimits) : Int := tgtDb c.lvlTol
/-- Does an output pass its arrival and level checks in a plane; arrival where a lane of the slot saw it (R88, R89)? -/
def Dev.passes (d : Dev) (n : Net) (v : VerLimits) (inputs : List (Nat × Int × Int)) (lanes : List Nat) (m : Meas) : Bool :=
  match n.ofOut m.out with
  | none => true
  | some c =>
    let lane := lanes.any (fun l => (d.fl l).att == some (mkMpa (outVoa (b2n m.plane) m.out) 0))
    decide ((m.level - d.expected n c.inp m.out m.plane (inputAt inputs m.out m.plane)).natAbs ≤ v.tol.natAbs) &&
    (!lane || (match m.arrival with
      | some a => decide (a ≤ v.arrMax * 4)
      | none => false))

/-- A verification lane's FL_RES: FINAL and ARRIVAL are the level and arrival of R89; SETTLE, RISE and the clipping are those of its capture
(R191; log entry 14). -/
def Dev.laneResult (d : Dev) (l : Nat) (m : Meas) : Dev :=
  let top := fun (x : Option Nat) (none_ : Nat) => match x with
    | some a => min a (none_ - 1)
    | none => none_
  d.modFl l (fun x => { x with final := twos (divRound m.level 256) 16, arrival := top m.arrival 0xFFFF, settle := top m.settle 0xFFFF,
                               rise := top m.rise 0xFF, tag := (x.tag + 1) % 64, flags := if m.clip then 2 else 0 })

/-- The results of a window, and the release of its lanes (R88, R192). -/
def Dev.closeLanes (d : Dev) (lanes : List Nat) (ms : List Meas) : Dev :=
  let d := lanes.foldl (fun d l =>
    match ms.find? (fun m => (d.fl l).att == some (mkMpa (outVoa (b2n m.plane) m.out) 0)) with
    | some m => d.laneResult l m
    | none => d) d
  lanes.foldl Dev.releaseLane d

/-- The failures of a window among the outputs that are judged (R89, R90). -/
def Dev.windowChecks (d : Dev) (n : Net) (v : VerLimits) (inputs : List (Nat × Int × Int)) (lanes outs : List Nat) (ms : List Meas) : List (Nat × Nat) :=
  (outs.filter (fun o => !(v.unjudged inputs outs).contains o)).foldl (fun fs o => [false, true].foldl (fun fs p => match measOf ms o p with
    | some m => if d.passes n v inputs lanes m then fs else addFail fs o (planeBit (b2n p))
    | none => fs) fs) ([] : List (Nat × Nat))

/-- Every checked output is measured in both planes. -/
def measured (outs : List Nat) (ms : List Meas) : Bool := outs.all (fun o => (measOf ms o false).isSome && (measOf ms o true).isSome)

/-- A device plane restore goes on: when decided, PLANE_RESTORED, or, where its verification failed, the plane that failed, or the restored one
where both did, is lost as R97 says; R98 does not say what then happens (log entry 109). -/
def Dev.restoreCheck (d : Dev) (n : Net) (i : Nat) : Dev :=
  match d.cmt.restoring.find? (fun r => r.inp == i), n.ofIn i with
  | some r, some c =>
    if !(r.locked && r.window) then d
    else
      let d := { d with cmt := { d.cmt with restoring := d.cmt.restoring.filter (fun x => x.inp != i) } }
      if r.failed ≠ 0 then
        let pl := if r.failed = 3 then b2n r.plane else r.failed - 1
        d.dropPlane r.ver.twinKeep c pl (some (inVoa pl i))
      else
        let d := { d with cmt := { d.cmt with single := d.cmt.single.filter (fun p => p.1 != i) } }
        (d.condOff 37 (pathScope i c.out (planeBit (b2n r.plane)))).planeEvent 3 i c.out (b2n r.plane) 0
  | some r, none =>
    let d := d.closeLanes r.lanes []
    { d with cmt := { d.cmt with restoring := d.cmt.restoring.filter (fun x => x.inp != i) } }
  | none, _ => d

/-- VERIFICATION_WINDOW_CLOSE (R88 to R91): 4 µs after the Midnight of slot k; slots 16 + i are the device plane restore of input i. -/
def execVerificationWindowClose (slot : Nat) (meas : List Meas) (s : State) : Host.Outcome State Fault Refusal :=
  if slot < 16 then
    let x := s.d.slot slot
    let open_ := x.state == .verifying || (x.state == .rollback && x.rolledBack)
    if !open_ || x.window || decide (s.d.tb2 < x.mn + 4000) || !measured x.delta.checked meas then ignored s
    else
      let fails := s.d.windowChecks s.net x.ver x.inputs x.lanes x.delta.checked meas
      let d := s.d.closeLanes x.lanes meas
      let d := d.modSlot slot (fun y =>
        { y with window := true, lanes := [], fails := fails.foldl (fun fs p => addFail fs p.1 p.2) y.fails,
                 unver := (if y.rolledBack then y.unver else y.skip) })
      finish s (d.advance s.net slot)
  else
    let i := slot - 16
    match s.d.cmt.restoring.find? (fun r => r.inp == i), s.net.ofIn i with
    | some r, some c =>
      if r.window || decide (s.d.tb2 < r.mn + 4000) || !measured c.outs meas then ignored s
      else
        let fails := s.d.windowChecks s.net r.ver r.inputs r.lanes c.outs meas
        let bad := fails.foldl (fun b p => b ||| p.2) 0
        let d := s.d.closeLanes r.lanes meas
        let rs := d.cmt.restoring.map (fun (x : Restore) => if x.inp = i then
            { x with window := true, lanes := [], failed := x.failed ||| bad } else x)
        finish s (({ d with cmt := { d.cmt with restoring := rs } }).restoreCheck s.net i)
    | some _, none => finish s (s.d.restoreCheck s.net i)
    | none, _ => ignored s

/-! ## Rollback, plane and release commits -/

/-- The map that a rollback restores: the batch's inputs as they stood (R92). -/
def restoredConns (cs : List Conn) (u : Undo) : List Conn := u.conns.foldl (fun l c => insertConn c l) (cs.filter (fun c => !u.inps.contains c.inp))

/-- ROLLBACK_COMMIT (R92, R96): on the first DCLK edge after the failure is known. -/
def execRollbackCommit (slot : Nat) (s : State) : Host.Outcome State Fault Refusal :=
  let x := s.d.slot slot
  if x.state != .rollback || x.rolledBack || decide (s.d.tb2 ≤ x.knownAt) || s.d.tb2 % 2 == 1 || !s.d.clocked then ignored s
  else
    let d := s.d.closeLanes x.lanes []
    let cons := x.undo.cons.filter (fun p => !(d.cell p.1).devCons)
    let m := makeCommit s.net d { conns := restoredConns s.net.conns x.undo, sw := x.undo.sw, cons := cons, tgt := x.undo.tgt }
    let d := (m.dev.count 2898).count 2903
    let d := d.modSlot slot (fun y => { y with rolledBack := true, rbDelta := d.cmt.esn - y.esn, rolls := [], lanes := [] })
    let d := if d.blankOn then d.modSlot slot (fun y => { y with window := true, locks := [], fails := [], wait := m.stepped,
                                                                    delta := { y.delta with checked := [] } })
             else
               let lit := sortBy (fun a b => decide (a.2 ≤ b.2)) (m.lit ++ m.bridged.filter (fun p => !m.lit.contains p))
               ((d.reserveLanes m.net.conns [] slot (lit.filter (fun p => d.carries m.net p.2))).startVerify m.net slot (lit.map (·.2)) m.stepped)
    let d := d.planeMoved m.net (m.lit.map (·.1))
    .next (strobe s (m.net, d.advance m.net slot))

/-- A cell that a commit steps again is in that commit's settle window: what other slots waited for has ended (R93). -/
def Dev.unwait (d : Dev) (ca : Nat) : Dev :=
  (List.range 16).foldl (fun d k => if (d.slot k).wait.contains ca then d.modSlot k (fun s => { s with wait := s.wait.filter (· != ca) }) else d) d

/-- DEVICE_PLANE_COMMIT (R97): the input VOA DARK in the failing plane only. -/
def execDevicePlaneCommit (inp : Nat) (s : State) : Host.Outcome State Fault Refusal :=
  match s.d.cmt.planes.find? (fun j => j.inp == inp && !j.restore), s.net.ofIn inp with
  | some j, some c =>
    let ca := inVoa (b2n j.plane) inp
    if s.d.tb2 % 2 == 1 || decide (s.d.tb2 ≤ j.at2) || s.d.blankOn || !s.d.clocked then ignored s
    else
      let m := makeCommit s.net s.d { conns := putConn { c with dark := some j.plane } s.net.conns, plane := some ca }
      let d := (m.dev.count 2899).unwait ca
      let d := { d with cmt := { d.cmt with planes := d.cmt.planes.filter (fun x => x.inp != inp),
                                            single := (inp, j.failCa) :: d.cmt.single.filter (fun p => p.1 != inp) } }
      let d := d.condOn 37 (pathScope inp c.out (planeBit (b2n j.plane)))
      .next (strobe s (m.net, d.planeEvent 2 inp c.out (b2n j.plane) (j.failCa.getD 0)))
  | some _, none => finish s { s.d with cmt := { s.d.cmt with planes := s.d.cmt.planes.filter (fun x => x.inp != inp) } }
  | none, _ => ignored s

/-- PLANE_RESTORE_COMMIT (R98): the input VOA back to its stored target, and verified. -/
def execPlaneRestoreCommit (inp : Nat) (s : State) : Host.Outcome State Fault Refusal :=
  match s.d.cmt.planes.find? (fun j => j.inp == inp && j.restore), s.net.ofIn inp with
  | some j, some c =>
    let ca := inVoa (b2n j.plane) inp
    if s.d.tb2 % 2 == 1 || decide (s.d.tb2 ≤ j.at2) || s.d.blankOn || (s.d.cell ca).settling || !s.d.clocked then ignored s
    else
      let m := makeCommit s.net s.d { conns := putConn { c with dark := none } s.net.conns, plane := some ca }
      let d := m.dev.count 2899
      let steps := m.stepped.contains ca
      let outs := c.outs.filter (d.carries m.net)
      let (d, lanes) := d.pickLanes m.net.conns [] 0 (outs.map (fun o => (inp, o)))
      let d := lanes.foldl (fun d l => d.modFl l (fun x => { x with state := .verify, trigTime := d.tb2 })) d
      let slow := outs.filter (fun o => !lanes.any (fun l => (d.fl l).att == some (mkMpa (outVoa 0 o) 0)))
      let d := (slow.foldl (fun d o => (d.slowCheck (outVoa 0 o)).slowCheck (outVoa 1 o)) d).countN 2945 slow.length
      let d := { d with cmt := { d.cmt with planes := d.cmt.planes.filter (fun x => x.inp != inp),
                                            restoring := { inp := inp, plane := j.plane, mn := d.tb2, locked := !steps,
                                                           window := outs.isEmpty, lanes := lanes, ver := d.cmt.ver,
                                                           inputs := d.inputsOf m.net outs } :: d.cmt.restoring } }
      .next (strobe s (m.net, d.restoreCheck m.net inp))
  | some _, none => finish s { s.d with cmt := { s.d.cmt with planes := s.d.cmt.planes.filter (fun x => x.inp != inp) } }
  | none, _ => ignored s

/-- The SPLIT cell of a bridged connection, plane A (R57). -/
def splitCellOf (n : Net) (c : Conn) : Option Nat :=
  match c.out2 with
  | none => none
  | some o2 => ((traceWith n.swOf c.inp c.out).find? (fun p => caCol p.1 == splitCol c.out o2)).map (·.1)

/-- The state of the SPLIT cell that sends a bridged input to one output alone (R60, R61). -/
def finalState (n : Net) (c : Conn) (keep : Nat) : Sw :=
  match c.out2 with
  | none => .bar
  | some o2 =>
    match (traceWith n.swOf c.inp c.out).find? (fun p => caCol p.1 == splitCol c.out o2) with
    | some (ca, w) => swOfParity w (wantedParity (caCol ca) keep)
    | none => .bar

/-- ROLL_RAMP_START (R61, R152, R307): on the fast period after verification has passed. -/
def execRollRampStart (slot : Nat) (s : State) : Host.Outcome State Fault Refusal :=
  let x := s.d.slot slot
  let d := s.d
  if x.state != .rolling || x.rolls.any (fun r => r.2.isSome) || decide (d.tb2 ≤ x.knownAt) || d.tb2 % 1000 != 0 then ignored s
  else
    let full := d.tb2 + x.rampUs * 1000
    let stop := match x.abortAt with
      | some a => min full (max a d.tb2 + 10000)
      | none => full
    let d := x.rolls.foldl (fun d r => match s.net.ofIn r.1 with
      | none => d
      | some c => match splitCellOf s.net c, c.out2 with
        | some ca, some o2 => [ca, twinCa ca].foldl (fun d y => d.modCell y (fun z =>
            { z with ramp := some (d.tb2, stop, z.phiTgt, z.phiTgt + outOfSplit z.phiTgt (swPhase (finalState s.net c o2))) })) d
        | _, _ => d) d
    finish s (d.modSlot slot (fun y => { y with rolls := y.rolls.map (fun r => (r.1, some stop)) }))

/-- RELEASE_COMMIT (R61): on the first DCLK edge after the ramp ends, OUT goes DARK and the bridge is freed. -/
def execReleaseCommit (slot : Nat) (s : State) : Host.Outcome State Fault Refusal :=
  let x := s.d.slot slot
  let due := !x.rolls.isEmpty && x.rolls.all (fun r => match r.2 with
    | some t => decide (t < s.d.tb2)
    | none => false)
  if x.state != .rolling || !due || s.d.tb2 % 2 == 1 || !s.d.clocked then ignored s
  else
    let cs := x.rolls.filterMap (fun r => s.net.ofIn r.1)
    let sw := cs.filterMap (fun c => match splitCellOf s.net c, c.out2 with
      | some ca, some o2 => some (ca, finalState s.net c o2)
      | _, _ => none)
    let conns := cs.foldl (fun l c => l.filterMap (fun y => if y.inp = c.inp then y.less c.out else some y)) s.net.conns
    let m := makeCommit s.net s.d { conns := conns, sw := sw, still := true }
    let d := sw.foldl (fun d p => [p.1, twinCa p.1].foldl (fun d ca => d.modCell ca (fun z =>
      let tgt := match z.ramp with
        | some r => r.2.2.2
        | none => z.phiTgt
      { z with ramp := none, phiTgt := tgt, f := clampI (tgt - z.phiTh + z.fTrim) (-maxF) maxF, fDue := none, wave := none, handover := true, region := 5 })) d) m.dev
    let d := sw.foldl (fun d p => (d.ffStep p.1).ffStep (twinCa p.1)) d
    let freed := (cs.flatMap (fun c => s.net.footOf c)).flatMap (fun ca => [ca, twinCa ca])
    let d := freed.foldl (fun d ca => d.modCell ca (fun z => if z.settling then z else { z with settleEnd := d.tb2 })) d
    let d := d.modSlot slot (fun y => { y with rolls := [], state := .settling })
    .next (strobe s (m.net, (d.count 2924).advance m.net slot))

end Sys2Proof.Machine
end

