-- ==== Sys2Proof/Machine/Blank.lean ====
section
/-!
DEFINITION. The fatal state and blank (R125, R318, R329 to R334): what enters them, what they do to loops, drivers and batches, and how they
end.
-/
namespace Sys2Proof.Machine

/-! ## HOLD by a fatal fault -/

/-- Every heater actuator of the device, ascending. -/
def allHeaters : List Nat := allCells.flatMap heatersOf

/-- Every loop to HOLD, those in CAL too, its mode kept for the recovery (R125, R161, R321). -/
def Dev.holdLoops (d : Dev) : Dev :=
  let hold := fun (_ : Nat) (l : Loop) => { l with prevMode := some (l.prevMode.getD l.mode), mode := 3 }
  { d with fab := { d.fab with loops := Tab.modMany {} hold allHeaters d.fab.loops } }

/-- Every loop returns to its mode before HOLD, with the preset of R162; one whose calibration still runs returns to CAL (R161, R329). -/
def Dev.returnLoops (d : Dev) : Dev :=
  { d with fab := { d.fab with loops := d.fab.loops.mapVals {} (fun aa l =>
      match l.prevMode with
      | none => l
      | some m =>
        if (d.cell (aaCell aa)).cal then { l with mode := 4 }
        else { l with mode := m, prevMode := none, preset := if m = 2 ∨ m = 5 then 1 else l.preset }) } }

/-! ## Blank: what it does to batches (R318) -/

/-- The ramps of a batch's rolls are dropped: the bridge stays, and F goes back to the SPLIT phase through handover. -/
def Dev.dropRamps (d : Dev) (n : Net) (rolls : List (Nat × Option Nat)) : Dev :=
  rolls.foldl (fun d r => match (n.ofIn r.1).bind (splitCellOf n) with
    | none => d
    | some ca => [ca, twinCa ca].foldl (fun d x => d.modCell x (fun c =>
        if c.ramp.isSome then { c with ramp := none, handover := true, region := 5 } else c)) d) d

/-- A committed batch whose verification or roll is ended by blank: kept whole, to complete BLANKED. -/
def Dev.keepBlanked (d : Dev) (n : Net) (k : Nat) : Dev :=
  let s := d.slot k
  let d := (d.closeLanes s.lanes []).dropRamps n s.rolls
  let d := d.modSlot k (fun s => { s with state := .settling, window := true, locks := [], fails := [], rolls := [], lanes := [], blankedKept := true })
  (d.count 2907).advance n k

/-- What blank does to one slot at its start. -/
def Dev.blankSlot (d : Dev) (n : Net) (k : Nat) : Dev :=
  let s := d.slot k
  match s.state with
  | .verifying => d.keepBlanked n k
  | .rolling | .settling => if s.rolls.isEmpty then d else d.keepBlanked n k
  | .rollback =>
    if s.rolledBack then
      ((d.closeLanes s.lanes []).modSlot k (fun s => { s with window := true, locks := [], fails := [], lanes := [] })).advance n k
    else d
  | _ => d

/-- Blank ends every verification in course, device plane restores included. -/
def Dev.blankSlots (d : Dev) (n : Net) : Dev :=
  let d := (List.range 16).foldl (fun d k => d.blankSlot n k) d
  let d := d.cmt.restoring.foldl (fun d r => d.closeLanes r.lanes []) d
  let d := { d with cmt := { d.cmt with restoring := d.cmt.restoring.map (fun (r : Restore) => { r with locked := true, window := true, lanes := [] }) } }
  (d.cmt.restoring.map (·.inp)).foldl (fun d i => d.restoreCheck n i) d

/-! ## Blank: drivers -/

/-- The override of some VOA cells is asserted, with the kind 3 shape (R202, R203). -/
def Dev.overrideVoas (d : Dev) (cas : List Nat) : Dev :=
  let shape := fieldOf d.drv.shapeSel 12 4
  let cells := Tab.modMany {} (fun ca (c : Cell) =>
    { c with f := c.blankCode, fDue := none, shape := shape, wave := some { edge := d.tb2, old := d.driveNow ca, bank := d.drv.bank } }) cas d.fab.cells
  let met := d.mon.met.mapVals {} (fun mpa m => if isOutVoa (mpaCell mpa) then { m with count := 0 } else m)
  ({ d with fab := { d.fab with cells := cells }, mon := { d.mon with met := met } }).countN 2970 cas.length

/-- The heater targets of every VOA cell become DARK without slew, on the branch nearest the thermal phase (R332). -/
def Dev.darkTargets (d : Dev) : Dev :=
  let f := fun (_ : Nat) (c : Cell) => if c.dark then c else c.darkTarget
  { d with fab := { d.fab with cells := Tab.modMany {} f outVoas (Tab.modMany {} f inVoas d.fab.cells) } }

/-- One VOA cell at the release boundary: from its blank code to its effective target by F; DARK ones stay, with what F still carries (R333). -/
def Dev.releaseVoa (d : Dev) (ca : Nat) : Dev :=
  let c := d.cell ca
  if c.dark then d.modCell ca (fun c => { c with f := wrapHalf (c.phiTgt - c.phiTh), fDue := none, fTrim := 0, wave := none })
  else
    let phi := attPhase (d.attEff ca)
    let f1 := wrapHalf (phi - c.phiTh)
    let f2 := wrapHalf (-phi - c.phiTh)
    let d := d.modCell ca (fun c => { c with wrapping := true, region := voaRegion c.region false c.aRef })
    d.stepTo ca (if f1.natAbs ≤ f2.natAbs then f1 else f2) 2

/-- The release is complete once every VOA cell's settle window has ended: FLT_STAT.BLANK clears (R333, R339). -/
def Dev.releaseCheck (d : Dev) : Dev :=
  if d.flt.releasing && !(d.fab.cells.any (fun p => isVoaCa p.1 && p.2.settling)) then
    ({ d with flt := { d.flt with blank := false, releasing := false } }).setLeaf 0 0x12C 4
  else d

/-! ## The causes of blank, and the fatal state -/

/-- First stage (R331): every output VOA on its blank code, LIGHT_PERMIT withdrawn. -/
def Dev.blankStart (d : Dev) (n : Net) : Dev :=
  let d := { d with flt := { d.flt with blank := true, stage2 := false, releasing := false, blankAt := d.tb2, causeEnd := none,
                                        blankCnt := satAdd d.flt.blankCnt 1 16 } }
  ((d.setLeaf 0 0x12C 2).overrideVoas outVoas).blankSlots n

/-- Blank follows its causes; before Dawn step D4 it is not applied (R330, R334). -/
def Dev.blankSync (d : Dev) (n : Net) : Dev :=
  if !d.drv.armed then d
  else if d.blankCause then
    if d.blankOn then { d with flt := { d.flt with causeEnd := none } } else d.blankStart n
  else if d.blankOn && d.flt.causeEnd.isNone then { d with flt := { d.flt with causeEnd := some d.tb2 } }
  else d

/-- Every lit cell has declared lock. -/
def Dev.allLocked (d : Dev) (n : Net) : Bool := d.fab.cells.all (fun p => !lit n d p.1 || p.2.locked)

/-- The fatal state follows its sources; src is the source whose recovery was last (R329). -/
def Dev.fatalSync (d : Dev) (src : Nat) : Dev :=
  if d.fatalCause then
    if !d.flt.fatal then
      ({ d with flt := { d.flt with fatal := true, relock := none, fatalCnt := satAdd d.flt.fatalCnt 1 16 } }).holdLoops
    else if d.flt.relock.isSome then ({ d with flt := { d.flt with relock := none } }).holdLoops
    else d
  else if d.flt.fatal && d.flt.relock.isNone then
    ({ d with flt := { d.flt with relock := some (d.tb2 + 1000000000, src) } }).returnLoops
  else d

/-- Once every lit cell has declared lock the fatal cause of blank ends (R329). -/
def Dev.relockCheck (d : Dev) (n : Net) : Dev :=
  if d.flt.fatal && d.flt.relock.isSome && d.allLocked n then { d with flt := { d.flt with fatal := false, relock := none } } else d

/-- After any change of a fatal source or of a cause of blank. -/
def Dev.settleFatal (d : Dev) (n : Net) (src : Nat) : Dev := ((d.fatalSync src).relockCheck n).blankSync n

/-- A condition of a fatal source rises (R321, R329). -/
def Dev.fatalOn (d : Dev) (n : Net) (src scope : Nat) : Dev := (d.condOn src scope).settleFatal n src
/-- A condition of a fatal source ends; its recovery waits for the quiet period (R328). -/
def Dev.fatalOff (d : Dev) (n : Net) (src scope : Nat) : Dev := (d.condOff src scope).settleFatal n src

/-! ## BLANK_N, stages, release -/

/-- BLANK_N falls for a width in ns: under 5 rejected, 10 or more accepted, between them as the part's filter has it (R330). -/
def execBlankNAssert (widthNs : Nat) (s : State) : Host.Outcome State Fault Refusal :=
  if s.d.pwr.off || decide (widthNs < 5) then ignored s
  else
    let d := if widthNs < 10 then { s.d with fresh := s.d.fresh + 1 } else s.d
    if decide (widthNs < 10) && !Config.pulseAccepted s.d.fresh then finish s d
    else finish s (({ d with flt := { d.flt with blankN := true } }).blankSync s.net)

/-- BLANK_N rises (R330). -/
def execBlankNDeassert (s : State) : Host.Outcome State Fault Refusal :=
  finish s (({ s.d with flt := { s.d.flt with blankN := false } }).blankSync s.net)

/-- BLANK_STAGE2: at the first tick boundary after blank became active (R332). -/
def execBlankStage2 (s : State) : Host.Outcome State Fault Refusal :=
  let d := s.d
  if !d.blankOn || d.flt.stage2 || d.tb2 % 10000 != 0 || decide (d.tb2 ≤ d.flt.blankAt) then ignored s
  else
    let d := ({ d with flt := { d.flt with stage2 := true } }).overrideVoas inVoas
    finish s (if d.flt.fatal then d else d.darkTargets)

/-- BLANK_RELEASE: at the first tick boundary after 10 µs without a cause (R333). -/
def execBlankRelease (s : State) : Host.Outcome State Fault Refusal :=
  let d := s.d
  let due := match d.flt.causeEnd with
    | some t => decide (t + 10000 < d.tb2)
    | none => false
  if !d.blankOn || !d.flt.stage2 || !due || d.tb2 % 10000 != 0 then ignored s
  else
    let d := { d with flt := { d.flt with stage2 := false, releasing := true, causeEnd := none } }
    finish s ((inVoas ++ outVoas).foldl Dev.releaseVoa d).releaseCheck

/-- The end of an ERR_N pulse (R335). -/
def execErrNPulseEnd (s : State) : Host.Outcome State Fault Refusal :=
  match s.d.flt.errEnd with
  | some t => if t ≤ s.d.tb2 then finish s { s.d with flt := { s.d.flt with errEnd := none } } else ignored s
  | none => ignored s

/-- FATAL_RECOVERY_TIMEOUT: a lit cell has not locked within 1 s: the source sets OUT, and the fatal state continues (R329). -/
def execFatalRecoveryTimeout (s : State) : Host.Outcome State Fault Refusal :=
  match s.d.flt.relock with
  | some (t, n) =>
    if s.d.flt.fatal && decide (t ≤ s.d.tb2) then
      let d := s.d.modSrc n (fun x => { x with out := true, insts := { scope := 0, since := some s.d.tb2, full := true } :: x.insts })
      finish s (d.settleFatal s.net n)
    else ignored s
  | none => ignored s

/-! ## FLT_CTL (R339) -/

/-- A forced condition is released; a reaction that a real occurrence started goes on (R326, R327). -/
def Dev.unforce (d : Dev) (n : Nat) : Dev :=
  if (d.src n).force then
    let now := d.tb2
    d.modSrc n (fun s =>
      let s := { s with force := false }
      { s with insts := s.insts.map (fun (i : Inst) => if i.scope = s.forceScope ∧ !s.currentAt i.scope ∧ i.since.isNone then
          { i with since := some now } else i) })
  else d

/-- A write of FLT_CTL: SW_BLANK, and INJ_EN and INJ_ACT unless locked; LOCK holds until reset; with INJ_EN = 0 every FORCE is 0. -/
def Dev.fltCtlWrite (d : Dev) (n : Net) (v : Nat) : Dev :=
  let f := d.flt
  let f := { f with swBlank := bitOf v 0, injEn := if f.lock then f.injEn else bitOf v 1, injAct := if f.lock then f.injAct else bitOf v 2,
                    lock := f.lock || bitOf v 3 }
  let d := { d with flt := f }
  let d := if f.injEn then d else (List.range 96).foldl Dev.unforce d
  let last := ((List.range 13).find? (fun k => (d.src k).latched)).getD 0
  (d.settleFatal n last).pathFaults n

/-- FLT_CTL with SW_BLANK changed (R330, R331). -/
def execSwBlank (fn : Nat) (value : Word) (s : State) : Host.Outcome State Fault Refusal :=
  pf0Wr s fn 0x1C000 (fun d => d.fltCtlWrite s.net value.toNat)

/-- FLT_CTL with LOCK = 1 (R339). -/
def execFltCtlLock (fn : Nat) (value : Word) (s : State) : Host.Outcome State Fault Refusal :=
  pf0Wr s fn 0x1C000 (fun d => d.fltCtlWrite s.net value.toNat)

end Sys2Proof.Machine
end

