-- ==== Sys2Proof/Machine/Laws.lean ====
section
/-!
DEFINITION. The laws of a heater loop and of the fast trim (R110, R130 to R139, R147, R149, R156 to R162): errors from monitor results, the
dither demodulator, PID, compensator, presets.
-/
namespace Sys2Proof.Machine

/-- What tick n has to work with: TB2 of T_n, the cells whose metric stream came, ring frames with a bad CRC, and the largest code of each lane in
the tick that begins. -/
structure TickIn where
  t0 : Nat
  streamed : List Nat
  ringErr : List (Nat × Nat)
  ahead : List Nat

/-! ## Results (R110, R132, R133, R136, R137) -/

/-- A tap's result for the tick that began at T; none when it is missing (R110, R171). -/
def Dev.tickResult (d : Dev) (ca tap t : Nat) : Option Int :=
  match (d.mrt (mkMpa ca tap)).tick with
  | some (t', v, _) => if t' = t then some v else none
  | none => none
/-- A tap's fast-mode result of the window that ended last (R109, R169). -/
def Dev.fastResult (d : Dev) (ca tap : Nat) : Option Int :=
  let m := d.mrt (mkMpa ca tap)
  if (m.flags = 1 ∨ m.flags = 2) ∧ m.fAt + 999 = d.tb2 / 1000 * 1000 then some m.value else none

/-- Linear power of a level, mW with 64 fraction bits. -/
abbrev lin := linOf
/-- −22, −18, −45, −40, −37 dB or dBm in 2^-16. -/
def dbm (x : Int) : Int := x * 65536

/-- The input parity of the light path of a one-path cell. -/
def Net.onePar (n : Net) (ca : Nat) : Nat := if (n.carried ca 0).isSome then 0 else 1
/-- The tap of the wanted output of a one-path cell (R26, R133). -/
def Net.wantedTap (n : Net) (ca : Nat) : Nat :=
  match n.swOf ca with
  | .cross => 1 - n.onePar ca
  | _ => n.onePar ca

/-- d = (t0 − t1) / (t0 + t1), Q24 (R133, R137). -/
def contrast (t0 t1 : Nat) : Int := divLaw 3 (((t0 : Int) - t1) * oneQ) (t0 + t1 : Nat)
/-- m of a one-path cell, Q24 (R133). -/
def metric (tw tu : Nat) : Int := divLaw 4 ((tu : Int) * oneQ) (tw + tu : Nat)
/-- Is a metric at or below a level in dB: t_u ≤ (t_w + t_u) × 10^(x/10)? -/
def metricAtMost (tw tu : Nat) (x : Int) : Bool := decide (tu * 18446744073709551616 ≤ (tw + tu) * lin (dbm x))
/-- A_meas = 10·log10((t0 + t1) / t0), 2^-16 dB; without light on tap 0 it is above every limit (R136). -/
def attMeas (t0 t1 : Nat) : Int := if t0 = 0 then 6553600 else dbOf (t0 + t1) t0

/-- What one tick's results say of a cell: the two taps' linear powers. -/
abbrev Taps := Nat × Nat
def Dev.tickTaps (d : Dev) (ca t : Nat) : Option Taps :=
  match d.tickResult ca 0 t, d.tickResult ca 1 t with
  | some a, some b => some (lin a, lin b)
  | _, _ => none
def Dev.fastTaps (d : Dev) (ca : Nat) : Option Taps :=
  match d.fastResult ca 0, d.fastResult ca 1 with
  | some a, some b => some (lin a, lin b)
  | _, _ => none

/-- Samples of the demodulator's window (R134). -/
def demodLength : Nat := 1000
/-- The lock metric of a sample of a cell's taps: m, or m′ of a cell that carries two paths (R133). -/
def Net.metricOf (n : Net) (ca : Nat) (t : Taps) : Int :=
  if n.pathsAt ca = 2 then divRound (oneQ - (contrast t.1 t.2).natAbs) 2
  else if n.wantedTap ca = 0 then metric t.1 t.2
  else metric t.2 t.1
/-- A tick's stream of a cell's taps enters the window, a sample each µs from T_n (R134). -/
def Dev.demodTake (d : Dev) (n : Net) (t0 ca : Nat) (taps : List (Int × Int)) : Dev :=
  let new := (taps.zip (List.range 10)).map (fun p => ((t0 / 1000 + p.2) % 1000, n.metricOf ca (lin p.1.1, lin p.1.2)))
  d.modCell ca (fun c => { c with demod := (new.reverse ++ c.demod).take demodLength })
/-- 2πfτ of a heater's tone, with 40 fraction bits; f in kHz, TAU in 10 ns (R134). -/
def Dev.toneLag (d : Dev) (aa : Nat) : Int := twoPi * ((d.toneOf aa * (d.cellCoeff (aaCell aa) 3).toNat : Nat) : Int) / 100000
/-- The gradient of a dithered heater, g = (2 / (N·a)) Σ m sin(2πft − θ) with θ = atan(2πfτ), Q24; none before the window is full (R134). The
sine of the difference is taken as (sin − x·cos) / √(1 + x²) with x = 2πfτ. -/
def Dev.gradient (d : Dev) (aa : Nat) : Option Int :=
  let w := (d.cell (aaCell aa)).demod
  if w.length < demodLength then none
  else
    let f := d.toneOf aa
    let x := d.toneLag aa
    let ref := fun (t : Nat) =>
      let p : Int := ((f * t % 1000 * 16777216 / 1000 : Nat) : Int)
      sinTurn p * 1099511627776 - sinTurn (p + quarterTurn) * x
    let sum := w.foldl (fun a s => a + s.2 * ref s.1) 0
    some (satQ (divLaw 12 (2 * sum) ((demodLength * ((d.loop aa).ampl * 256) * isqrt (1208925819614629174706176 + x.natAbs * x.natAbs) : Nat) : Int)))

/-- e = −g / (2π²·c), Q24; c is 1 for one path and |d| for two (R135). -/
def gradError (g c : Int) : Int := satQ (divLaw 5 (-(mulQ g (inv2PiSq / 65536)) * oneQ) c)

/-! ## Gains (R122, R138, R139) -/

/-- The coefficients of a gain set. -/
structure Gains where
  kp : Int
  ki : Int
  kd : Int
  df : Int
  kt : Int
  b : List Int
  a : List Int
  umin : Int
  umax : Int

/-- Gain set g of a tile in force. -/
def Dev.gains (d : Dev) (tn g : Nat) : Gains :=
  let w := fun k => d.gain (256 * tn + 16 * g + k)
  { kp := w 0, ki := w 1, kd := w 2, df := w 3, kt := w 4, b := [w 5, w 6, w 7, w 8], a := [w 9, w 10, w 11], umin := w 12, umax := w 13 }
def sumQ (l : List Int) : Int := l.foldl (fun s x => accQ (s + x)) 0
def dotQ (a b : List Int) : Int := (a.zip b).foldl (fun s p => accQ (s + mulQ p.1 p.2)) 0

/-- 2^-20 in Q24 (R162). -/
def tiny : Int := 16

/-- The presets of R162 and R147 for the compensator: histories whose first output is w_p. -/
def Loop.presetComp (l : Loop) (g : Gains) (wp e : Int) : Loop :=
  let sb := sumQ (g.b.drop 1)
  let sa := sumQ g.a
  if tiny ≤ sb.natAbs then
    let x := satQ (divLaw 6 (accQ (mulQ (oneQ + sa) wp - mulQ (g.b.getD 0 0) e) * oneQ) sb)
    { l with w1 := wp, w2 := wp, w3 := wp, e1 := x, e2 := x, e3 := x }
  else if tiny ≤ sa.natAbs then
    let w := satQ (divLaw 7 (accQ (mulQ (sumQ g.b) e - wp) * oneQ) sa)
    { l with w1 := w, w2 := w, w3 := w, e1 := e, e2 := e, e3 := e }
  else { l with w1 := wp, w2 := wp, w3 := wp, e1 := e, e2 := e, e3 := e }

/-- The preset of R162 for the PID: the first output is u_p. -/
def Loop.presetPid (l : Loop) (g : Gains) (wp e y : Int) : Loop :=
  { l with d := 0, y := y, integ := satQ (accQ (wp - mulQ (satQ (g.kp + g.ki)) e)) }

/-- One PID sample: the unsaturated output and the new states (R138). -/
def Loop.pid (l : Loop) (g : Gains) (ff e y : Int) : Loop × Int :=
  let p := mulQ g.kp e
  let dd := satQ (accQ (mulQ g.df l.d - mulQ g.kd (mulQ (oneQ - g.df) (y - l.y))))
  let i := satQ (accQ (l.integ + mulQ g.ki e + mulQ g.kt (l.u - l.v)))
  ({ l with d := dd, y := y, integ := i }, satQ (accQ (ff + p + i + dd)))

/-- One compensator sample: the unsaturated output and the shifted error history (R139). -/
def Loop.comp (l : Loop) (g : Gains) (ff e : Int) : Loop × Int :=
  let w := accQ (dotQ g.b [e, l.e1, l.e2, l.e3] - dotQ g.a [l.w1, l.w2, l.w3])
  ({ l with e1 := e, e2 := l.e1, e3 := l.e2, w2 := l.w1, w3 := l.w2 }, satQ (accQ (ff + w)))

/-! ## One heater loop at its sample -/

/-- What a loop's sample has to work with: FF alone, a skipped sample, or an error with the measurement of R138. -/
inductive Sample where
  | skip
  | ffOnly
  /-- Error, measurement, and the part of the error that a change of monitor coefficients has made (R229). -/
  | err (e y de : Int)
deriving DecidableEq, Repr

/-- SLEW_PH × P_TURN × Ts, mW Q24 (R156). -/
def Dev.manualStep (d : Dev) (aa : Nat) (l : Loop) : Int := divRound (d.pTurn (aaCell aa) * l.slewPh) 409600
/-- A value moved toward a target by at most a step; a zero slew is unlimited (R156). -/
def slew (x target step : Int) (unlimited : Bool) : Int := if unlimited then target else x + clampI (target - x) (-step) step

/-- One sample of a loop in mode AUTO or AUTO_3P3Z, with candidates C1 and C2 (R138 to R140, R147, R162, R229). -/
def Loop.law (l : Loop) (g : Gains) (set : Nat) (ff e y de c1 c2 : Int) : Loop :=
  let up := if l.preset = 2 then ff else l.u
  let wp := satQ (up - ff)
  let known := l.lastSet ≠ 0
  let coeffs := g.b ++ g.a
  if l.mode = 2 then
    let l :=
      if l.preset ≠ 0 then { (l.presetPid g wp e y) with u := up, v := up }
      else
        let l := if known ∧ l.lastKp ≠ g.kp then { l with integ := satQ (l.integ - mulQ (g.kp - l.lastKp) e) } else l
        if de ≠ 0 then { l with integ := satQ (l.integ - mulQ g.kp de), y := y } else l
    let (l, v) := l.pid g ff e y
    let c0 := clampI v g.umin g.umax
    { (l.select c0 c1 c2) with v := v, sat := c0 != v, preset := 0, lastSet := set + 1, lastKp := g.kp, lastC := coeffs }
  else
    let l := if l.preset ≠ 0 then l.presetComp g wp e
             else if (known ∧ (l.lastSet ≠ set + 1 ∨ l.lastC ≠ coeffs)) ∨ de ≠ 0 then l.presetComp g l.w1 e else l
    let (l, v) := l.comp g ff e
    let c0 := clampI v g.umin g.umax
    let l := l.select c0 c1 c2
    { l with w1 := satQ (l.u - ff), v := v, sat := c0 != v, preset := 0, lastSet := set + 1, lastKp := g.kp, lastC := coeffs }

/-- The part of a calibrated change of FF that this sample lets through is taken out of the states, so that u does not step (R229). -/
def Loop.ffMove (l : Loop) (step : Int) : Loop :=
  if l.ffHold = 0 then l
  else
    let h := slew l.ffHold 0 step (l.slewPh == 0)
    let x := h - l.ffHold
    let l := { l with ffHold := h }
    if l.mode = 2 then { l with integ := satQ (l.integ - x) } else { l with w1 := satQ (l.w1 - x), w2 := satQ (l.w2 - x), w3 := satQ (l.w3 - x) }

/-- One sample of a heater loop (R110, R132, R160). FF driven alone goes to the selection as it is: UMIN and UMAX of the gain set clamp a law's
output, and R132 does not say whether they clamp FF (log entry 111). -/
def Dev.runLoop (d : Dev) (bad : List Nat) (aa : Nat) (s : Sample) : Loop :=
  let l := d.loop aa
  let ca := aaCell aa
  let tn := tileOf ca
  let c1 := d.c1 aa l
  let c2 := (d.tile tn).level
  let ff := d.ff bad aa
  let n := { l with skipped := false }
  match l.mode with
  | 0 => { n with u := 0, v := 0, integ := 0, d := 0, y := 0, w1 := 0, w2 := 0, w3 := 0, e1 := 0, e2 := 0, e3 := 0, sat := false,
                  limited := false, winner := 0, wrapPending := false }
  | 1 =>
    let m := slew l.manual l.code (d.manualStep aa l) (l.slewPh == 0)
    { (n.select m c1 c2) with manual := m, v := m, sat := false }
  | 2 | 5 =>
    let n := n.ffMove (d.manualStep aa l)
    let ff := satQ (ff + n.ffHold)
    match s with
    | .skip => { n with skipped := true, held := satAdd l.held 1 16 }
    | .ffOnly => { (n.select ff c1 c2) with v := ff, sat := false }
    | .err e y de =>
      let set := d.setOf tn (d.cell ca).region
      n.law (d.gains tn set) set ff e y de c1 c2
  | _ => n

/-! ## Fast trim (R149) -/

/-- A gain set's PID for F_trim of a switch cell; e_F in turns (R138, R147). The trim's states live in the loop of the F actuator; after a takeover
without state its first output is the trim in force (R117). -/
def Dev.trimPid (d : Dev) (ca : Nat) (region : Nat) (e : Int) : Loop :=
  let tn := tileOf ca
  let set := d.setOf tn region
  let g := d.gains tn set
  let l := d.loop (fAa ca)
  let l :=
    if l.preset ≠ 0 then { (l.presetPid g l.u e (-e)) with v := l.u }
    else if l.lastSet ≠ 0 ∧ l.lastKp ≠ g.kp then { l with integ := satQ (l.integ - mulQ (g.kp - l.lastKp) e) }
    else l
  let (l, v) := l.pid g 0 e (-e)
  let c0 := clampI v g.umin g.umax
  { l with
    v := v
    u := c0
    sat := c0 != v
    preset := 0
    lastSet := set + 1
    lastKp := g.kp }

/-- S_A, the slope at the target in dB per turn, at least 2 dB/turn; Q16: dA/dφ of R13 over 2^-10 turn. -/
def slopeAt (a : Int) : Int :=
  let p := attPhase a
  let h : Int := 16384
  let c := fun (x : Int) => if x ≤ 0 then 0 else if x ≥ halfTurn then 3276800 else dbOf 1099511627776 ((cosTurn (2 * x) + 1099511627776) / 2).toNat
  max 131072 ((c (p + h) - c (p - h)) * 512)
/-- The reciprocal of S_A, turn per dB, Q7.24 (R131). -/
def perSlope (a : Int) : Int := satQ (divLaw 10 (oneQ * 65536) (slopeAt a))

end Sys2Proof.Machine
end

