-- ==== Sys2Proof/Machine/Records.lean ====
section
/-!
DEFINITION. Telemetry and SNAPSHOT records (R271 to R274, R278, R295), the SNAP strobe and the counter reader (R436 to R438).
-/
namespace Sys2Proof.Machine

/-! ## The SNAP strobe -/

/-- Every counter, OVF flag and EN copied on one edge (R436). -/
def Dev.snapNow (d : Dev) : Dev :=
  let p := d.pmc
  let vals : Tab Nat := p.ctr.filterMap (fun (e : Nat × Ctr) => if e.2.value = 0 then none else some (e.1, e.2.value))
  { d with pmc := { p with snap := vals, snapOvf := (p.ctr.filter (fun e => e.2.ovf)).map (·.1), snapEn := p.en, snapReq := false,
                           snapTb2 := d.tb2, snapTb0 := d.tb0 } }

/-- A record SNAP: not taken while the reader copies, unless one was taken at this boundary (R436, R438). -/
def Dev.recordSnap (d : Dev) : Bool × Dev :=
  if d.pmc.dumping then
    if d.pmc.snapTb2 = d.tb2 then (true, d)
    else (false, ({ d with pmc := { d.pmc with dumpDrop := satAdd d.pmc.dumpDrop 1 16 } }).setLeaf 0 0x1CC 2)
  else
    let d := d.snapNow
    (true, ({ d with pmc := { d.pmc with dumping := true } }).bus 7 false 2 0x20000 12288)

/-- A bitmap of 3,072 counter slots as bytes: bit n mod 8 of byte n/8. -/
def slotBitmap (p : Nat → Bool) : List Byte := (List.range 384).map (fun b => BitVec.ofNat 8 (bitsOf 8 (fun k => p (8 * b + k))))

/-- The COUNTERS section (R437). -/
def Pmc.section (p : Pmc) : List Byte :=
  bytesLE p.snapTb2 8 ++ bytesLE p.snapTb0 8 ++ bytesLE 3072 4 ++ bytesLE (b2n p.snapEn) 4 ++ bytesLE 0 40 ++
  (List.range 3072).flatMap (fun n => bytesLE (p.snap.get 0 n) 4) ++
  slotBitmap (fun n => (p.ctr.get {} n).chain) ++ slotBitmap p.snapOvf.contains

/-! ## What a record holds -/

/-- LOCKED as the lock bitmaps and the CST show it: an unlit cell reads 1 (R132). -/
def Dev.lockBit (d : Dev) (n : Net) (ca : Nat) : Bool := (d.cell ca).locked || !lit n d ca
/-- LIMITED of a cell (R25, R140). -/
def Dev.cellLimited (d : Dev) (ca : Nat) : Bool := (heatersOf ca).any d.limitedNow
/-- The lock bitmaps, tile by tile (R273). -/
def Dev.lockMaps (d : Dev) (n : Net) : List (Nat × Nat) :=
  (List.range 336).map (fun tn => (bitsOf 32 (fun k => d.lockBit n (tileBase tn + k)), bitsOf 32 (fun k => d.cellLimited (tileBase tn + k))))
/-- The POWERS words of the window that opened at t, port by port: input A, B, output A, B; INVALID reads 0x8000, and so do the ports that a
domain other than 0 does not own (R273, R278). -/
def Dev.powerWords (d : Dev) (dom t : Nat) : List Nat :=
  (List.range 512).flatMap (fun p => [(0, inVoa 0 p), (0, inVoa 1 p), (1, outVoa 0 p), (1, outVoa 1 p)].map (fun (x : Nat × Nat) =>
    if dom != 0 && d.owner x.1 p != dom then 0x8000
    else match d.tickResult x.2 0 t with
      | some v => twos (divRound v 256) 16
      | none => 0x8000))

/-- What is latched at T_n for a record with the sections asked for. -/
def Dev.takeRec (d : Dev) (n : Net) (cmd : Option (Nat × Nat × Nat × Nat)) (counters powers lock : Bool) : Dev :=
  let (c, d) := if counters then d.recordSnap else (false, d)
  let r : Rec := { t := d.tb2, time := d.tb0, esn := d.cmt.esn, holdover := d.holdover, cmd := cmd, counters := c,
                   lock := if lock then some (d.lockMaps n) else none, powers := powers, words := if powers then none else some [] }
  { d with jobs := { d.jobs with recs := d.jobs.recs ++ [r] } }

/-- The directory and the sections of a record (R273). -/
def Rec.bytes (r : Rec) (p : Pmc) : List Byte :=
  let c := if r.counters then p.section else []
  let w := (r.words.getD []).flatMap (fun v => bytesLE v 2)
  let l := (r.lock.getD []).flatMap (fun (e : Nat × Nat) => bytesLE e.1 4 ++ bytesLE e.2 4)
  let ent := fun (off : Nat) (s : List Byte) => bytesLE (if s.isEmpty then 0 else off) 8 ++ bytesLE s.length 8
  ent 64 c ++ ent (64 + c.length) w ++ ent (64 + c.length + w.length) l ++ bytesLE 0 16 ++ c ++ w ++ l

/-! ## Writing (R272, R274, R278) -/

/-- Where the bulk buffer has room for a record: contiguous, from the next offset, wrapping to 0 (R274). -/
def Tel.room (t : Tel) (len : Nat) : Option Nat :=
  let size := 2 ^ t.bs
  let off := if t.bulkNext + len ≤ size then t.bulkNext else 0
  if decide (len ≤ size) && t.bulk.all (fun b => decide (b.off + b.len ≤ off) || decide (off + len ≤ b.off)) then some off else none

/-- A record for the telemetry ring is dropped and counted (R274). -/
def Dev.lostRecord (d : Dev) : Dev :=
  let t := d.io.tel
  let t := { t with seq := (t.seq + 1) % 65536, dropNow := satAdd t.dropNow 1 16, dropped := satAdd t.dropped 1 16 }
  ((({ d with io := { d.io with tel := t } }).count 3019).setLeaf 0 0x110 8).once 69 0

/-- A record for the telemetry ring: written, with the Relaxed Ordering attribute on the bulk data where TEL_RO and Device Control ask for it, or
dropped and counted (R274). Answers whether it was written. -/
def Dev.ringRecord (d : Dev) (r : Rec) : Bool × Dev :=
  let t := d.io.tel
  let data := r.bytes d.pmc
  let seq := (t.seq + 1) % 65536
  match (if t.ring.hasRoom && d.mayWrite 0 && d.io.linkUp then t.room data.length else none) with
  | some off =>
    let dw6 := pack [(t.dropNow, 0), (b2n r.holdover, 16), (b2n r.cmd.isSome, 17)]
    let hdr : List Word := [w32 r.time, w32 (r.time / 2 ^ 32), w32 r.esn, w32 (r.esn / 2 ^ 32), w32 off, w32 data.length, w32 dw6,
                            w32 (pack [(b2n t.ring.phase, 0), (seq, 16)])]
    let relaxed := d.io.telRo && bitOf (d.fn 0).cfg.devCtl 4
    let at_ := t.bulkBase + off
    let d := d.toHost at_ data.length (if relaxed then .hostRelaxed at_ data else .hostBulk at_ data)
    let d := d.toHost (t.hdrBase + 32 * t.ring.tail) 32 (.hostWrite (t.hdrBase + 32 * t.ring.tail) hdr)
    let ring := t.ring.pushed d.tb2 0
    let t := { t with ring := { ring with cause := true }, seq := seq, dropNow := 0, bulk := t.bulk ++ [{ off := off, len := data.length }],
                      bulkNext := off + data.length }
    (true, ({ d with io := { d.io with tel := t } }).count 3018)
  | none => (false, d.lostRecord)

/-- Write a record that is complete; a SNAPSHOT then completes (R278). -/
def Dev.writeRec (d : Dev) (r : Rec) : Dev :=
  match r.cmd with
  | none => (d.ringRecord r).2
  | some (q, idx, addr, _) =>
    if ((d.queue q).cmd idx).isNone then d
    else
      let data := r.bytes d.pmc
      let (ok, d) := if addr = 0 then d.ringRecord r else (true, if (d.queue q).silent then d else d.toHost addr data.length (.hostBulk addr data))
      d.complete q idx { status := stOk, holdover := r.holdover, esn := r.esn, dw2 := r.time, dw3 := r.time / 2 ^ 32,
                         dw4 := if ok then data.length else 0 }

/-- A record that a reset of M1 cuts off: no header, and a SNAPSHOT reports no bytes (R317). -/
def Dev.cutRec (d : Dev) (r : Rec) : Dev :=
  match r.cmd with
  | none => d.lostRecord
  | some (q, idx, addr, _) =>
    if ((d.queue q).cmd idx).isNone then d
    else (if addr = 0 then d.lostRecord else d).complete q idx { status := stOk, holdover := r.holdover, esn := r.esn, dw2 := r.time, dw3 := r.time / 2 ^ 32 }

/-- Write, in order, the records that wait for nothing more; `dumped`: the reader has copied the counters. -/
def Dev.writeRecs (d : Dev) (dumped : Bool) : Dev :=
  let go := fun (r : Rec) => r.words.isSome && (!r.counters || dumped)
  let d' := { d with jobs := { d.jobs with recs := d.jobs.recs.filter (fun r => !go r) } }
  (d.jobs.recs.filter go).foldl Dev.writeRec d'

/-- The results of the window that opened at t reach the records of T_n = t (R168, R271). -/
def Dev.latchPowers (d : Dev) (t : Nat) : Dev :=
  if d.jobs.recs.any (fun r => r.t == t && r.words.isNone) then
    let recs := d.jobs.recs.map (fun (r : Rec) =>
      if r.t = t ∧ r.words.isNone then { r with words := some (d.powerWords ((r.cmd.map (·.2.2.2)).getD 0) t) } else r)
    ({ d with jobs := { d.jobs with recs := recs } }).writeRecs false
  else d

/-! ## Commands -/

/-- TELEMETRY_RECORD: at a tick boundary that is a whole multiple of TEL_PERIOD (R271). -/
def execTelemetryRecord (s : State) : Host.Outcome State Fault Refusal :=
  let d := s.d
  let t := d.io.tel
  if !t.en || d.tb2 % (t.period * 1000000) != 0 || !d.clocked || !d.pwr.done || d.jobs.recs.any (fun r => r.t == d.tb2 && r.cmd.isNone) then ignored s
  else
    let d := d.takeRec s.net none (bitOf t.content 0) (bitOf t.content 1) (bitOf t.content 2)
    finish s (d.writeRecs false)

/-- The SNAPSHOT whose instant this tick boundary is, in order of execution (R278). -/
def SnapJob.due (j : SnapJob) (tb2 tb0 : Nat) : Bool :=
  decide (j.at2 < tb2) &&
  (if j.trig = 0 then true else if j.trig = 1 then (match j.mn with
      | some m => decide (m < tb2)
      | none => false)
   else decide (j.time ≤ tb0))

/-- SNAPSHOT_RECORD: at its trigger tick (R271, R278). A record for the telemetry ring has the sections of TEL_CFG.CONTENT. -/
def execSnapshotRecord (s : State) : Host.Outcome State Fault Refusal :=
  let d := s.d
  if d.tb2 % 10000 != 0 || !d.clocked then ignored s
  else match d.jobs.snap.find? (fun j => j.due d.tb2 d.tb0) with
    | none => ignored s
    | some j =>
      let all := j.dom == 0
      let want := fun k => all && (j.addr != 0 || bitOf d.io.tel.content k)
      let d := { d with jobs := { d.jobs with snap := d.jobs.snap.filter (fun x => !(x.q == j.q && x.idx == j.idx)) } }
      let d := d.modQueue j.q (fun x => x.modCmd j.idx (fun c => { c with effect := true }))
      let d := d.takeRec s.net (some (j.q, j.idx, j.addr, j.dom)) (want 0) (!all || j.addr != 0 || want 1) (want 2)
      finish s (d.writeRecs false)

/-- DUMP_COMPLETE: the reader has copied the snapshot (R437, R438); the POWERS of the same boundary have come by then. -/
def execDumpComplete (s : State) : Host.Outcome State Fault Refusal :=
  let d := s.d
  if !d.pmc.dumping || d.jobs.recs.any (fun r => r.counters && r.words.isNone) then ignored s
  else
    let d := ({ d with pmc := { d.pmc with dumping := false } }).writeRecs true
    finish s (if d.pmc.snapReq then d.snapNow else d)

end Sys2Proof.Machine
end

