-- ==== Sys2Proof/Machine/Engines.lean ====
section
/-!
DEFINITION. Loop engines: which LE serves a tile, failures, takeovers and returns (R105, R106, R114 to R118, R128, R468), and what they do to a
calibration of the tile (R235, R238 to R240).
-/
namespace Sys2Proof.Machine

/-! ## Ending calibrations -/

/-- Order of a report entry: ascending TN, then kind, then address, FL_GAIN last (R239). -/
def calKey (tn kind addr : Nat) : Nat := if kind = 4 then 2 ^ 40 + addr else tn * 2 ^ 22 + kind * 2 ^ 18 + addr
/-- A report entry (R239). -/
def calWord (addr kind reason diff : Nat) : Nat := pack [(addr, 0), (kind, 17), (reason, 20), (diff, 32)]
/-- Add a report entry. -/
def CalRun.addReport (r : CalRun) (tn kind addr reason diff : Nat) : CalRun :=
  { r with reports := (calKey tn kind addr, calWord addr kind reason diff) :: r.reports }
/-- REASON of a report entry. -/
def calReason (w : Nat) : Nat := fieldOf w 20 4
/-- The status of a CAL_RUN: the first that applies (R238). -/
def CalRun.status (r : CalRun) : Nat :=
  let has := fun (p : Nat → Bool) => r.reports.any (fun e => p (calReason e.2))
  if has (fun x => x == 7 || x == 8) then stTile else if has (· == 1) then stCalDisagree
  else if has (fun x => (decide (2 ≤ x) && decide (x ≤ 6)) || x == 9) then stInput else stOk

/-- The heaters of a tile in CAL return to their previous modes with the spare-takeover preset (R233, R240); a fatal fault's HOLD keeps the mode
for its own recovery (R125, R321). -/
def Dev.uncal (d : Dev) (tn : Nat) : Dev :=
  (tileCells tn).foldl (fun d ca =>
    if (d.cell ca).cal then
      (d.modHeaters ca (fun l => if l.mode = 4 then { l with mode := l.prevMode.getD 5, prevMode := none, preset := 1 } else l)).modCell ca
        (fun c => { c with cal := false })
    else d) d

/-- A CAL_RUN completes: its report first, then the completion (R238, R239). -/
def Dev.calFinish (d : Dev) (r : CalRun) : Dev :=
  let es := (sortBy (fun a b => decide (a.1 ≤ b.1)) r.reports).map (·.2)
  let bytes := (es.take r.reportMax).flatMap (fun w => bytesLE w 8)
  let silent := (d.queue r.q).silent
  let d := if r.report = 0 ∨ silent ∨ bytes.isEmpty then d else d.toHost r.report bytes.length (.hostBulk r.report bytes)
  (d.setLeaf 0 0x1C0 1).complete r.q r.idx { status := r.status, dw2 := r.accept, dw3 := es.length }

/-- The elements of a tile that carry a kind's coefficient (R224, R230). -/
def calElems (tn kind : Nat) : List Nat :=
  let cas := tileCells tn
  let sw := isSwitchTile tn
  if kind = 0 then cas.map hpAa
  else if kind = 1 then (if sw then cas.map hcAa else [])
  else if kind = 2 then (if sw then cas.map hpAa else [])
  else if kind = 3 then cas.flatMap (fun ca => [mkMpa ca 0, mkMpa ca 1])
  else if kind = 5 then cas.flatMap heatersOf
  else []
/-- The kinds a CAL_RUN names, without FL_GAIN. -/
def CalRun.tileKinds (r : CalRun) : List Nat := [0, 1, 2, 3, 5].filter (bitOf r.kinds)
/-- Is an element's delta of a kind not neutral? -/
def DeltaSet.has (s : DeltaSet) (kind addr : Nat) : Bool :=
  let c := s.cell.get {} (aaCell addr)
  if kind = 0 then c.bias != 0 else if kind = 1 then c.hc != 0 else if kind = 2 then c.sPturn != 0x8000
  else if kind = 5 then (if aaKind addr = 0 then c.sRhp != 0x8000 else c.sRhc != 0x8000)
  else if kind = 3 then [0, 1, 2].any (fun r => s.dark.get 0 (4 * addr + r) != 0)
  else s.flOff.get 0 addr != 0 || s.flGain.get 0x8000 addr != 0x8000
/-- The neutral delta of a kind. -/
def neutral (kind : Nat) : List Int := if kind = 2 ∨ kind = 5 then [0x8000] else if kind = 3 then [0, 0, 0] else if kind = 4 then [0, 0x8000] else [0]

/-- The tiles of a CLEAR, ready to be stored, with what each one changes; the first carries the fast lanes. -/
def Dev.clearTiles (d : Dev) (r : CalRun) (lanes : List Nat) : List CalTile :=
  let fl := (lanes.filter (d.cal.delta.has 4)).map (fun k => (4, k, neutral 4))
  (List.range r.tiles.length).map (fun i =>
    let tn := r.tiles.getD i 0
    let acc := r.tileKinds.flatMap (fun k => ((calElems tn k).filter (d.cal.delta.has k)).map (fun a => (k, a, neutral k)))
    { tn := tn, step := 5, t0 := d.tb2, accepted := if i = 0 then acc ++ fl else acc })
/-- A CAL_RUN becomes the running one. -/
def Dev.calBegin (d : Dev) (r : CalRun) : Dev :=
  let r := { r with waitFrom := d.tb2 }
  let r := if r.clear then { r with active := d.clearTiles r r.flTodo, flTodo := [] } else { r with todo := r.tiles }
  { d with cal := { d.cal with run := some r } }
/-- When every tile and lane of the running CAL_RUN is done, the next in order starts (R232, R238). -/
def Dev.calCheck (d : Dev) : Dev :=
  match d.cal.run with
  | none => d
  | some r =>
    if !(r.todo.isEmpty && r.active.isEmpty) then d
    else
      let r := r.flTodo.foldl (fun (r : CalRun) k => r.addReport 0 4 k 2 0) { r with flTodo := [] }
      let next := d.cal.waiting.head?
      let d := ({ d with cal := { d.cal with run := none, waiting := d.cal.waiting.drop 1 } }).calFinish r
      match next with
      | some x => d.calBegin x
      | none => d

/-- The heaters of a sweep are given back with the commands they held before it (R233, R235). -/
def Dev.sweepRestore (d : Dev) (w : Sweep) : Dev :=
  w.cur.foldl (fun d p => match d.laneOf p.1 with
    | some k => (d.modLane k (fun l => { l with bound := false, en := false })).modLoop p.1 (fun l =>
        { l with
          u := p.2.1
          drv := p.2.2
          drvNext := none })
    | none => d) d
/-- A tile's sweeps stop where it is the one being swept. -/
def Dev.stopSweep (d : Dev) (tn : Nat) : Dev :=
  match d.cal.sweep with
  | some w =>
    if w.tn ≠ tn then d
    else
      let d := (if d.seq.state == .stopped then d else d.seqStop).sweepRestore w
      { d with cal := { d.cal with sweep := none } }
  | none => d
/-- A tile that W1 has still to open for, or that has not been evaluated, leaves its fast lanes to the next one. -/
def CalRun.without (r : CalRun) (tn : Nat) : CalRun :=
  let lanes := (r.active.filter (fun t => t.tn == tn && decide (t.step ≤ 4))).flatMap (·.lanes)
  { r with
    active := r.active.filter (fun t => t.tn != tn)
    flTodo := r.flTodo ++ lanes }
/-- The delta set that a store writes over the tiles of a step: with it, what is stored already and awaits its CAL_APPLY (R242). -/
def Cal.stored (c : Cal) (r : CalRun) (step : Nat) : DeltaSet :=
  c.delta.taking (r.active.filter (fun t => t.step == 7 || t.step == step))
/-- The calibration of a tile ends: what is not applied is discarded, from a store in progress too, and reported with reason 7; ABANDONED where its
spare was taken back (R235, R468; log entry 121). -/
def Dev.calAbandon (d : Dev) (tn : Nat) (flag : Bool) : Dev :=
  match d.cal.run.bind (fun r => (r.active.find? (fun t => t.tn == tn)).map (fun t => (r, t))) with
  | none => d
  | some (r, t) =>
    let r := r.without tn
    let r := if t.step < 8 then r.addReport tn 0 tn 7 0 else r
    let c := { d.cal with run := some r, err := if flag then d.cal.err ||| 1 else d.cal.err,
                          storeSet := if d.cal.storing then d.cal.stored r 6 else d.cal.storeSet }
    let d := (({ d with cal := c }).stopSweep tn).uncal tn
    let d := d.modLe tn (fun l => { l with calActive := false })
    (if flag then d.setLeaf 0 0x1C0 2 else d).calCheck

/-! ## Who serves a tile -/

/-- The LE that runs a tile's loops: its own, or the spare that serves it (R106). -/
def Dev.serving (d : Dev) (tn : Nat) : Nat :=
  match d.leState tn with
  | .own => tn
  | .moving => if (d.le tn).back then tn else (d.le tn).partner
  | _ => (d.le tn).partner
/-- Does an LE run a tile's loops? Its actuators hold between a failure and the takeover, and while the tile is unavailable (R115, R117). -/
def Dev.served (d : Dev) (tn : Nat) : Bool := !(d.le tn).presetDue && d.leState tn != .unavailable
/-- TN of the tile that an LE owns or serves; an idle spare's own number (R322). -/
def Dev.leScope (d : Dev) (k : Nat) : Nat :=
  if isSpare k && (d.leState k == .spareServing || d.leState k == .moving) then (d.le k).partner else k
/-- The lowest-numbered idle spare of a plane (R115). -/
def Dev.idleSpare (d : Dev) (plane : Nat) : Option Nat := (sparesOf plane).find? (fun k => d.leState k == .spareIdle)
/-- Has a plane an idle spare that no takeover still to start will take (R126, R233)? -/
def Dev.spareLeft (d : Dev) (plane : Nat) : Bool :=
  decide (((List.range 168).filter (fun j => (d.le (168 * plane + j)).pend.isSome && !(d.le (168 * plane + j)).back)).length <
          ((sparesOf plane).filter (fun k => d.leState k == .spareIdle)).length)
/-- Set LE_ERR bits (R128). -/
def Dev.leErr (d : Dev) (k bit : Nat) : Dev := d.modLe k (fun l => { l with err := l.err ||| 2 ^ bit })
/-- A SPARE_REQ is dropped (R115, R128). -/
def Dev.dropReq (d : Dev) (k : Nat) : Dev := ((d.modLe k (fun l => { l with spareReq := false })).leErr k 7).once 42 k
/-- A takeover or a return of a tile starts at the next tick boundary. -/
def Dev.askMove (d : Dev) (tn : Nat) (back preset : Bool) : Dev :=
  d.modLe tn (fun l => { l with pend := some d.tb2, back := back, presetDue := l.presetDue || preset })
/-- A spare has become idle: the lowest unavailable tile of its plane is taken by it at the next boundary. The manual says neither which tile nor
when (R115, R324; log entry 115). -/
def Dev.spareFreed (d : Dev) (plane : Nat) : Dev :=
  match (List.range 168).find? (fun j => d.leState (168 * plane + j) == .unavailable && (d.le (168 * plane + j)).pend.isNone) with
  | some j => d.modLe (168 * plane + j) (fun l => { l with state := some .failed, pend := some d.tb2, back := false, presetDue := true })
  | none => d

/-! ## Failures (R117, R468) -/

/-- The spare that serves a tile, or is taking it or giving it back. -/
def Dev.spareOf (d : Dev) (tn : Nat) : Option Nat :=
  (sparesOf (tilePlane tn)).find? (fun k => (d.leState k == .spareServing || d.leState k == .moving) && (d.le k).partner == tn)

/-- A tile's own LE has failed. -/
def Dev.ownFails (d : Dev) (tn : Nat) : Dev :=
  let l := d.le tn
  let fail := fun (d : Dev) => d.modLe tn (fun l =>
    { l with state := some .failed, cause := some .permanent, spareReq := false, returnReq := false, calActive := false })
  match d.leState tn with
  | .own => ((fail d).askMove tn false true).calAbandon tn false
  | .lent => ((fail d).modLe tn (fun l => { l with pend := none, back := false })).calAbandon tn false
  | .moving =>
    if l.back then
      let d := (fail d).modLe tn (fun l => { l with moveAt := none, back := false, pend := none })
      match d.spareOf tn with
      | some k => (d.modLe k (fun x => { x with state := some .spareServing })).calAbandon tn false
      | none => (d.askMove tn false true).calAbandon tn false
    else
      let d := match d.spareOf tn with
        | some k => d.modLe k (fun x => { x with state := some .spareIdle, partner := 0 })
        | none => d
      (((fail d).modLe tn (fun l => { l with moveAt := none })).askMove tn false true).calAbandon tn false
  | _ => d

/-- A spare has failed: a tile that it serves goes back to its own LE if that is healthy, otherwise to another spare. One that fails idle has no TN
to show in PARTNER, and shows its own number (R117, R128; log entry 115). -/
def Dev.spareFails (d : Dev) (k : Nat) : Dev :=
  let st := d.leState k
  let tn := (d.le k).partner
  let d := d.modLe k (fun l => { l with state := some .failed, partner := if st = .spareIdle then k else l.partner })
  if st = .spareServing ∨ st = .moving then
    let d := d.modLe tn (fun l => { l with moveAt := none })
    match d.leState tn with
    | .lent => (d.askMove tn true true).calAbandon tn false
    | .moving =>
      if (d.le tn).back then (d.modLe tn (fun l => { l with state := some .lent })).askMove tn true true
      else (d.modLe tn (fun l => { l with state := some .own, spareReq := false, cause := none })).calAbandon tn false
    | _ => d.askMove tn false true
  else d

/-- An LE stops on an error of its own: bit 1 UNCORR (FS21), bit 2 WDOG (FS22), bit 6 SELFTEST (FS26). -/
def Dev.leFails (d : Dev) (k bit : Nat) : Dev :=
  let scope := d.leScope k
  let d := d.leErr k bit
  let d := if isSpare k then d.spareFails k else d.ownFails k
  d.once (if bit = 1 then 21 else if bit = 2 then 22 else 26) scope

/-! ## Moves (R115, R116) -/

/-- A return of a tile to its own LE starts at this tick boundary. -/
def Dev.startReturn (d : Dev) (tn : Nat) : Dev :=
  let d := match d.spareOf tn with
    | some k => d.modLe k (fun x => { x with state := some .moving })
    | none => d
  d.modLe tn (fun l => { l with state := some .moving, pend := none, moveAt := some d.tb2, back := true })

/-- The incoming LE presets each loop of the tile, the fast trims among them, from the command in force; fast trims resume 5 µs later (R117). -/
def Dev.presetTile (d : Dev) (tn : Nat) : Dev :=
  let d := (tileCells tn).foldl (fun d ca =>
    let c := d.cell ca
    let trim := if c.settling || c.handover then satQ (c.f - (c.phiTgt - c.phiTh)) else 0
    let d := d.modHeaters ca (fun l =>
      let p := codePower (l.drvAt d.tb2)
      { l with
        preset := 1
        u := p
        v := p })
    (d.modCell ca (fun c => { c with
      fTrim := trim
      fDue := none })).modLoop (fAa ca) (fun l => { l with
        preset := 1
        u := trim
        v := trim })) d
  d.modLe tn (fun l => { l with trimsFrom := d.tb2 + 5000 })

/-- The spare of a plane's temporary takeovers with the lowest number, serving or moving. -/
def Dev.victim (d : Dev) (plane : Nat) : Option Nat :=
  (sparesOf plane).find? (fun k => (d.leState k == .spareServing || d.leState k == .moving) && (d.le (d.le k).partner).cause != some .permanent)

/-- TAKEOVER: at a tick boundary, the takeover or return of a tile that was asked for starts (R115 to R117). -/
def Dev.startMove (d : Dev) (tn : Nat) : Dev :=
  let l := d.le tn
  let unpreset := fun (d : Dev) => if l.presetDue then (d.modLe tn (fun x => { x with presetDue := false })).presetTile tn else d
  if l.back then (unpreset d).startReturn tn
  else
    match d.idleSpare (tilePlane tn) with
    | some k =>
      let d := (unpreset d).modLe k (fun x => { x with state := some .moving, partner := tn })
      d.modLe tn (fun x => { x with partner := k, pend := none, moveAt := some d.tb2,
                                    state := if x.state = some .failed then x.state else some .moving })
    | none =>
      let wait := fun (d : Dev) => d.modLe tn (fun x => { x with pend := some d.tb2 })
      if l.cause = some .permanent then
        match d.victim (tilePlane tn) with
        | some k =>
          let t2 := (d.le k).partner
          wait (if d.leState k = .spareServing then (d.calAbandon t2 true).startReturn t2 else d)
        | none =>
          if (sparesOf (tilePlane tn)).any (fun k => d.leState k == .moving) then wait d
          else
            let d := d.modLe tn (fun x => { x with state := some .unavailable, pend := none })
            (d.leErr tn 5).condOn 25 tn
      else if l.cause = some .cal then wait d
      else
        let d := d.modLe tn (fun x => { x with pend := none, cause := none })
        if l.cause = some .request then d.dropReq tn else d

/-- The first tick boundary after a TB2 instant (R168, R466). -/
def tickAfter (t : Nat) : Nat := (t / 10000 + 1) * 10000

/-- Is a tile of the running CAL_RUN in a step? -/
def Dev.calStep (d : Dev) (tn k : Nat) : Bool := match d.cal.run with
  | some r => r.active.any (fun t => t.tn == tn && t.step == k)
  | none => false
/-- A calibration's takeover is complete: W1 opens at the next tick boundary (R233). -/
def Dev.calOpen (d : Dev) (tn : Nat) : Dev :=
  match d.cal.run with
  | none => d
  | some r =>
    let t0 := tickAfter d.tb2
    { d with cal := { d.cal with run := some { r with active := r.active.map (fun (x : CalTile) =>
        if x.tn = tn ∧ x.step = 2 then { x with step := 3, t0 := t0, spare := (d.le tn).partner } else x) } } }

/-- A tile of the running CAL_RUN is back at its own LE, after its step 8 or by the run's end (R233, R238, R240). -/
def Dev.calReturned (d : Dev) (tn : Nat) : Dev :=
  if !d.calStep tn 8 && !d.calStep tn 9 then d
  else (({ d with cal := { d.cal with run := d.cal.run.map (fun (r : CalRun) => r.without tn) } }).uncal tn).calCheck

/-- A takeover or return is complete at T_n + 5 µs (R116). -/
def Dev.endMove (d : Dev) (tn : Nat) : Dev :=
  let l := d.le tn
  let d := d.condOff 25 tn
  if l.back then
    let spare := d.spareOf tn
    let d := d.modLe tn (fun x => { x with state := none, partner := 0, cause := none, moveAt := none, back := false, spareReq := false,
                                           returnReq := false, calActive := false })
    let d := match spare with
      | some k => (d.modLe k (fun x => { x with state := none, partner := 0, calActive := false })).spareFreed (tilePlane tn)
      | none => d
    d.calReturned tn
  else
    let d := match d.spareOf tn with
      | some k => d.modLe k (fun x => { x with state := some .spareServing })
      | none => d
    let cal := l.cause == some .cal
    let d := d.modLe tn (fun x => { x with moveAt := none, spareReq := false, calActive := cal,
                                           state := if x.state = some .failed then x.state else some .lent })
    if !cal then d else if d.calStep tn 2 then d.calOpen tn else d.askMove tn true false

/-! ## LE_CTL (R128) -/

/-- A write of LE_CTL: TILE_BUDGET; SPARE_REQ and RETURN_REQ of a tile LE. A SPARE_REQ of a tile with its own LE whose takeover for another cause has
still to start is dropped too, for which the manual names no outcome (R128; log entry 115). -/
def Dev.leCtlWrite (d : Dev) (k v : Nat) : Dev :=
  if 336 ≤ k then d
  else
    let d := d.modLe k (fun l => { l with budget := fieldOf v 8 8 })
    let d :=
      if !bitOf v 0 then d
      else if d.leState k != .own then d.dropReq k
      else if (d.le k).spareReq then d
      else if (d.le k).pend.isSome || (d.idleSpare (tilePlane k)).isNone then d.dropReq k
      else (d.modLe k (fun l => { l with spareReq := true, cause := some .request })).askMove k false false
    if bitOf v 1 && d.leState k == .lent && (d.le k).cause == some .request && (d.le k).pend.isNone then
      (d.modLe k (fun l => { l with returnReq := true })).askMove k true false
    else d

/-- LE_CTL with SPARE_REQ = 1. -/
def execSpareReq (fn le : Nat) (value : Word) (s : State) : Host.Outcome State Fault Refusal :=
  pf0Wr s fn (0x40000 + 0x100 * le) (fun d => d.leCtlWrite le value.toNat)
/-- LE_CTL with RETURN_REQ = 1. -/
def execReturnReq (fn le : Nat) (value : Word) (s : State) : Host.Outcome State Fault Refusal :=
  pf0Wr s fn (0x40000 + 0x100 * le) (fun d => d.leCtlWrite le value.toNat)

/-- LE_REJOIN: a failed LE whose quiet period has passed runs its self-test (R118); a tile LE then takes its tile back by R116. -/
def execLeRejoin (le : Nat) (pass : Bool) (s : State) : Host.Outcome State Fault Refusal :=
  let d := s.d
  let scope := if isSpare le then (d.le le).partner else le
  let waits := [21, 22, 26].any (fun n => (d.src n).insts.any (fun i => i.scope == scope))
  let out := d.leState le == .failed || d.leState le == .unavailable
  if !okLe le || !out || waits || (d.le le).pend.isSome || (d.le le).moveAt.isSome then ignored s
  else if !pass then finish s ((d.leErr le 6).once 26 scope)
  else if isSpare le then
    finish s ((d.modLe le (fun l => { l with state := none, partner := 0, oldUcode := false })).spareFreed (tilePlane (if le < 344 then 0 else 168)))
  else finish s ((d.modLe le (fun l => { l with oldUcode := false })).askMove le true (d.leState le == .unavailable))

end Sys2Proof.Machine
end

