-- ==== Sys2Proof/Machine/HostRings.lean ====
section
/-!
DEFINITION. Doorbells (R256, R257), queue enable and resume (R299, R300, R304), ring set-up (R287, R469, R470), queue creation through the
QM registers (R288), aggregation and MSI-X (R275, R276).
-/
namespace Sys2Proof.Machine

/-! ## Doorbells -/

/-- A doorbell write: counted; invalid, it is ignored and reported to the writing function, and is an occurrence of
FS67 (R257, R324). -/
def Dev.doorbell (d : Dev) (f off : Nat) (value : Word) (ok : Bool) (g : Dev → Dev) : Dev :=
  let d := d.count 3012
  if ok then g d else ((d.count 3013).evt f 6 off value.toNat 0 0).once 67 f

/-- A tail or head doorbell is 32 bits wide with bits [31:16] clear (R256, R257). -/
def ringWordOk (nbytes : Nat) (value : Word) : Bool := nbytes == 4 && decide (value.toNat < 65536)

/-- The I/O queue is assigned to the function's domain and is not in NONE (R257). -/
def Dev.ownQueue (d : Dev) (f q : Nat) : Bool := okQueue q && (d.queue q).domain == f && (d.queue q).state != .none

def Dev.dbSqTail (d : Dev) (f q nbytes : Nat) (value : Word) : Dev :=
  d.doorbell f (0x100 + 8 * q) value (ringWordOk nbytes value && d.ownQueue f q && decide (value.toNat < (d.queue q).sqSize))
    (fun d => (d.modQueue q (fun x => { x with tail := value.toNat })).startFetches 16)
def execSqTail (fn q nbytes : Nat) (value : Word) (s : State) : Host.Outcome State Fault Refusal :=
  hostWr s fn (0x80000 + 0x1000 * fn + 0x100 + 8 * q) (fun d => d.dbSqTail fn q nbytes value)

def Dev.dbCqHead (d : Dev) (f q nbytes : Nat) (value : Word) : Dev :=
  d.doorbell f (0x104 + 8 * q) value (ringWordOk nbytes value && d.ownQueue f q && (d.queue q).cq.headOk value.toNat)
    (fun d => d.modQueue q (fun x => { x with cq := x.cq.consumed value.toNat }))
def execCqHead (fn q nbytes : Nat) (value : Word) (s : State) : Host.Outcome State Fault Refusal :=
  hostWr s fn (0x80000 + 0x1000 * fn + 0x104 + 8 * q) (fun d => d.dbCqHead fn q nbytes value)

def Dev.dbAqSqTail (d : Dev) (f nbytes : Nat) (value : Word) : Dev :=
  d.doorbell f 0x000 value (ringWordOk nbytes value && (d.fn f).aqEn && decide (value.toNat < ringSize (d.fn f).aqSqs))
    (fun d => d.modFn f (fun x => { x with aqTail := value.toNat }))
def execAqSqTail (fn nbytes : Nat) (value : Word) (s : State) : Host.Outcome State Fault Refusal :=
  hostWr s fn (0x80000 + 0x1000 * fn) (fun d => d.dbAqSqTail fn nbytes value)

def Dev.dbAqCqHead (d : Dev) (f nbytes : Nat) (value : Word) : Dev :=
  d.doorbell f 0x004 value (ringWordOk nbytes value && (d.fn f).aqEn && (d.fn f).acq.headOk value.toNat)
    (fun d => d.modFn f (fun x => { x with acq := x.acq.consumed value.toNat }))
def execAqCqHead (fn nbytes : Nat) (value : Word) (s : State) : Host.Outcome State Fault Refusal :=
  hostWr s fn (0x80000 + 0x1000 * fn + 0x004) (fun d => d.dbAqCqHead fn nbytes value)

def Dev.dbEvtHead (d : Dev) (f nbytes : Nat) (value : Word) : Dev :=
  d.doorbell f 0x008 value (ringWordOk nbytes value && (d.fn f).evtEn && (d.fn f).evt.headOk value.toNat)
    (fun d => d.modFn f (fun x => { x with evt := x.evt.consumed value.toNat }))
def execEvtHead (fn nbytes : Nat) (value : Word) (s : State) : Host.Outcome State Fault Refusal :=
  hostWr s fn (0x80000 + 0x1000 * fn + 0x008) (fun d => d.dbEvtHead fn nbytes value)

/-- The telemetry head doorbell is in PF0's page only (R256); headers it passes free their bulk space (R274). -/
def Dev.dbTelHead (d : Dev) (f nbytes : Nat) (value : Word) : Dev :=
  d.doorbell f 0x00C value (ringWordOk nbytes value && d.io.tel.ring.headOk value.toNat)
    (fun d =>
      let r := d.io.tel.ring
      let n := (value.toNat + r.size - r.head) % r.size
      { d with io := { d.io with tel := { d.io.tel with ring := r.consumed value.toNat, bulk := d.io.tel.bulk.drop n } } })
def execTelHead (fn nbytes : Nat) (value : Word) (s : State) : Host.Outcome State Fault Refusal :=
  pf0Wr s fn (0x80000 + 0x1000 * fn + 0x00C) (fun d => d.dbTelHead fn nbytes value)

/-- IRQ_REARM is written 0 (R256); it sends the message again while ATN_SUM is non-zero (R275). -/
def Dev.dbIrqRearm (d : Dev) (f nbytes : Nat) (value : Word) : Dev :=
  d.doorbell f 0x010 value (nbytes == 4 && value == 0) (fun d => if d.atnSum f = 0 then d else d.message f)
def execIrqRearm (fn nbytes : Nat) (value : Word) (s : State) : Host.Outcome State Fault Refusal :=
  hostWr s fn (0x80000 + 0x1000 * fn + 0x010) (fun d => d.dbIrqRearm fn nbytes value)

/-! ## QCTL -/

/-- The word of a QCTL write (R256). -/
def qctlWord (enable resume flush : Bool) (rsv : BitVec 29) : Word :=
  w32 (pack [(b2n enable, 0), (b2n resume, 1), (b2n flush, 2), (rsv.toNat, 3)])

/-- A QCTL write: 32 bits, reserved bits clear, an own queue that exists, and decoded by R299. -/
def Dev.qctl (d : Dev) (f q nbytes : Nat) (rsv : BitVec 29) (word : Word) (ok : Bool) (g : Dev → Dev) : Dev :=
  d.doorbell f (0x400 + 4 * q) word (nbytes == 4 && rsv == 0 && d.ownQueue f q && ok) g

/-- Set the state of a queue. -/
def Dev.setQ (d : Dev) (q : Nat) (st : QState) : Dev := d.modQueue q (fun x => { x with state := st })

/-- Is the queue aborted by an ABORT command, after which it may be enabled again (R300, R312)? -/
def Queue.abortedByAbort (q : Queue) : Bool :=
  match q.abort with
  | some a => match a.kind with
    | .abort _ | .dusk => true
    | _ => false
  | none => false

/-- QCTL with ENABLE = 1 (R300): DISABLED becomes ENABLED; during an ABORT command the enable is held. FLUSH without RESUME is an error. -/
def Dev.qctlEnable (d : Dev) (f q nbytes : Nat) (rsv : BitVec 29) (flush : Bool) : Dev :=
  d.qctl f q nbytes rsv (qctlWord true false flush rsv) (!flush) (fun d =>
    match (d.queue q).state with
    | .disabled => d.setQ q .enabled
    | .aborting => if (d.queue q).abortedByAbort then d.setQ q .enablePending else d
    | _ => d)
def execQctlEnable (fn q nbytes : Nat) (rsv : BitVec 29) (flush : Bool) (s : State) : Host.Outcome State Fault Refusal :=
  hostWr s fn (0x80000 + 0x1000 * fn + 0x400 + 4 * q) (fun d => d.qctlEnable fn q nbytes rsv flush)

/-- QCTL with ENABLE = 0 (R300): fetch stops; a stalled queue keeps its stall point. -/
def Dev.qctlDisable (d : Dev) (f q nbytes : Nat) (rsv : BitVec 29) (flush : Bool) : Dev :=
  d.qctl f q nbytes rsv (qctlWord false false flush rsv) (!flush) (fun d =>
    match (d.queue q).state with
    | .enabled => d.setQ q .disabled
    | .stalled => d.modQueue q (fun x => { x with state := .disabled, flushTo := none })
    | .enablePending => d.setQ q .aborting
    | _ => d)
def execQctlDisable (fn q nbytes : Nat) (rsv : BitVec 29) (flush : Bool) (s : State) : Host.Outcome State Fault Refusal :=
  hostWr s fn (0x80000 + 0x1000 * fn + 0x400 + 4 * q) (fun d => d.qctlDisable fn q nbytes rsv flush)

/-- RESUME without FLUSH restarts fetch at the stall point (R304); outside STALLED it is an error (R299). -/
def Dev.qctlResume (d : Dev) (f q nbytes : Nat) (rsv : BitVec 29) (enable : Bool) : Dev :=
  d.qctl f q nbytes rsv (qctlWord enable true false rsv) ((d.queue q).state == .stalled) (fun d =>
    d.modQueue q (fun x => { x with state := .enabled, flushTo := none }))
def execResume (fn q nbytes : Nat) (rsv : BitVec 29) (enable : Bool) (s : State) : Host.Outcome State Fault Refusal :=
  hostWr s fn (0x80000 + 0x1000 * fn + 0x400 + 4 * q) (fun d => d.qctlResume fn q nbytes rsv enable)

/-- RESUME with FLUSH: the tail in force is the flush tail; with nothing to flush the queue is ENABLED at once (R304). -/
def Dev.qctlFlush (d : Dev) (f q nbytes : Nat) (rsv : BitVec 29) (enable : Bool) : Dev :=
  d.qctl f q nbytes rsv (qctlWord enable true true rsv) ((d.queue q).state == .stalled) (fun d =>
    d.modQueue q (fun x => if x.head = x.tail then { x with state := .enabled, flushTo := none } else { x with flushTo := some x.tail }))
def execFlush (fn q nbytes : Nat) (rsv : BitVec 29) (enable : Bool) (s : State) : Host.Outcome State Fault Refusal :=
  hostWr s fn (0x80000 + 0x1000 * fn + 0x400 + 4 * q) (fun d => d.qctlFlush fn q nbytes rsv enable)

/-- A QCTL write as a word (R256, R299). -/
def Dev.dbQctl (d : Dev) (f q nbytes : Nat) (value : Word) : Dev :=
  let rsv := value.extractLsb' 3 29
  match value.getLsbD 1, value.getLsbD 0, value.getLsbD 2 with
  | false, true, fl => d.qctlEnable f q nbytes rsv fl
  | false, false, fl => d.qctlDisable f q nbytes rsv fl
  | true, en, false => d.qctlResume f q nbytes rsv en
  | true, en, true => d.qctlFlush f q nbytes rsv en

/-- The doorbell at an offset of function f's page, if one lies there (R256). -/
def Dev.doorbellAt (d : Dev) (f off nbytes : Nat) (value : Word) : Option Dev :=
  if off = 0x000 then some (d.dbAqSqTail f nbytes value)
  else if off = 0x004 then some (d.dbAqCqHead f nbytes value)
  else if off = 0x008 then some (d.dbEvtHead f nbytes value)
  else if off = 0x00C then (if f = 0 then some (d.dbTelHead f nbytes value) else none)
  else if off = 0x010 then some (d.dbIrqRearm f nbytes value)
  else if 0x100 ≤ off ∧ off < 0x300 then
    some (if off % 8 = 0 then d.dbSqTail f ((off - 0x100) / 8) nbytes value else d.dbCqHead f ((off - 0x100) / 8) nbytes value)
  else if 0x400 ≤ off ∧ off < 0x500 then some (d.dbQctl f ((off - 0x400) / 4) nbytes value)
  else none

/-! ## Causes and messages -/

/-- The oldest unconsumed entry of a ring is as old as an AGG_TIME allows (R276). -/
def Ring.aged (r : Ring) (now : Nat) (agg : Nat → Nat) : Bool :=
  match r.ages with
  | [] => false
  | (at2, own) :: _ => agg own != 0 && decide (at2 + agg own * 1000 ≤ now)

/-- AGG_TIME: the oldest unconsumed entry of a CQ (ring 0) or of a function's event ring (ring 1) has reached its age (R276). QM_Q_COAL applies from
the next entry (R288), so that a CQ's entry keeps the AGG_TIME it was written under. -/
def execAggTime (ring q : Nat) (s : State) : Host.Outcome State Fault Refusal :=
  if ring = 0 then
    if (s.d.queue q).cq.aged s.d.tb2 id then finish s (s.d.modQueue q (fun x => { x with cq := { x.cq with cause := true } }))
    else ignored s
  else if (s.d.fn q).evt.aged s.d.tb2 (fun _ => (s.d.fn q).evtAgg) then
      finish s (s.d.modFn q (fun x => { x with evt := { x.evt with cause := true } }))
  else ignored s

/-- A message that was due while masked is sent once neither the vector nor the function is masked (R275). -/
def Dev.sendPending (d : Dev) (f : Nat) : Dev :=
  let x := d.fn f
  if x.msixPend && !x.msixMask && !x.cfg.fnMask then (d.modFn f (fun x => { x with msixPend := false })).message f else d

/-- The mask of a function's vector, or of the function, clears, and a pending message is sent (R275). -/
def execMsixUnmask (mask : Unmask) (s : State) : Host.Outcome State Fault Refusal :=
  let d := s.d.modFn mask.fn (fun x => if mask.whole then { x with cfg := { x.cfg with fnMask := false } } else { x with msixMask := false })
  finish s (d.sendPending mask.fn)

/-! ## Ring set-up (R287, R469, R470) -/

/-- Are the HIF registers of function t visible to function f (R287)? -/
def hifVisible (f t : Nat) : Bool := okFn t && (f == 0 || f == t)

/-- The admin pair starts: indices 0, PHASE 1 (R287). -/
def Fn.aqStart (x : Fn) : Fn := { x with aqActive := true, aqHead := 0, aqTail := 0, acq := Ring.start x.aqCqBase x.aqCqs }

/-- A write of FN_AQ_CFG (R287, R469). EN from 0 to 1 enables the pair, unless a size code is above 12; it is held while earlier commands
still end (R316). EN from 1 to 0 stops fetch: commands that have not begun are discarded, begun ones end without completions. -/
def Fn.aqCfgWrite (x : Fn) (v : Nat) : Fn :=
  if bitOf v 8 then
    if x.aqEn then x
    else
      let x := { x with aqSqs := v % 16, aqCqs := fieldOf v 4 4 }
      if 12 < x.aqSqs ∨ 12 < x.aqCqs then x
      else if x.orphans.isEmpty then { x with aqEn := true }.aqStart else { x with aqEn := true }
  else if x.aqEn then { x with aqEn := false, aqActive := false, acq := {}, cmds := [], orphans := x.orphans ++ x.cmds.filter (·.executed) }
  else { x with aqSqs := v % 16, aqCqs := fieldOf v 4 4 }

/-- FN_AQ_CFG with EN = 1. -/
def execAdminQueueEnable (fn target : Nat) (value : Word) (s : State) : Host.Outcome State Fault Refusal :=
  hostWr s fn (0x2110 + 0x40 * target) (fun d => if hifVisible fn target && bitOf value.toNat 8 then
      d.modFn target (fun x => x.aqCfgWrite value.toNat) else d)
/-- FN_AQ_CFG with EN = 0. -/
def execAdminQueueDisable (fn target : Nat) (value : Word) (s : State) : Host.Outcome State Fault Refusal :=
  hostWr s fn (0x2110 + 0x40 * target) (fun d => if hifVisible fn target && !bitOf value.toNat 8 then
      d.modFn target (fun x => x.aqCfgWrite value.toNat) else d)

/-- The last admin command of a disabled pair has ended: a held enable takes effect (R316). -/
def execAdminAbortEnd (fn : Nat) (s : State) : Host.Outcome State Fault Refusal :=
  let x := s.d.fn fn
  if x.aqEn && !x.aqActive && x.orphans.isEmpty then finish s (s.d.modFn fn Fn.aqStart) else ignored s

/-- A write of FN_EVT_CFG (R287, R470). EN from 0 to 1 restarts the ring at index 0 with PHASE 1; SEQ and EVT_LOST go on. EN = 0 stops the
writing and abandons the unconsumed entries; the leaf cause clears. -/
def Fn.evtCfgWrite (x : Fn) (v : Nat) : Fn :=
  let x := { x with evtAgg := fieldOf v 16 16 }
  if bitOf v 8 then
    if x.evtEn then x
    else
      let x := { x with evtEs := v % 16 }
      if 12 < x.evtEs then x else { x with evtEn := true, evtActive := true, evt := Ring.start x.evtBase x.evtEs }
  else if x.evtEn then { x with evtEn := false, evtActive := false, evt := {} } else { x with evtEs := v % 16 }

/-- FN_EVT_CFG with EN = 1. -/
def execEventRingEnable (fn target : Nat) (value : Word) (s : State) : Host.Outcome State Fault Refusal :=
  hostWr s fn (0x211C + 0x40 * target) (fun d => if hifVisible fn target && bitOf value.toNat 8 then
      d.modFn target (fun x => x.evtCfgWrite value.toNat) else d)
/-- FN_EVT_CFG with EN = 0. -/
def execEventRingDisable (fn target : Nat) (value : Word) (s : State) : Host.Outcome State Fault Refusal :=
  hostWr s fn (0x211C + 0x40 * target) (fun d => if hifVisible fn target && !bitOf value.toNat 8 then
      d.modFn target (fun x => x.evtCfgWrite value.toNat) else d)

/-- BS as written: values outside 16 to 26 are clamped (R287). -/
def telBs (v : Nat) : Nat := clampN (fieldOf v 4 5) 16 26

/-- A write of TEL_CFG (R287): a ring that was disabled starts; EN = 0 stops the periodic records. -/
def Tel.cfgWrite (t : Tel) (v : Nat) : Tel :=
  let t := { t with content := fieldOf v 10 3 }
  if bitOf v 9 then
    if t.en then t
    else
      let t := { t with hs := v % 16, bs := telBs v }
      if 12 < t.hs then t else { t with en := true, ring := Ring.start t.hdrBase t.hs, bulk := [], bulkNext := 0 }
  else if t.en then { t with en := false } else { t with hs := v % 16, bs := telBs v }
def Dev.telCfgWrite (d : Dev) (v : Nat) : Dev := { d with io := { d.io with tel := d.io.tel.cfgWrite v } }

/-- TEL_CFG with EN = 1. -/
def execTelemetryEnable (fn : Nat) (value : Word) (s : State) : Host.Outcome State Fault Refusal :=
  pf0Wr s fn 0x2610 (fun d => d.telCfgWrite value.toNat)

/-! ## CREATE (R281, R288) -/

/-- The queue with its registers checked and created, or CREATE_ERR (R281, R288): field checks first, then the state. -/
def Queue.created (x : Queue) : Queue :=
  if !createFieldsOk x.sqBase x.cqBase x.sqs x.cqs x.qosW || x.state != .none then { x with createErr := true }
  else { x with createErr := false, state := if x.startEn then .enabled else .disabled, head := 0, tail := 0,
                cq := Ring.start x.cqBase x.cqs, cmds := [], abort := none, flushTo := none, prevMidnight := 0 }

/-- The fields of QM_Q_CFG, writable only while STATE = NONE; QOS_W = 0 sets 1 (R288). -/
def Queue.cfgWrite (x : Queue) (v : Nat) : Queue :=
  if x.state != .none then x
  else { x with sqs := v % 16, cqs := fieldOf v 4 4, qosW := max 1 (fieldOf v 12 4), startEn := bitOf v 17 }

/-- A write of QM_Q_CFG, with CREATE where its bit is set. -/
def Queue.cfgAll (x : Queue) (v : Nat) : Queue := if bitOf v 16 then (x.cfgWrite v).created else x.cfgWrite v

/-- QM_Q_CFG with CREATE = 1 (R288). -/
def execCreate (fn q : Nat) (value : Word) (s : State) : Host.Outcome State Fault Refusal :=
  pf0Wr s fn (0x4010 + 0x20 * q) (fun d => if okQueue q then d.modQueue q (fun x => x.cfgAll value.toNat) else d)

end Sys2Proof.Machine
end

