-- ==== Sys2Proof/Machine/Recovery.lean ====
section
/-!
DEFINITION. Abort (R306 to R312), the end of a CAL_RUN by an abort (R240), Function Level Reset, PERST_N and the link (R313, R314), and the
removal and enabling of VFs (R252, R316).
-/
namespace Sys2Proof.Machine

/-! ## The end of a CAL_RUN (R240) -/

/-- A tile's measurement and its sweeps stop, and the tile goes back to its own LE; a takeover that has still to start is not made. -/
def Dev.calStopTile (d : Dev) (tn : Nat) : Dev :=
  let d := d.stopSweep tn
  let l := d.le tn
  if l.cause != some .cal then d
  else if l.pend.isSome && !l.back then
    (d.modLe tn (fun l => { l with pend := none, cause := none })).calReturned tn
  else if d.leState tn == .lent && l.pend.isNone then d.askMove tn true false
  else d

/-- A CAL_RUN that ends: every tile not yet applied is reported with reason 7, and those with a takeover have only to return. -/
def CalRun.cut (r : CalRun) : CalRun :=
  let gone := r.todo ++ (r.active.filter (fun t => decide (t.step < 8))).map (·.tn)
  let stop := fun (t : CalTile) => if t.step < 8 then { t with step := 9, accepted := [], lanes := [] } else t
  let r := { r with todo := [], flTodo := [], ended := true, active := if r.clear then [] else r.active.map stop }
  gone.foldl (fun r tn => r.addReport tn 0 tn 7 0) r

/-- The running CAL_RUN ends: measurement, its store and its sweeps stop; it completes when its lent tiles have returned. -/
def Dev.calEnd (d : Dev) : Dev :=
  match d.cal.run with
  | none => d
  | some r =>
    if r.ended then d
    else
      let d := { (d.resetBursts (fun b => b.master == 5)) with cal := { d.cal with run := some r.cut, storing := false, retry := false, retryAt := none, again := false } }
      if r.clear then d.calCheck else ((r.active.map (·.tn)).foldl Dev.calStopTile d).calCheck

/-- Every CAL_RUN of a queue ends, running or waiting. -/
def Dev.calEndQueue (d : Dev) (q : Nat) : Dev :=
  let mine := d.cal.waiting.filter (fun r => r.q == q)
  let d := { d with cal := { d.cal with waiting := d.cal.waiting.filter (fun r => r.q != q) } }
  let d := match d.cal.run with
    | some r => if r.q = q then d.calEnd else d
    | none => d
  mine.foldl (fun d r => d.calFinish r.cut) d

/-! ## Abort -/

/-- Is a queue being aborted? -/
def Queue.aborting (x : Queue) : Bool := x.state == .aborting || x.state == .enablePending

/-- Abort start of one queue: fetch stops, the read of an entry is discarded, and its route job is cancelled (R306, R308, R428). A reset takes over an
abort that runs, also one that waits for its admin completion only. -/
def Dev.startAbort (d : Dev) (kind : AbortKind) (q : Nat) : Dev :=
  let x := d.queue q
  if x.state = .none then d
  else if x.aborting then
    if kind = .reset then d.modQueue q (fun x => { x with state := .aborting, abort := x.abort.map (fun a => { a with kind := .reset, ranged := false }) })
    else d
  else
    let d := d.resetBursts (fun b => b.fetch == some q && !b.dead)
    let d := (List.range 16).foldl (fun d k => if (d.slot k).state == .routing && (d.slot k).queue == q then d.freeSlot k else d) d
    d.modQueue q (fun x => { x with state := .aborting, flushTo := none, abort := some { kind := kind, start := d.tb2, tail := x.tail } })

/-- A ramp that runs is made to end by a TB2 instant, continuous in phase (R307). -/
def Cell.shorten (c : Cell) (now stop : Nat) : Cell :=
  match c.ramp with
  | none => c
  | some (t0, t1, p0, p1) =>
    if t1 ≤ stop then c
    else
      let p := if t1 ≤ t0 then p1 else p0 + (p1 - p0) * ((now - t0 : Nat) : Int) / ((t1 - t0 : Nat) : Int)
      { c with ramp := some (now, stop, p, p1) }

/-- The rolls of a committed batch of an aborted queue have their ramps shortened (R307). -/
def Dev.shortenRolls (d : Dev) (n : Net) (k start : Nat) : Dev :=
  let d := d.modSlot k (fun s => { s with abortAt := some start })
  (d.slot k).rolls.foldl (fun d r => match r.2, (n.ofIn r.1).bind (splitCellOf n) with
    | some t1, some ca =>
      let t0 := match (d.cell ca).ramp with
        | some p => p.1
        | none => start
      let stop := min t1 (max start t0 + 10000)
      let d := [ca, twinCa ca].foldl (fun d x => d.modCell x (fun c => c.shorten d.tb2 stop)) d
      d.modSlot k (fun s => { s with rolls := s.rolls.map (fun p => if p.1 = r.1 then (p.1, some stop) else p) })
    | _, _ => d) d

/-- The copies of a queue's SEQ_LOADs stop: one that is partly written completes FETCH_ERROR (R307). -/
def Dev.stopLoads (d : Dev) (q : Nat) : Dev :=
  let mine := d.seq.loads.filter (fun x => x.q == q)
  let d := { d with seq := { d.seq with loads := d.seq.loads.filter (fun x => x.q != q), readyAt := if mine.isEmpty then d.seq.readyAt else d.tb2 } }
  (mine.filter (fun x => decide (0 < x.pos))).foldl (fun d x => d.complete q x.idx (baseComp 9 stFetch)) d

/-- The cut of one queue is fixed: the commands from it on are discarded, and those below it go to their ends (R306, R307). -/
def Dev.cutQueue (d : Dev) (n : Net) (q : Nat) : Dev :=
  let x := d.queue q
  match x.abort with
  | none => d
  | some a =>
    let keep := x.cmds.takeWhile (·.effect)
    let cut := match x.cmds.drop keep.length with
      | c :: _ => c.idx
      | [] => x.head
    let d := d.dropCmds q (fun i => !keep.any (fun c => c.idx == i))
    let d := d.modQueue q (fun x => { x with abort := some { a with cut := some cut }, head := a.tail })
    let d := (List.range 16).foldl (fun d k =>
      if (d.slot k).queue == q && (d.slot k).state != .free && !(d.slot k).rolls.isEmpty then d.shortenRolls n k a.start else d) d
    let att := d.jobs.att.map (fun (j : AttJob) => if j.q = q then { j with superseded := true, left := [] } else j)
    ((({ d with jobs := { d.jobs with att := att } }).attFinish).stopLoads q).calEndQueue q

/-- ABORT_CUT: at abort start + 0.5 µs (R306). -/
def execAbortCut (s : State) : Host.Outcome State Fault Refusal :=
  let due := (List.range 64).filter (fun q => (s.d.queue q).aborting && (match (s.d.queue q).abort with
    | some a => a.cut.isNone && decide (a.start + 500 ≤ s.d.tb2)
    | none => false))
  if due.isEmpty then ignored s else finish s (due.foldl (fun d q => d.cutQueue s.net q) s.d)

/-- The state an abort leaves a queue in (R300, R312, R313). -/
def Queue.abortEnds (x : Queue) : Queue :=
  match x.abort with
  | none => x
  | some a =>
    let y := { x with abort := none, head := a.tail }
    match a.kind with
    | .abort _ | .dusk => { y with state := if x.state = .enablePending then .enabled else .disabled }
    | _ => { y with state := .none, cmds := [], flushTo := none }

/-- Entries of a ring from index i up to, but excluding, j. -/
def ringSpan (size i j : Nat) : Nat := (j + size - i) % size

/-- Is there a free entry for ABORTED_RANGE, where one is to be written: a completion is never dropped and never overwritten (R254, R260)? -/
def Queue.rangeRoom (x : Queue) (a : Abort) (cut : Nat) : Bool := a.kind == .reset || ringSpan x.sqSize cut a.tail == 0 || x.cq.hasRoom

/-- The commands below the cut have ended: ABORTED_RANGE is written where something was discarded; a reset, and Dusk, then end at once, an ABORT
or QUEUE_DELETE with its admin completion (R308, R310). -/
def Dev.abortRange (d : Dev) (q : Nat) (a : Abort) (cut : Nat) : Dev :=
  let x := d.queue q
  let cnt := ringSpan x.sqSize cut a.tail
  let last := (a.tail + x.sqSize - 1) % x.sqSize
  let d := if a.kind = .reset ∨ cnt = 0 then d else d.cqPush q { status := stAborted, dw2 := cut + last * 65536, cid := 0xFFFF } false
  match a.kind with
  | .abort f | .delete f =>
    (d.modFn f (fun x => { x with covered := x.covered + cnt })).modQueue q (fun x => { x with abort := some { a with ranged := true } })
  | _ => d.modQueue q Queue.abortEnds

/-- Is a queue that the admin command of f waits for done: ranged by it, or no longer aborted by anything? -/
def Queue.doneFor (x : Queue) (f : Nat) : Bool :=
  match x.abort with
  | none => true
  | some a => a.ranged && (a.kind == .abort f || a.kind == .delete f)

/-- The ABORT or QUEUE_DELETE that function f runs. -/
def Fn.abortCmd (x : Fn) : Option Cmd := (x.cmds ++ x.orphans).find? (fun c => c.executed && (sqeOp c.sqe == 0x41 || sqeOp c.sqe == 0x42))

/-- The admin completion of an ABORT or QUEUE_DELETE, and the change of state of its queues. -/
def Dev.abortAdmin (d : Dev) (f : Nat) (c : Cmd) : Dev :=
  let x := d.fn f
  let mine := x.waits.filter (fun q => (d.queue q).abort.isSome)
  let d := d.adminDone f c.idx { dw2 := if sqeOp c.sqe = 0x42 then x.covered else 0 }
  let d := mine.foldl (fun d q => d.modQueue q Queue.abortEnds) d
  d.modFn f (fun x => { x with waits := [], covered := 0 })

/-- ABORT_COMPLETE of an I/O queue, or of the admin command of function q (R308, R310). A QUEUE_DELETE that found its queue aborting starts its
own abort after that one. -/
def execAbortComplete (admin : Bool) (q : Nat) (s : State) : Host.Outcome State Fault Refusal :=
  let d := s.d
  if admin then
    match (d.fn q).abortCmd with
    | none => ignored s
    | some c =>
      if !(d.fn q).waits.all (fun k => (d.queue k).doneFor q) then ignored s
      else
        let again := (d.fn q).waits.filter (fun k => (d.queue k).abort.isNone && (d.queue k).state != .none)
        if sqeOp c.sqe == 0x41 && !again.isEmpty then finish s (again.foldl (fun d k => d.startAbort (.delete q) k) d) else
            finish s (d.abortAdmin q c)
  else match (d.queue q).abort with
    | some a => match a.cut with
      | some cut => if a.ranged || !(d.queue q).cmds.isEmpty || !(d.queue q).rangeRoom a cut then ignored s else finish s (d.abortRange q a cut)
      | none => ignored s
    | none => ignored s

/-! ## SPDM sessions -/

/-- A session ends (R392). -/
def Dev.endSession (d : Dev) (doe : Bool) : Dev :=
  if (if doe then d.sec.doe else d.sec.mctp).state = 0 then d
  else ({ d with sec := if doe then { d.sec with doe := {} } else { d.sec with mctp := {} } }).setLeaf 0 0x1D4 16

/-! ## Resets of functions -/

/-- The queues of a function. -/
def Dev.queuesOf (d : Dev) (f : Nat) : List Nat := (List.range 64).filter (fun q => (d.queue q).domain == f && (d.queue q).state != .none)

/-- A function starts its reset: its queues abort, and its traffic stops; begun admin commands go on without a completion (R313). -/
def Dev.resetFn (d : Dev) (f : Nat) : Dev :=
  let qs := d.queuesOf f
  let d := qs.foldl (fun d q => d.startAbort .reset q) d
  let now := d.tb2
  let d := { d with mi := { d.mi with reqs := d.mi.reqs.map (fun (r : Nat × Nat × Sqe) => if r.1 = f then (16, r.2) else r) },
                      sec := { d.sec with act := if f = 0 then d.sec.act.map (fun (a : Activation) => { a with idx := 65536 }) else d.sec.act,
                                          blocked := d.sec.blocked.filter (fun p => p.1 != f) } }
  d.modFn f (fun x => { x with flrAt := some now, aqActive := false, aqEn := false, evtActive := false, cmds := [], orphans := [], waits := [], covered := 0 })

/-- The functions above a number are removed (R252). -/
def Dev.removeVfs (d : Dev) (n : Nat) : Dev :=
  let gone := (List.range 16).filter (fun f => decide (n < f) && decide (f ≤ d.io.numVfs))
  if gone.isEmpty then d
  else
    let d := gone.foldl (fun d f => d.resetFn f) d
    { d with io := { d.io with numVfs := n, vfHeld := none, teardown := some d.tb2 } }

/-- A reset of PF0: every VF goes with it (R314). -/
def Dev.resetPf0 (d : Dev) : Dev :=
  let d := (d.removeVfs 0).endSession true
  let d := d.resetFn 0
  { d with io := { d.io with disturb := [], vfHeld := none } }

/-- FLR (R313): a second request during one restarts nothing (R316). -/
def execFlr (fn : Nat) (s : State) : Host.Outcome State Fault Refusal :=
  if !s.d.reach fn then ignored s
  else
    let d := if fn = 0 then s.d.resetPf0 else s.d.resetFn fn
    finish s (d.once 66 fn)

/-- What a reset leaves of a function: nothing, but telemetry's count of records for PF0 (R273, R313, R443). -/
def Dev.clearFn (d : Dev) (f : Nat) : Dev :=
  let d := d.modFn f (fun _ => {})
  if f = 0 then { d with io := { d.io with tel := { seq := d.io.tel.seq }, telRo := true } } else d

/-- FLR_COMPLETE: the queues of the function are in NONE, and its HIF state is at reset (R313). -/
def execFlrComplete (fn : Nat) (s : State) : Host.Outcome State Fault Refusal :=
  if (s.d.fn fn).flrAt.isNone || !(s.d.queuesOf fn).isEmpty || decide (s.d.io.numVfs < fn) then ignored s else finish s (s.d.clearFn fn)

/-- PERST_N falls (R314). -/
def execPerstN (s : State) : Host.Outcome State Fault Refusal :=
  if s.d.io.perst then ignored s
  else
    let d := { s.d with io := { s.d.io with perst := true, linkUp := false, linkGen := 0, linkWidth := 0, linkFlit := false } }
    finish s ((d.resetPf0.dropHostBursts.endSession false).condOn 65 0)

/-- PERST_N rises: the link may come up (R412). -/
def execPerstNRelease (s : State) : Host.Outcome State Fault Refusal :=
  if s.d.io.perst then finish s { s.d with io := { s.d.io with perst := false } } else ignored s

/-- The link is lost (R314). -/
def execLinkDown (s : State) : Host.Outcome State Fault Refusal :=
  if !s.d.io.linkUp then ignored s
  else
    let d := { s.d with io := { s.d.io with linkUp := false, linkGen := 0, linkWidth := 0, linkFlit := false } }
    finish s ((d.resetPf0.dropHostBursts.endSession false).condOn 65 0)

/-- The link comes up, at a generation, a width and a mode (R287, R314). -/
def execLinkUp (gen width : Nat) (flit : Bool) (s : State) : Host.Outcome State Fault Refusal :=
  let ok := decide (1 ≤ gen) && decide (gen ≤ 6) && [1, 2, 4, 8].contains width
  if s.d.io.linkUp || s.d.io.perst || !ok || !s.d.clocked || (s.d.pwr.phase == .dawn && s.d.pwr.step == 0) then ignored s
  else
    let d := { s.d with io := { s.d.io with linkUp := true, linkGen := gen, linkWidth := width, linkFlit := flit } }
    finish s (d.condOff 65 0)

/-- VF Enable is cleared, or NumVFs reduced (R252). -/
def execVfRemoval (numVfs : Nat) (s : State) : Host.Outcome State Fault Refusal :=
  if !s.d.reach 0 || decide (s.d.io.numVfs ≤ numVfs) then ignored s else finish s (s.d.removeVfs numVfs)

/-- VF Enable is set: VFs of a teardown still running wait (R316). -/
def execVfEnable (numVfs : Nat) (s : State) : Host.Outcome State Fault Refusal :=
  if !s.d.reach 0 || decide (15 < numVfs) || decide (numVfs ≤ s.d.io.numVfs) then ignored s
  else if s.d.io.teardown.isSome then finish s { s.d with io := { s.d.io with vfHeld := some numVfs } }
  else finish s { s.d with io := { s.d.io with numVfs := numVfs } }

/-- VF_TEARDOWN_COMPLETE: the queues of the removed VFs are deleted; their ports and assignments return to domain 0 (R252, R316). -/
def execVfTeardownComplete (s : State) : Host.Outcome State Fault Refusal :=
  let d := s.d
  let gone := (List.range 16).filter (fun f => decide (d.io.numVfs < f))
  if d.io.teardown.isNone || gone.any (fun f => !(d.queuesOf f).isEmpty) then ignored s
  else
    let d := gone.foldl (fun d f => d.clearFn f) d
    let back := fun (q : Queue) => if d.io.numVfs < q.domain then { q with domain := 0 } else q
    let io := { d.io with queues := d.io.queues.mapVals {} (fun _ q => back q),
                          owner := d.io.owner.mapVals 0 (fun _ o => if d.io.numVfs < o then 0 else o),
                          numVfs := d.io.vfHeld.getD d.io.numVfs, vfHeld := none, teardown := none }
    finish s { d with io := io }

end Sys2Proof.Machine
end

