-- ==== Sys2Proof/Machine/Admin.lean ====
section
/-!
DEFINITION. Commands of the admin queues that end inside the queue manager: QUEUE_CREATE, QUEUE_DELETE, ABORT, DOMAIN_SET (R280 to R284).
-/
namespace Sys2Proof.Machine

/-- Does Dawn stand in recovery, where PF0's admin queue accepts FW_ACTIVATE with ACTION 2 alone (R390)? -/
def Dev.inRecovery (d : Dev) : Bool := d.pwr.phase == .stopped && d.pwr.halt == 2

/-- The admin command of a function that executes next: one at a time, in ring order, after those of a disabled pair have ended, and not during a
supervisor restart (R280, R315, R316). -/
def Dev.adminReady (d : Dev) (f op : Nat) : Option Cmd :=
  let x := d.fn f
  match x.cmds with
  | c :: _ => if !c.executed && sqeOp c.sqe == op && x.orphans.isEmpty && x.aqActive && d.sec.restart.isNone then some c else none
  | [] => none

/-- Execute a function's next admin command. -/
def onAdmin (s : State) (f op : Nat) (g : Cmd → Host.Outcome State Fault Refusal) : Host.Outcome State Fault Refusal :=
  match s.d.adminReady f op with
  | some c => if s.d.inRecovery && op != 0x44 then finish s (s.d.adminDone f c.idx (statusComp stMalformed)) else g c
  | none => ignored s

/-- Mark an admin command as begun (R469). -/
def Dev.adminBegin (d : Dev) (f idx : Nat) : Dev :=
  d.modFn f (fun x => { x with cmds := x.cmds.map (fun c => if c.idx = idx then { c with executed := true } else c) })

/-- May a function name a queue (R280)? -/
def Dev.namesQueue (d : Dev) (f q : Nat) : Bool := okQueue q && (d.queue q).domain == f

/-- QUEUE_CREATE writes the registers that CREATE checks (R281, R288). -/
def Queue.fill (x : Queue) (s : Sqe) : Queue :=
  { x with sqBase := sqeField s 8 8, cqBase := sqeField s 16 8, sqs := sqeField s 25 1, cqs := sqeField s 26 1, qosW := sqeField s 27 1,
           aggTime := sqeField s 28 2, aggCount := sqeField s 30 1, startEn := sqeField s 31 1 == 1 }

/-- QUEUE_CREATE (R281): the field checks first, then the queue's state. -/
def Dev.queueCreate (d : Dev) (f : Nat) (c : Cmd) : Dev :=
  let q := sqeField c.sqe 24 1
  if !d.namesQueue f q then d.adminDone f c.idx (statusComp stMalformed)
  else
    let y := (d.queue q).fill c.sqe
    let bad := fun st => (d.modQueue q (fun x => { x with createErr := true })).adminDone f c.idx (statusComp st)
    if !(sqeClean c.sqe && createFieldsOk y.sqBase y.cqBase y.sqs y.cqs y.qosW) then bad stMalformed
    else if (d.queue q).state ≠ .none then bad stBlocked
    else (d.modQueue q (fun _ => y.created)).adminDone f c.idx (statusComp stOk)

def execQueueCreate (fn : Nat) (s : State) : Host.Outcome State Fault Refusal := onAdmin s fn 0x40 (fun c => finish s (s.d.queueCreate fn c))

/-- An ABORT or QUEUE_DELETE of some queues begins (R282, R306). -/
def Dev.beginAbort (d : Dev) (f idx : Nat) (kind : AbortKind) (qs : List Nat) : Dev :=
  let qs := qs.filter (fun q => (d.queue q).state != .none)
  let d := (d.adminBegin f idx).modFn f (fun x => { x with waits := qs, covered := 0 })
  qs.foldl (fun d q => d.startAbort kind q) d

/-- QUEUE_DELETE (R282). -/
def Dev.queueDelete (d : Dev) (f : Nat) (c : Cmd) : Dev :=
  let q := sqeField c.sqe 8 1
  if !(sqeClean c.sqe && d.namesQueue f q) then d.adminDone f c.idx (statusComp stMalformed)
  else if (d.queue q).state = .none then d.adminDone f c.idx (statusComp stBlocked)
  else d.beginAbort f c.idx (.delete f) [q]

def execQueueDelete (fn : Nat) (s : State) : Host.Outcome State Fault Refusal := onAdmin s fn 0x41 (fun c => finish s (s.d.queueDelete fn c))

/-- ABORT (R283): of one queue of FUNCTION, or of every queue of it. -/
def Dev.abortCmd (d : Dev) (f : Nat) (c : Cmd) : Dev :=
  let scope := sqeField c.sqe 8 1
  let q := sqeField c.sqe 9 1
  let g := sqeField c.sqe 10 1
  let ok := sqeClean c.sqe && decide (scope ≤ 1) && (if f = 0 then decide (g ≤ d.io.numVfs) else g == f) && (scope == 1 || d.namesQueue g q)
  if !ok then d.adminDone f c.idx (statusComp stMalformed)
  else d.beginAbort f c.idx (.abort f) (if scope = 0 then [q] else d.queuesOf g)

def execAbort (fn : Nat) (s : State) : Host.Outcome State Fault Refusal := onAdmin s fn 0x42 (fun c => finish s (s.d.abortCmd fn c))

/-- DOMAIN_SET (R284): ports, the disturbance mask, or queues. -/
def Dev.domainSet (d : Dev) (f : Nat) (c : Cmd) : Dev :=
  let op := sqeField c.sqe 8 1
  let side := sqeField c.sqe 9 1
  let first := sqeField c.sqe 10 2
  let cnt := sqeField c.sqe 12 2
  let dom := sqeField c.sqe 14 1
  let done := fun (d : Dev) st => d.adminDone f c.idx (statusComp st)
  let range := fun (top : Nat) => decide (1 ≤ cnt) && decide (first + cnt ≤ top)
  if !sqeClean c.sqe || f != 0 || decide (d.io.numVfs < dom) then done d stMalformed
  else match op with
    | 0 =>
      if !(range 512 && decide (side ≤ 1)) then done d stMalformed
      else done { d with io := { d.io with owner := d.io.owner.setAll 0 ((List.range cnt).map (fun k => side * 512 + first + k)) (fun _ => dom) } } stOk
    | 1 => done { d with io := { d.io with disturb := d.io.disturb.set 0 dom (sqeField c.sqe 16 2) } } stOk
    | 2 =>
      let qs := (List.range cnt).map (first + ·)
      if !range 64 then done d stMalformed
      else if qs.any (fun q => (d.queue q).state != .none) then done d stBlocked
      else done (qs.foldl (fun d q => d.modQueue q (fun x => { x with domain := dom })) d) stOk
    | _ => done d stMalformed

def execDomainSet (fn : Nat) (s : State) : Host.Outcome State Fault Refusal := onAdmin s fn 0x43 (fun c => finish s (s.d.domainSet fn c))

end Sys2Proof.Machine
end

