-- ==== Sys2Proof/Machine/Measure.lean ====
section
/-!
DEFINITION. What the calibration engine measures in a tile's windows (R233 to R237): the set-up of W1, each tick's statistics and conditions, the
ranges of MON_DARK, and the HEATER_R sweeps with the sequencer (R221).
-/
namespace Sys2Proof.Machine

/-! ## What a window gathers -/

/-- 8 × address + kind; kind 6 is the taps of a cell and 7 a sensor. -/
def statKey (kind addr : Nat) : Nat := 8 * addr + kind
/-- One more value, and what goes with it. -/
def CalStat.add (c : CalStat) (a b : Int) : CalStat :=
  { c with
    n := c.n + 1
    a := c.a + a
    b := c.b + b
    lo := if c.n = 0 then a else min c.lo a
    hi := if c.n = 0 then a else max c.hi a }
def CalTile.stat (t : CalTile) (kind addr : Nat) : CalStat := t.now.get {} (statKey kind addr)
def CalTile.note (t : CalTile) (kind addr : Nat) (a b : Int) : CalTile := { t with now := t.now.mod {} (statKey kind addr) (·.add a b) }
/-- A result of a cell's taps is missing. -/
def CalTile.lacks (t : CalTile) (ca : Nat) : CalTile := { t with now := t.now.mod {} (statKey 6 ca) (fun c => { c with miss := c.miss + 1 }) }
/-- An element fails a condition of R237, 0 none: its reason is the lowest. -/
def CalTile.fail (t : CalTile) (e : Nat × Nat) (reason : Nat) : CalTile :=
  { t with bad := t.bad.mod 0 (statKey e.1 e.2) (fun r => if r = 0 then reason else if reason = 0 then r else min r reason) }
def CalTile.badOf (t : CalTile) (e : Nat × Nat) : Nat := t.bad.get 0 (statKey e.1 e.2)
/-- The elements a tile measures: kind and address. -/
def CalTile.elems (t : CalTile) (r : CalRun) : List (Nat × Nat) :=
  r.tileKinds.flatMap (fun k => (calElems t.tn k).map (fun a => (k, a))) ++ t.lanes.map (fun k => (4, k))
/-- Is a window of the tile in course, and does it hold [start, stop)? -/
def CalTile.inWindow (t : CalTile) (start stop : Nat) : Bool :=
  (t.step == 3 || t.step == 4) && decide (t.t0 ≤ start) && decide (stop ≤ t.t0 + 10000000 * t.win)
/-- Change the active tiles of the running CAL_RUN. -/
def Dev.modActive (d : Dev) (f : CalRun → CalTile → CalTile) : Dev :=
  { d with cal := { d.cal with run := d.cal.run.map (fun r => { r with active := r.active.map (f r) }) } }

/-! ## The set-up of W1 (R233, R237) -/

/-- Is a monitor point attached to a fast lane? -/
def Dev.attached (d : Dev) (mpa : Nat) : Bool := (List.range 128).any (fun l => (d.fl l).att == some mpa && (d.fl l).state != .free)
/-- May an output of plane A serve a lane's gain, and its offset (R237)? -/
def Dev.gainOut (d : Dev) (o : Nat) : Bool :=
  decide (dbm (-20) ≤ (d.mrt (mkMpa (outVoa 0 o) 0)).value) && !d.attached (mkMpa (outVoa 0 o) 0)
def Dev.darkOut (d : Dev) (n : Net) (o : Nat) : Bool := (n.ofOut o).isNone && decide ((d.mrt (mkMpa (outVoa 0 o) 0)).value ≤ dbm (-55))
/-- W1 of a tile opens: the ESN it counts from, and, with fast lanes to measure, the lowest outputs of plane A that qualify. -/
def Dev.calFirst (d : Dev) (n : Net) (lanes : List Nat) (t : CalTile) : CalTile :=
  { t with
    esn0 := d.cmt.esn
    lanes := lanes
    outGain := if lanes.isEmpty then none else (List.range 512).find? d.gainOut
    outDark := if lanes.isEmpty then none else (List.range 512).find? (d.darkOut n) }

/-- At the boundary at which W1 opens, the heaters of unlit cells enter CAL where their kinds are named, and the first tile that gets so far takes
the fast lanes. A tile that a run's end has stopped gives its cells back (R233, R240). -/
def Dev.calSetup (d : Dev) (n : Net) : Dev :=
  match d.cal.run with
  | none => d
  | some r =>
    let d := ((r.active.filter (fun t => t.step == 9)).map (·.tn)).foldl Dev.uncal d
    let tns := (r.active.filter (fun (t : CalTile) => t.step == 3 && t.t0 == d.tb2)).map (·.tn)
    let first := fun (t : CalTile) => t.step == 3 && t.t0 == d.tb2 && tns.head? == some t.tn
    let d := { d with cal := { d.cal with run := some { r with
      flTodo := if tns.isEmpty then r.flTodo else []
      active := r.active.map (fun (t : CalTile) =>
        if t.step = 3 ∧ t.t0 = d.tb2 then d.calFirst n (if first t then r.flTodo else []) t else t) } } }
    if !bitOf r.kinds 3 && !bitOf r.kinds 5 then d
    else
      (tns.flatMap tileCells).foldl (fun d ca =>
        if lit n d ca || (d.loop (hpAa ca)).prevMode.isSome then d
        else (d.modCell ca (fun c => { c with cal := true })).modHeaters ca (fun l => { l with prevMode := some l.mode, mode := 4 })) d

/-! ## A tick of a window (R236, R237) -/

/-- The lowest of the conditions 2 to 4 of R237 that an element fails in a tick, 0 none. -/
def Dev.calCond (d : Dev) (n : Net) (x : TickIn) (t : CalTile) (e : Nat × Nat) : Nat :=
  if e.1 = 4 then
    let l := d.fl e.2
    let level := fun (o : Nat) (p : Int → Bool) => (d.tickResult (outVoa 0 o) 0 x.t0).all p
    let gain := t.outGain.any (fun o => level o (fun v => decide (dbm (-20) ≤ v)) && !d.attached (mkMpa (outVoa 0 o) 0))
    let dark := t.outDark.any (fun o => (n.ofOut o).isNone && level o (fun v => decide (v ≤ dbm (-55))))
    if (l.state == .claimed || l.state == .done) && !l.arm && gain && dark then 0 else 2
  else
    let ca := if e.1 = 3 then mpaCell e.2 else aaCell e.2
    let c := d.cell ca
    let moved := decide (t.esn0 < n.esnCell.get 0 ca)
    if e.1 = 3 ∨ e.1 = 5 then (if !c.cal || lit n d ca then 2 else if moved || (d.loop (hpAa ca)).mode != 4 then 4 else 0)
    else
      let l := d.loop e.2
      let weak := n.pathsAt ca == 2 && (d.tickTaps ca x.t0).any (fun p => decide ((contrast p.1 p.2).natAbs < 3355444))
      if !lit n d ca then 2
      else if e.1 = 2 ∧ (n.pathsAt ca ≠ 1 ∨ n.swOf ca = .split ∨ !l.dither ∨ l.ampl < 64) then 2
      else if !c.locked || l.mode != 2 || l.winner != 0 || (d.loop (hpAa ca)).wrapPending || weak then 3
      else if moved then 4 else 0

/-- m of a one-path cell at twice its HP tone, sample by sample of a tick: sine and cosine parts, with 48 fraction bits (R236). -/
def Dev.harmonic (d : Dev) (n : Net) (t0 aa : Nat) (taps : List (Int × Int)) (t : CalTile) : CalTile :=
  let f := 2 * d.toneOf aa
  (taps.zip (List.range 10)).foldl (fun t p =>
    let m := n.metricOf (aaCell aa) (lin p.1.1, lin p.1.2)
    let ph : Int := ((f * ((t0 / 1000 + p.2) % 1000) % 1000 * 16777216 / 1000 : Nat) : Int)
    t.note 2 aa (m * sinTurn ph) (m * sinTurn (ph + quarterTurn))) t

/-- The cells whose taps a tile's window follows: those of its lit elements, and the output of the fast lanes' gain. -/
def CalTile.tapCells (t : CalTile) (es : List (Nat × Nat)) : List Nat :=
  ((es.filter (fun e => decide (e.1 ≤ 2))).map (fun e => aaCell e.2) ++ t.outGain.toList.map (outVoa 0)).eraseDups
/-- The results of one cell's taps in a tick, or that one is missing. -/
def Dev.tapTick (d : Dev) (n : Net) (x : TickIn) (t : CalTile) (ca : Nat) : CalTile :=
  match d.tickTaps ca x.t0 with
  | some (a, b) => if isSwitchCa ca && n.swOf ca != .split && !x.streamed.contains ca then t.lacks ca else t.note 6 ca (a + b : Nat) 0
  | none => t.lacks ca
/-- One tick of one tile: conditions, commands and decoupling terms in force, harmonics, taps. -/
def Dev.tileMeasure (d : Dev) (n : Net) (x : TickIn) (stream : List (Nat × List (Int × Int))) (r : CalRun) (t : CalTile) : CalTile :=
  if !t.inWindow x.t0 (x.t0 + 10000) then t
  else
    let es := t.elems r
    let t := es.foldl (fun t e => t.fail e (d.calCond n x t e)) t
    let t := (es.filter (fun e => decide (e.1 ≤ 1))).foldl (fun t e => t.note e.1 e.2 (d.loop e.2).u (d.decouple [] e.2)) t
    let t := (es.filter (fun e => e.1 == 2)).foldl (fun t e => match stream.find? (fun p => p.1 == aaCell e.2) with
      | some p => d.harmonic n x.t0 e.2 p.2 t
      | none => t) t
    (t.tapCells es).foldl (d.tapTick n x) t
def Dev.calMeasure (d : Dev) (n : Net) (x : TickIn) (stream : List (Nat × List (Int × Int))) : Dev := d.modActive (d.tileMeasure n x stream)

/-- A LOOP_MODE has reached an actuator: the elements of its cell fail (R237). -/
def Dev.calTouch (d : Dev) (aa : Nat) : Dev :=
  d.modActive (fun r t =>
    if t.step ≠ 3 ∧ t.step ≠ 4 then t
    else ((t.elems r).filter (fun e => e.1 != 4 && (if e.1 = 3 then mpaCell e.2 else aaCell e.2) == aaCell aa)).foldl (fun t e => t.fail e 4) t)

/-- Calibration takes a sensor's reading: of the tile, or of a lane measured with it (R236). -/
def Dev.calReading (d : Dev) (k : Nat) (temp : Int) : Dev :=
  d.modActive (fun _ t =>
    if t.inWindow d.tb2 d.tb2 && (t.tn == k || t.lanes.any (fun l => 336 + l / 8 == k)) then t.note 7 k temp 0 else t)

/-! ## MON_DARK (R236) -/

/-- The range that MON_DARK forces on the window that begins at T: 2 ms for each range, from the start of W1 and of W2. -/
def Dev.calRange (d : Dev) (mpa T : Nat) : Option Nat :=
  match d.cal.run with
  | some r =>
    if !bitOf r.kinds 3 || !(d.cell (mpaCell mpa)).cal then none
    else (r.active.find? (fun t => t.tn == tileOf (mpaCell mpa) && t.inWindow T (T + 10000) && decide (T < t.t0 + 6000000))).map
      (fun t => (T - t.t0) / 2000000)
  | none => none
/-- The lane of a point takes the range that MON_DARK forces. -/
def Dev.forceRange (d : Dev) (mpa T : Nat) : Dev :=
  match d.calRange mpa T with
  | some k => if (d.mrt mpa).range = k then d else (d.modMrt mpa (fun m => { m with range := k })).count 2931
  | none => d
/-- A code that MON_DARK takes. -/
def Dev.darkCode (d : Dev) (mpa T code : Nat) : Dev :=
  match d.calRange mpa T with
  | some k => d.modActive (fun _ t => if t.tn = tileOf (mpaCell mpa) then t.note 3 (4 * mpa + k) (code : Nat) 0 else t)
  | none => d

/-! ## HEATER_R sweeps (R221, R235 to R237) -/

/-- The first byte of pattern memory that calibration uses: sample 0x1_C000 (R221). -/
def calPattern : Nat := 0x1C000 * 8
/-- What calibration used of the sequencer is undefined after it releases it: fresh values (R221). -/
def State.garble (s : State) : State :=
  let f := s.d.fresh
  let bytes := (List.range 0x20000).filterMap (fun k =>
    let b := (Config.fresh (f + k / 32)).extractLsb' (8 * (k % 32)) 8
    if b = blankByte then none else some (calPattern + k, b))
  let word := fun (k : Nat) => ((Config.fresh (f + 0x1000 + k)).extractLsb' 0 32).toNat
  let seg := fun (t : Tab Nat) (off : Nat) => (List.range 8).foldl (fun t k => t.set 0 (56 + k) (word (off + k))) t
  { s with mem := { s.mem with pattern := s.mem.pattern.filter (fun p => decide (p.1 < calPattern)) ++ bytes },
           d := { s.d with fresh := f + 0x1010, seq := { s.d.seq with ownerCal := false, segA := seg s.d.seq.segA 0, segB := seg s.d.seq.segB 8 } } }

/-- The four samples of a sweep, power codes 50, 100, 150 and 200 on the lanes in use; the others keep their values. -/
def sweepBytes (used : List Nat) : List Byte :=
  [50, 100, 150, 200].flatMap (fun c => (List.range 4).flatMap (fun l => bytesLE (if used.contains l then c else 2048) 2))
/-- A sweep is played: segment 56, four samples of 262.144 µs each (8 × 4^7 cycles of DCLK). -/
def State.sweepPlay (s : State) (w : Sweep) : State :=
  let used := w.cur.filterMap (fun p => s.d.laneOf p.1)
  let m := { s.mem with pattern := Memory.writeBytes s.mem.pattern calPattern (sweepBytes used) }
  let q := s.d.seq
  let q := { q with
    segA := q.segA.set 0 56 (pack [(0x1C000, 0), (3, 17), (1, 31)])
    segB := q.segB.set 0 56 (pack [(455, 23)])
    err := q.err &&& (0xFFFFFFFF ^^^ 8)
    stopPend := false
    ownerCal := true }
  let d := { s.d with seq := q, cal := { s.d.cal with sweep := some w } }
  { s with
    mem := m
    d := d.reachSeg m 56 d.nextDclk }
/-- The sweeps of a tile's window have ended; the heaters listed were not swept. -/
def Dev.sweepsEnd (d : Dev) (tn : Nat) (lost : List Nat) : Dev :=
  ({ d with cal := { d.cal with sweep := none } }).modActive (fun _ t =>
    if t.tn = tn then lost.foldl (fun t aa => t.fail (5, aa) 9) { t with swept := true } else t)
/-- The next heaters of a tile, one on each free lane; a sequencer that is not STOPPED when a sweep falls due ends the sweeps. -/
def State.sweepNext (s : State) (w : Sweep) : State :=
  let d := s.d
  let free := (List.range 4).filter (fun l => !(d.lane l).bound)
  if w.todo.isEmpty || d.seq.state != .stopped || free.isEmpty then { s with d := d.sweepsEnd w.tn w.todo }
  else
    let now := w.todo.take free.length
    let cur := now.map (fun aa => (aa, (d.loop aa).u, (d.loop aa).drvAt d.tb2))
    let d := (free.zip now).foldl (fun d p => d.modLane p.1 (fun _ => { aa := p.2, en := true, bound := true, at2 := d.tb2 })) d
    State.sweepPlay { s with d := d } { w with todo := w.todo.drop free.length, cur := cur }
/-- The tile whose sweeps are due. -/
def Dev.sweepDue (d : Dev) : Option CalTile :=
  d.cal.run.bind (fun r => if bitOf r.kinds 5 then r.active.find? (fun t => t.inWindow d.tb2 t.t0 && !t.swept) else none)
/-- The sweeps go on at each tick: a sweep that did not play to its end with SWEEP_INVALID clear is played once more; after the last, calibration
releases the sequencer. -/
def State.sweepTick (s : State) : State :=
  let d := s.d
  match d.cal.sweep with
  | some w =>
    if d.seq.state != .stopped then s
    else
      let bad := bitOf d.seq.err 3 || d.seq.sample != 3
      if bad && !w.again then s.sweepPlay { w with again := true }
      else
        let lost := if bad then w.cur.map (·.1) else []
        let d := (d.sweepRestore w).modActive (fun _ t => if t.tn = w.tn then lost.foldl (fun t aa => t.fail (5, aa) 9) t else t)
        State.sweepNext { s with d := d } { w with cur := [], again := false }
  | none => match d.sweepDue with
    | some t => s.sweepNext { tn := t.tn, todo := ((tileCells t.tn).filter (fun ca => (d.cell ca).cal)).flatMap heatersOf }
    | none => if d.seq.ownerCal then s.garble else s

end Sys2Proof.Machine
end

