-- ==== Sys2Proof/Machine/Tick.lean ====
section
/-!
DEFINITION. The sampling tick (R108, R110 to R113, R128, R132 to R142, R153, R156 to R159, R195 to R197, R206). A TICK at the boundary T_(n+1)
runs tick n: its loops act on the results of the window that began at T_n, and their commands take effect at T_(n+1) (log entry 15).
-/
namespace Sys2Proof.Machine

/-- Has a source an occurrence of an instance with full reaction that has not recovered (R328)? -/
def Dev.reacting (d : Dev) (n scope : Nat) : Bool :=
  (d.src n).conds.contains scope || (d.src n).insts.any (fun i => i.scope == scope && i.full)
/-- Do a tile's loops stand still: no LE serves it, or a table entry of it is uncorrectable (R115, R117, FS71)? -/
def Dev.tileHeld (d : Dev) (tn : Nat) : Bool := !d.served tn || (d.tile tn).holdErr
/-- A VOA cell is held at extinction, as its target or by its blank override (R146, R203). -/
def Dev.dimmed (d : Dev) (ca : Nat) : Bool := (d.cell ca).dark || d.blanked ca
/-- The lock loops of a cell wait for their demodulator window (R151, R207). -/
def Dev.demodWait (d : Dev) (n : Net) (ca : Nat) : Bool :=
  isSwitchCa ca && n.swOf ca != .split && ((d.cell ca).demodAt.isSome || d.drv.demodAt != 0)

/-- The error of a VOA or SPLIT cell from its two taps, Q24, and its measurement (R136, R137, R158). -/
def Dev.directError (d : Dev) (ca : Nat) (t : Taps) : Int × Int :=
  let c := d.cell ca
  if isVoaCa ca then
    let m := attMeas t.1 t.2
    (satQ (if c.dark then Config.lawUnstated 8 m else c.sigma * (d.attEff ca - m * 256)), satQ (c.sigma * m * 256))
  else
    let e := satQ (mulQ (c.sigma * contrast t.1 t.2) (inv2Pi / 65536))
    (e, -e)
/-- The taps as the coefficients replaced since the last window would have them (R229). -/
def Dev.oldTaps (d : Dev) (ca : Nat) (t : Taps) : Taps :=
  (((d.mrt (mkMpa ca 0)).old.map lin).getD t.1, ((d.mrt (mkMpa ca 1)).old.map lin).getD t.2)

/-- What a heater's loop samples in a tick (R110, R132 to R137, R144, R149 to R152). -/
def Dev.sampleOf (d : Dev) (n : Net) (x : TickIn) (aa : Nat) : Sample :=
  let ca := aaCell aa
  let c := d.cell ca
  if !lit n d ca || c.settling || c.handover || c.wrapping || d.blanked ca || d.demodWait n ca then .ffOnly
  else if c.ramp.isSome then .skip
  else match d.tickTaps ca x.t0 with
    | none => .skip
    | some t =>
      if isVoaCa ca || n.swOf ca == .split then
        let (e, y) := d.directError ca t
        .err e y (e - (d.directError ca (d.oldTaps ca t)).1)
      else
        let k := contrast t.1 t.2
        let two := n.pathsAt ca = 2
        if two ∧ k.natAbs < 3355444 then .skip
        else match if x.streamed.contains ca then d.gradient aa else none with
          | none => .skip
          | some g =>
            let e := gradError g (if two then k.natAbs else oneQ)
            .err e (-e) 0

/-! ## Set-points (R156, R157) -/

/-- The slew of a VOA's set-point in one tick, dB Q7.24. -/
def Loop.dbStep (l : Loop) : Int := divRound (l.slewDb * 16777216) 100000
/-- The set-point of one VOA cell moves toward its target; asked for DARK it steps there from 25 dB, in region 5 all the way (R144). -/
def Dev.slewVoa (d : Dev) (ca : Nat) : Dev :=
  let c := d.cell ca
  let side := if isInVoa ca then 0 else 1
  if c.dark || c.settling || d.tileHeld (tileOf ca) || d.seqBound ca then d
  else
    let l := d.loop (hpAa ca)
    let a := slew c.aRef (if c.toDark then db25 else tgtQ (d.tgt side (caIdx ca))) l.dbStep (l.slewDb == 0)
    let x := d.modCell ca (fun c => { c with aRef := a, region := voaRegion c.region c.toDark a })
    let x := if d.blanked ca then x else x.followEff d ca
    let x := if isOutVoa ca then x.followRef d ca else x
    if c.toDark && a == db25 then x.stepVoa ca true 0 else x
def Dev.slewAll (d : Dev) : Dev := (d.fab.cells.keys.filter isVoaCa).foldl Dev.slewVoa d

/-! ## Heater loops and drivers -/

/-- SAT_CNT after a tick (R120). -/
def Loop.satNext (l : Loop) : Nat := if l.sat then satAdd l.satCnt 1 16 else l.satCnt

/-- A heater's command for the next tick: its loop's, or its lane's within C1 and C2 (R138 to R142, R210, R211). -/
def Dev.heaterTick (d : Dev) (n : Net) (x : TickIn) (aa : Nat) (l : Loop) : Loop :=
  let ca := aaCell aa
  let tn := tileOf ca
  let l := l.landed d.tb2
  match d.laneOf aa with
  | some _ =>
    let r := d.selected aa d.tb2
    { r with drvPrev := l.drv, drv := powerCode r.u, drvNext := none, skipped := false }
  | none =>
    if d.tileHeld tn || d.seqBound ca || (d.cell ca).hzH then { l with drvPrev := l.drv, skipped := false, satCnt := l.satNext }
    else
      let r := d.runLoop ((x.ringErr.filter (fun p => p.1 == d.serving tn)).map (·.2)) aa (d.sampleOf n x aa)
      { r with drvPrev := l.drv, drv := powerCode r.u, drvNext := none, satCnt := r.satNext }

/-- The dither a heater is to have: lit switch cells outside SPLIT carry tones, not in PARK, and none from Dusk step DK3 (R132, R134, R137,
R160, R414); a bound heater has none (R210). -/
def Dev.wantsDither (d : Dev) (n : Net) (aa : Nat) (l : Loop) : Nat :=
  let ca := aaCell aa
  if isSwitchCa ca && lit n d ca && n.swOf ca != .split && l.mode != 0 && (d.laneOf aa).isNone && !(d.pwr.phase == .dusk &&
      decide (3 ≤ d.pwr.step)) then
    1 + Config.ditherAmpl aa % 255 else 0
/-- A change of amplitude, in turn or in power, waits for the NCO's zero crossing (R208). -/
def Dev.ditherTick (d : Dev) (n : Net) (aa : Nat) (l : Loop) : Loop :=
  let a := d.wantsDither n aa l
  let same := if a = 0 then !l.dither else l.dither && l.ampl == a && l.ap == d.ditherPower aa a
  { l with amplNext := if same then none else some a }

/-- The largest power that the coming tick asks of a heater: its power code with the full dither amplitude, or, of a bound one, what its lane's
samples of the tick apply at most (R197, R210). -/
def Dev.peakPower (d : Dev) (x : TickIn) (aa : Nat) (l : Loop) : Int :=
  match d.laneOf aa with
  | some k => codePower (powerCode (l.select (lanePower (x.ahead.getD k 0)) (d.c1 aa l) (d.tile (tileOf (aaCell aa))).level).u)
  | none => codePower l.drv + max l.ap ((l.amplNext.map (d.ditherPower aa)).getD 0)
/-- The range of one heater's driver for the next tick, from the peak power, HRAIL and the heater's resistance; and whether it changes (R197). -/
def Dev.driverTick (d : Dev) (x : TickIn) (aa : Nat) (l : Loop) : Loop × Bool :=
  let v2 : Int := (d.drv.hrailMv * d.drv.hrailMv : Nat)
  let pr := d.peakPower x aa l * d.heaterOhms aa * 100
  let unit : Int := v2 * 16777216
  let high := if pr * 1000000 > unit * 207936 then true else if pr * 1000000 < unit * 166464 then false else l.high
  if high = l.high then (l, false) else ({ l with high := high, rangeAt := d.tb2 + 1 }, true)

/-- WRAP_PENDING of an HP (R153). -/
def Dev.wrapTick (d : Dev) (aa : Nat) (l : Loop) : Loop :=
  if aaKind aa != 0 || l.mode == 0 then { l with wrapPending := false }
  else
    let p := d.pTurn (aaCell aa)
    if l.u * 100 > d.c1 aa l * 85 ∨ l.u * 2 < wLo then { l with wrapPending := true }
    else if wLo ≤ l.u ∧ l.u < wLo + p then { l with wrapPending := false } else l

/-- Do the loops run: from Dawn step D5 until Dusk has ended (R409, R414, R415)? -/
def Dev.loopsOn (d : Dev) : Bool :=
  (d.pwr.phase == .dawn && decide (5 ≤ d.pwr.step)) || d.pwr.phase == .run || d.pwr.phase == .dusk

/-- Every listed heater in a tick: loops, where they run, from the state before it, then drivers. Answers the loops, and by actuator what happened:
a skipped sample, a change of range, a clamp in the tick that ends. -/
def Dev.loopsTick (d : Dev) (n : Net) (x : TickIn) : Tab Loop × List (Nat × Bool × Bool × Bool) :=
  let rs := d.fab.loops.map (fun (aa, l) =>
    if 2 ≤ aaKind aa then (aa, { l with satCnt := l.satNext }, false, false, false)
    else
      let m := if d.loopsOn then d.ditherTick n aa (d.wrapTick aa (d.heaterTick n x aa l)) else l
      let (m, chg) := if d.drv.armed then d.driverTick x aa m else (m, false)
      (aa, { m with clamped := false }, m.skipped, chg, m.clamped))
  (rs.filterMap (fun r => if r.2.1 = {} then none else some (r.1, r.2.1)), rs.map (fun r => (r.1, r.2.2)))

/-! ## Tiles (R141, R142, R128) -/

/-- Sum of the powers in force at a tile's heaters. -/
def Dev.tilePower (d : Dev) (tn : Nat) : Int :=
  (tileCells tn).foldl (fun s ca => (heatersOf ca).foldl (fun s aa => s + codePower (d.drvOf aa)) s) 0

/-- k_der and the level L of a tile; d0 is the state before the tick. FS14 and the PWR leaf follow k_der. -/
def Dev.tileTick (d d0 : Dev) (tn : Nat) : Dev :=
  let t := d0.tile tn
  let s := d0.sensor tn
  let k := if s.valid then clampI (t.kDer - 256 * (s.temp - 16 * (d0.thm.tDer : Nat))) 12582912 oneQ else t.kDer
  let b : Int := (d0.le tn).budget * 4 * 16777216
  let lv := clampI (t.level + divRound (b - d0.tilePower tn) 64) 0 402653184
  let d := d.modTile tn (fun x => { x with kDer := k, level := lv })
  if k < oneQ then (if oneQ ≤ t.kDer then (d.condOn 14 tn).setLeaf 0 0x1D8 8 else d)
  else if t.kDer < oneQ then d.condOff 14 tn else d

/-- Control-law slots of a tile's slow loops (R107). -/
def slowSlots (tn : Nat) : Nat := if isSwitchTile tn || isBalTile tn then 64 else 32

/-- LE_LOAD and the counters of the LE that serves a tile (R128, R431). -/
def Dev.loadTick (d : Dev) (evs : List (Nat × Bool × Bool × Bool)) (tn : Nat) : Dev :=
  if !d.served tn then d
  else
    let k := d.serving tn
    let t := d.tile tn
    let skips := (evs.filter (fun e => e.2.1 && tileOf (aaCell e.1) == tn)).length
    let limited := (tileCells tn).any (fun ca => (heatersOf ca).any d.limitedNow)
    let used := slowSlots tn + t.fastUsed
    let d := d.modLe k (fun l => { l with loadLast := used, loadPeak := max l.loadPeak used, loadHeld := min 255 (skips + t.fastHeld) })
    let d := (((d.countN (8 * k) used).countN (8 * k + 1) (skips + t.fastHeld)).countN (8 * k + 2) t.fastUsed)
    let d := if limited then d.count (8 * k + 6) else d
    d.modTile tn (fun x => { x with fastUsed := 0, fastHeld := 0 })

/-- FS19 by tile: a heater clamped in 100 consecutive ticks (R324). -/
def Dev.satTick (d : Dev) (evs : List (Nat × Bool × Bool × Bool)) : Dev :=
  let hot := ((evs.filter (fun e => e.2.2.2)).map (fun e => tileOf (aaCell e.1))).eraseDups
  let d := { d with drv := { d.drv with hrSat := !hot.isEmpty } }
  let d := if hot.isEmpty then d else d.count 2969
  let cool := (d.fab.tiles.filter (fun p => decide (0 < p.2.hrSat) && !hot.contains p.1)).map (·.1)
  let d := cool.foldl (fun d tn => (d.modTile tn (fun t => { t with hrSat := 0 })).condOff 19 tn) d
  hot.foldl (fun d tn =>
    let d := d.modTile tn (fun t => { t with hrSat := min 100 (t.hrSat + 1) })
    if (d.tile tn).hrSat = 100 then d.condOn 19 tn else d) d

/-! ## Plane balancing (R113, R158, R159) -/

/-- Is the candidate of an output held in this tick? -/
def Dev.balHeld (d : Dev) (c : Conn) (o : Nat) : Bool :=
  let ws := [outVoa 0 o, outVoa 1 o]
  let pair := [152 + o / 32, 320 + o / 32]
  c.dark.isSome || ws.any (fun ca => (d.cell ca).settling || (d.cell ca).handover || d.dimmed ca) || pair.any (fun tn => !d.served tn)
/-- A skipped evaluation of a balancing loop, counted in the LE that runs it (R110, R113). -/
def Dev.balSkip (d : Dev) (o : Nat) : Dev := d.modTile (152 + o / 32) (fun t => { t with fastHeld := t.fastHeld + 1 })
/-- One tick of the candidate of an output. A twin-link error, or a missing result, skips its evaluation. -/
def Dev.balTick (d : Dev) (n : Net) (t0 o : Nat) : Dev :=
  match n.ofOut o with
  | none => d
  | some c =>
    if d.fab.balOff.contains o || d.balHeld c o then d
    else if [152 + o / 32, 320 + o / 32].any (d.reacting 24) then d.balSkip o
    else match d.tickResult (outVoa 0 o) 0 t0, d.tickResult (outVoa 1 o) 0 t0 with
      | some pa, some pb =>
        if pa < dbm (-35) ∨ pb < dbm (-35) then d
        else d.setBal o (clampI (d.fab.beta.get 0 o + 64 * (pa - pb)) (-25165824) 25165824) (d.fab.balRest.get 0 (2 * o)) (d.fab.balRest.get 0 (2 * o + 1))
      | _, _ => d.balSkip o
/-- What a disabled candidate has left goes to 0 under each plane's slew limit (R159). -/
def Dev.balReturn (d : Dev) (o : Nat) : Dev :=
  let rest := fun (p : Nat) =>
    let l := d.loop (hpAa (outVoa p o))
    slew (d.fab.balRest.get 0 (2 * o + p)) 0 l.dbStep (l.slewDb == 0)
  d.setBal o (d.fab.beta.get 0 o) (rest 0) (rest 1)
def Dev.balAll (d : Dev) (n : Net) (t0 : Nat) : Dev :=
  (d.fab.balRest.keys.map (· / 2)).eraseDups.foldl Dev.balReturn ((n.conns.flatMap Conn.outs).foldl (fun d o => d.balTick n t0 o) d)

/-! ## Measurements of a tick (R25, R132, R145, R146, R324) -/

/-- A count of consecutive ticks, held at 10. -/
def tally (c : Nat) (b : Bool) : Nat := if b then min 10 (c + 1) else 0

/-- The power test of R132, and A_meas (R25). -/
def Cell.powerTick (c : Cell) (ca : Nat) (a b : Nat) : Cell :=
  { c with nDark := tally c.nDark (decide (a + b < lin (dbm (-40)))), nLit := tally c.nLit (decide (lin (dbm (-37)) < a + b)),
           attenAct := if isVoaCa ca then clampN (divRound (attMeas a b * 20) 65536).toNat 0 511 else c.attenAct }

/-- Lock, loss and metric hysteresis of a lit cell that is not settling (R145, R146). -/
def Dev.lockTick (d : Dev) (n : Net) (x : TickIn) (ca a b : Nat) (c : Cell) : Cell :=
  if isVoaCa ca then
    let m := attMeas a b
    if d.dimmed ca then { c with nLock := tally c.nLock (decide (dbm 40 ≤ m)), nLoss := tally c.nLoss (decide (m < dbm 37)) }
    else
      let e := (m * 256 - d.attEff ca).natAbs
      { c with nLock := tally c.nLock (decide (e ≤ 1677721)), nLoss := tally c.nLoss (decide (4194304 < e)) }
  else
    let k := contrast a b
    if n.swOf ca = .split then
      { c with nLock := tally c.nLock (decide (k.natAbs ≤ 335544)), nLoss := tally c.nLoss (decide (838860 < k.natAbs)) }
    else
      let counts := fun (at45 over40 at22 over18 : Bool) =>
        { c with nLock := tally c.nLock (c.region == 1 && at45), nLoss := tally c.nLoss (c.region == 2 && over40),
                 nMove := tally c.nMove (if c.region = 0 then at22 else c.region == 1 && over18) }
      if n.pathsAt ca = 2 then
        if k.natAbs < 3355444 then c
        else match if x.streamed.contains ca then d.gradient (hpAa ca) else none with
          | none => c
          | some g =>
            let e : Int := min (gradError g k.natAbs).natAbs 8388608
            let m := (sinSqPi e).toNat * 1099511627776
            counts (decide (m ≤ lin (dbm (-45)))) (decide (lin (dbm (-40)) < m)) (decide (m ≤ lin (dbm (-22)))) (decide (lin (dbm (-18)) < m))
      else
        let w := n.wantedTap ca
        let tw := if w = 0 then a else b
        let tu := if w = 0 then b else a
        counts (metricAtMost tw tu (-45)) (!metricAtMost tw tu (-40)) (metricAtMost tw tu (-22)) (!metricAtMost tw tu (-18))

/-- One cell's results in a tick: power, lock, taps OVER (FS45). -/
def Dev.cellTick (d : Dev) (n : Net) (x : TickIn) (ca : Nat) : Dev :=
  match d.tickTaps ca x.t0 with
  | none => d
  | some (a, b) =>
    let c := (d.cell ca).powerTick ca a b
    let c := if lit n d ca && !c.settling && !c.handover then d.lockTick n x ca a b c else { c with nLock := 0, nLoss := 0, nMove := 0 }
    let ovr := fun (tap : Nat) => match (d.mrt (mkMpa ca tap)).tick with
      | some (_, _, o) => o
      | none => false
    let c := { c with ovr := tally c.ovr (ovr 0), over1 := tally c.over1 (ovr 1) }
    let d := d.modCell ca (fun _ => c)
    if c.ovr = 10 ∨ c.over1 = 10 then d.condOn 45 ca else d.condOff 45 ca

/-- The cells with a monitor result, ascending. -/
def Dev.measuredCells (d : Dev) : List Nat := (d.mon.mrt.keys.map mpaCell).eraseDups

/-- Input power of IN i (FS38, FS39): above P_IN summed over the planes, and, connected, below −40 dBm in both, for 3 ticks. -/
def Dev.inputTick (d : Dev) (n : Net) (t0 i : Nat) : Dev :=
  match d.tickResult (inVoa 0 i) 0 t0, d.tickResult (inVoa 1 i) 0 t0 with
  | some a, some b =>
    let low := (n.ofIn i).isSome && decide (a < dbm (-40)) && decide (b < dbm (-40))
    let d := d.modCell (inVoa 0 i) (fun c => { c with nHigh := tally c.nHigh (decide (lin (dbm 23) < lin a + lin b)), nLow := tally c.nLow low })
    let c := d.cell (inVoa 0 i)
    let scope := match n.ofIn i with
      | some k => pathScope i k.out 3
      | none => i
    let set := fun (d : Dev) (src : Nat) (on : Bool) =>
      let mine := (d.src src).conds.filter (fun x => x % 512 == i)
      if on then (if mine.isEmpty then d.condOn src scope else d) else mine.foldl (fun d x => d.condOff src x) d
    set (set d 38 (decide (3 ≤ c.nHigh))) 39 (decide (3 ≤ c.nLow))
  | _, _ => d

/-- WRAP_PENDING and LIMITED for longer than 1 s (FS34, FS35). -/
def Dev.longTick (d : Dev) (ca : Nat) : Dev :=
  let now := d.tb2
  let since := fun (on : Bool) (s : Option Nat) => if on then some (s.getD now) else none
  let c := d.cell ca
  let w := since (d.loop (hpAa ca)).wrapPending c.wrapSince
  let l := since ((heatersOf ca).any d.limitedNow) c.limSince
  let d := if c.wrapSince = w ∧ c.limSince = l then d else d.modCell ca (fun c => { c with wrapSince := w, limSince := l })
  let set := fun (d : Dev) (src : Nat) (s : Option Nat) => match s with
    | some t => if t + 1000000000 < now then d.condOn src ca else d
    | none => if (d.src src).conds.contains ca then d.condOff src ca else d
  set (set d 34 w) 35 l

/-! ## ATTEN_SET with WAIT_SETTLED (R68, R319) -/

/-- Is one VOA cell within ΔA_VOA of its target: measured where it is lit, by its set-point where it is not (log entry 16)? -/
def Dev.voaSettled (d : Dev) (n : Net) (t0 ca : Nat) : Bool :=
  let c := d.cell ca
  let t := d.tgt (if isInVoa ca then 0 else 1) (caIdx ca)
  match n.voaConn ca with
  | none => true
  | some k =>
    if isInVoa ca && k.dark == some (caPlane ca == 1) then true
    else if !lit n d ca then !c.settling && (if t = 511 then c.dark else !c.dark && c.aRef == tgtQ t)
    else match d.tickTaps ca t0 with
      | none => false
      | some (a, b) =>
        let m := attMeas a b
        if t = 511 then decide (dbm 40 ≤ m)
        else !c.dark && decide ((m * 256 - (d.attEff ca + tgtQ t - c.aRef)).natAbs ≤ 4194304)

/-- The waiting ATTEN_SETs go on: a VOA once within ΔA_VOA is waited for no more, and a newer target does not supersede the wait for it (log entry
112). Under blank, a command that names output VOAs, which are blanked, ends as BLANKED once its other entries are settled (R319). -/
def Dev.attTick (d : Dev) (n : Net) (t0 : Nat) : Dev :=
  let done := fun (k : Nat) => [0, 1].all (fun p => d.voaSettled n t0 (if k < 512 then inVoa p k else outVoa p (k - 512)))
  let js := d.jobs.att.map (fun (j : AttJob) =>
    if !j.applied then j
    else
      let left := j.left.filter (fun k => !done k)
      if d.blankOn && j.ents.any (fun e => decide (512 ≤ e.1)) && left.all (fun k => decide (512 ≤ k)) then
          { j with left := [], blanked := true } else { j with left := left })
  ({ d with jobs := { d.jobs with att := js } }).attFinish

/-! ## TICK -/

/-- HRAIL as the drivers measure it: FS18 below 4.70 V, the fatal FS11 below 4.00 V (R196, R324). -/
def Dev.railTick (d : Dev) (n : Net) (mv : Nat) : Dev :=
  if !d.drv.armed then d
  else
    let d := { d with drv := { d.drv with hrailMv := mv } }
    let d := if mv < 4700 then ({ d with drv := { d.drv with err := d.drv.err ||| 64 } }).condOn 18 0 else d.condOff 18 0
    if mv < 4000 then d.fatalOn n 11 0 else if (d.src 11).conds.isEmpty then d else d.fatalOff n 11 0

/-- The next reading of HRAIL is taken, if TICK has brought one (R196; log entry 124). -/
def Dev.railNext (d : Dev) (n : Net) : Dev :=
  match d.drv.rail with
  | [] => d
  | mv :: rest => ({ d with drv := { d.drv with rail := rest } }).railTick n mv

/-- Ring frames and twin links with errors (R112, R113, FS23, FS24). -/
def Dev.linkTick (d : Dev) (x : TickIn) (twin : List Nat) : Dev :=
  let d := x.ringErr.foldl (fun d p => if okLe p.1 then ((d.leErr p.1 3).count (8 * p.1 + 3)).once 23 (d.leScope p.1) else d) d
  let bad := (twin.filter (fun j => decide (j < 16))).flatMap (fun j => [152 + j, 320 + j])
  let d := ((d.src 24).conds.filter (fun tn => !bad.contains tn)).foldl (fun d tn => d.condOff 24 tn) d
  bad.foldl (fun d tn => (if d.served tn then d.leErr (d.serving tn) 4 else d).condOn 24 tn) d

/-- In Dusk step DK4 every heater ramps linearly to 0 over 8 ms from where it stood (R414). -/
def Dev.duskTick (d : Dev) : Dev :=
  if d.pwr.phase = .dusk ∧ 4 ≤ d.pwr.step then
    let left := 8000000 - (d.tb2 - d.pwr.stepAt)
    { d with fab := { d.fab with loops := d.fab.loops.mapVals {} (fun aa l =>
        if 2 ≤ aaKind aa then l
        else
          let u := divRound (l.manual * (left : Nat)) 8000000
          { l with u := u, drvPrev := l.drv, drv := powerCode u, drvNext := none }) } }
  else d

/-- The loops and the drivers of one tick; before the loops run, from D4, the drivers alone (R196, R197, R409). -/
def Dev.driveTick (d : Dev) (n : Net) (x : TickIn) : Dev × List (Nat × Bool × Bool × Bool) :=
  let (loops, evs) := d.loopsTick n x
  let d := ({ d with fab := { d.fab with loops := loops } }).duskTick
  ((d.countN 2968 (evs.filter (fun e => e.2.2.1)).length).satTick evs, evs)

/-- The loops, drivers, tiles, measurements and waits of one tick. -/
def Dev.tickBody (d : Dev) (n : Net) (x : TickIn) (twin : List Nat) (stream : List (Nat × List (Int × Int))) : Dev :=
  let d := stream.foldl (fun d p => if isSwitchCa p.1 && lit n d p.1 && n.swOf p.1 != .split then d.demodTake n x.t0 p.1 p.2 else d) d
  let d := (d.linkTick x twin).slewAll
  let d0 := d
  let (d, evs) := d.driveTick n x
  let d := d.measuredCells.foldl (fun d ca => d.cellTick n x ca) d
  let d := d.balAll n x.t0
  let d := { d with fab := { d.fab with les := d.fab.les.mapVals {} (fun _ l => { l with loadLast := 0, loadHeld := 0 }) } }
  let d := (List.range 336).foldl (fun d tn => (d.tileTick d0 tn).loadTick evs tn) d
  let d := (List.range 512).foldl (fun d i => d.inputTick n x.t0 i) d
  let d := d.fab.cells.keys.foldl Dev.longTick d
  (d.attTick n x.t0).pathFaults n

/-- The regular windows of this boundary that injected conversions displace are not run (R173, R185). -/
def Dev.displaceAll (d : Dev) : Dev :=
  let taken := fun (x : Inj) => x.go && x.triggered && !d.fastIn x.mpa d.tb2 1
  let mpas := ((d.mon.inj.map (·.2)).filter taken).map (·.mpa)
  let d := { d with mon := { d.mon with inj := d.mon.inj.mapVals {} (fun _ x => if taken x then { x with displaced := true } else x) } }
  mpas.eraseDups.foldl (fun d m =>
    ((d.invalid m d.tb2).modMrt m (fun x => { x with nAt := d.tb2 + 1, dispAt := d.tb2 + 1 })).count 2929) d

/-- Instantaneous power of a heater at a TB2 instant: its power code plus the dither term, none on a bound one; for the rest of a tick that
changed its range, with the heat restored that the change took (R196, R198, R205, R210). -/
def Dev.heaterPower (d : Dev) (aa t : Nat) : Int :=
  let l := d.loop aa
  let p := if (d.laneOf aa).isSome then codePower (d.drvAt aa t) else max 0 (codePower (l.drvAt t) + ditherAt l.ap (d.toneOf aa) t)
  let t0 := t / 10000 * 10000
  if l.rangeAt = t0 + 1 then restoredPower aa p (Config.rangeGap aa t0) else p
/-- The DAC code of a heater driver at a TB2 instant, and whether it is clamped (R196, R204): none while it is high-impedance, as it is for up to
40 ns where the range changes (R198). -/
def Dev.heaterCode (d : Dev) (aa t : Nat) : Option (Nat × Bool) :=
  let l := d.loop aa
  let t0 := t / 10000 * 10000
  if (d.cell (aaCell aa)).hzH || !d.drv.armed || (l.rangeAt == t0 + 1 && decide (t < t0 + min 40 (Config.rangeGap aa t0))) then none
  else some (dacCode (d.heaterPower aa t) (d.heaterOhms aa) d.drv.hrailMv l.high)
/-- The SCLK updates of the heater drivers since the last look, at most those of a fast period, are looked at for clamps (R196). -/
def Dev.clampScan (d : Dev) : Dev :=
  let a := max d.drv.satTo (d.tb2 - 1000)
  let ts := ((List.range 126).map (fun k => (a + 7) / 8 * 8 + 8 * k)).filter (fun t => decide (t < d.tb2))
  let hit := fun (aa : Nat) => ts.any (fun t => (d.heaterCode aa t).any (·.2))
  { d with drv := { d.drv with satTo := d.tb2 },
           fab := { d.fab with loops := d.fab.loops.mapVals {} (fun aa l => if aaKind aa < 2 && !l.clamped && hit aa then
               { l with clamped := true } else l) } }

/-- TICK (R108): once at each tick boundary. -/
def execTick (rail : List Nat) (stream : List (Nat × List (Int × Int))) (ringErr : List (Nat × Nat)) (twinErr : List Nat) (s : State) :
    Host.Outcome State Fault Refusal :=
  let d := s.d
  if d.tb2 % 10000 != 0 || decide (d.tb2 < 10000) || d.tim.tickDone == d.tb2 + 1 || !d.clocked then ignored s
  else
    let d := ({ d with tim := { d.tim with tickDone := d.tb2 + 1 } }).clampScan
    let d := d.latchPowers (d.tb2 - 10000)
    let x : TickIn := { t0 := d.tb2 - 10000, streamed := stream.map (·.1), ringErr := ringErr, ahead := [] }
    let s := State.sweepTick { s with d := d.calMeasure s.net x stream }
    let d := s.d
    let x := { x with ahead := d.lanesAhead s.mem (d.tb2 + 10000) 5000 [] }
    let d := if d.loopsOn then d.tickBody s.net x twinErr stream else if d.drv.armed then (d.driveTick s.net x).1 else d
    finish s ({ d with drv := { d.drv with rail := rail } }.displaceAll.calSetup s.net)

/-- DITHER_AMPLITUDE_CHANGE: at the zero crossing of the channel's NCO, which counts tone kHz per SCLK cycle from each TB2 millisecond
(R205, R208). -/
def execDitherAmplitudeChange (aa : Nat) (s : State) : Host.Outcome State Fault Refusal :=
  let l := s.d.loop aa
  let f := s.d.toneOf aa
  match l.amplNext with
  | some a =>
    if s.d.tb2 % 8 == 0 && decide (f * (s.d.tb2 % 1000000 / 8) % 62500 < f) && s.d.clocked then
      finish s (s.d.clampScan.modLoop aa (fun l => { l with
        amplNext := none
        dither := a != 0
        ampl := if a = 0 then l.ampl else a
        ap := s.d.ditherPower aa a }))
    else ignored s
  | none => ignored s

end Sys2Proof.Machine
end

