-- ==== Sys2Proof/Machine/Loops.lean ====
section
/-!
DEFINITION. The fast trims (R109, R149, R150, R152, R203), the end of settle windows and handovers (R150, R151), lock, regions, light and wraps
(R132, R144 to R146, R153, R154, R161), and the loop parameter table (R120 to R124, R128).
-/
namespace Sys2Proof.Machine

/-! ## Fast trims -/

/-- Do the fast trims of a tile run: after a failure they resume at T_n + 5 µs of the takeover or return (R116, R117)? -/
def Dev.trimsRun (d : Dev) (tn : Nat) : Bool := d.served tn && decide ((d.le tn).trimsFrom ≤ d.tb2)
/-- Is a cell on paths alone that verification cannot judge? Until its lock is decided it holds its calibrated set-point (R90). -/
def Dev.blind (d : Dev) (n : Net) (ca : Nat) : Bool :=
  (List.range 16).any (fun k => (d.slot k).locks.contains ca && (d.outsThrough n k ca).all (d.slot k).skip.contains)

/-- |e_F| of a one-path cell: asin(√m)/π (R149). -/
def Dev.trimMag (n : Net) (ca : Nat) (t : Taps) : Int :=
  let w := n.wantedTap ca
  asinSqrtPi (clampI (metric (if w = 0 then t.1 else t.2) (if w = 0 then t.2 else t.1)) 0 oneQ)

/-- One evaluation of F_trim of a cell from two taps, with the gain set of a region; two-path cells hold it at 0 (R149). -/
def Dev.trim (d : Dev) (n : Net) (ca region : Nat) (t : Taps) : Dev :=
  let c := d.cell ca
  let put := fun (d : Dev) (e : Int) =>
    let l := d.trimPid ca region e
    (d.modLoop (fAa ca) (fun _ => l)).modCell ca (fun c => { c with fTrim := l.u })
  if isVoaCa ca then
    let l := d.loop (fAa ca)
    let x := if c.dark then Config.lawUnstated 9 (attMeas t.1 t.2)
             else mulQ (mulQ halfTurn (satQ (c.sigma * (d.attEff ca - attMeas t.1 t.2 * 256)))) (perSlope (d.attEff ca))
    if l.preset ≠ 0 then d.modLoop (fAa ca) (fun l => { l with preset := 0 })
    else d.modCell ca (fun c => { c with fTrim := satQ (c.fTrim + x) })
  else if n.swOf ca = .split then put d (d.directError ca t).1
  else if n.pathsAt ca = 2 then d.modCell ca (fun c => { c with fTrim := 0 })
  else
    let m := Dev.trimMag n ca t
    let sgn := if 0 ≤ c.eF ∧ c.eF + 4096 < m then !c.sgn else c.sgn
    put (d.modCell ca (fun c => { c with sgn := sgn, eF := m })) (if sgn then m else -m)

/-- Lock in the settle window from fast results, for 5 consecutive periods (R146). -/
def Dev.fastLock (d : Dev) (n : Net) (ca : Nat) (t : Taps) (c : Cell) : Cell :=
  let run := fun (b : Bool) => { c with nFast := if b then min 5 (c.nFast + 1) else 0 }
  if isVoaCa ca then
    let m := attMeas t.1 t.2
    run (if d.dimmed ca then decide (dbm 40 ≤ m) else decide ((m * 256 - d.attEff ca).natAbs ≤ 1677721))
  else
    let k : Int := (contrast t.1 t.2).natAbs
    if n.swOf ca = .split then run (decide (k ≤ 335544))
    else if n.pathsAt ca = 2 then
      if c.nFast = 0 ∨ c.dFast ≤ (k - c.dFast).natAbs * 1000 then { c with nFast := 1, dFast := k } else { c with nFast := min 5 (c.nFast + 1) }
    else
      let w := n.wantedTap ca
      run (metricAtMost (if w = 0 then t.1 else t.2) (if w = 0 then t.2 else t.1) (-45))

/-- φ̂_th advanced by one fast period toward what the heater's command stands for (R149). -/
def Dev.thermal (d : Dev) (ca : Nat) (c : Cell) : Cell :=
  let p := codePower (d.drvOf (hpAa ca))
  { c with phiTh := satQ (c.phiTh + mulQ (d.decay ca) (mulQ p (d.perTurn ca) + d.bias ca - c.phiTh)) }

/-- The target of a roll ramp at an instant (R152). -/
def rampAt (r : Nat × Nat × Int × Int) (now : Nat) : Int :=
  let (t0, t1, p0, p1) := r
  if t1 ≤ now ∨ t1 ≤ t0 then p1 else p0 + (p1 - p0) * ((now - t0 : Nat) : Int) / ((t1 - t0 : Nat) : Int)

/-- The share left after handover decays with τ until its code is 0 (R151). -/
def Dev.decayed (d : Dev) (ca : Nat) (f : Int) : Int :=
  let x := f - mulQ (d.decay ca) f
  if d.fCode ca x = 0 then 0 else x

/-- A cell in WRAP leaves it when its heater has arrived (R154). -/
def Dev.leaveWrap (n : Net) (ca : Nat) (c : Cell) : Cell :=
  if c.wrapping ∧ (c.phiTgt - c.phiTh).natAbs < 65536 then
    { c with wrapping := false, region := if c.region = 6 then (if n.swOf ca = .split then 3 else 0) else c.region }
  else c

/-- What F's driver takes at the next fast period (R109, R149 to R152, R203). -/
def Dev.fOut (d : Dev) (ca : Nat) (c : Cell) : Int :=
  if d.blanked ca then c.blankCode
  else match c.ramp with
    | some r => clampI (rampAt r d.tb2 - c.phiTh + c.fTrim) (-maxF) maxF
    | none => if c.settling ∨ c.handover then clampI (c.phiTgt - c.phiTh + c.fTrim) (-maxF) maxF else d.decayed ca c.f

/-- R110 skips an evaluation of a cell's fast trim: HELD_CNT of its F, and LE_LOAD.HELD. -/
def Dev.skipTrim (d : Dev) (ca : Nat) : Dev :=
  (d.modLoop (fAa ca) (fun l => { l with held := satAdd l.held 1 16 })).modTile (tileOf ca) (fun t => { t with fastHeld := t.fastHeld + 1 })
/-- One cell in one fast period. A cell in its settle window or in handover uses its slot; where its result is missing, F keeps its last value
(R107, R110). -/
def Dev.cellFast (d : Dev) (n : Net) (ca : Nat) : Dev :=
  let tn := tileOf ca
  let d := d.modCell ca (fun c => { c with f := c.fDue.getD c.f, fDue := none, heldI := c.heldI.filter (fun h => decide (d.tb2 ≤ h.1)), wave := if c.fDue.isSome || !c.playing d.tb2 then none else c.wave })
  if !d.trimsRun tn || (d.cell ca).hzF || ((d.laneOf (fAa ca)).isSome && !d.blanked ca) then d
  else
    let c := d.cell ca
    let d := if c.settling || c.handover then d.modTile tn (fun t => { t with fastUsed := t.fastUsed + 1 }) else d
    let trims := c.settling && lit n d ca && !d.blanked ca && !d.blind n ca
    let taps := if trims then d.fastTaps ca else none
    let skip := trims && taps.isNone
    let d := match taps with
      | some t => (d.trim n ca (if isVoaCa ca then c.region else 4) t).modCell ca (d.fastLock n ca t)
      | none => if skip then d.skipTrim ca else d
    let d := d.modCell ca (fun c => Dev.leaveWrap n ca (d.thermal ca c))
    let f := d.fOut ca (d.cell ca)
    d.modCell ca (fun c => { c with fDue := if skip ∨ f = c.f then none else some f })

/-- In HANDOVER the trim of a cell is updated once per tick, from the normal-mode result with the HANDOVER gain set; during a roll ramp the ratio
loop holds (R150, R152). -/
def Dev.cellHandover (d : Dev) (n : Net) (ca : Nat) : Dev :=
  let c := d.cell ca
  if c.handover && c.ramp.isNone && lit n d ca && !d.blanked ca && d.trimsRun (tileOf ca) then
    match d.tickTaps ca (d.tb2 - 10000) with
    | some t => d.trim n ca (if isVoaCa ca then c.region else 5) t
    | none => d.skipTrim ca
  else d

/-- FAST_PERIOD (R109): once at each 1 µs boundary while the drivers are armed; the drivers measure HRAIL (R196). -/
def execFastPeriod (s : State) : Host.Outcome State Fault Refusal :=
  let d := s.d
  if d.tb2 % 1000 != 0 || d.tim.fastDone == d.tb2 + 1 || !d.clocked || !d.drv.armed then ignored s
  else
    let d := ({ d with tim := { d.tim with fastDone := d.tb2 + 1 } }).clampScan.railNext s.net
    let d := if d.tb2 % 10000 = 0 ∧ 10000 ≤ d.tb2 then d.fab.cells.keys.foldl (fun d ca => d.cellHandover s.net ca) d else d
    finish s (d.fab.cells.keys.foldl (fun d ca => d.cellFast s.net ca) d)

/-! ## Settle window and handover -/

/-- The slots that check a cell decide its lock; a cell on unjudged paths alone passes (R89 to R91). -/
def Dev.lockDecided (d : Dev) (n : Net) (ca : Nat) (ok : Bool) : Dev :=
  (List.range 16).foldl (fun d k =>
    if !(d.slot k).locks.contains ca then d
    else
      let d := d.modSlot k (fun s => { s with locks := s.locks.filter (· != ca) })
      let outs := (d.outsThrough n k ca).filter (fun o => !(d.slot k).skip.contains o)
      if ok || outs.isEmpty then d.advance n k
      else
        let d := d.lockFail n ca
        let d := d.modSlot k (fun s => { s with lockFails := ca :: s.lockFails,
                                                fails := outs.foldl (fun fs o => addFail fs o (planeBit (caPlane ca))) s.fails })
        d.advance n k) d

/-- A device plane restore has its input VOA's lock decided (R98). -/
def Dev.restoreLock (d : Dev) (n : Net) (ca : Nat) (ok : Bool) : Dev :=
  let rs := d.cmt.restoring.map (fun (r : Restore) =>
    if inVoa (b2n r.plane) r.inp = ca then { r with locked := true, failed := if ok then r.failed else r.failed ||| planeBit (b2n r.plane) } else r)
  if isInVoa ca then ({ d with cmt := { d.cmt with restoring := rs } }).restoreCheck n (caIdx ca) else d

/-- The slots that wait for a cell's settle window go on (R291). -/
def Dev.settled (d : Dev) (n : Net) (ca : Nat) : Dev :=
  (List.range 16).foldl (fun d k =>
    if (d.slot k).wait.contains ca then (d.modSlot k (fun s => { s with wait := s.wait.filter (· != ca) })).advance n k else d) d

/-- The verification windows of the slots that check a cell have closed, which at 4 µs they have before a lock fails (R91). -/
def Dev.windowsShut (d : Dev) (ca : Nat) : Bool := (List.range 16).all (fun k => !(d.slot k).locks.contains ca || (d.slot k).window)

/-- F_trim moves into the heater target; F's total is unchanged (R150). -/
def Cell.foldTrim (c : Cell) : Cell :=
  { c with
    phiTgt := c.phiTgt + c.fTrim
    fTrim := 0 }
/-- What moves out of F_trim leaves the integrator of the trim's PID, so that the next sample starts from a trim of 0 (R150; log entry 113). -/
def Loop.foldTrim (l : Loop) (sw : Bool) : Loop :=
  if sw then { l with
    integ := satQ (l.integ - l.u)
    u := 0
    v := satQ (l.v - l.u) }
  else l

/-- SETTLE_WINDOW_END (R149, R150, R171): at lock, or at Midnight + t_SET. -/
def execSettleWindowEnd (ca : Nat) (s : State) : Host.Outcome State Fault Refusal :=
  let c := s.d.cell ca
  if !c.settling || !(c.locked || (decide (c.settleEnd ≤ s.d.tb2) && s.d.windowsShut ca)) then ignored s
  else
    let ok := c.locked || !lit s.net s.d ca
    let d := s.d.modCell ca (fun c => { c.foldTrim with settling := false, settleEnd := s.d.tb2, handover := true, fast := false, fastOff := s.d.tb2, nFast := 0,
                                                        region := if isSwitchCa ca then 5 else c.region })
    let d := (d.modLoop (fAa ca) (Loop.foldTrim · (isSwitchCa ca))).ffStep ca
    finish s ((((d.lockDecided s.net ca ok).restoreLock s.net ca ok).settled s.net ca).releaseCheck)

/-- The region of a switch cell that is in no transition (R144, log entry 17). -/
def Dev.restRegion (n : Net) (ca : Nat) (c : Cell) : Nat := if n.swOf ca = .split then 3 else if c.locked then 2 else 0
/-- A cell in AUTO that falls to ACQUIRE moves to AUTO_3P3Z (R161). -/
def Loop.toAcquire (l : Loop) : Loop :=
  match l.prevMode with
  | some m => if m = 2 then { l with prevMode := some 5 } else l
  | none => if l.mode = 2 then { l with mode := 5, preset := 1 } else l
/-- At its lock declaration a cell in AUTO_3P3Z moves to AUTO (R161). -/
def Loop.toAuto (l : Loop) : Loop :=
  match l.prevMode with
  | some m => if m = 5 then { l with prevMode := some 2 } else l
  | none => if l.mode = 5 then { l with mode := 2, preset := 1 } else l

/-- HANDOVER_END (R150, R151): |F| below 0.011 turn. The lock loops of a switch cell with tones wait for their demodulator window; R151 names no
wait for the loops of VOA and SPLIT cells, which have none (log entry 114). -/
def execHandoverEnd (ca : Nat) (s : State) : Host.Outcome State Fault Refusal :=
  let c := s.d.cell ca
  if !c.handover || c.settling || decide (184549 < c.f.natAbs) then ignored s
  else
    let tones := isSwitchCa ca && s.net.swOf ca != .split
    let d := (s.d.modCell ca (fun c => { c.foldTrim with
      handover := false
      fWait := none
      region := if isSwitchCa ca then Dev.restRegion s.net ca c else c.region
      demodAt := if tones then some (s.d.tb2 + 1000000) else none
      demod := [] })).clearTrim ca
    let d := d.ffStep ca
    finish s (if isSwitchCa ca && lit s.net s.d ca && (d.cell ca).region == 0 then d.modHeaters ca Loop.toAcquire else d)

/-- DEMODULATOR_WINDOW_FULL: 1 ms after handover, or after a tone-plan change for every cell (R151, R207). -/
def execDemodulatorWindowFull (ca : Nat) (s : State) : Host.Outcome State Fault Refusal :=
  let now := s.d.tb2
  let d := if s.d.drv.demodAt ≤ now then { s.d with drv := { s.d.drv with demodAt := 0 } } else s.d
  finish s (d.modCell ca (fun c => match c.demodAt with
    | some t => if t ≤ now then { c with demodAt := none } else c
    | none => c))

/-! ## Lock, regions, light, wraps -/

/-- LOCK_DECLARED (R89, R145, R146, R161, R324, R329). -/
def execLockDeclared (ca : Nat) (s : State) : Host.Outcome State Fault Refusal :=
  let c := s.d.cell ca
  let plain := isSwitchCa ca && s.net.swOf ca != .split
  let met := if c.settling then c.nFast == 5 else !c.handover && c.nLock == 10 && (!plain || c.region == 1)
  if c.locked || !lit s.net s.d ca || !met then ignored s
  else
    let d := s.d.modCell ca (fun c => { c with locked := true, nLoss := 0, region := if plain && !c.settling then 2 else c.region })
    let d := (d.count (8 * d.serving (tileOf ca) + 4)).modHeaters ca Loop.toAuto
    let d := d.condOff 28 ca
    let d := if c.settling then d.lockDecided s.net ca true else d
    finish s ((d.relockCheck s.net).blankSync s.net)

/-- LOCK_LOST: FS28 of a lit cell (R145, R146, R324, R338). -/
def execLockLost (ca : Nat) (s : State) : Host.Outcome State Fault Refusal :=
  let c := s.d.cell ca
  if !c.locked || !lit s.net s.d ca || c.settling || c.handover || c.nLoss != 10 then ignored s
  else
    let d := s.d.modCell ca (fun c => { c with locked := false, nLoss := 0, nLock := 0, region := unlockedRegion (isSwitchCa ca) c.region })
    finish s (((d.count (8 * d.serving (tileOf ca) + 5)).setTileLeaf 0x140 (tileOf ca)).condOn 28 ca)

/-- REGION_CHANGE: ACQUIRE to NEAR, or NEAR to ACQUIRE with AUTO to AUTO_3P3Z (R145, R161). -/
def execRegionChange (ca : Nat) (s : State) : Host.Outcome State Fault Refusal :=
  let c := s.d.cell ca
  if !isSwitchCa ca || !lit s.net s.d ca || c.settling || c.handover || s.net.swOf ca == .split || decide (c.nMove < 3) then ignored s
  else if c.region = 0 then finish s (s.d.modCell ca (fun c => { c with region := 1, nMove := 0, nLock := 0 }))
  else if c.region = 1 then finish s ((s.d.modCell ca (fun c => { c with region := 0, nMove := 0 })).modHeaters ca Loop.toAcquire)
  else ignored s

/-- CELL_UNLIT: below −40 dBm for 3 ticks (R132). -/
def execCellUnlit (ca : Nat) (s : State) : Host.Outcome State Fault Refusal :=
  let c := s.d.cell ca
  if !c.power || decide (c.nDark < 3) then ignored s
  else finish s (s.d.modCell ca (fun c => { c with power := false, locked := false, region := unlockedRegion (isSwitchCa ca) c.region,
                                                   nLock := 0, nLoss := 0, nMove := 0 }))

/-- CELL_LIT: above −37 dBm for 3 ticks, while the cell carries a path; an input VOA cell by its power alone (R132). -/
def execCellLit (ca : Nat) (s : State) : Host.Outcome State Fault Refusal :=
  let c := s.d.cell ca
  if c.power || decide (c.nLit < 3) || !(isInVoa ca || s.net.used ca) then ignored s
  else finish s (s.d.modCell ca (fun c => c.relit (isSwitchCa ca) false))

/-- WRAP_TAKEN: an unlit cell with a pending wrap steps its heater target by one turn (R154). -/
def execWrapTaken (ca : Nat) (s : State) : Host.Outcome State Fault Refusal :=
  let c := s.d.cell ca
  let l := s.d.loop (hpAa ca)
  if !l.wrapPending || lit s.net s.d ca || c.settling || c.handover || c.wrapping || s.d.tileHeld (tileOf ca) then ignored s
  else
    let step := if l.u * 2 < wLo then oneTurn else -oneTurn
    let d := s.d.modCell ca (fun c => { c with phiTgt := c.phiTgt + step, wrapping := true, region := if isSwitchCa ca then 6 else c.region })
    finish s (((d.modLoop (hpAa ca) (fun l => { l with wrapPending := false })).ffStep ca).count (8 * d.serving (tileOf ca) + 7))

/-! ## Loop parameter table (R120, R121) -/

/-- A phase as 0.32 turn. -/
def turn32 (x : Int) : Nat := (x % oneTurn).toNat * 256
/-- The F code in force with its polarity in [10] (R120, R199). -/
def Dev.fWord (d : Dev) (ca : Nat) : Nat :=
  let x := d.codeNow ca
  clampN x.natAbs 0 1023 + (if x < 0 then 1024 else 0)

/-- The RO fields of an LPT entry, word by word, as they stand now. -/
def Dev.lptNow (d : Dev) (n : Net) (aa : Nat) : List Nat :=
  let ca := aaCell aa
  let k := aaKind aa
  let l := d.selected aa d.tb2
  let c := d.cell ca
  let heat := decide (k < 2)
  let w0 := pack [(if heat then l.mode else 0, 0), (c.region, 3), (b2n (d.lockBit n ca), 6), (b2n (heat && l.limited), 7), (if heat then
      l.winner else 0, 8),
    (b2n (k == 0 && l.wrapPending), 10), (b2n l.sat, 11)]
  let nb := fun (j : Nat) => if heat then pack [(Config.neighbour aa j, 0), (twos (d.kappa aa j) 15, 17)] else 0
  let tone := if heat && isSwitchCa ca then pack [((hpTone ca + k) % 32, 0), (l.ampl, 8), (b2n l.dither, 16)] else 0
  [w0, if k = 1 then 0 else turn32 c.phiTgt, 0, 0, nb 0, nb 1, nb 2, nb 3, nb 4, nb 5,
   twos (if k = 2 && isVoaCa ca then c.fTrim else l.integ) 32, if heat then d.drvOf aa else d.fWord ca, tone,
   if k = 0 then (d.cellCoeff ca 3).toNat else 0, if k = 0 then turn32 c.phiTh else if k = 2 then turn32 c.f else 0, l.held + l.satCnt * 65536]

/-- LPT_WRITE_BACK: in the tick whose number modulo 10 equals TN modulo 10, the RO words of the tile's entries (R121). -/
def execLptWriteBack (tn : Nat) (s : State) : Host.Outcome State Fault Refusal :=
  let d := s.d
  if !okTile tn || d.tb2 / 10000 % 10 != tn % 10 || !d.clocked || !d.served tn || !d.loopsOn then ignored s
  else
    let aas := (tileCells tn).flatMap (fun ca => heatersOf ca ++ [fAa ca])
    finish s (aas.foldl (fun d aa => (d.modLoop aa (fun l => { l with wb := s.d.lptNow s.net aa })).bus 8 true 0 (0x100000 + 64 * aa) 64) d)

/-- Writes to element tables are dropped in PARKED (R415). -/
def Dev.tablesOpen (d : Dev) : Bool := d.pwr.phase != .parked

/-- RW fields of LPT words 2 and 3 that apply to an actuator, as a write leaves them; none where it is ignored (R120). -/
def lptField (aa w v : Nat) : Option Nat :=
  if aaHole aa || aaKind aa == 2 then none
  else if w = 2 then some (v % 65536 + (if aaKind aa = 0 && isVoaCa (aaCell aa) then v / 65536 % 65536 * 65536 else 0))
  else if w = 3 then some (min (v % 65536) (if aaKind aa = 0 then 24000 else 6000))
  else none

/-- LE_TILE of a tile LE is written (R124, R128). -/
def Dev.leTileWrite (d : Dev) (k v : Nat) : Dev :=
  if k < 336 then { d with fab := { d.fab with loads := d.fab.loads ++ [(d.tb2, .tile k v)] } } else d

/-- One word of a write to the LPT or GST, by BAR2 offset, or to LE_TILE, by its BAR0 offset (R120, R122, R124). -/
def Dev.loopWordWrite (d : Dev) (addr v : Nat) : Dev :=
  if 0x100000 ≤ addr ∧ addr < 0x900000 then
    let aa := (addr - 0x100000) / 64
    let w := addr % 64 / 4
    match lptField aa w v with
    | some x =>
      { d with fab := { d.fab with loads := d.fab.loads ++ [(d.tb2, .lpt aa w x)], lptW := d.fab.lptW.set none (16 * aa + w) (some x) } }
    | none => d
  else if 0xA10000 ≤ addr ∧ addr < 0xA64000 then
    let i := (addr - 0xA10000) / 4
    if i % 16 < 14 then { d with fab := { d.fab with loads := d.fab.loads ++ [(d.tb2, .gst i v)] } } else d
  else if 0x40008 ≤ addr ∧ addr < 0x56000 ∧ addr % 256 = 8 then d.leTileWrite ((addr - 0x40000) / 256) v
  else d

/-- FS71: an LPT entry that PF0 rewrites whole is good again, and its tile's loops go on (R324). -/
def Dev.rewritten (d : Dev) (addr : Nat) (words : Nat) : Dev :=
  let first := (addr + 63) / 64
  (List.range ((addr + 4 * words) / 64 - first)).foldl (fun d k =>
    let e := 64 * (first + k)
    if 0x100000 ≤ e ∧ e < 0x900000 then
      let tn := tileOf (aaCell ((e - 0x100000) / 64))
      if (d.tile tn).holdErr && !aaHole ((e - 0x100000) / 64) then (d.modTile tn (fun t => { t with holdErr := false })).condOff 71 tn else d
    else d) d

/-- A write to the loop tables by a function: PF0's alone take effect (R124). -/
def Dev.loopTableWrite (d : Dev) (f addr : Nat) (data : List Word) : Dev :=
  if f ≠ 0 ∨ addr % 4 ≠ 0 ∨ !d.tablesOpen then d
  else ((List.range data.length).foldl (fun d k => d.loopWordWrite (addr + 4 * k) (data.getD k 0).toNat) d).rewritten addr data.length

def execLptWrite (fn addr : Nat) (data : List Word) (s : State) : Host.Outcome State Fault Refusal :=
  hostWrBar s fn (if addr < 0x100000 then 0 else 2) addr (4 * data.length) (fun d => d.loopTableWrite fn addr data)

/-- The serving LE takes a written word into use (R124). -/
def Dev.takeLoad (d : Dev) (x : Load) : Dev :=
  match x with
  | .lpt aa w v =>
    let d := { d with fab := { d.fab with lptW := d.fab.lptW.set none (16 * aa + w) none } }
    d.modLoop aa (fun l => if w = 2 then { l with slewPh := v % 65536, slewDb := if isVoaCa (aaCell aa) then v / 65536 else l.slewDb }
                           else { l with ceil := if v = (if aaKind aa = 0 then 16000 else 4000) then none else some v })
  | .gst i v =>
    let q := signedOf v 32
    { d with fab := { d.fab with gst := d.fab.gst.set none i (some q) } }
  | .tile k v => d.modLe k (fun l => { l with tileMap := v })

/-- PARAMETER_LOAD: at a tick boundary, every word written at least 1 µs before (R124). -/
def execParameterLoad (s : State) : Host.Outcome State Fault Refusal :=
  let d := s.d
  let due := d.fab.loads.filter (fun p => decide (p.1 + 1000 ≤ d.tb2))
  if d.tb2 % 10000 != 0 || due.isEmpty || !d.clocked then ignored s
  else
    let d := { d with fab := { d.fab with loads := d.fab.loads.filter (fun p => !decide (p.1 + 1000 ≤ d.tb2)) } }
    finish s (due.foldl (fun d p => d.takeLoad p.2) d)

end Sys2Proof.Machine
end

