-- ==== Sys2Proof/Machine/Commands.lean ====
section
/-!
DEFINITION. The commands of I/O queues other than CAL_RUN (R40, R48 step 1, R65 to R71, R163, R164, R220, R277 to R279), and the ticks at
which the targets of ATTEN_SET and the entries of LOOP_MODE are applied.
-/
namespace Sys2Proof.Machine

/-! ## Which command of a queue executes -/

/-- May the command behind these execute? A batch does once each of them has executed, and no FENCE among them is open; any other command once
each has taken effect and no STOP_ON_FAIL one is open (OP1, R277, R298, R302). -/
def mayExecute (batch : Bool) (before : List Cmd) : Bool :=
  before.all (fun c => c.executed && (if batch then sqeOp c.sqe != 3 || c.effect else c.effect && !sqeStop c.sqe))

/-- The queue's first command that has not executed, if it has this opcode and may execute; a queue that is being flushed executes none
(R304). -/
def Dev.ready (d : Dev) (q op : Nat) : Option Cmd :=
  let x := d.queue q
  if x.state == .none || x.flushTo.isSome then none
  else match x.front with
    | some c =>
      if sqeOp c.sqe = op ∧ mayExecute (op == 1 || op == 7) (x.cmds.takeWhile (fun y => y.idx != c.idx)) then some c else none
    | none => none

/-- Execute the front command of a queue. -/
def onFront (s : State) (q op : Nat) (f : Cmd → Host.Outcome State Fault Refusal) : Host.Outcome State Fault Refusal :=
  match s.d.ready q op with
  | some c => f c
  | none => ignored s

/-- Mark a command executed. -/
def Dev.setExecuted (d : Dev) (q idx : Nat) (effect : Bool) : Dev :=
  d.modQueue q (fun x => x.modCmd idx (fun c => { c with executed := true, effect := effect }))

/-! ## CONNECT_BATCH, CELL_DIRECT: R48 step 1 -/

/-- The field checks of a batch for a domain. -/
def batchFieldsOk (s : Sqe) (dom : Nat) : Bool := listFieldsOk s && (sqeOp s == 1 || dom == 0)

/-- A batch executes: malformed at once, or it waits for the route engine (R38, R40, R71). -/
def Dev.runBatch (d : Dev) (q : Nat) (c : Cmd) : Dev :=
  if batchFieldsOk c.sqe (d.queue q).domain then d.setExecuted q c.idx false else d.complete q c.idx (baseComp (sqeOp c.sqe) stMalformed)

def execConnectBatch (q : Nat) (s : State) : Host.Outcome State Fault Refusal := onFront s q 1 (fun c => finish s (s.d.runBatch q c))
def execCellDirect (q : Nat) (s : State) : Host.Outcome State Fault Refusal := onFront s q 7 (fun c => finish s (s.d.runBatch q c))

/-! ## ATTEN_SET (R65 to R68) -/

/-- The first entry that fails: its index and status (R48 step 2). -/
def attCheck (d : Dev) (dom : Nat) : Nat → List AttEnt → Option (Nat × Nat)
  | _, [] => none
  | i, e :: es =>
    if !e.ok then some (i, stMalformed)
    else if dom != 0 && d.owner e.side e.port != dom then some (i, stNotOwned)
    else attCheck d dom (i + 1) es

/-- ATTEN_SET executes: every entry is checked before any is applied. -/
def Dev.runAttenSet (d : Dev) (q : Nat) (c : Cmd) : Dev :=
  if !listFieldsOk c.sqe then d.complete q c.idx (baseComp 2 stMalformed)
  else
    let es := c.payload.map attEnt
    match attCheck d (d.queue q).domain 0 es with
    | some (i, st) => d.complete q c.idx (failComp false st i 0 0 0 0)
    | none =>
      let j : AttJob := { q := q, idx := c.idx, ents := es.map (fun e => (e.side * 512 + e.port, e.att)), wait := bitOf (sqeFlags c.sqe) 0, at2 := d.tb2 }
      let d := d.setExecuted q c.idx false
      { d with jobs := { d.jobs with att := d.jobs.att ++ [j] } }

def execAttenSet (q : Nat) (s : State) : Host.Outcome State Fault Refusal := onFront s q 2 (fun c => finish s (s.d.runAttenSet q c))

/-- A new target reaches one VOA cell: of a free port, or of a plane held DARK by a device plane commit, it stays DARK (R67, R97); else it
goes to DARK over 25 dB, leaves DARK to 25 dB, or slews (R156). -/
def Dev.attCell (d : Dev) (n : Net) (t ca : Nat) : Dev :=
  match n.voaConn ca with
  | none => d
  | some k =>
    let c := d.cell ca
    if isInVoa ca && k.dark == some (caPlane ca == 1) then d
    else if t = 511 then (if c.dark then d else d.modCell ca (fun c => { c with toDark := true }))
    else if c.dark then d.stepVoa ca false db25
    else d.modCell ca (fun c => { c with toDark := false })

/-- One entry is applied to both twin VOA cells (R66). -/
def Dev.attEntry (d : Dev) (n : Net) (e : Nat × Nat) : Dev :=
  let port := e.1 % 512
  let d := d.setTgt (e.1 / 512) port e.2
  (if e.1 < 512 then [inVoa 0 port, inVoa 1 port] else [outVoa 0 port, outVoa 1 port]).foldl (fun d ca => d.attCell n e.2 ca) d

/-- The targets of one ATTEN_SET are applied: earlier ones are superseded, and without WAIT_SETTLED it completes (R66, R68). -/
def Dev.attApply (d : Dev) (n : Net) (j : AttJob) : Dev :=
  let keys := j.ents.map (·.1)
  let d := d.supersede keys
  let d := j.ents.foldl (fun d e => d.attEntry n e) d
  let j' : AttJob := { j with applied := true, left := if j.wait then keys.eraseDups else [] }
  let d := d.modQueue j.q (fun x => x.modCmd j.idx (fun c => { c with effect := true }))
  let d := { d with jobs := { d.jobs with att := d.jobs.att.map (fun (k : AttJob) => if k.q = j.q ∧ k.idx = j.idx then j' else k) } }
  d.attFinish

/-- ATTEN_TARGET_APPLY: at the first sampling tick after the command executed (R66). -/
def execAttenTargetApply (s : State) : Host.Outcome State Fault Refusal :=
  let d := s.d
  let due := d.jobs.att.filter (fun j => !j.applied && decide (j.at2 < d.tb2))
  if d.tb2 % 10000 != 0 || due.isEmpty || !d.clocked then ignored s else finish s (due.foldl (fun d j => d.attApply s.net j) d)

/-! ## LOOP_MODE (R163, R164) -/

/-- The mode LOOP_MODE sees: a fatal fault's HOLD covers it (R319). -/
def Loop.ownMode (l : Loop) : Nat := if l.mode = 4 then 4 else l.prevMode.getD l.mode
/-- The connection that uses a lit cell: the lowest output, or none. -/
def Net.userOf (n : Net) (ca : Nat) : Nat × Nat :=
  if isVoaCa ca then (match n.voaConn ca with
    | some c => (c.inp, if isOutVoa ca then caIdx ca else c.out)
    | none => (0, 0))
  else match (lightPaths n.conns).filter (fun p => (traceWith n.swOf p.1 p.2).any (fun t => t.1 == planeACa ca)) with
    | p :: ps => ps.foldl (fun a b => if b.2 < a.2 then b else a) p
    | [] => (0, 0)

/-- What refuses an entry: every entry is checked against the state before any is applied (R164). -/
def loopCheck1 (n : Net) (d : Dev) (dom i : Nat) (e : LoopEnt) : Option Comp :=
  let fail := fun st kind (p : Nat × Nat) ca => some (failComp false st i kind p.1 p.2 ca)
  let bad := e.rsv != 0 || decide (24000 < e.code)
  if e.op = 3 then
    if bad || decide (512 ≤ e.aa) then fail stMalformed 0 (0, 0) 0
    else if dom != 0 && d.owner 1 e.out != dom then fail stNotOwned 0 (0, 0) 0
    else none
  else if (e.op != 1 && e.op != 2) || bad || aaHole e.aa || decide (2 ≤ aaKind e.aa) then fail stMalformed 0 (0, 0) 0
  else if e.op == 1 && (e.mode == 4 || decide (5 < e.mode)) then fail stMalformed 0 (0, 0) 0
  else if dom != 0 then fail stMalformed 0 (0, 0) 0
  else
    if e.op == 2 && e.aas.any (fun aa => (d.loop aa).ownMode != 1) then fail stMalformed 0 (0, 0) 0
    else match (if e.op = 1 ∧ e.mode = 0 then e.aas.find? (fun aa => lit n d (aaCell aa)) else none) with
      | some aa => fail stBlocked 1 (n.userOf (aaCell aa)) 0
      | none => match e.aas.find? (fun aa => (d.cell (aaCell aa)).cal) with
        | some aa => fail stTile 5 (0, 0) (aaCell aa)
        | none => none

/-- Every entry of a LOOP_MODE. -/
def loopCheck (n : Net) (d : Dev) (dom : Nat) : Nat → List LoopEnt → Option Comp
  | _, [] => none
  | i, e :: es => (loopCheck1 n d dom i e).orElse (fun _ => loopCheck n d dom (i + 1) es)

/-- LOOP_MODE executes. -/
def Dev.runLoopMode (d : Dev) (n : Net) (q : Nat) (c : Cmd) : Dev :=
  if !listFieldsOk c.sqe then d.complete q c.idx (baseComp 8 stMalformed)
  else match loopCheck n d (d.queue q).domain 0 (c.payload.map loopEnt) with
    | some x => d.complete q c.idx x
    | none =>
      let j : LmJob := { q := q, idx := c.idx, ents := c.payload, at2 := d.tb2 }
      let d := d.setExecuted q c.idx false
      { d with jobs := { d.jobs with lm := d.jobs.lm ++ [j] } }

def execLoopMode (q : Nat) (s : State) : Host.Outcome State Fault Refusal := onFront s q 8 (fun c => finish s (s.d.runLoopMode s.net q c))

/-- A change of mode with its preset (R160, R162); under a fatal fault's HOLD it waits for the recovery (R319). -/
def Loop.setMode (l : Loop) (m : Nat) (keep : Bool) (code : Nat) : Loop :=
  let old := l.ownMode
  let l := if m = 1 then { l with manual := if old = 1 then l.manual else l.u, code := if keep then l.u else uw code } else l
  let l := if (m = 2 ∨ m = 5) ∧ old ≠ m then { l with preset := if old = 0 then 2 else 1 } else l
  if l.prevMode.isSome then { l with prevMode := some m } else { l with mode := m }

/-- One entry is applied (R159, R160). -/
def Dev.loopEntry (d : Dev) (e : LoopEnt) : Dev :=
  if e.op = 1 then e.aas.foldl (fun d aa => d.modLoop aa (fun l => l.setMode e.mode e.flag e.code)) d
  else if e.op = 2 then e.aas.foldl (fun d aa => d.modLoop aa (fun l => { l with code := uw e.code })) d
  else
    let off := d.fab.balOff.filter (· != e.out)
    let d := { d with fab := { d.fab with balOff := if e.flag then off else e.out :: off } }
    if e.flag then d else d.balDisable e.out

/-- LOOP_MODE_APPLY: at the first tick boundary at least 1 µs after the command executed, all its entries at once (R164). -/
def execLoopModeApply (s : State) : Host.Outcome State Fault Refusal :=
  let d := s.d
  let due := d.jobs.lm.filter (fun j => decide (j.at2 + 1000 ≤ d.tb2))
  if d.tb2 % 10000 != 0 || due.isEmpty || !d.clocked then ignored s
  else
    let d := { d with jobs := { d.jobs with lm := d.jobs.lm.filter (fun j => !decide (j.at2 + 1000 ≤ d.tb2)) } }
    let d := (due.flatMap (fun j => (j.ents.map loopEnt).flatMap (·.aas))).foldl Dev.calTouch d
    finish s (due.foldl (fun d j => ((j.ents.map loopEnt).foldl Dev.loopEntry d).complete j.q j.idx (baseComp 8 stOk)) d)

/-! ## FENCE, QUERY_CONN, NOP -/

/-- The queues of a FENCE's scope (R277). -/
def Dev.fenceQueues (d : Dev) (q scope : Nat) : List Nat :=
  if scope = 0 then [q]
  else (List.range 64).filter (fun k => (d.queue k).state != .none && (scope == 2 || (d.queue k).domain == (d.queue q).domain))

/-- FENCE executes once every command that executed before it in its scope has completed, and completes (R277). -/
def execFence (q : Nat) (s : State) : Host.Outcome State Fault Refusal :=
  onFront s q 3 (fun c =>
    let d := s.d
    let scope := sqeField c.sqe 8 1
    if !sqeClean c.sqe || decide (2 < scope) || (scope == 2 && (d.queue q).domain != 0) then finish s (d.complete q c.idx (baseComp 3 stMalformed))
    else if (d.fenceQueues q scope).any (fun k => (d.queue k).cmds.any (fun x => x.executed)) then ignored s
    else finish s (d.complete q c.idx { esn := d.cmt.esn }))

/-- Is an output one of a roll not released (R39)? -/
def Dev.rolling (d : Dev) (i : Nat) : Bool := (List.range 16).any (fun k => (d.slot k).rolls.any (fun r => r.1 == i))

/-- The four words of the CXT entry of port p (R39). -/
def Dev.cxtWord (d : Dev) (n : Net) (p w : Nat) : Nat :=
  if w = 0 then
    let own := [(d.owner 1 p, 16), (d.owner 0 p, 20)]
    match n.ofOut p with
    | none => pack own
    | some c => pack ([(c.inp, 0), (1, 9), (b2n c.pinned, 10), (b2n c.isBridge, 11), (b2n (d.rolling c.inp), 12)] ++ own)
  else if w = 1 then
    match n.ofIn p with
    | none => 0
    | some c => pack [(c.out, 0), (1, 9), (b2n c.isBridge, 10), (c.out2.getD 0, 16)]
  else
    let e := n.esnOut.get 0 p
    if w = 2 then e % 2 ^ 32 else e / 2 ^ 32

/-- A word as a domain's QUERY_CONN shows it: zeroed where it describes a port that it does not own, the owners apart (R70). -/
def Dev.queryWord (d : Dev) (n : Net) (dom p w : Nat) : Nat :=
  let v := d.cxtWord n p w
  let mine := fun side => dom == 0 || d.owner side p == dom
  if w = 0 then (if mine 1 then v else v / 2 ^ 16 * 2 ^ 16) else if w = 1 then (if mine 0 then v else 0) else if mine 1 then v else 0

/-- QUERY_CONN (R69, R70): the records, then the completion. -/
def execQueryConn (q : Nat) (s : State) : Host.Outcome State Fault Refusal :=
  onFront s q 4 (fun c =>
    let d := s.d
    if !queryFieldsOk c.sqe then finish s (d.complete q c.idx (baseComp 4 stMalformed))
    else
      let cnt := sqeField c.sqe 18 2
      let data := (List.range cnt).flatMap (fun k => (List.range 4).flatMap (fun w =>
        bytesLE (d.queryWord s.net (d.queue q).domain (sqeField c.sqe 16 2 + k) w) 4))
      let d := d.toHost (sqeAddr c.sqe) data.length (.hostBulk (sqeAddr c.sqe) data)
      finish s (d.complete q c.idx { esn := d.cmt.esn, dw2 := cnt }))

/-- NOP (R279). -/
def execNop (q : Nat) (s : State) : Host.Outcome State Fault Refusal :=
  onFront s q 0x0A (fun c => finish s (s.d.complete q c.idx (baseComp 0x0A (if sqeClean c.sqe then stOk else stMalformed))))

/-! ## SNAPSHOT, SEQ_LOAD -/

/-- SNAPSHOT executes and waits for its instant (R278). -/
def Dev.runSnapshot (d : Dev) (q : Nat) (c : Cmd) : Dev :=
  let dom := (d.queue q).domain
  if !snapFieldsOk c.sqe dom then d.complete q c.idx (baseComp 6 stMalformed)
  else
    let j : SnapJob := { q := q, idx := c.idx, addr := sqeAddr c.sqe, len := sqeField c.sqe 16 4, trig := sqeField c.sqe 20 1,
                         time := sqeField c.sqe 24 8, dom := dom, at2 := d.tb2 }
    let d := d.setExecuted q c.idx false
    { d with jobs := { d.jobs with snap := d.jobs.snap ++ [j] } }

def execSnapshot (q : Nat) (s : State) : Host.Outcome State Fault Refusal := onFront s q 6 (fun c => finish s (s.d.runSnapshot q c))

/-! ## SEQ_LOAD (R220) -/

/-- SEQ_LOAD's field checks for a domain. -/
def loadFieldsOk (q : Seq) (s : Sqe) (dom : Nat) : Bool :=
  sqeClean s && dom == 0 && sqeAddr s % 8 == 0 && decide (sqeField s 16 1 < 64) && decide (1 ≤ sqeField s 24 4) &&
  decide (sqeField s 20 4 + sqeField s 24 4 ≤ (q.desc (sqeField s 16 1)).len + 1)

/-- SEQ_LOAD begins, or it is refused; a write to an active segment is dropped (R213, R220). -/
def Dev.beginLoad (d : Dev) (q : Nat) (c : Cmd) : Dev :=
  let g := sqeField c.sqe 16 1
  let first := (d.seq.desc g).base + sqeField c.sqe 20 4
  if !loadFieldsOk d.seq c.sqe (d.queue q).domain then d.complete q c.idx (baseComp 9 stMalformed)
  else if d.segActive g then (d.droppedWrite (0x400000 + first)).complete q c.idx (baseComp 9 stBlocked)
  else if (d.seq.desc g).refill && d.seq.rfEn then d.complete q c.idx (baseComp 9 stBlocked)
  else
    let x : SegLoad := { q := q, idx := c.idx, seg := g, first := first }
    { d.setExecuted q c.idx false with seq := { d.seq with loads := d.seq.loads ++ [x] } }

/-- A copy goes on by at most n samples. It takes effect with the first of them (R297), and ends with the last of the samples that came. -/
def State.copyLoad (s : State) (x : SegLoad) (c : Cmd) (n : Nat) : State :=
  let new := (c.payload.drop x.pos).take n
  let r := patternPut false s.mem s.d (8 * (x.first + x.pos)) (new.flatMap (fun w => bytesLE w.toNat 8))
  let y := { x with pos := x.pos + new.length }
  let d := if 0 < y.pos then r.2.setExecuted x.q x.idx true else r.2
  let others := d.seq.loads.filter (fun z => z != x)
  let d := if y.pos < c.payload.length then { d with seq := { d.seq with loads := others ++ [y] } }
           else ({ d with seq := { d.seq with loads := others, readyAt := d.tb2 } }).complete x.q x.idx (baseComp 9 (if c.short then stFetch else
               stOk))
  { s with mem := r.1, d := d }

/-- The copy of a queue that runs, the oldest first, with its command. -/
def Dev.loading (d : Dev) (q : Nat) : Option (SegLoad × Cmd) :=
  match d.seq.loads.find? (fun x => x.q == q) with
  | none => none
  | some x => ((d.queue q).cmds.find? (fun c => c.idx == x.idx)).map (fun c => (x, c))

/-- SEQ_LOAD: the running copy of a queue goes on by n samples; else its next command begins, and copies n. -/
def execSeqLoad (part : LoadPart) (s : State) : Host.Outcome State Fault Refusal :=
  let q := part.q
  let go := fun (s : State) => match s.d.loading q with
    | some (x, c) =>
      let t := s.copyLoad x c part.n
      .next { t with d := t.d.notify }
    | none => finish s s.d
  if (s.d.loading q).isSome then go s else onFront s q 9 (fun c => go { s with d := s.d.beginLoad q c })

end Sys2Proof.Machine
end

