-- ==== Sys2Proof/Machine/Monitor.lean ====
section
/-!
DEFINITION. Monitor lanes and fast lanes: results and their correction (R166 to R177), window comparators (R178 to R183), injected
conversions (R184 to R186), claimed captures (R187 to R192).
-/
namespace Sys2Proof.Machine

/-! ## Correction (R176) -/

/-- −80 dBm, the floor of a result. -/
def floorDbm : Int := -5242880
/-- Full-scale photocurrent of a range in units of 10 nA (R165). -/
def fsOf (rng : Nat) : Nat := if rng = 0 then 1 else if rng = 1 then 500 else 250000
/-- Corrected linear power as a fraction of mW: num / den, for a 16-bit code in units of 2^-15; den is 0 where a coefficient is 0. -/
def corrected (co : List Int) (rng : Nat) (c15 : Int) : Int × Nat :=
  let get := fun (k : Nat) => co.getD k 0
  ((c15 - get rng * 32768) * get (5 + rng) * 2 * (fsOf rng : Nat), (get 3 * get 4 * 100000).toNat)
/-- The MRT VALUE of a corrected power (R176). Where a coefficient by which it divides is 0 the spec states none (log entry 5). -/
def dbValue (p : Int × Nat) : Int :=
  if p.2 = 0 then clampI (Config.lawUnstated 9 p.1) floorDbm 8388607
  else if p.1 * 100000000 ≤ (p.2 : Int) then floorDbm else clampI (dbOf p.1.toNat p.2) floorDbm 8388607
/-- The correction coefficients of a tap now in force: DARK, RESP, K_TAP, G. -/
def Dev.coeffs (d : Dev) (mpa : Nat) : List Int := (List.range 8).map (d.monCoeff mpa)
/-- VALUE of a 16-bit code. -/
def codeValue (co : List Int) (rng code : Nat) : Int := dbValue (corrected co rng ((code : Int) * 32768))

/-! ## Ranges (R166) -/

/-- The range a fast lane freezes a tap in. -/
def Dev.frozen (d : Dev) (mpa : Nat) : Option Nat :=
  ((List.range 128).find? (fun l => (d.fl l).att == some mpa && (d.fl l).state != .free)).map (fun l => (d.fl l).range)
/-- The range for the next window, and the count of low results: from the result's code (16 bits) and clip. -/
def Dev.nextRange (d : Dev) (mpa code : Nat) (clip bad : Bool) (m : Mrt) : Nat × Nat :=
  let rng := (d.met mpa).rng
  let low := if 0 < m.range ∧ code * 1000 ≤ 65536 then m.low + 1 else 0
  if rng != 0 then (rng - 1, 0)
  else match d.frozen mpa with
    | some r => (r, 0)
    | none =>
      if clip then (2, 0)
      else if bad then (m.range, m.low)
      else if 589824 ≤ code * 10 ∧ m.range < 2 then (m.range + 1, 0)
      else if d.mon.dnCount ≤ low then (m.range - 1, 0) else (m.range, low)
/-- After a result the lane takes its next range (R166). -/
def Dev.rerange (d : Dev) (mpa code : Nat) (clip bad : Bool) : Dev :=
  let m := d.mrt mpa
  let (r, low) := d.nextRange mpa code clip bad m
  let d := d.modMrt mpa (fun m => { m with range := r, low := low })
  if r = m.range then d else d.count 2931

/-! ## Comparators (R178 to R183) -/

/-- A limit of a comparator in 2^-16 dBm; hysteresis in the same unit. -/
def Met.limit (m : Met) (x : Nat) : Int := (signedOf x 16 + (if m.rel then signedOf m.ref 16 else 0)) * 256
def Met.hystOf (m : Met) : Int := (m.hyst : Int) * 8192
/-- There is no return band (R179). -/
def Met.broken (m : Met) : Bool := decide (signedOf m.high 16 < signedOf m.low 16 + 64 * (m.hyst : Int))
/-- STATE as it reads. CONFIG_ERR shows while EN = 1: R179 speaks of an enabled comparator, and does not say what a disabled entry without a return
band shows (log entry 65). -/
def Met.stateOut (m : Met) : Nat := if m.en ∧ m.broken then 3 else m.state
/-- Word 1 and word 0 of an entry as it reads: what was written, with STATE and REF as they are (R178, R183). -/
def Met.words (m : Met) (voa : Bool) : Nat × Nat :=
  let w0 := pack [(m.low, 0), (m.high, 16)]
  let w1 := pack [(m.hyst, 16), (m.nq, 20), (b2n m.en, 24), (b2n m.rel, 25), (m.rng, 26)]
  let (w0, w1, ref) := match m.next.getLast? with
    | some (_, a, b) => (a, fieldOf b 16 12 * 65536, if voa then m.ref else b % 65536)
    | none => (w0, w1, m.ref)
  (w0, ref + w1 + m.stateOut * 2 ^ 28)
/-- A written entry takes effect; EN from 0 to 1 sets IN and starts a new count (R183). -/
def Met.load (m : Met) (voa : Bool) (w0 w1 : Nat) : Met :=
  let en := bitOf w1 24
  let m' := { m with low := w0 % 65536, high := fieldOf w0 16 16, ref := if voa then m.ref else w1 % 65536, hyst := fieldOf w1 16 4,
                     nq := fieldOf w1 20 4, en := en, rel := bitOf w1 25, rng := fieldOf w1 26 2 }
  if en ∧ !m.en then { m' with state := 0, count := 0, due := none } else m'
/-- Is REF of an entry the device's: tap 0 of an output VOA cell (R181)? -/
def deviceRef (mpa : Nat) : Bool := isOutVoa (mpaCell mpa) && mpa % 2 == 0
/-- The writes at least 1 µs old take effect, in order, with the result now written; FS49 follows CONFIG_ERR (R183, R324). -/
def Dev.metLoad (d : Dev) (mpa : Nat) : Dev :=
  let due := (d.met mpa).next.takeWhile (fun w => decide (w.1 + 1000 ≤ d.tb2))
  if due.isEmpty then d
  else
    let d := d.modMet mpa (fun m =>
      let m' := due.foldl (fun m w => m.load (deviceRef mpa) w.2.1 w.2.2) m
      { m' with next := m.next.drop due.length })
    let ca := mpaCell mpa
    let bad := [0, 1].any (fun k => (d.met (mkMpa ca k)).en && (d.met (mkMpa ca k)).broken)
    if bad then d.condOn 49 ca else if (d.src 49).conds.contains ca then d.condOff 49 ca else d
/-- Does a comparator hold its state and count (R180)? -/
def Dev.metHeld (d : Dev) (n : Net) (mpa : Nat) : Bool :=
  let ca := mpaCell mpa
  (d.cell ca).settling || (isOutVoa ca && d.blanked ca) || ((d.met mpa).rel && isVoaCa ca && (n.voaConn ca).isNone) || !d.mon.winEn
/-- The state a result asks for: 0 IN, 1 LOW, 2 HIGH; none where it asks for no change (R179). -/
def Met.wants (m : Met) (v : Int) (ovr : Bool) : Option Nat :=
  let lo := m.limit m.low
  let hi := m.limit m.high
  let low := !ovr && (decide (v < lo) || decide (v ≤ floorDbm))
  let high := ovr || (!low && decide (hi < v))
  let inside := !ovr && !low && decide (lo + m.hystOf ≤ v) && decide (v ≤ hi - m.hystOf)
  if m.state = 0 then (if low then some 1 else if high then some 2 else none)
  else if m.state = 1 then (if high then some 2 else if inside then some 0 else none)
  else (if low then some 1 else if inside then some 0 else none)
/-- The comparator judges one VALID or OVER tick result. -/
def Met.judge (m : Met) (v : Int) (ovr : Bool) (value time : Nat) : Met :=
  if !m.en ∨ m.broken ∨ m.due.isSome then m
  else match m.wants v ovr with
    | none => { m with count := 0 }
    | some t =>
      let c := if m.side = t then m.count + 1 else 1
      if m.nq + 1 ≤ c then { m with side := t, count := 0, due := some (t, value, time) } else { m with side := t, count := c }

/-! ## Results (R167 to R173) -/

/-- The value word of an MRT pair (R172). -/
def Mrt.word (m : Mrt) : Nat := pack [(twos m.value 24, 0), (m.tag, 24), (m.flags, 30)]
/-- A result of a lane: flags, window start, code and clip; range, coefficients and comparator follow. -/
def Dev.result (d : Dev) (n : Net) (mpa code16 t : Nat) (fast clip err short : Bool) : Dev :=
  let ca := mpaCell mpa
  let d := if err then d.once 44 ca else d
  let bad := err || short || d.reacting 44 ca
  let m := d.mrt mpa
  let ovr := clip && m.range == 2
  let new := codeValue (d.coeffs mpa) m.range code16
  let before := codeValue m.oldCo m.range code16
  let has := !m.oldCo.isEmpty
  let mixed := has && decide (t < m.coAt)
  let v := if mixed then before else new
  let d :=
    if bad then d.invalid mpa t
    else d.modMrt mpa (fun m => { m with value := v, tag := (m.tag + 1) % 64, flags := if ovr then 2 else if fast then 1 else 0,
                                         time := t % 2 ^ 32, old := if has && !mixed then some before else none,
                                         tick := if fast then m.tick else some (t, v, ovr) })
  let d := d.modMrt mpa (fun m => { m with oldCo := if mixed then m.oldCo else [] })
  let d := (d.metLoad mpa).rerange mpa code16 clip bad
  if d.metHeld n mpa then d.restartMet mpa
  else if fast || bad then d
  else d.modMet mpa (fun m => m.judge v ovr (d.mrt mpa).word (t % 2 ^ 32))

/-- The start of the fast window of the period that began at p: the first after a Midnight starts on the SCLK edge at or after it (R170). -/
def Dev.fastStart (d : Dev) (mpa p : Nat) : Nat :=
  let c := d.cell (mpaCell mpa)
  let v := if mpa % 2 = 0 then d.mon.slowVer.get 0 (mpaCell mpa) else 0
  let edge := fun (e : Nat) => (e + 7) / 8 * 8
  if c.fast && decide (p < c.fastAt) && decide (c.fastAt < p + 1000) then edge c.fastAt
  else if p + 1 < v ∧ v ≤ p + 1000 ∧ !d.fastIn (mkMpa (mpaCell mpa) 1) p 1 then edge (v - 1)
  else p

/-- CONVERSION_RESULT: the result of a tick's window at T_n + 4 µs, or of a fast window at the end of its period (R167 to R171). -/
def execConversionResult (mpa code : Nat) (fast clip err : Bool) (s : State) : Host.Outcome State Fault Refusal :=
  let d := s.d
  let on := !mpaHole mpa && d.clocked && !(d.pwr.phase == .dawn && decide (d.pwr.step ≤ 2))
  if fast then
    let p := (d.tb2 / 1000 - 1) * 1000
    let t := d.fastStart mpa p
    if !on || decide (d.tb2 < 1000) || decide (4095 < code) || !d.fastIn mpa p 960 || decide (p < (d.mrt mpa).fAt) then ignored s
    else
      let d := d.modMrt mpa (fun m => { m with fAt := p + 1 })
      let d := d.result s.net mpa (16 * code) t true clip err (decide (p + 960 < t + 512))
      let m := d.mrt mpa
      let ks := (d.waiting mpa).filter (fun k => decide ((d.inj k).trigAt < t))
      finish s (if ks.isEmpty then d else (d.injDone ks (twos m.value 24) m.flags t).count 2928)
  else
    let t := d.tb2 / 10000 * 10000
    if !on || decide (d.tb2 < t + 4000) || decide (65535 < code) || d.fastIn mpa t 3840 || decide (t < (d.mrt mpa).nAt) then ignored s
    else
      let d := (d.forceRange mpa t).modMrt mpa (fun m => { m with nAt := t + 1 })
      let d := if err || d.reacting 44 (mpaCell mpa) then d else d.darkCode mpa t code
      finish s (d.result s.net mpa code t false clip err false)

/-- A MON_WINDOW event of one change of state, to PF0 and to the owner of a VOA port (R182, R338). -/
def Dev.windowEvent (d : Dev) (mpa old new value time : Nat) : Dev :=
  let ca := mpaCell mpa
  let own := if isVoaCa ca then d.owner (if isInVoa ca then 0 else 1) (caIdx ca) else 0
  let dw2 := pack [(mpa, 0), (old, 16), (new, 18)]
  let d := (if own = 0 then [0] else [0, own]).foldl (fun d f =>
    let (ok, d) := d.evtPush f 1 dw2 value time 0
    if !ok then d.eventLost f
    else
      let d := d.setLeaf f 0x1AC 0x100
      if f = 0 then d.setTileLeaf 0x180 (tileOf ca) else d) d
  d.count (if new = 0 then 2933 else 2932)

/-- WINDOW_TRANSITION: STATE changes, then its event is written; between LOW and HIGH a return and a leave (R179, R182). -/
def execWindowTransition (mpa : Nat) (s : State) : Host.Outcome State Fault Refusal :=
  let m := s.d.met mpa
  match m.due with
  | none => ignored s
  | some (new, value, time) =>
    let d := s.d.modMet mpa (fun m => { m with state := new, due := none, count := 0 })
    let d := if m.state ≠ 0 ∧ new ≠ 0 then (d.windowEvent mpa m.state 0 value time).windowEvent mpa 0 new value time
      else d.windowEvent mpa m.state new value time
    finish s d

/-- A host write of a MET entry (R178, R183). -/
def Dev.metStore (d : Dev) (mpa w0 w1 : Nat) : Dev :=
  if mpaHole mpa then d else d.modMet mpa (fun m => { m with next := m.next ++ [(d.tb2, w0 % 2 ^ 32, w1 % 2 ^ 32)] })

/-- A PF0 write of a MET entry: nothing in PARKED (R415). A whole entry written ends a HOLD by an uncorrectable one (FS71, R324). -/
def Dev.metWhole (d : Dev) (mpa w0 w1 : Nat) (whole : Bool) : Dev :=
  if mpaHole mpa || d.pwr.phase == .parked then d
  else
    let tn := tileOf (mpaCell mpa)
    let d := d.metStore mpa w0 w1
    if whole && (d.tile tn).holdErr then (d.modTile tn (fun t => { t with holdErr := false })).condOff 71 tn else d

/-- MET_WRITE: only PF0's writes take effect (R178). -/
def execMetWrite (fn mpa : Nat) (value : DWord) (s : State) : Host.Outcome State Fault Refusal :=
  hostWrBar s fn 2 (0x980000 + 8 * mpa) 8 (fun d => if fn = 0 then d.metWhole mpa (value.toNat % 2 ^ 32) (value.toNat / 2 ^ 32) true else d)

/-! ## Injected conversions: commands (R184 to R186) -/

/-- A write of MON_INJ_CTL[k] (R184, R194). -/
def Dev.injWrite (d : Dev) (k v : Nat) : Dev :=
  let x := d.inj k
  let x := { x with done := x.done && !bitOf v 22, displaced := x.displaced && !bitOf v 23, notDone := x.notDone && !bitOf v 24 }
  if x.go then
    if bitOf v 21 && !d.injStarted k then
      (d.modInj k (fun _ => { x with go := false, triggered := false, notDone := true })).setLeaf 0 0x1AC (2 ^ k)
    else d.modInj k (fun _ => x)
  else
    let x := { x with mpa := v % 65536, trig := fieldOf v 16 2, fast := bitOf v 18 }
    if !bitOf v 20 then d.modInj k (fun _ => x)
    else if mpaHole x.mpa then (d.modInj k (fun _ => { x with notDone := true })).setLeaf 0 0x1AC (2 ^ k)
    else d.modInj k (fun _ => { x with go := true, triggered := x.trig == 0, trigAt := d.tb2 })

/-- MON_INJ_CTL with GO = 1. -/
def execGo (fn slot : Nat) (value : Word) (s : State) : Host.Outcome State Fault Refusal :=
  pf0Wr s fn (0x10100 + 16 * slot) (fun d => if slot < 8 then d.injWrite slot value.toNat else d)
/-- MON_INJ_CTL with CANCEL = 1. -/
def execCancel (fn slot : Nat) (value : Word) (s : State) : Host.Outcome State Fault Refusal :=
  pf0Wr s fn (0x10100 + 16 * slot) (fun d => if slot < 8 then d.injWrite slot value.toNat else d)

/-- INJECTED_RESULT: the conversion that runs on a point has ended; slots with the same trigger share it, and it is corrected with the set in force at
its window's start (R177, R185, R186). -/
def execInjectedResult (slot code : Nat) (clip : Bool) (s : State) : Host.Outcome State Fault Refusal :=
  let d := s.d
  let x := d.inj slot
  let top := if x.fast then 4095 else 65535
  let t := ((d.injNext x.mpa).map (·.2)).getD 0
  if (d.injNext x.mpa).map (·.1) != some slot || d.fastIn x.mpa d.tb2 1 || decide (top < code) || decide (d.tb2 < t + x.delay) then ignored s
  else
    let m := d.mrt x.mpa
    let co := if !m.oldCo.isEmpty && decide (t < m.coAt) then m.oldCo else d.coeffs x.mpa
    let c := if x.fast then 16 * code else code
    let bad := d.reacting 44 (mpaCell x.mpa)
    let v := if bad then x.val % 2 ^ 24 else twos (codeValue co m.range c) 24
    let flags := if bad then 3 else if clip && m.range == 2 then 2 else if x.fast then 1 else 0
    let ks := (d.waiting x.mpa).filter (fun k => (d.inj k).same x)
    let d := (d.injDone ks v flags t).rerange x.mpa c clip bad
    finish s (({ d with mon := { d.mon with injEnd := d.mon.injEnd.set 0 x.mpa (t + x.window) } }).count 2928)

/-! ## Claimed fast lanes (R187 to R192) -/

/-- Samples of a capture, and those kept before its trigger (R189). -/
def Fl.length (l : Fl) : Nat := 256 * (l.len + 1)
def Fl.preN (l : Fl) : Nat := 16 * l.pre
/-- Samples recorded before the trigger, at most PRE. -/
def Fl.preGot (l : Fl) : Nat := min l.preN ((l.trigTime - l.armAt) / 4)

/-- CLAIM as written, for a lane that does not have it yet (R188). -/
def Fl.claimed (l : Fl) : Fl :=
  let l := { l with claim := true }
  if l.state = .free ∧ !l.bad then { l with state := .claimed } else { l with claimPend := true }
/-- WR_PTR: the capture index of the last sample written, while the lane records (R194). -/
def Dev.flPtr (d : Dev) (l : Fl) : Nat :=
  if l.state = .armed then min l.preN ((d.tb2 - l.armAt) / 4)
  else if l.state = .capturing then min (l.length - 1) (l.preN + (d.tb2 - l.trigTime) / 4)
  else l.wrPtr

/-- CLAIM is cleared: any capture is aborted, with WR_PTR at the last sample written, and the lane is FREE; a pending claim is dropped (R188, R191,
R194). -/
def Fl.unclaimed (l : Fl) (ptr : Nat) : Fl :=
  let l := { l with claim := false, claimPend := false }
  if l.state = .reserved ∨ l.state = .verify ∨ l.state = .free then l
  else
    let cut := decide (l.state = .armed) || decide (l.state = .capturing)
    { l with state := .free, att := none, arm := false, aborted := true, flags := if cut then 3 else l.flags, wrPtr := ptr }
/-- Does a claimed lane's ARM start recording: its tap attached to no other lane, PRE less than LENGTH (R188, R189)? -/
def Dev.tapBusy (d : Dev) (k : Nat) (l : Fl) : Bool :=
  (List.range 128).any (fun j => j != k && (d.fl j).att == some (tapMpa l.tap) && (d.fl j).state != .free)
/-- Recording starts: the lane is attached, its summary and flags cleared (R189, R192). -/
def Dev.armed (d : Dev) (k : Nat) (l : Fl) : Fl :=
  let m := tapMpa l.tap
  let l := { l with att := some m, range := if l.rangeSel = 3 then (d.mrt m).range else l.rangeSel, state := .armed, arm := true,
                    armAt := d.tb2, co := d.flNow k, tapCo := d.coeffs m, preShort := false, aborted := false, wrPtr := 0, arrival := 0xFFFF, settle := 0xFFFF, final := 0, rise := 0xFF, flags := 3 }
  if l.trig = 0 then l.trigger d.tb2 else l
/-- A write of FL_CTL[k] (R194). Answers whether the lane was armed by it. -/
def Dev.flCtlWrite (d : Dev) (k v : Nat) : Bool × Dev :=
  let l := d.fl k
  let cut := l.state == .armed || l.state == .capturing
  let l := if l.arm then l else { l with tap := v % 2048, rangeSel := fieldOf v 11 2, trig := fieldOf v 14 2, pre := fieldOf v 17 7,
                                         len := fieldOf v 24 4, seqTrig := fieldOf v 28 2 }
  let on := bitOf v 13
  let l' := if on && !l.claim then l.claimed else if !on && l.claim then l.unclaimed (d.flPtr l) else l
  let d := if !on && l.claim && cut then d.count 2947 else d
  if bitOf v 16 && on && (l'.state == .claimed || l'.state == .done) && decide (l'.preN < l'.length) then
    if d.tapBusy k l' then (false, d.modFl k (fun _ => { l' with tapBusy := true })) else (true, d.modFl k (fun _ => d.armed k l'))
  else (false, d.modFl k (fun _ => l'))

/-- Samples not yet written read as 0 (R190). -/
def Mem.clearLane (m : Mem) (k : Nat) : Mem := { m with fcb := m.fcb.filter (fun p => p.1 / 0x2000 != k) }
/-- A write of FL_CTL[k] with the lane's buffer. -/
def flWrite (s : State) (fn lane v : Nat) : Host.Outcome State Fault Refusal :=
  if !s.d.reach fn then ignored s
  else if fn ≠ 0 ∨ 128 ≤ lane then finish s (s.d.count 3021)
  else
    let (armed, d) := (s.d.count 3021).flCtlWrite lane v
    .next { s with d := d.notify, mem := if armed then s.mem.clearLane lane else s.mem }

/-- FL_CTL with CLAIM = 1. -/
def execClaim (fn lane : Nat) (value : Word) (s : State) : Host.Outcome State Fault Refusal := flWrite s fn lane value.toNat
/-- FL_CTL with CLAIM = 0. -/
def execClaimClear (fn lane : Nat) (value : Word) (s : State) : Host.Outcome State Fault Refusal := flWrite s fn lane value.toNat
/-- FL_CTL with ARM = 1. -/
def execArm (fn lane : Nat) (value : Word) (s : State) : Host.Outcome State Fault Refusal := flWrite s fn lane value.toNat

/-- The last sample outside lo to hi, counted from the first. -/
def lastOut (lo hi : Int) (ps : List Int) : Option Nat :=
  ((List.range ps.length).reverse).find? (fun j => decide (ps.getD j 0 < lo) || decide (hi < ps.getD j 0))
/-- The mean of a list of powers. -/
def meanOf (ps : List Int) : Int := divRound ps.sum ps.length
/-- The time in quarter nanoseconds, from the first sample, at which the powers first pass a level in the direction of a transition. -/
def crossing (up : Bool) (b : Int) (ps : List Int) (from_ : Nat) : Option Int :=
  let past := fun (x : Int) => if up then decide (b ≤ x) else decide (x ≤ b)
  ((List.range ps.length).find? (fun j => decide (from_ ≤ j) && !past (ps.getD (j - 1) 0) && past (ps.getD j 0) && decide (0 < j))).map (fun j =>
    let p := ps.getD (j - 1) 0
    let q := ps.getD j 0
    16 * ((j : Int) - 1) + (if p ≤ q then divRound (16 * (b - p)) (q - p) else divRound (16 * (p - b)) (p - q)))

/-- FL_RES from the corrected powers (2^-64 mW) of a capture; off is by how many quarter nanoseconds the trigger edge precedes the trigger
sample (R191). -/
def Fl.summary (l : Fl) (ps : List Int) (got off : Nat) : Fl :=
  let n := ps.length
  let t0 : Int := 16 * (l.preN : Nat) - off
  let floor : Int := 184467440737
  let ps := ps.map (fun p => max p floor)
  let f := max floor (meanOf (ps.drop (n - 250)))
  let db := fun (x : Int) => f * (linOf x : Nat) / 18446744073709551616
  let arrival := match lastOut (db (-65536)) (db 65536) ps with
    | none => 0
    | some j =>
      if j + 1 = n then 0xFFFF
      else
        let p := ps.getD j 0
        let q := ps.getD (j + 1) 0
        let b := if p < f then db (-65536) else db 65536
        let x := if p ≤ q then divRound (16 * (b - p)) (q - p) else divRound (16 * (p - b)) (p - q)
        clampN (divRound (16 * (j : Int) + x - t0) 2).toNat 0 0xFFFE
  let settle := match lastOut (db (-6554)) (db 6554) ps with
    | none => 0
    | some j => if j + 1 = n then 0xFFFF else clampN ((16 * (j : Int) - t0) / 16).toNat 0 0xFFFE
  let k := min 16 got
  let a := if k = 0 then ps.getD l.preN 0 else meanOf ((ps.drop (l.preN - k)).take k)
  let apart := decide (2 * 18446744073709551616 * max a f ≥ 2 * min a f * (linOf 196608 : Nat))
  let up := decide (a ≤ f)
  let rise :=
    if !apart then 0xFF
    else match crossing up (a + (f - a) / 10) ps l.preN, crossing up (a + (f - a) * 9 / 10) ps l.preN with
      | some x, some y => clampN (y - x).toNat 0 0xFE
      | _, _ => 0xFF
  { l with final := twos (divRound (dbOf f.toNat 18446744073709551616) 256) 16, arrival := arrival, settle := settle, rise := rise }

/-- A capture's 16-bit samples as they lie in its buffer (R190). -/
def Fl.buffer (l : Fl) (codes : List Nat) (missing : Nat) : List Byte :=
  (List.range codes.length).flatMap (fun j =>
    let c := codes.getD j 0
    let w := if j < missing then 0 else pack [(c, 0), (l.range, 12), (b2n (c == 4095), 14)]
    bytesLE (w + (if j = l.preN then 32768 else 0)) 2)

/-- CAPTURE_COMPLETE: the lane has recorded LENGTH − PRE samples from its trigger (R189 to R192). -/
def execCaptureComplete (lane : Nat) (samples : List (BitVec 12)) (trigAt : Nat) (s : State) : Host.Outcome State Fault Refusal :=
  let d := s.d
  let l := d.fl lane
  let post := l.length - l.preN
  match l.att with
  | none => ignored s
  | some _ =>
    if l.state != .capturing || decide (d.tb2 < l.trigTime + 4 * post) || samples.length != l.preGot + post || !d.clocked then ignored s
    else
      let missing := l.preN - l.preGot
      let codes := List.replicate missing 0 ++ samples.map (·.toNat)
      let (off, gain) := l.co
      let ps := (List.range codes.length).map (fun j =>
        if j < missing then 0
        else
          let p := corrected l.tapCo l.range ((16 * (codes.getD j 0 : Nat) - off) * gain)
          if p.2 = 0 then Config.lawUnstated 9 p.1 else p.1 * 18446744073709551616 / (p.2 : Nat))
      let clip := samples.any (fun c => c.toNat == 4095)
      let r := l.summary ps l.preGot (min trigAt 15)
      let d := d.modFl lane (fun _ => { r with state := .done, arm := false, tag := (l.tag + 1) % 64, flags := if clip then 2 else 0,
                                               wrPtr := l.length - 1 })
      let d := ((if clip then d.count 2948 else d).count 2946).setLeaf 0 (0x1B0 + 4 * (lane / 32)) (2 ^ (lane % 32))
      .next { s with d := d.notify, mem := { s.mem with fcb := Memory.writeBytes s.mem.fcb (0x2000 * lane) (l.buffer codes missing) } }

end Sys2Proof.Machine
end

