-- ==== Sys2Proof/Machine/Calibration.lean ====
section
/-!
DEFINITION. Calibration: coefficients recomputed in service (R228, R229), CAL_RUN (R230 to R239), stores (R241 to R243).
-/
namespace Sys2Proof.Machine

/-! ## Coefficients replaced (R228, R229) -/

/-- What a change of a tile's coefficients from those of d0 asks of loops, fast drivers and monitors (R177, R229). -/
def Dev.swapCoeffs (d d0 : Dev) (tn : Nat) : Dev :=
  (tileCells tn).foldl (fun d ca =>
    let d' := (heatersOf ca).foldl (fun x aa =>
      let m := (d0.loop aa).mode
      if m = 2 ∨ m = 5 ∨ m = 3 then x.modLoop aa (fun l => { l with ffHold := l.ffHold + (d0.ff [] aa - d.ff [] aa) }) else x) d
    let c := d0.cell ca
    let d' := if c.settling || c.handover then d'.modCell ca (fun x => { x with fWait := if x.fWait.isSome then x.fWait else d0.cellTemp ca }) else d'
    [mkMpa ca 0, mkMpa ca 1].foldl (fun x m =>
      x.modMrt m (fun r => { r with oldCo := if r.oldCo.isEmpty then d0.coeffs m else r.oldCo, coAt := d0.tb2 })) d') d
/-- Tile TN is recomputed at its sensor's temperature, with the delta set in force (R227). -/
def Dev.recompute (d d0 : Dev) (tn : Nat) : Dev := (d.modTile tn (fun t => { t with tUse := some (d.sensor tn).temp })).swapCoeffs d0 tn

/-- A sensor reads invalid: its coefficients are held, INTERP_HOLD, and FS27 for a tile sensor (R228, R324, R406). -/
def Dev.interpHold (d : Dev) (n : Nat) : Dev :=
  let d := { d with cal := { d.cal with err := d.cal.err ||| 8 } }
  if n < 336 then d.condOn 27 n else d
/-- The element whose turn a tick is: a tile, or 336 and above a fast lane (R228). -/
def interpTurn (tick : Nat) : Option Nat :=
  let n := tick % 10000
  if n % 25 = 0 ∧ n / 25 < 336 then some (n / 25)
  else if 9000 ≤ n ∧ (n - 9000) % 4 = 0 ∧ (n - 9000) / 4 < 128 then some (336 + (n - 9000) / 4) else none

/-- INTERPOLATION: at the boundary that ends the assigned tick, where its result applies (R228). -/
def execInterpolation (s : State) : Host.Outcome State Fault Refusal :=
  let d := s.d
  if d.tb2 % 10000 != 0 || decide (d.tb2 < 10000) || !d.loopsOn || !d.clocked || !d.cal.interpEn then ignored s
  else match interpTurn (d.tb2 / 10000 - 1) with
    | none => ignored s
    | some e =>
      let sn := if e < 336 then e else 336 + (e - 336) / 8
      if !(d.sensor sn).valid then finish s (d.interpHold sn)
      else if e < 336 then finish s ((d.recompute d e).count 3029)
      else finish s (({ d with cal := { d.cal with flUse := d.cal.flUse.set none (e - 336) (some (d.sensor sn).temp) } }).count 3029)

/-! ## Deltas -/

/-- A signed value held within w bits. -/
def clampS (x : Int) (w : Nat) : Int := clampI x (-((2 ^ (w - 1) : Nat) : Int)) (((2 ^ (w - 1) : Nat) : Int) - 1)
/-- A ratio, unsigned Q1.15. -/
def clampR (x : Int) : Nat := (clampI x 0 65535).toNat
/-! ## CAL_RUN begins (R230 to R232) -/

/-- CAL_RUN executes. -/
def Dev.runCal (d : Dev) (q : Nat) (c : Cmd) : Dev :=
  if (d.queue q).domain ≠ 0 ∨ !calFieldsOk c.sqe then d.complete q c.idx (baseComp 5 stMalformed)
  else
    let s := c.sqe
    let kinds := calKinds s
    let mask := calFlMask s
    let r : CalRun := { q := q, idx := c.idx, report := sqeAddr s, reportMax := sqeField s 16 2, clear := calAction s == 1,
                        tiles := calTiles (calScope s) (calTarget s), kinds := kinds, flMask := mask,
                        flTodo := if bitOf kinds 4 then (List.range 128).filter (bitOf mask) else [] }
    let d := (d.setExecuted q c.idx true).count 3024
    if d.cal.run.isSome then { d with cal := { d.cal with waiting := d.cal.waiting ++ [r] } } else d.calBegin r

def execCalRun (q : Nat) (s : State) : Host.Outcome State Fault Refusal := onFront s q 5 (fun c => finish s (s.d.runCal q c))

/-! ## Tiles (R233 to R235) -/

/-- Change the running CAL_RUN. -/
def Dev.modRun (d : Dev) (f : CalRun → CalRun) : Dev := { d with cal := { d.cal with run := d.cal.run.map f } }
/-- Change one active tile. -/
def CalRun.modTile (r : CalRun) (tn : Nat) (f : CalTile → CalTile) : CalRun :=
  { r with active := r.active.map (fun t => if t.tn = tn then f t else t) }
/-- The running CAL_RUN's active tile. -/
def Dev.calTile (d : Dev) (tn : Nat) : Option CalTile := d.cal.run.bind (fun r => r.active.find? (fun t => t.tn == tn))
/-- An injected conversion is armed in a tile (R234). -/
def Dev.injIn (d : Dev) (tn : Nat) : Bool := d.mon.inj.any (fun p => p.2.go && tileOf (mpaCell p.2.mpa) == tn)

/-- CAL_TILE_START: the next tile's turn, no injected conversion in it, a spare of its plane idle that no other tile has asked for (R126, R233,
R234). -/
def execCalTileStart (tn : Nat) (s : State) : Host.Outcome State Fault Refusal :=
  let d := s.d
  match d.cal.run with
  | none => ignored s
  | some r =>
    if r.todo.head? != some tn || d.injIn tn || !d.spareLeft (tilePlane tn) || d.leState tn != .own || (d.le tn).pend.isSome ||
       d.sec.restart.isSome || !d.loopsOn || !d.clocked then ignored s
    else
      let t : CalTile := { tn := tn, step := 2, t0 := d.tb2, win := d.cal.win, tolPh := d.cal.tolPh, tolSlope := d.cal.tolSlope,
                           tolDb := d.cal.tolDb, tolR := d.cal.tolR }
      let d := d.modRun (fun r => { r with todo := r.todo.drop 1, active := r.active ++ [t], waitFrom := d.tb2 })
      finish s ((d.modLe tn (fun l => { l with cause := some .cal })).askMove tn false false)

/-- SPARE_WAIT_TIMEOUT: the tile next in line and those of its plane after it are not calibrated (R235). -/
def execSpareWaitTimeout (tn : Nat) (s : State) : Host.Outcome State Fault Refusal :=
  let d := s.d
  match d.cal.run with
  | none => ignored s
  | some r =>
    if r.todo.head? != some tn || d.cal.spareWait == 0 || decide (d.tb2 ≤ r.waitFrom + 10000000 * d.cal.spareWait) || !d.clocked then ignored s
    else
      let mine := fun t => tilePlane t == tilePlane tn
      let r := (r.todo.filter mine).foldl (fun (r : CalRun) t => r.addReport t 0 t 7 0) r
      let r := { r with todo := r.todo.filter (fun t => !mine t), waitFrom := d.tb2 }
      let d := { d with cal := { d.cal with run := some r, err := d.cal.err ||| 2 } }
      finish s ((d.setLeaf 0 0x1C0 4).calCheck)

/-! ## Evaluation (R236, R237) -/

/-- Where its estimates are missing, the reason of an element. -/
def missReason (kind : Nat) : Nat := if kind = 5 then 9 else if kind = 4 then 2 else 6
/-- The addresses of an element's estimates: MON_DARK has one for each range at 4 × MPA + range, FL_GAIN a gain at the lane and an offset at
128 + lane. -/
def estAddrs (kind addr : Nat) : List Nat :=
  if kind = 3 then [4 * addr, 4 * addr + 1, 4 * addr + 2] else if kind = 4 then [addr, 128 + addr] else [addr]
/-- The phase that a lit cell's heater stands for: its state's, or that of A_ref (R12, R13). -/
def Dev.heldPhase (d : Dev) (n : Net) (ca : Nat) : Int :=
  if !isVoaCa ca then swPhase (n.swOf ca) else if (d.cell ca).dark then halfTurn else attPhase (d.cell ca).aRef
/-- The least-squares slope of a heater driver's voltage, in µV, against its currents in µA, over the four powers of a sweep: 2^-16 of 0.1 Ω. -/
def Dev.sweepSlope (d : Dev) (aa : Nat) (amps : List Nat) : Int :=
  let volts := [50, 100, 150, 200].map (fun c => isqrt ((lanePower c * d.heaterOhms aa).toNat * 100000000 / 16777216))
  let pts : List (Int × Int) := (amps.zip volts).map (fun p => ((p.1 : Int), (p.2 : Int)))
  let n : Int := pts.length
  let sum := fun (f : Int × Int → Int) => (pts.map f).sum
  divLaw 14 ((n * sum (fun p => p.1 * p.2) - sum (·.1) * sum (·.2)) * 655360) (n * sum (fun p => p.1 * p.1) - sum (·.1) * sum (·.1))
/-- ĝ of a lane: the tick result of its output over the corrected power of its mean code (R176, R236). -/
def Dev.laneGain (d : Dev) (k o code : Nat) : Option Int :=
  let m := mkMpa (outVoa 0 o) 0
  (d.mrt m).tick.map (fun x =>
    let (off, g) := d.flNow k
    let p := corrected (d.coeffs m) (if (d.fl k).rangeSel = 3 then (d.mrt m).range else (d.fl k).rangeSel) (((code : Int) - off) * g)
    divLaw 15 ((lin x.2.1 : Int) * 16777216 * (p.2 : Int)) (p.1 * 18446744073709551616))
/-- The estimate of a window, from its statistics and what its sweeps and captures measured (R236). -/
def Dev.estimate (d : Dev) (n : Net) (t : CalTile) (meas : List CalMeas) (kind addr : Nat) : Option Int :=
  let s := t.stat kind addr
  let ca := aaCell addr
  if kind = 4 then
    meas.findSome? (fun m => match m with
      | .lane k gain dark => if k ≠ addr % 128 then none else if addr < 128 then t.outGain.bind (fun o => d.laneGain k o gain) else some (dark : Int)
      | .heater _ _ => none)
  else if kind = 5 then
    meas.findSome? (fun m => match m with
      | .heater aa amps => if aa = addr then some (d.sweepSlope aa amps) else none
      | .lane _ _ _ => none)
  else if s.n = 0 then none
  else if kind = 0 then some ((d.heldPhase n ca * 256 - divLaw 13 ((s.a - s.b) * 4294967296) (s.n * d.pTurn ca)) % 4294967296)
  else if kind = 1 then some (divRound (s.a - s.b) s.n)
  else if kind = 3 then some (divRound (256 * s.a) s.n)
  else
    let i := (s.a / 65536).natAbs
    let q := (s.b / 65536).natAbs
    let h2 := 2 * isqrt (i * i + q * q) / s.n
    some (divLaw 13 ((d.loop addr).ampl * twoPi) (2 * isqrt (2 * h2 * 4294967296) : Nat))

/-- Are two powers more than x (2^-16 dB) apart? -/
def apart (x a b : Int) : Bool := decide (min a b * (lin x : Int) < max a b * 18446744073709551616)
/-- The reason 3, 5 or 6 of R237 that the whole of a window gives an element, 0 none; W2's means are held against W1's. -/
def CalTile.windowCond (t : CalTile) (e : Nat × Nat) : Nat :=
  if e.1 = 5 then 0
  else if e.1 = 3 then
    let rs := [0, 1, 2].map (fun r => t.stat 3 (4 * e.2 + r))
    if rs.any (fun s => decide (s.a + 64 * (s.n : Int) < s.hi * s.n) || decide (s.lo * s.n < s.a - 64 * (s.n : Int))) then 3
    else if (rs.map (·.n)).sum < 540 then 6 else 0
  else
    let ca := if e.1 = 4 then outVoa 0 (t.outGain.getD 0) else aaCell e.2
    let s := t.stat 6 ca
    let w := t.w1.get {} (statKey 6 ca)
    let heat := t.stat 7 (if e.1 = 4 then 336 + e.2 / 8 else t.tn)
    if decide (8 < heat.hi - heat.lo) || apart 196608 s.lo s.hi || (decide (0 < w.n) && apart 65536 (w.a * s.n) (s.a * w.n)) then 5
    else if e.1 ≠ 4 ∧ s.n + s.miss < 10 * s.miss then 6
    else 0

/-- A difference of phases, shortest arc of one turn of 2^32. -/
def arc (x : Int) : Int := (x + 2147483648) % 4294967296 - 2147483648
/-- The difference of two estimates and its limit, in one unit (R236). Units of an estimate: BIAS 2^-32 turn; HC_BAL mW Q24; SLOPE and a gain
2^-24; MON_DARK 2^-8 code; HEATER_R 2^-16 of 0.1 Ω; an offset 1/16 code. -/
def Dev.agreement (d : Dev) (t : CalTile) (kind addr : Nat) (a b : Int) : Int × Int :=
  let x := ((a - b).natAbs : Int)
  if kind = 0 then ((arc (a - b)).natAbs, t.tolPh * 1048576)
  else if kind = 1 then (x * 4096, t.tolPh * d.pTurn (aaCell addr))
  else if kind = 2 then (x * 1000, t.tolSlope * oneQ)
  else if kind = 3 then (x, 1024)
  else if kind = 5 then (x * 2000, t.tolR * (a + b))
  else if addr < 128 then ((if a ≤ 0 ∨ b ≤ 0 then 6553600000 else (dbOf a.toNat b.toNat).natAbs * 100 : Nat), t.tolDb * 65536)
  else (x, 64)
/-- The mean of two estimates. -/
def meanEst (kind : Nat) (a b : Int) : Int := if kind = 0 then a + arc (b - a) / 2 else divRound (a + b) 2
/-- T̄: the mean of a sensor over both windows; with no reading in them, its last one (R236). -/
def Dev.tBar (d : Dev) (t : CalTile) (k : Nat) : Int :=
  let a := t.w1.get {} (statKey 7 k)
  let b := t.stat 7 k
  if a.n + b.n = 0 then (d.sensor k).temp else divRound (a.a + b.a) (a.n + b.n : Nat)
/-- New delta words from the mean estimates (R236). -/
def Dev.newDelta (d : Dev) (t : CalTile) (kind addr : Nat) (xs : List Int) : List Int :=
  let x := xs.headD 0
  let ca := aaCell addr
  let tb := d.tBar t t.tn
  let fact := fun (f : Nat) => cellCoeffAt ca f tb {}
  if kind = 0 then [divRound (arc (x - fact 0)) 65536]
  else if kind = 1 then [clampS (divRound ((x - fact 2) * 10000) oneQ) 32]
  else if kind = 2 then [clampR (divRound ((d.cal.delta.cell.get {} ca).sPturn * x) oneQ)]
  else if kind = 3 then
    [0, 1, 2].map (fun r => clampS (divRound (xs.getD r 0 - 256 * interp (fun i => Config.factoryMon i addr r) tb) 256) 16)
  else if kind = 5 then [clampR (divRound (x * 32768) (65536 * fact (if aaKind addr = 0 then 4 else 5)))]
  else
    let tf := d.tBar t (336 + addr / 8)
    [clampS (xs.getD 1 0 - interp (fun i => Config.factoryFl i addr 0) tf) 16,
     clampR (divRound (x * d.cal.delta.flGain.get 0x8000 addr) oneQ)]

/-- One element evaluated from its estimates of both windows: a report entry's reason and DIFF, or the new delta words. -/
def Dev.evalElem (d : Dev) (n : Net) (t : CalTile) (meas : List CalMeas) (e : Nat × Nat) : Except (Nat × Nat) (List Int) :=
  let both := (estAddrs e.1 e.2).filterMap (fun a => match t.est.get none (statKey e.1 a), d.estimate n t meas e.1 a with
    | some x, some y => some (a, x, y)
    | _, _ => none)
  if t.badOf e ≠ 0 then .error (t.badOf e, 0)
  else if both.length ≠ (estAddrs e.1 e.2).length then .error (missReason e.1, 0)
  else
    let bad := (both.map (fun p => d.agreement t e.1 p.1 p.2.1 p.2.2)).filter (fun p => decide (p.2 < p.1))
    match (bad.map (fun p => if p.2 ≤ 0 then 65535 else (p.1 * 16 / p.2).toNat)).max? with
    | some x => .error (1, min x 65535)
    | none => .ok (d.newDelta t e.1 e.2 (both.map (fun p => meanEst e.1 p.2.1 p.2.2)))

/-- The elements of a tile, evaluated at the end of W2. -/
def Dev.evaluate (d : Dev) (n : Net) (r : CalRun) (t : CalTile) (meas : List CalMeas) : CalRun × CalTile :=
  (t.elems r).foldl (fun (acc : CalRun × CalTile) (e : Nat × Nat) =>
    match d.evalElem n t meas e with
    | .ok v => (acc.1, { acc.2 with accepted := acc.2.accepted ++ [(e.1, e.2, v)] })
    | .error (reason, diff) => (acc.1.addReport t.tn e.1 e.2 reason diff, acc.2)) (r, t)

/-- Do the measurements of a window hold the currents of every heater swept and the codes of every lane that is still as assumed? -/
def CalTile.measured (t : CalTile) (r : CalRun) (meas : List CalMeas) : Bool :=
  ((t.elems r).filter (fun e => t.badOf e == 0)).all (fun e =>
    if e.1 = 5 then meas.any (fun m => match m with
      | .heater aa amps => aa == e.2 && amps.length == 4
      | .lane _ _ _ => false)
    else if e.1 = 4 then meas.any (fun m => match m with
      | .lane k _ _ => k == e.2
      | .heater _ _ => false)
    else true)
/-- W1 closes with its estimates, and W2 follows at once. -/
def Dev.closeFirst (d : Dev) (n : Net) (r : CalRun) (t : CalTile) (meas : List CalMeas) : CalTile :=
  { t with
    step := 4
    t0 := max (t.t0 + 10000000 * t.win) ((d.tb2 + 9999) / 10000 * 10000)
    est := ((t.elems r).flatMap (fun e => (estAddrs e.1 e.2).map (fun a => (e.1, a)))).foldl (fun es e =>
      es.set none (statKey e.1 e.2) (d.estimate n t meas e.1 e.2)) []
    w1 := t.now
    now := []
    swept := false }

/-- CAL_WINDOW_END: W1 keeps its estimates, W2 evaluates them and ends the tile's CAL modes; a window lasts until its sweeps have ended (R233, R235
to R237). -/
def execCalWindowEnd (tn : Nat) (meas : List CalMeas) (s : State) : Host.Outcome State Fault Refusal :=
  let d := s.d
  match d.cal.run, d.calTile tn with
  | some r, some t =>
    if (t.step != 3 && t.step != 4) || decide (d.tb2 < t.t0 + 10000000 * t.win) || (bitOf r.kinds 5 && !t.swept) || !t.measured r meas ||
       !d.clocked then ignored s
    else
      let t := (t.elems r).foldl (fun t e => t.fail e (t.windowCond e)) t
      if t.step = 3 then finish s (d.modRun (fun r => r.modTile tn (fun _ => d.closeFirst s.net r t meas)))
      else
        let (r', t') := d.evaluate s.net r t meas
        let r' := r'.modTile tn (fun _ => { t' with step := 5, t0 := d.tb2, now := [], w1 := [], est := [], bad := [] })
        let d := ({ d with cal := { d.cal with run := some r' } }).uncal tn
        finish s (d.countN 3026 ((r'.reports.filter (fun e => calReason e.2 == 1)).length - (r.reports.filter (fun e => calReason e.2 == 1)).length))
  | _, _ => ignored s

/-! ## Stores (R241 to R243) -/

/-- A store starts over the tiles of a step: the commit record is zeroed, and header and payload are written (R242). -/
def Dev.startStore (d : Dev) (step : Nat) (again : Bool) : Dev :=
  match d.cal.run with
  | none => d
  | some r =>
    let set := d.cal.stored r step
    let r := { r with active := r.active.map (fun (t : CalTile) => if t.step = step then { t with step := 6, t0 := d.tb2 } else t) }
    let c := d.cal.setBank d.cal.target { gen := d.cal.nextGen, set := set }
    let c := { c with run := some r, storing := true, storeSet := set, storeAt := d.tb2, again := again, retry := false, retryAt := none }
    ({ d with cal := c }).bus 5 true 1 0 bankLen
/-- A repeated store has failed too: BANK_FAIL, and its tiles are not stored (R239, R243). -/
def Dev.storeFails (d : Dev) : Dev :=
  match d.cal.run with
  | none => d
  | some r =>
    let gone := (r.active.filter (fun t => t.step == 6)).map (·.tn)
    let r := gone.foldl (fun (r : CalRun) tn => r.addReport tn 0 tn 8 0) r
    let r := if r.clear then { r with active := r.active.filter (fun t => t.step != 6) }
             else { r with active := r.active.map (fun (t : CalTile) => if t.step = 6 then { t with step := 8, t0 := d.tb2, accepted := [] } else t) }
    ((({ d with cal := { d.cal with run := some r, err := d.cal.err ||| 4, retry := false, retryAt := none, again := false } }).once 56 0).calCheck)
/-- A store in progress is abandoned on a power warning; it is repeated once (R243). -/
def Dev.storeAbandon (d : Dev) (power : Bool) : Dev :=
  if !d.cal.storing then d
  else
    let again := d.cal.again
    let at2 := if power then none else some d.tb2
    let c := { d.cal with storing := false, pfAbort := d.cal.pfAbort || power, retry := !again, retryAt := at2 }
    let d := ({ (d.resetBursts (fun b => b.master == 5)) with cal := c }).count 3028
    if again then d.storeFails else d

/-- STORE: over every tile whose evaluation has ended, unless VIN48 is below its warning threshold (R242). -/
def execStore (s : State) : Host.Outcome State Fault Refusal :=
  let d := s.d
  let due := match d.cal.run with
    | some r => r.active.any (fun t => t.step == 5)
    | none => false
  if d.cal.storing || d.cal.retry || !due || d.pwr.vinWarn || !(d.src 15).conds.isEmpty || d.sec.restart.isSome || !d.clocked then ignored s
  else finish s (d.startStore 5 false)

/-- STORE_COMPLETE: header and payload read back as written, the commit record is written, and with a record that verifies the bank comes into force
(R241, R242). A store that fails either counts as abandoned. -/
def execStoreComplete (verifies : Bool) (s : State) : Host.Outcome State Fault Refusal :=
  let d := s.d
  let b : Bank := Bank.seal { gen := d.cal.nextGen, set := d.cal.storeSet }
  if !d.cal.storing || !d.clocked then ignored s
  else if !verifies || !b.valid then finish s (d.storeAbandon false)
  else
    let c := d.cal.setBank d.cal.target b
    let c := { c with storing := false, pfAbort := false, noDelta := false, again := false, stores := satAdd c.stores 1 32 }
    let d := ({ d with cal := c }).modRun (fun r => { r with active := r.active.map (fun (t : CalTile) =>
      if t.step = 6 then { t with step := 7, t0 := d.tb2 } else t) })
    finish s ((d.count 3027).setLeaf 0 0x1C0 16)

/-- STORE_RETRY: VIN48 has stayed above its threshold for 100 ms (R243). -/
def execStoreRetry (s : State) : Host.Outcome State Fault Refusal :=
  match s.d.cal.retryAt with
  | some t =>
    if s.d.cal.retry && decide (t + 100000000 ≤ s.d.tb2) && !s.d.pwr.vinWarn && s.d.clocked then finish s (s.d.startStore 6 true) else ignored s
  | none => ignored s

/-! ## Apply and return (R233 steps 7 and 8) -/

/-- The new delta of a tile is in force. -/
def Dev.applyTile (d : Dev) (t : CalTile) : Dev :=
  let d1 := { d with cal := { d.cal with delta := t.accepted.foldl DeltaSet.put d.cal.delta } }
  let d1 := if (d.sensor t.tn).valid then d1.recompute d t.tn else d1.swapCoeffs d t.tn
  (d1.modRun (fun r => { r with accept := r.accept + t.accepted.length })).count 3025

/-- CAL_APPLY: at the first tick boundary after the store. A CLEAR has no spare to return (R232). -/
def execCalApply (tn : Nat) (s : State) : Host.Outcome State Fault Refusal :=
  let d := s.d
  match d.cal.run, d.calTile tn with
  | some r, some t =>
    if t.step != 7 || d.tb2 % 10000 != 0 || decide (d.tb2 ≤ t.t0) || !d.clocked then ignored s
    else
      let d := d.applyTile t
      if r.clear then finish s ((d.modRun (fun r => { r with active := r.active.filter (fun x => x.tn != tn) })).calCheck)
      else finish s (d.modRun (fun r => r.modTile tn (fun t => { t with step := 8, t0 := d.tb2 })))
  | _, _ => ignored s

/-- CAL_RETURN: at the next tick boundary the tile returns to its own LE (R116). -/
def execCalReturn (tn : Nat) (s : State) : Host.Outcome State Fault Refusal :=
  let d := s.d
  match d.calTile tn with
  | some t =>
    if t.step != 8 || d.tb2 % 10000 != 0 || decide (d.tb2 ≤ t.t0) || d.leState tn != .lent || (d.le tn).cause != some .cal || !d.clocked then
      ignored s
    else finish s (d.startReturn tn)
  | none => ignored s

end Sys2Proof.Machine
end

