-- ==== Sys2Proof/Machine/Counters.lean ====
section
/-!
DEFINITION. PMC registers (R432 to R439), decode errors of the bus matrix (R426), and the reset of a stalled master (R425, R428, R317).
-/
namespace Sys2Proof.Machine

/-! ## Counters -/

/-- Counter n as it reads: reserved indices read 0 (R431). -/
def Pmc.value (p : Pmc) (n : Nat) : Nat := if ctrReserved n then 0 else (p.ctr.get {} n).value
/-- Is counter n chained to n + 1 (R433)? -/
def Pmc.chained (p : Pmc) (n : Nat) : Bool := !ctrReserved n && (p.ctr.get {} n).chain
/-- PMC_LIVE_HI and PMC_SNAP_HI of the selected counter (R434, R439). -/
def Pmc.liveHi (p : Pmc) : Nat := if p.chained p.idx then p.value (p.idx + 1) else 0
def Pmc.snapHi (p : Pmc) : Nat := if p.chained p.idx then p.snap.get 0 (p.idx + 1) else 0

/-- A write of PMC_CTL: EN; SNAP takes a SNAP, or asks for one while the reader copies; then CLEAR_ALL (R432, R436, R438). -/
def Dev.pmcCtlWrite (d : Dev) (v : Nat) : Dev :=
  let d := { d with pmc := { d.pmc with en := bitOf v 0 } }
  let d := if !bitOf v 1 then d else if d.pmc.dumping then { d with pmc := { d.pmc with snapReq := true } } else d.snapNow
  if bitOf v 2 then { d with pmc := { d.pmc with ctr := d.pmc.ctr.mapVals {} (fun _ c => { c with value := 0, ovf := false }) } } else d

/-- A write of PMC_CFG: EN, CHAIN unless the counter is the last of its block, OVF W1C; a reserved index ignores it (R433, R439). -/
def Dev.pmcCfgWrite (d : Dev) (v : Nat) : Dev :=
  let n := d.pmc.idx
  if ctrReserved n then d
  else
    let f := fun (c : Ctr) => { c with en := bitOf v 0, chain := bitOf v 1 && !ctrLast n, ovf := c.ovf && !bitOf v 2 }
    { d with pmc := { d.pmc with ctr := d.pmc.ctr.mod {} n f } }

/-- Set a counter's value. -/
def Dev.pmcSet (d : Dev) (n v : Nat) : Dev :=
  if ctrReserved n then d else { d with pmc := { d.pmc with ctr := d.pmc.ctr.mod {} n (fun c => { c with value := v }) } }
/-- A write to PMC_LIVE_LO sets counter PMC_IDX; one to PMC_LIVE_HI sets the chained partner, and is otherwise ignored. On the edge on which
the counter overflows the write wins, and the carry and OVF are lost: PMC_OVF_LOST (R435). -/
def Dev.pmcLiveWrite (d : Dev) (hi : Bool) (v : Nat) (atOverflow : Bool) : Dev :=
  let n := d.pmc.idx
  if ctrReserved n || (hi && !d.pmc.chained n) then d
  else
    let d := d.pmcSet (if hi then n + 1 else n) v
    if atOverflow then (({ d with pmc := { d.pmc with ovfLost := true } }).setLeaf 0 0x1CC 1).once 74 0 else d

/-- PMC_CTL with SNAP = 1. -/
def execSnap (fn : Nat) (value : Word) (s : State) : Host.Outcome State Fault Refusal := pf0Wr s fn 0x20000 (fun d => d.pmcCtlWrite value.toNat)
/-- PMC_CTL with CLEAR_ALL = 1. -/
def execClearAll (fn : Nat) (value : Word) (s : State) : Host.Outcome State Fault Refusal := pf0Wr s fn 0x20000 (fun d => d.pmcCtlWrite value.toNat)
def execPmcLiveWrite (fn : Nat) (hi : Bool) (value : Word) (atOverflow : Bool) (s : State) : Host.Outcome State Fault Refusal :=
  pf0Wr s fn (if hi then 0x20014 else 0x20010) (fun d => d.pmcLiveWrite hi value.toNat atOverflow)

/-! ## The bus matrix -/

/-- A decode error of a host access to BAR0, by its offset: M0 inbound, T2 (R426, R440). -/
def Dev.decodeError (d : Dev) (off : Nat) : Dev :=
  ({ d with bmx := { d.bmx with decode := true, decMaster := 9, decTarget := 2, addr := off } }).once 72 0

/-- The route results or stagings in one state are discarded with their slots, and with them those of later batches of their queues; the batches are
routed again (R317). -/
def Dev.discardSlots (d : Dev) (st : SlotSt) : Dev :=
  let hit := fun (d : Dev) (k : Nat) => (List.range 16).any (fun j =>
    (d.slot j).state == st && (d.slot j).queue == (d.slot k).queue &&
    (((d.queue (d.slot j).queue).cmds.dropWhile (fun c => c.idx != (d.slot j).idx)).map (·.idx)).contains (d.slot k).idx)
  ((List.range 16).filter (fun k => (d.slot k).state.uncommitted && hit d k)).foldl Dev.freeSlot d

/-- A master is reset: its bursts are abandoned, and what they carried ends as R317 says. M0's fetches are made again, the records that M1 has in hand
are dropped, route results and stagings of M3 and M4 are discarded, a store of M5 is abandoned. Refills of M6 and write-backs of M8 are whole or not
made here (log entry 78). -/
def Dev.masterReset (d : Dev) (m : Nat) : Dev :=
  let d := d.resetBursts (fun b => b.master == m && !b.dead)
  if m = 1 then d.jobs.recs.foldl Dev.cutRec { d with jobs := { d.jobs with recs := [] } }
  else if m = 3 then d.discardSlots .routing
  else if m = 4 then d.discardSlots .staging
  else if m = 5 then d.storeAbandon false
  else d

/-- MASTER_STALL: FS73, and the master is reset (R425, R428, R317). -/
def execMasterStall (m fn : Nat) (s : State) : Host.Outcome State Fault Refusal :=
  if decide (9 ≤ m) || decide (16 ≤ fn) || !s.d.clocked then ignored s
  else
    let d := { s.d with bmx := { s.d.bmx with stall := true, stallMaster := m } }
    let d := d.once 73 (if m ≤ 1 then fn else 0)
    finish s (d.masterReset m)

/-- PCIE_CORRECTABLE_ERROR: FS62 of a function, counted, and the bit of it in the function's AER correctable error status (R247, R324, R431). -/
def execPcieCorrectableError (err : AerBit) (s : State) : Host.Outcome State Fault Refusal :=
  if !okFn err.fn || !s.d.io.linkUp then ignored s
  else
    let d := s.d.modFn err.fn (fun x => { x with cfg := { x.cfg with aerCor := x.cfg.aerCor ||| 2 ^ (err.bit % 32) } })
    finish s ((d.count 3022).once 62 err.fn)

end Sys2Proof.Machine
end

