-- ==== Sys2Proof/Machine/DriveFault.lean ====
section
/-!
DEFINITION. Drive faults (R204, R323, FS29 to FS33): high-impedance drivers, constraints by the device, and their recovery.
-/
namespace Sys2Proof.Machine

/-- The sources whose action is the constraint of a cell: FS29 to FS33 (R324). -/
def consSources : List Nat := [29, 30, 31, 32, 33]
/-- Does an instance of FS29 to FS33 with full reaction still hold a cell pair? -/
def Dev.consHeld (d : Dev) (ca : Nat) : Bool :=
  consSources.any (fun n => (d.src n).insts.any (fun i => i.full &&
    (if n = 33 then i.scope == tileOf ca || i.scope == tileOf (twinCa ca) else planeACa i.scope == planeACa ca)))

/-- The scope action of FS29 to FS33 (R323, R324). -/
def Dev.driveReact (d : Dev) (n : Net) (src scope : Nat) : Dev :=
  if src = 33 then
    (if scope < 336 then tileCells scope else []).foldl (fun d ca =>
      (d.modCell ca (fun c => { c with hzF := true, hzH := true })).constrain n ca 33) d
  else
    let d := if src = 30 ∨ src = 31 then d.modCell scope (fun c => { c with hzH := true })
      else if src = 32 then d.modCell scope (fun c => { c with hzF := true }) else d
    d.constrain n scope src

/-- The device clears the constraint it set, unless SET_CONSTRAINT has named the cell since (R323). -/
def Dev.unconstrain (d : Dev) (ca : Nat) : Dev :=
  if d.consHeld ca || !(d.cell (planeACa ca)).devCons then d
  else (d.setCons ca .free).modCell (planeACa ca) (fun c => { c with devCons := false })
/-- Drivers of a cell are re-armed once no drive fault holds them; their loops resume with the spare-takeover preset (R204, R323). -/
def Dev.rearm (d : Dev) (ca : Nat) : Dev :=
  let held := fun (ns : List Nat) => ns.any (fun n => (d.src n).insts.any (fun i => i.full && i.scope == (if n = 33 then tileOf ca else ca)))
  let c := d.cell ca
  let d := if c.hzF && !held [32, 33] then d.modCell ca (fun c => { c with hzF := false }) else d
  if c.hzH && !held [30, 31, 33] then
    (d.modCell ca (fun c => { c with hzH := false })).modHeaters ca (fun l => if l.mode = 2 ∨ l.mode = 5 then { l with preset := 1 } else l)
  else d
/-- A failed cell has recovered: the plane it cost a connection is restored (R98). -/
def Dev.unlose (d : Dev) (ca : Nat) : Dev :=
  if consSources.any (fun n => (d.src n).insts.any (fun i => i.scope == (if n = 33 then tileOf ca else ca))) then d
  else
    (d.cmt.single.filter (fun p => p.2 == some ca)).foldl (fun d p =>
      if d.cmt.planes.any (fun j => j.inp == p.1) || d.cmt.restoring.any (fun j => j.inp == p.1) then d
      else { d with cmt := { d.cmt with planes := d.cmt.planes ++
        [{ inp := p.1, plane := caPlane ca == 1, restore := true, failCa := some ca, at2 := d.tb2 }] } }) d
/-- The recovery action of FS29 to FS33. -/
def Dev.driveRecover (d : Dev) (src scope : Nat) : Dev :=
  let cas := if src = 33 then (if scope < 336 then tileCells scope else []) else [scope]
  cas.foldl (fun d ca =>
    let d := d.modCell ca (fun c => { c with pendCons := if d.consHeld ca then c.pendCons else [] })
    ((d.rearm ca).unconstrain ca).unlose ca) d

/-- DRIVE_FAULT: kind 0 an open heater, 1 a shorted heater, 2 a fast-driver overcurrent, 3 a cluster parity error, at an actuator. The driver
goes high-impedance, so what its detector sees ends at once (R204). -/
def execDriveFault (kind aa : Nat) (s : State) : Host.Outcome State Fault Refusal :=
  let ca := aaCell aa
  let fits := if kind ≤ 1 then decide (aaKind aa ≤ 1) else if kind = 2 then aaKind aa == 2 else kind == 3
  if aaHole aa || !fits || !s.d.drv.armed then ignored s
  else
    let src := 30 + kind
    let scope := if kind = 3 then tileOf ca else ca
    let d := { s.d with drv := { s.d.drv with err := s.d.drv.err ||| 2 ^ kind } }
    let d := ((d.condOn src scope).driveReact s.net src scope).pathFaults s.net
    finish s ((d.condOff src scope).pathFaults s.net)

end Sys2Proof.Machine
end

