-- ==== Sys2Proof/Machine/Island.lean ====
section
/-!
DEFINITION. The measurement island (R357 to R380): samples, intervals, settlement records and their store, the reader port, and the mailbox to
the control side. No control-side command writes the island but through its three inputs and the mailbox.
-/
namespace Sys2Proof.Machine

/-! ## Levels and times -/

/-- P_FLOOR, −35 dBm, −30 dBm and +23 dBm in nW: the least whole value at or above each of the first three, the greatest at or below the last. -/
def nwFloor : Nat := 100
def nwDark : Nat := 317
def nwEval : Nat := 1000
def nwOver : Nat := 199526231
/-- Attenuation claimed of a bridge branch, 3.4 dB in 0.05 dB (R366). -/
def bridgeAtt (on : Bool) : Nat := if on then 68 else 0
/-- Is TB1 uncertain (R362)? ICLK is absent while the root PLL is out of lock. -/
def uncertain (s : State) : Bool := s.isl.uncStart || s.isl.uncClock || s.d.pwr.off || !s.d.pwr.pllLock
/-- Length of a piece between splits, ns (R365). -/
def Isl.splitNs (i : Isl) : Nat := i.splitMin * 60000000000

/-! ## Seal (R374) -/

/-- SEAL fuses blown: the -S product leaves the certified line with one. -/
def Isl.seals (i : Isl) : Nat := b2n Config.variantS + i.sealF
/-- Is the island sealed? -/
def Isl.isSealed (i : Isl) : Bool := decide (i.unsealF < i.seals)
/-- SEAL_STATE of R376. -/
def Isl.sealState (i : Isl) : Nat := if i.seals = 0 then 0 else if i.isSealed then 1 else 2
/-- The level of MI_SEAL. -/
def Isl.pinSeal (i : Isl) : Bool := i.up && Config.islandSelfTest && i.isSealed

/-! ## Records (R369) -/

/-- What a record says; the fields that every type has are added when it is written. -/
structure IRec where
  typ : Nat := 7
  flags : Nat := 0
  ports : Nat := 0
  tStart : Nat := 0
  tEnd : Nat := 0
  esnStart : Nat := 0
  esnEnd : Nat := 0
  tb0Start : Nat := 0
  eIn : Nat := 0
  eOut : Nat := 0
  pewIn : Nat := 0
  pewOut : Nat := 0
  n : Nat := 0
  tSpec : Nat := 0
  tBlank : Nat := 0
  tDark : Nat := 0
  aClaim : Nat := 0
  xchk : Nat := 0
  /-- Bytes 104 onward, 88 of them. -/
  extra : List Byte := []
deriving DecidableEq, Repr

/-- A list of bytes made n long by zeros. -/
def padTo (n : Nat) (bs : List Byte) : List Byte := bs.take n ++ List.replicate (n - bs.length) 0

/-- Energy-weighted mean power, signed 0.01 dBm; 0x8000 with no energy (R369). -/
def pew (sq sum : Nat) : Nat := if sum = 0 then 0x8000 else twos (divRound (dbOf sq (sum * 1000000) * 100) 65536) 16

/-- The 256 bytes of a record. -/
def Isl.recBytes (i : Isl) (unc : Bool) (r : IRec) : List Byte :=
  let flags := if unc then r.flags ||| 0x20 else r.flags
  padTo 104 (bytesLE i.next 8 ++ bytesLE r.typ 1 ++ bytesLE 1 1 ++ bytesLE flags 2 ++ bytesLE r.ports 4 ++
    bytesLE r.tStart 8 ++ bytesLE r.tEnd 8 ++ bytesLE r.esnStart 8 ++ bytesLE r.esnEnd 8 ++ bytesLE r.tb0Start 8 ++ bytesLE r.eIn 8 ++
    bytesLE r.eOut 8 ++ bytesLE r.pewIn 2 ++ bytesLE r.pewOut 2 ++ bytesLE r.n 4 ++ bytesLE r.tSpec 4 ++ bytesLE r.tBlank 4 ++
    bytesLE r.tDark 4 ++ bytesLE r.aClaim 2 ++ bytesLE r.xchk 1 ++ [0] ++
    bytesLE i.epoch 2 ++ bytesLE i.unsealF 1 ++ [0] ++ bytesLE Config.islandFw.toNat 4) ++
  padTo 88 r.extra ++ digestBytes i.chain

/-- Bytes 12 to 15 of a record type without ports: the spec states none. -/
def noPorts (typ : Nat) : Nat := (Config.islandUnstated 0 typ).toNat % 2 ^ 32
/-- SEALED throughout of a record of an instant. -/
def Isl.sealFlag (i : Isl) : Nat := if i.isSealed then 0x80 else 0

/-! ## The store (R371, R373) -/

/-- Is a block free: every record of it acknowledged? -/
def Isl.blockFree (i : Isl) (b : Block) : Bool := decide (64 * b.num + 64 ≤ i.ackNext)
/-- Free blocks of the 192. -/
def Isl.freeBlocks (i : Isl) : Nat := 192 - (i.blocks.filter (fun b => !i.blockFree b)).length
/-- The lowest INDEX that is retained. -/
def Isl.oldest (i : Isl) : Nat := match i.blocks with
  | b :: _ => 64 * b.num
  | [] => i.next
/-- Is there room for a record: in the block being filled, or a free block? -/
def Isl.hasRoom (i : Isl) : Bool := i.next % 64 != 0 || decide (0 < i.freeBlocks)
/-- Add an ISLAND event (R379). -/
def Isl.event (i : Isl) (kind a b c : Nat) : Isl := { i with events := i.events ++ [(kind, a, b, c)] }

/-- With the block being filled full and one free block left at most, that block is the reserve (R373). -/
def Isl.checkReserve (i : Isl) : Isl :=
  if i.next % 64 == 0 && decide (i.freeBlocks ≤ 1) && !i.reserve then ({ i with reserve := true, reserveNum := i.next / 64, gap := {} }).event 3 0 0 0
  else i

/-- Write a record (R370, R373). -/
def Isl.put (i : Isl) (unc : Bool) (r : IRec) : Isl :=
  if !i.hasRoom then i
  else
    let bs := i.recBytes unc r
    let blocks :=
      if i.next % 64 = 0 then
        (if 192 ≤ i.blocks.length then i.blocks.drop 1 else i.blocks) ++ [{ num := i.next / 64, openAt := i.mono, recs := [bs] }]
      else i.blocks.map (fun (b : Block) => if b.num = i.next / 64 then { b with recs := b.recs ++ [bs] } else b)
    ({ i with blocks := blocks, next := i.next + 1, chain := Config.sha3 bs } : Isl).checkReserve

/-- An INTERVAL or UNCLAIMED record that closes: written, or lost to a reserve and counted (R373). -/
def Isl.close (i : Isl) (unc : Bool) (r : IRec) : Isl :=
  if i.reserve then
    let g := i.gap
    let first := g.lost = 0
    let g := { g with lost := g.lost + 1, energy := g.energy + r.eOut, t0 := if first then r.tStart else min g.t0 r.tStart,
                      t1 := if first then r.tEnd else max g.t1 r.tEnd }
    { i with gap := if i.hasRoom then { g with all := g.all + 1 } else { g with pend := g.pend + 1 } }
  else
    let idx := i.next
    let i := i.put unc r
    if r.xchk = 1 then i.event 8 (idx % 2 ^ 32) (idx / 2 ^ 32) (pack [(r.ports % 512, 0), (r.ports / 65536 % 512, 9)]) else i

/-- A GAP record of the losses since the previous one, where there is room for it (R373). -/
def Isl.putGap (i : Isl) (unc : Bool) : Isl :=
  if !i.hasRoom then i
  else
    let g := i.gap
    let i := i.put unc { typ := 2, flags := i.sealFlag, ports := noPorts 2, tStart := g.t0, tEnd := g.t1,
                         extra := bytesLE g.lost 8 ++ bytesLE g.energy 8 }
    { i with gap := { i.gap with lost := 0, energy := 0, t0 := 0, t1 := 0 } }

/-- After an acknowledgement: a free block besides the reserve ends the reserve, with a GAP record of what none covers first (R373). -/
def Isl.endReserve (i : Isl) (unc : Bool) : Isl :=
  let used := i.blocks.any (fun b => b.num == i.reserveNum)
  if i.reserve && decide ((if used then 1 else 2) ≤ i.freeBlocks) then
    let lost := i.gap.all + i.gap.pend
    let i := if i.gap.lost = 0 then i else i.putGap unc
    (({ i with reserve := false, gap := {} }).event 4 (lost % 2 ^ 32) (lost / 2 ^ 32) 0).checkReserve
  else i

/-- Acknowledge index k (R371). -/
def Isl.acknowledge (i : Isl) (unc : Bool) (k : Nat) : Isl :=
  if i.ackNext ≤ k then ({ i with ackNext := k + 1 }).endReserve unc else i

/-! ## Intervals (R365 to R367) -/

/-- XCHK (R367). -/
def Interval.xchk (v : Interval) : Nat := if v.contra then 1 else if 100 ≤ v.evald then 0 else 2

/-- The record of an interval that ends. -/
def Interval.toRec (v : Interval) (out tEnd esnEnd flags : Nat) : IRec :=
  { typ := 1, ports := v.inp + out * 65536, tStart := v.tStart, tEnd := tEnd, esnStart := v.esnStart, esnEnd := esnEnd,
    tb0Start := v.tb0Start.getD (Config.islandUnstated 1 0).toNat, eIn := v.eIn, eOut := v.eOut, pewIn := pew v.sqIn v.eIn,
    pewOut := pew v.sqOut v.eOut, n := v.n, tSpec := v.tSpec, tBlank := v.tBlank, tDark := v.tDark, aClaim := v.aClaim, xchk := v.xchk,
    flags := pack [(b2n v.openStart, 0), (b2n v.splitStart, 2), (b2n v.bridge, 4), (b2n v.ovr, 6), (b2n v.sealedAll, 7)] |||
             (if v.resync then 0x100 else 0) ||| flags }

/-- The interval of an output ends at a TB1 instant. -/
def Isl.closeIv (i : Isl) (unc : Bool) (out tEnd esnEnd flags : Nat) : Isl :=
  match i.ivs.get none out with
  | none => i
  | some v => ({ i with ivs := i.ivs.set none out none }).close unc (v.toRec out tEnd esnEnd flags)

/-- A_c of a claim, in 0.05 dB. -/
def Claim.att (c : Claim) : Nat := c.atten + bridgeAtt c.bridge
/-- An interval of an output begins. -/
def Isl.openIv (i : Isl) (out : Nat) (c : Claim) (v : Interval) : Isl :=
  { i with ivs := i.ivs.set none out (some { v with inp := c.inp, bridge := c.bridge, aClaim := c.att, sealedAll := i.isSealed }) }
/-- The claim of an interval that goes on has changed. -/
def Isl.keepIv (i : Isl) (out : Nat) (c : Claim) : Isl :=
  { i with ivs := i.ivs.mod none out (fun o => o.map (fun v => { v with bridge := v.bridge || c.bridge, aClaim := max v.aClaim c.att })) }

/-- A sample's p_in − p_out against A_c + off, in 0.05 dB: is it greater? -/
def overLoss (pin pout a : Nat) (off : Int) : Bool :=
  pout == 0 || decide (((a : Int) + off) * 65536 < dbOf pin pout * 20)
/-- Is it less than A_c − 0.6 dB? -/
def underLoss (pin pout a : Nat) : Bool := pout != 0 && decide (dbOf pin pout * 20 < ((a : Int) - 12) * 65536)

/-- Both halves of an interval's sample are there: classes, energies and the cross-check (R366, R367, R369). -/
def Interval.sample (v : Interval) (c : Claim) (blank : Bool) (pin pout : Nat) : Interval :=
  let a := c.att
  let v := { v with n := v.n + 1, ovr := v.ovr || decide (nwOver < pin) || decide (nwOver < pout),
                    eIn := if nwFloor ≤ pin then v.eIn + pin else v.eIn, sqIn := if nwFloor ≤ pin then v.sqIn + pin * pin else v.sqIn,
                    eOut := if nwFloor ≤ pout then v.eOut + pout else v.eOut, sqOut := if nwFloor ≤ pout then v.sqOut + pout * pout else v.sqOut }
  let v :=
    if blank then { v with tBlank := v.tBlank + 1 }
    else if pin < nwDark then { v with tDark := v.tDark + 1 }
    else if !overLoss pin pout a 152 && !underLoss pin pout a then { v with tSpec := v.tSpec + 1 }
    else v
  if blank || decide (pin < nwEval) then v
  else if overLoss pin pout a 400 || underLoss pin pout a then
    { v with evald := v.evald + 1, bad := v.bad + 1, contra := v.contra || decide (100 ≤ v.bad + 1) }
  else { v with evald := v.evald + 1, bad := 0 }

/-- A half of a sample arrives; with the other half of the same millisecond it is complete. -/
def Isl.half (i : Isl) (out ms p : Nat) (input : Bool) : Isl :=
  match i.ivs.get none out, i.map.get none out with
  | some v, some c =>
    let v := if input then { v with pIn := some (ms, p) } else { v with pOut := some (ms, p) }
    let v := match v.pIn, v.pOut with
      | some (m1, a), some (m2, b) => if m1 = m2 then v.sample c i.blank a b else v
      | _, _ => v
    { i with ivs := i.ivs.set none out (some v) }
  | _, _ => i

/-! ## Outputs that no claim names (R368) -/

/-- The record of an unclaimed output that closes. -/
def Unclaimed.toRec (u : Unclaimed) (out tEnd flags : Nat) : IRec :=
  { typ := 3, ports := 0x1FF + out * 65536, tStart := u.tStart, tEnd := tEnd, eOut := u.eOut, pewOut := pew u.sqOut u.eOut,
    flags := pack [(b2n u.splitStart, 2), (b2n u.ovr, 6), (b2n u.sealedAll, 7)] ||| flags }

/-- An open UNCLAIMED record closes at a TB1 instant. -/
def Isl.closeUncl (i : Isl) (unc : Bool) (out tEnd flags : Nat) : Isl :=
  let u := i.uncl.get {} out
  if !u.isOpen then i
  else ({ i with uncl := i.uncl.set {} out { count := u.count } }).close unc (u.toRec out tEnd flags)

/-- A sample of an output without a claim: 100 consecutive ones with light are counted; light below −35 dBm, or blank, breaks the run. -/
def Isl.unclSample (i : Isl) (unc : Bool) (out p : Nat) : Isl :=
  if p < nwDark then ({ i with uncl := i.uncl.mod {} out (fun u => { u with count := 0 }) }).closeUncl unc out i.tb1 0
  else
    { i with uncl := i.uncl.mod {} out (fun u =>
        let u := { u with count := if i.blank then 0 else min 100 (u.count + 1) }
        if u.isOpen then { u with eOut := u.eOut + p, sqOut := u.sqOut + p * p, ovr := u.ovr || decide (nwOver < p) } else u) }

/-! ## Commands of the island's own -/

/-- The outcome of an island command: FS92 follows the reserve (R373), MI_SEAL its level. -/
def finishIsl (s : State) (d : Dev) (i : Isl) : Host.Outcome State Fault Refusal :=
  let d := if i.reserve then d.condOn 92 0 else d.condOff 92 0
  let d := d.pinTo "MI_SEAL" s.isl.pinSeal i.pinSeal
  .next { s with d := d.notify, isl := i }

/-- The outcome of a command that the island alone sees, while it is up. -/
def onIsl (s : State) (g : Isl → Isl) : Host.Outcome State Fault Refusal := if s.isl.up then finishIsl s s.d (g s.isl) else ignored s

/-- ISLAND_SAMPLE: a tap in its slot of the TB1 millisecond, once (R359). -/
def execIslandSample (tap nW : Nat) (s : State) : Host.Outcome State Fault Refusal :=
  let i := s.isl.copyBlank s.d.flt
  let ms := i.tb1 / 1000000
  if 1024 ≤ tap ∨ i.tb1 % 1000000 / 15625 ≠ tap % 64 ∨ i.taps.get 0 tap = ms + 1 then ignored s
  else
    onIsl { s with isl := i } (fun i =>
      let i := { i with taps := i.taps.set 0 tap (ms + 1) }
      if tap < 512 then
        ((i.ivs.filter (fun e => match e.2 with
          | some v => v.inp == tap
          | none => false)).map (·.1)).foldl (fun i o => i.half o ms nW true) i
      else if (i.map.get none (tap - 512)).isSome then i.half (tap - 512) ms nW false
      else i.unclSample (uncertain s) (tap - 512) nW)

/-- One entry of a delta: the claimed map follows it, and a connection that changes its input ends one interval and begins another. -/
def Isl.entry (i : Isl) (unc : Bool) (stamp esnStart esnEnd : Nat) (tb0 : Option Nat) (flags : Nat) (e : LinkEntry) : Isl :=
  let new := e.inp.map (fun p => ({ inp := p, bridge := e.bridge, atten := e.atten } : Claim))
  let old := i.map.get none e.out
  let i := { i with map := i.map.set none e.out new }
  let rs := flags == 0x100
  match old, new with
  | none, none => i
  | some _, none => i.closeIv unc e.out stamp esnEnd flags
  | none, some c =>
    ((i.closeUncl unc e.out stamp flags).openIv e.out c
      { tStart := stamp, esnStart := esnStart, tb0Start := tb0, resync := rs, openStart := i.started && rs })
  | some o, some c =>
    if o.inp = c.inp ∧ (i.ivs.get none e.out).isSome then i.keepIv e.out c
    else (i.closeIv unc e.out stamp esnEnd flags).openIv e.out c
      { tStart := stamp, esnStart := esnStart, tb0Start := tb0, resync := rs, openStart := i.started && rs }

/-- SNAPSHOT_LINK_DELTA: paired with its strobe's stamp; without a Midnight it takes TB1 at its arrival (R363, R364). -/
def execSnapshotLinkDelta (strobe : Option Nat) (esn tb0 : Nat) (release : Bool) (ents : List LinkEntry) (s : State) :
    Host.Outcome State Fault Refusal :=
  onIsl s (fun i =>
    let i := { i with lastLink := i.mono }
    if i.deaf then i
    else
      let stamp := ((strobe.bind (fun n => i.fifo.find? (fun f => f.1 == n))).map (·.2)).getD i.tb1
      let i := { i with fifo := match strobe with
        | some n => i.fifo.filter (fun f => decide (n < f.1))
        | none => i.fifo }
      ents.foldl (fun i e => if e.out < 512 then i.entry (uncertain s) stamp esn (if release then 0 else esn) (some tb0) 0 e else i) i)

/-- FULL_MAP: after a loss, or the first since the start, intervals open and close at its arrival with RESYNC (R364). -/
def execFullMap (ents : List LinkEntry) (s : State) : Host.Outcome State Fault Refusal :=
  onIsl s (fun i =>
    let i := { i with lastLink := i.mono }
    if !i.deaf then i
    else
      let all := (List.range 512).map (fun o => (ents.find? (fun e => e.out == o)).getD { out := o, inp := none, bridge := false, atten := 0 })
      let i := all.foldl (fun i e => i.entry (uncertain s) i.tb1 0 0 none 0x100 e) i
      { i with deaf := false, started := false })

/-- LINK_SILENCE: more than 2 s without a message (R364). -/
def execLinkSilence (s : State) : Host.Outcome State Fault Refusal :=
  if s.isl.deaf || decide (s.isl.mono ≤ s.isl.lastLink + 2000000000) then ignored s else onIsl s (fun i => { i with deaf := true })

/-- SPLIT: a whole multiple of SPLIT_MIN has been reached (R365, R368, R373). -/
def execSplit (s : State) : Host.Outcome State Fault Refusal :=
  let k := s.isl.tb1 / s.isl.splitNs
  if k ≤ s.isl.splitAt / s.isl.splitNs then ignored s
  else
    let at_ := k * s.isl.splitNs
    let unc := uncertain s
    onIsl s (fun i =>
      let outs := i.ivs.keys
      let un := (i.uncl.filter (fun e => e.2.isOpen)).map (·.1)
      let i := outs.foldl (fun (i : Isl) o => match i.map.get none o with
        | some c => (i.closeIv unc o at_ 0 8).openIv o c { tStart := at_, splitStart := true }
        | none => i.closeIv unc o at_ 0 8) i
      let i := un.foldl (fun (i : Isl) o =>
        let i := i.closeUncl unc o at_ 8
        { i with uncl := i.uncl.mod {} o (fun u => { u with isOpen := true, tStart := at_, splitStart := true, sealedAll := i.isSealed }) }) i
      let i := if i.reserve then i.putGap unc else i
      { i with splitAt := at_ })

/-- UNCLAIMED_OPEN: 100 consecutive samples with light (R368). -/
def execUnclaimedOpen (out : Nat) (s : State) : Host.Outcome State Fault Refusal :=
  let u := s.isl.uncl.get {} out
  if 512 ≤ out ∨ (s.isl.map.get none out).isSome ∨ u.isOpen ∨ u.count < 100 then ignored s
  else onIsl s (fun i => { i with uncl := i.uncl.set {} out { u with isOpen := true, tStart := i.tb1, sealedAll := i.isSealed } })

/-- The trailer of a full block (R370). -/
def Isl.trailer (i : Isl) (b : Block) : List Byte :=
  let head := bytesLE b.num 8 ++ bytesLE (64 * b.num) 8 ++ bytesLE i.tb1 8 ++ digestBytes (Config.sha3 (b.recs.getLast?.getD []))
  head ++ padTo 4627 (Config.sign true head) ++ List.replicate 21 0

/-- The block is signed: event KIND 1 (R370, R379). -/
def Isl.signBlock (i : Isl) (num : Nat) : Isl :=
  ({ i with blocks := i.blocks.map (fun (b : Block) => if b.num = num then { b with trailer := some (i.trailer b) } else b) }).event 1
    (num % 2 ^ 32) (num / 2 ^ 32) 0

/-- BLOCK_SIGNING: the oldest block that is full, or has been open for BLOCK_MAX minutes and is then filled (R370). -/
def execBlockSigning (s : State) : Host.Outcome State Fault Refusal :=
  let i := s.isl
  let due := fun (b : Block) => b.trailer.isNone && (b.recs.length == 64 || decide (b.openAt + i.blockMax * 60000000000 ≤ i.mono))
  match i.blocks.find? due with
  | none => ignored s
  | some b =>
    onIsl s (fun i =>
      let i := (List.range (64 - b.recs.length)).foldl (fun (i : Isl) _ => i.put (uncertain s) { typ := 7, flags := i.sealFlag, ports := noPorts 7 }) i
      i.signBlock b.num)

/-- CHECKPOINT: once every second (R372). -/
def execCheckpoint (s : State) : Host.Outcome State Fault Refusal :=
  if s.isl.mono < s.isl.ckptAt + 1000000000 then ignored s
  else onIsl s (fun i => { i with ckptAt := i.mono, ckpt := i.tb1, ckptIvs := i.ivs, ckptUncl := i.uncl, ckptGap := i.gap })

/-- ISLAND_START (R362, R372, R377): the record, the intervals that the last checkpoint has open, then TB1 resumes, uncertain. -/
def execIslandStart (s : State) : Host.Outcome State Fault Refusal :=
  let o := s.isl
  if o.up && !o.dip then ignored s
  else
    let i : Isl := { o with up := true, dip := false, tb1 := o.ckpt, sub := 0, uncStart := true, uncClock := false, addr := 0x58 + s.d.pwr.strapId % 4,
                            fifo := [], blank := s.d.flt.blank && !s.d.flt.releasing, blankAt := o.ckpt, map := [], deaf := true, started := true,
                            lastLink := o.mono, ivs := o.ckptIvs, uncl := o.ckptUncl, taps := [], gap := o.ckptGap, chal := none, token := [],
                            lastResult := 0, certs := false, streamPos := 0, streamOff := 0, inTrailer := false, ckptAt := o.mono, splitAt := o.ckpt,
                            events := [] }
    let outs := i.ivs.keys
    let un := (i.uncl.filter (fun e => e.2.isOpen)).map (·.1)
    let i := i.put true { typ := 4, flags := i.sealFlag, ports := noPorts 4, tStart := o.ckpt,
                          extra := bytesLE o.ckpt 8 ++ bytesLE outs.length 4 }
    let i := outs.foldl (fun (i : Isl) k => i.closeIv true k o.ckpt 0 2) i
    let i := un.foldl (fun (i : Isl) k => i.closeUncl true k o.ckpt 2) i
    finishIsl s (s.d.condOff 91 0) (({ i with uncl := [], ckptIvs := [], ckptUncl := [], ckptGap := i.gap }).event 7 0 0 0)

/-- CLOCK_CHECK: ICLK and the RC oscillator disagree (R362). -/
def execClockCheck (s : State) : Host.Outcome State Fault Refusal :=
  if !s.isl.up || s.isl.uncClock then ignored s else finishIsl s (s.d.condOn 91 0) { s.isl with uncClock := true }

/-- ICLK_AGREEMENT: they agree again (R362). -/
def execIclkAgreement (s : State) : Host.Outcome State Fault Refusal :=
  if !s.isl.up || !s.isl.uncClock then ignored s else finishIsl s (s.d.condOff 91 0) { s.isl with uncClock := false }

/-! ## Mailbox (R378 to R380) -/

/-- An ISLAND event to PF0 (R379). -/
def Dev.islEvt (d : Dev) (e : Nat × Nat × Nat × Nat) : Dev :=
  if d.mi.evtEn then (d.evt 0 8 e.1 e.2.1 e.2.2.1 e.2.2.2).setLeaf 0 0x1D0 1 else d

/-- ISLAND_HEARTBEAT: the MI registers first, then the events (R378, R379). -/
def execIslandHeartbeat (s : State) : Host.Outcome State Fault Refusal :=
  let i := s.isl
  if !i.up || !s.d.clocked then ignored s
  else
    let free := i.freeBlocks
    let near := s.d.mi.alive && decide (s.d.mi.nearFull < s.d.mi.free) && decide (free ≤ s.d.mi.nearFull)
    let mi := { s.d.mi with alive := true, lastBeat := s.d.tb2, sealState := i.sealState, uncertain := uncertain s, clockFault := i.uncClock,
                            reserve := i.reserve, hostAck := i.ackSrc, free := free, next := i.next, ack := i.ackNext, tb1 := i.tb1,
                            gap := i.gap.pend + i.gap.all }
    let d := { s.d with mi := mi }.condOff 90 0
    let evs := i.events ++ (if near then [(2, free, 0, 0)] else [])
    finishIsl s (evs.foldl Dev.islEvt d) { i with events := [] }

/-- Every ISLAND_READ in the mailbox ends with a status and no effect. -/
def Dev.dropMailbox (d : Dev) (st : Nat) : Dev :=
  let rs := d.mi.reqs
  rs.foldl (fun d r => if r.1 = 16 then d else d.adminDone r.1 r.2.1 (statusComp st)) { d with mi := { d.mi with reqs := [] } }

/-- HEARTBEAT_LOSS: none for 100 ms (R378). -/
def execHeartbeatLoss (s : State) : Host.Outcome State Fault Refusal :=
  let d := s.d
  if (d.src 90).conds.contains 0 || decide (d.tb2 < d.mi.lastBeat + 100000000) || !d.clocked then ignored s
  else
    let d := { d with mi := { d.mi with alive := false } }.condOn 90 0
    finish s (d.dropMailbox stBlocked)

/-- ISLAND_READ passes to the mailbox (R286, R378); of domain 0 alone (R262). -/
def Dev.islandRead (d : Dev) (f : Nat) (c : Cmd) : Dev :=
  let ok := sqeClean c.sqe && sqeAddr c.sqe % 8 == 0 && decide (sqeField c.sqe 20 1 ≤ 2) && f == 0
  if !ok then d.adminDone f c.idx (statusComp stMalformed)
  else if !d.mi.alive then d.adminDone f c.idx (statusComp stBlocked)
  else
    let d := d.adminBegin f c.idx
    { d with mi := { d.mi with reqs := d.mi.reqs ++ [(f, c.idx, c.sqe)] } }

def execIslandRead (fn : Nat) (s : State) : Host.Outcome State Fault Refusal := onAdmin s fn 0x45 (fun c => finish s (s.d.islandRead fn c))

/-- The identification structure (R376). -/
def Isl.identity (i : Isl) (unc : Bool) : List Byte :=
  let status := pack [(b2n unc, 0), (b2n i.uncClock, 1), (b2n i.reserve, 2), (b2n Config.islandSelfTest, 3)]
  [1] ++ bytesLE i.sealState 1 ++ bytesLE i.seals 1 ++ bytesLE i.unsealF 1 ++ bytesLE Config.islandFw.toNat 4 ++ digestBytes Config.islandRom ++
  digestBytes (Config.islandCfgDigest i.cfgData) ++ (if Config.variantS then bytesLE Config.approvalId.toNat 32 else List.replicate 32 0) ++
  bytesLE Config.serial.toNat 16 ++ bytesLE i.tb1 8 ++ bytesLE i.epoch 2 ++ bytesLE status 2 ++ bytesLE i.next 8 ++ bytesLE i.ackNext 8 ++
  bytesLE i.freeBlocks 2 ++ bytesLE i.splitMin 2 ++ bytesLE i.blockMax 2 ++ bytesLE (b2n i.ackSrc) 1 ++ [0] ++ bytesLE i.gap.pend 4

/-- A retained record, and the trailer of a signed block. -/
def Isl.recAt (i : Isl) (k : Nat) : Option (List Byte) := (i.blocks.find? (fun b => b.num == k / 64)).bind (fun b => b.recs[k % 64]?)
def Isl.trailerAt (i : Isl) (num : Nat) : Option (List Byte) := (i.blocks.find? (fun b => b.num == num)).bind (·.trailer)

/-- The units of READ_RECORDS that fit: bytes and the number of records; n counts the records still asked for (R378). -/
def Isl.units (i : Isl) : Nat → Nat → Nat → List Byte × Nat
  | 0, _, _ => ([], 0)
  | n + 1, k, room =>
    match i.recAt k with
    | none => ([], 0)
    | some r =>
      if room < 256 then ([], 0)
      else
        let tr := if k % 64 = 63 then i.trailerAt (k / 64) else none
        match tr with
        | none => let (bs, c) := i.units n (k + 1) (room - 256); (r ++ bs, c + 1)
        | some t =>
          if room - 256 < 4736 then (r, 1)
          else let (bs, c) := i.units n (k + 1) (room - 256 - 4736); (r ++ t ++ bs, c + 1)

/-- What the island makes of a mailbox request: its state, the bytes written to the buffer, and the completion (R378). -/
def Isl.answer (i : Isl) (unc : Bool) (s : Sqe) : Isl × List Byte × Comp :=
  let len := sqeField s 16 4
  let first := sqeField s 24 8
  let bad := (i, [], statusComp stMalformed)
  match sqeField s 20 1 with
  | 0 =>
    if len < 224 then bad
    else
      let chain := Config.certChain true
      let bs := i.identity unc ++ (if 224 + chain.length ≤ len then chain else [])
      (i, bs, { dw2 := bs.length })
  | 1 =>
    if first < i.oldest ∨ i.next ≤ first then bad
    else
      let (bs, c) := i.units (min (sqeField s 32 4) 12288) first len
      (i, bs, { dw2 := bs.length, dw3 := c })
  | _ =>
    if !i.ackSrc then (i, [], statusComp stBlocked)
    else if i.next ≤ first then bad
    else
      let j := i.acknowledge unc first
      (j, [], { dw3 := j.ackNext - i.ackNext })

/-- ISLAND_REPLY: the oldest request is answered; its data, then its completion (R378). -/
def execIslandReply (s : State) : Host.Outcome State Fault Refusal :=
  match s.d.mi.reqs with
  | [] => ignored s
  | (f, idx, sqe) :: rest =>
    if !s.isl.up || !s.d.clocked then ignored s
    else
      let (i, bs, comp) := s.isl.answer (uncertain s) sqe
      let d := { s.d with mi := { s.d.mi with reqs := rest } }
      let live := f < 16 ∧ d.mayWrite f
      let d := if live ∧ !bs.isEmpty then d.toHost (sqeAddr sqe) bs.length (.hostBulk (sqeAddr sqe) bs) else d
      let d := if f < 16 then d.adminDone f idx comp else d
      finishIsl s (d.setLeaf 0 0x1D0 2) i

/-! ## Reader port (R377) -/

/-- A write command other than TOKEN with its result: it discards a token partly collected. -/
def Isl.result (i : Isl) (r : Nat) : Isl := { i with lastResult := r, token := [] }
/-- A result that the spec does not state. -/
def oddResult (which : Nat) : Nat := (Config.islandUnstated 2 which).toNat % 256

/-- Answer the reader. -/
def onReader (s : State) (g : Isl → List Byte × Isl) : Host.Outcome State Fault Refusal :=
  if s.isl.up then
    let (bs, i) := g s.isl
    finishIsl s (s.d.send (.reader s.isl.addr bs)) i
  else ignored s

def execIdentify (s : State) : Host.Outcome State Fault Refusal := onReader s (fun i => (i.identity (uncertain s), i))
def execLastResult (s : State) : Host.Outcome State Fault Refusal := onReader s (fun i => (bytesLE i.lastResult 1, i))

/-- SEEK: to an object, and for records to an INDEX. -/
def execSeek (obj index : Nat) (s : State) : Host.Outcome State Fault Refusal :=
  onIsl s (fun i =>
    if obj = 1 then { i.result 0 with certs := true, streamPos := 0, streamOff := 0, inTrailer := false }
    else if obj ≠ 0 then i.result (oddResult 0)
    else if i.next ≤ index then i.result 4
    else if index < i.oldest then i.result 2
    else { i.result 0 with certs := false, streamPos := index, streamOff := 0, inTrailer := false })

/-- The next bytes of the record stream, at most `room`: the bytes and the new position; n bounds the units passed. -/
def Isl.stream : Nat → Nat → Isl → List Byte × Isl
  | 0, _, i => ([], i)
  | n + 1, room, i =>
    let unit := if i.inTrailer then i.trailerAt ((i.streamPos - 1) / 64) else i.recAt i.streamPos
    match unit with
    | none => if i.inTrailer then stream n room { i with inTrailer := false } else ([], i)
    | some u =>
      if room = 0 then ([], i)
      else if i.streamOff + room < u.length then ((u.drop i.streamOff).take room, { i with streamOff := i.streamOff + room })
      else
        let out := u.drop i.streamOff
        let j := if i.inTrailer then { i with streamOff := 0, inTrailer := false }
          else { i with streamOff := 0, streamPos := i.streamPos + 1, inTrailer := decide (i.streamPos % 64 = 63) }
        let (bs, j) := stream n (room - out.length) j
        (out ++ bs, j)

/-- READ: a status byte and the next bytes of the stream, as many as the transfer of `len` bytes holds. -/
def Isl.readStream (i : Isl) (len : Nat) : List Byte × Isl :=
  let room := min (len - 1) 240
  if i.certs then
    let bs := ((Config.certChain true).drop i.streamPos).take room
    if bs.isEmpty then ([1], i) else (0 :: bs, { i with streamPos := i.streamPos + bs.length })
  else if i.streamPos < i.oldest ∧ !i.inTrailer then ([2], i)
  else
    let (bs, j) := i.stream 4 room
    if bs.isEmpty then ([1], j) else (0 :: bs, j)

def execRead (len : Nat) (s : State) : Host.Outcome State Fault Refusal := onReader s (fun i => i.readStream len)

/-- ACK of the reader (R371). -/
def execAck (index : DWord) (s : State) : Host.Outcome State Fault Refusal :=
  onIsl s (fun i => if i.next ≤ index.toNat then i.result 4 else (i.acknowledge (uncertain s) index.toNat).result 0)

/-- TIME_SET (R361). -/
def execTimeSet (ns : DWord) (s : State) : Host.Outcome State Fault Refusal :=
  onIsl s (fun i =>
    let old := i.tb1
    let i := { i with tb1 := ns.toNat, epoch := (i.epoch + 1) % 65536, uncStart := false, splitAt := ns.toNat }
    let unc := i.uncClock || s.d.pwr.off || !s.d.pwr.pllLock
    let i := i.put unc { typ := 5, flags := i.sealFlag, ports := noPorts 5, tStart := ns.toNat, extra := bytesLE old 8 }
    (i.result 0).event 6 i.epoch 0 0)

/-- CHALLENGE: fresh, valid for 60 s or until the next one (R375, R377). -/
def execChallenge (s : State) : Host.Outcome State Fault Refusal :=
  if !s.isl.up then ignored s
  else
    let (c, d) := s.d.takeFresh
    finishIsl s (d.send (.reader s.isl.addr (bytesLE c.toNat 32))) { s.isl with chal := some (c, s.isl.mono + 60000000000) }

/-- TOKEN: chunk n holds bytes 239n onward. -/
def execToken (chunk : Nat) (bytes : List Byte) (s : State) : Host.Outcome State Fault Refusal :=
  onIsl s (fun i =>
    if 20 ≤ chunk then { i with lastResult := oddResult 1 }
    else if bytes.isEmpty ∨ 239 < bytes.length then { i with lastResult := 1 }
    else { i with lastResult := 0, token := i.token.set [] chunk bytes })

/-- The token collected. -/
def Isl.tokenBytes (i : Isl) : List Byte := (List.range 20).flatMap (fun n => i.token.get [] n)
/-- Is the collected token the approval authority's over the valid challenge, SERIAL and the operation (R375)? -/
def Isl.tokenOk (i : Isl) (op : Nat) : Bool :=
  match i.chal with
  | none => false
  | some (c, t) =>
    decide (i.mono < t) &&
    Config.verify (Config.authority true) (digestBytes (Config.sha3 (bytesLE c.toNat 32 ++ bytesLE Config.serial.toNat 16 ++
        bytesLE op 1))) i.tokenBytes

/-- A change of the seal (R375). -/
def Isl.changeSeal (i : Isl) (unc : Bool) (op : Nat) : Isl :=
  let hash := Config.sha3 i.tokenBytes
  let i := if op = 0 then { i with unsealF := i.unsealF + 1 } else { i with sealF := i.sealF + 1 }
  let i := if i.isSealed then i
    else { i with ivs := i.ivs.mapVals none (fun _ o => o.map (fun (v : Interval) => { v with sealedAll := false })),
                  uncl := i.uncl.mapVals {} (fun _ u => if u.isOpen then { u with sealedAll := false } else u) }
  let i := i.put unc { typ := 6, flags := i.sealFlag, ports := noPorts 6, tStart := i.tb1,
                       extra := bytesLE i.sealState 1 ++ bytesLE i.seals 1 ++ bytesLE i.unsealF 1 ++ [0] ++ digestBytes hash }
  (i.result 0).event 5 (pack [(i.sealState, 0), (i.unsealF, 8)]) 0 0

/-- SEAL_OP: 0 UNSEAL, 1 SEAL. -/
def execSealOp (op : Nat) (s : State) : Host.Outcome State Fault Refusal :=
  onIsl s (fun i =>
    if 2 ≤ op then i.result (oddResult 2)
    else if op = 1 ∧ (i.isSealed ∨ 8 ≤ i.seals) then i.result 3
    else if op = 0 ∧ 8 ≤ i.unsealF then i.result 3
    else if !i.tokenOk op then i.result 5
    else i.changeSeal (uncertain s) op)

/-- CONFIG_WRITE: refused while sealed (R374, R375). -/
def execConfigWrite (bytes : List Byte) (s : State) : Host.Outcome State Fault Refusal :=
  onIsl s (fun i =>
    if i.isSealed then i.result 3
    else if bytes.length < 2 ∨ 240 < bytes.length then i.result 1
    else
      let data := i.cfgData ++ [bytes]
      let c := Config.islandConfig data
      { i.result 0 with cfgData := data, splitMin := clampN c.1 1 1440, blockMax := clampN c.2.1 1 1440, ackSrc := c.2.2 })

end Sys2Proof.Machine
end

