-- ==== Sys2Proof/Machine/Bundle.lean ====
section
/-!
DEFINITION. Skeusk bundles (R383 to R385) and the delta banks' bytes (R241, R245).
-/
namespace Sys2Proof.Machine

/-! ## Delta sets as bytes (R241, R245) -/

/-- The delta set that a bank's bytes hold. -/
def parseDeltas (bs : List Byte) : DeltaSet :=
  let cell := fun (ca : Nat) =>
    let o := 0x40 + 16 * ca
    ({ bias := signedOf (leField bs o 4) 32, hc := signedOf (leField bs (o + 4) 4) 32, sPturn := leField bs (o + 8) 2,
       sRhp := leField bs (o + 10) 2, sRhc := leField bs (o + 12) 2 } : CellDelta)
  let dark := fun (k : Nat) => signedOf (leField bs (0x80040 + 8 * (k / 4) + 2 * (k % 4)) 2) 16
  let darks := allCells.flatMap (fun ca => [mkMpa ca 0, mkMpa ca 1].flatMap (fun m => [0, 1, 2].map (4 * m + ·)))
  { cell := Tab.setAll {} [] allCells cell, dark := Tab.setAll 0 [] darks dark,
    flOff := Tab.setAll 0 [] (List.range 128) (fun k => signedOf (leField bs (0x100040 + 8 * k) 2) 16),
    flGain := Tab.setAll 0x8000 [] (List.range 128) (fun k => leField bs (0x100042 + 8 * k) 2) }

/-! ## Bundles -/

/-- A component: type, version, offset and length of its payload. -/
structure Component where
  typ : Nat := 0
  ver : Nat := 0
  off : Nat := 0
  len : Nat := 0
deriving DecidableEq, Repr

/-- The entry k of a bundle's TABLE. -/
def bundleEntry (bs : List Byte) (k : Nat) : Component :=
  let o := 128 + 16 * k
  { typ := leField bs o 1, ver := leField bs (o + 4) 4, off := leField bs (o + 8) 4, len := leField bs (o + 12) 4 }
/-- The components a bundle carries. -/
def bundleComps (bs : List Byte) : List Component := ((List.range 8).map (bundleEntry bs)).filter (fun c => c.typ != 0)
/-- Its component of a type. -/
def bundleComp (bs : List Byte) (typ : Nat) : Option Component := (bundleComps bs).find? (fun c => c.typ == typ)
/-- The payload of a component. -/
def bundlePayload (bs : List Byte) (c : Component) : List Byte := (bs.drop c.off).take c.len

def bundleSec (bs : List Byte) : Nat := leField bs 8 8
def bundleKey (bs : List Byte) : Nat := leField bs 19 1
def bundleTotal (bs : List Byte) : Nat := leField bs 36 4
def bundleRevoke (bs : List Byte) : Nat := leField bs 40 1
/-- The end of the last payload: public key and signature follow it. -/
def bundleBody (bs : List Byte) : Nat := bundleTotal bs - 7219

/-- One TABLE entry is as R383 has it. -/
def entryOk (bs : List Byte) (k : Nat) : Bool :=
  let c := bundleEntry bs k
  leField bs (129 + 16 * k) 3 == 0 && decide (c.typ ≤ 3) &&
  (if c.typ = 0 then c.ver == 0 && c.off == 0 && c.len == 0
   else c.off % 64 == 0 && decide (256 ≤ c.off) && decide (c.off + c.len ≤ bundleBody bs))

/-- Check 1 of R384 for a bundle given as len bytes. -/
def bundleForm (bs : List Byte) (len : Nat) : Bool :=
  let rev := bundleRevoke bs
  leField bs 0 4 == 0x4B534B53 && leField bs 4 2 == 1 && decide (1 ≤ leField bs 6 2) && decide (leField bs 6 2 ≤ 8) &&
  leField bs 41 23 == 0 && decide (rev < 2 ^ bundleKey bs) && decide (rev < 16) &&
  bundleTotal bs == len && decide (256 + 7219 ≤ len) && (List.range 8).all (entryOk bs) && (bundleComps bs).length == leField bs 6 2 &&
  (bundleComps bs).any (fun c => c.off + c.len == bundleBody bs)

/-- FW_REASON of a bundle: the first check of R384 that fails, 0 none. At boot the SERIAL check is omitted (R390). -/
def Sec.reason (s : Sec) (bs : List Byte) (len : Nat) (boot : Bool) : Nat :=
  let serial := leField bs 20 16
  let pub := Config.sha3 ((bs.drop (bundleBody bs)).take 2592)
  let deltas := bundleComp bs 3
  if !bundleForm bs len then 1
  else if leField bs 16 2 ≠ 0x5A12 ∨ leField bs 18 1 ≠ 0xA1 then 2
  else if !boot && serial != Config.serial.toNat && (serial != 0 || deltas.isSome) then 2
  else if 4 ≤ bundleKey bs ∨ pub ≠ Config.keyDigest (bundleKey bs) ∨ bitOf s.revoked (bundleKey bs) then 3
  else if !Config.verify pub (bs.take 128) ((bs.drop (bundleBody bs + 2592)).take 4627) then 4
  else if leField bs 64 64 ≠ (Config.sha3 ((bs.take (bundleBody bs)).drop 128)).toNat then 5
  else if bundleSec bs < s.counter then 6
  else match deltas with
    | some c =>
      let p := bundlePayload bs c
      if c.len = bankLen ∧ leField p 0 4 = 1 ∧ leField p 4 4 = bankLen then 0 else 8
    | none => 0

/-- The bundle in an image slot. -/
def Sec.image (s : Sec) (slot : Bool) : List Byte :=
  if slot then s.img1.getD (Config.imageBytes 1) else s.img0.getD (Config.imageBytes 0)
/-- Does a slot pass the boot check (R390)? -/
def Sec.boots (s : Sec) (slot : Bool) : Bool := s.reason (s.image slot) (s.image slot).length true == 0
/-- The version of a component type that a booted image has. -/
def imageVer (bs : List Byte) (typ : Nat) : Nat := ((bundleComp bs typ).map (·.ver)).getD (Config.imageUnstated typ).toNat

/-- The counter is raised and the revocations are made (R385, R387). -/
def Sec.raise (s : Sec) (bs : List Byte) : Sec :=
  { s with counter := max s.counter (min (bundleSec bs) 64), revoked := s.revoked ||| bundleRevoke bs % 2 ^ (bundleKey bs) % 16 }

end Sys2Proof.Machine
end

