-- ==== Sys2Proof/Machine/Security.lean ====
section
/-!
DEFINITION. FW_ACTIVATE and the microcode roll (R127, R285, R387 to R389), supervisor restarts (R315), the moves and failures of loop engines
that a roll follows (R116, R117), SPDM (R391 to R393), debug (R394, R395).
-/
namespace Sys2Proof.Machine

/-! ## Supervisor restart (R315) -/

/-- A delta set comes into force on every tile (R229). -/
def Dev.putDeltas (d : Dev) (set : DeltaSet) : Dev :=
  let e := { d with cal := { d.cal with delta := set } }
  (List.range 336).foldl (fun x tn => if (d.sensor tn).valid then x.recompute d tn else x.swapCoeffs d tn) e

/-- What an activation may change, as it stands. -/
def Dev.beforeAct (d : Dev) : ActBefore :=
  let s := d.sec
  let c := d.cal
  let old := (List.range 352).filter (fun k => (d.le k).oldUcode)
  { staged := s.staged, fwStaged := s.fwStaged, img0 := s.img0, img1 := s.img1, ucode := s.ucode, oldLes := old, delta := c.delta, bankA := c.bankA,
    bankB := c.bankB, pfAbort := c.pfAbort, noDelta := c.noDelta, stores := c.stores }

/-- An activation that is cut short changes nothing (R315). -/
def Dev.undoAct (d : Dev) (w : ActBefore) : Dev :=
  let les := Tab.modMany {} (fun k (l : Le) => { l with oldUcode := w.oldLes.contains k }) (List.range 352) d.fab.les
  let sec := { d.sec with staged := w.staged, fwStaged := w.fwStaged, img0 := w.img0, img1 := w.img1, ucode := w.ucode }
  let cal := { d.cal with bankA := w.bankA, bankB := w.bankB, pfAbort := w.pfAbort, noDelta := w.noDelta, stores := w.stores }
  let d := { d with fab := { d.fab with les := les }, sec := sec, cal := cal }
  if d.cal.delta = w.delta then d else d.putDeltas w.delta

/-- What a restart of the supervisor ends: the running CAL_RUN, mailbox requests, SPDM sessions, and an activation that is not its cause. -/
def Dev.restartSup (d : Dev) : Dev :=
  let d := ((d.calEnd).endSession true).endSession false
  let held := (d.mi.reqs.filter (fun r => decide (r.1 < 16))).map (fun r => (r.1, r.2.1))
  let d := { d with mi := { d.mi with reqs := [] }, sec := { d.sec with restart := some d.tb2, blocked := d.sec.blocked ++ held } }
  match d.sec.act with
  | none => d
  | some a =>
    if a.restarting then d
    else
      let d := { d.undoAct a.was with sec := { (d.undoAct a.was).sec with act := none, blocked := d.sec.blocked ++ [(0, a.idx)] } }
      match a.cur with
      | some tn => if (d.le tn).cause = some .microcode ∧ d.leState tn = .lent ∧ (d.le tn).pend.isNone then d.askMove tn true false else d
      | none => d

/-- SUPERVISOR_RESTART by its watchdog (FS78) or an uncorrectable memory error (FS79). -/
def execSupervisorRestart (memory : Bool) (s : State) : Host.Outcome State Fault Refusal :=
  let d := s.d
  if !d.pwr.supUp || d.sec.restart.isSome || !d.clocked then ignored s else finish s ((d.once (if memory then 79 else 78) 0).restartSup)

/-! ## Activation (R127, R387) -/

/-- Change the activation in progress. -/
def Dev.modAct (d : Dev) (f : Activation → Activation) : Dev := { d with sec := { d.sec with act := d.sec.act.map f } }
/-- The completion of an activation (R388). -/
def Dev.actDone (d : Dev) (a : Activation) : Dev :=
  (({ d with sec := { d.sec with act := none } }).adminDone 0 a.idx { dw2 := a.deferred }).setLeaf 0 0x1D4 2

/-- Steps 3 to 5: the slot is preferred, the counter raised, revocations made; supervisor firmware restarts the supervisor. In recovery Dawn
restarts from D1 (R390). -/
def Dev.actFinish (d : Dev) (a : Activation) : Dev :=
  let slot := !d.sec.preferred
  let bs := d.sec.image slot
  let d := { d with sec := { ({ d.sec with preferred := slot, staged := false, fwStaged := 0 } : Sec).raise bs with act := some a } }
  if d.inRecovery then
    let d := d.actDone a
    { d with pwr := { d.pwr with phase := .dawn, step := 1, halt := 0, stepAt := d.tb2 }, sec := { d.sec with recovery := false } }
  else if (bundleComp bs 1).isSome then (d.modAct (fun a => { a with restarting := true })).restartSup
  else d.actDone a

/-- The microcode roll goes on: the tile whose turn it is has been lent and returned, or the next one is asked for; a tile that cannot be lent
changes at the next Dawn (R127). -/
def Dev.rollGo : Nat → Dev → Dev
  | 0, d => d
  | n + 1, d =>
    match d.sec.act with
    | none => d
    | some a =>
      if a.restarting then d
      else match a.cur with
        | some tn =>
          let l := d.le tn
          if l.cause = some .microcode ∧ (l.pend.isSome ∨ l.moveAt.isSome ∨ d.leState tn = .lent) then d
          else rollGo n (d.modAct (fun a => { a with cur := none, deferred := a.deferred + b2n (d.leState tn == .own && l.oldUcode) }))
        | none => match a.todo with
          | [] => d.actFinish a
          | tn :: rest =>
            let d := d.modAct (fun a => { a with todo := rest })
            let later := d.modAct (fun a => { a with deferred := a.deferred + 1 })
            match d.leState tn with
            | .own =>
              if (d.le tn).pend.isSome || (d.idleSpare (tilePlane tn)).isNone then rollGo n later
              else ((d.modLe tn (fun l => { l with cause := some .microcode })).askMove tn false false).modAct (fun a => { a with cur := some tn })
            | .lent => rollGo n (d.modLe tn (fun l => { l with oldUcode := false }))
            | .moving => rollGo n later
            | _ => rollGo n d

/-- Step 2: idle spares and those of permanent takeovers load the new microcode, and the tiles are lent in turn. -/
def Dev.rollStart (d : Dev) (ver : Nat) : Dev :=
  let old := fun (k : Nat) =>
    if k < 336 then true
    else !(d.leState k == .spareIdle || (d.leState k == .spareServing && (d.le (d.le k).partner).cause == some .permanent))
  let les := Tab.modMany {} (fun k (l : Le) => { l with oldUcode := old k }) (List.range 352) d.fab.les
  ({ d with fab := { d.fab with les := les }, sec := { d.sec with ucode := ver } }).modAct (fun a => { a with todo := List.range 336 })

/-- Step 1: the delta set is stored as a new generation and applied to every tile (R229, R242). -/
def Dev.actDeltas (d : Dev) (set : DeltaSet) : Dev :=
  let c := d.cal.setBank d.cal.target (Bank.seal { gen := d.cal.nextGen, set := set })
  let d1 := { d with cal := { c with pfAbort := false, noDelta := false, stores := satAdd c.stores 1 32 } }
  ((d1.putDeltas set).count 3027).setLeaf 0 0x1C0 16

/-- Activate the staged bundle; `was` is what the command found. -/
def Dev.activate (d : Dev) (was : ActBefore) (idx : Nat) (bs : List Byte) : Dev :=
  let d := d.adminBegin 0 idx
  let d := match bundleComp bs 3 with
    | some c => d.actDeltas (parseDeltas (bundlePayload bs c))
    | none => d
  let d := { d with sec := { d.sec with act := some { idx := idx, was := was } } }
  let d := match bundleComp bs 2 with
    | some c => if d.inRecovery then d else d.rollStart c.ver
    | none => d
  d.rollGo 700

/-- A bundle is rejected: it changes nothing (R384). -/
def Dev.fwReject (d : Dev) (idx reason : Nat) : Dev :=
  ((d.once 80 0).setLeaf 0 0x1D4 4).adminDone 0 idx { status := stMalformed, dw2 := reason * 65536 }

/-- The bundle bytes of a command. -/
def Cmd.bundle (c : Cmd) : List Byte := (c.payload.flatMap (fun w => bytesLE w.toNat 8)).take (sqeField c.sqe 16 4)

/-- Stage a bundle in the slot that is not preferred. -/
def Dev.stage (d : Dev) (bs : List Byte) : Dev :=
  let s := { d.sec with staged := true, fwStaged := bundleSec bs }
  let s := if s.preferred then { s with img0 := some bs } else { s with img1 := some bs }
  ({ d with sec := s }).setLeaf 0 0x1D4 1

/-- FW_ACTIVATE (R285, R387); an activation with a delta set waits while no store may start (R242). -/
def execFwActivate (fn : Nat) (s : State) : Host.Outcome State Fault Refusal :=
  onAdmin s fn 0x44 (fun c =>
    let d := s.d
    let action := sqeField c.sqe 20 1
    let ok := sqeClean c.sqe && sqeAddr c.sqe % 8 == 0 && decide (action ≤ 2) && fn == 0 && (!d.inRecovery || action == 2)
    if !ok then finish s (d.adminDone fn c.idx (statusComp stMalformed))
    else if action = 1 ∧ !d.sec.staged then finish s (d.fwReject c.idx 7)
    else
      let bs := if action = 1 then d.sec.image (!d.sec.preferred) else c.bundle
      let reason := d.sec.reason bs (if action = 1 then bs.length else sqeField c.sqe 16 4) false
      if reason ≠ 0 then finish s (d.fwReject c.idx reason)
      else
        let staged := if action = 1 then d else d.stage bs
        if action = 0 then finish s (staged.adminDone 0 c.idx (statusComp stOk))
        else if (bundleComp bs 3).isSome && (d.cal.storing || d.cal.retry || d.pwr.vinWarn) then ignored s
        else finish s (staged.activate d.beforeAct c.idx bs))

/-- SUPERVISOR_RESTART_END: interrupted admin commands complete BLOCKED, the activation that caused the restart OK (R315, R388). -/
def execSupervisorRestartEnd (s : State) : Host.Outcome State Fault Refusal :=
  let d := s.d
  if d.sec.restart.isNone || !d.clocked then ignored s
  else
    let held := d.sec.blocked
    let d := { d with sec := { d.sec with restart := none, blocked := [] } }
    let d := held.foldl (fun d p => d.adminDone p.1 p.2 (statusComp stBlocked)) d
    match d.sec.act with
    | some a =>
      if a.restarting then
        finish s ({ d with sec := { d.sec with fwActive := imageVer (d.sec.image d.sec.preferred) 1, bootSlot := d.sec.preferred } }.actDone a)
      else finish s d
    | none => finish s d

/-! ## Loop engines: events that a roll follows -/

/-- LE_FAILURE: an uncorrectable error or the watchdog stops an LE, a spare fails its self-test, or an error is corrected (R117, R118, R128). -/
def execLeFailure (le bit : Nat) (s : State) : Host.Outcome State Fault Refusal :=
  if !okLe le || !s.d.clocked then ignored s
  else if bit = 0 then finish s ((s.d.leErr le 0).once 20 (s.d.leScope le))
  else if (bit = 1 ∨ bit = 2 ∨ bit = 6) ∧ s.d.leState le ≠ .failed then finish s ((s.d.leFails le bit).rollGo 700)
  else ignored s

/-- TAKEOVER: at the tick boundary after it was asked for (R115). -/
def execTakeover (tn : Nat) (s : State) : Host.Outcome State Fault Refusal :=
  match (s.d.le tn).pend with
  | some t =>
    if okTile tn && s.d.clocked && s.d.tb2 % 10000 == 0 && decide (t < s.d.tb2) then finish s ((s.d.startMove tn).rollGo 700) else ignored s
  | none => ignored s

/-- TAKEOVER_COMPLETE: at T_n + 5 µs (R116). A tile lent for microcode goes back once its own LE has loaded it; a spare that is idle again
loads it too (R127). -/
def execTakeoverComplete (tn : Nat) (s : State) : Host.Outcome State Fault Refusal :=
  let d := s.d
  let l := d.le tn
  match l.moveAt with
  | none => ignored s
  | some t =>
    if !d.clocked || decide (d.tb2 < t + 5000) then ignored s
    else
      let spare := d.spareOf tn
      let d := d.endMove tn
      let d := if !l.back && l.cause == some .microcode && d.leState tn == .lent && (d.le tn).pend.isNone then
          (d.modLe tn (fun x => { x with oldUcode := false })).askMove tn true false else d
      let d := match l.back, spare with
        | true, some k => d.modLe k (fun x => { x with oldUcode := false })
        | _, _ => d
      finish s (d.rollGo 700)

/-! ## SPDM (R391 to R393) -/

/-- The session of a transport: DOE, or MCTP over SMBus. -/
def Dev.session (d : Dev) (doe : Bool) : Session := if doe then d.sec.doe else d.sec.mctp
/-- Set it. -/
def Dev.setSession (d : Dev) (doe : Bool) (x : Session) : Dev :=
  { d with sec := if doe then { d.sec with doe := x } else { d.sec with mctp := x } }
/-- Does the responder answer on a transport? -/
def Dev.spdmUp (d : Dev) (doe : Bool) : Bool := d.clocked && d.pwr.supUp && d.sec.restart.isNone && (!doe || d.reach 0)

/-- Answer a request with a response code and what the manual says of its content, followed by bytes that the SPDM specification forms; a bad
request, or one that g refuses, is answered ERROR. -/
def spdm (s : State) (doe : Bool) (m : SpdmMsg) (code : Nat) (g : Dev → Option (List Byte × Dev)) : Host.Outcome State Fault Refusal :=
  if !s.d.spdmUp doe then ignored s
  else
    let body := Config.spdmBody s.d.fresh
    let d := { s.d with fresh := s.d.fresh + 1 }
    match (if m.good then g d else none) with
    | some (bs, d) => finish s (d.send (.spdm doe code (bs ++ body)))
    | none => finish s (d.send (.spdm doe 0x7F body))

/-- A signature by the device identity key (R382). -/
def idSign (bs : List Byte) : List Byte := Config.sign false bs

def execGetVersion (doe : Bool) (m : SpdmMsg) (s : State) : Host.Outcome State Fault Refusal := spdm s doe m 0x04 (fun d => some ([], d))
def execGetCapabilities (doe : Bool) (m : SpdmMsg) (s : State) : Host.Outcome State Fault Refusal := spdm s doe m 0x61 (fun d => some ([], d))
def execNegotiateAlgorithms (doe : Bool) (m : SpdmMsg) (s : State) : Host.Outcome State Fault Refusal :=
  spdm s doe m 0x63 (fun d => some ([], d))

/-- Slot 0 alone is provisioned (R381). -/
def execGetDigests (doe : Bool) (m : SpdmMsg) (s : State) : Host.Outcome State Fault Refusal :=
  spdm s doe m 0x01 (fun d => some (digestBytes (Config.sha3 (Config.certChain false)), d))
def execGetCertificate (doe : Bool) (m : SpdmMsg) (s : State) : Host.Outcome State Fault Refusal :=
  spdm s doe m 0x02 (fun d => if m.param = 0 then some (Config.certChain false, d) else none)
def execSpdmChallenge (doe : Bool) (m : SpdmMsg) (s : State) : Host.Outcome State Fault Refusal :=
  spdm s doe m 0x03 (fun d => if m.param = 0 then some (idSign (Config.spdmBody s.d.fresh), d) else none)

/-- Tiles still on older microcode. -/
def Dev.oldTiles (d : Dev) : Nat := ((List.range 336).filter (fun k => (d.le k).oldUcode)).length
/-- The value of a measurement block (R393). -/
def Dev.measBlock (d : Dev) (k : Nat) : List Byte :=
  let image := d.sec.image d.sec.bootSlot
  let part := fun (typ : Nat) => match bundleComp image typ with
    | some c => digestBytes (Config.sha3 (bundlePayload image c))
    | none => digestBytes (Config.sha3 [])
  match k with
  | 1 => digestBytes (Config.romDigest false)
  | 2 => part 1 ++ bytesLE (bundleSec image) 8
  | 3 => part 2 ++ bytesLE d.oldTiles 4
  | 4 => digestBytes (Config.romDigest true)
  | 5 => match d.cal.inForce with
    | some b => bytesLE (d.cal.bank b).gen 8 ++ digestBytes (Config.sha3 (bankBytes (d.cal.bank b)))
    | none => List.replicate 72 0
  | 6 => bytesLE d.sec.counter 1 ++ bytesLE d.sec.revoked 1 ++ bytesLE d.sec.level 1 ++ bytesLE (b2n d.sec.fallback) 1
  | 7 => bytesLE Config.islandFw.toNat 4 ++ digestBytes Config.islandRom ++ bytesLE d.mi.sealState 1
  | _ => if d.sec.staged then (d.sec.image (!d.sec.preferred)).take 128 else List.replicate 128 0
/-- GET_MEASUREMENTS: the number of blocks (0), all of them (0xFF), or one; the response is signed. -/
def execGetMeasurements (doe : Bool) (m : SpdmMsg) (s : State) : Host.Outcome State Fault Refusal :=
  spdm s doe m 0x60 (fun d =>
    let bs := if m.param = 0 then bytesLE 8 1 else if m.param = 0xFF then (List.range 8).flatMap (fun k => d.measBlock (k + 1)) else
        d.measBlock m.param
    if 8 < m.param ∧ m.param ≠ 0xFF then none else some (bs ++ idSign bs, d))

/-- KEY_EXCHANGE starts the transport's one session, with a heartbeat period in seconds. -/
def execKeyExchange (doe : Bool) (m : SpdmMsg) (s : State) : Host.Outcome State Fault Refusal :=
  spdm s doe m 0x64 (fun d =>
    if (d.session doe).state ≠ 0 then none
    else some (idSign (Config.spdmBody s.d.fresh), d.setSession doe { state := 1, period := m.param % 256 }))
/-- When the next heartbeat is due: twice the period. -/
def Dev.nextBeat (d : Dev) (x : Session) : Option Nat := if x.period = 0 then none else some (d.tb2 + 2000000000 * x.period)
def execFinish (doe : Bool) (m : SpdmMsg) (s : State) : Host.Outcome State Fault Refusal :=
  spdm s doe m 0x65 (fun d =>
    let x := d.session doe
    if x.state ≠ 1 then none else some ([], d.setSession doe { x with state := 2, beat := d.nextBeat x }))
def execHeartbeat (doe : Bool) (m : SpdmMsg) (s : State) : Host.Outcome State Fault Refusal :=
  spdm s doe m 0x68 (fun d =>
    let x := d.session doe
    if x.state ≠ 2 then none else some ([], d.setSession doe { x with beat := d.nextBeat x }))
def execEndSession (doe : Bool) (m : SpdmMsg) (s : State) : Host.Outcome State Fault Refusal :=
  spdm s doe m 0x6C (fun d => if (d.session doe).state ≠ 2 then none else some ([], d.endSession doe))
/-- HEARTBEAT_TIMEOUT (R392). -/
def execHeartbeatTimeout (doe : Bool) (s : State) : Host.Outcome State Fault Refusal :=
  match (s.d.session doe).beat with
  | some t => if t ≤ s.d.tb2 then finish s (s.d.endSession doe) else ignored s
  | none => ignored s

/-! ## Debug (R394 to R396) -/

/-- A new challenge, valid once and for 60 s. -/
def Dev.newChallenge (d : Dev) : Dev :=
  let (c, d) := d.takeFresh
  { d with sec := { d.sec with chal := c, chalEnd := some (d.tb2 + 60000000000) } }

/-- Is a token of 4,691 bytes valid against the challenge (R395)? -/
def Dev.dbgTokenOk (d : Dev) (bs : List Byte) : Bool :=
  let body := bs.take 64
  (match d.sec.chalEnd with
   | some t => decide (d.tb2 < t)
   | none => false) &&
  bs.length == 4691 && leField bs 0 32 == d.sec.chal.toNat && leField bs 32 16 == Config.serial.toNat &&
  (leField bs 48 1 == 1 || leField bs 48 1 == 2) && leField bs 49 15 == 0 && Config.verify (Config.authority false) body (bs.drop 64)

/-- An unlock is attempted: refused in lockout; else FS82 and LEVEL, or FS81 and a failure (R395). -/
def Dev.dbgAttempt (d : Dev) (bs : List Byte) : Dev :=
  let d := d.setLeaf 0 0x1D4 8
  if d.sec.lockout then d
  else if d.dbgTokenOk bs then ({ d with sec := { d.sec with level := leField bs 48 1, chalEnd := none } }).once 82 0
  else
    ({ d with sec := { d.sec with chalEnd := none, fails := d.sec.fails + 1, lockout := decide (3 ≤ d.sec.fails + 1) } }).once 81 0

/-- A write of SEC_DBG_CTL; SUBMIT brings what its fetch returned: a failed read is FS63, and no token is checked (R324). -/
def Dev.secDbgWrite (d : Dev) (v : Nat) (token : Option (List Byte × HostRead)) : Dev :=
  let d := if bitOf v 0 then d.newChallenge else d
  let d := match bitOf v 1, token with
    | true, some (bs, .ok) => d.dbgAttempt bs
    | true, some _ => d.once 63 0
    | _, _ => d
  if bitOf v 2 then { d with sec := { d.sec with level := 0 } } else d

def execChalReq (fn : Nat) (value : Word) (s : State) : Host.Outcome State Fault Refusal :=
  pf0Wr s fn 0x2A010 (fun d => d.secDbgWrite value.toNat none)
def execSubmit (fn : Nat) (value : Word) (token : List Byte) (how : HostRead) (s : State) : Host.Outcome State Fault Refusal :=
  pf0Wr s fn 0x2A010 (fun d => d.secDbgWrite value.toNat (some (token, how)))
def execRelock (fn : Nat) (value : Word) (s : State) : Host.Outcome State Fault Refusal :=
  pf0Wr s fn 0x2A010 (fun d => d.secDbgWrite value.toNat none)

/-- The TAP works once the supervisor is up. -/
def onTap (s : State) (g : Dev → Dev) : Host.Outcome State Fault Refusal := if s.d.clocked && s.d.pwr.supUp then finish s (g s.d) else ignored s
def execDbgChal (s : State) : Host.Outcome State Fault Refusal :=
  onTap s (fun d => let d := d.newChallenge; d.send (.tap (bytesLE d.sec.chal.toNat 32)))
def execDbgToken (token : List Byte) (s : State) : Host.Outcome State Fault Refusal := onTap s (fun d => d.dbgAttempt token)

/-- JTAG_INSTRUCTION_LOAD (R330, R394): EXTEST holds its cause of blank while it is in effect; an instruction beyond the four needs an unlock,
and acts as BYPASS without one. -/
def execJtagInstructionLoad (code : Nat) (s : State) : Host.Outcome State Fault Refusal :=
  if s.d.pwr.off then ignored s
  else
    let i := if 4 ≤ code ∧ s.d.sec.level = 0 then 3 else code
    let d := { s.d with sec := { s.d.sec with jtag := i }, flt := { s.d.flt with extest := i == 0 } }
    let d := if i = 2 then d.send (.tap (bytesLE 0x15A12A6B 4)) else d
    finish s (d.blankSync s.net)

end Sys2Proof.Machine
end

