-- ==== Sys2Proof/Machine/Fetch.lean ====
section
/-!
DEFINITION. Fetch (R258 to R262), the execution of what is fetched, the flush of a stalled queue (R304), and failed host reads (R301, R305).
-/
namespace Sys2Proof.Machine

/-! ## When the device fetches -/

/-- Would the next entry of a function's admin queue be read: one command at a time, and in recovery PF0's alone (R280, R390, R412). -/
def Dev.adminFetch (d : Dev) (f : Nat) : Bool :=
  let x := d.fn f
  okFn f && (d.fetching || (d.inRecovery && f == 0 && d.clocked && d.io.linkUp)) && d.mayWrite f && x.aqActive && x.cmds.isEmpty &&
  x.aqHead != x.aqTail && decide (x.acq.used + 2 < x.acq.size)

/-! ## Reading an entry -/

/-- An entry of an I/O queue is in: the head moves past it. -/
def Dev.ioTake (d : Dev) (q : Nat) (c : Nat → Cmd) : Dev :=
  d.modQueue q (fun x => { x with head := (x.head + 1) % x.sqSize, cmds := x.cmds ++ [c x.head] })
/-- The same for an admin queue. -/
def Dev.adminTake (d : Dev) (f : Nat) (c : Nat → Cmd) : Dev :=
  d.modFn f (fun x => { x with aqHead := (x.aqHead + 1) % ringSize x.aqSqs, cmds := x.cmds ++ [c x.aqHead] })

/-- A command that is over as it is read. -/
def overCmd (idx : Nat) (s : Sqe) (c : Comp) (stalls : Bool) : Cmd :=
  { idx := idx, sqe := s, executed := true, effect := true, done := some c, stalls := stalls }

/-- The last completion of a flush enables the queue with SQ_HEAD at the flush tail (R304). -/
def Dev.flushEnd (d : Dev) (q : Nat) : Dev :=
  d.modQueue q (fun x => if x.state = .stalled ∧ x.flushTo = some x.head then { x with state := .enabled, flushTo := none } else x)

/-- An entry that cannot be read: FS64 on a timeout, FETCH_ERROR with CID 0xFFFF and its index; the queue stalls unless it is being flushed (R301,
R304, R305). -/
def Dev.ioUnread (d : Dev) (q : Nat) (timeout : Bool) : Dev :=
  let stalls := (d.queue q).state == .enabled
  let d := if timeout then d.once 64 q else d
  let d := d.ioTake q (fun i => overCmd i 0 { status := stFetch, dw2 := i, cid := 0xFFFF } stalls)
  (d.drain q).flushEnd q

/-- An admin entry that cannot be read (R305); its scope is 64 + the function (log entry 61). -/
def Dev.adminUnread (d : Dev) (f : Nat) (timeout : Bool) : Dev :=
  let d := if timeout then d.once 64 (64 + f) else d
  let i := (d.fn f).aqHead
  adminDoneAs (d.adminTake f (fun i => overCmd i 0 {} false)) f i { status := stFetch, dw2 := i, cid := 0xFFFF }
where
  /-- End the admin command with a CID of the completion's own. -/
  adminDoneAs (d : Dev) (f idx : Nat) (comp : Comp) : Dev :=
    (d.modFn f (fun x => { x with cmds := x.cmds.filter (fun c => c.idx != idx) })).acqPush f comp

/-! ## Payload -/

/-- Does a command have its payload or buffer read: its fields are valid and ask for one (R258, R261)? -/
def wantsPayload (admin : Bool) (dom : Nat) (s : Sqe) : Bool :=
  let op := sqeOp s
  if admin then op == 0x44 && sqeClean s && sqeAddr s % 8 == 0 && (sqeField s 20 1 == 0 || sqeField s 20 1 == 2) && dom == 0 &&
      decide (0 < sqeField s 16 4)
  else if op = 1 ∨ op = 7 then batchFieldsOk s dom
  else if op = 2 ∨ op = 8 then listFieldsOk s
  else op == 9 && sqeClean s && dom == 0 && sqeAddr s % 8 == 0 && decide (sqeField s 16 1 < 64) && decide (1 ≤ sqeField s 24 4) &&
    decide (sqeField s 24 4 ≤ 16384)

/-- Eight-byte words that are read. -/
def payloadWords (s : Sqe) : Nat := (payloadBytes s + 7) / 8

/-! ## Execution -/

/-- The front command of an I/O queue executes, if it may. -/
def runIo (q op : Nat) (s : State) : Host.Outcome State Fault Refusal :=
  if op = 1 then execConnectBatch q s
  else if op = 2 then execAttenSet q s
  else if op = 3 then execFence q s
  else if op = 4 then execQueryConn q s
  else if op = 5 then execCalRun q s
  else if op = 6 then execSnapshot q s
  else if op = 7 then execCellDirect q s
  else if op = 8 then execLoopMode q s
  else if op = 9 then execSeqLoad ⟨q, 0⟩ s
  else execNop q s

/-- A function's admin command executes, if it may. -/
def runAdmin (f op : Nat) (s : State) : Host.Outcome State Fault Refusal :=
  if op = 0x40 then execQueueCreate f s
  else if op = 0x41 then execQueueDelete f s
  else if op = 0x42 then execAbort f s
  else if op = 0x43 then execDomainSet f s
  else if op = 0x44 then execFwActivate f s
  else execIslandRead f s

/-- An entry of an I/O queue has been read with its payload: flushed, malformed for its opcode, or executed in its turn. -/
def ioFetched (q : Nat) (sqe : Sqe) (payload : List DWord) (s : State) : Host.Outcome State Fault Refusal :=
  let op := sqeOp sqe
  let ovr := fun (st : Nat) => finish s (((s.d.ioTake q (fun i => overCmd i sqe { baseComp op st with cid := sqeCid sqe } false)).drain q).flushEnd q)
  if (s.d.queue q).state = .stalled then ovr stQStalled
  else if !ioOpcode op then ovr stMalformed
  else
    let wants := wantsPayload false (s.d.queue q).domain sqe
    if wants && payload.length != payloadWords sqe then ignored s
    else
      let d := s.d.ioTake q (fun i => { idx := i, sqe := sqe, payload := if wants then payload else [] })
      let d := if wants then d.bus 0 false 3 (sqeAddr sqe) (payloadBytes sqe) else d
      runIo q op { s with d := d.notify }

/-- An entry of an admin queue has been read with its buffer. -/
def adminFetched (f : Nat) (sqe : Sqe) (payload : List DWord) (s : State) : Host.Outcome State Fault Refusal :=
  let op := sqeOp sqe
  let wants := wantsPayload true f sqe
  if wants && payload.length != payloadWords sqe then ignored s
  else
    let i := (s.d.fn f).aqHead
    let x := s.d.fn f
    let d := (s.d.bus 0 false 3 (x.aqSqBase + 64 * x.aqHead) 64).adminTake f (fun i => { idx := i, sqe := sqe, payload := if wants then
        payload else [] })
    let d := if wants then d.bus 0 false 3 (sqeAddr sqe) (payloadBytes sqe) else d
    if !adminOpcode op then finish s (d.adminDone f i (statusComp stMalformed)) else runAdmin f op { s with d := d.notify }

/-! ## Failed reads (R305) -/

/-- The payload of an I/O command could not be read: FS63, and FETCH_ERROR with no effect; a SEQ_LOAD keeps what came before the failure (R220). -/
def ioPayloadFails (q : Nat) (sqe : Sqe) (part : List DWord) (s : State) : Host.Outcome State Fault Refusal :=
  let dom := (s.d.queue q).domain
  if (s.d.queue q).state = .stalled ∨ !wantsPayload false dom sqe ∨ payloadWords sqe ≤ part.length then ignored s
  else
    let i := (s.d.queue q).head
    let d := s.d.once 63 dom
    let load := sqeOp sqe == 9
    let d := d.ioTake q (fun i => { idx := i, sqe := sqe, payload := if load then part else [], short := load })
    if load then execSeqLoad ⟨q, 0⟩ { s with d := d.notify } else finish s (d.complete q i (baseComp (sqeOp sqe) stFetch))

/-- The bundle of an FW_ACTIVATE could not be read: FS63, FETCH_ERROR, and STAGED at 0 (R387). -/
def adminPayloadFails (f : Nat) (sqe : Sqe) (part : List DWord) (s : State) : Host.Outcome State Fault Refusal :=
  if !wantsPayload true f sqe ∨ payloadWords sqe ≤ part.length then ignored s
  else
    let i := (s.d.fn f).aqHead
    let d := (s.d.once 63 f).adminTake f (fun i => { idx := i, sqe := sqe })
    finish s ({ d with sec := { d.sec with staged := false } }.adminDone f i (statusComp stFetch))


/-- The fetch of an I/O queue ends: its read must be out. What returns for a fetch that a reset cut off, or for a queue that is no longer to be
fetched,
is discarded, and the entry is read again (R300, R317, R428). -/
def onFetch (q : Nat) (s : State) (g : State → Host.Outcome State Fault Refusal) : Host.Outcome State Fault Refusal :=
  match s.d.mtx.fetchOf q with
  | none => ignored s
  | some b =>
    if !b.out then ignored s
    else if b.dead || !s.d.ioFetch q then finish s (s.d.endFetch q)
    else g { s with d := s.d.endFetch q }

/-- The function that a reader reads for. -/
def Dev.readerFn (d : Dev) (r : Reader) : Nat :=
  match r with
  | .io q => (d.queue q).domain
  | .admin f => f
  | .refill => 0

/-- The uncorrectable error that a failed read reports in the function's AER status, where the base specification has the requester report it (R247;
PRESUMED, log entry 123). -/
def Dev.aerRead (d : Dev) (f : Nat) (how : HostRead) : Dev :=
  let bit := match how with
    | .timeout => 0x4000
    | .poisoned => 0x1000
    | _ => 0
  d.modFn f (fun x => { x with cfg := { x.cfg with aerUnc := x.cfg.aerUnc ||| bit } })

/-- A device read failed: the entry is none where it was the entry's own read. -/
def readFails (r : Reader) (sqe : Option Sqe) (part : List DWord) (how : HostRead) (s : State) : Host.Outcome State Fault Refusal :=
  let s := { s with d := s.d.aerRead (s.d.readerFn r) how }
  let timeout := how == .timeout
  match r, sqe with
  | .io q, none => finish s (s.d.ioUnread q timeout)
  | .io q, some e => ioPayloadFails q e part s
  | .admin f, none => finish s (s.d.adminUnread f timeout)
  | .admin f, some e => adminPayloadFails f e part s
  | .refill, _ => finish s ((s.d.once 63 0).seqErr 7).rfEnds

/-! ## Commands -/

/-- COMMAND_FETCH: both reads have ended, well or not (R258, R305). -/
def execCommandFetch (admin : Bool) (q : Nat) (sqe : Sqe) (payload : List DWord) (entry data : HostRead) (s : State) :
    Host.Outcome State Fault Refusal :=
  let r : Reader := if admin then .admin q else .io q
  let go := fun (s : State) =>
    if entry ≠ .ok then readFails r none [] entry s
    else if data ≠ .ok then readFails r (some sqe) payload data s
    else if admin then adminFetched q sqe payload s
    else ioFetched q sqe payload s
  if admin then (if s.d.adminFetch q then go s else ignored s) else onFetch q s go

/-- A failed read of any reader. -/
def readFailure (r : Reader) (sqe : Option Sqe) (part : List DWord) (how : HostRead) (s : State) : Host.Outcome State Fault Refusal :=
  match r with
  | .io q => onFetch q s (readFails r sqe part how)
  | .admin f => if s.d.adminFetch f then readFails r sqe part how s else ignored s
  | .refill => if s.d.refillNext.isSome then readFails r sqe part how s else ignored s

/-- COMPLETION_TIMEOUT: with the timeout disabled in Device Control 2 no read times out (R247, R305). -/
def execCompletionTimeout (r : Reader) (sqe : Option Sqe) (part : List DWord) (s : State) : Host.Outcome State Fault Refusal :=
  if bitOf (s.d.fn (s.d.readerFn r)).cfg.devCtl2 4 then ignored s else readFailure r sqe part .timeout s

/-- HOST_READ_FAILURE: a poisoned, UR or CA completion (R305). -/
def execHostReadFailure (r : Reader) (sqe : Option Sqe) (part : List DWord) (how : HostRead) (s : State) : Host.Outcome State Fault Refusal :=
  if how = .ok then ignored s else readFailure r sqe part how s

end Sys2Proof.Machine
end

