-- ==== Sys2Proof/Machine/Power.lean ====
section
/-!
DEFINITION. Supply, clocks, temperature, Dawn and Dusk (R397 to R415, R459).
-/
namespace Sys2Proof.Machine

/-! ## Dawn (R408 to R413) -/

/-- A new Dawn at D0: every register at its reset value and the map empty; what the NVM, the OTP and the pins hold stays. After a request the
rails, the clock and the link stay as they are (R408, R415, R443); a low VIN48 and a clock disagreement of the island are found again. -/
def newDawn (s : State) (power refsel : Bool) (strap : BitVec 4) : State :=
  let o := s.d
  let d : Dev := {
    io := { linkUp := !power && o.io.linkUp, linkGen := if power then 0 else o.io.linkGen, linkWidth := if power then 0 else o.io.linkWidth,
            linkFlit := !power && o.io.linkFlit, perst := o.io.perst, attn := o.io.attn, out := o.io.out },
    flt := { blankN := o.flt.blankN, extest := !power && o.flt.extest, errN := o.flt.errN, permit := o.flt.permit },
    cal := { bankA := o.cal.bankA, bankB := o.cal.bankB },
    sec := { counter := o.sec.counter, revoked := o.sec.revoked, img0 := o.sec.img0, img1 := o.sec.img1, preferred := o.sec.preferred,
             jtag := if power then 3 else o.sec.jtag },
    pwr := { refSel := refsel, strapId := strap.toNat, pllLock := !power && o.pwr.pllLock, refOk := !power && o.pwr.refOk,
             rails := if power then 0 else o.pwr.rails, vinWarn := !power && o.pwr.vinWarn },
    fresh := o.fresh }
  let d := if d.pwr.vinWarn then d.condOn 15 0 else d
  let d := if s.isl.up && s.isl.uncClock then d.condOn 91 0 else d
  { s with d := d.notify, net := {}, mem := if power then {} else s.mem }

/-- VIN48_GOOD: from below the lockout, and after a Dawn that stopped at D0 (R411). -/
def execVin48Good (refsel : Bool) (strapId : BitVec 4) (s : State) : Host.Outcome State Fault Refusal :=
  if s.d.pwr.off || (s.d.pwr.phase == .stopped && s.d.pwr.halt == 1) then .next (newDawn s true refsel strapId) else ignored s

/-- Dawn stops (R411). -/
def Dev.dawnHalt (d : Dev) (halt : Nat) : Dev := { d with pwr := { d.pwr with phase := .stopped, halt := halt } }
/-- The next step begins. -/
def Dev.toStep (d : Dev) (k : Nat) : Dev := { d with pwr := { d.pwr with step := k, stepAt := d.tb2 } }

/-- D1 ends: the preferred slot boots, else the other; the counter is raised to what boots (R389, R390). -/
def Dev.dawnBoot (d : Dev) : Dev :=
  let p := d.sec.preferred
  let slot := if d.sec.boots p then some p else if d.sec.boots (!p) then some (!p) else none
  match slot with
  | none => ({ d with sec := { d.sec with recovery := true } }).dawnHalt 2
  | some b =>
    let bs := d.sec.image b
    let sec := { (d.sec.raise bs) with bootSlot := b, fallback := b != p, fwActive := imageVer bs 1, ucode := imageVer bs 2 }
    { d with sec := sec, pwr := { d.pwr with supUp := true } }.toStep 2

/-- D2 ends: the factory set verifies, and the newest valid bank's deltas are loaded, or neutral ones; a bank that was written and fails its digest
or its signature is reported (R226, R246). -/
def Dev.dawnLoad (d : Dev) (n : Net) : Dev :=
  if !Config.factoryGood then (d.fatalOn n 12 0).dawnHalt 3
  else
    let c := d.cal
    let c := match c.inForce with
      | some b => { c with delta := (c.bank b).set, noDelta := false }
      | none => { c with delta := {}, noDelta := true }
    let bad := c.bankA.broken || c.bankB.broken
    let d := if bad then d.setLeaf 0 0x1C0 8 else d
    let c := if bad then { c with err := c.err ||| 16 } else c
    { d with cal := { c with factValid := true }, fab := { d.fab with gstLoaded := true } }.toStep 3

/-- D3 ends and D4 begins: coefficients at the sensors' temperatures (R227), every cell's heater target on its branch (R15, R153) and its heaters at
their feed-forward, every VOA cell driven to DARK, and blank applied from now on (R334, R409). -/
def Dev.dawnArm (d : Dev) (n : Net) : Dev :=
  let tiles := Tab.modMany {} (fun tn (t : Tile) => { t with tUse := some (d.sensor tn).temp }) (List.range 336) d.fab.tiles
  let lanes := (List.range 128).foldl (fun t k => t.set none k (some (d.sensor (336 + k / 8)).temp)) d.cal.flUse
  let d := { d with fab := { d.fab with tiles := tiles }, cal := { d.cal with flUse := lanes }, drv := { d.drv with armed := true } }
  let arm := fun (ca : Nat) (c : Cell) =>
    let phi := if isVoaCa ca then halfTurn else swPhase (n.swOf ca)
    { c with
      phiTgt := d.onBranch ca phi
      phiTh := d.bias ca
      f := if isVoaCa ca then wrapHalf (phi - d.bias ca) else c.f
      region := if isVoaCa ca then 5 else c.region }
  let d := { d with fab := { d.fab with cells := Tab.modMany {} arm allCells d.fab.cells } }
  let heat := fun (aa : Nat) (l : Loop) => let u := d.ff [] aa; { l with u := u, v := u, drv := powerCode u, drvPrev := powerCode u }
  (({ d with fab := { d.fab with loops := Tab.modMany {} heat allHeaters d.fab.loops } }).toStep 4).blankSync n

/-- D4 ends: every heater is at its target. D5 begins: PARK becomes AUTO_3P3Z (R161). -/
def Dev.dawnLoops (d : Dev) : Dev :=
  let arrive := fun (_ : Nat) (c : Cell) => { c with phiTh := c.phiTgt, f := 0 }
  let cells := Tab.modMany {} arrive allCells d.fab.cells
  let loops := Tab.modMany {} (fun _ (l : Loop) => { l with mode := 5, preset := 2 }) allHeaters d.fab.loops
  ({ d with fab := { d.fab with cells := cells, loops := loops } }).toStep 5

/-- Is a lit cell at the condition of D5: a switch cell in NEAR or beyond, a VOA cell within 3 dB of its target? -/
def Dev.dawnNear (d : Dev) (ca : Nat) : Bool :=
  if !isVoaCa ca then (d.cell ca).region != 0
  else match (d.mrt (mkMpa ca 0)).tick with
    | none => false
    | some (t, _, _) => match d.tickTaps ca t with
      | none => false
      | some (a, b) => if (d.cell ca).dark then decide (dbm 37 ≤ attMeas a b) else decide ((attMeas a b * 256 - d.attEff ca).natAbs ≤ 50331648)
/-- The lit cells. -/
def litCells (n : Net) (d : Dev) : List Nat := d.fab.cells.keys.filter (fun ca => lit n d ca)

/-- The limit of a Dawn step, ns (R409, R411). -/
def dawnLimit (k : Nat) : Nat :=
  [100000000, 300000000, 250000000, 20000000, 30000000, 600000000, 100000000, 100000000, 10000000].getD k 0

/-- Is the condition that ends a Dawn step met, as far as the device's own state tells it (R409)? -/
def Dev.dawnMet (d : Dev) (n : Net) (k : Nat) : Bool :=
  if k = 0 then d.pwr.rails == 0x3F && d.pwr.pllLock
  else if k = 5 then (litCells n d).all d.dawnNear
  else if k = 6 then (litCells n d).all (fun ca => (d.cell ca).locked)
  else true

/-- Cells reported when D5 or D6 ends by its limit (R410). -/
def Dev.dawnLate (d : Dev) (cas : List Nat) : Dev := cas.foldl (fun d ca => d.condOn 28 ca) d

/-- Dusk begins: every queue is aborted, calibration ends, the sequencer stops and its lanes are unbound (R320, R414). -/
def Dev.startDusk (d : Dev) : Dev :=
  let d := { d with pwr := { d.pwr with phase := .dusk, step := 0, stepAt := d.tb2, duskAt := d.tb2, duskWait := false } }
  let d := ((List.range 64).foldl (fun d q => d.startAbort .dusk q) d).calEnd
  let d := if d.seq.state == .stopped then d else d.seqStop
  (List.range 4).foldl (fun d l => d.unbindLane l) d

/-- The end of one Dawn step and the start of the next. -/
def Dev.dawnStep (s : State) (d : Dev) (late : Bool) : Dev :=
  let n := s.net
  match d.pwr.step with
  | 0 =>
    if late then
      let d := if d.pwr.rails % 64 = 0x3F then d.fatalOn n 4 0 else d.fatalOn n 3 0
      d.dawnHalt 1
    else d.toStep 1
  | 1 => d.dawnBoot
  | 2 => d.dawnLoad n
  | 3 => d.dawnArm n
  | 4 => d.dawnLoops
  | 5 => (if late then d.dawnLate ((litCells n d).filter (fun ca => !d.dawnNear ca)) else d).toStep 6
  | 6 => (if late then d.dawnLate ((litCells n d).filter (fun ca => !(d.cell ca).locked)) else d).toStep 7
  | 7 => (if late then d.condOn 90 0 else d).toStep 8
  | _ =>
    let d := if d.pwr.done then d else { d with pwr := { d.pwr with done := true, dawnMs := min 65535 (d.tb2 / 1000000) } }
    if d.permitOk then { d with pwr := { d.pwr with phase := .run } } else d

/-- DAWN_STEP_END: the step in progress ends by its condition or its limit; in the fatal state Dawn waits; a requested Dusk runs instead of the
next step (R409 to R413). -/
def execDawnStepEnd (byLimit : Bool) (s : State) : Host.Outcome State Fault Refusal :=
  let d := s.d
  let k := d.pwr.step
  let limit := decide (d.pwr.stepAt + dawnLimit k ≤ d.tb2)
  let met := d.dawnMet s.net k && (k != 7 || (d.mi.alive && s.isl.up && !s.isl.dip))
  let ends := if byLimit then limit && (k == 0 || k == 5 || k == 6 || k == 7) && !met else met
  if d.pwr.phase != .dawn || !ends || !d.clocked || (d.flt.fatal && !d.pwr.duskWait) then ignored s
  else if d.pwr.duskWait then finish s d.startDusk
  else finish s (d.dawnStep s byLimit)

/-! ## Requests (R408, R414) -/

/-- A fatal source is CURRENT. -/
def Dev.fatalCurrent (d : Dev) : Bool := (List.range 13).any (fun n => (d.src n).current)

/-- DAWN_REQ starts Dawn: in PARKED with no fatal source CURRENT (R408). -/
def Dev.dawnMay (d : Dev) : Bool := d.pwr.phase == .parked && !d.fatalCurrent

/-- A write of PWR_CTL: DUSK_REQ in RUN, or in DAWN for the end of its step. -/
def Dev.duskWrite (d : Dev) (v : Nat) : Dev :=
  if !bitOf v 0 then d
  else match d.pwr.phase with
    | .run => d.startDusk
    | .dawn => { d with pwr := { d.pwr with duskWait := true } }
    | _ => d

/-- DUSK_REQ. -/
def execDuskReq (fn : Nat) (value : Word) (s : State) : Host.Outcome State Fault Refusal := pf0Wr s fn 0x25000 (fun d => d.duskWrite value.toNat)

/-- DAWN_REQ: in PARKED with no fatal source CURRENT. -/
def execDawnReq (fn : Nat) (value : Word) (s : State) : Host.Outcome State Fault Refusal :=
  if s.d.reach fn && fn == 0 && bitOf value.toNat 1 && s.d.dawnMay then
    .next (newDawn s false s.d.pwr.refSel (BitVec.ofNat 4 s.d.pwr.strapId))
  else pf0Wr s fn 0x25000 (fun d => d.duskWrite value.toNat)

/-! ## Dusk (R414, R415) -/

/-- Every driver is high-impedance. -/
def Dev.driversOff (d : Dev) : Dev :=
  { d with drv := { d.drv with armed := false },
           fab := { d.fab with loops := d.fab.loops.mapVals {} (fun _ l => { l with drv := 0, drvPrev := 0, drvNext := none, u := 0, dither := false, ap := 0, amplNext := none }) } }

/-- The end of one Dusk step and the start of the next. -/
def Dev.duskStep (d : Dev) : Dev :=
  match d.pwr.step with
  | 0 => d.toStep 1
  | 1 => (((d.overrideVoas outVoas).overrideVoas inVoas).darkTargets).toStep 2
  | 2 => (({ d with fab := { d.fab with loops := d.fab.loops.mapVals {} (fun _ l => { l with amplNext := if l.dither then some 0 else
      none }) } }).holdLoops).toStep 3
  | 3 => ({ d with fab := { d.fab with loops := d.fab.loops.mapVals {} (fun _ l => { l with manual := l.u }) } }).toStep 4
  | 4 => (d.driversOff).toStep 5
  | _ => { d with pwr := { d.pwr with phase := .parked, duskUs := min 65535 ((d.tb2 - d.pwr.duskAt) / 1000) } }

/-- DUSK_STEP_END: DK0 ends with the aborts, DK4 after its ramp of 8 ms. With blank in force DK2 changes nothing (R414). -/
def execDuskStepEnd (s : State) : Host.Outcome State Fault Refusal :=
  let d := s.d
  let busy := d.pwr.step == 0 && (List.range 64).any (fun q => (d.queue q).aborting)
  let ramp := d.pwr.step == 4 && decide (d.tb2 < d.pwr.stepAt + 8000000)
  if d.pwr.phase != .dusk || busy || ramp || !d.clocked then ignored s
  else if d.pwr.step = 1 ∧ d.blankOn then finish s (d.toStep 2)
  else finish s d.duskStep

/-! ## Supply (R398, R399) -/

/-- VIN_WARN (R398, R243). -/
def execVinWarn (mv10 : Nat) (s : State) : Host.Outcome State Fault Refusal :=
  let d := s.d
  if d.pwr.off || d.pwr.vinWarn || decide (d.pwr.vWarn ≤ mv10) then ignored s
  else finish s ((({ d with pwr := { d.pwr with vinWarn := true } }).condOn 15 0).setLeaf 0 0x1D8 4 |>.storeAbandon true)

/-- VIN48_LOW: below 38.0 V. -/
def execVin48Low (mv10 : Nat) (s : State) : Host.Outcome State Fault Refusal :=
  if s.d.pwr.off || decide (3800 ≤ mv10) then ignored s else finish s ((s.d.storeAbandon true).fatalOn s.net 1 0)

/-- VIN48_HIGH: above 62.0 V. -/
def execVin48High (mv10 : Nat) (s : State) : Host.Outcome State Fault Refusal :=
  if s.d.pwr.off || decide (mv10 ≤ 6200) then ignored s else finish s (s.d.fatalOn s.net 2 0)

/-- UVLO: every rail but the island's is off, and every driver high-impedance (R204, R398). -/
def execUvlo (mv10 : Nat) (s : State) : Host.Outcome State Fault Refusal :=
  if s.d.pwr.off || decide (3700 ≤ mv10) then ignored s
  else
    let d := (s.d.storeAbandon true).driversOff
    let d := { d with pwr := { off := true, phase := .stopped, refSel := d.pwr.refSel, strapId := d.pwr.strapId },
                      io := { d.io with linkUp := false, linkGen := 0, linkWidth := 0, linkFlit := false } }
    .next { s with d := d.notify, isl := { s.isl with dip := true } }

/-- VIN48_RETURN: above V_WARN with its hysteresis of 0.5 V, above V_FS01, below V_FS02. -/
def execVin48Return (mv10 : Nat) (s : State) : Host.Outcome State Fault Refusal :=
  let d := s.d
  if d.pwr.off then ignored s
  else
    let d := if d.pwr.vinWarn && decide (d.pwr.vWarn + 50 ≤ mv10) then
        { d with pwr := { d.pwr with vinWarn := false },
                 cal := if d.cal.retry then { d.cal with retryAt := some d.tb2 } else d.cal }.condOff 15 0 else d
    let d := if !(d.src 1).conds.isEmpty && decide (3800 ≤ mv10) then d.fatalOff s.net 1 0 else d
    finish s (if !(d.src 2).conds.isEmpty && decide (mv10 ≤ 6200) then d.fatalOff s.net 2 0 else d)

/-- A rail within its window, mV (R399). -/
def railIn (rail mv : Nat) : Bool :=
  if rail = 5 then decide (4700 ≤ mv) && decide (mv ≤ 5600)
  else
    let nom := [750, 800, 1800, 1200, 3300].getD rail 0
    decide (19 * nom ≤ 20 * mv) && decide (20 * mv ≤ 21 * nom)

/-- RAIL_OUT_OF_WINDOW: FS03 for rails 0 to 4; HRAIL has HRAIL_LOW with FS18, and FS11 below 4.00 V (R324). -/
def execRailOutOfWindow (rail mv : Nat) (s : State) : Host.Outcome State Fault Refusal :=
  let d := s.d
  if d.pwr.off || decide (6 ≤ rail) || railIn rail mv || !bitOf d.pwr.rails rail then ignored s
  else
    let d := { d with pwr := { d.pwr with rails := d.pwr.rails - 2 ^ rail } }
    if rail < 5 then finish s (if (d.src 3).conds.contains 0 then (d.once 3 0).settleFatal s.net 3 else d.fatalOn s.net 3 0)
    else finish s (d.railTick s.net mv)

/-- RAIL_IN_WINDOW. -/
def execRailInWindow (rail mv : Nat) (s : State) : Host.Outcome State Fault Refusal :=
  let d := s.d
  if d.pwr.off || decide (6 ≤ rail) || !railIn rail mv || bitOf d.pwr.rails rail then ignored s
  else
    let d := { d with pwr := { d.pwr with rails := d.pwr.rails + 2 ^ rail } }
    if rail = 5 then finish s (d.railTick s.net mv)
    else if d.pwr.rails % 32 = 31 ∧ (d.src 3).conds.contains 0 then finish s (d.fatalOff s.net 3 0)
    else finish s d

/-- POWER_MEAN: each millisecond (R404, R416). -/
def execPowerMean (vin10 pin : Nat) (s : State) : Host.Outcome State Fault Refusal :=
  let d := s.d
  if d.tb2 % 1000000 != 0 || decide (d.tb2 = 0) || d.pwr.meanAt == d.tb2 + 1 || !d.clocked then ignored s
  else
    let p := d.pwr
    let pin := min pin 65535
    let run := fun (c : Nat) (on : Bool) => if on then min 100 (c + 1) else 0
    let p := { p with meanAt := d.tb2 + 1, vin := min vin10 65535, pin := pin, peak := max p.peak pin,
                      overW := run p.overW (decide (10 * p.warn < pin)), underW := run p.underW (decide (pin + 100 ≤ 10 * p.warn)),
                      overA := run p.overA (decide (10 * p.alarm < pin)), underA := run p.underA (decide (pin + 100 ≤ 10 * p.alarm)) }
    let d := { d with pwr := p }
    let set := fun (d : Dev) (src ovr under bit : Nat) =>
      if ovr = 100 then (if (d.src src).conds.isEmpty then (d.condOn src 0).setLeaf 0 0x1D8 bit else d)
      else if under = 100 then d.condOff src 0 else d
    let d := set (set d 16 p.overW p.underW 1) 17 p.overA p.underA 2
    finish s { d with pwr := { d.pwr with capWarn := !(d.src 16).conds.isEmpty, capAlarm := !(d.src 17).conds.isEmpty } }

/-- PERMIT_SENSE: loop current while LIGHT_PERMIT is withdrawn (R459). -/
def execPermitSense (s : State) : Host.Outcome State Fault Refusal :=
  if s.d.pwr.off || s.d.flt.permit then ignored s else finish s ((s.d.once 10 0).settleFatal s.net 10)

/-! ## Clocks (R402) -/

def execPllLockLoss (s : State) : Host.Outcome State Fault Refusal :=
  let d := s.d
  if d.pwr.off || !d.pwr.pllLock then ignored s
  else finish s (({ d with pwr := { d.pwr with pllLock := false, lockLoss := satAdd d.pwr.lockLoss 1 8 } }).fatalOn s.net 4 0)

/-- PLL_LOCK_REGAINED, and the first lock in D0, which shows that REFIN is present. -/
def execPllLockRegained (s : State) : Host.Outcome State Fault Refusal :=
  let d := s.d
  if d.pwr.off || d.pwr.pllLock then ignored s
  else
    let d := { d with pwr := { d.pwr with pllLock := true, refOk := d.pwr.refOk || (d.src 5).conds.isEmpty } }
    finish s (if (d.src 4).conds.isEmpty then d else d.fatalOff s.net 4 0)

def execRefinLoss (s : State) : Host.Outcome State Fault Refusal :=
  let d := s.d
  if d.pwr.off || !d.pwr.refOk then ignored s else finish s (({ d with pwr := { d.pwr with refOk := false } }).fatalOn s.net 5 0)

def execRefinRestored (s : State) : Host.Outcome State Fault Refusal :=
  let d := s.d
  if d.pwr.off || d.pwr.refOk then ignored s
  else
    let d := { d with pwr := { d.pwr with refOk := true } }
    finish s (if (d.src 5).conds.isEmpty then d else d.fatalOff s.net 5 0)

/-! ## Temperature (R406, R407) -/

/-- Tiles next to a tile in its column and plane. -/
def tileNeighbours (tn : Nat) : List Nat :=
  ([tn + 1] ++ (if tn = 0 then [] else [tn - 1])).filter (fun k => decide (k < 336) && tilePlane k == tilePlane tn &&
      caCol (tileBase k) == caCol (tileBase tn))
/-- Is a reading more than 15 °C from the mean of the valid neighbours? -/
def Dev.outlier (d : Dev) (n : Nat) (t : Int) : Bool :=
  let vs := if n < 336 then ((tileNeighbours n).map d.sensor).filter (·.valid) else []
  let sum := (vs.map (·.temp)).sum
  !vs.isEmpty && decide (240 * vs.length < (t * vs.length - sum).natAbs)
/-- The sensor after an update. -/
def Sensor.update (x : Sensor) (t : Int) (bad : Bool) : Sensor :=
  if bad then { x with temp := t, valid := false, goodRun := 0, seen := true }
  else
    let g := min 10 (x.goodRun + 1)
    { temp := t, valid := x.valid || !x.seen || decide (10 ≤ g), goodRun := g, seen := true }
/-- Some valid sensor reads at least t. -/
def Dev.hotAt (d : Dev) (t : Int) : Bool := d.thm.sensors.any (fun p => p.2.valid && decide (t ≤ p.2.temp))
/-- A sensor's update: FS27 for a tile sensor that turns invalid, FS13 at 150 °C, FS00 with Dusk at 155 °C. -/
def Dev.sensorUpdate (d : Dev) (n : Net) (k : Nat) (t : Int) (err : Bool) : Dev :=
  let bad := err || decide (t < -1120) || decide (2800 < t) || d.outlier k t
  let d := { d with thm := { d.thm with sensors := d.thm.sensors.mod {} k (fun x => x.update t bad) } }
  let d := if 336 ≤ k then d else if bad then d.condOn 27 k else if (d.sensor k).valid then d.condOff 27 k else d
  let d := if bad then d else d.calReading k t
  let d := if d.hotAt 2400 then (if (d.src 13).conds.isEmpty then (d.condOn 13 0).setLeaf 0 0x1D8 16 else d) else d.condOff 13 0
  if !d.hotAt 2480 then (if (d.src 0).conds.isEmpty then d else d.fatalOff n 0 0)
  else if !(d.src 0).conds.isEmpty then d
  else
    let d := d.fatalOn n 0 0
    if d.pwr.phase = .run ∨ d.pwr.phase = .dawn then d.startDusk else d

def execSensorUpdate (sensor : Nat) (temp : Int) (convErr : Bool) (s : State) : Host.Outcome State Fault Refusal :=
  if decide (352 ≤ sensor) || !s.d.clocked then ignored s else finish s (s.d.sensorUpdate s.net sensor temp convErr)

end Sys2Proof.Machine
end

