-- ==== Sys2Proof/Machine/Force.lean ====
section
/-!
DEFINITION. FLT_SRC_STAT and FLT_SRC_CFG (R339): injected conditions and their reactions (R326, R327), LATCHED (R325), recovery and its
limit (R328). A real occurrence reacts where it occurs; what is here is the reaction of a forced one.
-/
namespace Sys2Proof.Machine

/-! ## Reactions of a forced occurrence with INJ_ACT = 1 (R323, R324, R326) -/

/-- The LE that serves a tile stops, without an error of its own; a scope of 336 and above names a spare. -/
def Dev.forceLe (d : Dev) (scope : Nat) : Dev :=
  if 352 ≤ scope then d
  else
    let k := if isSpare scope then scope else d.serving scope
    if isSpare k then d.spareFails k else d.ownFails k

/-- The stall of a queue by a fault with no entry of its own: at its first command that has not taken effect. -/
def Dev.forceStall (d : Dev) (q : Nat) : Dev :=
  let x := d.queue q
  if !okQueue q || x.state != .enabled then d
  else
    let gone := (x.cmds.dropWhile (·.effect)).map (·.idx)
    let stall := gone.head?.getD x.head
    let d := (d.dropCmds q (fun i => gone.contains i)).modQueue q (fun x => { x with state := .stalled, head := stall })
    d.evt x.domain 5 (pack [(q, 0), (stFetch, 8), (0xFFFF, 16)]) stall 0 0

/-- A fast lane leaves the pool: a capture ends aborted, and a claim waits for the lane (R323). -/
def Dev.laneBad (d : Dev) (k : Nat) : Dev :=
  if 128 ≤ k then d
  else
    let l := d.fl k
    let cut := l.state == .armed || l.state == .capturing
    let verifies := l.state == .verify
    let d := match l.att with
      | some m => if verifies then d.slowCheck (mpaCell m) else d
      | none => d
    let d := if l.state == .reserved || verifies then d.modSlot l.slot (fun s => { s with lanes := s.lanes.filter (· != k) }) else d
    let d := { d with cmt := { d.cmt with restoring := d.cmt.restoring.map (fun (r : Restore) => { r with lanes := r.lanes.filter (· != k) }) } }
    let d := if cut then (d.count 2947).setLeaf 0 (0x1B0 + 4 * (k / 32)) (2 ^ (k % 32)) else d
    d.modFl k (fun l => { l with state := .free, bad := true, att := none, arm := false, aborted := l.aborted || cut,
                                 flags := if cut then 3 else l.flags, claimPend := l.claim })
/-- It passes its self-test and is FREE again; a claim that waits takes it. -/
def Dev.laneGood (d : Dev) (k : Nat) : Dev :=
  if 128 ≤ k || !(d.fl k).bad then d
  else d.modFl k (fun l => { l with bad := false, state := if l.claimPend then .claimed else .free, claimPend := false })

/-- The connections that cross a cell become single-plane (R97). -/
def Dev.losePlanes (d : Dev) (n : Net) (ca : Nat) : Dev :=
  let p := caPlane ca
  n.conns.foldl (fun d c =>
    if !(c.outs.any (fun o => n.crosses c o [ca] p)) || c.dark.isSome || d.cmt.planes.any (fun j => j.inp == c.inp) then d
    else d.dropPlane d.cmt.ver.twinKeep c p (some ca)) d

/-- FS37: the connection of a light path becomes single-plane in the plane that the scope names alone. -/
def Dev.losePath (d : Dev) (n : Net) (scope : Nat) : Dev :=
  let p := fieldOf scope 18 2
  match n.ofIn (scope % 512) with
  | none => d
  | some c =>
    if (p != 1 && p != 2) || c.dark.isSome || d.cmt.planes.any (fun j => j.inp == c.inp) then d
    else d.dropPlane d.cmt.ver.twinKeep c (p - 1) none

/-- The reaction beyond the class of a fatal source (R324). -/
def Dev.forceFatal (d : Dev) (n : Net) (src : Nat) : Dev :=
  let d := if src = 1 then d.storeAbandon true else d
  let d := d.settleFatal n src
  if src = 0 then (if d.pwr.phase = .run ∨ d.pwr.phase = .dawn then d.startDusk else d)
  else if src = 12 ∧ d.pwr.phase = .dawn ∧ d.pwr.step = 2 then d.dawnHalt 3
  else d

/-- The reaction of a forced occurrence. Sources whose reaction is only that others read them as reacting, and those that only report, do
nothing here. -/
def Dev.scopeReact (d : Dev) (n : Net) (src scope : Nat) : Dev :=
  if src ≤ 12 then d.forceFatal n src
  else if src = 21 ∨ src = 22 ∨ src = 26 then d.forceLe scope
  else if src = 25 then
    if okTile scope && d.leState scope == .own && (d.le scope).pend.isNone then
      d.modLe scope (fun l => { l with state := some .unavailable, cause := some .permanent })
    else d
  else if src = 28 then if isCellCa scope then d.modHeaters scope Loop.toAcquire else d
  else if src = 29 then if isCellCa scope then (d.driveReact n 29 scope).losePlanes n scope else d
  else if 30 ≤ src ∧ src ≤ 32 then if isCellCa scope then d.driveReact n src scope else d
  else if src = 33 then d.driveReact n 33 scope
  else if src = 37 then d.losePath n scope
  else if src = 47 ∨ src = 48 then d.laneBad scope
  else if src = 52 then if d.seq.state == .stopped then d else d.seqStop
  else if src = 53 then d.rfEnds
  else if src = 64 then d.forceStall scope
  else if src = 65 then d.resetPf0.endSession false
  else if src = 71 then if okTile scope then d.modTile scope (fun t => { t with holdErr := true }) else d
  else if src = 78 ∨ src = 79 then if d.pwr.supUp && d.sec.restart.isNone then d.restartSup else d
  else d

/-- FORCE is set: an injected occurrence at FLT_INJ_SCOPE (R326). -/
def Dev.inject (d : Dev) (n : Net) (src : Nat) : Dev :=
  let scope := d.flt.injScope
  let d := (d.modSrc src (fun s => { s with force := true, forceScope := scope })).signal src scope true
  if !d.flt.injAct || srcClass src == 0 then d else d.scopeReact n src scope

/-! ## FLT_SRC_STAT -/

/-- A write of FLT_SRC_STAT[src]: LATCHED clears unless CURRENT, OUT clears with the window's count, FORCE is set or released (R325, R326,
R328). -/
def Dev.srcStatWrite (d : Dev) (n : Net) (src v : Nat) : Dev :=
  if 96 ≤ src then d
  else
    let now := d.tb2
    let d := if bitOf v 1 && !(d.src src).current then d.modSrc src (fun s => { s with latched := false, real := false, inj := false }) else d
    let d := if bitOf v 4 && (d.src src).out then
        d.modSrc src (fun s => { s with out := false, recs := [], insts := s.insts.map (fun (i : Inst) => { i with since := i.since.map (fun _ => now) }) })
      else d
    let want := bitOf v 5 && d.flt.injEn && !srcReserved src
    let d := if want && !(d.src src).force then d.inject n src else if want then d else d.unforce src
    (d.settleFatal n src).pathFaults n

/-- FLT_SRC_STAT with FORCE changed. -/
def execForce (fn src : Nat) (value : Word) (s : State) : Host.Outcome State Fault Refusal :=
  pf0Wr s fn (0x1C100 + 8 * src) (fun d => d.srcStatWrite s.net src value.toNat)
/-- FLT_SRC_STAT with LATCHED = 1. -/
def execLatchedClear (fn src : Nat) (value : Word) (s : State) : Host.Outcome State Fault Refusal :=
  pf0Wr s fn (0x1C100 + 8 * src) (fun d => d.srcStatWrite s.net src value.toNat)
/-- FLT_SRC_STAT with OUT = 1. -/
def execOutClear (fn src : Nat) (value : Word) (s : State) : Host.Outcome State Fault Refusal :=
  pf0Wr s fn (0x1C100 + 8 * src) (fun d => d.srcStatWrite s.net src value.toNat)

/-! ## FLT_SRC_CFG -/

/-- A write of FLT_SRC_CFG[src]: EVT_EN; the other fields unless a fatal source is locked; LIMIT and QUIET of 0 set 1 (R339). -/
def Dev.srcCfgWrite (d : Dev) (src v : Nat) : Dev :=
  if 96 ≤ src then d
  else
    let old := d.srcCfg src
    let new := fieldOf v 6 21
    let new := if fieldOf new 4 4 = 0 then new + 16 else new
    let new := if fieldOf new 8 13 = 0 then new + 256 else new
    let new := if d.flt.lock && srcClass src == 2 then old - old / 2 % 2 * 2 + new / 2 % 2 * 2 else new
    d.modSrc src (fun s => { s with cfg := if new = srcCfgReset src then none else some new })

/-! ## Recovery (R328) -/

/-- The recovery action of an instance that had its full reaction (R323, R324). -/
def Dev.recoverAct (d : Dev) (src scope : Nat) : Dev :=
  if 29 ≤ src ∧ src ≤ 33 then d.driveRecover src scope
  else if src = 47 ∨ src = 48 then
    if [47, 48].any (fun k => (d.src k).insts.any (fun i => i.full && i.scope == scope)) then d else d.laneGood scope
  else d

/-- The instance is over: it is forgotten, counted and reported with CURRENT = 0. -/
def Dev.recovered (d : Dev) (src : Nat) (i : Inst) : Dev :=
  let now := d.tb2
  let d := d.modSrc src (fun s => { s with recCnt := satAdd s.recCnt 1 8, recs := now :: s.recs, insts := s.insts.filter (fun x => x.scope != i.scope) })
  let d := if i.full then d.recoverAct src i.scope else d
  d.faultEvents src i.scope false ((d.src src).inj && !(d.src src).real)

/-- Length of the limit's window: an hour or a day, ns. -/
def Dev.srcSpan (d : Dev) (src : Nat) : Nat := if d.srcWin src then 86400000000000 else 3600000000000

/-- QUIET_PERIOD_END: an instance that has been quiet for QUIET ms recovers; at the limit the source sets OUT (R328). -/
def execQuietPeriodEnd (src scope : Nat) (s : State) : Host.Outcome State Fault Refusal :=
  let d := s.d
  match (d.src src).insts.find? (fun i => i.scope == scope) with
  | none => ignored s
  | some i =>
    match i.since with
    | none => ignored s
    | some t =>
      if (d.src src).currentAt scope || !d.srcRecEn src || (d.src src).out || decide (d.tb2 < t + d.srcQuiet src * 1000000) || !d.clocked then
          ignored s
      else
        let recent := (d.src src).recs.filter (fun r => decide (d.tb2 < r + d.srcSpan src))
        if d.srcLimit src < recent.length + 1 then finish s ((d.modSrc src (fun x => { x with out := true })).settleFatal s.net src)
        else finish s (((d.recovered src i).settleFatal s.net src).pathFaults s.net)

end Sys2Proof.Machine
end

