-- ==== Sys2Proof/Machine/TimeBase.lean ====
section
/-!
DEFINITION. The discipline of TB0: sources, measurements, steps, holdover, PPS, the ToD frame and PTM (R341 to R356, R471).
-/
namespace Sys2Proof.Machine

/-! ## Events and states -/

/-- A TIME event to PF0 with ATN_TIME [0] (R338, R355): KIND, signed value, items. -/
def Dev.timeEvt (d : Dev) (kind : Nat) (v : Int) (items : Nat) : Dev :=
  let t := d.tim
  let w := twos v 64
  (d.evt 0 7 (pack [(kind, 0), (t.state, 4), (t.validFlags, 8), (t.epoch % 65536, 16)]) (w % 2 ^ 32) (w / 2 ^ 32) (items % 65536)).setLeaf 0 0x1C4 1

/-- A change of the discipline: a holdover episode that begins counts from 0 (R344, R356). -/
def Dev.setTim (d : Dev) (f : Tim → Tim) : Dev :=
  let t := f d.tim
  { d with tim := if t.inHoldover && !d.tim.inHoldover then { t with hoTime := 0, hoFrac := 0 } else t }

/-- RATE is limited to ±200 ppm (R342). -/
def clampRate (r : Int) : Int := clampI r (-858993) 858993

/-- LOCKED becomes HOLDOVER, at the frequency term (R344). -/
def Dev.enterHoldover (d : Dev) : Dev :=
  let d := d.setTim (fun t => { t with state := 3, rejects := 0, rate := clampRate (divRound t.freq 4294967296) })
  ((d.count 3034).timeEvt 2 0 0).setLeaf 0 0x1C4 2

/-- The loss of the source ends (R347). -/
def Dev.found (d : Dev) : Dev := (d.setTim (fun t => { t with lost := false })).condOff 86 0

/-! ## Scheduled work (R348) -/

/-- Batches with a COMMIT_TIME that have executed and neither reached their Midnight nor completed. -/
def Dev.scheduledBatches (d : Dev) : List (Nat × Cmd) :=
  (List.range 64).flatMap (fun q => ((d.queue q).cmds.filter (fun c =>
    (sqeOp c.sqe == 1 || sqeOp c.sqe == 7) && sqeTime c.sqe != 0 && c.executed && !c.effect && c.done.isNone)).map (fun c => (q, c)))

/-- SNAPSHOTs with TRIG = 2 whose instant has not been reached. -/
def Dev.scheduledSnaps (d : Dev) : List SnapJob := d.jobs.snap.filter (fun j => j.trig == 2 && decide (d.tb0 < j.time))

/-- Does scheduled work exist? -/
def Dev.hasScheduled (d : Dev) : Bool := !(d.scheduledBatches.isEmpty && d.scheduledSnaps.isEmpty)

/-- A command ends TIME_DISCONTINUITY with ESN 0; its completion is written with those of its queue. -/
def Dev.discard (d : Dev) (q idx : Nat) (batch : Bool) : Dev :=
  let d := match batch, d.slotOf q idx with
    | true, some k => d.freeSlot k
    | _, _ => d
  (if batch then d.count 2906 else d).modQueue q (fun x => x.modCmd idx (fun c =>
    { c with executed := true, effect := true, done := some { baseComp (sqeOp c.sqe) stTimeDisc with cid := sqeCid c.sqe },
             stalls := sqeStop c.sqe }))

/-- Every item of scheduled work is discarded. -/
def Dev.discardScheduled (d : Dev) : Dev :=
  let bs := d.scheduledBatches
  let ss := d.scheduledSnaps
  let d := bs.foldl (fun d b => d.discard b.1 b.2.idx true) d
  let d := ss.foldl (fun d j => d.discard j.q j.idx false) d
  let d := { d with jobs := { d.jobs with snap := d.jobs.snap.filter (fun j => !ss.contains j) } }
  (bs.map (·.1) ++ ss.map (·.q)).eraseDups.foldl (fun d q => d.drain q) d

/-! ## Steps (R345, R348) -/

/-- An instant on the scale after a step of v ns. -/
def shiftTime (v : Int) (t : Nat) : Nat := ((t : Int) + v).toNat

/-- Instants that ASAP batches wait for and the bounds that committed predecessors set follow the step, so that neither is moved by it
(R348: ASAP batches are unaffected). -/
def Dev.rebase (d : Dev) (v : Int) : Dev :=
  let fixSlot := fun (_ : Nat) (s : Slot) =>
    if s.state.uncommitted && s.commitTime == 0 then { s with time := shiftTime v s.time, due := shiftTime v s.due } else s
  { d with io := { d.io with queues := d.io.queues.mapVals {} (fun _ q => { q with prevMidnight := shiftTime v q.prevMidnight }) },
           cmt := { d.cmt with slots := d.cmt.slots.mapVals {} fixSlot } }

/-- TB0 is stepped to a value on one CCLK edge; scheduled work, which only a forced step finds, is discarded (R345, R348, R353). -/
def Dev.stepTo0 (d : Dev) (new : Nat) (frac : Nat) : Dev :=
  let old := d.tb0
  let v : Int := (new : Int) - old
  let items := d.scheduledBatches.length + d.scheduledSnaps.length
  let d := d.discardScheduled
  let d := d.setTim (fun t => { t with tb0 := new, tb0Frac := frac, stepVal := v, stepUsed := true, forceNext := false,
                                       skipTo := new / 1000000000 + 1 })
  let d := ((d.rebase v).count 3035).timeEvt 1 v 0
  if items = 0 then d else ((d.once 89 0).setLeaf 0 0x1C4 8).timeEvt 5 v items

/-! ## Measurements (R343 to R347, R471) -/

/-- The interval between measurements, ns (R471). -/
def Tim.interval (t : Tim) : Int := if t.src = 2 then (t.ptmPer : Int) * 1000000 else 1000000000

/-- Frequency and rate after an accepted measurement of an offset (R471). -/
def Tim.learn (t : Tim) (off : Int) : Tim :=
  let iv := t.interval
  let f := clampI (t.freq - divRound (off * 18446744073709551616) (64 * iv)) (-858993 * 4294967296) (858993 * 4294967296)
  { t with freq := f, rate := clampRate (divRound (f * (8 * iv) - off * 18446744073709551616) (4294967296 * 8 * iv)) }

/-- A rejected measurement (R346). -/
def Dev.rejectMeas (d : Dev) (off : Int) : Dev :=
  let d := d.setTim (fun t => { t with rejects := t.rejects + 1 })
  let d := ((d.count 3033).once 87 0).timeEvt 7 off 0
  if d.tim.state = 2 ∧ 3 ≤ d.tim.rejects then d.enterHoldover else d

/-- A measurement accepted without a step: TB0 is disciplined by rate (R344, R347, R471). -/
def Dev.acceptMeas (d : Dev) (off : Int) : Dev :=
  let again := d.tim.state == 3 || d.tim.lost
  let d := (d.count 3032).found
  let d := d.setTim (fun t =>
    let t := if t.state = 2 then t else { t with freq := t.rate * 4294967296 }
    { t with state := 2, disciplined := true, rejects := 0 }.learn off)
  if again then (d.timeEvt 3 0 0).setLeaf 0 0x1C4 4 else d

/-- The measurement by which TB0 is stepped, or the step is refused (R345, R348). -/
def Dev.stepMeas (d : Dev) (off : Int) : Dev :=
  let d := if d.tim.lost then d.setLeaf 0 0x1C4 4 else d
  let d := ((d.count 3032).found).setTim (fun t => { t with rejects := 0 })
  if d.hasScheduled && !d.tim.forceAuto && !d.tim.forceNext then
    if d.tim.state = 4 then d else (d.setTim (fun t => { t with state := 4 })).timeEvt 4 0 0
  else
    let d := d.setTim (fun t => { t with state := 2, disciplined := true, freq := t.rate * 4294967296 })
    d.stepTo0 (twos ((d.tb0 : Int) - off) 64) d.tim.tb0Frac

/-- A measurement with its offset, from the source in force. -/
def Dev.measureTime (d : Dev) (off : Int) : Dev :=
  let d := d.setTim (fun t => { t with offset := clampI off (-2147483648) 2147483647 })
  let t := d.tim
  if (t.state = 1 ∧ t.autoStep ∧ !t.stepUsed) ∨ t.state = 4 then d.stepMeas off
  else if decide (t.tol * 100 < off.natAbs) && (t.state == 2 || t.state == 3 || t.stepUsed) then d.rejectMeas off
  else d.acceptMeas off

/-! ## PPS_IN and TOD_RX (R351, R352) -/

/-- An edge on PPS_IN: TB0 when it arrives less IN_DLY (R343). An edge that no frame named counts (R347). -/
def execPpsIn (s : State) : Host.Outcome State Fault Refusal :=
  let d := s.d
  if d.pwr.off || !d.clocked then ignored s
  else
    let bare := match d.tim.edge with
      | some (_, _, false) => d.tim.edgesBare + 1
      | some (_, _, true) => 0
      | none => d.tim.edgesBare
    finish s ((d.count 3036).setTim (fun t =>
      { t with edge := some ((t.tb0 : Int) - t.inDly, t.tb2, false), quietFrom := t.tb2, edgesBare := bare }))

/-- Eight steps of the CRC of R352 over one byte, most significant bit first. -/
def crcBits : Nat → Nat → Nat
  | 0, c => c
  | n + 1, c => crcBits n (if c < 32768 then 2 * c else (2 * c ^^^ 0x1021) % 65536)

/-- The CRC-16 of a frame's bytes 0 to 13 (R352). -/
def crc16 (bs : List Byte) : Nat := bs.foldl (fun c b => crcBits 8 (c ^^^ b.toNat * 256)) 0xFFFF

/-- SYNC, VER and CRC are correct in a frame of 16 bytes (R352). -/
def frameGood (bs : List Byte) : Bool :=
  bs.length == 16 && leField bs 0 1 == 0xC5 && leField bs 1 1 == 1 && leField bs 14 2 == crc16 (bs.take 14)

/-- A ToD frame whose last byte has arrived, with the longest gap between its bytes (R351, R352). -/
def Dev.todFrame (d : Dev) (bs : List Byte) (gapNs : Nat) : Dev :=
  let good := frameGood bs
  let seq := leField bs 12 2
  let next := match d.tim.lastSeq with
    | none => true
    | some p => (p + 1) % 65536 == seq
  let valid := good && decide (gapNs ≤ 174000) && next
  let d := if good then d.setTim (fun t => { t with lastSeq := some seq }) else d
  let d := if valid then d.setTim (fun t => { t with validFlags := leField bs 10 1 }) else d
  match d.tim.edge with
  | some (at0, at2, false) =>
    if valid && decide (at2 + 10000000 ≤ d.tb2) && decide (d.tb2 ≤ at2 + 900000000) then
      let d := (d.count 3037).setTim (fun t =>
        { t with edge := some (at0, at2, true), edgesBare := 0, todAcc := (t.todAcc + 1) % 4096, lastFlags := leField bs 10 1,
                 utcOff := leField bs 8 2, leap := leField bs 10 1 / 2 % 4, quality := leField bs 11 1 })
      if d.tim.src = 1 then d.measureTime (at0 - (leField bs 2 6 : Int) * 1000000000) else d
    else d.setTim (fun t => { t with todDisc := (t.todDisc + 1) % 4096 })
  | _ => d.setTim (fun t => { t with todDisc := (t.todDisc + 1) % 4096 })

def execTodFrame (bytes : List Byte) (gapNs : Nat) (s : State) : Host.Outcome State Fault Refusal :=
  if s.d.pwr.off || !s.d.clocked then ignored s else finish s (s.d.todFrame bytes gapNs)

/-! ## PTM (R354) -/

/-- PTM_EXCHANGE: every TIM_PTM_PER ms while SRC = 2. -/
def execPtmExchange (s : State) : Host.Outcome State Fault Refusal :=
  let t := s.d.tim
  if t.src != 2 || !t.ptmEn || t.ptmOut || !s.d.clocked || !s.d.io.linkUp || decide (t.tb2 < t.ptmLast + t.ptmPer * 1000000) then ignored s
  else finish s ((s.d.setTim (fun t => { t with ptmLast := t.tb2, ptmOut := true })).send .ptm)

/-- PTM_RESPONSE: an exchange ends; master is the PTM master time that the exchange gives for the present instant. -/
def execPtmResponse (ok : Bool) (master : Nat) (s : State) : Host.Outcome State Fault Refusal :=
  let d := s.d
  if !d.tim.ptmOut || !d.clocked then ignored s
  else
    let d := d.setTim (fun t => { t with ptmOut := false })
    if d.tim.src != 2 then finish s d
    else if !ok then finish s (d.setTim (fun t => { t with ptmFails := t.ptmFails + 1 }))
    else finish s ((d.setTim (fun t => { t with ptmFails := 0, ptmLastOk := t.tb2 })).measureTime ((d.tb0 : Int) - master))

/-! ## Loss (R347) -/

/-- Has the source in force been lost? -/
def Tim.isLost (t : Tim) : Bool :=
  if t.src = 1 then
    let bare := t.edgesBare + (match t.edge with
      | some (_, at2, false) => b2n (decide (at2 + 900000000 < t.tb2))
      | _ => 0)
    decide (t.quietFrom + 1100000000 < t.tb2) || decide (3 ≤ bare)
  else if t.src = 2 then
    decide (3 ≤ t.ptmFails) || !t.ptmEn || decide (t.ptmLastOk + 4 * t.ptmPer * 1000000 < t.tb2)
  else false

/-- SOURCE_LOST. -/
def execSourceLost (s : State) : Host.Outcome State Fault Refusal :=
  let d := s.d
  if d.tim.lost || !d.tim.isLost || !d.clocked then ignored s
  else
    let d := (d.setTim (fun t => { t with lost := true, lastSeq := none, edgesBare := 0 })).condOn 86 0
    finish s (if d.tim.state = 2 then d.enterHoldover else d)

/-! ## Registers that select, step and open epochs (R343, R345, R348, R356) -/

/-- A new source: ACQUIRING, or FREE_RUN; TB0 keeps its rate. -/
def Dev.selectSource (d : Dev) (src : Nat) : Dev :=
  let d := d.found
  d.setTim (fun t => { t with src := src, state := if src = 0 then 0 else 1, rejects := 0, forceNext := false, lastSeq := none,
                              quietFrom := t.tb2, edgesBare := 0, edge := none, ptmFails := 0, ptmLastOk := t.tb2, ptmLast := t.tb2 })

/-- A write of TIM_CTL: a reserved SRC leaves it, and TOL 0 sets 1. -/
def Dev.timCtlWrite (d : Dev) (v : Nat) : Dev :=
  let d := d.setTim (fun t => { t with autoStep := bitOf v 2, forceAuto := bitOf v 3, tol := max 1 (fieldOf v 8 8) })
  if v % 4 = 3 ∨ v % 4 = d.tim.src then d else d.selectSource (v % 4)

/-- TIM_CTL with SRC changed. -/
def execSrcChange (fn : Nat) (value : Word) (s : State) : Host.Outcome State Fault Refusal := pf0Wr s fn 0x1A000 (fun d => d.timCtlWrite value.toNat)

/-- A new time epoch (R345). -/
def Dev.epochReset (d : Dev) (v : Nat) : Dev :=
  if !bitOf v 0 then d
  else
    (d.setTim (fun t => { t with epoch := (t.epoch + 1) % 65536, stepUsed := false, rejects := 0, forceNext := false,
                                 state := if t.src = 0 then 0 else 1 })).timeEvt 6 0 0

def execTimEpochReset (fn : Nat) (value : Word) (s : State) : Host.Outcome State Fault Refusal :=
  pf0Wr s fn 0x1A008 (fun d => d.epochReset value.toNat)

/-- A write of TIM_STEP: FORCE in STEP_PENDING forces the pending step; STEP makes a software step with SRC = 0, or is refused (R345, R348). -/
def Dev.timStepWrite (d : Dev) (v : Nat) : Dev :=
  let d := if bitOf v 1 && d.tim.state == 4 then d.setTim (fun t => { t with forceNext := true }) else d
  if !bitOf v 0 then d
  else if d.tim.src ≠ 0 then d.setTim (fun t => { t with errRefused := true })
  else if d.tim.stepUsed then d.setTim (fun t => { t with errUsed := true })
  else if d.hasScheduled && !bitOf v 1 then d.setTim (fun t => { t with errRefused := true })
  else d.stepTo0 d.tim.set 0

/-- TIM_STEP with STEP = 1. -/
def execStep (fn : Nat) (value : Word) (s : State) : Host.Outcome State Fault Refusal := pf0Wr s fn 0x1A00C (fun d => d.timStepWrite value.toNat)
/-- TIM_STEP with FORCE = 1. -/
def execTimStepForce (fn : Nat) (value : Word) (s : State) : Host.Outcome State Fault Refusal :=
  pf0Wr s fn 0x1A00C (fun d => d.timStepWrite value.toNat)

/-! ## Outputs (R353) -/

/-- The level of PPS_OUT: high for WIDTH ms from each edge. -/
def Tim.ppsHigh (t : Tim) : Bool :=
  match t.ppsHighEnd with
  | some e => t.outEn && decide (t.tb2 < e)
  | none => false

/-- PPS_OUT: TB0 with OUT_ADV has just reached a whole second that has not been output and is not the one a step leaves out. -/
def execPpsOut (s : State) : Host.Outcome State Fault Refusal :=
  let d := s.d
  let x := ((d.tb0 : Int) + d.tim.outAdv).toNat
  let k := x / 1000000000
  if !d.tim.outEn || !d.clocked || decide (2 ≤ x % 1000000000) || k == d.tim.ppsLast || k == d.tim.skipTo then ignored s
  else finish s ((d.setTim (fun t => { t with ppsLast := k, ppsHighEnd := some (t.tb2 + t.width * 1000000) })).send (.pin "PPS_OUT" true))

/-- The frame sent for a whole second of TB0 (R352, R353). -/
def Tim.frame (t : Tim) (k : Nat) : List Byte :=
  let flags := pack [(b2n (t.state == 2), 0), (t.leap, 1), (b2n t.inHoldover, 3)]
  let body : List Byte := [0xC5, 0x01] ++ bytesLE k 6 ++ bytesLE t.utcOff 2 ++ bytesLE flags 1 ++ bytesLE t.quality 1 ++ bytesLE t.txSeq 2
  body ++ bytesLE (crc16 body) 2

/-- TOD_TX: 10 ms after each whole second of TB0. -/
def execTodTx (s : State) : Host.Outcome State Fault Refusal :=
  let d := s.d
  let k := d.tb0 / 1000000000
  let at_ := d.tb0 % 1000000000
  if !d.tim.todEn || !d.clocked || decide (at_ < 10000000) || decide (10000002 ≤ at_) || k == d.tim.todLast || k == d.tim.skipTo then ignored s
  else finish s ((d.send (.tod (d.tim.frame k))).setTim (fun t => { t with todLast := k, txSeq := (t.txSeq + 1) % 65536 }))

end Sys2Proof.Machine
end

