-- ==== Sys2Proof/Machine/View.lean ====
section
/-!
DEFINITION. What a host read returns: every register of BAR0 (R440 to R446), with the captures of R104, every table of BAR2 (R447 to R449)
and BAR4 (R450).
-/
namespace Sys2Proof.Machine

/-! ## Codes -/

/-- Codes of QM_Q_STAT.STATE, LE_STAT.STATE, CMT_SLOT_STAT.STATE, FL_STAT.STATE, SEQ_STAT.STATE and PWR_STAT.PHASE (R103, R128, R194, R223,
R288, R416). -/
def QState.code : QState → Nat
  | .none => 0 | .disabled => 1 | .enabled => 2 | .stalled => 3 | .aborting => 4 | .enablePending => 5
def LeState.code : LeState → Nat
  | .own => 0 | .lent => 1 | .failed => 2 | .moving => 3 | .spareIdle => 4 | .spareServing => 5 | .unavailable => 6
def SlotSt.code : SlotSt → Nat
  | .free => 0 | .routing => 1 | .held => 2 | .staging => 3 | .staged => 4 | .verifying => 5 | .settling => 6 | .rolling => 7 | .rollback => 8
def FlSt.code : FlSt → Nat
  | .free => 0 | .reserved => 1 | .verify => 2 | .claimed => 3 | .armed => 4 | .capturing => 5 | .done => 6
def SeqSt.code : SeqSt → Nat
  | .stopped => 0 | .waitTrig => 1 | .running => 2 | .underrun => 3
def Phase.code : Phase → Nat
  | .dawn => 0 | .run => 1 | .dusk => 2 | .parked => 3 | .stopped => 4

/-- Half of a 64-bit number: 0 the low word, 1 the high one. -/
def half (v k : Nat) : Nat := v / 2 ^ (32 * k) % 2 ^ 32

/-! ## Blocks -/

/-- OTP contents are loaded at D1, NVM contents at D2 (R443). -/
def Dev.otpLoaded (d : Dev) : Bool := !(d.pwr.phase == .dawn && decide (d.pwr.step ≤ 1))

/-- GLB of function f (R444, R445). -/
def Dev.glbWord (d : Dev) (f off : Nat) : Option Nat :=
  let otp := fun (v : Nat) => if d.otpLoaded then v else 0
  let timed := fun (v : Nat) => if f = 0 ∨ d.glb.vfTimeEn then v else 0
  if off = 0x00 then some (if f = 0 then 0x5A121D7E else 0x5A131D7E)
  else if off = 0x04 then some 0x000100A1
  else if off = 0x08 then some (pack [(f, 0), (b2n (f != 0), 4)])
  else if off = 0x0C then some (pack [(b2n d.pwr.refSel, 0), (d.pwr.strapId, 1), (otp (b2n Config.variantS), 8)])
  else if 0x10 ≤ off ∧ off ≤ 0x1C then some (otp (Config.serial.toNat / 2 ^ (8 * (off - 0x10)) % 2 ^ 32))
  else if off = 0x20 then some 0x01600150
  else if off = 0x24 then some 0x0F108040
  else if off = 0x28 then some (pack [(d.pwr.phase.code, 0), (b2n d.pwr.done, 3), (b2n d.flt.blank, 4), (b2n d.flt.permit, 5), (b2n d.flt.fatal, 6),
    (b2n d.holdover, 7), (b2n (d.pwr.supUp && d.sec.restart.isNone), 8)])
  else if off = 0x30 then some (timed (half d.tim.tb0 0))
  else if off = 0x34 then some (timed (half d.tim.tb0 1))
  else if off = 0x38 then some (timed (half d.cmt.esn 0))
  else if off = 0x3C then some (timed (half d.cmt.esn 1))
  else if off = 0x40 then some (d.fn f).scratch
  else if off = 0x44 then some (if f = 0 then pack [(b2n d.glb.vfTimeEn, 0), (b2n d.glb.lock, 1)] else 0)
  else none

/-- The twelve registers of a function in HIF (R287). -/
def Fn.hifWord (x : Fn) (o : Nat) : Option Nat :=
  if o = 0x00 then some (half x.aqSqBase 0)
  else if o = 0x04 then some (half x.aqSqBase 1)
  else if o = 0x08 then some (half x.aqCqBase 0)
  else if o = 0x0C then some (half x.aqCqBase 1)
  else if o = 0x10 then some (pack [(x.aqSqs, 0), (x.aqCqs, 4), (b2n x.aqEn, 8)])
  else if o = 0x14 then some (half x.evtBase 0)
  else if o = 0x18 then some (half x.evtBase 1)
  else if o = 0x1C then some (pack [(x.evtEs, 0), (b2n x.evtEn, 8), (x.evtAgg, 16)])
  else if o = 0x20 then some (pack [(x.evtLost, 0), (b2n x.aqActive, 16), (b2n x.evtActive, 17)])
  else none

/-- REC_LEN: the full length of a record with CONTENT as it is, once the ring has been set up (R273, R274). -/
def Tel.recLen (t : Tel) : Nat :=
  if t.ring.size = 0 then 0 else recordLen (bitOf t.content 0) (bitOf t.content 1) (bitOf t.content 2) / 64

/-- HIF (R287). -/
def Dev.hifWord (d : Dev) (off : Nat) : Option Nat :=
  let t := d.io.tel
  if off = 0x000 then some (b2n d.io.telRo)
  else if off = 0x004 then some (pack [(d.io.linkGen, 0), (d.io.linkWidth, 4), (b2n d.io.linkFlit, 9), (d.io.numVfs, 10)])
  else if 0x100 ≤ off ∧ off < 0x500 then (d.fn ((off - 0x100) / 0x40)).hifWord (off % 0x40)
  else if off = 0x600 then some (half t.hdrBase 0)
  else if off = 0x604 then some (half t.hdrBase 1)
  else if off = 0x608 then some (half t.bulkBase 0)
  else if off = 0x60C then some (half t.bulkBase 1)
  else if off = 0x610 then some (pack [(t.hs, 0), (t.bs, 4), (b2n t.en, 9), (t.content, 10)])
  else if off = 0x614 then some t.period
  else if off = 0x618 then some (pack [(t.dropped, 0), (t.recLen, 16)])
  else none

/-- CQ_FULL: fetch waits for CQ space, a flush's too (R260, R304). -/
def Queue.waitsForCq (x : Queue) : Bool :=
  !x.cqRoom && (match x.state, x.flushTo with
    | .enabled, _ => x.head != x.tail
    | .stalled, some t => x.head != t
    | _, _ => false)

/-- QM of one queue (R288). -/
def Queue.qmWord (x : Queue) (o : Nat) : Option Nat :=
  if o = 0x00 then some (half x.sqBase 0)
  else if o = 0x04 then some (half x.sqBase 1)
  else if o = 0x08 then some (half x.cqBase 0)
  else if o = 0x0C then some (half x.cqBase 1)
  else if o = 0x10 then some (pack [(x.sqs, 0), (x.cqs, 4), (x.domain, 8), (x.qosW, 12), (b2n x.startEn, 17)])
  else if o = 0x14 then some (pack [(x.aggCount, 0), (x.aggTime, 16)])
  else if o = 0x18 then some (pack [(x.state.code, 0), (b2n (x.waitsForCq), 3), (b2n x.createErr, 4), (x.head, 16)])
  else none

/-- RTE (R73). -/
def Dev.rteWord (d : Dev) (n : Net) (off : Nat) : Option Nat :=
  if off = 0x00 then some (d.fab.rollRamp * 65536)
  else if off = 0x04 then some (pack [(n.conns.length, 0), (bridgeCount n.conns, 10), ((n.conns.filter (·.pinned)).length, 16),
    (b2n d.routing, 26)])
  else if 0x40 ≤ off ∧ off < 0x80 then some (d.disturb ((off - 0x40) / 4))
  else none

/-- CMT (R103). -/
def Dev.cmtWord (d : Dev) (off : Nat) : Option Nat :=
  let c := d.cmt
  let busy := fun (p : SlotSt → Bool) => (c.slots.filter (fun x => p x.2.state)).length
  if off = 0x00 then some (pack [(c.tset, 0), (b2n c.tsSrc, 3), (b2n c.ver.twinKeep, 4), (c.asapRsv, 8)])
  else if off = 0x04 then some (pack [(busy (· != .free), 0), (b2n ((List.range 16).any (fun k => (d.slot k).state == .staging &&
      !d.slotDone k)), 5), (b2n (decide (0 < busy (· == .held))), 6),
    ((d.mon.fl.filter (fun p => p.2.state == .reserved || p.2.state == .verify)).length, 8)])
  else if off = 0x08 then some (pack [(c.ver.lvlTol, 0), (c.ver.arrMax, 8), (c.ver.minIn, 16)])
  else if off = 0x10 then some (half c.esn 0)
  else if off = 0x14 then some (half c.esn 1)
  else if off = 0x18 then some (half c.mn 0)
  else if off = 0x1C then some (half c.mn 1)
  else if 0x100 ≤ off ∧ off < 0x200 then
    let s := d.slot ((off - 0x100) / 16)
    some (if off % 16 = 0 then pack [(s.state.code, 0), (s.queue, 4), (s.domain, 10), (b2n s.sched, 14), (b2n s.defer, 15), (b2n s.late, 16),
                                     (b2n s.holdover, 17)]
          else if off % 16 = 4 then s.cid else half s.time (if off % 16 = 8 then 0 else 1))
  else none

/-- DRV (R222). DRV_FAULT_MAP shows the tiles with a driver made high-impedance by a fault (R204). -/
def Dev.drvWord (d : Dev) (off : Nat) : Option Nat :=
  let v := d.drv
  if off = 0x00 then some (pack [(b2n v.shapeLoad, 0), (v.shapeSeg, 1), (b2n v.toneApply, 7)])
  else if off = 0x04 then some (pack [(b2n v.armed, 0), (b2n v.bank, 1), (b2n v.hrSat, 2), (v.hrailMv, 16)])
  else if off = 0x08 then some v.shapeSel
  else if off = 0x0C then some v.err
  else if 0x40 ≤ off ∧ off < 0x80 then
    let j := (off - 0x40) / 4
    some (pack [(d.toneSet (2 * j), 0), (d.toneSet (2 * j + 1), 8)])
  else if 0x80 ≤ off ∧ off < 0xAC then
    let w := (off - 0x80) / 4
    let bad := (d.fab.cells.filter (fun p => p.2.hzF || p.2.hzH)).map (fun p => tileOf p.1)
    some (bitsOf 32 (fun b => bad.contains (32 * w + b)))
  else none

/-- SEQ (R223). -/
def Dev.seqWord (d : Dev) (off : Nat) : Option Nat :=
  let q := d.seq
  if off = 0x00 then some (pack [(b2n q.stopMode, 2), (b2n q.jumpSyncin, 3), (q.startSeg, 4), (q.startTrig, 10)])
  else if off = 0x04 then some (pack [(q.state.code, 0), (b2n q.ownerCal, 3), (q.seg, 4), (q.tsAct, 10), (b2n q.jumpPend, 13), (min 255 q.iter, 14)])
  else if off = 0x08 then some (pack [(q.target, 0), (b2n q.jumpPend, 8)])
  else if off = 0x0C then some q.err
  else if off = 0x10 then some q.errAddr
  else if off = 0x14 then some q.under
  else if off = 0x18 then some (pack [(b2n q.rfEn, 0), (b2n q.rfWrap, 1)])
  else if off = 0x1C then some q.rfLen
  else if off = 0x20 then some (half q.rfAddr 0)
  else if off = 0x24 then some (half q.rfAddr 1)
  else if off = 0x28 then some (q.rfPos % 2 ^ 32)
  else if off = 0x30 then some (bitsOf 32 (fun k => q.fill.contains k))
  else if off = 0x34 then some (bitsOf 32 (fun k => q.fill.contains (32 + k)))
  else if 0x40 ≤ off ∧ off < 0x50 then
    let l := d.lane ((off - 0x40) / 4)
    some (pack [(l.aa, 0), (b2n l.en, 17), (b2n l.bound, 18)])
  else if 0x80 ≤ off ∧ off < 0x90 then
    let x := q.sync.get {} ((off - 0x80) / 4)
    some (pack [(x.src, 0), (x.pw, 2), (b2n x.inv, 10)])
  else if 0x400 ≤ off ∧ off < 0x600 then some ((if off % 8 = 0 then q.segA else q.segB).get 0 ((off - 0x400) / 8))
  else if 0x1000 ≤ off ∧ off < 0x1800 ∧ off % 0x100 < 152 then
    let e := 38 * ((off - 0x1000) / 0x100) + off % 0x100 / 4
    some (match (q.tsNext.filter (fun x => x.2.1 == e)).getLast? with
      | some x => x.2.2
      | none => q.ts.get 0 e)
  else none

/-- MON (R194). -/
def Dev.monWord (d : Dev) (off : Nat) : Option Nat :=
  if off = 0x00 then some (pack [(b2n d.mon.winEn, 0), (d.mon.dnCount, 4)])
  else if off = 0x04 then some (bitsOf 8 (fun k => (d.inj k).go))
  else if 0x100 ≤ off ∧ off < 0x180 ∧ off % 16 < 12 then
    let x := d.inj ((off - 0x100) / 16)
    some (if off % 16 = 0 then pack [(x.mpa, 0), (x.trig, 16), (b2n x.fast, 18), (b2n x.go, 20), (b2n x.done, 22), (b2n x.displaced, 23), (b2n x.notDone, 24)]
          else if off % 16 = 4 then x.val else x.time)
  else none

/-- FL (R194). -/
def Dev.flWord (d : Dev) (off : Nat) : Option Nat :=
  if 0x800 ≤ off then none
  else
    let l := d.fl (off / 16)
    some (if off % 16 = 0 then pack [(l.tap, 0), (l.rangeSel, 11), (b2n l.claim, 13), (l.trig, 14), (b2n l.arm, 16), (l.pre, 17), (l.len, 24), (l.seqTrig, 28)]
          else if off % 16 = 4 then pack [(l.state.code, 0), (b2n l.claimPend, 3), (b2n l.tapBusy, 4), (b2n l.preShort, 5), (b2n l.aborted, 6), (d.flPtr l, 8),
                                          (if l.state = .reserved ∨ l.state = .verify then l.slot else 0, 20)]
          else if off % 16 = 8 then pack [(l.arrival, 0), (l.settle, 16)]
          else pack [(l.final, 0), (l.rise, 16), (l.tag, 24), (l.flags, 30)])

/-- CAL_STAT.STATE: WAIT_INJ while a tile waits by R234, else the step of the lowest-numbered unfinished tile (R246). -/
def Dev.calState (d : Dev) : Nat :=
  match d.cal.run with
  | none => 0
  | some r =>
    match r.todo.head? with
    | some tn =>
      if d.injIn tn then 1
      else match (r.active.filter (fun t => decide (t.tn < tn))).head? with
        | some t => calCode t.step
        | none => 2
    | none =>
      let low := (r.active.map (·.tn)).foldl min 512
      match r.active.find? (fun t => t.tn == low) with
      | some t => calCode t.step
      | none => 0
where
  /-- 2 WAIT_SPARE, 3 MEASURE, 4 STORE, 5 APPLY, 6 RETURN. -/
  calCode (k : Nat) : Nat := if k ≤ 2 then 2 else if k ≤ 4 then 3 else if k ≤ 6 then 4 else if k = 7 then 5 else 6

/-- CAL (R246). -/
def Dev.calWord (d : Dev) (off : Nat) : Option Nat :=
  let c := d.cal
  if off = 0x00 then some (pack [(c.win, 0), (c.spareWait, 8), (b2n c.interpEn, 16)])
  else if off = 0x04 then some (pack [(d.calState, 0), ((c.run.map (fun r => if r.clear then 0 else r.active.length)).getD 0, 3),
    ((c.run.bind (fun r => r.todo.head?)).getD 0x1FF, 8), (min 15 c.waiting.length, 17)])
  else if off = 0x08 then some (pack [(c.tolPh, 0), (c.tolSlope, 8), (c.tolDb, 16), (c.tolR, 24)])
  else if off = 0x0C then some c.err
  else if off = 0x10 then some c.view
  else none

/-- NVM (R246): what Dawn step D2 has not loaded reads 0. -/
def Dev.nvmWord (d : Dev) (off : Nat) : Option Nat :=
  let c := d.cal
  let on := c.factValid
  let gen := if on then (c.inForce.map (fun b => (c.bank b).gen)).getD 0 else 0
  if off = 0x00 then some (pack [(b2n (on && c.inForce == some true), 0), (b2n (on && c.bankA.valid), 1), (b2n (on && c.bankB.valid), 2), (b2n on, 3),
    (b2n c.storing, 4), (b2n c.pfAbort, 5), (b2n c.noDelta, 6)])
  else if off = 0x04 then some (if on then Config.factId.toNat else 0)
  else if off = 0x08 then some (half gen 0)
  else if off = 0x0C then some (half gen 1)
  else if off = 0x10 then some c.stores
  else none

/-- TIM (R356). -/
def Dev.timWord (d : Dev) (off : Nat) : Option Nat :=
  let t := d.tim
  if off = 0x00 then some (pack [(t.src, 0), (b2n t.autoStep, 2), (b2n t.forceAuto, 3), (t.tol, 8)])
  else if off = 0x04 then some (pack [(t.state, 0), (b2n t.inHoldover, 3), (b2n t.stepUsed, 4), (t.epoch, 16)])
  else if off = 0x08 ∨ off = 0x0C then some 0
  else if off = 0x10 then some (half t.tb0 0)
  else if off = 0x14 then some (half t.tb0 1)
  else if off = 0x18 then some t.tb0Frac
  else if off = 0x1C then some (half t.tb2 0)
  else if off = 0x20 then some (half t.tb2 1)
  else if off = 0x24 then some (half t.set 0)
  else if off = 0x28 then some (half t.set 1)
  else if off = 0x2C then some (twos t.rate 32)
  else if off = 0x30 then some (twos t.offset 32)
  else if off = 0x34 then some t.hoTime
  else if off = 0x38 then some t.hoTotal
  else if off = 0x3C then some (pack [(b2n t.outEn, 0), (t.width, 1), (b2n t.todEn, 10)])
  else if off = 0x40 then some (pack [(twos t.inDly 16, 0), (twos t.outAdv 16, 16)])
  else if off = 0x44 then some t.ptmPer
  else if off = 0x48 then some (pack [(t.todAcc, 0), (t.todDisc, 12), (t.lastFlags, 24)])
  else if off = 0x4C then some (half (twos t.stepVal 64) 0)
  else if off = 0x50 then some (half (twos t.stepVal 64) 1)
  else if off = 0x54 then some (pack [(b2n t.errUsed, 0), (b2n t.errRefused, 1)])
  else none

/-- FLT (R339). -/
def Dev.fltWord (d : Dev) (off : Nat) : Option Nat :=
  let f := d.flt
  let x := if f.tsSel < 96 then d.src f.tsSel else {}
  if off = 0x00 then some (pack [(b2n f.swBlank, 0), (b2n f.injEn, 1), (b2n f.injAct, 2), (b2n f.lock, 3)])
  else if off = 0x04 then some d.fltStat
  else if off = 0x08 then some (pack [(b2n f.errSw, 0), (b2n f.errEnd.isSome, 1), (f.errPw, 8)])
  else if off = 0x0C then some (pack [(f.blankCnt, 0), (f.fatalCnt, 16)])
  else if off = 0x10 then some f.injScope
  else if off = 0x14 then some f.tsSel
  else if off = 0x18 then some (half x.first 0)
  else if off = 0x1C then some (half x.first 1)
  else if off = 0x20 then some (half x.last 0)
  else if off = 0x24 then some (half x.last 1)
  else if 0x100 ≤ off ∧ off < 0x400 then
    let n := (off - 0x100) / 8
    some (if off % 8 = 0 then d.srcStat n else d.srcCfgWord n)
  else none

/-- ATN in the view of function f (R340). -/
def Dev.atnWord (d : Dev) (f off : Nat) : Option Nat :=
  if off = 0x00 then some (d.atnSum f)
  else if off = 0x04 then some (d.view f).en
  else if off = 0x08 then some (if f = 0 then (d.view 0).pinEn else 0)
  else if 0x40 ≤ off ∧ off < 0x70 then some (d.group f ((off - 0x40) / 4))
  else if (leafAt off).isSome then some (d.leaf f off)
  else if 0x200 ≤ off ∧ (leafAt (off - 0x200)).isSome then some (d.leafEn f (off - 0x200))
  else none

/-- PMC (R439). -/
def Dev.pmcWord (d : Dev) (off : Nat) : Option Nat :=
  let p := d.pmc
  let c := p.ctr.get {} p.idx
  if off = 0x00 then some (pack [(b2n p.en, 0), (b2n p.snapReq, 1)])
  else if off = 0x04 then some (pack [(b2n p.dumping, 0), (b2n p.ovfLost, 1)])
  else if off = 0x08 then some p.idx
  else if off = 0x0C then some (if ctrReserved p.idx then 0 else pack [(b2n c.en, 0), (b2n c.chain, 1), (b2n c.ovf, 2), (1, 3)])
  else if off = 0x10 then some (p.value p.idx)
  else if off = 0x14 then some p.liveHi
  else if off = 0x18 then some (p.snap.get 0 p.idx)
  else if off = 0x1C then some p.snapHi
  else if off = 0x20 then some (half p.snapTb2 0)
  else if off = 0x24 then some (half p.snapTb2 1)
  else if off = 0x28 then some p.dumpDrop
  else none

/-- BMX_M_STAT: reads and writes outstanding, a read held back, and host reads that a reset has left in flight (R421, R422, R428, R430). -/
def Traffic.stat (t : Traffic) (m : Nat) : Nat :=
  let mine := t.bursts.filter (fun b => b.master == m)
  pack [(min 64 (mine.filter (fun b => !b.write)).length, 0), (min 32 (mine.filter (·.write)).length, 8), (b2n (mine.any t.holds), 16),
    (b2n (mine.any (fun b => b.dead && b.fetch.isSome)), 17)]

/-- BMX (R430). -/
def Dev.bmxWord (d : Dev) (off : Nat) : Option Nat :=
  let b := d.bmx
  if off = 0x00 then some (pack [(b2n b.decode, 0), (b2n b.stall, 1), (b.decMaster, 4), (b.decTarget, 8), (b.stallMaster, 12)])
  else if off = 0x04 then some (half b.addr 0)
  else if off = 0x08 then some (half b.addr 1)
  else if 0x40 ≤ off ∧ off < 0x88 then
    let m := (off - 0x40) / 8
    some (if off % 8 = 0 then b.qosOf m else d.mtx.stat m)
  else none

/-- PWR (R416). -/
def Dev.pwrWord (d : Dev) (off : Nat) : Option Nat :=
  let p := d.pwr
  if off = 0x00 then some 0
  else if off = 0x04 then some (pack [(p.phase.code, 0), (p.step, 4), (p.halt, 8), (b2n p.done, 12), (b2n p.vinWarn, 13), (b2n p.capWarn, 14),
    (b2n p.capAlarm, 15)])
  else if off = 0x08 then some p.vin
  else if off = 0x0C then some (pack [(p.pin, 0), (p.peak, 16)])
  else if off = 0x10 then some (pack [(p.warn, 0), (p.alarm, 16)])
  else if off = 0x14 then some p.vWarn
  else if off = 0x18 then some (pack [(p.dawnMs, 0), (p.duskUs, 16)])
  else if off = 0x1C then some (p.rails % 64)
  else none

/-- The hottest valid sensor, the lowest-numbered among equals; none before any is valid. -/
def Dev.hottest (d : Dev) : Option (Nat × Int) :=
  (List.range 352).foldl (fun (b : Option (Nat × Int)) k =>
    let s := d.sensor k
    if !s.valid then b
    else match b with
      | some (j, t) => if t < s.temp then some (k, s.temp) else some (j, t)
      | none => some (k, s.temp)) none

/-- THM (R416). -/
def Dev.thmWord (d : Dev) (off : Nat) : Option Nat :=
  if off = 0x00 then some d.thm.tDer
  else if off = 0x04 then
    let h := d.hottest.getD (0, 0)
    let inv := (List.range 352).any (fun k => (d.sensor k).seen && !(d.sensor k).valid)
    some (pack [(twos h.2 16, 0), (h.1, 16), (b2n inv, 25), (b2n (d.fab.tiles.any (fun p => decide (p.2.kDer < oneQ))), 26)])
  else if off = 0x08 then some d.thm.sel
  else if off = 0x0C then
    let k := d.thm.sel
    let s := d.sensor k
    some (if 351 < k ∨ !s.seen then 0
          else pack [(twos s.temp 16, 0), (b2n s.valid, 16), (if k < 336 then ((d.tile k).kDer / 4096).toNat else 4096, 18)])
  else none

/-- MI: the last heartbeat's report (R380). -/
def Dev.miWord (d : Dev) (off : Nat) : Option Nat :=
  let m := d.mi
  if off = 0x00 then some (pack [(b2n m.evtEn, 0), (m.nearFull, 8)])
  else if off = 0x04 then some (pack [(b2n m.alive, 0), (m.sealState, 1), (b2n m.uncertain, 3), (b2n m.clockFault, 4), (b2n m.reserve, 5), (b2n m.hostAck, 6),
    (m.free, 8)])
  else if off = 0x08 then some (half m.next 0)
  else if off = 0x0C then some (half m.next 1)
  else if off = 0x10 then some (half m.ack 0)
  else if off = 0x14 then some (half m.ack 1)
  else if off = 0x18 then some (half m.tb1 0)
  else if off = 0x1C then some (half m.tb1 1)
  else if off = 0x20 then some (m.gap % 2 ^ 32)
  else none

/-- SEC (R396). -/
def Dev.secWord (d : Dev) (off : Nat) : Option Nat :=
  let s := d.sec
  if off = 0x00 then some (pack [(b2n s.bootSlot, 0), (b2n s.fallback, 1), (b2n s.recovery, 2), (b2n s.staged, 3), (b2n (s.doe.state != 0), 4),
    (b2n (s.mctp.state != 0), 5)])
  else if off = 0x04 then some (if d.otpLoaded then pack [(s.counter, 0), (s.revoked, 8)] else 0)
  else if off = 0x08 then some s.fwActive
  else if off = 0x0C then some s.fwStaged
  else if off = 0x10 then some 0
  else if off = 0x14 then some (pack [(s.level, 0), (s.fails, 2), (b2n s.lockout, 4)])
  else if 0x20 ≤ off ∧ off < 0x40 then some (s.chal.toNat / 2 ^ (8 * (off - 0x20)) % 2 ^ 32)
  else if off = 0x40 then some (half s.tok 0)
  else if off = 0x44 then some (half s.tok 1)
  else none

/-- LOCKED as the CST shows it; before the loops run it reads its reset (R25, R132). -/
def Dev.lockShown (d : Dev) (n : Net) (ca : Nat) : Bool :=
  if (d.pwr.phase == .dawn || d.pwr.phase == .stopped) && decide (d.pwr.step < 5) then false else d.lockBit n ca

/-- LE_STAT [17:14] of a tile (R128). -/
def Dev.tileSummary (d : Dev) (n : Net) (tn : Nat) : Nat :=
  let cas := tileCells tn
  pack [(b2n (cas.all (d.lockShown n)), 14), (b2n (cas.any d.cellLimited), 15), (b2n (cas.any (fun ca => (d.loop (hpAa ca)).wrapPending)), 16),
    (b2n (cas.any (fun ca => (d.cell ca).settling)), 17)]

/-- LE of loop engine k (R128). -/
def Dev.leWord (d : Dev) (n : Net) (k o : Nat) : Option Nat :=
  let l := d.le k
  let st := d.leState k
  let serves := isSpare k && (st == .spareServing || st == .moving)
  if 352 ≤ k then none
  else if o = 0x00 then
    some (if isSpare k then (if serves then (d.le l.partner).budget else 160) * 256 else
        pack [(b2n l.spareReq, 0), (b2n l.returnReq, 1), (l.budget, 8)])
  else if o = 0x04 then
    let p := if st = .own ∨ st = .spareIdle ∨ st = .unavailable then 0 else l.partner
    some (pack [(st.code, 0), (p, 4), (b2n l.calActive, 13)] + (if !isSpare k then d.tileSummary n k else if serves then
        d.tileSummary n l.partner else 0))
  else if o = 0x08 then
    some (if isSpare k then 0
          else match (d.fab.loads.filterMap (fun p => match p.2 with
            | .tile j v => if j = k then some v else none
            | _ => none)).getLast? with
            | some v => v
            | none => l.tileMap)
  else if o = 0x0C then some (pack [(l.loadLast, 0), (l.loadPeak, 10), (l.loadHeld, 20)])
  else if o = 0x10 then some l.err
  else none

/-! ## BAR0 -/

/-- A register of BAR0 as it stands, by absolute offset, as function f sees it; none where no register lies (R440, R446). -/
def regValue (n : Net) (d : Dev) (f off : Nat) : Option Nat :=
  if off % 4 ≠ 0 then none
  else if off < 0x1000 then d.glbWord f off
  else if off = 0x1000 then some (pack [(b2n d.pwr.pllLock, 0), (b2n d.pwr.refSel, 1), (b2n d.pwr.refOk, 2), (d.pwr.lockLoss, 8)])
  else if 0x2000 ≤ off ∧ off < 0x4000 then d.hifWord (off - 0x2000)
  else if 0x4000 ≤ off ∧ off < 0x4800 then (d.queue ((off - 0x4000) / 0x20)).qmWord (off % 0x20)
  else if 0x8000 ≤ off ∧ off < 0x9000 then d.rteWord n (off - 0x8000)
  else if 0x9000 ≤ off ∧ off < 0xA000 then d.cmtWord (off - 0x9000)
  else if 0xA000 ≤ off ∧ off < 0xC000 then d.drvWord (off - 0xA000)
  else if 0xC000 ≤ off ∧ off < 0x10000 then d.seqWord (off - 0xC000)
  else if 0x10000 ≤ off ∧ off < 0x14000 then d.monWord (off - 0x10000)
  else if 0x14000 ≤ off ∧ off < 0x18000 then d.flWord (off - 0x14000)
  else if 0x18000 ≤ off ∧ off < 0x19000 then d.calWord (off - 0x18000)
  else if 0x19000 ≤ off ∧ off < 0x1A000 then d.nvmWord (off - 0x19000)
  else if 0x1A000 ≤ off ∧ off < 0x1C000 then d.timWord (off - 0x1A000)
  else if 0x1C000 ≤ off ∧ off < 0x1E000 then d.fltWord (off - 0x1C000)
  else if 0x1E000 ≤ off ∧ off < 0x20000 then d.atnWord f (off - 0x1E000)
  else if 0x20000 ≤ off ∧ off < 0x24000 then d.pmcWord (off - 0x20000)
  else if 0x24000 ≤ off ∧ off < 0x25000 then d.bmxWord (off - 0x24000)
  else if 0x25000 ≤ off ∧ off < 0x26000 then d.pwrWord (off - 0x25000)
  else if 0x26000 ≤ off ∧ off < 0x28000 then d.thmWord (off - 0x26000)
  else if 0x28000 ≤ off ∧ off < 0x2A000 then d.miWord (off - 0x28000)
  else if 0x2A000 ≤ off ∧ off < 0x40000 then d.secWord (off - 0x2A000)
  else if 0x40000 ≤ off ∧ off < 0x56000 then d.leWord n ((off - 0x40000) / 0x100) (off % 0x100)
  else none

/-- Is a register visible to a function: PF0 sees all, a VF its GLB, its own HIF set and its ATN view (R287, R442)? -/
def regVisible (d : Dev) (f off : Nat) : Bool :=
  f == 0 || (decide (off < 0x44) && (d.glb.vfTimeEn || !(decide (0x30 ≤ off) && decide (off < 0x40)))) || (decide (0x2100 + 0x40 * f ≤ off) &&
      decide (off < 0x2124 + 0x40 * f)) ||
  (decide (0x1E000 ≤ off) && decide (off < 0x1E3DC))

/-- The registers that a read of a low word captures (R104, R192, R194, R246, R339, R356, R380, R430, R434, R439, R444). -/
def capturedBy (off : Nat) : List Nat :=
  if off = 0x30 ∨ off = 0x38 ∨ off = 0x19008 ∨ off = 0x1A01C ∨ off = 0x20010 ∨ off = 0x24004 ∨ off = 0x28008 ∨ off = 0x28010 ∨ off = 0x28018 then
      [off + 4]
  else if off = 0x9010 ∨ off = 0x1C018 ∨ off = 0x20018 then [off + 4, off + 8, off + 12]
  else if off = 0x1A010 then [off + 4, off + 8]
  else if (0x9100 ≤ off ∧ off < 0x9200 ∧ off % 16 = 8) ∨ (0x14000 ≤ off ∧ off < 0x14800 ∧ off % 16 = 8) ∨ (0x10100 ≤ off ∧ off < 0x10180 ∧
      off % 16 = 4) then
    [off + 4]
  else []

/-- What a read of a register clears: PEAK of LE_LOAD and PWR_PIN (R7, R128, R416). -/
def Dev.readClears (d : Dev) (off : Nat) : Dev :=
  if 0x40000 ≤ off ∧ off < 0x56000 ∧ off % 256 = 12 then d.modLe ((off - 0x40000) / 256) (fun l => { l with loadPeak := 0 })
  else if off = 0x2500C then { d with pwr := { d.pwr with peak := 0 } }
  else d

/-- A read of one 32-bit register: a captured word is returned and used up; a low word captures its high words from the same edge. -/
def regRead (n : Net) (d : Dev) (f off : Nat) : Nat × Dev :=
  if 0x80000 ≤ off ∧ off < 0x90000 then (0, if f = 0 ∧ (d.doorbellAt f (off - 0x80000 - 0x1000 * f) 4 0).isNone ∧ off < 0x81000 then
      d.decodeError off else d)
  else if !regVisible d f off then (0, d)
  else match regValue n d f off with
    | none => (0, if f = 0 then d.decodeError off else d)
    | some v =>
      let caps := capturedBy off
      if caps.isEmpty then
        match (d.cap f).words.get none off with
        | some w => (w, (d.modCap f (fun c => { c with words := c.words.set none off none })).readClears off)
        | none => (v, d.readClears off)
      else
        (v, d.modCap f (fun c => { c with words := caps.foldl (fun t x => t.set none x (some ((regValue n d f x).getD 0))) c.words }))

/-- A read of some bytes of BAR0: 32-bit reads of every register that holds one, in ascending order (R427, R441). -/
def bar0Read (n : Net) (d : Dev) (f off nbytes : Nat) : Nat × Dev :=
  let first := off / 4
  let (v, d) := (List.range ((off + nbytes + 3) / 4 - first)).foldl (fun (a : Nat × Dev) k =>
    let (w, d) := regRead n a.2 f (4 * (first + k))
    (a.1 + w * 2 ^ (32 * k), d)) (0, d)
  (v / 2 ^ (8 * (off % 4)) % 2 ^ (8 * nbytes), d)

/-! ## BAR2 -/

/-- A CST entry's words (R25). -/
def cstWord (n : Net) (d : Dev) (ca w : Nat) : Nat :=
  let c := d.cell ca
  let voa := isVoaCa ca
  if !isCellCa ca then 0
  else if w = 0 then
    let st := if voa then (if voaHeldDark n d ca then 5 else 4) else match n.swOf ca with
      | .bar => 0
      | .cross => 1
      | .split => 2
    let con := match d.cons ca with
      | .free => 0
      | .forcedBar => 1
      | .forcedCross => 2
    pack [(st, 0), (con, 3), ((d.loop (hpAa ca)).mode, 5), (c.region, 8), (b2n (d.lockShown n ca), 11), (b2n (d.cellLimited ca), 12),
      (b2n (d.loop (hpAa ca)).wrapPending, 13), (b2n c.settling, 14), (b2n c.handover, 15), (b2n (d.blanked ca), 16)]
  else if w = 1 then
    let put := fun (x : Option Nat) => match x with
      | some i => i + 512
      | none => 0
    if voa then put ((n.voaConn ca).map (·.inp)) else put (n.carried ca 0) + put (n.carried ca 1) * 65536
  else if w = 2 then (if voa then d.tgt (if isInVoa ca then 0 else 1) (caIdx ca) + c.attenAct * 65536 else 0)
  else if w = 3 then turn32 c.phiTgt
  else if w = 4 then turn32 (c.phiTh + c.f)
  else if w = 5 then half (n.esnCell.get 0 ca) 0
  else if w = 6 then half (n.esnCell.get 0 ca) 1
  else 0

/-- An LPT entry's words: RO words as last written back, RW words as written (R120, R121). -/
def lptWordAt (d : Dev) (aa w : Nat) : Nat :=
  let l := d.loop aa
  if aaHole aa then 0
  else if w = 2 ∨ w = 3 then
    if aaKind aa = 2 then 0
    else match d.fab.lptW.get none (16 * aa + w) with
      | some v => v
      | none =>
        if w = 2 then l.slewPh + (if aaKind aa = 0 && isVoaCa (aaCell aa) then l.slewDb * 65536 else 0)
        else l.ceil.getD (if aaKind aa = 0 then 16000 else 4000)
  else l.wb.getD w 0

/-- A GST word: as written last, else as in force (R122). -/
def gstWordAt (d : Dev) (i : Nat) : Nat :=
  if 14 ≤ i % 16 then 0
  else match (d.fab.loads.filterMap (fun p => match p.2 with
    | .gst j v => if j = i then some v else none
    | _ => none)).getLast? with
    | some v => v
    | none => twos (d.gain i) 32

/-- Words of a cell record from its fields by number (R245). -/
def cellRecord (f : Nat → Int) (w : Nat) : Nat :=
  let pair := fun (a b : Nat) => twos (f a) 16 + twos (f b) 16 * 65536
  if w = 0 then twos (f 0) 32
  else if w = 1 then twos (f 1) 32
  else if w = 2 then twos (f 2) 32
  else if w = 3 then pair 3 4
  else if w = 4 then twos (f 5) 16
  else if 5 ≤ w ∧ w ≤ 10 then pair (6 + 2 * (w - 5)) (7 + 2 * (w - 5))
  else if 16 ≤ w ∧ w ≤ 31 then pair (18 + 2 * (w - 16)) (19 + 2 * (w - 16))
  else 0
/-- Words of a monitor record (R245). -/
def monRecord (f : Nat → Int) (w : Nat) : Nat :=
  let pair := fun (a b : Nat) => twos (f a) 16 + twos (f b) 16 * 65536
  if w = 0 then pair 0 1
  else if w = 1 then pair 2 3
  else if w = 2 then twos (f 4) 32
  else if w = 3 then pair 5 6
  else if w = 4 then twos (f 7) 16
  else 0

/-- The calibration window, by offset from its base (R244, R245). -/
def cftWord (d : Dev) (off : Nat) : Nat :=
  let set := d.cal.view
  let fact := fun (v : Nat) => if d.cal.factValid then v else 0
  let w := off / 4
  if off < 0x400 then (if off % 8 = 0 then twos (d.flNow (off / 8)).1 16 + twos (d.flNow (off / 8)).2 16 * 65536 else 0)
  else if 0x1000 ≤ off ∧ off < 0x1400 then
    let k := (off - 0x1000) / 8
    if off % 8 = 0 then twos (d.cal.delta.flOff.get 0 k) 16 + d.cal.delta.flGain.get 0x8000 k * 65536 else 0
  else if 0x100000 ≤ off ∧ off < 0x500000 then cellRecord (d.cellCoeff ((off - 0x100000) / 128)) (w % 32)
  else if 0x500000 ≤ off ∧ off < 0x700000 then monRecord (d.monCoeff ((off - 0x500000) / 32)) (w % 8)
  else if 0x700000 ≤ off ∧ off < 0x780000 then
    let ca := (off - 0x700000) / 16
    let x := d.cal.delta.cell.get {} ca
    if !isCellCa ca then 0
    else if w % 4 = 0 then twos x.bias 32
    else if w % 4 = 1 then twos x.hc 32
    else if w % 4 = 2 then x.sPturn + x.sRhp * 65536
    else x.sRhc
  else if 0x780000 ≤ off ∧ off < 0x800000 then
    let m := (off - 0x780000) / 8
    let dk := fun (k : Nat) => twos (d.cal.delta.dark.get 0 (4 * m + k)) 16
    if mpaHole m then 0 else if w % 2 = 0 then dk 0 + dk 1 * 65536 else dk 2
  else if 0x800000 ≤ off ∧ off < 0xC00000 then
    let ca := (off - 0x800000) / 128
    fact (cellRecord (fun f => if isCellCa ca && cellFieldApplies ca f then Config.factoryCell set ca f else 0) (w % 32))
  else if 0xC00000 ≤ off ∧ off < 0xE00000 then
    let m := (off - 0xC00000) / 32
    fact (monRecord (fun f => if mpaHole m then 0 else Config.factoryMon set m f) (w % 8))
  else if 0xE00000 ≤ off ∧ off < 0xE00400 then
    let k := (off - 0xE00000) / 8
    fact (if off % 8 = 0 then twos (Config.factoryFl set k 0) 16 + twos (Config.factoryFl set k 1) 16 * 65536 else 0)
  else 0

/-- May a function read an MRT pair: PF0 all, another those of VOA cells of ports its domain owns (R175)? -/
def Dev.mrtVisible (d : Dev) (f mpa : Nat) : Bool :=
  let ca := mpaCell mpa
  !mpaHole mpa && (f == 0 || (isVoaCa ca && d.owner (if isInVoa ca then 0 else 1) (caIdx ca) == f))

/-- A 32-bit word of BAR2 at a word-aligned offset, as function f sees it (R447, R449). -/
def bar2Word (n : Net) (d : Dev) (m : Mem) (f off : Nat) : Nat :=
  if 0x900000 ≤ off ∧ off < 0x980000 then
    let x := (off - 0x900000) / 8
    if d.mrtVisible f x then (if off % 8 = 0 then (d.mrt x).word else (d.mrt x).time) else 0
  else if f ≠ 0 then 0
  else if off < 0x100000 then cstWord n d (off / 32) (off % 32 / 4)
  else if off < 0x900000 then lptWordAt d ((off - 0x100000) / 64) (off % 64 / 4)
  else if 0x980000 ≤ off ∧ off < 0xA00000 then
    let x := (off - 0x980000) / 8
    if mpaHole x then 0 else if off % 8 = 0 then ((d.met x).words (deviceRef x)).1 else ((d.met x).words (deviceRef x)).2
  else if 0xA00000 ≤ off ∧ off < 0xA02000 then d.cxtWord n ((off - 0xA00000) / 16) (off % 16 / 4)
  else if 0xA10000 ≤ off ∧ off < 0xA64000 then gstWordAt d ((off - 0xA10000) / 4)
  else if 0x1000000 ≤ off ∧ off < 0x2000000 then cftWord d (off - 0x1000000)
  else if 0x2000000 ≤ off ∧ off < 0x2100000 then Memory.readNat m.pattern (off - 0x2000000) 4
  else if 0x2200000 ≤ off ∧ off < 0x2300000 then Memory.readNat m.fcb (off - 0x2200000) 4
  else 0

/-- A read of some bytes of BAR2. A 4-byte read of an MRT value word captures the pair's time word, and one of a time word returns the
captured word where it names the same MPA (R174, R448). -/
def bar2Read (n : Net) (d : Dev) (m : Mem) (f off nbytes : Nat) : Nat × Dev :=
  let x := (off - 0x900000) / 8
  if nbytes = 4 ∧ off % 4 = 0 ∧ 0x900000 ≤ off ∧ off < 0x980000 ∧ d.mrtVisible f x then
    if off % 8 = 0 then ((d.mrt x).word, d.modCap f (fun c => { c with mrt := some (x, (d.mrt x).time) }))
    else match (d.cap f).mrt with
      | some (y, t) => if y = x then (t, d.modCap f (fun c => { c with mrt := none })) else ((d.mrt x).time, d)
      | none => ((d.mrt x).time, d)
  else
    let first := off / 4
    let v := (List.range ((off + nbytes + 3) / 4 - first)).foldl (fun (a : Nat) k => a + bar2Word n d m f (4 * (first + k)) * 2 ^ (32 * k)) 0
    (v / 2 ^ (8 * (off % 4)) % 2 ^ (8 * nbytes), d)

/-- A read of some bytes of BAR4 (R450): address, data and mask of the one vector, and its pending bit. -/
def bar4Read (d : Dev) (f off nbytes : Nat) : Nat :=
  let x := d.fn f
  let v := x.msixAddr + x.msixData * 2 ^ 64 + b2n x.msixMask * 2 ^ 96 + b2n x.msixPend * 2 ^ (8 * 0x800)
  v / 2 ^ (8 * off) % 2 ^ (8 * nbytes)

/-! ## Reads -/

/-- A dword of a function's configuration space as far as the spec gives it (R247, R249, R275; places PRESUMED, log entry 123): identifiers, Device
Control, Device Control 2, the MSI-X function mask, AER, SR-IOV. -/
def Dev.cfgWord (d : Dev) (f off : Nat) : Nat :=
  let c := (d.fn f).cfg
  if off = 0x000 then pack [(0x1D7E, 0), (if f = 0 then 0x5A12 else 0x5A13, 16)]
  else if off = 0x008 then pack [(0xA1, 0), (0x0880, 16)]
  else if off = 0x048 then c.devCtl
  else if off = 0x068 then c.devCtl2
  else if off = 0x0B0 then pack [(0x11, 0), (b2n c.fnMask, 30), (1, 31)]
  else if off = 0x104 then c.aerUnc
  else if off = 0x108 then c.aerUncMask
  else if off = 0x10C then c.aerUncSev
  else if off = 0x110 then c.aerCor
  else if off = 0x114 then c.aerCorMask
  else if f ≠ 0 then 0
  else if off = 0x14C then pack [(15, 0), (15, 16)]
  else if off = 0x150 then d.io.numVfs
  else if off = 0x154 then pack [(1, 0), (1, 16)]
  else if off = 0x158 then 0x5A13 * 65536
  else if off = 0x188 then (if d.tim.ptmEn then 3 else 0)
  else 0

/-- A host read of up to 4 KiB within one BAR, or of configuration space as BAR number 7. -/
def hostRead (fn bar off nbytes : Nat) (s : State) : Host.Outcome State Fault Refusal :=
  if bar = 7 then
    if s.d.reach fn then
      finish s (s.d.send (.readData fn ((List.range ((off % 4 + nbytes + 3) / 4)).foldl (fun (a : Nat) k =>
        a + s.d.cfgWord fn (4 * (off / 4 + k)) * 2 ^ (32 * k)) 0 / 2 ^ (8 * (off % 4)) % 2 ^ (8 * nbytes))))
    else ignored s
  else hostRd s fn bar off nbytes (fun d =>
    if bar = 0 then (if off + nbytes ≤ 0x100000 then bar0Read s.net d fn off nbytes else (0, d))
    else if bar = 2 then (if off + nbytes ≤ 0x4000000 then bar2Read s.net d s.mem fn off nbytes else (0, d))
    else if bar = 4 then (if off + nbytes ≤ 0x1000 then (bar4Read d fn off nbytes, d) else (0, d))
    else (0, d))

/-- CAPTURE_READ: a read of any register or table; one of a low word captures its high words (R104). -/
def execCaptureRead (fn bar off nbytes : Nat) (s : State) : Host.Outcome State Fault Refusal := hostRead fn bar off nbytes s
/-- MRT_VALUE_READ: a 4-byte read of a value word (R174). -/
def execMrtValueRead (fn mpa : Nat) (s : State) : Host.Outcome State Fault Refusal := hostRead fn 2 (0x900000 + 8 * mpa) 4 s
/-- RC_READ: a read of a register of BAR0 with an RC field (R7). -/
def execRcRead (fn off nbytes : Nat) (s : State) : Host.Outcome State Fault Refusal := hostRead fn 0 off nbytes s
/-- PMC_LIVE_READ: a 4-byte read of PMC_LIVE_LO (R434). -/
def execPmcLiveRead (fn : Nat) (s : State) : Host.Outcome State Fault Refusal := hostRead fn 0 0x20010 4 s

end Sys2Proof.Machine
end

