-- ==== Sys2Proof/Machine/RegWrite.lean ====
section
/-!
DEFINITION. What a host write does: to every register of BAR0 by its fields' access types (R7, R441, R442), to the tables of BAR2 (R448), to
the MSI-X entry in BAR4 (R450), to the PTM capability (R354).
-/
namespace Sys2Proof.Machine

/-! ## Fields -/

/-- W1C: the bits written 1 clear. -/
def w1c (x v : Nat) : Nat := x &&& (0xFFFFFFFF ^^^ v)
/-- A 64-bit value with its low (k = 0) or high word written. -/
def setHalf (old k v : Nat) : Nat := if k = 0 then half old 1 * 2 ^ 32 + v else v * 2 ^ 32 + half old 0
/-- The same for a ring base of HIF, whose bits [11:0] read 0 (R287). -/
def setBase (old k v : Nat) : Nat := setHalf old k (if k = 0 then v / 4096 * 4096 else v)

/-! ## Blocks -/

/-- GLB (R444, R445): a function's scratch; GLB_CTL in PF0. -/
def Dev.glbWrite (d : Dev) (f off v : Nat) : Dev :=
  if off = 0x40 then d.modFn f (fun x => { x with scratch := v })
  else if off = 0x44 ∧ f = 0 then
    { d with glb := { vfTimeEn := if d.glb.lock then d.glb.vfTimeEn else bitOf v 0, lock := d.glb.lock || bitOf v 1 } }
  else d

/-- The registers of a function in HIF (R287): bases only while their ring's EN is 0. -/
def Fn.hifWrite (x : Fn) (o v : Nat) : Fn :=
  if o < 0x10 then
    if x.aqEn then x
    else if o < 0x08 then { x with aqSqBase := setBase x.aqSqBase (o / 4) v } else { x with aqCqBase := setBase x.aqCqBase (o / 4 - 2) v }
  else if o = 0x10 then x.aqCfgWrite v
  else if o = 0x14 ∨ o = 0x18 then (if x.evtEn then x else { x with evtBase := setBase x.evtBase ((o - 0x14) / 4) v })
  else if o = 0x1C then x.evtCfgWrite v
  else x

/-- Telemetry registers (R287). -/
def Tel.regWrite (t : Tel) (off v : Nat) : Tel :=
  if off = 0x600 ∨ off = 0x604 then (if t.en then t else { t with hdrBase := setBase t.hdrBase ((off - 0x600) / 4) v })
  else if off = 0x608 ∨ off = 0x60C then (if t.en then t else { t with bulkBase := setBase t.bulkBase ((off - 0x608) / 4) v })
  else if off = 0x610 then t.cfgWrite v
  else if off = 0x614 then { t with period := clampN (v % 65536) 1 60000 }
  else t

/-- HIF. -/
def Dev.hifWrite (d : Dev) (off v : Nat) : Dev :=
  if off = 0 then { d with io := { d.io with telRo := bitOf v 0 } }
  else if 0x100 ≤ off ∧ off < 0x500 then d.modFn ((off - 0x100) / 0x40) (fun x => x.hifWrite (off % 0x40) v)
  else { d with io := { d.io with tel := d.io.tel.regWrite off v } }

/-- QM of one queue (R288): bases and Q_CFG only while STATE = NONE. -/
def Queue.qmWrite (x : Queue) (o v : Nat) : Queue :=
  if o < 0x10 then
    if x.state != .none then x
    else if o < 0x08 then { x with sqBase := setHalf x.sqBase (o / 4) v } else { x with cqBase := setHalf x.cqBase (o / 4 - 2) v }
  else if o = 0x10 then x.cfgAll v
  else if o = 0x14 then { x with aggCount := v % 256, aggTime := v / 65536 }
  else x

/-- RTE (R73). -/
def Dev.rteWrite (d : Dev) (off v : Nat) : Dev :=
  if off = 0 then { d with fab := { d.fab with rollRamp := clampN (fieldOf v 16 10) 1 1000 } }
  else if 0x40 ≤ off then { d with io := { d.io with disturb := d.io.disturb.set 0 ((off - 0x40) / 4) (v % 65536) } }
  else d

/-- CMT (R103). -/
def Dev.cmtWrite (d : Dev) (off v : Nat) : Dev :=
  let c := d.cmt
  if off = 0 then
    { d with cmt := { c with tset := v % 8, tsSrc := bitOf v 3, ver := { c.ver with twinKeep := bitOf v 4 }, asapRsv := min 8 (fieldOf v 8 4) } }
  else if off = 8 then { d with cmt := { c with ver := { c.ver with lvlTol := max 1 (v % 256), arrMax := max 1 (fieldOf v 8 8), minIn := fieldOf v 16 8 } } }
  else d

/-- DRV (R222). -/
def Dev.drvWrite (d : Dev) (off v : Nat) : Dev :=
  let tone := fun (t : Nat) (x : Nat) (m : Tab (Option Nat)) => m.set none t (if x = 24 + t then none else some x)
  if off = 0 then d.drvCtl v
  else if off = 8 then { d with drv := { d.drv with shapeSel := v % 65536 } }
  else if off = 0xC then { d with drv := { d.drv with err := w1c d.drv.err v } }
  else if 0x40 ≤ off ∧ off < 0x80 then
    let j := (off - 0x40) / 4
    { d with drv := { d.drv with tone := tone (2 * j + 1) (fieldOf v 8 6) (tone (2 * j) (v % 64) d.drv.tone) } }
  else d

/-- A write of SEQ_SYNC[x]: the idle level follows INV, and a pulse in progress is inverted with it (R216). -/
def Dev.syncWrite (d : Dev) (x v : Nat) : Dev :=
  let o := d.seq.sync.get {} x
  let new : SyncOut := { src := v % 4, pw := fieldOf v 2 8, inv := bitOf v 10, endAt := if v % 4 = 0 then none else o.endAt }
  { d with seq := { d.seq with sync := d.seq.sync.set {} x new } }.pinTo ("SYNC" ++ toString x) o.level new.level

/-- SEQ (R223). -/
def Dev.seqWrite (n : Net) (m : Mem) (d : Dev) (off v : Nat) : Dev :=
  let q := d.seq
  if off = 0 then d.seqCtl m v
  else if off = 0x08 then d.seqJumpWrite v
  else if off = 0x0C then { d with seq := { q with err := w1c q.err v } }
  else if off = 0x18 then { d with seq := q.rfWrite v }
  else if off = 0x1C then { d with seq := { q with rfLen := v } }
  else if off = 0x20 ∨ off = 0x24 then { d with seq := { q with rfAddr := setBase q.rfAddr ((off - 0x20) / 4) v } }
  else if 0x40 ≤ off ∧ off < 0x50 then d.seqBindWrite n ((off - 0x40) / 4) v
  else if 0x80 ≤ off ∧ off < 0x90 then d.syncWrite ((off - 0x80) / 4) v
  else if 0x400 ≤ off ∧ off < 0x600 then d.descWrite off v
  else if 0x1000 ≤ off then
    let e := 38 * ((off - 0x1000) / 0x100) + off % 0x100 / 4
    { d with seq := (q.tsAge d.tb2).tsWrite d.tb2 e v }
  else d

/-- MON (R194). -/
def Dev.monWrite (d : Dev) (off v : Nat) : Dev :=
  if off = 0 then
    let met := if bitOf v 0 then d.mon.met else d.mon.met.mapVals {} (fun _ m => { m with count := 0 })
    { d with mon := { d.mon with winEn := bitOf v 0, dnCount := max 1 (fieldOf v 4 4), met := met } }
  else if 0x100 ≤ off ∧ off % 16 = 0 then d.injWrite ((off - 0x100) / 16) v
  else d

/-- FL_STAT (R194): TAP_BUSY. -/
def Dev.flWrite1 (d : Dev) (off v : Nat) : Dev :=
  if off % 16 = 4 then d.modFl (off / 16) (fun l => { l with tapBusy := l.tapBusy && !bitOf v 4 }) else d

/-- CAL (R246). -/
def Dev.calWrite (d : Dev) (off v : Nat) : Dev :=
  let c := d.cal
  if off = 0 then { d with cal := { c with win := max 1 (v % 256), spareWait := fieldOf v 8 8, interpEn := bitOf v 16 } }
  else if off = 8 then
    { d with cal := { c with tolPh := max 1 (v % 256), tolSlope := max 1 (fieldOf v 8 8), tolDb := max 1 (fieldOf v 16 8), tolR := max 1 (fieldOf v 24 8) } }
  else if off = 0xC then { d with cal := { c with err := w1c c.err v } }
  else if off = 0x10 then { d with cal := { c with view := min 4 (v % 8) } }
  else d

/-- TIM (R342, R356). -/
def Dev.timWrite (d : Dev) (off v : Nat) : Dev :=
  if off = 0 then d.timCtlWrite v
  else if off = 0x08 then d.epochReset v
  else if off = 0x0C then d.timStepWrite v
  else d.setTim (fun t =>
    if off = 0x24 ∨ off = 0x28 then { t with set := setHalf t.set ((off - 0x24) / 4) v }
    else if off = 0x2C then (if t.state = 0 then { t with rate := clampRate (signedOf v 32) } else t)
    else if off = 0x3C then { t with outEn := bitOf v 0, width := clampN (fieldOf v 1 9) 1 500, todEn := bitOf v 10 }
    else if off = 0x40 then { t with inDly := signedOf v 16, outAdv := signedOf (v / 65536) 16 }
    else if off = 0x44 then { t with ptmPer := clampN (v % 1024) 1 1000 }
    else if off = 0x54 then { t with errUsed := t.errUsed && !bitOf v 0, errRefused := t.errRefused && !bitOf v 1 }
    else t)

/-- FLT (R339). -/
def Dev.fltWrite (d : Dev) (n : Net) (off v : Nat) : Dev :=
  let f := d.flt
  if off = 0 then d.fltCtlWrite n v
  else if off = 0x08 then { d with flt := { f with errSw := bitOf v 0, errPw := clampN (fieldOf v 8 12) 2 1000 } }
  else if off = 0x10 then { d with flt := { f with injScope := v } }
  else if off = 0x14 then { d with flt := { f with tsSel := v % 128 } }
  else if 0x100 ≤ off then
    let k := (off - 0x100) / 8
    if off % 8 = 0 then d.srcStatWrite n k v else d.srcCfgWrite k v
  else d

/-- ATN of function f's own view (R340). -/
def Dev.atnWrite (d : Dev) (f off v : Nat) : Dev :=
  if off = 4 then d.modView f (fun w => { w with en := v % 4096 })
  else if off = 8 then (if f = 0 then d.modView 0 (fun w => { w with pinEn := v % 4096 }) else d)
  else match leafAt off, leafAt (off - 0x200) with
    | some (_, _, _, mask, _), _ => d.modView f (fun w => { w with leaf := w.leaf.mod 0 off (fun x => w1c x (v &&& leafW1c off mask)) })
    | none, some (_, _, _, mask, _) =>
      if off < 0x200 then d else d.modView f (fun w => { w with off := w.off.set 0 (off - 0x200) (mask &&& (0xFFFFFFFF ^^^ v)) })
    | none, none => d

/-- PMC (R439). -/
def Dev.pmcWrite (d : Dev) (off v : Nat) : Dev :=
  if off = 0 then d.pmcCtlWrite v
  else if off = 0x04 then { d with pmc := { d.pmc with ovfLost := d.pmc.ovfLost && !bitOf v 1 } }
  else if off = 0x08 then { d with pmc := { d.pmc with idx := v % 4096 } }
  else if off = 0x0C then d.pmcCfgWrite v
  else if off = 0x10 then d.pmcLiveWrite false v false
  else if off = 0x14 then d.pmcLiveWrite true v false
  else d

/-- BMX (R430). -/
def Dev.bmxWrite (d : Dev) (off v : Nat) : Dev :=
  let b := d.bmx
  if off = 0 then { d with bmx := { b with decode := b.decode && !bitOf v 0, stall := b.stall && !bitOf v 1 } }
  else if 0x40 ≤ off ∧ off % 8 = 0 then
    let m := (off - 0x40) / 8
    { d with bmx := { b with qos := b.qos.set none m (if v % 16 = qosReset m then none else some (v % 16)) } }
  else d

/-- PWR (R416). -/
def Dev.pwrWrite (d : Dev) (off v : Nat) : Dev :=
  if off = 0 then d.duskWrite v
  else if off = 0x10 then { d with pwr := { d.pwr with warn := clampN (v % 4096) 100 800, alarm := clampN (fieldOf v 16 12) 100 800 } }
  else if off = 0x14 then { d with pwr := { d.pwr with vWarn := clampN (v % 65536) 3850 4500 } }
  else d

/-- THM (R416). -/
def Dev.thmWrite (d : Dev) (off v : Nat) : Dev :=
  if off = 0 then { d with thm := { d.thm with tDer := clampN (v % 256) 100 150 } }
  else if off = 8 then { d with thm := { d.thm with sel := v % 512 } }
  else d

/-- MI_CTL (R380). -/
def Dev.miWrite (d : Dev) (off v : Nat) : Dev :=
  if off = 0 then { d with mi := { d.mi with evtEn := bitOf v 0, nearFull := fieldOf v 8 8 } } else d

/-- SEC (R396): SUBMIT fetches its token in the row of its own. -/
def Dev.secWrite (d : Dev) (off v : Nat) : Dev :=
  if off = 0x10 then d.secDbgWrite v none
  else if off = 0x40 then { d with sec := { d.sec with tok := setHalf d.sec.tok 0 (v / 8 * 8) } }
  else if off = 0x44 then { d with sec := { d.sec with tok := setHalf d.sec.tok 1 v } }
  else d

/-- LE of loop engine k (R128). -/
def Dev.leWrite (d : Dev) (k o v : Nat) : Dev :=
  if o = 0 then d.leCtlWrite k v
  else if o = 8 then d.leTileWrite k v
  else if o = 0x10 then d.modLe k (fun l => { l with err := w1c l.err v })
  else d

/-! ## BAR0 -/

/-- A 32-bit write of a register by its BAR0 offset: everything but FL_CTL's capture buffer and DAWN_REQ, which `regWrite` adds. -/
def devWrite (n : Net) (m : Mem) (d : Dev) (f off v : Nat) : Dev :=
  if off < 0x1000 then d.glbWrite f off v
  else if 0x2000 ≤ off ∧ off < 0x4000 then d.hifWrite (off - 0x2000) v
  else if 0x4000 ≤ off ∧ off < 0x4800 then d.modQueue ((off - 0x4000) / 0x20) (fun x => x.qmWrite (off % 0x20) v)
  else if 0x8000 ≤ off ∧ off < 0x9000 then d.rteWrite (off - 0x8000) v
  else if 0x9000 ≤ off ∧ off < 0xA000 then d.cmtWrite (off - 0x9000) v
  else if 0xA000 ≤ off ∧ off < 0xC000 then d.drvWrite (off - 0xA000) v
  else if 0xC000 ≤ off ∧ off < 0x10000 then d.seqWrite n m (off - 0xC000) v
  else if 0x10000 ≤ off ∧ off < 0x14000 then d.monWrite (off - 0x10000) v
  else if 0x14000 ≤ off ∧ off < 0x18000 then d.flWrite1 (off - 0x14000) v
  else if 0x18000 ≤ off ∧ off < 0x19000 then d.calWrite (off - 0x18000) v
  else if 0x1A000 ≤ off ∧ off < 0x1C000 then d.timWrite (off - 0x1A000) v
  else if 0x1C000 ≤ off ∧ off < 0x1E000 then d.fltWrite n (off - 0x1C000) v
  else if 0x1E000 ≤ off ∧ off < 0x20000 then d.atnWrite f (off - 0x1E000) v
  else if 0x20000 ≤ off ∧ off < 0x24000 then d.pmcWrite (off - 0x20000) v
  else if 0x24000 ≤ off ∧ off < 0x25000 then d.bmxWrite (off - 0x24000) v
  else if 0x25000 ≤ off ∧ off < 0x26000 then d.pwrWrite (off - 0x25000) v
  else if 0x26000 ≤ off ∧ off < 0x28000 then d.thmWrite (off - 0x26000) v
  else if 0x28000 ≤ off ∧ off < 0x2A000 then d.miWrite (off - 0x28000) v
  else if 0x2A000 ≤ off ∧ off < 0x40000 then d.secWrite (off - 0x2A000) v
  else if 0x40000 ≤ off ∧ off < 0x56000 then d.leWrite ((off - 0x40000) / 0x100) (off % 0x100) v
  else d

/-- A 32-bit write of a register that exists and that function f sees. -/
def regWrite (f off v : Nat) (s : State) : State :=
  if 0x14000 ≤ off ∧ off < 0x14800 ∧ off % 16 = 0 then
    let k := (off - 0x14000) / 16
    let (armed, d) := s.d.flCtlWrite k v
    { s with d := d, mem := if armed then s.mem.clearLane k else s.mem }
  else if off = 0x25000 ∧ bitOf v 1 ∧ s.d.dawnMay then newDawn s false s.d.pwr.refSel (BitVec.ofNat 4 s.d.pwr.strapId)
  else { s with d := devWrite s.net s.mem s.d f off v }

/-- A write that reaches some bytes of one 32-bit word of BAR0: the bytes as a value, and how many. A doorbell page answers in its own function
(R256, R257); a register takes whole words alone (R441); where none lies, or it is not visible, nothing is written (R440, R442). -/
def wordWrite (f off v nbytes : Nat) (s : State) : State :=
  if 0x80000 ≤ off ∧ off < 0x90000 then
    if (off - 0x80000) / 0x1000 ≠ f then s
    else match s.d.doorbellAt f (off % 0x1000) nbytes (w32 v) with
      | some d => { s with d := d }
      | none => if f = 0 then { s with d := s.d.decodeError off } else s
  else if !regVisible s.d f off then s
  else if (regValue s.net s.d f off).isNone then (if f = 0 then { s with d := s.d.decodeError off } else s)
  else if nbytes ≠ 4 then { s with d := s.d.decodeError off }
  else regWrite f off v s

/-- A write of bytes to BAR0, split into its 32-bit words in ascending order (R427, R441). -/
def bar0Write (f off : Nat) (bs : List Byte) (s : State) : State :=
  let first := off / 4
  (List.range ((off + bs.length + 3) / 4 - first)).foldl (fun s k =>
    let at_ := 4 * (first + k)
    let lo := max off at_
    let hi := min (off + bs.length) (at_ + 4)
    wordWrite f at_ (leField bs (lo - off) (hi - lo) * 2 ^ (8 * (lo - at_))) (hi - lo) s) s

/-! ## BAR2 and BAR4 -/

/-- Bytes of an aligned 32-bit word after a write: those not written keep what they read as. -/
def mergeWord (old at_ off : Nat) (bs : List Byte) : Nat :=
  leField ((List.range 4).map (fun k => if off ≤ at_ + k ∧ at_ + k < off + bs.length then bs.getD (at_ + k - off) 0
    else BitVec.ofNat 8 (old / 2 ^ (8 * k)))) 0 4

/-- A PF0 write to the LPT, GST or MET: whole words as written, parts of words merged (R124, R178, R183, R448). -/
def Dev.tableWrite (n : Net) (m : Mem) (d : Dev) (off : Nat) (bs : List Byte) : Dev :=
  let first := off / 4
  let words := (List.range ((off + bs.length + 3) / 4 - first)).map (fun k => mergeWord (bar2Word n d m 0 (4 * (first + k))) (4 * (first + k)) off bs)
  if 0x980000 ≤ off ∧ off < 0xA00000 then
    let e0 := (off - 0x980000) / 8
    (List.range ((off - 0x980000 + bs.length + 7) / 8 - e0)).foldl (fun d k =>
      let base := 0x980000 + 8 * (e0 + k)
      let w := fun (o : Nat) => words.getD (o / 4 - first) (bar2Word n d m 0 o)
      d.metWhole (e0 + k) (if base / 4 < first then bar2Word n d m 0 base else w base) (w (base + 4))
        (decide (off ≤ base) && decide (base + 8 ≤ off + bs.length))) d
  else d.loopTableWrite 0 (4 * first) (words.map w32)

/-- A write of bytes to BAR2: only PF0's take effect (R448, R449). -/
def bar2Write (f off : Nat) (bs : List Byte) (s : State) : State :=
  if f ≠ 0 ∨ bs.isEmpty then s
  else if 0x2000000 ≤ off ∧ off + bs.length ≤ 0x2100000 then
    let r := patternPut false s.mem s.d (off - 0x2000000) bs
    { s with mem := r.1, d := r.2 }
  else if 0x100000 ≤ off ∧ off < 0x1000000 then { s with d := s.d.tableWrite s.net s.mem off bs }
  else s

/-- A write of bytes to BAR4: the one entry of the MSI-X table; a mask that clears sends the pending message (R275, R450). -/
def Dev.bar4Write (d : Dev) (f off : Nat) (bs : List Byte) : Dev :=
  let x := d.fn f
  let old := fun (k : Nat) => if k < 2 then half x.msixAddr k else if k = 2 then x.msixData else b2n x.msixMask
  let w := fun (k : Nat) => mergeWord (old k) (4 * k) off bs
  let mask := bitOf (w 3) 0
  (d.modFn f (fun x => { x with msixAddr := w 0 + w 1 * 2 ^ 32, msixData := w 2, msixMask := mask })).sendPending f

/-! ## Configuration space -/

/-- A write of one dword of a function's configuration space (R247, R275, R354; places PRESUMED, log entry 123). AER status bits are W1C; PTM Control
has PTM Enable and Root Select in bits 0 and 1. -/
def Dev.cfgWrite (d : Dev) (f off v : Nat) : Dev :=
  let set := fun (g : Cfg → Cfg) => d.modFn f (fun x => { x with cfg := g x.cfg })
  if off = 0x048 then set (fun c => { c with devCtl := v % 0x8000 })
  else if off = 0x068 then set (fun c => { c with devCtl2 := v % 65536 })
  else if off = 0x0B0 then (set (fun c => { c with fnMask := bitOf v 30 })).sendPending f
  else if off = 0x104 then set (fun c => { c with aerUnc := w1c c.aerUnc v })
  else if off = 0x108 then set (fun c => { c with aerUncMask := v })
  else if off = 0x10C then set (fun c => { c with aerUncSev := v })
  else if off = 0x110 then set (fun c => { c with aerCor := w1c c.aerCor v })
  else if off = 0x114 then set (fun c => { c with aerCorMask := v })
  else if off = 0x188 ∧ f = 0 then d.setTim (fun t => { t with ptmEn := bitOf v 0 && bitOf v 1 })
  else d

/-! ## Commands -/

/-- REGISTER_WRITE: a write of up to 4 KiB within one BAR, or, as BAR number 7, of one dword of configuration space (PRESUMED, log entries 60, 123).
-/
def execRegisterWrite (fn bar off : Nat) (data : List Byte) (s : State) : Host.Outcome State Fault Refusal :=
  if !s.d.reach fn then ignored s
  else if bar = 7 then
    (if off % 4 = 0 ∧ data.length = 4 then finish s (s.d.cfgWrite fn off (leField data 0 4)) else ignored s)
  else
    let s := { s with d := s.d.inbound true bar off data.length }
    let t := if bar = 0 then bar0Write fn off data s
             else if bar = 2 then bar2Write fn off data s
             else if bar = 4 then { s with d := s.d.bar4Write fn off data }
             else s
    .next { t with d := t.d.notify }

/-- GLB_CTL with LOCK = 1 (R445). -/
def execGlbCtlLock (fn : Nat) (value : Word) (s : State) : Host.Outcome State Fault Refusal :=
  pf0Wr s fn 0x44 (fun d => d.glbWrite 0 0x44 value.toNat)

end Sys2Proof.Machine
end

