-- ==== Sys2Proof/Machine/Dispatch.lean ====
section
/-!
DEFINITION. The meaning of every command: one direct call for each constructor.
-/
namespace Sys2Proof.Machine

def exec (i : Instr) (s : State) : Host.Outcome State Fault Refusal :=
  match i with
  | .sqTail fn q nbytes value => Sys2Proof.Machine.execSqTail fn q nbytes value s
  | .cqHead fn q nbytes value => Sys2Proof.Machine.execCqHead fn q nbytes value s
  | .aqSqTail fn nbytes value => Sys2Proof.Machine.execAqSqTail fn nbytes value s
  | .aqCqHead fn nbytes value => Sys2Proof.Machine.execAqCqHead fn nbytes value s
  | .evtHead fn nbytes value => Sys2Proof.Machine.execEvtHead fn nbytes value s
  | .telHead fn nbytes value => Sys2Proof.Machine.execTelHead fn nbytes value s
  | .irqRearm fn nbytes value => Sys2Proof.Machine.execIrqRearm fn nbytes value s
  | .qctlEnable fn q nbytes rsv flush => Sys2Proof.Machine.execQctlEnable fn q nbytes rsv flush s
  | .qctlDisable fn q nbytes rsv flush => Sys2Proof.Machine.execQctlDisable fn q nbytes rsv flush s
  | .resume fn q nbytes rsv enable => Sys2Proof.Machine.execResume fn q nbytes rsv enable s
  | .flush fn q nbytes rsv enable => Sys2Proof.Machine.execFlush fn q nbytes rsv enable s
  | .commandFetch admin q sqe payload entry data => Sys2Proof.Machine.execCommandFetch admin q sqe payload entry data s
  | .completionTimeout r sqe part => Sys2Proof.Machine.execCompletionTimeout r sqe part s
  | .hostReadFailure r sqe part how => Sys2Proof.Machine.execHostReadFailure r sqe part how s
  | .aggTime ring q => Sys2Proof.Machine.execAggTime ring q s
  | .msixUnmask mask => Sys2Proof.Machine.execMsixUnmask mask s
  | .telemetryRecord => Sys2Proof.Machine.execTelemetryRecord s
  | .adminQueueEnable fn target value => Sys2Proof.Machine.execAdminQueueEnable fn target value s
  | .adminQueueDisable fn target value => Sys2Proof.Machine.execAdminQueueDisable fn target value s
  | .adminAbortEnd fn => Sys2Proof.Machine.execAdminAbortEnd fn s
  | .eventRingEnable fn target value => Sys2Proof.Machine.execEventRingEnable fn target value s
  | .eventRingDisable fn target value => Sys2Proof.Machine.execEventRingDisable fn target value s
  | .telemetryEnable fn value => Sys2Proof.Machine.execTelemetryEnable fn value s
  | .create fn q value => Sys2Proof.Machine.execCreate fn q value s
  | .connectBatch q => Sys2Proof.Machine.execConnectBatch q s
  | .attenSet q => Sys2Proof.Machine.execAttenSet q s
  | .fence q => Sys2Proof.Machine.execFence q s
  | .queryConn q => Sys2Proof.Machine.execQueryConn q s
  | .calRun q => Sys2Proof.Machine.execCalRun q s
  | .snapshot q => Sys2Proof.Machine.execSnapshot q s
  | .cellDirect q => Sys2Proof.Machine.execCellDirect q s
  | .loopMode q => Sys2Proof.Machine.execLoopMode q s
  | .seqLoad part => Sys2Proof.Machine.execSeqLoad part s
  | .nop q => Sys2Proof.Machine.execNop q s
  | .queueCreate fn => Sys2Proof.Machine.execQueueCreate fn s
  | .queueDelete fn => Sys2Proof.Machine.execQueueDelete fn s
  | .abort fn => Sys2Proof.Machine.execAbort fn s
  | .domainSet fn => Sys2Proof.Machine.execDomainSet fn s
  | .fwActivate fn => Sys2Proof.Machine.execFwActivate fn s
  | .islandRead fn => Sys2Proof.Machine.execIslandRead fn s
  | .routeJobStart q => Sys2Proof.Machine.execRouteJobStart q s
  | .routeJobComplete slot => Sys2Proof.Machine.execRouteJobComplete slot s
  | .heldBatchRerun slot => Sys2Proof.Machine.execHeldBatchRerun slot s
  | .stagingComplete slot => Sys2Proof.Machine.execStagingComplete slot s
  | .laneReservation => Sys2Proof.Machine.execLaneReservation s
  | .midnight => Sys2Proof.Machine.execMidnight s
  | .verificationWindowClose slot meas => Sys2Proof.Machine.execVerificationWindowClose slot meas s
  | .rollbackCommit slot => Sys2Proof.Machine.execRollbackCommit slot s
  | .devicePlaneCommit inp => Sys2Proof.Machine.execDevicePlaneCommit inp s
  | .planeRestoreCommit inp => Sys2Proof.Machine.execPlaneRestoreCommit inp s
  | .rollRampStart slot => Sys2Proof.Machine.execRollRampStart slot s
  | .releaseCommit slot => Sys2Proof.Machine.execReleaseCommit slot s
  | .settleWindowEnd ca => Sys2Proof.Machine.execSettleWindowEnd ca s
  | .handoverEnd ca => Sys2Proof.Machine.execHandoverEnd ca s
  | .demodulatorWindowFull ca => Sys2Proof.Machine.execDemodulatorWindowFull ca s
  | .attenTargetApply => Sys2Proof.Machine.execAttenTargetApply s
  | .loopModeApply => Sys2Proof.Machine.execLoopModeApply s
  | .snapshotRecord => Sys2Proof.Machine.execSnapshotRecord s
  | .abortCut => Sys2Proof.Machine.execAbortCut s
  | .abortComplete admin q => Sys2Proof.Machine.execAbortComplete admin q s
  | .flr fn => Sys2Proof.Machine.execFlr fn s
  | .flrComplete fn => Sys2Proof.Machine.execFlrComplete fn s
  | .perstN => Sys2Proof.Machine.execPerstN s
  | .perstNRelease => Sys2Proof.Machine.execPerstNRelease s
  | .linkDown => Sys2Proof.Machine.execLinkDown s
  | .linkUp gen width flit => Sys2Proof.Machine.execLinkUp gen width flit s
  | .vfRemoval numVfs => Sys2Proof.Machine.execVfRemoval numVfs s
  | .vfEnable numVfs => Sys2Proof.Machine.execVfEnable numVfs s
  | .vfTeardownComplete => Sys2Proof.Machine.execVfTeardownComplete s
  | .supervisorRestart memory => Sys2Proof.Machine.execSupervisorRestart memory s
  | .supervisorRestartEnd => Sys2Proof.Machine.execSupervisorRestartEnd s
  | .tick rail stream ringErr twinErr => Sys2Proof.Machine.execTick rail stream ringErr twinErr s
  | .fastPeriod => Sys2Proof.Machine.execFastPeriod s
  | .leFailure le bit => Sys2Proof.Machine.execLeFailure le bit s
  | .takeover tn => Sys2Proof.Machine.execTakeover tn s
  | .takeoverComplete tn => Sys2Proof.Machine.execTakeoverComplete tn s
  | .spareReq fn le value => Sys2Proof.Machine.execSpareReq fn le value s
  | .returnReq fn le value => Sys2Proof.Machine.execReturnReq fn le value s
  | .leRejoin le pass => Sys2Proof.Machine.execLeRejoin le pass s
  | .lptWriteBack tn => Sys2Proof.Machine.execLptWriteBack tn s
  | .lockDeclared ca => Sys2Proof.Machine.execLockDeclared ca s
  | .lockLost ca => Sys2Proof.Machine.execLockLost ca s
  | .regionChange ca => Sys2Proof.Machine.execRegionChange ca s
  | .cellUnlit ca => Sys2Proof.Machine.execCellUnlit ca s
  | .cellLit ca => Sys2Proof.Machine.execCellLit ca s
  | .wrapTaken ca => Sys2Proof.Machine.execWrapTaken ca s
  | .conversionResult mpa code fast clip err => Sys2Proof.Machine.execConversionResult mpa code fast clip err s
  | .windowTransition mpa => Sys2Proof.Machine.execWindowTransition mpa s
  | .go fn slot value => Sys2Proof.Machine.execGo fn slot value s
  | .cancel fn slot value => Sys2Proof.Machine.execCancel fn slot value s
  | .injectedResult slot code clip => Sys2Proof.Machine.execInjectedResult slot code clip s
  | .claim fn lane value => Sys2Proof.Machine.execClaim fn lane value s
  | .claimClear fn lane value => Sys2Proof.Machine.execClaimClear fn lane value s
  | .arm fn lane value => Sys2Proof.Machine.execArm fn lane value s
  | .captureComplete lane samples trigAt => Sys2Proof.Machine.execCaptureComplete lane samples trigAt s
  | .metWrite fn mpa value => Sys2Proof.Machine.execMetWrite fn mpa value s
  | .lptWrite fn addr data => Sys2Proof.Machine.execLptWrite fn addr data s
  | .parameterLoad => Sys2Proof.Machine.execParameterLoad s
  | .shapeLoad fn value => Sys2Proof.Machine.execShapeLoad fn value s
  | .shapeLoadComplete => Sys2Proof.Machine.execShapeLoadComplete s
  | .toneApply fn value => Sys2Proof.Machine.execToneApply fn value s
  | .tonePlanChange => Sys2Proof.Machine.execTonePlanChange s
  | .ditherAmplitudeChange aa => Sys2Proof.Machine.execDitherAmplitudeChange aa s
  | .driveFault kind aa => Sys2Proof.Machine.execDriveFault kind aa s
  | .run fn value => Sys2Proof.Machine.execRun fn value s
  | .stop fn value => Sys2Proof.Machine.execStop fn value s
  | .jump fn value => Sys2Proof.Machine.execJump fn value s
  | .seqBind fn lane value => Sys2Proof.Machine.execSeqBind fn lane value s
  | .unbind lane => Sys2Proof.Machine.execUnbind lane s
  | .sampleBoundary => Sys2Proof.Machine.execSampleBoundary s
  | .iterationBoundary => Sys2Proof.Machine.execIterationBoundary s
  | .segmentReady => Sys2Proof.Machine.execSegmentReady s
  | .refillEnable fn value => Sys2Proof.Machine.execRefillEnable fn value s
  | .segmentFilled seg data => Sys2Proof.Machine.execSegmentFilled seg data s
  | .patternWrite fn desc addr nbytes value => Sys2Proof.Machine.execPatternWrite fn desc addr nbytes value s
  | .syncin => Sys2Proof.Machine.execSyncin s
  | .syncPulseEnd x => Sys2Proof.Machine.execSyncPulseEnd x s
  | .calTileStart tn => Sys2Proof.Machine.execCalTileStart tn s
  | .calWindowEnd tn meas => Sys2Proof.Machine.execCalWindowEnd tn meas s
  | .spareWaitTimeout tn => Sys2Proof.Machine.execSpareWaitTimeout tn s
  | .store => Sys2Proof.Machine.execStore s
  | .storeComplete verifies => Sys2Proof.Machine.execStoreComplete verifies s
  | .calApply tn => Sys2Proof.Machine.execCalApply tn s
  | .calReturn tn => Sys2Proof.Machine.execCalReturn tn s
  | .storeRetry => Sys2Proof.Machine.execStoreRetry s
  | .interpolation => Sys2Proof.Machine.execInterpolation s
  | .force fn src value => Sys2Proof.Machine.execForce fn src value s
  | .latchedClear fn src value => Sys2Proof.Machine.execLatchedClear fn src value s
  | .outClear fn src value => Sys2Proof.Machine.execOutClear fn src value s
  | .quietPeriodEnd src scope => Sys2Proof.Machine.execQuietPeriodEnd src scope s
  | .fatalRecoveryTimeout => Sys2Proof.Machine.execFatalRecoveryTimeout s
  | .blankNAssert widthNs => Sys2Proof.Machine.execBlankNAssert widthNs s
  | .blankNDeassert => Sys2Proof.Machine.execBlankNDeassert s
  | .swBlank fn value => Sys2Proof.Machine.execSwBlank fn value s
  | .blankStage2 => Sys2Proof.Machine.execBlankStage2 s
  | .blankRelease => Sys2Proof.Machine.execBlankRelease s
  | .errNPulseEnd => Sys2Proof.Machine.execErrNPulseEnd s
  | .fltCtlLock fn value => Sys2Proof.Machine.execFltCtlLock fn value s
  | .ppsIn => Sys2Proof.Machine.execPpsIn s
  | .todFrame bytes gapNs => Sys2Proof.Machine.execTodFrame bytes gapNs s
  | .ptmExchange => Sys2Proof.Machine.execPtmExchange s
  | .ptmResponse ok master => Sys2Proof.Machine.execPtmResponse ok master s
  | .sourceLost => Sys2Proof.Machine.execSourceLost s
  | .srcChange fn value => Sys2Proof.Machine.execSrcChange fn value s
  | .timEpochReset fn value => Sys2Proof.Machine.execTimEpochReset fn value s
  | .step fn value => Sys2Proof.Machine.execStep fn value s
  | .timStepForce fn value => Sys2Proof.Machine.execTimStepForce fn value s
  | .ppsOut => Sys2Proof.Machine.execPpsOut s
  | .todTx => Sys2Proof.Machine.execTodTx s
  | .islandSample tap nW => Sys2Proof.Machine.execIslandSample tap nW s
  | .snapshotLinkDelta strobe esn tb0 release ents => Sys2Proof.Machine.execSnapshotLinkDelta strobe esn tb0 release ents s
  | .fullMap ents => Sys2Proof.Machine.execFullMap ents s
  | .linkSilence => Sys2Proof.Machine.execLinkSilence s
  | .split => Sys2Proof.Machine.execSplit s
  | .unclaimedOpen out => Sys2Proof.Machine.execUnclaimedOpen out s
  | .blockSigning => Sys2Proof.Machine.execBlockSigning s
  | .checkpoint => Sys2Proof.Machine.execCheckpoint s
  | .islandStart => Sys2Proof.Machine.execIslandStart s
  | .clockCheck => Sys2Proof.Machine.execClockCheck s
  | .islandHeartbeat => Sys2Proof.Machine.execIslandHeartbeat s
  | .heartbeatLoss => Sys2Proof.Machine.execHeartbeatLoss s
  | .islandReply => Sys2Proof.Machine.execIslandReply s
  | .identify => Sys2Proof.Machine.execIdentify s
  | .lastResult => Sys2Proof.Machine.execLastResult s
  | .seek obj index => Sys2Proof.Machine.execSeek obj index s
  | .read len => Sys2Proof.Machine.execRead len s
  | .ack index => Sys2Proof.Machine.execAck index s
  | .timeSet ns => Sys2Proof.Machine.execTimeSet ns s
  | .challenge => Sys2Proof.Machine.execChallenge s
  | .token chunk bytes => Sys2Proof.Machine.execToken chunk bytes s
  | .sealOp op => Sys2Proof.Machine.execSealOp op s
  | .configWrite bytes => Sys2Proof.Machine.execConfigWrite bytes s
  | .getVersion doe m => Sys2Proof.Machine.execGetVersion doe m s
  | .getCapabilities doe m => Sys2Proof.Machine.execGetCapabilities doe m s
  | .negotiateAlgorithms doe m => Sys2Proof.Machine.execNegotiateAlgorithms doe m s
  | .getDigests doe m => Sys2Proof.Machine.execGetDigests doe m s
  | .getCertificate doe m => Sys2Proof.Machine.execGetCertificate doe m s
  | .spdmChallenge doe m => Sys2Proof.Machine.execSpdmChallenge doe m s
  | .getMeasurements doe m => Sys2Proof.Machine.execGetMeasurements doe m s
  | .keyExchange doe m => Sys2Proof.Machine.execKeyExchange doe m s
  | .finish doe m => Sys2Proof.Machine.execFinish doe m s
  | .heartbeat doe m => Sys2Proof.Machine.execHeartbeat doe m s
  | .endSession doe m => Sys2Proof.Machine.execEndSession doe m s
  | .heartbeatTimeout doe => Sys2Proof.Machine.execHeartbeatTimeout doe s
  | .chalReq fn value => Sys2Proof.Machine.execChalReq fn value s
  | .submit fn value token how => Sys2Proof.Machine.execSubmit fn value token how s
  | .relock fn value => Sys2Proof.Machine.execRelock fn value s
  | .dbgChal => Sys2Proof.Machine.execDbgChal s
  | .dbgToken token => Sys2Proof.Machine.execDbgToken token s
  | .jtagInstructionLoad code => Sys2Proof.Machine.execJtagInstructionLoad code s
  | .vin48Good refsel strapId => Sys2Proof.Machine.execVin48Good refsel strapId s
  | .dawnReq fn value => Sys2Proof.Machine.execDawnReq fn value s
  | .dawnStepEnd byLimit => Sys2Proof.Machine.execDawnStepEnd byLimit s
  | .duskReq fn value => Sys2Proof.Machine.execDuskReq fn value s
  | .duskStepEnd => Sys2Proof.Machine.execDuskStepEnd s
  | .vinWarn mv10 => Sys2Proof.Machine.execVinWarn mv10 s
  | .vin48Low mv10 => Sys2Proof.Machine.execVin48Low mv10 s
  | .uvlo mv10 => Sys2Proof.Machine.execUvlo mv10 s
  | .vin48High mv10 => Sys2Proof.Machine.execVin48High mv10 s
  | .railOutOfWindow rail mv => Sys2Proof.Machine.execRailOutOfWindow rail mv s
  | .pllLockLoss => Sys2Proof.Machine.execPllLockLoss s
  | .refinLoss => Sys2Proof.Machine.execRefinLoss s
  | .sensorUpdate sensor temp convErr => Sys2Proof.Machine.execSensorUpdate sensor temp convErr s
  | .powerMean vin10 pin => Sys2Proof.Machine.execPowerMean vin10 pin s
  | .permitSense => Sys2Proof.Machine.execPermitSense s
  | .masterStall m fn => Sys2Proof.Machine.execMasterStall m fn s
  | .snap fn value => Sys2Proof.Machine.execSnap fn value s
  | .clearAll fn value => Sys2Proof.Machine.execClearAll fn value s
  | .pmcLiveWrite fn hi value atOverflow => Sys2Proof.Machine.execPmcLiveWrite fn hi value atOverflow s
  | .pmcLiveRead fn => Sys2Proof.Machine.execPmcLiveRead fn s
  | .dumpComplete => Sys2Proof.Machine.execDumpComplete s
  | .glbCtlLock fn value => Sys2Proof.Machine.execGlbCtlLock fn value s
  | .captureRead fn bar off nbytes => Sys2Proof.Machine.execCaptureRead fn bar off nbytes s
  | .mrtValueRead fn mpa => Sys2Proof.Machine.execMrtValueRead fn mpa s
  | .rcRead fn off nbytes => Sys2Proof.Machine.execRcRead fn off nbytes s
  | .registerWrite fn bar off data => Sys2Proof.Machine.execRegisterWrite fn bar off data s
  | .pllLockRegained => Sys2Proof.Machine.execPllLockRegained s
  | .refinRestored => Sys2Proof.Machine.execRefinRestored s
  | .railInWindow rail mv => Sys2Proof.Machine.execRailInWindow rail mv s
  | .vin48Return mv10 => Sys2Proof.Machine.execVin48Return mv10 s
  | .iclkAgreement => Sys2Proof.Machine.execIclkAgreement s
  | .pcieCorrectableError err => Sys2Proof.Machine.execPcieCorrectableError err s

end Sys2Proof.Machine
end

