-- ==== Sys2Proof/Machine/Pins.lean ====
section
/-!
DEFINITION. What the module drives on its output lands (R452, R455): a view of the state, which no command reads. LIGHT_PERMIT is no such land: it is
a switch, which conducts while Flt.permit is set (R459).
-/
namespace Sys2Proof.Machine

/-- The output lands of R455. -/
inductive OutPin where
  | ppsOut | todTx | sync (x : Nat) | tdo | attnN | errN | clkreqN | miSeal
deriving DecidableEq, Repr

/-- What drives a land: nothing, or a level. A released open-drain land is driven by nothing. -/
inductive Drive where
  | none | low | high
deriving DecidableEq, Repr

/-- A push-pull output at a level. -/
def Drive.level (b : Bool) : Drive := if b then .high else .low
/-- An open-drain output that is asserted, or released. -/
def Drive.openDrain (b : Bool) : Drive := if b then .low else .none

/-- The drive of each output (R455). MI_SEAL is of the island's own rail, and its pull-down holds it low until the island has started (R374, R456).
Every other output is high-impedance until rail 2 is in its window. TOD_TX idles high between frames, which the rows TOD_TX send whole, and TDO drives
only while it shifts, of which no row of the table asks. CLKREQ_N asks for the reference that STRAP_REFSEL = 1 selects. -/
def State.drive (s : State) (p : OutPin) : Drive :=
  if p = .miSeal then .level s.isl.pinSeal
  else if !bitOf s.d.pwr.rails 2 then .none
  else match p with
    | .ppsOut => .level s.d.tim.ppsHigh
    | .todTx => .high
    | .sync x => .level (s.d.seq.sync.get {} x).level
    | .tdo => .none
    | .attnN => .openDrain s.d.io.attn
    | .errN => .openDrain s.d.flt.errN
    | .clkreqN => .openDrain s.d.pwr.refSel
    | .miSeal => .level s.isl.pinSeal

end Sys2Proof.Machine
end

