-- ==== Sys2Proof/Safety.lean ====
section
/-!
DEFINITION. What counts as a safe state: the invariants that every step keeps, a run of steps, and what a command leaves unchanged.
-/
namespace Sys2Proof.Machine

/-- The addressed buffers are in canonical form. -/
def State.memOk (s : State) : Prop := Memory.wf s.mem.pattern = true ∧ Memory.wf s.mem.fcb = true

/-- The states that a run of steps reaches. -/
inductive Reaches (s : State) : State → Prop where
  | refl : Reaches s s
  | next (t u : State) (h : Reaches s t) (hs : step t = .next u) : Reaches s u

/-- The tables of the control side are in canonical form. -/
def Dev.canonical (d : Dev) : Prop :=
  Tab.wf {} d.io.queues = true ∧ Tab.wf {} d.io.fns = true ∧ Tab.wf {} d.io.views = true ∧ Tab.wf {} d.flt.src = true ∧
  Tab.wf {} d.fab.cells = true ∧ Tab.wf {} d.fab.loops = true ∧ Tab.wf {} d.fab.les = true ∧ Tab.wf {} d.fab.tiles = true ∧
  Tab.wf .free d.fab.cons = true ∧ Tab.wf 0 d.fab.tgt = true ∧ Tab.wf {} d.cmt.slots = true ∧ Tab.wf {} d.mon.mrt = true ∧
  Tab.wf {} d.mon.met = true ∧ Tab.wf {} d.mon.inj = true ∧ Tab.wf {} d.mon.fl = true ∧ Tab.wf {} d.pmc.ctr = true ∧
  Tab.wf {} d.thm.sensors = true

/-- The island's tables are in canonical form, its checkpoint's too. -/
def Isl.canonical (i : Isl) : Prop :=
  Tab.wf none i.map = true ∧ Tab.wf none i.ivs = true ∧ Tab.wf {} i.uncl = true ∧ Tab.wf none i.ckptIvs = true ∧ Tab.wf {} i.ckptUncl = true

/-- Equal contents are equal data: the buffers and tables are in canonical form, keys rising and no default listed. -/
def State.canonical (s : State) : Prop :=
  s.memOk ∧ s.d.canonical ∧ s.isl.canonical ∧ Tab.wf .bar s.net.sw = true ∧ Tab.wf 0 s.net.esnCell = true ∧ Tab.wf 0 s.net.esnOut = true

/-- The three pins show what drives them: ATTN_N the enabled causes of PF0's view, ERR_N a pulse or SW, LIGHT_PERMIT its conditions (R334 to
R336). -/
def State.pinsFollow (s : State) : Prop :=
  s.d.io.attn = decide (s.d.atnSum 0 &&& (s.d.view 0).pinEn ≠ 0) ∧ s.d.flt.errN = s.d.errLow ∧ s.d.flt.permit = s.d.permitOk

/-! ## Frames -/

/-- The parts of the control side. Outside them lie only what follows from them at once or counts what happens: the pins, messages and
writes sent out, the MSI-X pending bits (R275, R334 to R336), the performance counters' values (R431, R432), and the bursts in the bus matrix with
its round-robins (R418, R258). -/
inductive Part where
  | queues | fns | views | tel | link | owner | cap | src | flt | tim | fab | cmt | jobs | mon | drv | seq | cal | mi | sec | pwr | thm | pmc | bmx
  | glb | fresh
deriving DecidableEq, Repr

/-- The link, the VFs and PERST_N are as they were. -/
def Io.sameLink (x y : Io) : Prop :=
  y.telRo = x.telRo ∧ y.linkUp = x.linkUp ∧ y.linkGen = x.linkGen ∧ y.linkWidth = x.linkWidth ∧ y.linkFlit = x.linkFlit ∧
  y.numVfs = x.numVfs ∧ y.vfHeld = x.vfHeld ∧ y.teardown = x.teardown ∧ y.perst = x.perst

/-- One part of the control side is the same before and after. -/
def Part.same (d e : Dev) : Part → Prop
  | .queues => e.io.queues = d.io.queues
  | .fns => ∀ f, { e.fn f with msixPend := (d.fn f).msixPend } = d.fn f
  | .views => e.io.views = d.io.views
  | .tel => e.io.tel = d.io.tel
  | .link => Io.sameLink d.io e.io
  | .owner => e.io.owner = d.io.owner ∧ e.io.disturb = d.io.disturb
  | .cap => e.io.cap = d.io.cap
  | .src => e.flt.src = d.flt.src
  | .flt => { e.flt with src := d.flt.src, errN := d.flt.errN, permit := d.flt.permit } = d.flt
  | .tim => e.tim = d.tim
  | .fab => e.fab = d.fab
  | .cmt => e.cmt = d.cmt
  | .jobs => e.jobs = d.jobs
  | .mon => e.mon = d.mon
  | .drv => e.drv = d.drv
  | .seq => e.seq = d.seq
  | .cal => e.cal = d.cal
  | .mi => e.mi = d.mi
  | .sec => e.sec = d.sec
  | .pwr => e.pwr = d.pwr
  | .thm => e.thm = d.thm
  | .pmc => { e.pmc with ctr := d.pmc.ctr } = d.pmc
  | .bmx => e.bmx = d.bmx
  | .glb => e.glb = d.glb
  | .fresh => e.fresh = d.fresh

/-- Every part of the control side but some is unchanged. -/
def Dev.sameBut (ps : List Part) (d e : Dev) : Prop := ∀ p, p ∉ ps → Part.same d e p

/-- Some parts of the control side may change, and nothing else: not the map, the addressed buffers, the island or the queue of commands. -/
def State.sameBut (ps : List Part) (s t : State) : Prop :=
  t.net = s.net ∧ t.mem = s.mem ∧ t.isl = s.isl ∧ t.pending = s.pending ∧ Dev.sameBut ps s.d t.d

/-- The completion c of queue q is written: 32 bytes at the CQ's tail, after what `sent` lists, and the tail moves on; the queue has no other
command in flight (R255, R263, R267). -/
def State.answers (s t : State) (q : Nat) (sent : List Out) (c : Comp) : Prop :=
  (∃ later, t.d.io.out = later ++ Out.hostWrite ((s.d.queue q).cq.base + 32 * (s.d.queue q).cq.tail)
    (c.dws (s.d.queue q).head q false (s.d.queue q).cq.phase) :: (sent ++ s.d.io.out)) ∧
  (t.d.queue q).cmds = [] ∧
  (t.d.queue q).cq.tail = (if (s.d.queue q).cq.tail + 1 = (s.d.queue q).cq.size then 0 else (s.d.queue q).cq.tail + 1)

/-- The same of function f's admin queue. -/
def State.adminAnswers (s t : State) (f : Nat) (c : Comp) : Prop :=
  (∃ later, t.d.io.out = later ++ Out.hostWrite ((s.d.fn f).acq.base + 32 * (s.d.fn f).acq.tail)
    (c.dws (s.d.fn f).aqHead 0 true (s.d.fn f).acq.phase) :: s.d.io.out) ∧
  (t.d.fn f).cmds = [] ∧
  (t.d.fn f).acq.tail = (if (s.d.fn f).acq.tail + 1 = (s.d.fn f).acq.size then 0 else (s.d.fn f).acq.tail + 1)

end Sys2Proof.Machine
end

