-- ==== Sys2Proof/Certificates/Slice0/Obligations.lean ====
section
/-!
DEFINITION. The statements for the provers. Each says what commands do, as its JSON entry cites the spec; a clause names the conditions on the
state and the operands under which a command completes, and the state it then answers. `State.sameBut ps s t` says that t is s in everything but
the parts ps: the map, the addressed buffers, the island and the queue of commands are the same too.
-/
open Sys2Proof Sys2Proof.Machine

/-! ## Steps -/

/-- A step runs the command at the front of the queue, with the queue's rest; with none waiting, one CCLK edge passes, on which the bus matrix
moves. Choices of the model: log entries 2, 78. -/
def Obligations.StepRunsFrontCommand : Prop :=
  (∀ (c : Instr) (s : State) (rest : List Instr), s.pending = c :: rest →
    Machine.step s = Machine.exec c { s with pending := rest }) ∧
  (∀ s : State, s.pending = [] → Machine.step s = .next (idleEdge s))

/-- Every command is answered by a next state, and none touches the queue of commands. Choices of the model: log entry 11. -/
def Obligations.EveryCommandIsAnswered : Prop :=
  ∀ (c : Instr) (s : State), ∃ t, Machine.exec c s = .next t ∧ t.pending = s.pending

/-- The state after reset (R408, R443): Dawn stands at D0 with the map empty, every queue in NONE and of domain 0, every port of domain 0, the
time bases at 0, no light permitted, and every output but MI_SEAL high-impedance (R455); its tables are in canonical form and its pins show what drives
them. Choices of the model: log entry 125. -/
def Obligations.ResetLeavesAnEmptyMap : Prop :=
  State.reset.pending = [] ∧ State.reset.canonical ∧ State.reset.pinsFollow ∧ State.reset.net = {} ∧
  State.reset.d.pwr.phase = .dawn ∧ State.reset.d.pwr.step = 0 ∧ State.reset.d.flt.permit = false ∧ State.reset.d.drv.armed = false ∧
  State.reset.d.tb0 = 0 ∧ State.reset.d.tb2 = 0 ∧ State.reset.d.tim.src = 0 ∧ State.reset.d.cmt.esn = 0 ∧
  (∀ q, (State.reset.d.queue q).state = .none ∧ (State.reset.d.queue q).domain = 0) ∧
  (∀ side port, State.reset.d.owner side port = 0) ∧ (∀ ca, State.reset.net.swOf ca = .bar) ∧
  (∀ n, (State.reset.d.src n).latched = false ∧ (State.reset.d.src n).count = 0) ∧
  State.reset.drive .miSeal = .low ∧ (∀ p, p ≠ .miSeal → State.reset.drive p = .none)

/-- Every step keeps the addressed buffers and the tables in canonical form, so that equal contents are equal data. -/
def Obligations.EveryStepKeepsCanonicalForms : Prop :=
  ∀ s t : State, s.canonical → Machine.step s = .next t → t.canonical

/-- Every step keeps the pins in step with what drives them (R334 to R336). -/
def Obligations.PinsFollowTheirSources : Prop :=
  ∀ s t : State, s.pinsFollow → Machine.step s = .next t → t.pinsFollow

/-- Commands that may make a commit. -/
def Obl.mayCommit : Instr → Prop
  | .midnight | .rollbackCommit _ | .devicePlaneCommit _ | .planeRestoreCommit _ | .releaseCommit _ => True
  | _ => False
/-- Commands that may start a Dawn. -/
def Obl.mayDawn : Instr → Prop
  | .vin48Good _ _ | .dawnReq _ _ | .registerWrite _ _ _ _ => True
  | _ => False
/-- Commands that may step TB0: a measurement's step, and a software step (R345, R348). -/
def Obl.maySetTime : Instr → Prop
  | .todFrame _ _ | .ptmResponse _ _ | .step _ _ | .timStepForce _ _ => True
  | _ => False

/-- The map and the recorded switch states change only at commits, each of which takes a new ESN, or are emptied by a Dawn (R24, R75, R81, R82,
R408, OP8). -/
def Obligations.MapChangesOnlyAtCommits : Prop :=
  ∀ s t : State, Machine.step s = .next t → t.net ≠ s.net →
    ∃ c rest, s.pending = c :: rest ∧ (Obl.mayCommit c ∧ s.d.cmt.esn < t.d.cmt.esn ∨ Obl.mayDawn c ∧ t.net = {})

/-- The time bases keep apart (R341, R345, R348, R361): nothing but its clock moves TB2, until a Dawn starts it again; TB0 is set by a step
alone, once an epoch; nothing of the control side sets TB1. Choices of the model: log entries 2, 3. -/
def Obligations.TimeBasesKeepApart : Prop :=
  ∀ (s t : State) (c : Instr) (rest : List Instr), s.pending = c :: rest → Machine.step s = .next t →
    (t.d.tb2 ≠ s.d.tb2 → Obl.mayDawn c ∧ t.d.tb2 = 0) ∧
    (t.d.tb0 ≠ s.d.tb0 → Obl.mayDawn c ∨ Obl.maySetTime c ∧ t.d.tim.stepUsed = true ∧ t.d.tb2 = s.d.tb2) ∧
    (t.isl.tb1 ≠ s.isl.tb1 → c = .islandStart ∨ ∃ ns, c = .timeSet ns)

/-- What fuses and counters that only count hold never goes back (R356, R366, R374, R384, R387): the security counter, the revoked keys, the
island's fuses, its record numbers and its acknowledged records. Choices of the model: log entry 20. -/
def Obligations.FusesAndNumbersNeverGoBack : Prop :=
  ∀ s t : State, Machine.step s = .next t →
    s.d.sec.counter ≤ t.d.sec.counter ∧ s.d.sec.revoked &&& t.d.sec.revoked = s.d.sec.revoked ∧
    s.isl.sealF ≤ t.isl.sealF ∧ s.isl.unsealF ≤ t.isl.unsealF ∧ s.isl.next ≤ t.isl.next ∧ s.isl.ackNext ≤ t.isl.ackNext

/-! ## Doorbells and queues (09, 10) -/

/-- Ring doorbells (R256 to R258, R274, R276): tails record new work, heads consume entries. States that these complete: sqTail, cqHead, aqSqTail,
aqCqHead, evtHead, telHead. Choices of the model: log entry 99. -/
def Obligations.RingDoorbellsAreTaken : Prop :=
  -- Tails (R256 to R258): an I/O queue of the writing function's domain, not in NONE, and an enabled admin queue take a tail below their size.
  (∀ (s : State) (f q : Nat) (v : Word), s.d.reach f = true → q < 64 → (s.d.queue q).domain = f → (s.d.queue q).state ≠ .none →
    v.toNat < 65536 → v.toNat < (s.d.queue q).sqSize →
    ∃ t, Machine.exec (.sqTail f q 4 v) s = .next t ∧ t.d.queue q = { s.d.queue q with tail := v.toNat } ∧
      (∀ r, r ≠ q → t.d.queue r = s.d.queue r) ∧ State.sameBut [.queues] s t) ∧
  (∀ (s : State) (f : Nat) (v : Word), s.d.reach f = true → (s.d.fn f).aqEn = true → v.toNat < 65536 →
    v.toNat < 2 ^ ((s.d.fn f).aqSqs + 4) →
    ∃ t, Machine.exec (.aqSqTail f 4 v) s = .next t ∧ (t.d.fn f).aqTail = v.toNat ∧ (t.d.fn f).aqHead = (s.d.fn f).aqHead ∧
      (∀ g, g ≠ f → (t.d.fn g).aqTail = (s.d.fn g).aqTail) ∧ State.sameBut [.fns] s t) ∧
  -- Heads (R256, R257, R274, R276): a head moves forward, up to the tail; the entries it passes are consumed, and a ring made empty clears its
  -- cause. The telemetry head frees the bulk space of the headers it passes.
  (∀ (s : State) (f q : Nat) (v : Word), s.d.reach f = true → q < 64 → (s.d.queue q).domain = f → (s.d.queue q).state ≠ .none →
    v.toNat < 65536 → v.toNat < (s.d.queue q).cq.size →
    (v.toNat + (s.d.queue q).cq.size - (s.d.queue q).cq.head) % (s.d.queue q).cq.size ≤
      ((s.d.queue q).cq.tail + (s.d.queue q).cq.size - (s.d.queue q).cq.head) % (s.d.queue q).cq.size →
    ∃ t, Machine.exec (.cqHead f q 4 v) s = .next t ∧ (t.d.queue q).cq.head = v.toNat ∧ (t.d.queue q).cq.tail = (s.d.queue q).cq.tail ∧
      (t.d.queue q).cq.cause = (if v.toNat = (s.d.queue q).cq.tail then false else (s.d.queue q).cq.cause) ∧
      (∀ r, r ≠ q → t.d.queue r = s.d.queue r) ∧ State.sameBut [.queues] s t) ∧
  (∀ (s : State) (f : Nat) (v : Word), s.d.reach f = true → (s.d.fn f).aqEn = true → v.toNat < 65536 → v.toNat < (s.d.fn f).acq.size →
    (v.toNat + (s.d.fn f).acq.size - (s.d.fn f).acq.head) % (s.d.fn f).acq.size ≤
      ((s.d.fn f).acq.tail + (s.d.fn f).acq.size - (s.d.fn f).acq.head) % (s.d.fn f).acq.size →
    ∃ t, Machine.exec (.aqCqHead f 4 v) s = .next t ∧ (t.d.fn f).acq.head = v.toNat ∧ (t.d.fn f).acq.tail = (s.d.fn f).acq.tail ∧
      (t.d.fn f).acq.cause = (if v.toNat = (s.d.fn f).acq.tail then false else (s.d.fn f).acq.cause) ∧ State.sameBut [.fns] s t) ∧
  (∀ (s : State) (f : Nat) (v : Word), s.d.reach f = true → (s.d.fn f).evtEn = true → v.toNat < 65536 → v.toNat < (s.d.fn f).evt.size →
    (v.toNat + (s.d.fn f).evt.size - (s.d.fn f).evt.head) % (s.d.fn f).evt.size ≤
      ((s.d.fn f).evt.tail + (s.d.fn f).evt.size - (s.d.fn f).evt.head) % (s.d.fn f).evt.size →
    ∃ t, Machine.exec (.evtHead f 4 v) s = .next t ∧ (t.d.fn f).evt.head = v.toNat ∧ (t.d.fn f).evt.tail = (s.d.fn f).evt.tail ∧
      (t.d.fn f).evt.cause = (if v.toNat = (s.d.fn f).evt.tail then false else (s.d.fn f).evt.cause) ∧ State.sameBut [.fns] s t) ∧
  (∀ (s : State) (v : Word), s.d.reach 0 = true → v.toNat < 65536 → v.toNat < s.d.io.tel.ring.size →
    (v.toNat + s.d.io.tel.ring.size - s.d.io.tel.ring.head) % s.d.io.tel.ring.size ≤
      (s.d.io.tel.ring.tail + s.d.io.tel.ring.size - s.d.io.tel.ring.head) % s.d.io.tel.ring.size →
    ∃ t, Machine.exec (.telHead 0 4 v) s = .next t ∧ t.d.io.tel.ring.head = v.toNat ∧
      t.d.io.tel.bulk = s.d.io.tel.bulk.drop ((v.toNat + s.d.io.tel.ring.size - s.d.io.tel.ring.head) % s.d.io.tel.ring.size) ∧
      State.sameBut [.tel] s t)

/-- QCTL writes (R299): as they are decoded, in every state of the queue; an enable of an enabled queue and a disable of a disabled one change
nothing. States that these complete: qctlEnable, qctlDisable, resume, flush. -/
def Obligations.QctlWritesAreDecoded : Prop :=
  -- QCTL (R299): RESUME = 1 is a resume, with FLUSH as its option and ENABLE ignored; RESUME = 0 with FLUSH = 0 sets the enable state to ENABLE;
  -- RESUME = 0 with FLUSH = 1, and RESUME while the queue is not STALLED, are ignored and write a DOORBELL_ERROR event with the word written.
  (∀ (s : State) (f q : Nat) (en : Bool), s.d.reach f = true → q < 64 → (s.d.queue q).domain = f → (s.d.queue q).state = .stalled →
    (∃ t, Machine.exec (.resume f q 4 0 en) s = .next t ∧ t.d.queue q = { s.d.queue q with state := .enabled, flushTo := none } ∧
      (∀ r, r ≠ q → t.d.queue r = s.d.queue r) ∧ State.sameBut [.queues] s t) ∧
    (∃ t, Machine.exec (.flush f q 4 0 en) s = .next t ∧
      t.d.queue q = (if (s.d.queue q).head = (s.d.queue q).tail then { s.d.queue q with state := .enabled, flushTo := none }
        else { s.d.queue q with flushTo := some (s.d.queue q).tail }) ∧
      (∀ r, r ≠ q → t.d.queue r = s.d.queue r) ∧ State.sameBut [.queues] s t)) ∧
  (∀ (s : State) (f q : Nat), s.d.reach f = true → q < 64 → (s.d.queue q).domain = f → (s.d.queue q).state = .disabled →
    ∃ t, Machine.exec (.qctlEnable f q 4 0 false) s = .next t ∧ t.d.queue q = { s.d.queue q with state := .enabled } ∧
      (∀ r, r ≠ q → t.d.queue r = s.d.queue r) ∧ State.sameBut [.queues] s t) ∧
  (∀ (s : State) (f q : Nat), s.d.reach f = true → q < 64 → (s.d.queue q).domain = f → (s.d.queue q).state = .enabled →
    ∃ t, Machine.exec (.qctlDisable f q 4 0 false) s = .next t ∧ t.d.queue q = { s.d.queue q with state := .disabled } ∧
      (∀ r, r ≠ q → t.d.queue r = s.d.queue r) ∧ State.sameBut [.queues] s t) ∧
  (∀ (s : State) (f q : Nat) (c : Instr) (w : Word), s.d.reach f = true → q < 64 → (s.d.queue q).domain = f →
    (s.d.queue q).state ≠ .none → (s.d.fn f).evtActive = true → (s.d.fn f).evt.hasRoom = true →
    (c, w) ∈ [(Instr.qctlEnable f q 4 0 true, 5), (Instr.qctlDisable f q 4 0 true, 4)] ++
      (if (s.d.queue q).state = .stalled then []
       else [(Instr.resume f q 4 0 false, 2), (Instr.resume f q 4 0 true, 3), (Instr.flush f q 4 0 false, 6), (Instr.flush f q 4 0 true, 7)]) →
    ∃ t later, Machine.exec c s = .next t ∧ t.d.io.queues = s.d.io.queues ∧
      t.d.io.out = later ++ Out.hostWrite ((s.d.fn f).evt.base + 32 * (s.d.fn f).evt.tail)
        (eventDws s.d.tb0 (0x400 + 4 * q) w.toNat 0 0 6 (s.d.fn f).evt.phase (s.d.fn f).lostFlag (((s.d.fn f).evtSeq + 1) % 65536)) :: s.d.io.out ∧
      State.sameBut [.fns, .views, .src, .flt] s t) ∧
  -- QCTL in the other states (R300, R312): a stalled queue that is disabled keeps its stall point; an enable during an ABORT command is held, and
  -- a disable withdraws it; during QUEUE_DELETE or a reset an enable is ignored.
  (∀ (s : State) (f q : Nat), s.d.reach f = true → q < 64 → (s.d.queue q).domain = f → (s.d.queue q).state = .stalled →
    ∃ t, Machine.exec (.qctlDisable f q 4 0 false) s = .next t ∧
      t.d.queue q = { s.d.queue q with state := .disabled, flushTo := none } ∧ State.sameBut [.queues] s t) ∧
  (∀ (s : State) (f q : Nat) (a : Abort) (g : Nat), s.d.reach f = true → q < 64 → (s.d.queue q).domain = f →
    (s.d.queue q).state = .aborting → (s.d.queue q).abort = some a → a.kind = .abort g →
    ∃ t, Machine.exec (.qctlEnable f q 4 0 false) s = .next t ∧ t.d.queue q = { s.d.queue q with state := .enablePending } ∧
      State.sameBut [.queues] s t) ∧
  (∀ (s : State) (f q : Nat), s.d.reach f = true → q < 64 → (s.d.queue q).domain = f → (s.d.queue q).state = .enablePending →
    ∃ t, Machine.exec (.qctlDisable f q 4 0 false) s = .next t ∧ t.d.queue q = { s.d.queue q with state := .aborting } ∧
      State.sameBut [.queues] s t) ∧
  (∀ (s : State) (f q : Nat) (a : Abort), s.d.reach f = true → q < 64 → (s.d.queue q).domain = f →
    (s.d.queue q).state = .aborting → (s.d.queue q).abort = some a → (a.kind = .reset ∨ ∃ g, a.kind = .delete g) →
    ∃ t, Machine.exec (.qctlEnable f q 4 0 false) s = .next t ∧ State.sameBut [] s t) ∧
  -- Enabled already, or disabled already.
  (∀ (s : State) (f q : Nat), s.d.reach f = true → q < 64 → (s.d.queue q).domain = f →
    ((s.d.queue q).state = .enabled → ∃ t, Machine.exec (.qctlEnable f q 4 0 false) s = .next t ∧ State.sameBut [] s t) ∧
    ((s.d.queue q).state = .disabled → ∃ t, Machine.exec (.qctlDisable f q 4 0 false) s = .next t ∧ State.sameBut [] s t))

/-- A head that a doorbell may not set (R257): not 32 bits, a reserved bit, at or past the ring's size, or past what the device has written. -/
def Obl.badHead (r : Ring) (n : Nat) (v : Word) : Prop :=
  n ≠ 4 ∨ 65536 ≤ v.toNat ∨ r.size ≤ v.toNat ∨ r.used < (v.toNat + r.size - r.head) % r.size

/-- The doorbell c of offset off, written by function f, is one that the device ignores (R257). -/
def Obl.badDoorbell (s : State) (f q n : Nat) (v : Word) (c : Instr) (off : Nat) : Prop :=
  c = .sqTail f q n v ∧ off = 0x100 + 8 * q ∧ (n ≠ 4 ∨ 65536 ≤ v.toNat ∨ (s.d.queue q).sqSize ≤ v.toNat ∨ (s.d.queue q).domain ≠ f ∨
    (s.d.queue q).state = .none) ∨
  c = .cqHead f q n v ∧ off = 0x104 + 8 * q ∧ (Obl.badHead (s.d.queue q).cq n v ∨ (s.d.queue q).domain ≠ f ∨ (s.d.queue q).state = .none) ∨
  c = .aqSqTail f n v ∧ off = 0x000 ∧ (n ≠ 4 ∨ 65536 ≤ v.toNat ∨ 2 ^ ((s.d.fn f).aqSqs + 4) ≤ v.toNat ∨ (s.d.fn f).aqEn = false) ∨
  c = .aqCqHead f n v ∧ off = 0x004 ∧ (Obl.badHead (s.d.fn f).acq n v ∨ (s.d.fn f).aqEn = false) ∨
  c = .evtHead f n v ∧ off = 0x008 ∧ (Obl.badHead (s.d.fn f).evt n v ∨ (s.d.fn f).evtEn = false) ∨
  c = .telHead f n v ∧ off = 0x00C ∧ f = 0 ∧ Obl.badHead s.d.io.tel.ring n v ∨
  c = .irqRearm f n v ∧ off = 0x010 ∧ (n ≠ 4 ∨ v ≠ 0)

/-- Doorbell errors (R257): a write that is not 32 bits, with a reserved bit, past the ring's size or past what the device has written, or for a
ring that the function does not have in use, changes no ring and writes a DOORBELL_ERROR event with the offset and the value.
Choices of the model: log entries 35, 78. -/
def Obligations.BadDoorbellsAreReported : Prop :=
  ∀ (s : State) (f q n : Nat) (v : Word) (c : Instr) (off : Nat), s.d.reach f = true → q < 64 →
    (s.d.fn f).evtActive = true → (s.d.fn f).evt.hasRoom = true → Obl.badDoorbell s f q n v c off →
    ∃ t later, Machine.exec c s = .next t ∧ t.d.io.queues = s.d.io.queues ∧ (t.d.fn f).aqTail = (s.d.fn f).aqTail ∧
      (t.d.fn f).acq = (s.d.fn f).acq ∧ (t.d.fn f).evt.head = (s.d.fn f).evt.head ∧
      t.d.io.out = later ++ Out.hostWrite ((s.d.fn f).evt.base + 32 * (s.d.fn f).evt.tail)
        (eventDws s.d.tb0 off v.toNat 0 0 6 (s.d.fn f).evt.phase (s.d.fn f).lostFlag (((s.d.fn f).evtSeq + 1) % 65536)) :: s.d.io.out ∧
      State.sameBut [.fns, .views, .src, .flt] s t

/-! ## Commands of I/O queues -/

/-- The queue's only command in flight is c, of this opcode, and it may execute; nothing aborts the queue. -/
def Obl.front (s : State) (q op : Nat) (c : Cmd) : Prop := s.d.ready q op = some c ∧ (s.d.queue q).cmds = [c] ∧ (s.d.queue q).abort = none

/-- NOP (R279): the only command of its queue completes OK, or MALFORMED when a reserved byte is non-zero; behind a command that has not completed
it is done, and its completion waits for its place in the ring's order. States that these complete: nop. -/
def Obligations.NopsCompleteInOrder : Prop :=
  (∀ (s : State) (q : Nat) (c : Cmd), Obl.front s q 0x0A c →
    ∃ t, Machine.exec (.nop q) s = .next t ∧
      State.answers s t q [] { status := if sqeClean c.sqe then stOk else stMalformed, cid := sqeCid c.sqe } ∧
        State.sameBut [.queues, .cmt, .mon] s t) ∧
  (∀ (s : State) (q : Nat) (c d0 : Cmd) (rest : List Cmd), s.d.ready q 0x0A = some c → (s.d.queue q).cmds = d0 :: rest → d0.done = none →
    d0.idx ≠ c.idx →
    ∃ t, Machine.exec (.nop q) s = .next t ∧ (t.d.queue q).cq = (s.d.queue q).cq ∧ (t.d.queue q).cmds.head? = some d0 ∧
      (t.d.queue q).cmds.map (·.idx) = (s.d.queue q).cmds.map (·.idx) ∧
      (∃ y ∈ (t.d.queue q).cmds, y.idx = c.idx ∧
        y.done = some { status := if sqeClean c.sqe then stOk else stMalformed, cid := sqeCid c.sqe }) ∧ State.sameBut [.queues] s t)

/-- Commands that complete where they execute (R70, R261, R277, R279). States that these complete: fence, queryConn, nop. -/
def Obligations.SimpleCommandsComplete : Prop :=
  -- Reserved bits (R261): a command of any opcode whose entry has a reserved byte or bit set completes MALFORMED with its own CID, and has no
  -- effect.
  (∀ (s : State) (q op n : Nat) (c : Cmd) (i : Instr),
    (op, i) ∈ [(1, Instr.connectBatch q), (2, .attenSet q), (3, .fence q), (4, .queryConn q), (5, .calRun q), (6, .snapshot q), (7, .cellDirect q),
      (8, .loopMode q), (9, .seqLoad ⟨q, n⟩), (10, .nop q)] →
    Obl.front s q op c → s.d.seq.loads = [] → sqeClean c.sqe = false → sqeStop c.sqe = false →
    ∃ t, Machine.exec i s = .next t ∧ State.answers s t q [] { baseComp op stMalformed with cid := sqeCid c.sqe } ∧
      State.sameBut [.queues, .cmt, .mon] s t) ∧
  -- NOP (R279) completes OK; FENCE (R277) with nothing else in flight in its scope completes with CMT_ESN; QUERY_CONN (R70) writes its records,
  -- 16 bytes a port, before its completion, with the ESN of the last commit.
  (∀ (s : State) (q : Nat) (c : Cmd), Obl.front s q 0x0A c → sqeClean c.sqe = true →
    ∃ t, Machine.exec (.nop q) s = .next t ∧ State.answers s t q [] { status := stOk, cid := sqeCid c.sqe } ∧
      State.sameBut [.queues, .cmt, .mon] s t) ∧
  (∀ (s : State) (q : Nat) (c : Cmd), Obl.front s q 3 c → sqeClean c.sqe = true → sqeField c.sqe 8 1 = 0 → c.executed = false →
    ∃ t, Machine.exec (.fence q) s = .next t ∧ State.answers s t q [] { status := stOk, esn := s.d.cmt.esn, cid := sqeCid c.sqe } ∧
      State.sameBut [.queues, .cmt, .mon] s t) ∧
  (∀ (s : State) (q : Nat) (c : Cmd), Obl.front s q 4 c → sqeClean c.sqe = true → sqeAddr c.sqe % 16 = 0 → 1 ≤ sqeField c.sqe 18 2 →
    sqeField c.sqe 16 2 + sqeField c.sqe 18 2 ≤ 512 →
    ∃ t data, Machine.exec (.queryConn q) s = .next t ∧
      State.answers s t q [Out.hostBulk (sqeAddr c.sqe) data] { esn := s.d.cmt.esn, dw2 := sqeField c.sqe 18 2, cid := sqeCid c.sqe } ∧
      data.length = 16 * sqeField c.sqe 18 2 ∧
      (∀ k w, k < sqeField c.sqe 18 2 → w < 4 →
        (data.drop (16 * k + 4 * w)).take 4 = bytesLE (s.d.queryWord s.net (s.d.queue q).domain (sqeField c.sqe 16 2 + k) w) 4) ∧
      State.sameBut [.queues, .cmt, .mon] s t)

/-- Commands that wait for an instant of their own (R38, R66, R164, R278), and SEQ_LOAD, which copies sample by sample (R220). States that these
complete: connectBatch, attenSet, calRun, snapshot, cellDirect, loopMode, seqLoad. Choices of the model: log entries 25, 32. -/
def Obligations.CommandsTakeEffectOrWait : Prop :=
  -- Commands that wait for an instant of their own (R66, R164, R278), and batches, which wait for the route engine (R38): once their fields pass
  -- the checks they are executed, and nothing else changes but the work that waits.
  (∀ (s : State) (q op : Nat) (c : Cmd) (i : Instr), Obl.front s q op c →
    (op = 1 ∧ i = .connectBatch q ∨ op = 7 ∧ i = .cellDirect q ∧ (s.d.queue q).domain = 0) → listFieldsOk c.sqe = true →
    ∃ t, Machine.exec i s = .next t ∧
      (t.d.queue q).cmds = [{ c with executed := true, effect := false }] ∧ State.sameBut [.queues] s t) ∧
  (∀ (s : State) (q : Nat) (c : Cmd), Obl.front s q 2 c → listFieldsOk c.sqe = true →
    (∀ w ∈ c.payload, (attEnt w).ok = true ∧ ((s.d.queue q).domain = 0 ∨ s.d.owner (attEnt w).side (attEnt w).port = (s.d.queue q).domain)) →
    ∃ t j, Machine.exec (.attenSet q) s = .next t ∧ t.d.jobs.att = s.d.jobs.att ++ [j] ∧ j.q = q ∧ j.idx = c.idx ∧
      j.ents = c.payload.map (fun w => ((attEnt w).side * 512 + (attEnt w).port, (attEnt w).att)) ∧
      j.wait = bitOf (sqeFlags c.sqe) 0 ∧ j.applied = false ∧ j.at2 = s.d.tb2 ∧ State.sameBut [.queues, .jobs] s t) ∧
  (∀ (s : State) (q : Nat) (c : Cmd), Obl.front s q 8 c → listFieldsOk c.sqe = true →
    loopCheck s.net s.d (s.d.queue q).domain 0 (c.payload.map loopEnt) = none →
    ∃ t, Machine.exec (.loopMode q) s = .next t ∧ t.d.jobs.lm = s.d.jobs.lm ++ [{ q := q, idx := c.idx, ents := c.payload, at2 := s.d.tb2 }] ∧
      State.sameBut [.queues, .jobs] s t) ∧
  (∀ (s : State) (q : Nat) (c : Cmd), Obl.front s q 6 c → snapFieldsOk c.sqe (s.d.queue q).domain = true →
    ∃ t j, Machine.exec (.snapshot q) s = .next t ∧ t.d.jobs.snap = s.d.jobs.snap ++ [j] ∧ j.q = q ∧ j.idx = c.idx ∧
      j.addr = sqeAddr c.sqe ∧ j.trig = sqeField c.sqe 20 1 ∧ j.time = sqeField c.sqe 24 8 ∧ j.dom = (s.d.queue q).domain ∧
      State.sameBut [.queues, .jobs] s t) ∧
  (∀ (s : State) (q : Nat) (c : Cmd), Obl.front s q 5 c → (s.d.queue q).domain = 0 → calFieldsOk c.sqe = true → s.d.cal.run.isSome = true →
    ∃ t r, Machine.exec (.calRun q) s = .next t ∧ t.d.cal.run = s.d.cal.run ∧ t.d.cal.waiting = s.d.cal.waiting ++ [r] ∧
      r.q = q ∧ r.idx = c.idx ∧ r.tiles = calTiles (calScope c.sqe) (calTarget c.sqe) ∧ r.kinds = calKinds c.sqe ∧
      State.sameBut [.queues, .cal] s t) ∧
  -- SEQ_LOAD (R213, R220, R297): its samples are written from OFFSET of the segment on, n of them as the copy goes on, and no other byte of pattern
  -- memory changes; with the last it completes OK, or FETCH_ERROR where the read failed behind them; until then the copy runs, and the command has
  -- taken effect with its first sample.
  (∀ (s : State) (q n first : Nat) (c : Cmd), Obl.front s q 9 c → loadFieldsOk s.d.seq c.sqe (s.d.queue q).domain = true →
    first = (s.d.seq.desc (sqeField c.sqe 16 1)).base + sqeField c.sqe 20 4 → first + c.payload.length ≤ 131072 →
    (∀ g, g < 64 → s.d.segActive g = false) → s.d.seq.rfEn = false → s.d.seq.loads = [] → 0 < n →
    ∃ t, Machine.exec (.seqLoad ⟨q, n⟩) s = .next t ∧
      (∀ a, a < 8 * first ∨ 8 * (first + min n c.payload.length) ≤ a → Memory.read t.mem.pattern a = Memory.read s.mem.pattern a) ∧
      (∀ k w, k < n → c.payload[k]? = some w → Memory.readNat t.mem.pattern (8 * (first + k)) 8 = w.toNat) ∧
      (c.payload.length ≤ n →
        t.d.seq.loads = [] ∧ State.answers s t q [] { status := if c.short then stFetch else stOk, cid := sqeCid c.sqe }) ∧
      (n < c.payload.length →
        t.d.seq.loads = [{ q := q, idx := c.idx, seg := sqeField c.sqe 16 1, first := first, pos := n }] ∧
        (t.d.queue q).cmds = [{ c with executed := true, effect := true }] ∧ (t.d.queue q).cq = (s.d.queue q).cq) ∧
      t.mem.fcb = s.mem.fcb ∧ t.net = s.net ∧ t.isl = s.isl ∧ t.pending = s.pending ∧
      Dev.sameBut [.queues, .cmt, .mon, .seq] s.d t.d)

/-- ATTEN_SET and LOOP_MODE at their instants (R46, R66, R67, R163, R164). States that these complete: attenTargetApply, loopModeApply. Choices of
the model: log entry 16. -/
def Obligations.WaitingCommandsAreApplied : Prop :=
  -- ATTEN_TARGET_APPLY (R46, R66, R67): at the first sampling tick after the command executed its target is stored; on a free port that is
  -- all: no VOA moves.
  (∀ (s : State) (j : AttJob) (port v : Nat), s.d.clocked = true → s.d.tb2 % 10000 = 0 → s.d.jobs.att = [j] → j.applied = false →
    j.at2 < s.d.tb2 → j.wait = false → port < 512 → j.ents = [(512 + port, v)] → s.net.ofOut port = none →
    ∃ t, Machine.exec .attenTargetApply s = .next t ∧ t.d.tgt 1 port = v ∧ t.d.jobs.att = [] ∧
      (∀ side p, side < 2 → p < 512 → (side, p) ≠ (1, port) → t.d.tgt side p = s.d.tgt side p) ∧ t.d.fab.cells = s.d.fab.cells ∧
        t.d.fab.loops = s.d.fab.loops ∧
      t.net = s.net ∧ t.mem = s.mem ∧ t.isl = s.isl ∧ t.pending = s.pending) ∧
  -- LOOP_MODE_APPLY (R163, R164): at the first tick boundary 1 µs after the command executed, a SET_MODE entry sets the modes of the loops it
  -- names, and BALANCE turns balancing of its output off or on; the loops that no entry names keep their state.
  (∀ (s : State) (j : LmJob) (w : DWord), s.d.clocked = true → s.d.tb2 % 10000 = 0 → s.d.jobs.lm = [j] → j.at2 + 1000 ≤ s.d.tb2 → j.ents = [w] →
    ∃ t, Machine.exec .loopModeApply s = .next t ∧ t.d.jobs.lm = [] ∧
      ((loopEnt w).op = 1 → (∀ aa ∈ (loopEnt w).aas, (s.d.loop aa).prevMode = none → (t.d.loop aa).mode = (loopEnt w).mode) ∧
        (∀ aa, aa ∉ (loopEnt w).aas → t.d.loop aa = s.d.loop aa) ∧ t.d.fab.balOff = s.d.fab.balOff) ∧
      ((loopEnt w).op = 3 → ((loopEnt w).out ∈ t.d.fab.balOff ↔ (loopEnt w).flag = false) ∧ t.d.fab.loops = s.d.fab.loops) ∧
      t.d.fab.cells = s.d.fab.cells ∧ t.net = s.net ∧ t.mem = s.mem ∧ t.isl = s.isl ∧ t.pending = s.pending)

/-! ## Fetch, stall, flush (09, 10) -/

/-- The fetch of queue q is in: its read has crossed the matrix, and the queue is still to be fetched (R258, R300, R428). -/
def Obl.fetchIn (s : State) (q : Nat) : Prop :=
  s.d.ioFetch q = true ∧ ∃ b, s.d.mtx.fetchOf q = some b ∧ b.out = true ∧ b.dead = false

/-- Fetch, stall and flush (R258 to R264, R297, R301, R303 to R305). States that these complete: commandFetch, completionTimeout, hostReadFailure.
Choices of the model: log entries 31, 32, 33. -/
def Obligations.FetchesEndAsTheyMust : Prop :=
  -- A fetch of an I/O queue (R258 to R263, R297): a NOP that is read into an idle queue executes and completes in one go, SQ_HEAD past it; an
  -- opcode of no I/O command completes MALFORMED (R262).
  (∀ (s : State) (q : Nat) (e : Sqe), Obl.fetchIn s q → (s.d.queue q).state = .enabled → (s.d.queue q).flushTo = none →
    (s.d.queue q).cmds = [] → (s.d.queue q).abort = none → (sqeOp e = 0x0A ∧ sqeClean e = true ∨ ioOpcode (sqeOp e) = false) →
    ∃ t later mid, Machine.exec (.commandFetch false q e [] .ok .ok) s = .next t ∧
      t.d.io.out = later ++ Out.hostWrite ((s.d.queue q).cq.base + 32 * (s.d.queue q).cq.tail)
        ({ status := if sqeOp e = 0x0A then stOk else stMalformed, cid := sqeCid e : Comp }.dws (((s.d.queue q).head + 1) % (s.d.queue q).sqSize) q false
          (s.d.queue q).cq.phase) :: (mid ++ s.d.io.out) ∧
      (t.d.queue q).head = ((s.d.queue q).head + 1) % (s.d.queue q).sqSize ∧ (t.d.queue q).cmds = [] ∧ (t.d.queue q).state = .enabled ∧
      State.sameBut [.queues, .cmt, .mon] s t) ∧
  -- An entry that cannot be read (R264, R301, R303, R305), whether its read ends unsupported, aborted, poisoned or in a completion timeout,
  -- completes FETCH_ERROR with CID 0xFFFF and its index, and the queue stalls with SQ_HEAD at the entry after it.
  (∀ (s : State) (q : Nat) (e : Sqe) (p : List DWord) (r : HostRead) (i : Instr), Obl.fetchIn s q → (s.d.queue q).state = .enabled →
    (s.d.queue q).cmds = [] → (s.d.queue q).abort = none → r ≠ .ok → bitOf (s.d.fn (s.d.queue q).domain).cfg.devCtl2 4 = false →
    i ∈ [Instr.commandFetch false q e p r .ok, .completionTimeout (.io q) none p, .hostReadFailure (.io q) none p r] →
    ∃ t later mid, Machine.exec i s = .next t ∧
      t.d.io.out = later ++ Out.hostWrite ((s.d.queue q).cq.base + 32 * (s.d.queue q).cq.tail)
        ({ status := stFetch, dw2 := (s.d.queue q).head, cid := 0xFFFF : Comp }.dws (((s.d.queue q).head + 1) % (s.d.queue q).sqSize) q false
          (s.d.queue q).cq.phase) :: (mid ++ s.d.io.out) ∧
      (t.d.queue q).head = ((s.d.queue q).head + 1) % (s.d.queue q).sqSize ∧ (t.d.queue q).cmds = [] ∧ (t.d.queue q).state = .stalled ∧
      State.sameBut [.queues, .fns, .views, .src, .flt, .cmt, .mon, .jobs] s t) ∧
  -- A flush (R304): an entry read before the flush tail completes QUEUE_STALLED with its own CID, whatever it holds, and nothing of it is
  -- executed; the last of them enables the queue with SQ_HEAD at the flush tail.
  (∀ (s : State) (q ft : Nat) (e : Sqe), Obl.fetchIn s q → (s.d.queue q).state = .stalled → (s.d.queue q).flushTo = some ft →
    (s.d.queue q).abort = none →
    ∃ t, Machine.exec (.commandFetch false q e [] .ok .ok) s = .next t ∧
      (∃ later, t.d.io.out = later ++ Out.hostWrite ((s.d.queue q).cq.base + 32 * (s.d.queue q).cq.tail)
        ({ baseComp (sqeOp e) stQStalled with cid := sqeCid e }.dws (((s.d.queue q).head + 1) % (s.d.queue q).sqSize) q false
          (s.d.queue q).cq.phase) :: s.d.io.out) ∧
      (t.d.queue q).head = ((s.d.queue q).head + 1) % (s.d.queue q).sqSize ∧ (t.d.queue q).cmds = [] ∧
      (t.d.queue q).state = (if (t.d.queue q).head = ft then .enabled else .stalled) ∧ State.sameBut [.queues, .cmt, .mon] s t) ∧
  -- A payload that cannot be read (R305): FS63 occurs, and the batch completes FETCH_ERROR with no effect; the queue stalls if STOP_ON_FAIL is
  -- set (R301).
  (∀ (s : State) (q : Nat) (e : Sqe) (p : List DWord) (r : HostRead) (i : Instr), Obl.fetchIn s q → (s.d.queue q).state = .enabled →
    (s.d.queue q).cmds = [] → (s.d.queue q).abort = none → r ≠ .ok → bitOf (s.d.fn (s.d.queue q).domain).cfg.devCtl2 4 = false → sqeOp e = 1 →
      listFieldsOk e = true → p.length < sqeCount e →
    i ∈ [Instr.commandFetch false q e p .ok r, .completionTimeout (.io q) (some e) p, .hostReadFailure (.io q) (some e) p r] →
    ∃ t later mid, Machine.exec i s = .next t ∧
      t.d.io.out = later ++ Out.hostWrite ((s.d.queue q).cq.base + 32 * (s.d.queue q).cq.tail)
        ({ baseComp 1 stFetch with cid := sqeCid e }.dws (((s.d.queue q).head + 1) % (s.d.queue q).sqSize) q false
          (s.d.queue q).cq.phase) :: (mid ++ s.d.io.out) ∧
      (t.d.queue q).cmds = [] ∧ (t.d.queue q).state = (if bitOf (sqeFlags e) 1 then .stalled else .enabled) ∧
      (t.d.src 63).latched = true ∧ (t.d.src 63).count = min ((s.d.src 63).count + 1) 65535 ∧
      State.sameBut [.queues, .fns, .views, .src, .flt, .cmt, .mon, .jobs] s t) ∧
  -- A fetch starts (R258, R417): while no command waits, the one queue that has entries to be fetched has its next entry asked for, a read burst of
  -- 64 bytes of M0 to host memory.
  (∀ (s : State) (q : Nat), s.pending = [] → s.d.clocked = true → s.d.mtx.bursts = [] → s.d.fetchable = [q] →
    ∃ t, Machine.step s = .next t ∧
      t.d.mtx.bursts = [
        { master := 0, write := false, target := 3, addr := (s.d.queue q).sqBase + 64 * (s.d.queue q).head, len := 64, fetch := some q }] ∧
      t.d.io = s.d.io ∧ t.net = s.net ∧ t.mem = s.mem ∧ t.pending = s.pending ∧ Dev.sameBut [.tim] s.d t.d)

/-! ## Admin commands (09) -/

/-- The function's only admin command is c, of this opcode, and it may execute; the device may write to the function's rings. -/
def Obl.adminFront (s : State) (f op : Nat) (c : Cmd) : Prop :=
  s.d.adminReady f op = some c ∧ (s.d.fn f).cmds = [c] ∧ s.d.inRecovery = false ∧ (s.d.fn f).flrAt = none

/-- Queues and ports are given to domains (R35, R280, R281, R284, R288). States that these complete: queueCreate, domainSet. Choices of the model:
log entry 36. -/
def Obligations.QueuesAndPortsAreGiven : Prop :=
  -- QUEUE_CREATE (R280, R281, R288): the field checks come first, then the state; a queue in NONE takes the entry's registers and is ENABLED or
  -- DISABLED as START says, its indices at 0. A failure sets CREATE_ERR and leaves the queue in its state.
  (∀ (s : State) (f : Nat) (c : Cmd), Obl.adminFront s f 0x40 c → sqeField c.sqe 24 1 < 64 → (s.d.queue (sqeField c.sqe 24 1)).domain = f →
    (sqeClean c.sqe = true ∧ sqeField c.sqe 8 8 % 4096 = 0 ∧ sqeField c.sqe 16 8 % 4096 = 0 ∧ sqeField c.sqe 25 1 ≤ 12 ∧ sqeField c.sqe 26 1 ≤ 12 ∧
        1 ≤ sqeField c.sqe 27 1 ∧ sqeField c.sqe 27 1 ≤ 15 ∧ (s.d.queue (sqeField c.sqe 24 1)).state = .none →
      ∃ t, Machine.exec (.queueCreate f) s = .next t ∧ State.adminAnswers s t f { status := stOk, cid := sqeCid c.sqe } ∧
        (t.d.queue (sqeField c.sqe 24 1)).state = (if sqeField c.sqe 31 1 = 1 then .enabled else .disabled) ∧
        (t.d.queue (sqeField c.sqe 24 1)).head = 0 ∧ (t.d.queue (sqeField c.sqe 24 1)).tail = 0 ∧
        (t.d.queue (sqeField c.sqe 24 1)).cq = { base := sqeField c.sqe 16 8, size := 2 ^ (sqeField c.sqe 26 1 + 4) } ∧
        (t.d.queue (sqeField c.sqe 24 1)).sqBase = sqeField c.sqe 8 8 ∧ (t.d.queue (sqeField c.sqe 24 1)).sqs = sqeField c.sqe 25 1 ∧
        (t.d.queue (sqeField c.sqe 24 1)).domain = f ∧ (∀ r, r ≠ sqeField c.sqe 24 1 → t.d.queue r = s.d.queue r) ∧
        State.sameBut [.queues, .fns] s t) ∧
    ((sqeField c.sqe 8 8 % 4096 ≠ 0 ∨ sqeField c.sqe 16 8 % 4096 ≠ 0 ∨ 12 < sqeField c.sqe 25 1 ∨ 12 < sqeField c.sqe 26 1 ∨
        sqeField c.sqe 27 1 = 0 ∨ sqeClean c.sqe = false) →
      ∃ t, Machine.exec (.queueCreate f) s = .next t ∧ State.adminAnswers s t f { status := stMalformed, cid := sqeCid c.sqe } ∧
        t.d.queue (sqeField c.sqe 24 1) = { s.d.queue (sqeField c.sqe 24 1) with createErr := true } ∧ State.sameBut [.queues, .fns] s t)) ∧
  -- DOMAIN_SET (R35, R284): from domain 0 it gives a range of ports, or of queues in NONE, to a domain, or replaces a domain's disturbance mask;
  -- every other port keeps its owner, and no connection moves (OP8).
  (∀ (s : State) (c : Cmd), Obl.adminFront s 0 0x43 c → sqeClean c.sqe = true → sqeField c.sqe 14 1 ≤ s.d.io.numVfs →
    (sqeField c.sqe 8 1 = 0 → sqeField c.sqe 9 1 ≤ 1 → 1 ≤ sqeField c.sqe 12 2 → sqeField c.sqe 10 2 + sqeField c.sqe 12 2 ≤ 512 →
      ∃ t, Machine.exec (.domainSet 0) s = .next t ∧ State.adminAnswers s t 0 { status := stOk, cid := sqeCid c.sqe } ∧
        (∀ side p, p < 512 → t.d.owner side p =
          (if side = sqeField c.sqe 9 1 ∧ sqeField c.sqe 10 2 ≤ p ∧ p < sqeField c.sqe 10 2 + sqeField c.sqe 12 2 then sqeField c.sqe 14 1
           else s.d.owner side p)) ∧
        State.sameBut [.fns, .owner] s t) ∧
    (sqeField c.sqe 8 1 = 1 →
      ∃ t, Machine.exec (.domainSet 0) s = .next t ∧ State.adminAnswers s t 0 { status := stOk, cid := sqeCid c.sqe } ∧
        (∀ e, t.d.disturb e = (if e = sqeField c.sqe 14 1 then sqeField c.sqe 16 2 else s.d.disturb e)) ∧ t.d.io.owner = s.d.io.owner ∧
        State.sameBut [.fns, .owner] s t) ∧
    (sqeField c.sqe 8 1 = 2 → 1 ≤ sqeField c.sqe 12 2 → sqeField c.sqe 10 2 + sqeField c.sqe 12 2 ≤ 64 →
      (∀ k, sqeField c.sqe 10 2 ≤ k → k < sqeField c.sqe 10 2 + sqeField c.sqe 12 2 → (s.d.queue k).state = .none) →
      ∃ t, Machine.exec (.domainSet 0) s = .next t ∧ State.adminAnswers s t 0 { status := stOk, cid := sqeCid c.sqe } ∧
        (∀ k, t.d.queue k = (if sqeField c.sqe 10 2 ≤ k ∧ k < sqeField c.sqe 10 2 + sqeField c.sqe 12 2 then
          { s.d.queue k with domain := sqeField c.sqe 14 1 } else s.d.queue k)) ∧
        State.sameBut [.fns, .queues] s t))

/-! ## Abort and resets (10) -/

/-- Aborts from start to end (R282, R283, R300, R306, R308, R312). States that these complete: queueDelete, abort, abortCut, abortComplete. Choices
of the model: log entries 37, 38. -/
def Obligations.AbortsBeginCutAndEnd : Prop :=
  -- QUEUE_DELETE and ABORT (R282, R283, R306): the queue's abort starts, with the tail then in force; the admin command goes on until it ends. A
  -- QUEUE_DELETE of a queue in NONE completes BLOCKED.
  (∀ (s : State) (f : Nat) (c : Cmd) (i : Instr) (q : Nat),
    (i = .queueDelete f ∧ Obl.adminFront s f 0x41 c ∧ q = sqeField c.sqe 8 1 ∨
     i = .abort f ∧ Obl.adminFront s f 0x42 c ∧ sqeField c.sqe 8 1 = 0 ∧ q = sqeField c.sqe 9 1 ∧ sqeField c.sqe 10 1 = f ∧ (f = 0 ∨
       f ≤ s.d.io.numVfs)) →
    sqeClean c.sqe = true → q < 64 → (s.d.queue q).domain = f → (s.d.queue q).state ∈ [QState.disabled, .enabled, .stalled] →
    ∃ t a, Machine.exec i s = .next t ∧ (t.d.queue q).state = .aborting ∧ (t.d.queue q).abort = some a ∧ a.start = s.d.tb2 ∧
      a.tail = (s.d.queue q).tail ∧ a.cut = none ∧ (t.d.fn f).waits = [q] ∧ (t.d.queue q).cmds = (s.d.queue q).cmds ∧
      (∀ r, r ≠ q → t.d.queue r = s.d.queue r) ∧ State.sameBut [.queues, .fns, .cmt, .mon] s t) ∧
  (∀ (s : State) (f : Nat) (c : Cmd), Obl.adminFront s f 0x41 c → sqeClean c.sqe = true → sqeField c.sqe 8 1 < 64 →
    (s.d.queue (sqeField c.sqe 8 1)).domain = f → (s.d.queue (sqeField c.sqe 8 1)).state = .none →
    ∃ t, Machine.exec (.queueDelete f) s = .next t ∧ State.adminAnswers s t f { status := stBlocked, cid := sqeCid c.sqe } ∧
      State.sameBut [.fns] s t) ∧
  -- The cut (R306): 0.5 µs after abort start it is the lowest index whose command has not taken effect, or the fetch head; every command from it
  -- on is discarded, those below it stay, and SQ_HEAD is the tail seen at abort start.
  (∀ (s : State) (q : Nat) (a : Abort), q < 64 → (s.d.queue q).state = .aborting → (s.d.queue q).abort = some a → a.cut = none →
    a.start + 500 ≤ s.d.tb2 → (∀ r, r < 64 → r ≠ q → (s.d.queue r).abort = none) → s.d.jobs.att = [] → s.d.cal.run = none → s.d.cal.waiting = [] →
    ((s.d.queue q).cmds.map (·.idx)).Nodup →
    ∃ t cut, Machine.exec .abortCut s = .next t ∧ (t.d.queue q).abort = some { a with cut := some cut } ∧
      (t.d.queue q).cmds = (s.d.queue q).cmds.takeWhile (·.effect) ∧ (t.d.queue q).head = a.tail ∧
      cut = (match (s.d.queue q).cmds.dropWhile (·.effect) with
        | c :: _ => c.idx
        | [] => (s.d.queue q).head) ∧
      (∀ r, r ≠ q → t.d.queue r = s.d.queue r) ∧ State.sameBut [.queues, .cmt, .mon, .jobs, .fab] s t) ∧
  -- The end of an abort (R263, R264, R300, R308, R312): where something was discarded, one ABORTED_RANGE completion covers it; the admin completion
  -- follows with the number of commands covered, and leaves the queue DISABLED, ENABLED where an enable was held, NONE after QUEUE_DELETE.
  (∀ (s : State) (q cut f : Nat) (a : Abort), (s.d.queue q).abort = some a → a.cut = some cut → a.ranged = false → (s.d.queue q).cmds = [] →
    a.kind = .abort f → (a.tail + (s.d.queue q).sqSize - cut) % (s.d.queue q).sqSize ≠ 0 →
    ∃ t later, Machine.exec (.abortComplete false q) s = .next t ∧
      t.d.io.out = later ++ Out.hostWrite ((s.d.queue q).cq.base + 32 * (s.d.queue q).cq.tail)
        ({ status := stAborted, cid := 0xFFFF, dw2 := cut + (a.tail + (s.d.queue q).sqSize - 1) % (s.d.queue q).sqSize * 65536 : Comp }.dws
          (s.d.queue q).head q false (s.d.queue q).cq.phase) :: s.d.io.out ∧
      (t.d.fn f).covered = (s.d.fn f).covered + (a.tail + (s.d.queue q).sqSize - cut) % (s.d.queue q).sqSize ∧
      (t.d.queue q).abort = some { a with ranged := true } ∧ State.sameBut [.queues, .fns] s t) ∧
  (∀ (s : State) (f q : Nat) (c : Cmd) (a : Abort), (s.d.fn f).cmds = [c] → (s.d.fn f).orphans = [] → c.executed = true →
    (s.d.fn f).waits = [q] → (s.d.queue q).abort = some a → a.ranged = true → (s.d.fn f).aqActive = true → (s.d.fn f).flrAt = none →
    (sqeOp c.sqe = 0x42 ∧ a.kind = .abort f ∨ sqeOp c.sqe = 0x41 ∧ a.kind = .delete f) →
    ∃ t, Machine.exec (.abortComplete true f) s = .next t ∧
      State.adminAnswers s t f { status := stOk, cid := sqeCid c.sqe, dw2 := if sqeOp c.sqe = 0x42 then (s.d.fn f).covered else 0 } ∧
      (t.d.queue q).abort = none ∧ (t.d.queue q).head = a.tail ∧
      (t.d.queue q).state = (if sqeOp c.sqe = 0x41 then .none else if (s.d.queue q).state = .enablePending then .enabled else .disabled) ∧
      (∀ r, r ≠ q → t.d.queue r = s.d.queue r) ∧ State.sameBut [.queues, .fns] s t)

/-- FLR, PERST_N, link loss and VF removal (R252, R313, R314, R316). States that these complete: flr, flrComplete, perstN, perstNRelease, linkDown,
linkUp, vfRemoval, vfEnable, vfTeardownComplete. Choices of the model: log entries 22, 40. -/
def Obligations.ResetsAndFunctionsComeAndGo : Prop :=
  -- FLR (R313): the function's traffic stops, FS66 occurs, and every queue of it aborts; when its queues are in NONE the reset completes with the
  -- function's HIF registers, rings and MSI-X state at reset. Assignments, owners and DOM_DISTURB survive.
  (∀ (s : State) (f : Nat), s.d.reach f = true → f ≠ 0 → f < 16 →
    ∃ t, Machine.exec (.flr f) s = .next t ∧ (t.d.fn f).flrAt = some s.d.tb2 ∧ (t.d.fn f).aqActive = false ∧ (t.d.fn f).cmds = [] ∧
      (∀ q, q < 64 → (s.d.queue q).domain = f → (s.d.queue q).state ∈ [QState.disabled, .enabled, .stalled] → (t.d.queue q).state = .aborting) ∧
      (∀ q, (s.d.queue q).domain ≠ f → t.d.queue q = s.d.queue q) ∧ (∀ q, (t.d.queue q).domain = (s.d.queue q).domain) ∧
      (t.d.src 66).latched = true ∧
      t.d.fab = s.d.fab ∧ t.d.io.owner = s.d.io.owner ∧ t.d.io.disturb = s.d.io.disturb ∧ t.d.cmt.esn = s.d.cmt.esn ∧
      t.net = s.net ∧ t.mem = s.mem ∧ t.isl = s.isl ∧ t.pending = s.pending) ∧
  (∀ (s : State) (f : Nat), (s.d.fn f).flrAt.isSome = true → f ≤ s.d.io.numVfs → f ≠ 0 →
    (∀ q, q < 64 → (s.d.queue q).domain = f → (s.d.queue q).state = .none) →
    ∃ t, Machine.exec (.flrComplete f) s = .next t ∧ { t.d.fn f with msixPend := false } = {} ∧ t.d.io.queues = s.d.io.queues ∧
      State.sameBut [.fns] s t) ∧
  -- PERST_N and link loss (R314) act as an FLR of PF0: VFs are removed, DOM_DISTURB is cleared, FS65 is current; the fabric, the map, the clocks,
  -- the calibration state and the island go on. PERST_N's release and the link's return end it.
  (∀ (s : State) (i : Instr), (i = .perstN ∧ s.d.io.perst = false ∨ i = .linkDown ∧ s.d.io.linkUp = true) →
    ∃ t, Machine.exec i s = .next t ∧ t.d.io.linkUp = false ∧ t.d.io.linkGen = 0 ∧ t.d.io.numVfs = 0 ∧ (∀ e, t.d.disturb e = 0) ∧
      (t.d.fn 0).flrAt = some s.d.tb2 ∧ (t.d.src 65).current = true ∧ (i = .perstN → t.d.io.perst = true) ∧
      (∀ q, q < 64 → (s.d.queue q).domain = 0 → (s.d.queue q).state ∈ [QState.disabled, .enabled, .stalled] → (t.d.queue q).state = .aborting) ∧
      t.d.fab = s.d.fab ∧ t.d.tim = s.d.tim ∧ t.d.cal = s.d.cal ∧ t.d.cmt.esn = s.d.cmt.esn ∧ t.net = s.net ∧ t.mem = s.mem ∧ t.isl = s.isl ∧
      t.pending = s.pending) ∧
  (∀ (s : State), s.d.io.perst = true → ∃ t, Machine.exec .perstNRelease s = .next t ∧ t.d.io.perst = false ∧ State.sameBut [.link] s t) ∧
  (∀ (s : State) (g w : Nat) (fl : Bool), s.d.io.linkUp = false → s.d.io.perst = false → 1 ≤ g → g ≤ 6 → w ∈ [1, 2, 4, 8] → s.d.clocked = true →
    ¬(s.d.pwr.phase = .dawn ∧ s.d.pwr.step = 0) →
    ∃ t, Machine.exec (.linkUp g w fl) s = .next t ∧ t.d.io.linkUp = true ∧ t.d.io.linkGen = g ∧ t.d.io.linkWidth = w ∧ t.d.io.linkFlit = fl ∧
      0 ∉ (t.d.src 65).conds ∧ State.sameBut [.link, .src] s t) ∧
  -- VFs (R252, R316): removed VFs' queues abort, and at the end of the teardown their queues and ports return to domain 0 with no connection
  -- changed; VFs enabled meanwhile wait for it.
  (∀ (s : State) (n : Nat), s.d.reach 0 = true → n < s.d.io.numVfs → s.d.io.numVfs ≤ 15 →
    ∃ t, Machine.exec (.vfRemoval n) s = .next t ∧ t.d.io.numVfs = n ∧ t.d.io.teardown = some s.d.tb2 ∧
      (∀ q f, q < 64 → n < f → f ≤ s.d.io.numVfs → (s.d.queue q).domain = f → (s.d.queue q).state ∈ [QState.disabled, .enabled, .stalled] →
        (t.d.queue q).state = .aborting) ∧
      t.d.fab = s.d.fab ∧ t.net = s.net ∧ t.mem = s.mem ∧ t.isl = s.isl ∧ t.pending = s.pending) ∧
  (∀ (s : State) (n : Nat), s.d.reach 0 = true → s.d.io.numVfs < n → n ≤ 15 →
    ∃ t, Machine.exec (.vfEnable n) s = .next t ∧
      (if s.d.io.teardown.isSome then t.d.io.vfHeld = some n ∧ t.d.io.numVfs = s.d.io.numVfs else t.d.io.numVfs = n) ∧
      State.sameBut [.link] s t) ∧
  (∀ (s : State), s.d.io.teardown.isSome = true → (∀ q, q < 64 → s.d.io.numVfs < (s.d.queue q).domain → (s.d.queue q).state = .none) →
    Tab.wf 0 s.d.io.owner = true → Tab.wf {} s.d.io.queues = true →
    ∃ t, Machine.exec .vfTeardownComplete s = .next t ∧ t.d.io.teardown = none ∧ t.d.io.numVfs = s.d.io.vfHeld.getD s.d.io.numVfs ∧
      (∀ side p, t.d.owner side p = (if s.d.io.numVfs < s.d.owner side p then 0 else s.d.owner side p)) ∧
      (∀ q, (t.d.queue q).domain = (if s.d.io.numVfs < (s.d.queue q).domain then 0 else (s.d.queue q).domain)) ∧
      t.d.fab = s.d.fab ∧ t.net = s.net ∧ t.mem = s.mem ∧ t.isl = s.isl ∧ t.pending = s.pending)


/-! ## Rings (09) -/

/-- Two functions' values that differ in the MSI-X pending bit at most. -/
def Obl.fnEq (x y : Fn) : Prop := { x with msixPend := y.msixPend } = y

/-- Admin pairs, event rings and the telemetry ring (R274, R287, R316, R469, R470). States that these complete: adminQueueEnable, adminQueueDisable,
adminAbortEnd, eventRingEnable, eventRingDisable, telemetryEnable. Choices of the model: log entry 34. -/
def Obligations.RingsStartAndStop : Prop :=
  -- Admin pairs (R287, R316, R469): EN from 0 to 1 starts the pair with its indices at 0 and PHASE 1, or holds the enable while commands of the
  -- pair before still end; EN from 1 to 0 discards what has not begun, and what has ends without a completion.
  (∀ (s : State) (f g : Nat) (v : Word), s.d.reach f = true → g < 16 → (f = 0 ∨ f = g) → bitOf v.toNat 8 = true → (s.d.fn g).aqEn = false →
    fieldOf v.toNat 0 4 ≤ 12 → fieldOf v.toNat 4 4 ≤ 12 →
    ∃ t, Machine.exec (.adminQueueEnable f g v) s = .next t ∧
      ((s.d.fn g).orphans = [] → Obl.fnEq (t.d.fn g) { s.d.fn g with
        aqSqs := fieldOf v.toNat 0 4, aqCqs := fieldOf v.toNat 4 4, aqEn := true,
        aqActive := true, aqHead := 0, aqTail := 0, acq := { base := (s.d.fn g).aqCqBase, size := 2 ^ (fieldOf v.toNat 4 4 + 4) } }) ∧
      ((s.d.fn g).orphans ≠ [] → Obl.fnEq (t.d.fn g) { s.d.fn g with aqSqs := fieldOf v.toNat 0 4, aqCqs := fieldOf v.toNat 4 4, aqEn := true }) ∧
      (∀ h, h ≠ g → Obl.fnEq (t.d.fn h) (s.d.fn h)) ∧ State.sameBut [.fns] s t) ∧
  (∀ (s : State) (f g : Nat) (v : Word), s.d.reach f = true → g < 16 → (f = 0 ∨ f = g) → bitOf v.toNat 8 = false → (s.d.fn g).aqEn = true →
    ∃ t, Machine.exec (.adminQueueDisable f g v) s = .next t ∧
      Obl.fnEq (t.d.fn g) { s.d.fn g with
        aqEn := false, aqActive := false, acq := {}, cmds := [],
        orphans := (s.d.fn g).orphans ++ (s.d.fn g).cmds.filter (·.executed) } ∧
      (∀ h, h ≠ g → Obl.fnEq (t.d.fn h) (s.d.fn h)) ∧ State.sameBut [.fns] s t) ∧
  (∀ (s : State) (g : Nat), (s.d.fn g).aqEn = true → (s.d.fn g).aqActive = false → (s.d.fn g).orphans = [] →
    ∃ t, Machine.exec (.adminAbortEnd g) s = .next t ∧
      Obl.fnEq (t.d.fn g) { s.d.fn g with
        aqActive := true, aqHead := 0, aqTail := 0,
        acq := { base := (s.d.fn g).aqCqBase, size := 2 ^ ((s.d.fn g).aqCqs + 4) } } ∧
      (∀ h, h ≠ g → Obl.fnEq (t.d.fn h) (s.d.fn h)) ∧ State.sameBut [.fns] s t) ∧
  -- Event and telemetry rings (R274, R287, R470): enabling restarts a ring at index 0 with PHASE 1, and SEQ and EVT_LOST go on; disabling stops the
  -- writing and abandons what was not consumed.
  (∀ (s : State) (f g : Nat) (v : Word), s.d.reach f = true → g < 16 → (f = 0 ∨ f = g) → bitOf v.toNat 8 = true → (s.d.fn g).evtEn = false →
    fieldOf v.toNat 0 4 ≤ 12 →
    ∃ t, Machine.exec (.eventRingEnable f g v) s = .next t ∧
      Obl.fnEq (t.d.fn g) { s.d.fn g with
        evtAgg := fieldOf v.toNat 16 16, evtEs := fieldOf v.toNat 0 4, evtEn := true, evtActive := true,
        evt := { base := (s.d.fn g).evtBase, size := 2 ^ (fieldOf v.toNat 0 4 + 4) } } ∧
      (∀ h, h ≠ g → Obl.fnEq (t.d.fn h) (s.d.fn h)) ∧ State.sameBut [.fns] s t) ∧
  (∀ (s : State) (f g : Nat) (v : Word), s.d.reach f = true → g < 16 → (f = 0 ∨ f = g) → bitOf v.toNat 8 = false → (s.d.fn g).evtEn = true →
    ∃ t, Machine.exec (.eventRingDisable f g v) s = .next t ∧
      Obl.fnEq (t.d.fn g) { s.d.fn g with evtAgg := fieldOf v.toNat 16 16, evtEn := false, evtActive := false, evt := {} } ∧
      (∀ h, h ≠ g → Obl.fnEq (t.d.fn h) (s.d.fn h)) ∧ State.sameBut [.fns] s t) ∧
  (∀ (s : State) (v : Word), s.d.reach 0 = true → bitOf v.toNat 9 = true → s.d.io.tel.en = false → fieldOf v.toNat 0 4 ≤ 12 →
    ∃ t, Machine.exec (.telemetryEnable 0 v) s = .next t ∧
      t.d.io.tel = { s.d.io.tel with
        content := fieldOf v.toNat 10 3, hs := fieldOf v.toNat 0 4, bs := max 16 (min (fieldOf v.toNat 4 5) 26), en := true,
        ring := { base := s.d.io.tel.hdrBase, size := 2 ^ (fieldOf v.toNat 0 4 + 4) }, bulk := [], bulkNext := 0 } ∧
      State.sameBut [.tel] s t)

/-- Causes and messages (R275, R276), and the register form of QUEUE_CREATE (R288). States that these complete: irqRearm, aggTime, msixUnmask,
create. Choices of the model: log entry 99. -/
def Obligations.CausesSendMessages : Prop :=
  -- IRQ_REARM (R275): written 0 while ATN_SUM is non-zero it sends the function's message, or sets the pending bit while the vector or the function
  -- is masked; MSIX_UNMASK clears either mask, and with neither left a pending message is sent.
  (∀ (s : State) (f : Nat), s.d.reach f = true → s.d.atnSum f ≠ 0 → (s.d.fn f).msixMask = false → (s.d.fn f).cfg.fnMask = false →
    ∃ t later, Machine.exec (.irqRearm f 4 0) s = .next t ∧ t.d.io.out = later ++ Out.msix f :: s.d.io.out ∧ State.sameBut [] s t) ∧
  (∀ (s : State) (f : Nat), s.d.reach f = true → s.d.atnSum f ≠ 0 → (s.d.fn f).msixMask = true ∨ (s.d.fn f).cfg.fnMask = true →
    ∃ t, Machine.exec (.irqRearm f 4 0) s = .next t ∧ (t.d.fn f).msixPend = true ∧ State.sameBut [] s t) ∧
  (∀ (s : State) (f : Nat) (whole : Bool), (s.d.fn f).msixPend = true → (s.d.fn f).flrAt = none →
    (if whole then (s.d.fn f).msixMask else (s.d.fn f).cfg.fnMask) = false →
    ∃ t later, Machine.exec (.msixUnmask ⟨f, whole⟩) s = .next t ∧ t.d.io.out = later ++ Out.msix f :: s.d.io.out ∧
      (t.d.fn f).msixMask = false ∧ (t.d.fn f).cfg.fnMask = false ∧ State.sameBut [.fns] s t) ∧
  (∀ (s : State) (f : Nat) (whole : Bool), (if whole then (s.d.fn f).msixMask else (s.d.fn f).cfg.fnMask) = true →
    ∃ t, Machine.exec (.msixUnmask ⟨f, whole⟩) s = .next t ∧ (if whole then (t.d.fn f).cfg.fnMask else (t.d.fn f).msixMask) = false ∧
      ((s.d.fn f).msixPend = true → (t.d.fn f).msixPend = true) ∧ State.sameBut [.fns] s t) ∧
  -- Causes by age, and CREATE (R276, R281, R288): the cause of a CQ sets when its oldest entry reaches the AGG_TIME it was written under, that of an
  -- event ring when it reaches the ring's; QM_Q_CFG with CREATE
  -- set makes a queue in NONE from its registers, or sets CREATE_ERR.
  (∀ (s : State) (q a own : Nat) (as : List (Nat × Nat)), (s.d.queue q).cq.ages = (a, own) :: as → own ≠ 0 → a + own * 1000 ≤ s.d.tb2 →
    ∃ t, Machine.exec (.aggTime 0 q) s = .next t ∧
      t.d.queue q = { s.d.queue q with cq := { (s.d.queue q).cq with cause := true } } ∧ (∀ r, r ≠ q → t.d.queue r = s.d.queue r) ∧
      State.sameBut [.queues] s t) ∧
  (∀ (s : State) (f a own : Nat) (as : List (Nat × Nat)), (s.d.fn f).evt.ages = (a, own) :: as → (s.d.fn f).evtAgg ≠ 0 →
    a + (s.d.fn f).evtAgg * 1000 ≤ s.d.tb2 →
    ∃ t, Machine.exec (.aggTime 1 f) s = .next t ∧
      Obl.fnEq (t.d.fn f) { s.d.fn f with evt := { (s.d.fn f).evt with cause := true } } ∧ State.sameBut [.fns] s t) ∧
  (∀ (s : State) (q : Nat) (v : Word), s.d.reach 0 = true → q < 64 → bitOf v.toNat 16 = true → (s.d.queue q).state = .none →
    ∃ t, Machine.exec (.create 0 q v) s = .next t ∧ (∀ r, r ≠ q → t.d.queue r = s.d.queue r) ∧
      ((s.d.queue q).sqBase % 4096 = 0 → (s.d.queue q).cqBase % 4096 = 0 → fieldOf v.toNat 0 4 ≤ 12 → fieldOf v.toNat 4 4 ≤ 12 →
        (t.d.queue q).state = (if bitOf v.toNat 17 then .enabled else .disabled) ∧ (t.d.queue q).createErr = false ∧
        (t.d.queue q).qosW = max 1 (fieldOf v.toNat 12 4) ∧ (t.d.queue q).sqs = fieldOf v.toNat 0 4 ∧ (t.d.queue q).head = 0 ∧
          (t.d.queue q).tail = 0 ∧
        (t.d.queue q).cq = { base := (s.d.queue q).cqBase, size := 2 ^ (fieldOf v.toNat 4 4 + 4) }) ∧
      ((s.d.queue q).sqBase % 4096 ≠ 0 ∨ (s.d.queue q).cqBase % 4096 ≠ 0 ∨ 12 < fieldOf v.toNat 0 4 ∨ 12 < fieldOf v.toNat 4 4 →
        (t.d.queue q).state = .none ∧ (t.d.queue q).createErr = true) ∧
      State.sameBut [.queues] s t)

/-! ## Records (09, 16) -/

/-- Telemetry and SNAPSHOT records (R271 to R274, R278, R437, R438). States that these complete: telemetryRecord, snapshotRecord, dumpComplete.
Choices of the model: log entries 28, 29. -/
def Obligations.RecordsAreTaken : Prop :=
  -- Telemetry records (R271 to R274): at a whole multiple of TEL_PERIOD a record latches T_n, its time, the ESN and holdover, and waits for the
  -- POWERS of the window that opens then; a record without POWERS is written at once, its data at the bulk offset, with the Relaxed Ordering
  -- attribute where TEL_RO and Device Control ask for it, and its header at the ring's tail.
  (∀ (s : State), s.d.io.tel.en = true → s.d.tb2 % (s.d.io.tel.period * 1000000) = 0 → s.d.clocked = true → s.d.pwr.done = true →
    s.d.jobs.recs = [] → s.d.pmc.dumping = false → bitOf s.d.io.tel.content 1 = true →
    ∃ t r, Machine.exec .telemetryRecord s = .next t ∧ t.d.jobs.recs = [r] ∧ r.t = s.d.tb2 ∧ r.time = s.d.tb0 ∧ r.esn = s.d.cmt.esn ∧
      r.holdover = s.d.holdover ∧ r.cmd = none ∧ r.counters = bitOf s.d.io.tel.content 0 ∧ r.words = none ∧
      t.d.pmc.dumping = bitOf s.d.io.tel.content 0 ∧ State.sameBut [.jobs, .pmc] s t) ∧
  (∀ (s : State), s.d.io.tel.en = true → s.d.tb2 % (s.d.io.tel.period * 1000000) = 0 → s.d.clocked = true → s.d.pwr.done = true →
    s.d.jobs.recs = [] → s.d.io.tel.content = 4 → s.d.io.tel.ring.hasRoom = true → (s.d.fn 0).flrAt = none → s.d.io.linkUp = true →
    s.d.io.tel.bulk = [] → s.d.io.tel.bulkNext + 2752 ≤ 2 ^ s.d.io.tel.bs →
    ∃ t later data, Machine.exec .telemetryRecord s = .next t ∧ data.length = 2752 ∧
      t.d.io.out = later ++ Out.hostWrite (s.d.io.tel.hdrBase + 32 * s.d.io.tel.ring.tail)
        [w32 s.d.tb0, w32 (s.d.tb0 / 2 ^ 32), w32 s.d.cmt.esn, w32 (s.d.cmt.esn / 2 ^ 32), w32 s.d.io.tel.bulkNext, w32 2752,
         w32 (s.d.io.tel.dropNow + b2n s.d.holdover * 2 ^ 16), w32 (b2n s.d.io.tel.ring.phase + (s.d.io.tel.seq + 1) % 65536 * 2 ^ 16)] ::
        (if s.d.io.telRo && bitOf (s.d.fn 0).cfg.devCtl 4 then Out.hostRelaxed (s.d.io.tel.bulkBase + s.d.io.tel.bulkNext) data
         else Out.hostBulk (s.d.io.tel.bulkBase + s.d.io.tel.bulkNext) data) :: s.d.io.out ∧
      t.d.io.tel.ring.cause = true ∧ t.d.io.tel.bulk = [{ off := s.d.io.tel.bulkNext, len := 2752 }] ∧ t.d.io.tel.dropNow = 0 ∧
      t.d.io.tel.seq = (s.d.io.tel.seq + 1) % 65536 ∧ State.sameBut [.tel] s t) ∧
  -- SNAPSHOT records (R278, R437, R438): at its trigger a SNAPSHOT takes effect and its record is latched, with counters and locks for domain 0
  -- alone; once the reader has copied the counters the record is written to RESULT_ADDR before its completion.
  (∀ (s : State) (j : SnapJob), s.d.clocked = true → s.d.tb2 % 10000 = 0 → s.d.jobs.snap = [j] → s.d.jobs.recs = [] → j.at2 < s.d.tb2 →
    (j.trig = 0 ∨ j.trig = 2 ∧ j.time ≤ s.d.tb0) → j.addr ≠ 0 → s.d.pmc.dumping = false →
    ∃ t r, Machine.exec .snapshotRecord s = .next t ∧ t.d.jobs.snap = [] ∧ t.d.jobs.recs = [r] ∧ r.cmd = some (j.q, j.idx, j.addr, j.dom) ∧
      r.time = s.d.tb0 ∧ r.esn = s.d.cmt.esn ∧ r.counters = (j.dom == 0) ∧ r.lock.isSome = (j.dom == 0) ∧ r.words = none ∧
      (t.d.queue j.q).cmds = (s.d.queue j.q).cmds.map (fun c => if c.idx = j.idx then { c with effect := true } else c) ∧
      State.sameBut [.queues, .jobs, .pmc] s t) ∧
  (∀ (s : State) (r : Rec) (c : Cmd) (ws : List Nat) (q addr dom : Nat), s.d.pmc.dumping = true → s.d.pmc.snapReq = false → s.d.jobs.recs = [r] →
    r.counters = true → r.words = some ws → r.cmd = some (q, c.idx, addr, dom) → addr ≠ 0 → (s.d.queue q).cmds = [c] → (s.d.queue q).abort = none →
    ∃ t, Machine.exec .dumpComplete s = .next t ∧
      State.answers s t q [Out.hostBulk addr (r.bytes s.d.pmc)] {
        status := stOk, holdover := r.holdover, esn := r.esn, dw2 := r.time, dw3 := r.time / 2 ^ 32, dw4 := (r.bytes s.d.pmc).length,
          cid := sqeCid c.sqe } ∧
      t.d.pmc.dumping = false ∧ t.d.jobs.recs = [] ∧ State.sameBut [.queues, .jobs, .pmc, .cmt, .mon] s t)

/-! ## Firmware and the supervisor (09, 10, 14) -/

/-- A bundle is rejected for a reason: FS80, and the completion MALFORMED with FW_REASON; nothing of the firmware changes (R285, R384). -/
def Obl.fwRejected (s t : State) (c : Cmd) (reason : Nat) : Prop :=
  (∃ later mid, t.d.io.out = later ++ Out.hostWrite ((s.d.fn 0).acq.base + 32 * (s.d.fn 0).acq.tail)
    (({ status := stMalformed, dw2 := reason * 65536, cid := sqeCid c.sqe } : Comp).dws (s.d.fn 0).aqHead 0 true (s.d.fn 0).acq.phase) ::
    (mid ++ s.d.io.out)) ∧
  (t.d.src 80).latched = true ∧ (t.d.src 80).count = min ((s.d.src 80).count + 1) 65535 ∧ bitOf ((t.d.view 0).leaf.get 0 0x1D4) 2 = true ∧
  State.sameBut [.fns, .views, .src, .flt] s t

/-- FW_ACTIVATE and supervisor restarts (R285, R315, R384, R387, R388). States that these complete: fwActivate, supervisorRestart,
supervisorRestartEnd. Choices of the model: log entry 89. -/
def Obligations.FirmwareAndItsRestarts : Prop :=
  -- FW_ACTIVATE (R285, R384, R387, R388): Stage writes a good bundle to the slot that is not preferred; a bundle that fails a check changes
  -- nothing, is an occurrence of FS80 and completes MALFORMED with its reason; activating supervisor firmware prefers the slot, raises the counter
  -- and restarts the supervisor, which is no occurrence of FS78 or FS79.
  (∀ (s : State) (c : Cmd), Obl.adminFront s 0 0x44 c → sqeClean c.sqe = true → sqeAddr c.sqe % 8 = 0 → sqeField c.sqe 20 1 = 0 →
    ∃ t, Machine.exec (.fwActivate 0) s = .next t ∧
      (s.d.sec.reason c.bundle (sqeField c.sqe 16 4) false ≠ 0 → Obl.fwRejected s t c (s.d.sec.reason c.bundle (sqeField c.sqe 16 4) false)) ∧
      (s.d.sec.reason c.bundle (sqeField c.sqe 16 4) false = 0 →
        State.adminAnswers s t 0 { status := stOk, cid := sqeCid c.sqe } ∧ t.d.sec.staged = true ∧ t.d.sec.fwStaged = bundleSec c.bundle ∧
        t.d.sec.image (!s.d.sec.preferred) = c.bundle ∧ t.d.sec.image s.d.sec.preferred = s.d.sec.image s.d.sec.preferred ∧
        t.d.sec.preferred = s.d.sec.preferred ∧ t.d.sec.counter = s.d.sec.counter ∧ State.sameBut [.fns, .views, .sec] s t)) ∧
  (∀ (s : State) (c : Cmd), Obl.adminFront s 0 0x44 c → sqeClean c.sqe = true → sqeAddr c.sqe % 8 = 0 → sqeField c.sqe 20 1 = 1 →
    s.d.sec.staged = false → ∃ t, Machine.exec (.fwActivate 0) s = .next t ∧ Obl.fwRejected s t c 7) ∧
  (∀ (s : State) (c : Cmd) (bs : List Byte), Obl.adminFront s 0 0x44 c → sqeClean c.sqe = true → sqeAddr c.sqe % 8 = 0 → sqeField c.sqe 20 1 = 1 →
    s.d.sec.staged = true → bs = s.d.sec.image (!s.d.sec.preferred) → (bundleComp bs 1).isSome = true → bundleComp bs 2 = none →
    bundleComp bs 3 = none → s.d.cal.run = none →
    ∃ t, Machine.exec (.fwActivate 0) s = .next t ∧
      (s.d.sec.reason bs bs.length false ≠ 0 → Obl.fwRejected s t c (s.d.sec.reason bs bs.length false)) ∧
      (s.d.sec.reason bs bs.length false = 0 → t.d.sec.preferred = (!s.d.sec.preferred) ∧ t.d.sec.staged = false ∧
        t.d.sec.counter = max s.d.sec.counter (min (bundleSec bs) 64) ∧ t.d.sec.restart = some s.d.tb2 ∧
        t.d.sec.act = some { idx := c.idx, restarting := true, was := s.d.beforeAct } ∧ (t.d.fn 0).cmds = [{ c with executed := true }] ∧
        State.sameBut [.fns, .views, .sec, .mi] s t)) ∧
  -- Supervisor restarts (R315, R388): one of the watchdog is an occurrence of FS78, one of an uncorrectable memory error of FS79; sessions and the
  -- mailbox end, and everything else goes on. At its end interrupted admin commands complete BLOCKED, and the activation that caused it OK.
  (∀ (s : State) (m : Bool), s.d.pwr.supUp = true → s.d.sec.restart = none → s.d.clocked = true → s.d.cal.run = none → s.d.sec.act = none →
    ∃ t, Machine.exec (.supervisorRestart m) s = .next t ∧ t.d.sec.restart = some s.d.tb2 ∧ t.d.sec.doe.state = 0 ∧ t.d.sec.mctp.state = 0 ∧
      t.d.mi = { s.d.mi with reqs := [] } ∧ (t.d.src (if m then 79 else 78)).latched = true ∧
      (t.d.src (if m then 79 else 78)).count = min ((s.d.src (if m then 79 else 78)).count + 1) 65535 ∧
      State.sameBut [.fns, .views, .src, .flt, .sec, .mi] s t) ∧
  (∀ (s : State) (a : Activation) (c : Cmd), s.d.sec.restart.isSome = true → s.d.clocked = true → s.d.sec.blocked = [] → s.d.sec.act = some a →
    a.restarting = true → (s.d.fn 0).cmds = [c] → c.idx = a.idx → (s.d.fn 0).orphans = [] → (s.d.fn 0).aqActive = true → (s.d.fn 0).flrAt = none →
    ∃ t, Machine.exec .supervisorRestartEnd s = .next t ∧ State.adminAnswers s t 0 { status := stOk, dw2 := a.deferred, cid := sqeCid c.sqe } ∧
      t.d.sec.restart = none ∧ t.d.sec.act = none ∧ t.d.sec.bootSlot = s.d.sec.preferred ∧ State.sameBut [.fns, .views, .sec] s t) ∧
  (∀ (s : State) (f : Nat) (c : Cmd), s.d.sec.restart.isSome = true → s.d.clocked = true → s.d.sec.blocked = [(f, c.idx)] → s.d.sec.act = none →
    (s.d.fn f).cmds = [c] → (s.d.fn f).orphans = [] → (s.d.fn f).aqActive = true → (s.d.fn f).flrAt = none →
    ∃ t, Machine.exec .supervisorRestartEnd s = .next t ∧ State.adminAnswers s t f { status := stBlocked, cid := sqeCid c.sqe } ∧
      t.d.sec.restart = none ∧ State.sameBut [.fns, .sec] s t)

/-! ## Route and commit (02, 03) -/

/-- The slot's batch is the only command of its queue, and its completion is still to come; nothing aborts the queue, and the batch does not stall
it. -/
def Obl.slotFront (s : State) (k : Nat) (c : Cmd) : Prop :=
  k < 16 ∧ (s.d.queue (s.d.slot k).queue).cmds = [c] ∧ c.idx = (s.d.slot k).idx ∧ c.done = none ∧ sqeStop c.sqe = false ∧
  (s.d.queue (s.d.slot k).queue).abort = none

/-- A batch of one CONNECT entry whose ports are free and belong to its domain, or to domain 0's batch. -/
def Obl.oneConnect (s : State) (q : Nat) (w : DWord) : Prop :=
  (batchEnt w).ok = true ∧ (batchEnt w).typ = 1 ∧ inFree s.net.conns (batchEnt w).inp = true ∧ outFree s.net.conns (batchEnt w).out = true ∧
  ((s.d.queue q).domain = 0 ∨ s.d.owner 0 (batchEnt w).inp = (s.d.queue q).domain ∧ s.d.owner 1 (batchEnt w).out = (s.d.queue q).domain)

/-- The batch c of one entry waits alone for the route engine: its queue is the only one with a batch to route, and every slot is free. -/
def Obl.batchWaits (s : State) (q : Nat) (c : Cmd) (w : DWord) : Prop :=
  (s.d.queue q).state = .enabled ∧ (s.d.queue q).cmds = [c] ∧ sqeOp c.sqe = 1 ∧ c.executed = true ∧ c.done = none ∧ c.payload = [w] ∧
  (∀ k, k < 16 → (s.d.slot k).state = .free) ∧ s.d.cmt.asapRsv < 16 ∧ (∀ r ∈ s.d.io.queues.map (·.1), r ≠ q → s.d.routable r = none)

/-- Route jobs (R36, R38, R48, R53, R56, R77, R79, R95). States that these complete: routeJobStart, routeJobComplete, heldBatchRerun. Choices of the
model: log entries 25, 26, 43. -/
def Obligations.RouteJobsStartAndEnd : Prop :=
  -- Route jobs start (R36, R38, R48, R77, R95): the first waiting batch takes the lowest free slot, which shows ROUTING and the batch's queue,
  -- domain and command; an entry of another domain's port completes NOT_OWNED, and the slot is FREE again; a held job runs again once its holder
  -- has completed.
  (∀ (s : State) (q : Nat) (c : Cmd) (w : DWord), Obl.batchWaits s q c w → Obl.oneConnect s q w →
    ∃ t, Machine.exec (.routeJobStart q) s = .next t ∧ (t.d.slot 0).state = .routing ∧ (t.d.slot 0).queue = q ∧ (t.d.slot 0).idx = c.idx ∧
      (t.d.slot 0).domain = (s.d.queue q).domain ∧ (t.d.slot 0).cid = sqeCid c.sqe ∧ (t.d.slot 0).commitTime = sqeTime c.sqe ∧
      (t.d.slot 0).rbOnFail = bitOf (sqeFlags c.sqe) 0 ∧ (t.d.slot 0).lateOk = bitOf (sqeFlags c.sqe) 2 ∧ (t.d.slot 0).t0 = s.d.tb2 ∧
      (∀ k, k ≠ 0 → t.d.slot k = s.d.slot k) ∧ State.sameBut [.cmt] s t) ∧
  (∀ (s : State) (q : Nat) (c : Cmd) (w : DWord), Obl.batchWaits s q c w → (s.d.queue q).abort = none → sqeStop c.sqe = false →
    (batchEnt w).ok = true → (s.d.queue q).domain ≠ 0 → s.d.owner 0 (batchEnt w).inp ≠ (s.d.queue q).domain →
    ∃ t, Machine.exec (.routeJobStart q) s = .next t ∧
      State.answers s t q [] { status := stNotOwned, dw5 := 0x3FF0000, cid := sqeCid c.sqe } ∧ (t.d.slot 0).state = .free ∧
      State.sameBut [.queues, .cmt, .mon] s t) ∧
  (∀ (s : State) (k : Nat) (h : Nat × Nat) (w : DWord), k < 16 → (s.d.slot k).state = .held → (s.d.slot k).heldBy = some h →
    (s.d.queue h.1).cmd h.2 = none → (∀ j, j < 16 → j ≠ k → (s.d.slot j).state = .free) → (s.d.slot k).direct = false →
    (s.d.slot k).entries = [w] → Obl.oneConnect s (s.d.slot k).queue w →
    ∃ t, Machine.exec (.heldBatchRerun k) s = .next t ∧ (t.d.slot k).state = .routing ∧ (t.d.slot k).heldBy = none ∧ (t.d.slot k).t0 = s.d.tb2 ∧
      (∀ j, j ≠ k → t.d.slot j = s.d.slot j) ∧ State.sameBut [.cmt] s t) ∧
  -- A route job ends (R53, R56, R79, R95): its result is staged, with the Midnight that it may expect, or held while a ROLLBACK_ON_FAIL batch that
  -- it meets has not completed; without a result it completes with the conflict found.
  (∀ (s : State) (k : Nat) (c : Cmd), Obl.slotFront s k c → (s.d.slot k).state = .routing → (s.d.slot k).bad = none →
    (∀ j, j < 16 → j ≠ k → (s.d.slot j).state = .free) →
    ∃ t, Machine.exec (.routeJobComplete k) s = .next t ∧
      t.d.slot k = { s.d.slot k with
        state := .staging, heldBy := none,
        due := s.d.edgeAt (max (if (s.d.slot k).commitTime = 0 then s.d.tb0 + 6000 else (s.d.slot k).commitTime)
          (s.d.queue (s.d.slot k).queue).prevMidnight) } ∧
      (∀ j, j ≠ k → t.d.slot j = s.d.slot j) ∧ State.sameBut [.cmt] s t) ∧
  (∀ (s : State) (k j : Nat) (c : Cmd), Obl.slotFront s k c → (s.d.slot k).state = .routing → (s.d.slot k).bad = none → j < 16 → j ≠ k →
    (s.d.slot j).state ∈ [SlotSt.staging, .staged, .verifying, .settling, .rolling, .rollback] → (s.d.slot j).rbOnFail = true →
    (∃ ca, ca ∈ (s.d.slot j).delta.foot ∧ ca ∈ (s.d.slot k).delta.foot) →
    ∃ t, Machine.exec (.routeJobComplete k) s = .next t ∧ (t.d.slot k).state = .held ∧ (t.d.slot k).heldBy.isSome = true ∧
      (∀ i, i ≠ k → t.d.slot i = s.d.slot i) ∧ State.sameBut [.cmt] s t) ∧
  (∀ (s : State) (k : Nat) (c : Cmd) (b : Comp), Obl.slotFront s k c → (s.d.slot k).state = .routing → (s.d.slot k).bad = some b →
    (∀ j, j < 16 → j ≠ k → (s.d.slot j).state = .free) →
    ∃ t, Machine.exec (.routeJobComplete k) s = .next t ∧ State.answers s t (s.d.slot k).queue [] { b with cid := sqeCid c.sqe } ∧
      (t.d.slot k).state = .free ∧ State.sameBut [.queues, .cmt, .mon] s t)

/-- From the end of staging to the strobe mask (R42, R48, R83, R88, R188, R306). States that these complete: stagingComplete, laneReservation.
Choices of the model: log entry 41. -/
def Obligations.StagedBatchesWaitForMidnight : Prop :=
  -- Staging ends (R42, R48 step 5, R79, R83): the delta is staged with the waveform bank and the shape selection in force; the Midnight is the
  -- first DCLK edge that lies t_LEAD or more ahead, not before COMMIT_TIME nor before the queue's last Midnight; a batch that is too late completes
  -- COMMIT_LATE, or with LATE_OK carries LATE.
  (∀ (s : State) (k : Nat) (c : Cmd), Obl.slotFront s k c → (s.d.slot k).state = .staging →
    ((s.d.slot k).commitTime = 0 ∨ (s.d.slot k).lateOk = true ∨
      max (s.d.tb0 + 1000) (s.d.queue (s.d.slot k).queue).prevMidnight ≤ (s.d.slot k).commitTime) →
    ∃ t mn, Machine.exec (.stagingComplete k) s = .next t ∧
      t.d.slot k = { s.d.slot k with
        state := .staged, bank := s.d.drv.bank, shapeSel := s.d.drv.shapeSel, ready := s.d.tb2, time := mn,
        due := max (max (s.d.slot k).commitTime (s.d.tb0 + 1000)) (s.d.queue (s.d.slot k).queue).prevMidnight,
        late := (s.d.slot k).commitTime != 0 &&
          decide ((s.d.slot k).commitTime < max (s.d.tb0 + 1000) (s.d.queue (s.d.slot k).queue).prevMidnight) } ∧
      max (max (s.d.slot k).commitTime (s.d.tb0 + 1000)) (s.d.queue (s.d.slot k).queue).prevMidnight ≤ mn ∧
      mn ≤ max (max (s.d.slot k).commitTime (s.d.tb0 + 1000)) (s.d.queue (s.d.slot k).queue).prevMidnight + 1 ∧
      (mn + s.d.tb0 + s.d.tb2) % 2 = 0 ∧ (∀ j, j ≠ k → t.d.slot j = s.d.slot j) ∧ State.sameBut [.cmt] s t) ∧
  (∀ (s : State) (k : Nat) (c : Cmd), Obl.slotFront s k c → (s.d.slot k).state = .staging → (s.d.slot k).lateOk = false →
    (s.d.slot k).commitTime ≠ 0 → (s.d.slot k).commitTime < max (s.d.tb0 + 1000) (s.d.queue (s.d.slot k).queue).prevMidnight →
    ∃ t, Machine.exec (.stagingComplete k) s = .next t ∧
      State.answers s t (s.d.slot k).queue [] { baseComp 1 stLate with cid := sqeCid c.sqe } ∧ State.sameBut [.queues, .cmt, .mon] s t) ∧
  -- The strobe mask and the lanes (R88, R188, R306): 0.5 µs before its Midnight a staged slot enters the mask, and two free lanes are attached to
  -- tap 0 of its checked output in the two planes, each in the range of the level expected after the commit, at the batch's target.
  (∀ (s : State) (k i o : Nat), k < 16 → (s.d.slot k).state = .staged → s.d.slotDone k = false → (s.d.slot k).masked = false →
    (s.d.slot k).due ≤ s.d.tb0 + 500 → (∀ j, j < 16 → j ≠ k → (s.d.slot j).state ≠ .staged) → (s.d.slot k).lanes = [] →
    s.d.checkedPairs s.net k = [(i, o)] → (∀ l, l < 128 → (s.d.fl l).state = .free ∧ (s.d.fl l).bad = false) →
    ∃ t, Machine.exec .laneReservation s = .next t ∧ t.d.slot k = { s.d.slot k with masked := true, lanes := [0, 1] } ∧
      (∀ p, p < 2 → t.d.fl p = { s.d.fl p with
        state := .reserved, att := some (mkMpa (outVoa p o) 0), slot := k,
        range := laneRange (levelOf i o (p == 1) (s.d.inputPower i (p == 1))
          ((((s.d.slot k).delta.oatt.find? (fun x => x.1 == o)).map (·.2)).getD (s.d.tgt 1 o))
          (((s.d.slot k).connsOn s.net).any (fun c => c.uses o && c.isBridge))) }) ∧
      (∀ l, 2 ≤ l → t.d.fl l = s.d.fl l) ∧ (∀ j, j ≠ k → t.d.slot j = s.d.slot j) ∧ State.sameBut [.cmt, .mon] s t)

/-- The edge is slot k's: it is the one slot whose instant has come, and no commit of the device's own is due. -/
def Obl.edgeOf (s : State) (k : Nat) : Prop :=
  s.d.clocked = true ∧ s.d.tb2 % 2 = 0 ∧ s.d.commitOrder = [k] ∧ s.d.deviceDue s.net = false

/-- Midnight (R24, R25, R39, R75, R80 to R82, R99, R100, R318). States that these complete: midnight. Choices of the model: log entries 46, 47, 48.
-/
def Obligations.MidnightCommitsOrDoesNot : Prop :=
  -- Midnight (R24, R25, R39, R75, R81, R82): a commit takes the next ESN, makes the batch's edits of the map, and records the switch states of its
  -- delta; every other switch keeps its state; the strobe counts on the island's side.
  (∀ (s : State) (k : Nat), Obl.edgeOf s k → s.d.blankOn = false → s.d.maySlot k = true → s.d.behind k = false →
    s.d.mustDefer s.net (s.d.slot k).delta.foot = false → ((s.d.slot k).defer = true → s.d.justFree (s.d.slot k).delta.foot = false) →
    ((s.d.slot k).delta.sw.map (·.1)).Nodup → (∀ p ∈ (s.d.slot k).delta.sw, planeACa p.1 = p.1) →
    ∃ t, Machine.exec .midnight s = .next t ∧ t.d.cmt.esn = s.d.cmt.esn + 1 ∧ t.d.cmt.mn = s.d.tb0 ∧
      (t.d.slot k).esn = s.d.cmt.esn + 1 ∧ (t.d.queue (s.d.slot k).queue).prevMidnight = s.d.tb0 ∧
      t.net.conns = (s.d.slot k).delta.edits.foldl applyEdit s.net.conns ∧
      (∀ p ∈ (s.d.slot k).delta.sw, t.net.swOf p.1 = p.2) ∧
      (∀ ca, (∀ p ∈ (s.d.slot k).delta.sw, p.1 ≠ planeACa ca) → t.net.swOf ca = s.net.swOf ca) ∧
      (∀ o v, (o, v) ∈ (s.d.slot k).delta.oatt → ((s.d.slot k).delta.oatt.map (·.1)).Nodup → t.d.tgt 1 o = v) ∧
      t.isl = { s.isl with strobe := s.isl.strobe + 1, fifo := t.isl.fifo } ∧ t.mem = s.mem ∧ t.pending = s.pending) ∧
  -- Deferral and blank (R80, R99, R100, R318): a commit whose footprint is in a settle window, or on a roll not released, or that another staged
  -- batch goes before on their cells, is marked deferred and changes nothing; during blank the batch completes BLANKED, and makes no commit.
  (∀ (s : State) (k : Nat), Obl.edgeOf s k → s.d.blankOn = false → s.d.maySlot k = true →
    ((∃ ca ∈ (s.d.slot k).delta.foot, (s.d.cell ca).settling = true ∨ ca ∈ s.d.rollFoot s.net) ∨ s.d.behind k = true) →
    ∃ t, Machine.exec .midnight s = .next t ∧ t.d.slot k = { s.d.slot k with defer := true } ∧ (∀ j, j ≠ k → t.d.slot j = s.d.slot j) ∧
      t.d.cmt.esn = s.d.cmt.esn ∧ State.sameBut [.cmt] s t) ∧
  (∀ (s : State) (k : Nat) (c : Cmd), Obl.edgeOf s k → s.d.blankOn = true → Obl.slotFront s k c →
    ∃ t, Machine.exec .midnight s = .next t ∧ State.answers s t (s.d.slot k).queue [] { baseComp 1 stBlanked with cid := sqeCid c.sqe } ∧
      (t.d.slot k).state = .free ∧ t.d.cmt.esn = s.d.cmt.esn ∧ State.sameBut [.queues, .cmt, .mon] s t)

/-! ## Verification and what follows (03) -/

/-- The only checked output of slot k, o, is measured in both planes. -/
def Obl.measures (s : State) (k o : Nat) (a b : Meas) : Prop :=
  (s.d.slot k).delta.checked = [o] ∧ a.out = o ∧ a.plane = false ∧ b.out = o ∧ b.plane = true
/-- Neither plane's input was too low at the Midnight to judge the output o of slot k (R90). -/
def Obl.judged (s : State) (k o : Nat) : Prop :=
  (s.d.slot k).ver.minInput ≤ inputAt (s.d.slot k).inputs o false ∧ (s.d.slot k).ver.minInput ≤ inputAt (s.d.slot k).inputs o true
/-- A level measured for slot k lies within the tolerance, as it stood at the Midnight, of the expected one (R89). -/
def Obl.levelOk (s : State) (k i : Nat) (m : Meas) : Prop :=
  (m.level - s.d.expected s.net i m.out m.plane (inputAt (s.d.slot k).inputs m.out m.plane)).natAbs ≤ (s.d.slot k).ver.tol.natAbs

/-- The verification window (R88 to R93): 4 µs after Midnight the checks of a checked output are decided. In tolerance it passes; below MIN_IN it is
not judged and counts as unverified; a failure of a ROLLBACK_ON_FAIL batch makes the slot wait for its rollback, with the failing output and plane;
a failure in both planes of a kept batch is FS41 of the light path. States that these complete: verificationWindowClose. Choices of the model: log
entries 8, 14, 108. -/
def Obligations.VerificationDecides : Prop :=
  ∀ (s : State) (k o : Nat) (a b : Meas) (c : Conn), k < 16 → (s.d.slot k).state = .verifying → (s.d.slot k).window = false →
    (s.d.slot k).fails = [] → (s.d.slot k).rolledBack = false → (s.d.slot k).mn + 4000 ≤ s.d.tb2 → s.d.slotDone k = false → Obl.measures s k o a b →
    s.net.ofOut o = some c → (s.d.slot k).lanes = [] → (s.d.slot k).wait ≠ [] →
    (s.d.slot k).skip = (s.d.slot k).ver.unjudged (s.d.slot k).inputs [o] →
    (Obl.judged s k o → Obl.levelOk s k c.inp a → Obl.levelOk s k c.inp b → (s.d.slot k).locks ≠ [] →
      ∃ t, Machine.exec (.verificationWindowClose k [a, b]) s = .next t ∧ t.d.slot k = { s.d.slot k with window := true, unver := [] } ∧
        State.sameBut [.cmt] s t) ∧
    (¬Obl.judged s k o → (s.d.slot k).locks ≠ [] →
      ∃ t, Machine.exec (.verificationWindowClose k [a, b]) s = .next t ∧ t.d.slot k = { s.d.slot k with window := true, unver := [o] } ∧
        State.sameBut [.cmt] s t) ∧
    (Obl.judged s k o → ¬Obl.levelOk s k c.inp a → Obl.levelOk s k c.inp b → (s.d.slot k).rbOnFail = true →
      ∃ t, Machine.exec (.verificationWindowClose k [a, b]) s = .next t ∧ (t.d.slot k).state = .rollback ∧ (t.d.slot k).failFirst = some (o, 1) ∧
        (t.d.slot k).knownAt = s.d.tb2 ∧ State.sameBut [.cmt] s t) ∧
    (Obl.judged s k o → ¬Obl.levelOk s k c.inp a → ¬Obl.levelOk s k c.inp b → (s.d.slot k).rbOnFail = false → (s.d.slot k).acted = [] →
      (s.d.slot k).locks = [] →
      ∃ t, Machine.exec (.verificationWindowClose k [a, b]) s = .next t ∧ (t.d.slot k).state = .settling ∧ (t.d.slot k).kept = true ∧
        (t.d.slot k).failFirst = some (o, 3) ∧ (t.d.slot k).rolls = [] ∧ (t.d.src 41).latched = true ∧ t.d.cmt.planes = s.d.cmt.planes ∧
        State.sameBut [.cmt, .src, .flt, .fns, .views] s t)

/-- Lock failure, rollback and the end of settle windows (R89, R91, R92, R102, R149, R150, R291, R323). States that these complete: rollbackCommit,
settleWindowEnd. Choices of the model: log entry 41. -/
def Obligations.FailureAndSettling : Prop :=
  -- A lit switch cell that has not declared lock by Midnight + t_SET (R89, R91, R92, R323) is an occurrence of FS29, is constrained to its state, and
  -- fails the batch; the rollback commit takes the next ESN and restores the connections, states and targets that the batch changed.
  (∀ (s : State) (k o ca : Nat), k < 16 → (s.d.slot k).state = .verifying → (s.d.slot k).rbOnFail = true → (s.d.slot k).fails = [] →
    (s.d.slot k).locks = [ca] → (s.d.slot k).rolledBack = false → s.d.slotDone k = false → s.d.outsThrough s.net k ca = [o] →
    o ∉ (s.d.slot k).skip → (s.d.slot k).window = true →
    (∀ j, j < 16 → j ≠ k → ca ∉ (s.d.slot j).locks ∧ ca ∉ (s.d.slot j).wait) → isSwitchCa ca = true → s.net.swOf ca = .bar →
    (s.d.cell ca).settling = true → (s.d.cell ca).locked = false → lit s.net s.d ca = true → (s.d.cell ca).settleEnd ≤ s.d.tb2 →
    s.d.flt.releasing = false →
    ∃ t, Machine.exec (.settleWindowEnd ca) s = .next t ∧ (t.d.slot k).state = .rollback ∧
      (t.d.slot k).failFirst = some (o, if caPlane ca = 0 then 1 else 2) ∧ (t.d.slot k).knownAt = s.d.tb2 ∧ (t.d.src 29).latched = true ∧
      t.d.cons ca = .forcedBar ∧ (t.d.cell ca).settling = false ∧ State.sameBut [.fab, .cmt, .src, .flt, .fns, .views] s t) ∧
  (∀ (s : State) (k : Nat), k < 16 → (s.d.slot k).state = .rollback → (s.d.slot k).rolledBack = false → (s.d.slot k).knownAt < s.d.tb2 →
    s.d.tb2 % 2 = 0 → s.d.clocked = true → s.d.blankOn = false → (s.d.slot k).esn ≤ s.d.cmt.esn →
    ((s.d.slot k).undo.sw.map (·.1)).Nodup → (∀ p ∈ (s.d.slot k).undo.sw, planeACa p.1 = p.1) → ((s.d.slot k).undo.tgt.map (·.1)).Nodup →
    ∃ t, Machine.exec (.rollbackCommit k) s = .next t ∧ t.d.cmt.esn = s.d.cmt.esn + 1 ∧ (t.d.slot k).rolledBack = true ∧
      (t.d.slot k).esn + (t.d.slot k).rbDelta = s.d.cmt.esn + 1 ∧ t.net.conns = restoredConns s.net.conns (s.d.slot k).undo ∧
      (∀ p ∈ (s.d.slot k).undo.sw, t.net.swOf p.1 = p.2) ∧ (∀ p ∈ (s.d.slot k).undo.tgt, t.d.fab.tgt.get 0 p.1 = p.2) ∧
      t.isl = { s.isl with strobe := s.isl.strobe + 1, fifo := t.isl.fifo } ∧ t.mem = s.mem ∧ t.pending = s.pending) ∧
  -- The end of a settle window (R149, R150, R291): the fast trim moves into the heater's target with F unchanged, and out of the trim's integrator;
  -- the heater's command follows at the next SCLK update; the cell enters handover and its lanes leave fast mode; the last window that a settling
  -- slot waits for writes its completion (R102, R264).
  (∀ (s : State) (ca : Nat), (s.d.cell ca).settling = true → ((s.d.cell ca).locked = true ∨ (s.d.cell ca).settleEnd ≤ s.d.tb2) →
    (∀ j, j < 16 → ca ∉ (s.d.slot j).locks ∧ ca ∉ (s.d.slot j).wait) → s.d.cmt.restoring = [] → s.d.flt.releasing = false →
    ∃ t, Machine.exec (.settleWindowEnd ca) s = .next t ∧
      t.d.cell ca = { s.d.cell ca with
        phiTgt := (s.d.cell ca).phiTgt + (s.d.cell ca).fTrim, fTrim := 0, settling := false, settleEnd := s.d.tb2, handover := true, fast := false,
        fastOff := s.d.tb2, nFast := 0, region := if isSwitchCa ca then 5 else (s.d.cell ca).region } ∧
      (isSwitchCa ca = true → (t.d.loop (fAa ca)).u = 0 ∧ (t.d.loop (fAa ca)).integ = satQ ((s.d.loop (fAa ca)).integ - (s.d.loop (fAa ca)).u)) ∧
      (isSwitchCa ca = true → (s.d.loop (hpAa ca)).mode = 2 → s.d.laneOf (hpAa ca) = none →
        (t.d.loop (hpAa ca)).drvNext = some (s.d.tb2 / 8 * 8 + 8, powerCode (t.d.loop (hpAa ca)).u)) ∧
      (∀ x, x ≠ ca → t.d.cell x = s.d.cell x) ∧ (∀ aa, aa ≠ fAa ca → aa ≠ hpAa ca → t.d.loop aa = s.d.loop aa) ∧ State.sameBut [.fab] s t) ∧
  (∀ (s : State) (ca k : Nat) (c : Cmd), (s.d.cell ca).settling = true → (s.d.cell ca).settleEnd ≤ s.d.tb2 → Obl.slotFront s k c →
    (s.d.slot k).state = .settling → (s.d.slot k).wait = [ca] → (s.d.slot k).rolls = [] → (s.d.slot k).rolledBack = false →
    (s.d.slot k).kept = false → (s.d.slot k).blankedKept = false → (s.d.slot k).failFirst = none → ca ∉ (s.d.slot k).locks →
    (∀ j, j < 16 → j ≠ k → ca ∉ (s.d.slot j).locks ∧ ca ∉ (s.d.slot j).wait) → s.d.cmt.restoring = [] → s.d.flt.releasing = false →
    ∃ t, Machine.exec (.settleWindowEnd ca) s = .next t ∧
      State.answers s t (s.d.slot k).queue [] {
        esn := (s.d.slot k).esn, dw2 := 0x3FF + (s.d.slot k).delta.moved.length * 65536, dw3 := (s.d.slot k).unver.length * 262144,
        dw4 := min (s.d.slot k).deferBy 65535 * 65536, dw5 := min (s.d.slot k).rbDelta 65535 + 0x3FF * 65536, status := stOk,
        defer := (s.d.slot k).defer, late := (s.d.slot k).late, holdover := (s.d.slot k).holdover, cid := sqeCid c.sqe } ∧
      (t.d.slot k).state = .free ∧ State.sameBut [.fab, .queues, .cmt, .mon] s t)

/-- Device plane commits (R97, R98): the input VOA goes DARK in the failing plane alone, with FS37 CURRENT; the restore takes it out of DARK again,
and once its verification has passed the connection has both planes and FS37 ends. Each commit takes an ESN and no slot. States that these complete:
verificationWindowClose, devicePlaneCommit, planeRestoreCommit. Choices of the model: log entries 49, 107. -/
def Obligations.PlanesAreLostAndRestored : Prop :=
  (∀ (s : State) (j : PlaneJob) (c : Conn), s.d.cmt.planes = [j] → s.d.jobs.att = [] → j.restore = false → s.net.ofIn j.inp = some c →
    c.dark = none → j.inp < 512 →
    s.d.tb2 % 2 = 0 → j.at2 < s.d.tb2 → s.d.blankOn = false → (s.d.cell (inVoa (b2n j.plane) j.inp)).settling = false → s.d.clocked = true →
    (∀ k, k < 16 → inVoa (b2n j.plane) j.inp ∉ (s.d.slot k).wait) →
    ∃ t, Machine.exec (.devicePlaneCommit j.inp) s = .next t ∧ t.d.cmt.esn = s.d.cmt.esn + 1 ∧
      t.net.conns = putConn { c with dark := some j.plane } s.net.conns ∧ t.net.sw = s.net.sw ∧
      (t.d.cell (inVoa (b2n j.plane) j.inp)).dark = true ∧ t.d.cmt.planes = [] ∧ (j.inp, j.failCa) ∈ t.d.cmt.single ∧
      pathScope j.inp c.out (if j.plane then 2 else 1) ∈ (t.d.src 37).conds ∧ (∀ k, t.d.slot k = s.d.slot k) ∧ t.mem = s.mem ∧
        t.pending = s.pending) ∧
  (∀ (s : State) (j : PlaneJob) (c : Conn), s.d.cmt.planes = [j] → s.d.jobs.att = [] → j.restore = true → s.net.ofIn j.inp = some c →
    c.dark = some j.plane →
    j.inp < 512 → s.d.tgt 0 j.inp ≠ 511 → (s.d.cell (inVoa (b2n j.plane) j.inp)).dark = true → s.d.tb2 % 2 = 0 → j.at2 < s.d.tb2 →
    s.d.blankOn = false → (s.d.cell (inVoa (b2n j.plane) j.inp)).settling = false → s.d.clocked = true →
    ∃ t, Machine.exec (.planeRestoreCommit j.inp) s = .next t ∧ t.d.cmt.esn = s.d.cmt.esn + 1 ∧
      t.net.conns = putConn { c with dark := none } s.net.conns ∧ t.net.sw = s.net.sw ∧ (t.d.cell (inVoa (b2n j.plane) j.inp)).dark = false ∧
      t.d.cmt.planes = [] ∧ (∃ r ∈ t.d.cmt.restoring, r.inp = j.inp ∧ r.plane = j.plane ∧ r.mn = s.d.tb2 ∧ r.locked = false ∧
        r.ver = s.d.cmt.ver) ∧
      (∀ k, t.d.slot k = s.d.slot k) ∧ t.mem = s.mem ∧ t.pending = s.pending) ∧
  (∀ (s : State) (r : Restore) (c : Conn) (a b : Meas), s.d.cmt.restoring = [r] → r.locked = true → r.window = false → r.lanes = [] → r.failed = 0 →
    r.mn + 4000 ≤ s.d.tb2 → s.net.ofIn r.inp = some c → s.net.ofOut c.out = some c → c.inp = r.inp → c.out2 = none → a.out = c.out → a.plane = false →
    b.out = c.out → b.plane = true → r.ver.unjudged r.inputs [c.out] = [] →
    (∀ m ∈ [a, b], (m.level - s.d.expected s.net c.inp m.out m.plane (inputAt r.inputs m.out m.plane)).natAbs ≤ r.ver.tol.natAbs) →
    ∃ t, Machine.exec (.verificationWindowClose (16 + r.inp) [a, b]) s = .next t ∧ t.d.cmt.restoring = [] ∧
      t.d.cmt.single = s.d.cmt.single.filter (fun p => p.1 != r.inp) ∧
      pathScope r.inp c.out (if r.plane then 2 else 1) ∉ (t.d.src 37).conds ∧ t.d.cmt.planes = s.d.cmt.planes ∧ (∀ k, t.d.slot k = s.d.slot k) ∧
      State.sameBut [.cmt, .src, .flt, .fns, .views] s t)

/-- Rolls (R61, R152): once verification has passed, the SPLIT cell and its twin ramp by a quarter turn over ROLL_RAMP; at the first DCLK edge after
the ramp the release commit leaves the connection on OUT2 alone, and OUT goes DARK. States that these complete: rollRampStart, releaseCommit.
Choices of the model: log entry 55. -/
def Obligations.RollsRampAndRelease : Prop :=
  (∀ (s : State) (k i ca : Nat) (c : Conn), k < 16 → (s.d.slot k).state = .rolling → (s.d.slot k).rolls = [(i, none)] → (s.d.slot k).abortAt = none →
    (s.d.slot k).knownAt < s.d.tb2 → s.d.tb2 % 1000 = 0 → s.net.ofIn i = some c → splitCellOf s.net c = some ca → isSwitchCa ca = true →
    ∃ t, Machine.exec (.rollRampStart k) s = .next t ∧ (t.d.slot k).rolls = [(i, some (s.d.tb2 + (s.d.slot k).rampUs * 1000))] ∧
      (∀ x ∈ [ca, twinCa ca], ∃ e, (e = 4194304 ∨ e = -4194304) ∧ t.d.cell x = { s.d.cell x with
        ramp := some (s.d.tb2, s.d.tb2 + (s.d.slot k).rampUs * 1000, (s.d.cell x).phiTgt, (s.d.cell x).phiTgt + e) }) ∧
      (∀ x, x ≠ ca → x ≠ twinCa ca → t.d.cell x = s.d.cell x) ∧ State.sameBut [.fab, .cmt] s t) ∧
  (∀ (s : State) (k i e o2 : Nat) (c : Conn), k < 16 → (s.d.slot k).state = .rolling → (s.d.slot k).rolls = [(i, some e)] → e < s.d.tb2 →
    s.d.tb2 % 2 = 0 → s.d.clocked = true → s.net.ofIn i = some c → c.out2 = some o2 → c.out ≠ o2 → c.out < 512 →
    (∀ x ∈ s.net.conns, x.uses c.out = true → x = c) →
    ∃ t, Machine.exec (.releaseCommit k) s = .next t ∧ t.d.cmt.esn = s.d.cmt.esn + 1 ∧ t.net.ofIn i = some { c with out := o2, out2 := none } ∧
      t.net.ofOut c.out = none ∧ (t.d.cell (outVoa 0 c.out)).dark = true ∧ (t.d.cell (outVoa 1 c.out)).dark = true ∧ (t.d.slot k).rolls = [] ∧
      t.isl = { s.isl with strobe := s.isl.strobe + 1, fifo := t.isl.fifo } ∧ t.mem = s.mem ∧ t.pending = s.pending)

/-! ## Cells between commits (05) -/

/-- Handover, lock and regions (R132, R144 to R146, R150, R151, R161, R324, R338). States that these complete: handoverEnd, demodulatorWindowFull,
lockDeclared, lockLost, regionChange. Choices of the model: log entries 17, 54, 55. -/
def Obligations.HandoverAndLock : Prop :=
  -- Handover and the demodulator (R144, R150, R151): handover ends when F is below 0.011 turn, its trim moving into the heater's target and the
  -- trim's states starting from 0; a switch cell outside SPLIT then waits 1 ms for its demodulator window.
  (∀ (s : State) (ca : Nat), (s.d.cell ca).handover = true → (s.d.cell ca).settling = false → (s.d.cell ca).f.natAbs ≤ 184549 →
    ∃ t, Machine.exec (.handoverEnd ca) s = .next t ∧
      t.d.cell ca = { s.d.cell ca with
        phiTgt := (s.d.cell ca).phiTgt + (s.d.cell ca).fTrim, fTrim := 0, handover := false, fWait := none,
        demodAt := if isSwitchCa ca && s.net.swOf ca != .split then some (s.d.tb2 + 1000000) else none, demod := [],
        region := if isSwitchCa ca then (if s.net.swOf ca = .split then 3 else if (s.d.cell ca).locked then 2 else 0) else (s.d.cell ca).region } ∧
      (t.d.loop (fAa ca)).u = 0 ∧ (t.d.loop (fAa ca)).integ = 0 ∧ (∀ aa, aa ∉ fAa ca :: heatersOf ca → t.d.loop aa = s.d.loop aa) ∧
      (∀ x, x ≠ ca → t.d.cell x = s.d.cell x) ∧ State.sameBut [.fab] s t) ∧
  (∀ (s : State) (ca e : Nat), (s.d.cell ca).demodAt = some e → e ≤ s.d.tb2 →
    ∃ t, Machine.exec (.demodulatorWindowFull ca) s = .next t ∧ t.d.cell ca = { s.d.cell ca with demodAt := none } ∧
      (∀ x, x ≠ ca → t.d.cell x = s.d.cell x) ∧ t.d.fab.loops = s.d.fab.loops ∧ State.sameBut [.fab, .drv] s t) ∧
  -- Lock and regions (R132, R145, R146, R161, R324, R338): a lit cell that has met the lock condition declares lock, its AUTO_3P3Z loops go to
  -- AUTO, and FS28 ends; a cell that has met the loss condition loses it, with FS28 CURRENT and its LOCK bit; three ticks beyond a metric boundary
  -- change the region, and a fall to ACQUIRE moves AUTO to AUTO_3P3Z.
  (∀ (s : State) (ca : Nat), (s.d.cell ca).locked = false → lit s.net s.d ca = true → (s.d.cell ca).settling = false →
    (s.d.cell ca).handover = false → (s.d.cell ca).nLock = 10 → isSwitchCa ca = true → s.net.swOf ca ≠ .split → (s.d.cell ca).region = 1 →
    s.d.flt.relock = none → s.d.flt.blank = false → s.d.blankCause = false →
    ∃ t, Machine.exec (.lockDeclared ca) s = .next t ∧ t.d.cell ca = { s.d.cell ca with locked := true, nLoss := 0, region := 2 } ∧
      (∀ aa ∈ heatersOf ca, (s.d.loop aa).prevMode = none → (s.d.loop aa).mode = 5 → (t.d.loop aa).mode = 2) ∧
      ca ∉ (t.d.src 28).conds ∧ (∀ x, x ≠ ca → t.d.cell x = s.d.cell x) ∧ State.sameBut [.fab, .src] s t) ∧
  (∀ (s : State) (ca : Nat), (s.d.cell ca).locked = true → lit s.net s.d ca = true → (s.d.cell ca).settling = false →
    (s.d.cell ca).handover = false → (s.d.cell ca).nLoss = 10 →
    ∃ t, Machine.exec (.lockLost ca) s = .next t ∧ (t.d.cell ca).locked = false ∧ ca ∈ (t.d.src 28).conds ∧ t.d.fab.loops = s.d.fab.loops ∧
      bitOf ((t.d.view 0).leaf.get 0 (0x140 + 4 * (tileOf ca / 32))) (tileOf ca % 32) = true ∧ (∀ x, x ≠ ca → t.d.cell x = s.d.cell x) ∧
      State.sameBut [.fab, .src, .flt, .fns, .views] s t) ∧
  (∀ (s : State) (ca : Nat), isSwitchCa ca = true → lit s.net s.d ca = true → (s.d.cell ca).settling = false → (s.d.cell ca).handover = false →
    s.net.swOf ca ≠ .split → 3 ≤ (s.d.cell ca).nMove → (s.d.cell ca).region ≤ 1 →
    ∃ t, Machine.exec (.regionChange ca) s = .next t ∧ (t.d.cell ca).region = 1 - (s.d.cell ca).region ∧
      (∀ aa ∈ heatersOf ca, (s.d.loop aa).prevMode = none → (s.d.cell ca).region = 1 → (s.d.loop aa).mode = 2 → (t.d.loop aa).mode = 5) ∧
      (∀ x, x ≠ ca → t.d.cell x = s.d.cell x) ∧ State.sameBut [.fab] s t)

/-- Light, wraps, ticks and fast periods (R108, R109, R132, R140 to R142, R153, R154, R156, R160, R195, R196). States that these complete: tick,
fastPeriod, cellUnlit, cellLit, wrapTaken. Choices of the model: log entries 15, 52, 53, 124. -/
def Obligations.LightWrapsAndHeaters : Prop :=
  -- Light and wraps (R132, R153, R154): three ticks below −40 dBm put a cell out, three above −37 dBm light one that carries a path; an unlit cell
  -- with a pending wrap steps its heater's target by one turn, up from below the band and down from above it; a heater in PARK or MANUAL keeps its
  -- command.
  (∀ (s : State) (ca : Nat), (s.d.cell ca).power = true → 3 ≤ (s.d.cell ca).nDark →
    ∃ t, Machine.exec (.cellUnlit ca) s = .next t ∧ (t.d.cell ca).power = false ∧ (t.d.cell ca).locked = false ∧ t.d.fab.loops = s.d.fab.loops ∧
      (∀ x, x ≠ ca → t.d.cell x = s.d.cell x) ∧ State.sameBut [.fab] s t) ∧
  (∀ (s : State) (ca : Nat), (s.d.cell ca).power = false → 3 ≤ (s.d.cell ca).nLit → (isInVoa ca = true ∨ s.net.used ca = true) →
    ∃ t, Machine.exec (.cellLit ca) s = .next t ∧ (t.d.cell ca).power = true ∧ (t.d.cell ca).locked = false ∧ t.d.fab.loops = s.d.fab.loops ∧
      (∀ x, x ≠ ca → t.d.cell x = s.d.cell x) ∧ State.sameBut [.fab] s t) ∧
  (∀ (s : State) (ca : Nat), (s.d.loop (hpAa ca)).wrapPending = true → lit s.net s.d ca = false → (s.d.cell ca).settling = false →
    (s.d.cell ca).handover = false → (s.d.cell ca).wrapping = false → s.d.tileHeld (tileOf ca) = false →
    ∃ t, Machine.exec (.wrapTaken ca) s = .next t ∧
      t.d.cell ca = { s.d.cell ca with
        phiTgt := (s.d.cell ca).phiTgt + (if (s.d.loop (hpAa ca)).u < 16777216 then 16777216 else -16777216), wrapping := true,
        region := if isSwitchCa ca then 6 else (s.d.cell ca).region } ∧
      (t.d.loop (hpAa ca)).wrapPending = false ∧
      ((s.d.loop (hpAa ca)).mode ≤ 1 → t.d.loop (hpAa ca) = { s.d.loop (hpAa ca) with wrapPending := false }) ∧
      ((s.d.loop (hpAa ca)).mode = 2 → s.d.laneOf (hpAa ca) = none →
        (t.d.loop (hpAa ca)).drvNext = some (s.d.tb2 / 8 * 8 + 8, powerCode (t.d.loop (hpAa ca)).u)) ∧
      (∀ aa, aa ≠ hpAa ca → t.d.loop aa = s.d.loop aa) ∧ (∀ x, x ≠ ca → t.d.cell x = s.d.cell x) ∧ State.sameBut [.fab] s t) ∧
  -- Ticks and fast periods (R108, R109, R140 to R142, R156, R160, R195, R196): a tick gives each heater its next command: none in PARK, and in
  -- MANUAL the slewed code under the ceiling and the tile's level. A fast period gives every cell the F value due, and takes the next reading
  -- of the rail that TICK brought, with FS18 CURRENT below 4.70 V.
  (∀ (s : State) (mvs : List Nat) (g : List (Nat × List (Int × Int))) (r : List (Nat × Nat)) (tw : List Nat), s.d.clocked = true →
    s.d.tb2 % 10000 = 0 → 10000 ≤ s.d.tb2 → s.d.tim.tickDone ≠ s.d.tb2 + 1 → s.d.drv.armed = true → s.d.pwr.phase = .run → s.d.cal.run = none → s.d.cal.sweep = none →
    s.d.seq.ownerCal = false → Tab.wf {} s.d.fab.loops = true →
    ∃ t, Machine.exec (.tick mvs g r tw) s = .next t ∧ t.d.tim = { s.d.tim with tickDone := s.d.tb2 + 1 } ∧
      t.d.drv.hrailMv = s.d.drv.hrailMv ∧ t.d.drv.rail = mvs ∧
      (∀ aa, isSwitchCa (aaCell aa) = true → aaKind aa < 2 → s.d.laneOf aa = none → s.d.tileHeld (tileOf (aaCell aa)) = false →
        s.d.seqBound (aaCell aa) = false → (s.d.cell (aaCell aa)).hzH = false →
        ((s.d.loop aa).mode = 0 → (t.d.loop aa).u = 0 ∧ (t.d.loop aa).drv = 0) ∧
        ((s.d.loop aa).mode = 1 → (t.d.loop aa).drv = powerCode (t.d.loop aa).u ∧
          (t.d.loop aa).u = max 0 (min (slew (s.d.loop aa).manual (s.d.loop aa).code (s.d.manualStep aa (s.d.loop aa)) ((s.d.loop aa).slewPh == 0))
            (min (s.d.c1 aa (s.d.loop aa)) (s.d.tile (tileOf (aaCell aa))).level)))) ∧
      t.net = s.net ∧ t.mem = s.mem ∧ t.isl = s.isl ∧ t.pending = s.pending) ∧
  (∀ (s : State) (mv : Nat) (rest : List Nat), s.d.clocked = true → s.d.tb2 % 1000 = 0 → s.d.tim.fastDone ≠ s.d.tb2 + 1 →
    s.d.drv.armed = true → Tab.wf {} s.d.fab.cells = true → s.d.drv.rail = mv :: rest → 4000 ≤ mv → (s.d.src 11).conds = [] →
    ∃ t, Machine.exec .fastPeriod s = .next t ∧ t.d.tim = { s.d.tim with fastDone := s.d.tb2 + 1 } ∧
      (∀ ca, (t.d.cell ca).f = (s.d.cell ca).fDue.getD (s.d.cell ca).f) ∧ t.d.drv.hrailMv = mv ∧ t.d.drv.rail = rest ∧ (0 ∈ (t.d.src 18).conds ↔ mv < 4700) ∧
      State.sameBut [.fab, .tim, .drv, .src, .flt, .fns, .views] s t)

/-! ## Loop engines (04) -/

/-- The trim that F's command stands for: what it adds to the gap between target and thermal estimate, while a trim runs at all (R149). -/
def Obl.trimInForce (c : Cell) : Int := if c.settling || c.handover then satQ (c.f - (c.phiTgt - c.phiTh)) else 0

/-- Loop-engine errors, takeovers and requests (R114 to R118, R128, R324). States that these complete: leFailure, takeover, takeoverComplete,
spareReq, returnReq, leRejoin. Choices of the model: log entries 57, 115. -/
def Obligations.LoopEnginesAndSpares : Prop :=
  -- Errors of loop engines (R117, R118, R128, R324): a corrected error is counted by FS20 alone; one that stops a tile's own LE is FS21, FS22 or
  -- FS26, leaves its actuators as they are, and asks for a permanent takeover; a failed LE that passes its self-test takes its tile back, and one
  -- that fails it stays out.
  (∀ (s : State) (k : Nat), k < 352 → s.d.clocked = true →
    ∃ t, Machine.exec (.leFailure k 0) s = .next t ∧ t.d.le k = { s.d.le k with err := (s.d.le k).err ||| 1 } ∧ (∀ j, j ≠ k → t.d.le j = s.d.le j) ∧
      (t.d.src 20).latched = true ∧ (t.d.src 20).count = min ((s.d.src 20).count + 1) 65535 ∧ t.d.fab.loops = s.d.fab.loops ∧
      State.sameBut [.fab, .src, .flt, .fns, .views] s t) ∧
  (∀ (s : State) (k b : Nat), k < 336 → s.d.clocked = true → s.d.leState k = .own → s.d.sec.act = none → s.d.cal.run = none → (b = 1 ∨ b = 2 ∨
    b = 6) →
    ∃ t, Machine.exec (.leFailure k b) s = .next t ∧ t.d.leState k = .failed ∧ (t.d.le k).cause = some .permanent ∧
      (t.d.le k).pend = some s.d.tb2 ∧ (t.d.le k).back = false ∧ bitOf (t.d.le k).err b = true ∧ (∀ j, j ≠ k → t.d.le j = s.d.le j) ∧
      (t.d.src (if b = 1 then 21 else if b = 2 then 22 else 26)).latched = true ∧ t.d.fab.loops = s.d.fab.loops ∧ t.d.fab.cells = s.d.fab.cells ∧
      State.sameBut [.fab, .src, .flt, .fns, .views] s t) ∧
  (∀ (s : State) (k : Nat), k < 336 → s.d.leState k = .failed → (s.d.src 21).insts = [] → (s.d.src 22).insts = [] → (s.d.src 26).insts = [] →
    (s.d.le k).pend = none → (s.d.le k).moveAt = none →
    (∃ t, Machine.exec (.leRejoin k true) s = .next t ∧ (t.d.le k).pend = some s.d.tb2 ∧ (t.d.le k).back = true ∧ t.d.leState k = .failed ∧
      (∀ j, j ≠ k → t.d.le j = s.d.le j) ∧ State.sameBut [.fab] s t) ∧
    (∃ t, Machine.exec (.leRejoin k false) s = .next t ∧ (t.d.le k).pend = none ∧ bitOf (t.d.le k).err 6 = true ∧ (t.d.src 26).latched = true ∧
      (∀ j, j ≠ k → t.d.le j = s.d.le j) ∧ State.sameBut [.fab, .src, .flt, .fns, .views] s t)) ∧
  -- Takeovers (R115, R116, R117): at the tick boundary the lowest idle spare of the plane takes the tile; a tile that has lost its LE takes the
  -- commands in force for its loops' presets, its fast trims among them, and the trims resume 5 µs later; with no spare to take, and none to take
  -- back, it becomes UNAVAILABLE with FS25. After 5 µs the spare serves, or the tile is with its own LE again and the spare idle.
  (∀ (s : State) (tn at2 k : Nat), tn < 336 → (s.d.le tn).pend = some at2 → at2 < s.d.tb2 → s.d.tb2 % 10000 = 0 → s.d.clocked = true →
    (s.d.le tn).back = false → s.d.idleSpare (tilePlane tn) = some k → s.d.sec.act = none →
    ∃ t, Machine.exec (.takeover tn) s = .next t ∧ t.d.le k = { s.d.le k with state := some .moving, partner := tn } ∧ (t.d.le tn).partner = k ∧
      (t.d.le tn).moveAt = some s.d.tb2 ∧ (t.d.le tn).pend = none ∧
      t.d.leState tn = (if (s.d.le tn).state = some .failed then .failed else .moving) ∧
      (∀ aa, t.d.loop aa = (if (s.d.le tn).presetDue = true ∧ (∃ ca ∈ tileCells tn, aa ∈ heatersOf ca) then
        { s.d.loop aa with preset := 1, u := codePower ((s.d.loop aa).drvAt s.d.tb2), v := codePower ((s.d.loop aa).drvAt s.d.tb2) }
        else if (s.d.le tn).presetDue = true ∧ (∃ ca ∈ tileCells tn, aa = fAa ca) then
        { s.d.loop aa with preset := 1, u := Obl.trimInForce (s.d.cell (aaCell aa)), v := Obl.trimInForce (s.d.cell (aaCell aa)) }
        else s.d.loop aa)) ∧
      (∀ ca, t.d.cell ca = (if (s.d.le tn).presetDue = true ∧ ca ∈ tileCells tn then
        { s.d.cell ca with fTrim := Obl.trimInForce (s.d.cell ca), fDue := none } else s.d.cell ca)) ∧
      ((s.d.le tn).presetDue = true → (t.d.le tn).trimsFrom = s.d.tb2 + 5000) ∧
      (∀ j, j ≠ tn → j ≠ k → t.d.le j = s.d.le j) ∧ State.sameBut [.fab] s t) ∧
  (∀ (s : State) (tn at2 : Nat), tn < 336 → (s.d.le tn).pend = some at2 → at2 < s.d.tb2 → s.d.tb2 % 10000 = 0 → s.d.clocked = true →
    (s.d.le tn).back = false → s.d.idleSpare (tilePlane tn) = none → (s.d.le tn).cause = some .permanent → s.d.victim (tilePlane tn) = none →
    (∀ k ∈ sparesOf (tilePlane tn), s.d.leState k ≠ .moving) → s.d.sec.act = none →
    ∃ t, Machine.exec (.takeover tn) s = .next t ∧ t.d.leState tn = .unavailable ∧ bitOf (t.d.le tn).err 5 = true ∧ tn ∈ (t.d.src 25).conds ∧
      t.d.fab.loops = s.d.fab.loops ∧ (∀ j, j ≠ tn → t.d.le j = s.d.le j) ∧ State.sameBut [.fab, .src, .flt, .fns, .views] s t) ∧
  (∀ (s : State) (tn t0 k : Nat), tn < 336 → (s.d.le tn).moveAt = some t0 → t0 + 5000 ≤ s.d.tb2 → s.d.clocked = true → s.d.spareOf tn = some k →
    s.d.sec.act = none → s.d.cal.run = none →
    ((s.d.le tn).back = false → (s.d.le tn).cause ≠ some .cal → (s.d.le tn).cause ≠ some .microcode →
      ∃ t, Machine.exec (.takeoverComplete tn) s = .next t ∧ t.d.leState k = .spareServing ∧
        t.d.leState tn = (if (s.d.le tn).state = some .failed then .failed else .lent) ∧ (t.d.le tn).moveAt = none ∧ tn ∉ (t.d.src 25).conds ∧
        t.d.fab.loops = s.d.fab.loops ∧ (∀ j, j ≠ tn → j ≠ k → t.d.le j = s.d.le j) ∧ State.sameBut [.fab, .src] s t) ∧
    ((s.d.le tn).back = true → (∀ j, j < 336 → s.d.leState j ≠ .unavailable) →
      ∃ t, Machine.exec (.takeoverComplete tn) s = .next t ∧ t.d.leState k = .spareIdle ∧ t.d.leState tn = .own ∧ (t.d.le tn).moveAt = none ∧
        (t.d.le tn).cause = none ∧ t.d.fab.loops = s.d.fab.loops ∧ (∀ j, j ≠ tn → j ≠ k → t.d.le j = s.d.le j) ∧ State.sameBut [.fab, .src] s t)) ∧
  -- LE_CTL (R114, R115, R128): SPARE_REQ of a tile with its own LE and a spare idle asks for a takeover, and otherwise is dropped with REQ_DROPPED
  -- and FS42; RETURN_REQ of a tile lent on request asks for its return.
  (∀ (s : State) (k : Nat) (v : Word), s.d.reach 0 = true → k < 336 →
    (bitOf v.toNat 0 = true → bitOf v.toNat 1 = false → s.d.leState k = .own → (s.d.le k).spareReq = false → (s.d.le k).pend = none →
      (s.d.idleSpare (tilePlane k)).isSome = true →
      ∃ t, Machine.exec (.spareReq 0 k v) s = .next t ∧
        t.d.le k = { s.d.le k with
          budget := fieldOf v.toNat 8 8, spareReq := true, cause := some .request, pend := some s.d.tb2, back := false } ∧
        (∀ j, j ≠ k → t.d.le j = s.d.le j) ∧ State.sameBut [.fab] s t) ∧
    (bitOf v.toNat 0 = true → bitOf v.toNat 1 = false →
      (s.d.leState k ≠ .own ∨ (s.d.le k).spareReq = false ∧ (s.d.idleSpare (tilePlane k) = none ∨ (s.d.le k).pend.isSome = true)) →
      ∃ t, Machine.exec (.spareReq 0 k v) s = .next t ∧
        t.d.le k = { s.d.le k with budget := fieldOf v.toNat 8 8, spareReq := false, err := (s.d.le k).err ||| 128 } ∧ (t.d.src 42).latched = true ∧
        (∀ j, j ≠ k → t.d.le j = s.d.le j) ∧ State.sameBut [.fab, .src, .flt, .fns, .views] s t) ∧
    (bitOf v.toNat 0 = false → bitOf v.toNat 1 = true → s.d.leState k = .lent → (s.d.le k).cause = some .request → (s.d.le k).pend = none →
      ∃ t, Machine.exec (.returnReq 0 k v) s = .next t ∧
        t.d.le k = { s.d.le k with budget := fieldOf v.toNat 8 8, returnReq := true, pend := some s.d.tb2, back := true } ∧
        (∀ j, j ≠ k → t.d.le j = s.d.le j) ∧ State.sameBut [.fab] s t))

/-- The loop parameter table (R120, R121, R124): a slew word that PF0 writes waits, and is in force from the first tick boundary 1 µs or more after
the write; a write of another function is ignored. Write-back refreshes the RO words of the tile's entries and changes nothing else. States that
these complete: lptWriteBack, lptWrite, parameterLoad. Choices of the model: log entry 57. -/
def Obligations.ParametersAreLoaded : Prop :=
  (∀ (s : State) (aa : Nat) (v : Word), s.d.reach 0 = true → s.d.pwr.phase ≠ .parked → aa < 131072 → aaHole aa = false → aaKind aa ≤ 1 →
    ∃ t x, Machine.exec (.lptWrite 0 (0x100000 + 64 * aa + 8) [v]) s = .next t ∧ t.d.fab.loads = s.d.fab.loads ++ [(s.d.tb2, .lpt aa 2 x)] ∧
      x % 65536 = v.toNat % 65536 ∧ (x / 65536 = if aaKind aa = 0 ∧ isVoaCa (aaCell aa) = true then v.toNat / 65536 else 0) ∧
      t.d.fab.loops = s.d.fab.loops ∧ t.d.fab.cells = s.d.fab.cells ∧ State.sameBut [.fab] s t) ∧
  (∀ (s : State) (f addr : Nat) (ws : List Word), s.d.reach f = true → f ≠ 0 →
    ∃ t, Machine.exec (.lptWrite f addr ws) s = .next t ∧ State.sameBut [] s t) ∧
  (∀ (s : State) (aa x at2 : Nat), s.d.clocked = true → s.d.tb2 % 10000 = 0 → s.d.fab.loads = [(at2, .lpt aa 2 x)] → at2 + 1000 ≤ s.d.tb2 →
    ∃ t, Machine.exec .parameterLoad s = .next t ∧ t.d.fab.loads = [] ∧
      t.d.loop aa = { s.d.loop aa with
        slewPh := x % 65536, slewDb := if isVoaCa (aaCell aa) then x / 65536 else (s.d.loop aa).slewDb } ∧
      (∀ b, b ≠ aa → t.d.loop b = s.d.loop b) ∧ t.d.fab.cells = s.d.fab.cells ∧ State.sameBut [.fab] s t) ∧
  (∀ (s : State) (tn : Nat), tn < 336 → s.d.tb2 / 10000 % 10 = tn % 10 → s.d.clocked = true → s.d.served tn = true → s.d.pwr.phase = .run →
    ∃ t, Machine.exec (.lptWriteBack tn) s = .next t ∧
      (∀ aa, t.d.loop aa = (if (∃ ca ∈ tileCells tn, aa ∈ heatersOf ca ++ [fAa ca]) then { s.d.loop aa with wb := s.d.lptNow s.net aa }
        else s.d.loop aa)) ∧
      t.d.fab.cells = s.d.fab.cells ∧ t.d.fab.les = s.d.fab.les ∧ State.sameBut [.fab] s t)

/-! ## Monitors and fast lanes (06) -/

/-- The regular window of the tick in course has ended with a result to come: the point is no hole, its lane is not in fast mode, its coefficients
and comparator entry are in force, and FS44 does not mark its results. -/
def Obl.tickResult (s : State) (m code : Nat) : Prop :=
  mpaHole m = false ∧ s.d.clocked = true ∧ s.d.pwr.phase = .run ∧ s.d.tb2 / 10000 * 10000 + 4000 ≤ s.d.tb2 ∧ code < 65536 ∧
  s.d.fastIn m (s.d.tb2 / 10000 * 10000) 3840 = false ∧ (s.d.mrt m).nAt ≤ s.d.tb2 / 10000 * 10000 ∧ (s.d.mrt m).oldCo = [] ∧
  s.d.reacting 44 (mpaCell m) = false ∧ s.d.calRange m (s.d.tb2 / 10000 * 10000) = none

/-- Results (R166 to R176, R180, R324): the corrected power, a new TAG and T_n stand in the table, OVER where the widest range clips; the range goes
up at 90 % of full scale and to the widest on a clip; a result in error is INVALID with the value kept, and FS44. A fast window writes a FAST
result, which no comparator judges. States that these complete: conversionResult. Choices of the model: log entries 5, 10, 64. -/
def Obligations.ResultsAreCorrected : Prop :=
  (∀ (s : State) (m code : Nat) (clip : Bool), Obl.tickResult s m code → (s.d.met m).next = [] →
    ∃ t, Machine.exec (.conversionResult m code false clip false) s = .next t ∧
      { t.d.mrt m with range := (s.d.mrt m).range, low := (s.d.mrt m).low } = { s.d.mrt m with
        value := codeValue (s.d.coeffs m) (s.d.mrt m).range code, tag := ((s.d.mrt m).tag + 1) % 64,
        flags := if clip ∧ (s.d.mrt m).range = 2 then 2 else 0, time := s.d.tb2 / 10000 * 10000 % 2 ^ 32, old := none,
        tick := some (s.d.tb2 / 10000 * 10000, codeValue (s.d.coeffs m) (s.d.mrt m).range code, clip && (s.d.mrt m).range == 2),
        nAt := s.d.tb2 / 10000 * 10000 + 1 } ∧
      ((s.d.met m).rng = 0 → s.d.frozen m = none →
        (clip = true → (t.d.mrt m).range = 2) ∧
        (clip = false → 58982 < code → (t.d.mrt m).range = (if (s.d.mrt m).range < 2 then (s.d.mrt m).range + 1 else
          if s.d.mon.dnCount = 0 then (s.d.mrt m).range - 1 else (s.d.mrt m).range)) ∧
        (clip = false → code ≤ 65 → 0 < (s.d.mrt m).range → (s.d.mrt m).low + 1 < s.d.mon.dnCount →
          (t.d.mrt m).range = (s.d.mrt m).range ∧ (t.d.mrt m).low = (s.d.mrt m).low + 1) ∧
        (clip = false → code ≤ 65 → 0 < (s.d.mrt m).range → s.d.mon.dnCount ≤ (s.d.mrt m).low + 1 →
          (t.d.mrt m).range = (s.d.mrt m).range - 1 ∧ (t.d.mrt m).low = 0)) ∧
      (s.d.metHeld s.net m = true → t.d.met m = { s.d.met m with count := 0 }) ∧
      (∀ x, x ≠ m → t.d.mrt x = s.d.mrt x ∧ t.d.met x = s.d.met x) ∧ State.sameBut [.mon] s t) ∧
  (∀ (s : State) (m code : Nat), Obl.tickResult s m code → (s.d.met m).next = [] →
    ∃ t, Machine.exec (.conversionResult m code false false true) s = .next t ∧ (t.d.mrt m).value = (s.d.mrt m).value ∧
      (t.d.mrt m).flags = 3 ∧ (t.d.mrt m).tag = ((s.d.mrt m).tag + 1) % 64 ∧ (t.d.met m).state = (s.d.met m).state ∧
        (t.d.met m).due = (s.d.met m).due ∧
      (t.d.src 44).latched = true ∧ (t.d.src 44).count = min ((s.d.src 44).count + 1) 65535 ∧ State.sameBut [.mon, .src, .flt, .fns, .views] s t) ∧
  (∀ (s : State) (m code p : Nat) (clip : Bool), mpaHole m = false → s.d.clocked = true → s.d.pwr.phase = .run → 1000 ≤ s.d.tb2 → code < 4096 →
    p = (s.d.tb2 / 1000 - 1) * 1000 → s.d.fastIn m p 960 = true → (s.d.mrt m).fAt ≤ p → (s.d.mrt m).oldCo = [] →
    s.d.reacting 44 (mpaCell m) = false → (s.d.met m).next = [] → s.d.fastStart m p + 512 ≤ p + 960 → s.d.waiting m = [] →
    ∃ t, Machine.exec (.conversionResult m code true clip false) s = .next t ∧
      { t.d.mrt m with range := (s.d.mrt m).range, low := (s.d.mrt m).low } = { s.d.mrt m with
        value := codeValue (s.d.coeffs m) (s.d.mrt m).range (16 * code), tag := ((s.d.mrt m).tag + 1) % 64,
        flags := if clip ∧ (s.d.mrt m).range = 2 then 2 else 1, time := s.d.fastStart m p % 2 ^ 32, old := none, fAt := p + 1 } ∧
      (t.d.met m).state = (s.d.met m).state ∧ (t.d.met m).due = (s.d.met m).due ∧ State.sameBut [.mon] s t)

/-- Window comparators and injected conversions (R178, R179, R182 to R186, R194). States that these complete: conversionResult, windowTransition,
go, cancel, injectedResult, metWrite. Choices of the model: log entries 63, 65. -/
def Obligations.WindowsAndInjections : Prop :=
  -- Window comparators (R178, R179, R182, R183): a VALID result beyond a limit, NQ + 1 times in a row, makes a transition due, and one inside the
  -- limits starts the count again; the transition changes STATE and writes one MON_WINDOW event with the deciding result. An entry that PF0 writes
  -- takes effect with a result 1 µs or more later.
  (∀ (s : State) (m code : Nat) (v : Int), Obl.tickResult s m code → (s.d.met m).next = [] → s.d.metHeld s.net m = false → (s.d.met m).en = true →
    (s.d.met m).broken = false → (s.d.met m).due = none → (s.d.met m).state = 0 → v = codeValue (s.d.coeffs m) (s.d.mrt m).range code →
    (floorDbm < v ∨ floorDbm < (s.d.met m).limit (s.d.met m).low) →
    (s.d.met m).limit (s.d.met m).low ≤ (s.d.met m).limit (s.d.met m).high →
    ∃ t, Machine.exec (.conversionResult m code false false false) s = .next t ∧
      (v < (s.d.met m).limit (s.d.met m).low → (s.d.met m).side = 1 → t.d.met m =
        (if (s.d.met m).nq ≤ (s.d.met m).count then
          { s.d.met m with count := 0, due := some (1, (t.d.mrt m).word, s.d.tb2 / 10000 * 10000 % 2 ^ 32) }
         else { s.d.met m with count := (s.d.met m).count + 1 })) ∧
      ((s.d.met m).limit (s.d.met m).high < v → (s.d.met m).side = 2 → t.d.met m =
        (if (s.d.met m).nq ≤ (s.d.met m).count then
          { s.d.met m with count := 0, due := some (2, (t.d.mrt m).word, s.d.tb2 / 10000 * 10000 % 2 ^ 32) }
         else { s.d.met m with count := (s.d.met m).count + 1 })) ∧
      ((s.d.met m).limit (s.d.met m).low ≤ v → v ≤ (s.d.met m).limit (s.d.met m).high → t.d.met m = { s.d.met m with count := 0 }) ∧
      State.sameBut [.mon] s t) ∧
  (∀ (s : State) (m new value time : Nat), (s.d.met m).due = some (new, value, time) → ((s.d.met m).state = 0 ∨ new = 0) →
    isVoaCa (mpaCell m) = false →
    (s.d.fn 0).evtActive = true → (s.d.fn 0).flrAt = none → (s.d.fn 0).evt.hasRoom = true →
    ∃ t later, Machine.exec (.windowTransition m) s = .next t ∧ t.d.met m = { s.d.met m with state := new, due := none, count := 0 } ∧
      t.d.io.out = later ++ Out.hostWrite ((s.d.fn 0).evt.base + 32 * (s.d.fn 0).evt.tail)
        (eventDws s.d.tb0 (m + (s.d.met m).state * 65536 + new * 262144) value time 0 1 (s.d.fn 0).evt.phase (s.d.fn 0).lostFlag
          (((s.d.fn 0).evtSeq + 1) % 65536)) :: s.d.io.out ∧
      bitOf ((t.d.view 0).leaf.get 0 (0x180 + 4 * (tileOf (mpaCell m) / 32))) (tileOf (mpaCell m) % 32) = true ∧
      (∀ x, x ≠ m → t.d.met x = s.d.met x) ∧ t.d.mon.mrt = s.d.mon.mrt ∧ State.sameBut [.mon, .fns, .views] s t) ∧
  (∀ (s : State) (m : Nat) (v : DWord), s.d.reach 0 = true → mpaHole m = false → s.d.pwr.phase ≠ .parked →
    (s.d.tile (tileOf (mpaCell m))).holdErr = false →
    ∃ t, Machine.exec (.metWrite 0 m v) s = .next t ∧
      t.d.met m = { s.d.met m with next := (s.d.met m).next ++ [(s.d.tb2, v.toNat % 2 ^ 32, v.toNat / 2 ^ 32)] } ∧ (∀ x, x ≠ m →
        t.d.met x = s.d.met x) ∧
      t.d.mon.mrt = s.d.mon.mrt ∧ State.sameBut [.mon] s t) ∧
  (∀ (s : State) (f m : Nat) (v : DWord), s.d.reach f = true → f ≠ 0 → ∃ t, Machine.exec (.metWrite f m v) s = .next t ∧ State.sameBut [] s t) ∧
  (∀ (s : State) (m code at2 w0 w1 : Nat), Obl.tickResult s m code → (s.d.met m).next = [(at2, w0, w1)] → at2 + 1000 ≤ s.d.tb2 →
    ∃ t, Machine.exec (.conversionResult m code false false false) s = .next t ∧ (t.d.met m).next = [] ∧ (t.d.met m).low = w0 % 65536 ∧
      (t.d.met m).high = w0 / 65536 % 65536 ∧ (t.d.met m).hyst = w1 / 65536 % 16 ∧ (t.d.met m).nq = w1 / 1048576 % 16 ∧
      (t.d.met m).en = bitOf w1 24 ∧ (t.d.met m).rel = bitOf w1 25 ∧ (t.d.met m).rng = w1 / 67108864 % 4 ∧
      State.sameBut [.mon, .src, .flt, .fns, .views] s t) ∧
  -- Injected conversions (R177, R184 to R186, R194): GO takes the slot's fields and waits for its trigger; CANCEL before the trigger's conversion
  -- sets NOT_DONE; the conversion's result, with a TAG of the slot's own, is the slot's alone: the point's table entry keeps its value.
  (∀ (s : State) (k : Nat) (v : Word), s.d.reach 0 = true → k < 8 → bitOf v.toNat 20 = true → (s.d.inj k).go = false →
    ∃ t, Machine.exec (.go 0 k v) s = .next t ∧ (∀ j, j ≠ k → t.d.inj j = s.d.inj j) ∧ t.d.mon.mrt = s.d.mon.mrt ∧
      (mpaHole (v.toNat % 65536) = false →
        t.d.inj k = { s.d.inj k with
          mpa := v.toNat % 65536, trig := fieldOf v.toNat 16 2, fast := bitOf v.toNat 18, go := true, triggered := fieldOf v.toNat 16 2 == 0,
          trigAt := s.d.tb2, done := (s.d.inj k).done && !bitOf v.toNat 22, displaced := (s.d.inj k).displaced && !bitOf v.toNat 23,
          notDone := (s.d.inj k).notDone && !bitOf v.toNat 24 } ∧ State.sameBut [.mon] s t) ∧
      (mpaHole (v.toNat % 65536) = true → (t.d.inj k).go = false ∧ (t.d.inj k).notDone = true ∧ bitOf ((t.d.view 0).leaf.get 0 0x1AC) k = true ∧
        State.sameBut [.mon, .views] s t)) ∧
  (∀ (s : State) (k : Nat) (v : Word), s.d.reach 0 = true → k < 8 → bitOf v.toNat 21 = true → (s.d.inj k).go = true → (s.d.inj k).triggered = false →
    ∃ t, Machine.exec (.cancel 0 k v) s = .next t ∧ (t.d.inj k).go = false ∧ (t.d.inj k).notDone = true ∧ (t.d.inj k).val = (s.d.inj k).val ∧
      bitOf ((t.d.view 0).leaf.get 0 0x1AC) k = true ∧ (∀ j, j ≠ k → t.d.inj j = s.d.inj j) ∧ t.d.mon.mrt = s.d.mon.mrt ∧
      State.sameBut [.mon, .views] s t) ∧
  (∀ (s : State) (k code t0 : Nat) (clip : Bool) (x : Inj), s.d.inj k = x → s.d.waiting x.mpa = [k] → s.d.injNext x.mpa = some (k, t0) →
    s.d.fastIn x.mpa s.d.tb2 1 = false → code ≤ (if x.fast then 4095 else 65535) → t0 + (if x.fast then 1000 else 4000) ≤ s.d.tb2 →
    ((s.d.mrt x.mpa).oldCo = [] ∨ (s.d.mrt x.mpa).coAt ≤ t0) → s.d.reacting 44 (mpaCell x.mpa) = false →
    ∃ t, Machine.exec (.injectedResult k code clip) s = .next t ∧
      t.d.inj k = { x with
        go := false, triggered := false, done := true, time := t0 % 2 ^ 32,
        val := twos (codeValue (s.d.coeffs x.mpa) (s.d.mrt x.mpa).range (if x.fast then 16 * code else code)) 24 +
          (x.val / 2 ^ 24 + 1) % 64 * 2 ^ 24 +
          (if clip ∧ (s.d.mrt x.mpa).range = 2 then 2 else if x.fast then 1 else 0) * 2 ^ 30 } ∧
      (∀ j, j ≠ k → t.d.inj j = s.d.inj j) ∧
      (∀ m, { t.d.mrt m with range := (s.d.mrt m).range, low := (s.d.mrt m).low } = s.d.mrt m) ∧ t.d.mon.met = s.d.mon.met ∧
      bitOf ((t.d.view 0).leaf.get 0 0x1AC) k = true ∧ State.sameBut [.mon, .views] s t)

/-- Claimed fast lanes (R187 to R192, R194): a free lane is claimed, a lane in the commit unit's use leaves the claim pending; ARM attaches the tap,
clears the buffer and waits for the trigger; a claim cleared aborts the capture; LENGTH samples complete it, each with its range, CLIP and the
trigger's mark, in the lane's buffer alone. States that these complete: claim, claimClear, arm, captureComplete. Choices of the model: log entries
66, 67. -/
def Obligations.LanesAreClaimed : Prop :=
  (∀ (s : State) (k : Nat) (v : Word), s.d.reach 0 = true → k < 128 → bitOf v.toNat 13 = true → bitOf v.toNat 16 = false → (s.d.fl k).claim = false →
    (s.d.fl k).arm = false → (s.d.fl k).bad = false →
    ∃ t, Machine.exec (.claim 0 k v) s = .next t ∧ (∀ j, j ≠ k → t.d.fl j = s.d.fl j) ∧ (t.d.fl k).claim = true ∧
      ((s.d.fl k).state = .free → (t.d.fl k).state = .claimed ∧ (t.d.fl k).claimPend = (s.d.fl k).claimPend) ∧
      ((s.d.fl k).state ∈ [FlSt.reserved, .verify] → (t.d.fl k).state = (s.d.fl k).state ∧ (t.d.fl k).claimPend = true ∧
        (t.d.fl k).att = (s.d.fl k).att) ∧
      (t.d.fl k).tap = v.toNat % 2048 ∧ (t.d.fl k).rangeSel = fieldOf v.toNat 11 2 ∧ (t.d.fl k).trig = fieldOf v.toNat 14 2 ∧
      (t.d.fl k).pre = fieldOf v.toNat 17 7 ∧ (t.d.fl k).len = fieldOf v.toNat 24 4 ∧ (t.d.fl k).seqTrig = fieldOf v.toNat 28 2 ∧
      State.sameBut [.mon] s t) ∧
  (∀ (s : State) (k : Nat) (v : Word), s.d.reach 0 = true → k < 128 → bitOf v.toNat 13 = false → (s.d.fl k).claim = true →
    (s.d.fl k).state ∈ [FlSt.claimed, .armed, .capturing, .done] → bitOf v.toNat 16 = false →
    ∃ t, Machine.exec (.claimClear 0 k v) s = .next t ∧ (t.d.fl k).claim = false ∧ (t.d.fl k).state = .free ∧ (t.d.fl k).att = none ∧
      (t.d.fl k).aborted = true ∧ (t.d.fl k).arm = false ∧
      (t.d.fl k).flags = (if (s.d.fl k).state ∈ [FlSt.armed, .capturing] then 3 else (s.d.fl k).flags) ∧ (∀ j, j ≠ k → t.d.fl j = s.d.fl j) ∧
      State.sameBut [.mon] s t) ∧
  (∀ (s : State) (k : Nat) (v : Word), s.d.reach 0 = true → k < 128 → bitOf v.toNat 13 = true → bitOf v.toNat 16 = true → (s.d.fl k).claim = true →
    (s.d.fl k).arm = false → (s.d.fl k).state ∈ [FlSt.claimed, .done] → 16 * fieldOf v.toNat 17 7 < 256 * (fieldOf v.toNat 24 4 + 1) →
    ((∀ j, j < 128 → j ≠ k → (s.d.fl j).state = .free) →
      ∃ t, Machine.exec (.arm 0 k v) s = .next t ∧
        (t.d.fl k).state = (if fieldOf v.toNat 14 2 = 0 then .capturing else .armed) ∧ (t.d.fl k).arm = true ∧ (t.d.fl k).armAt = s.d.tb2 ∧
        (fieldOf v.toNat 14 2 = 0 → (t.d.fl k).trigTime = s.d.tb2) ∧
        (t.d.fl k).att = some (mkMpa (outVoa (v.toNat / 1024 % 2) (v.toNat / 2 % 512)) (v.toNat % 2)) ∧ (t.d.fl k).flags = 3 ∧
        (∀ j, j ≠ k → t.d.fl j = s.d.fl j) ∧
        (∀ a, Memory.read t.mem.fcb a = (if a / 0x2000 = k then 0 else Memory.read s.mem.fcb a)) ∧ t.mem.pattern = s.mem.pattern ∧ t.net = s.net ∧
        t.isl = s.isl ∧ t.pending = s.pending ∧ Dev.sameBut [.mon] s.d t.d) ∧
    ((∃ j, j < 128 ∧ j ≠ k ∧ (s.d.fl j).state ≠ .free ∧
        (s.d.fl j).att = some (mkMpa (outVoa (v.toNat / 1024 % 2) (v.toNat / 2 % 512)) (v.toNat % 2))) →
      ∃ t, Machine.exec (.arm 0 k v) s = .next t ∧ (t.d.fl k).state = (s.d.fl k).state ∧ (t.d.fl k).tapBusy = true ∧ (t.d.fl k).arm = false ∧
        (∀ j, j ≠ k → t.d.fl j = s.d.fl j) ∧ State.sameBut [.mon] s t)) ∧
  (∀ (s : State) (k m e : Nat) (ws : List (BitVec 12)), (s.d.fl k).att = some m → (s.d.fl k).state = .capturing → s.d.clocked = true →
    (s.d.fl k).trigTime + 4 * ((s.d.fl k).length - (s.d.fl k).preN) ≤ s.d.tb2 → (s.d.fl k).preN ≤ (s.d.fl k).length →
    (s.d.fl k).preGot = (s.d.fl k).preN → ws.length = (s.d.fl k).length → (s.d.fl k).range < 4 →
    ∃ t, Machine.exec (.captureComplete k ws e) s = .next t ∧ (t.d.fl k).state = .done ∧ (t.d.fl k).arm = false ∧
      (t.d.fl k).tag = ((s.d.fl k).tag + 1) % 64 ∧ (t.d.fl k).flags = (if ∃ c ∈ ws, c = 4095 then 2 else 0) ∧
      (t.d.fl k).wrPtr = (s.d.fl k).length - 1 ∧ (∀ j, j ≠ k → t.d.fl j = s.d.fl j) ∧
      bitOf ((t.d.view 0).leaf.get 0 (0x1B0 + 4 * (k / 32))) (k % 32) = true ∧
      (∀ j, j < (s.d.fl k).length → Memory.readNat t.mem.fcb (0x2000 * k + 2 * j) 2 =
        (ws.getD j 0).toNat + (s.d.fl k).range * 4096 + (if ws.getD j 0 = 4095 then 16384 else 0) + (if j = (s.d.fl k).preN then 32768 else 0)) ∧
      (∀ a, a < 0x2000 * k ∨ 0x2000 * k + 2 * (s.d.fl k).length ≤ a → Memory.read t.mem.fcb a = Memory.read s.mem.fcb a) ∧
      t.mem.pattern = s.mem.pattern ∧ t.net = s.net ∧ t.isl = s.isl ∧ t.pending = s.pending ∧ Dev.sameBut [.mon, .views] s.d t.d)

/-! ## Drives and the sequencer (07) -/

/-- Shapes, tones and drive faults (R202, R204, R205, R207, R208, R323, R324). States that these complete: shapeLoad, shapeLoadComplete, toneApply,
tonePlanChange, ditherAmplitudeChange, driveFault. Choices of the model: log entries 68, 69, 70. -/
def Obligations.DriversAndTheirFaults : Prop :=
  -- Shapes, tones, dither (R202, R205, R207, R208): a shape load copies 512 signed samples into the inactive bank, which becomes active; one of an
  -- active or wrongly sized segment is dropped with FS54. A plan of 32 distinct tones from 20 to 60 kHz waits, as it was checked, for its TB2
  -- millisecond and then is in force, with the demodulators started anew; any other is rejected with FS55. A change of amplitude comes at the
  -- tone's zero crossing.
  (∀ (s : State) (v : Word), s.d.reach 0 = true → bitOf v.toNat 0 = true → bitOf v.toNat 7 = false →
    (s.d.drv.shapeLoad = false → s.d.segActive (fieldOf v.toNat 1 6) = false → (s.d.seq.desc (fieldOf v.toNat 1 6)).len = 63 →
      ∃ t, Machine.exec (.shapeLoad 0 v) s = .next t ∧ t.d.drv = { s.d.drv with
        shapeLoad := true, copySeg := fieldOf v.toNat 1 6, shapeSeg := fieldOf v.toNat 1 6 } ∧
        State.sameBut [.drv] s t) ∧
    (s.d.drv.shapeLoad = true ∨ s.d.segActive (fieldOf v.toNat 1 6) = true ∨ (s.d.seq.desc (fieldOf v.toNat 1 6)).len ≠ 63 →
      ∃ t, Machine.exec (.shapeLoad 0 v) s = .next t ∧ t.d.drv = { s.d.drv with shapeSeg := fieldOf v.toNat 1 6, err := s.d.drv.err ||| 16 } ∧
        (t.d.src 54).latched = true ∧
        State.sameBut [.drv, .src, .flt, .fns, .views] s t)) ∧
  (∀ (s : State), s.d.drv.shapeLoad = true →
    ∃ t l, Machine.exec .shapeLoadComplete s = .next t ∧ l.length = 512 ∧
      (∀ k, k < 512 → l.getD k 0 = signedOf (Memory.read s.mem.pattern (8 * (s.d.seq.desc s.d.drv.copySeg).base + k)).toNat 8) ∧
      t.d.drv = (if s.d.drv.bank then { s.d.drv with shapeLoad := false, bank := false, bankA := some l }
        else { s.d.drv with shapeLoad := false, bank := true, bankB := some l }) ∧ State.sameBut [.drv] s t) ∧
  (∀ (s : State) (v : Word), s.d.reach 0 = true → bitOf v.toNat 7 = true → bitOf v.toNat 0 = false →
    ((∀ k, k < 32 → 20 ≤ s.d.toneSet k ∧ s.d.toneSet k ≤ 60 ∧ ∀ j, j < k → s.d.toneSet j ≠ s.d.toneSet k) →
      ∃ t n, Machine.exec (.toneApply 0 v) s = .next t ∧
        t.d.drv = { s.d.drv with shapeSeg := fieldOf v.toNat 1 6, toneApply := true, toneNew := s.d.drv.tone, toneAt := n } ∧ n % 1000000 = 0 ∧
          s.d.tb2 + 1000 ≤ n ∧
        n < s.d.tb2 + 1001000 ∧ State.sameBut [.drv] s t) ∧
    ((∃ k, k < 32 ∧ (s.d.toneSet k < 20 ∨ 60 < s.d.toneSet k ∨ ∃ j, j < k ∧ s.d.toneSet j = s.d.toneSet k)) →
      ∃ t, Machine.exec (.toneApply 0 v) s = .next t ∧
        t.d.drv = { s.d.drv with shapeSeg := fieldOf v.toNat 1 6, err := s.d.drv.err ||| 32 } ∧ (t.d.src 55).latched = true ∧
        State.sameBut [.drv, .src, .flt, .fns, .views] s t)) ∧
  (∀ (s : State), s.d.drv.toneApply = true → s.d.drv.toneAt ≤ s.d.tb2 → Tab.wf {} s.d.fab.cells = true → Tab.wf {} s.d.fab.loops = true →
    ∃ t, Machine.exec .tonePlanChange s = .next t ∧
      t.d.drv = { s.d.drv with toneApply := false, toneOn := s.d.drv.toneNew, toneNew := [], demodAt := s.d.drv.toneAt + 1000000 } ∧
      (∀ ca, t.d.cell ca = { s.d.cell ca with demod := [] }) ∧
      (∀ aa, t.d.loop aa = { s.d.loop aa with
        ap := if (s.d.loop aa).dither then t.d.ditherPower aa (s.d.loop aa).ampl else (s.d.loop aa).ap }) ∧ State.sameBut [.drv, .fab] s t) ∧
  (∀ (s : State) (aa a : Nat), (s.d.loop aa).amplNext = some a → s.d.clocked = true → s.d.tb2 % 8 = 0 → Tab.wf {} s.d.fab.loops = true →
    s.d.toneNow ((hpTone (aaCell aa) + aaKind aa) % 32) * (s.d.tb2 % 1000000 / 8) % 62500 < s.d.toneNow ((hpTone (aaCell aa) + aaKind aa) % 32) →
    ∃ t, Machine.exec (.ditherAmplitudeChange aa) s = .next t ∧
      t.d.loop aa = { s.d.loop aa with
        amplNext := none, dither := a != 0, ampl := if a = 0 then (s.d.loop aa).ampl else a, ap := s.d.ditherPower aa a,
        clamped := (t.d.loop aa).clamped } ∧
      (∀ b, b ≠ aa → t.d.loop b = { s.d.loop b with clamped := (t.d.loop b).clamped }) ∧ t.d.fab.cells = s.d.fab.cells ∧
      State.sameBut [.fab, .drv] s t) ∧
  -- Drive faults (R204, R323, R324): an open or shorted heater is FS30 or FS31 of its cell, and an overcurrent FS32; the drivers concerned are
  -- high-impedance from then on, the loops keep their values, and a switch cell and its twin are constrained to the state they hold.
  (∀ (s : State) (k aa : Nat), s.d.drv.armed = true → aaHole aa = false → (k ≤ 1 ∧ aaKind aa ≤ 1 ∨ k = 2 ∧ aaKind aa = 2) →
    aaCell aa ∉ (s.d.src (30 + k)).conds →
    ∃ t, Machine.exec (.driveFault k aa) s = .next t ∧ t.d.drv = { s.d.drv with err := s.d.drv.err ||| 2 ^ k } ∧
      (t.d.src (30 + k)).latched = true ∧ (t.d.src (30 + k)).count = min ((s.d.src (30 + k)).count + 1) 65535 ∧
      (k ≤ 1 → (t.d.cell (aaCell aa)).hzH = true) ∧ (k = 2 → (t.d.cell (aaCell aa)).hzF = true) ∧
      (isSwitchCa (aaCell aa) = true → s.net.swOf (aaCell aa) = .bar → t.d.cons (aaCell aa) = .forcedBar) ∧
      (isSwitchCa (aaCell aa) = true → s.net.swOf (aaCell aa) = .cross → t.d.cons (aaCell aa) = .forcedCross) ∧
      (∀ x, planeACa x ≠ planeACa (aaCell aa) → t.d.cell x = s.d.cell x ∧ t.d.cons x = s.d.cons x) ∧ t.d.fab.loops = s.d.fab.loops ∧
      State.sameBut [.drv, .src, .flt, .fns, .views, .fab] s t)

/-- Playback (R212 to R214, R217, R219): RUN starts at START_SEG at once or waits for its trigger; samples and iterations follow one another without
a gap, the lanes taking each sample's words; a jump pending at the decision point wins over LOOP and END, and a STOP over the jump; a segment not
filled, or one that a SEQ_LOAD writes, makes playback wait and counts an underrun. States that these complete: run, stop, jump, sampleBoundary,
iterationBoundary, segmentReady. Choices of the model: log entry 71. -/
def Obligations.SequencerPlays : Prop :=
  (∀ (s : State) (v : Word) (x : Desc), s.d.reach 0 = true → bitOf v.toNat 0 = true → bitOf v.toNat 1 = false → s.d.seq.ownerCal = false →
    s.d.seq.state = .stopped → x = s.d.seq.desc (fieldOf v.toNat 4 6) →
    (fieldOf v.toNat 10 2 = 0 → x.valid = true → s.d.segReady (fieldOf v.toNat 4 6) = true → x.trig = 0 → 0 < x.len → Tab.wf {} s.d.mon.fl = true →
      ∃ t, Machine.exec (.run 0 v) s = .next t ∧ t.d.seq.state = .running ∧ t.d.seq.seg = fieldOf v.toNat 4 6 ∧ t.d.seq.iter = 0 ∧
        t.d.seq.sample = 0 ∧
        t.d.seq.sampleAt = s.d.tb2 + s.d.tb2 % 2 ∧ t.d.seq.next = .undecided ∧ t.d.seq.under = 0 ∧
        t.d.seq.err = s.d.seq.err &&& (0xFFFFFFFF ^^^ 0xA) ∧ t.d.seq.tsAct = (if x.tsEn then x.ts else s.d.seq.tsAct) ∧
        (∀ l, l < 4 → t.d.lane l = loadLane (Memory.readNat s.mem.pattern (8 * x.base + 2 * l) 2) (s.d.tb2 + s.d.tb2 % 2) (s.d.lane l)) ∧
        State.sameBut [.seq] s t) ∧
    ((fieldOf v.toNat 10 2 = 1 ∨ fieldOf v.toNat 10 2 = 2) →
      ∃ t, Machine.exec (.run 0 v) s = .next t ∧ t.d.seq.state = .waitTrig ∧ t.d.seq.seg = fieldOf v.toNat 4 6 ∧ t.d.seq.iter = 0 ∧
        t.d.seq.lanes = s.d.seq.lanes ∧
        State.sameBut [.seq] s t) ∧
    (fieldOf v.toNat 10 2 = 0 → x.valid = false →
      ∃ t, Machine.exec (.run 0 v) s = .next t ∧ t.d.seq.state = .stopped ∧ bitOf t.d.seq.err 5 = true ∧ (t.d.src 52).latched = true ∧
        t.d.seq.lanes = s.d.seq.lanes ∧ State.sameBut [.seq, .src, .flt, .fns, .views] s t)) ∧
  (∀ (s : State) (v : Word), s.d.reach 0 = true → bitOf v.toNat 1 = true → bitOf v.toNat 0 = false →
    (s.d.seq.state = .running →
      ∃ t, Machine.exec (.stop 0 v) s = .next t ∧ t.d.seq = { s.d.seq with
        stopMode := bitOf v.toNat 2, jumpSyncin := bitOf v.toNat 3, startSeg := fieldOf v.toNat 4 6, startTrig := fieldOf v.toNat 10 2,
        stopPend := true } ∧ State.sameBut [.seq] s t) ∧
    (s.d.seq.state ∈ [SeqSt.waitTrig, .underrun] →
      ∃ t, Machine.exec (.stop 0 v) s = .next t ∧ t.d.seq.state = .stopped ∧ t.d.seq.lanes = s.d.seq.lanes ∧
        bitOf ((t.d.view 0).leaf.get 0 0x1C8) 8 = true ∧ State.sameBut [.seq, .views] s t)) ∧
  (∀ (s : State) (v : Word), s.d.reach 0 = true → bitOf v.toNat 8 = true →
    (s.d.seq.ownerCal = false → (s.d.seq.state ≠ .running ∨ s.d.seq.next = .undecided) →
      ∃ t, Machine.exec (.jump 0 v) s = .next t ∧ t.d.seq = { s.d.seq with target := v.toNat % 64, jumpPend := true, jumpTaken := false } ∧
        State.sameBut [.seq] s t) ∧
    (s.d.seq.ownerCal = false → s.d.seq.state = .running → s.d.seq.next ≠ .undecided →
      ∃ t, Machine.exec (.jump 0 v) s = .next t ∧
        t.d.seq = { s.d.seq with target := v.toNat % 64, jumpPend := true, jumpTaken := false, err := s.d.seq.err ||| 2 } ∧
        bitOf ((t.d.view 0).leaf.get 0 0x1C8) 1 = true ∧ State.sameBut [.seq, .views] s t) ∧
    (s.d.seq.ownerCal = true →
      ∃ t, Machine.exec (.jump 0 v) s = .next t ∧ t.d.seq = { s.d.seq with err := s.d.seq.err ||| 64 } ∧ State.sameBut [.seq, .views] s t)) ∧
  (∀ (s : State) (x : Desc), s.d.seq.state = .running → x = s.d.seq.desc s.d.seq.seg → s.d.seq.sample < x.len → s.d.seq.sampleAt + x.dur ≤ s.d.tb2 →
    (s.d.seq.stopPend = false →
      ∃ t, Machine.exec .sampleBoundary s = .next t ∧ t.d.seq.sample = s.d.seq.sample + 1 ∧ t.d.seq.sampleAt = s.d.seq.sampleAt + x.dur ∧
        (∀ l, l < 4 → t.d.lane l =
          loadLane (Memory.readNat s.mem.pattern (8 * (x.base + s.d.seq.sample + 1) + 2 * l) 2) (s.d.seq.sampleAt + x.dur) (s.d.lane l)) ∧
        (s.d.seq.sample + 1 = x.len → s.d.seq.jumpPend = true → t.d.seq.next = .go s.d.seq.target) ∧
        (s.d.seq.sample + 1 = x.len → s.d.seq.jumpPend = false → t.d.seq.next =
          (if x.loop = 255 ∨ s.d.seq.iter < x.loop then .again else if x.endB then .stop else .go x.next)) ∧ State.sameBut [.seq] s t) ∧
    (s.d.seq.stopPend = true → s.d.seq.stopMode = false →
      ∃ t, Machine.exec .sampleBoundary s = .next t ∧ t.d.seq.state = .stopped ∧ t.d.seq.lanes = s.d.seq.lanes ∧ State.sameBut [.seq, .views] s t)) ∧
  (∀ (s : State) (x : Desc), s.d.seq.state = .running → x = s.d.seq.desc s.d.seq.seg → x.len ≤ s.d.seq.sample → s.d.seq.sampleAt + x.dur ≤ s.d.tb2 →
    (s.d.seq.stopPend = true →
      ∃ t, Machine.exec .iterationBoundary s = .next t ∧ t.d.seq.state = .stopped ∧ t.d.seq.jumpPend = s.d.seq.jumpPend ∧
        t.d.seq.lanes = s.d.seq.lanes ∧ State.sameBut [.seq, .views] s t) ∧
    (s.d.seq.stopPend = false → s.d.seq.next = .again → x.trig = 0 → Tab.wf {} s.d.mon.fl = true →
      ∃ t, Machine.exec .iterationBoundary s = .next t ∧ t.d.seq.state = .running ∧ t.d.seq.seg = s.d.seq.seg ∧
        t.d.seq.iter = min (s.d.seq.iter + 1) 255 ∧ t.d.seq.sample = 0 ∧ t.d.seq.sampleAt = s.d.seq.sampleAt + x.dur ∧ State.sameBut [.seq] s t) ∧
    (∀ (g : Nat) (y : Desc), s.d.seq.stopPend = false → s.d.seq.next = .go g → y = s.d.seq.desc g → y.valid = true →
      (y.refill = false → (∀ z ∈ s.d.seq.loads, z.seg ≠ g) → y.trig = 0 → Tab.wf {} s.d.mon.fl = true →
        ∃ t, Machine.exec .iterationBoundary s = .next t ∧ t.d.seq.state = .running ∧ t.d.seq.seg = g ∧ t.d.seq.iter = 0 ∧ t.d.seq.sample = 0 ∧
          t.d.seq.sampleAt = s.d.seq.sampleAt + x.dur ∧ (s.d.seq.jumpTaken = true → t.d.seq.jumpPend = false) ∧
          (∀ l, l < 4 → t.d.lane l =
            loadLane (Memory.readNat s.mem.pattern (8 * y.base + 2 * l) 2) (s.d.seq.sampleAt + x.dur) (s.d.lane l)) ∧ State.sameBut [.seq] s t) ∧
      (y.refill = true ∧ g ∉ s.d.seq.fill ∧ s.d.seq.rfStop = false ∨ y.refill = false ∧ (∃ z ∈ s.d.seq.loads, z.seg = g) →
        ∃ t, Machine.exec .iterationBoundary s = .next t ∧ t.d.seq.state = .underrun ∧ t.d.seq.seg = g ∧
          t.d.seq.under = min (s.d.seq.under + 1) 4294967295 ∧ bitOf t.d.seq.err 2 = true ∧ bitOf t.d.seq.err 3 = true ∧
          t.d.seq.lanes = s.d.seq.lanes ∧ t.d.seq.tsAct = s.d.seq.tsAct ∧ State.sameBut [.seq, .views] s t)) ∧
    (s.d.seq.stopPend = false → s.d.seq.next = .stop →
      ∃ t, Machine.exec .iterationBoundary s = .next t ∧ t.d.seq.state = .stopped ∧ t.d.seq.lanes = s.d.seq.lanes ∧
        State.sameBut [.seq, .views] s t)) ∧
  (∀ (s : State) (x : Desc), s.d.seq.state = .underrun → x = s.d.seq.desc s.d.seq.seg → s.d.segReady s.d.seq.seg = true → s.d.seq.readyAt < s.d.tb2 →
    x.trig = 0 → Tab.wf {} s.d.mon.fl = true →
    ∃ t, Machine.exec .segmentReady s = .next t ∧ t.d.seq.state = .running ∧ t.d.seq.seg = s.d.seq.seg ∧ t.d.seq.sample = 0 ∧
      t.d.seq.sampleAt = s.d.tb2 + s.d.tb2 % 2 ∧ t.d.seq.under = s.d.seq.under ∧ State.sameBut [.seq] s t)

/-- Bindings, refill, pattern memory and triggers (R209, R211, R213, R216 to R218): a lane is bound to an unlit, unused and free actuator, and else
refused; unbound at a tick boundary it leaves its value with the heater's loops, or F at 0. Pattern memory takes a write of a segment that is not
active, and none of a refill segment while refill is enabled; the refill fills the segment that the link chain reaches first, neither active nor
filled. States that these complete: seqBind, unbind, refillEnable, segmentFilled, patternWrite, syncin, syncPulseEnd. Choices of the model: log
entries 71, 119. -/
def Obligations.SequencerIsFedAndBound : Prop :=
  (∀ (s : State) (l : Nat) (v : Word), s.d.reach 0 = true → l < 4 → s.d.seq.ownerCal = false → (s.d.lane l).en = false → (s.d.lane l).bound = false →
    bitOf v.toNat 17 = true →
    (aaHole (v.toNat % 2 ^ 17) = false → lit s.net s.d (aaCell (v.toNat % 2 ^ 17)) = false → s.net.used (aaCell (v.toNat % 2 ^ 17)) = false →
      (∀ k, k < 16 → (s.d.slot k).state = .free) →
      (∀ j, j < 4 → j ≠ l → (s.d.lane j).bound = false ∨ (s.d.lane j).aa ≠ v.toNat % 2 ^ 17) →
      ∃ t, Machine.exec (.seqBind 0 l v) s = .next t ∧ t.d.lane l = { aa := v.toNat % 2 ^ 17, en := true, bound := true, at2 := s.d.tb2 } ∧
        (∀ j, j ≠ l → t.d.lane j = s.d.lane j) ∧ t.d.seq.err = s.d.seq.err ∧ State.sameBut [.seq] s t) ∧
    (aaHole (v.toNat % 2 ^ 17) = true ∨ lit s.net s.d (aaCell (v.toNat % 2 ^ 17)) = true ∨ s.net.used (aaCell (v.toNat % 2 ^ 17)) = true ∨
        (∃ j, j < 4 ∧ j ≠ l ∧ (s.d.lane j).bound = true ∧ (s.d.lane j).aa = v.toNat % 2 ^ 17) →
      ∃ t, Machine.exec (.seqBind 0 l v) s = .next t ∧ (t.d.lane l).bound = false ∧ (t.d.lane l).en = false ∧
        t.d.seq.err = s.d.seq.err ||| 16 ∧ bitOf ((t.d.view 0).leaf.get 0 0x1C8) 4 = true ∧ State.sameBut [.seq, .views] s t)) ∧
  (∀ (s : State) (l : Nat), l < 4 → (s.d.lane l).bound = true → (s.d.lane l).en = false → (s.d.lane l).offAt < s.d.tb2 → s.d.tb2 % 10000 = 0 →
    (∀ j, j < 4 → j ≠ l → (s.d.lane j).bound = false) →
    ∃ t, Machine.exec (.unbind l) s = .next t ∧ t.d.lane l = { s.d.lane l with bound := false } ∧ (∀ j, j ≠ l → t.d.lane j = s.d.lane j) ∧
      (aaKind (s.d.lane l).aa = 2 → (t.d.cell (aaCell (s.d.lane l).aa)).f = 0) ∧
      (aaKind (s.d.lane l).aa ≠ 2 → (s.d.lane l).aa ∈ heatersOf (aaCell (s.d.lane l).aa) →
        (t.d.loop (s.d.lane l).aa).u = lanePower (s.d.lane l).value ∧
        t.d.fab.cells = s.d.fab.cells) ∧
      (∀ aa ∈ heatersOf (aaCell (s.d.lane l).aa), (t.d.loop aa).preset = 1) ∧
      (∀ aa, aaCell aa ≠ aaCell (s.d.lane l).aa → t.d.loop aa = s.d.loop aa) ∧ State.sameBut [.seq, .fab] s t) ∧
  (∀ (s : State) (v : Word), s.d.reach 0 = true → bitOf v.toNat 0 = true → s.d.seq.rfEn = false →
    ∃ t, Machine.exec (.refillEnable 0 v) s = .next t ∧
      t.d.seq = { s.d.seq with rfEn := true, rfWrap := bitOf v.toNat 1, rfPos := 0, rfStop := false } ∧ State.sameBut [.seq] s t) ∧
  (∀ (s : State) (g : Nat) (ws : List DWord) (x : Desc), x = s.d.seq.desc g → s.d.refillNext = some g →
    (∀ j, j ≤ x.len → s.d.activeAt (x.base + j) = false) → ws.length = x.len + 1 → s.d.seq.rfPos + x.len + 1 < s.d.seq.rfLen →
    ∃ t, Machine.exec (.segmentFilled g ws) s = .next t ∧
      t.d.seq = { s.d.seq with fill := g :: s.d.seq.fill, readyAt := s.d.tb2, rfPos := s.d.seq.rfPos + x.len + 1 } ∧
      (∀ j, j ≤ x.len → Memory.readNat t.mem.pattern (8 * (x.base + j)) 8 = (ws.getD j 0).toNat) ∧
      (∀ a, a < 8 * x.base ∨ 8 * (x.base + x.len + 1) ≤ a → Memory.read t.mem.pattern a = Memory.read s.mem.pattern a) ∧
      t.mem.fcb = s.mem.fcb ∧ t.net = s.net ∧ t.isl = s.isl ∧ t.pending = s.pending ∧ Dev.sameBut [.seq] s.d t.d) ∧
  (∀ (s : State) (x : Nat) (v : DWord), s.d.reach 0 = true → x < 131072 →
    (s.d.activeAt x = false → s.d.refillOnly x = true →
      ∃ t, Machine.exec (.patternWrite 0 false (8 * x) 8 v) s = .next t ∧ State.sameBut [] s t) ∧
    (s.d.activeAt x = false → s.d.refillOnly x = false →
      ∃ t, Machine.exec (.patternWrite 0 false (8 * x) 8 v) s = .next t ∧ Memory.readNat t.mem.pattern (8 * x) 8 = v.toNat ∧
        (∀ a, a < 8 * x ∨ 8 * x + 8 ≤ a → Memory.read t.mem.pattern a = Memory.read s.mem.pattern a) ∧ t.mem.fcb = s.mem.fcb ∧ t.net = s.net ∧
        t.isl = s.isl ∧ t.pending = s.pending ∧ Dev.sameBut [] s.d t.d) ∧
    (s.d.activeAt x = true →
      ∃ t, Machine.exec (.patternWrite 0 false (8 * x) 8 v) s = .next t ∧
        t.d.seq = { s.d.seq with errAddr := 0x400000 + x, err := s.d.seq.err ||| 1 } ∧
        bitOf ((t.d.view 0).leaf.get 0 0x1C8) 0 = true ∧ State.sameBut [.seq, .views] s t)) ∧
  (∀ (s : State), s.d.clocked = true → s.d.seq.jumpSyncin = true → s.d.seq.ownerCal = false → s.d.seq.state = .running → s.d.seq.next = .undecided →
    Tab.wf {} s.d.mon.inj = true → Tab.wf {} s.d.mon.fl = true →
    ∃ t, Machine.exec .syncin s = .next t ∧ t.d.seq = { s.d.seq with jumpPend := true, jumpTaken := false } ∧
      (∀ k, t.d.inj k = (if (s.d.inj k).go = true ∧ (s.d.inj k).triggered = false ∧ (s.d.inj k).trig = 1 then
        { s.d.inj k with triggered := true, trigAt := s.d.tb2 } else s.d.inj k)) ∧
      (∀ k, ((s.d.fl k).state = .armed ∧ (s.d.fl k).trig = 1 → (t.d.fl k).state = .capturing ∧ (t.d.fl k).trigTime = s.d.tb2) ∧
        (¬((s.d.fl k).state = .armed ∧ (s.d.fl k).trig = 1) → t.d.fl k = s.d.fl k)) ∧ State.sameBut [.seq, .mon] s t) ∧
  (∀ (s : State) (x e : Nat), (s.d.seq.sync.get {} x).endAt = some e → e ≤ s.d.tb2 →
    ∃ t later, Machine.exec (.syncPulseEnd x) s = .next t ∧
      t.d.io.out = later ++ Out.pin ("SYNC" ++ toString x) (s.d.seq.sync.get {} x).inv :: s.d.io.out ∧
      t.d.seq.sync.get {} x = { s.d.seq.sync.get {} x with endAt := none } ∧ State.sameBut [.seq] s t)

/-! ## Calibration (08) -/

/-- A tile whose window has ended, with every element that the whole window shows not to be as assumed marked by its reason (R237). -/
def Obl.judgedTile (r : CalRun) (x : CalTile) : CalTile := (x.elems r).foldl (fun t e => t.fail e (t.windowCond e)) x

/-- How a tile is calibrated (R228, R233 to R237): the next tile in line asks for a spare that no other has asked for; at the end of W1 its
estimates are kept; at the end of W2 every element whose estimates are as assumed and agree has a new delta. A window lasts until its sweeps have
ended. A BIAS estimate pair agrees within TOL_PH, and its delta is the mean less the factory value in 2^-16 turn; an element that was not as assumed
is reported with its reason. A tile that waits too long for a spare is reported with reason 7, as are those of its plane after it. In service the
coefficients of a tile follow its sensor, and no applied command moves. States that these complete: calTileStart, calWindowEnd, spareWaitTimeout,
interpolation. Choices of the model: log entries 72, 73, 121. -/
def Obligations.CalibrationMeasures : Prop :=
  (∀ (s : State) (r : CalRun) (tn : Nat) (rest : List Nat), s.d.cal.run = some r → r.todo = tn :: rest → s.d.injIn tn = false →
    s.d.spareLeft (tilePlane tn) = true → s.d.leState tn = .own → (s.d.le tn).pend = none → s.d.sec.restart = none → s.d.pwr.phase = .run →
    s.d.clocked = true →
    ∃ t, Machine.exec (.calTileStart tn) s = .next t ∧
      t.d.cal = { s.d.cal with run := some { r with
        todo := rest, waitFrom := s.d.tb2,
        active := r.active ++ [{ tn := tn, step := 2, t0 := s.d.tb2, win := s.d.cal.win, tolPh := s.d.cal.tolPh, tolSlope := s.d.cal.tolSlope,
                                 tolDb := s.d.cal.tolDb, tolR := s.d.cal.tolR }] } } ∧
      t.d.le tn = { s.d.le tn with cause := some .cal, pend := some s.d.tb2, back := false } ∧ (∀ k, k ≠ tn → t.d.le k = s.d.le k) ∧
      t.d.fab.loops = s.d.fab.loops ∧ State.sameBut [.cal, .fab] s t) ∧
  (∀ (s : State) (r : CalRun) (x : CalTile) (ms : List CalMeas), s.d.cal.run = some r → r.active = [x] → x.step = 3 →
    x.t0 + 10000000 * x.win ≤ s.d.tb2 → s.d.clocked = true → (bitOf r.kinds 5 = true → x.swept = true) → x.measured r ms = true →
    ∃ t y, Machine.exec (.calWindowEnd x.tn ms) s = .next t ∧ t.d.cal = { s.d.cal with run := some { r with active := [y] } } ∧ y.step = 4 ∧
      y.tn = x.tn ∧ x.t0 + 10000000 * x.win ≤ y.t0 ∧ y.w1 = x.now ∧ y.now = [] ∧ y.bad = (Obl.judgedTile r x).bad ∧
      (∀ e ∈ x.elems r, ∀ a ∈ estAddrs e.1 e.2, y.est.get none (statKey e.1 a) = s.d.estimate s.net x ms e.1 a) ∧
      State.sameBut [.cal] s t) ∧
  (∀ (s : State) (r : CalRun) (x : CalTile) (ms : List CalMeas), s.d.cal.run = some r → r.active = [x] → x.step = 4 →
    x.accepted = [] → x.t0 + 10000000 * x.win ≤ s.d.tb2 → s.d.clocked = true → (bitOf r.kinds 5 = true → x.swept = true) → x.measured r ms = true →
    ∃ t r' y, Machine.exec (.calWindowEnd x.tn ms) s = .next t ∧ t.d.cal.run = some r' ∧ r'.active = [y] ∧ y.step = 5 ∧ y.tn = x.tn ∧
      (∀ k a v, (k, a, v) ∈ y.accepted ↔ (k, a) ∈ x.elems r ∧ s.d.evalElem s.net (Obl.judgedTile r x) ms (k, a) = .ok v) ∧
      t.d.cal.delta = s.d.cal.delta ∧ (∀ ca ∈ tileCells x.tn, (t.d.cell ca).cal = false) ∧
      (∀ ca ∈ tileCells x.tn, (s.d.cell ca).cal = true → ∀ aa ∈ heatersOf ca, (s.d.loop aa).mode = 4 →
        (t.d.loop aa).mode = (s.d.loop aa).prevMode.getD 5 ∧ (t.d.loop aa).preset = 1) ∧ State.sameBut [.cal, .fab] s t) ∧
  (∀ (s : State) (x : CalTile) (ms : List CalMeas) (ca : Nat) (a : Int), x.badOf (0, hpAa ca) = 0 →
    x.est.get none (statKey 0 (hpAa ca)) = some a → (x.stat 0 (hpAa ca)).n ≠ 0 →
    ∃ b, s.d.estimate s.net x ms 0 (hpAa ca) = some b ∧
      ((arc (a - b)).natAbs ≤ x.tolPh * 1048576 → s.d.evalElem s.net x ms (0, hpAa ca) =
        .ok [divRound (arc (a + arc (b - a) / 2 - cellCoeffAt ca 0 (s.d.tBar x x.tn) {})) 65536]) ∧
      (x.tolPh * 1048576 < (arc (a - b)).natAbs → ∃ diff, s.d.evalElem s.net x ms (0, hpAa ca) = .error (1, diff) ∧
        (1 ≤ x.tolPh → diff = min ((arc (a - b)).natAbs * 16 / (x.tolPh * 1048576)) 65535))) ∧
  (∀ (s : State) (x : CalTile) (ms : List CalMeas) (e : Nat × Nat), x.badOf e ≠ 0 → s.d.evalElem s.net x ms e = .error (x.badOf e, 0)) ∧
  (∀ (s : State) (r : CalRun) (tn : Nat) (rest : List Nat), s.d.cal.run = some r → r.todo = tn :: rest → r.active ≠ [] → s.d.cal.spareWait ≠ 0 →
    r.waitFrom + 10000000 * s.d.cal.spareWait < s.d.tb2 → s.d.clocked = true → (∀ j ∈ tn :: rest, j < 336) →
    ∃ t r', Machine.exec (.spareWaitTimeout tn) s = .next t ∧ t.d.cal.run = some r' ∧
      r'.todo = rest.filter (fun j => tilePlane j != tilePlane tn) ∧ r'.active = r.active ∧ r'.waitFrom = s.d.tb2 ∧
      (∀ j ∈ tn :: rest, tilePlane j = tilePlane tn → ∃ e ∈ r'.reports, calReason e.2 = 7 ∧ e.2 % 2 ^ 17 = j) ∧
      t.d.cal.err = s.d.cal.err ||| 2 ∧ bitOf ((t.d.view 0).leaf.get 0 0x1C0) 2 = true ∧ State.sameBut [.cal, .views] s t) ∧
  (∀ (s : State) (tn : Nat), tn < 336 → s.d.clocked = true → s.d.pwr.phase = .run → s.d.cal.interpEn = true → s.d.tb2 % 10000 = 0 →
    10000 ≤ s.d.tb2 → (s.d.tb2 / 10000 - 1) % 10000 = 25 * tn →
    ((s.d.sensor tn).valid = true →
      ∃ t, Machine.exec .interpolation s = .next t ∧ t.d.tile tn = { s.d.tile tn with tUse := some (s.d.sensor tn).temp } ∧
        (∀ aa, (t.d.loop aa).u = (s.d.loop aa).u ∧ (t.d.loop aa).drv = (s.d.loop aa).drv) ∧ (∀ j, j ≠ tn → t.d.tile j = s.d.tile j) ∧
        State.sameBut [.fab, .mon] s t) ∧
    ((s.d.sensor tn).valid = false → tn ∉ (s.d.src 27).conds →
      ∃ t, Machine.exec .interpolation s = .next t ∧ t.d.cal = { s.d.cal with err := s.d.cal.err ||| 8 } ∧ tn ∈ (t.d.src 27).conds ∧
        (t.d.src 27).latched = true ∧ State.sameBut [.cal, .src, .flt, .fns, .views] s t))

/-- The bank that a store in progress writes, with its commit record (R241, R242). -/
def Obl.newBank (s : State) : Bank := Bank.seal { gen := s.d.cal.nextGen, set := s.d.cal.storeSet }

/-- Stores (R241 to R243) and what follows (R229, R233): a store takes the bank that is not in force out of use first, and writes the set that will
be in force; once its commit record verifies, with the generation, length and digest of the bank, that bank is in force with the next generation;
one that does not verify leaves the old bank and is repeated once. The delta applies at a tick boundary with every applied command unchanged, and
the tile goes back to its own LE. States that these complete: store, storeComplete, calApply, calReturn, storeRetry. Choices of the model: log entry
73. -/
def Obligations.CalibrationStores : Prop :=
  (∀ (s : State) (r : CalRun), s.d.cal.run = some r → (∃ x ∈ r.active, x.step = 5) → s.d.cal.storing = false → s.d.cal.retry = false →
    s.d.pwr.vinWarn = false → (s.d.src 15).conds = [] → s.d.sec.restart = none → s.d.clocked = true →
    ∃ t, Machine.exec .store s = .next t ∧ t.d.cal.storing = true ∧ t.d.cal.storeAt = s.d.tb2 ∧
      (t.d.cal.bank s.d.cal.target).valid = false ∧ t.d.cal.bank (!s.d.cal.target) = s.d.cal.bank (!s.d.cal.target) ∧
      t.d.cal.storeSet = s.d.cal.delta.taking (r.active.filter (fun x => x.step == 7 || x.step == 5)) ∧
      t.d.cal.delta = s.d.cal.delta ∧
      t.d.cal.run = some { r with active := r.active.map (fun x => if x.step = 5 then { x with step := 6, t0 := s.d.tb2 } else x) } ∧
      State.sameBut [.cal] s t) ∧
  (∀ (s : State) (r : CalRun), s.d.cal.storing = true → s.d.clocked = true → s.d.cal.run = some r →
    (∃ t, Machine.exec (.storeComplete true) s = .next t ∧ t.d.cal.storing = false ∧
      t.d.cal.bank (!s.d.cal.target) = s.d.cal.bank (!s.d.cal.target) ∧ (Obl.newBank s).gen = s.d.cal.nextGen ∧
        (Obl.newBank s).set = s.d.cal.storeSet ∧
      (∃ c, (Obl.newBank s).record = some c ∧ c.gen = (Obl.newBank s).gen ∧ c.len = 1049664 ∧ c.digest = Config.sha3 (bankBytes (Obl.newBank s))) ∧
      (∀ b, s.d.cal.inForce = some b → (Obl.newBank s).gen = (s.d.cal.bank b).gen + 1 ∧ s.d.cal.target = !b) ∧
      ((Obl.newBank s).valid = true → t.d.cal.bank s.d.cal.target = Obl.newBank s ∧ t.d.cal.inForce = some s.d.cal.target ∧
        t.d.cal.stores = min (s.d.cal.stores + 1) 4294967295 ∧ t.d.cal.noDelta = false ∧
        t.d.cal.run = some { r with active := r.active.map (fun x => if x.step = 6 then { x with step := 7, t0 := s.d.tb2 } else x) } ∧
        bitOf ((t.d.view 0).leaf.get 0 0x1C0) 4 = true ∧ State.sameBut [.cal, .views] s t)) ∧
    (s.d.cal.again = false →
      ∃ t, Machine.exec (.storeComplete false) s = .next t ∧ t.d.cal = { s.d.cal with storing := false, retry := true, retryAt := some s.d.tb2 } ∧
        State.sameBut [.cal] s t) ∧
    (s.d.cal.again = true → r.todo ≠ [] → r.clear = false → (∀ x ∈ r.active, x.tn < 336) →
      ∃ t r', Machine.exec (.storeComplete false) s = .next t ∧ t.d.cal.storing = false ∧ t.d.cal.retry = false ∧ bitOf t.d.cal.err 2 = true ∧
        (t.d.src 56).latched = true ∧ t.d.cal.run = some r' ∧
        r'.active = r.active.map (fun x => if x.step = 6 then { x with step := 8, t0 := s.d.tb2, accepted := [] } else x) ∧
        (∀ x ∈ r.active, x.step = 6 → ∃ e ∈ r'.reports, calReason e.2 = 8 ∧ e.2 % 2 ^ 17 = x.tn) ∧
        State.sameBut [.cal, .src, .flt, .fns, .views] s t)) ∧
  (∀ (s : State) (r : CalRun) (at2 : Nat), s.d.cal.run = some r → s.d.cal.retry = true → s.d.cal.retryAt = some at2 → at2 + 100000000 ≤ s.d.tb2 →
    s.d.pwr.vinWarn = false → s.d.clocked = true →
    ∃ t, Machine.exec .storeRetry s = .next t ∧ t.d.cal.storing = true ∧ t.d.cal.again = true ∧ t.d.cal.retry = false ∧
      (t.d.cal.bank s.d.cal.target).valid = false ∧ t.d.cal.bank (!s.d.cal.target) = s.d.cal.bank (!s.d.cal.target) ∧
      t.d.cal.storeSet = s.d.cal.delta.taking (r.active.filter (fun x => x.step == 7 || x.step == 6)) ∧
      State.sameBut [.cal] s t) ∧
  (∀ (s : State) (r : CalRun) (x : CalTile), s.d.cal.run = some r → r.active = [x] → x.step = 7 → r.clear = false → s.d.tb2 % 10000 = 0 →
    x.t0 < s.d.tb2 → s.d.clocked = true → (s.d.sensor x.tn).valid = true →
    ∃ t, Machine.exec (.calApply x.tn) s = .next t ∧
      t.d.cal = { s.d.cal with
        delta := x.accepted.foldl DeltaSet.put s.d.cal.delta,
        run := some { r with accept := r.accept + x.accepted.length, active := [{ x with step := 8, t0 := s.d.tb2 }] } } ∧
      (t.d.tile x.tn).tUse = some (s.d.sensor x.tn).temp ∧
      (∀ aa, (t.d.loop aa).u = (s.d.loop aa).u ∧ (t.d.loop aa).drv = (s.d.loop aa).drv) ∧ State.sameBut [.cal, .fab, .mon] s t) ∧
  (∀ (s : State) (r : CalRun) (x : CalTile) (k : Nat), s.d.cal.run = some r → r.active = [x] → x.step = 8 → s.d.tb2 % 10000 = 0 → x.t0 < s.d.tb2 →
    s.d.leState x.tn = .lent → (s.d.le x.tn).cause = some .cal → s.d.clocked = true → s.d.spareOf x.tn = some k → x.tn < 336 →
    ∃ t, Machine.exec (.calReturn x.tn) s = .next t ∧
      t.d.le x.tn = { s.d.le x.tn with state := some .moving, pend := none, moveAt := some s.d.tb2, back := true } ∧
      t.d.le k = { s.d.le k with state := some .moving } ∧ (∀ j, j ≠ x.tn → j ≠ k → t.d.le j = s.d.le j) ∧ t.d.fab.loops = s.d.fab.loops ∧
      State.sameBut [.fab] s t)

/-! ## Faults and blank (11) -/

/-- No fatal source holds, and nothing blanks the device. -/
def Obl.calm (s : State) : Prop :=
  s.d.fatalCause = false ∧ s.d.flt.fatal = false ∧ s.d.flt.blank = false ∧ s.d.blankCause = false

/-- Fault sources under software, and their recovery (R325 to R329, R339). States that these complete: force, latchedClear, outClear,
quietPeriodEnd, fatalRecoveryTimeout, errNPulseEnd, fltCtlLock. Choices of the model: log entries 74, 75, 97. -/
def Obligations.FaultSourcesAndRecovery : Prop :=
  -- Fault sources under software (R325 to R327, R339): FORCE with INJ_EN makes an injected occurrence that only signals while INJ_ACT is 0, and is
  -- ignored without INJ_EN; LATCHED clears only when nothing is CURRENT; clearing OUT empties the window and starts a new quiet time; LOCK keeps
  -- INJ_EN and INJ_ACT from then on; an ERR_N pulse ends at its time.
  (∀ (s : State) (n : Nat) (v : Word), s.d.reach 0 = true → n < 96 → srcReserved n = false → Obl.calm s → s.d.flt.injAct = false →
    (s.d.src n).force = false → v = 32 →
    (s.d.flt.injEn = true →
      ∃ t, Machine.exec (.force 0 n v) s = .next t ∧ (t.d.src n).force = true ∧ (t.d.src n).latched = true ∧ (t.d.src n).inj = true ∧
        (t.d.src n).forceScope = s.d.flt.injScope ∧ (t.d.src n).last = s.d.tb2 ∧
        (n ≠ 40 → n ≠ 68 → (t.d.src n).count = min ((s.d.src n).count + 1) 65535 ∧ (t.d.src n).real = (s.d.src n).real) ∧ t.d.flt.blank = false ∧
          t.d.flt.fatal = false ∧
        State.sameBut [.src, .flt, .fns, .views] s t) ∧
    (s.d.flt.injEn = false →
      ∃ t, Machine.exec (.force 0 n v) s = .next t ∧ (∀ k, k ≠ 40 → k ≠ 68 → t.d.src k = s.d.src k) ∧
        State.sameBut [.src, .flt, .fns, .views] s t)) ∧
  (∀ (s : State) (n : Nat), s.d.reach 0 = true → n < 96 → n ≠ 40 → n ≠ 68 → Obl.calm s → (s.d.src n).force = false →
    ((s.d.src n).conds = [] →
      ∃ t, Machine.exec (.latchedClear 0 n 2) s = .next t ∧ t.d.src n = { s.d.src n with latched := false, real := false, inj := false } ∧
        State.sameBut [.src, .flt, .fns, .views] s t) ∧
    ((s.d.src n).conds ≠ [] →
      ∃ t, Machine.exec (.latchedClear 0 n 2) s = .next t ∧ t.d.src n = s.d.src n ∧ State.sameBut [.src, .flt, .fns, .views] s t) ∧
    ((s.d.src n).out = true → 12 < n →
      ∃ t, Machine.exec (.outClear 0 n 16) s = .next t ∧
        t.d.src n = { s.d.src n with
          out := false, recs := [], insts := (s.d.src n).insts.map (fun i => { i with since := i.since.map (fun _ => s.d.tb2) }) } ∧
        State.sameBut [.src, .flt, .fns, .views] s t)) ∧
  (∀ (s : State) (v : Word), s.d.reach 0 = true → Obl.calm s → bitOf v.toNat 0 = false → bitOf v.toNat 3 = true →
    (∀ n, n < 96 → (s.d.src n).force = false) → s.d.flt.swBlank = false →
    ∃ t, Machine.exec (.fltCtlLock 0 v) s = .next t ∧ t.d.flt.lock = true ∧
      t.d.flt.injEn = (if s.d.flt.lock then s.d.flt.injEn else bitOf v.toNat 1) ∧
      t.d.flt.injAct = (if s.d.flt.lock then s.d.flt.injAct else bitOf v.toNat 2) ∧ State.sameBut [.src, .flt, .fns, .views] s t) ∧
  (∀ (s : State) (e : Nat), s.d.flt.errEnd = some e → e ≤ s.d.tb2 →
    ∃ t, Machine.exec .errNPulseEnd s = .next t ∧ t.d.flt.errEnd = none ∧ (s.d.flt.errSw = false → t.d.flt.errN = false) ∧
      t.d.flt.src = s.d.flt.src ∧ State.sameBut [.flt] s t) ∧
  -- Recovery (R328, R329): an instance quiet for its period recovers: it is forgotten, REC_CNT counts it; one recovery more than LIMIT in the
  -- window is not made: the source sets OUT and keeps its reaction. A fatal source whose cells have not all locked again in 1 s sets OUT, and the
  -- fatal state goes on with every loop in HOLD.
  (∀ (s : State) (n scope since : Nat) (i : Inst), 12 < n → n ≠ 40 → n ≠ 68 → Obl.calm s → (s.d.src n).insts = [i] → i.scope = scope →
    i.since = some since → scope ∉ (s.d.src n).conds → (s.d.src n).force = false → s.d.srcRecEn n = true → (s.d.src n).out = false →
    since + s.d.srcQuiet n * 1000000 ≤ s.d.tb2 → s.d.clocked = true →
    (((s.d.src n).recs.filter (fun r => decide (s.d.tb2 < r + s.d.srcSpan n))).length < s.d.srcLimit n →
      ∃ t, Machine.exec (.quietPeriodEnd n scope) s = .next t ∧
        t.d.src n = { s.d.src n with recCnt := min ((s.d.src n).recCnt + 1) 255, recs := s.d.tb2 :: (s.d.src n).recs, insts := [] } ∧
        State.sameBut [.src, .flt, .fns, .views, .fab, .cmt, .mon] s t) ∧
    (s.d.srcLimit n ≤ ((s.d.src n).recs.filter (fun r => decide (s.d.tb2 < r + s.d.srcSpan n))).length →
      ∃ t, Machine.exec (.quietPeriodEnd n scope) s = .next t ∧ t.d.src n = { s.d.src n with out := true } ∧ State.sameBut [.src] s t)) ∧
  (∀ (s : State) (e n : Nat), s.d.flt.relock = some (e, n) → s.d.flt.fatal = true → e ≤ s.d.tb2 → n < 13 → s.d.blankOn = true →
    s.d.drv.armed = true → Tab.wf {} s.d.fab.loops = true →
    ∃ t, Machine.exec .fatalRecoveryTimeout s = .next t ∧ (t.d.src n).out = true ∧ t.d.flt.fatal = true ∧ t.d.flt.relock = none ∧
      (∀ ca ∈ allCells, ∀ aa ∈ heatersOf ca,
        (t.d.loop aa).mode = 3 ∧ (t.d.loop aa).prevMode = some ((s.d.loop aa).prevMode.getD (s.d.loop aa).mode) ∧ (t.d.loop aa).u = (s.d.loop aa).u) ∧
      t.d.fab.cells = s.d.fab.cells ∧ State.sameBut [.src, .flt, .fab] s t)

/-- Blank (R330 to R334): BLANK_N for 10 ns or more, or SW_BLANK, puts every output VOA on its blank code at once and withdraws LIGHT_PERMIT; a
pulse under 5 ns does nothing. At the next tick boundary the input VOAs follow and, outside the fatal state, every VOA's heater target goes to DARK.
10 µs after the last cause the release gives every VOA that is not DARK its target by a step, and the others stay DARK. No blank changes the map.
States that these complete: blankNAssert, blankNDeassert, swBlank, blankStage2, blankRelease. Choices of the model: log entries 8, 48, 59. -/
def Obligations.BlankAndRelease : Prop :=
  (∀ (s : State) (i : Instr), s.d.pwr.off = false → s.d.drv.armed = true → Obl.calm s → (∀ k, k < 16 → (s.d.slot k).state = .free) →
    s.d.cmt.restoring = [] → Tab.wf {} s.d.fab.cells = true →
    ((∃ w, 10 ≤ w ∧ i = .blankNAssert w) ∨ i = .swBlank 0 1 ∧ s.d.reach 0 = true ∧ (∀ n, n < 96 → (s.d.src n).force = false)) →
    ∃ t, Machine.exec i s = .next t ∧ t.d.flt.blank = true ∧ t.d.flt.stage2 = false ∧ t.d.flt.blankAt = s.d.tb2 ∧ t.d.flt.permit = false ∧
      t.d.flt.blankCnt = min (s.d.flt.blankCnt + 1) 65535 ∧ bitOf ((t.d.view 0).leaf.get 0 0x12C) 1 = true ∧
      (∀ ca, isOutVoa ca = true → (t.d.cell ca).f = (s.d.cell ca).blankCode ∧ (t.d.cell ca).fDue = none ∧ t.d.blanked ca = true ∧
        (t.d.cell ca).phiTgt = (s.d.cell ca).phiTgt) ∧
      (∀ ca, isOutVoa ca = false → t.d.cell ca = s.d.cell ca) ∧ t.d.fab.loops = s.d.fab.loops ∧
      (Tab.wf {} s.d.mon.met = true → ∀ mpa, isOutVoa (mpaCell mpa) = false → t.d.mon.met.get {} mpa = s.d.mon.met.get {} mpa) ∧
        t.d.mon.mrt = s.d.mon.mrt ∧ t.d.mon.fl = s.d.mon.fl ∧
      State.sameBut [.flt, .views, .fab, .src, .fns, .mon] s t) ∧
  (∀ (s : State) (w : Nat), w < 5 → ∃ t, Machine.exec (.blankNAssert w) s = .next t ∧ State.sameBut [] s t) ∧
  (∀ (s : State), s.d.flt.blankN = true → s.d.drv.armed = true → s.d.blankOn = true → s.d.flt.causeEnd = none → s.d.flt.swBlank = false →
    s.d.flt.fatal = false → s.d.flt.extest = false →
    ∃ t, Machine.exec .blankNDeassert s = .next t ∧ t.d.flt.blankN = false ∧ t.d.flt.causeEnd = some s.d.tb2 ∧ t.d.flt.blank = true ∧
      t.d.flt.src = s.d.flt.src ∧ State.sameBut [.flt] s t) ∧
  (∀ (s : State), s.d.blankOn = true → s.d.flt.stage2 = false → s.d.tb2 % 10000 = 0 → s.d.flt.blankAt < s.d.tb2 → Tab.wf {} s.d.fab.cells = true →
    ∃ t, Machine.exec .blankStage2 s = .next t ∧ t.d.flt.stage2 = true ∧ (∀ ca, isInVoa ca = true → t.d.blanked ca = true) ∧
      (∀ ca, isInVoa ca = true → (t.d.cell ca).f = (s.d.cell ca).blankCode) ∧
      (∀ ca, isVoaCa ca = true → (t.d.cell ca).phiTgt = (if s.d.flt.fatal = true ∨ (s.d.cell ca).dark = true then (s.d.cell ca).phiTgt
        else (s.d.cell ca).phiTh + (s.d.cell ca).blankCode)) ∧
      (∀ ca, isVoaCa ca = false → t.d.cell ca = s.d.cell ca) ∧ t.d.fab.loops = s.d.fab.loops ∧
      (Tab.wf {} s.d.mon.met = true → ∀ mpa, isOutVoa (mpaCell mpa) = false → t.d.mon.met.get {} mpa = s.d.mon.met.get {} mpa) ∧
        t.d.mon.mrt = s.d.mon.mrt ∧ t.d.mon.fl = s.d.mon.fl ∧
      State.sameBut [.flt, .fab, .mon] s t) ∧
  (∀ (s : State) (e : Nat), s.d.blankOn = true → s.d.flt.stage2 = true → s.d.flt.causeEnd = some e → e + 10000 < s.d.tb2 → s.d.tb2 % 10000 = 0 →
    Tab.wf {} s.d.fab.cells = true →
    ∃ t, Machine.exec .blankRelease s = .next t ∧ t.d.flt.stage2 = false ∧
      (∀ ca, isVoaCa ca = true → t.d.blanked ca = false ∧
        ((s.d.cell ca).dark = true → 
          t.d.cell ca = { s.d.cell ca with f := wrapHalf ((s.d.cell ca).phiTgt - (s.d.cell ca).phiTh), fDue := none, fTrim := 0, wave := none }) ∧
        ((s.d.cell ca).dark = false → (t.d.cell ca).settling = true ∧ (t.d.cell ca).settleEnd = s.d.tb2 + tSet)) ∧
      (t.d.flt.blank = true ↔ ∃ ca, isVoaCa ca = true ∧ (t.d.cell ca).settling = true) ∧ (t.d.flt.releasing = true ↔ t.d.flt.blank = true) ∧
      State.sameBut [.flt, .fab, .views, .mon] s t)

/-! ## Time (12) -/

/-- The next measurement is one by which TB0 is stepped (R345, R348). -/
def Obl.toStep (s : State) : Prop :=
  s.d.tim.state = 4 ∨ s.d.tim.state = 1 ∧ s.d.tim.autoStep = true ∧ s.d.tim.stepUsed = false

/-- What a measurement of offset o does (R344 to R348, R471): accepted, it moves the frequency term and the rate; outside TOL it is rejected, and the
third in a row leaves LOCKED for HOLDOVER; the first of an epoch steps TB0 by −o, unless scheduled work exists and nothing forces the step. -/
def Obl.measured (s t : State) (o : Int) : Prop :=
  t.d.tim.offset = clampI o (-2147483648) 2147483647 ∧
  (∀ f iv : Int, s.d.tim.state ∈ [1, 2, 3] → ¬Obl.toStep s → (o.natAbs ≤ s.d.tim.tol * 100 ∨ s.d.tim.state = 1 ∧ s.d.tim.stepUsed = false) →
    iv = (if s.d.tim.src = 2 then (s.d.tim.ptmPer : Int) * 1000000 else 1000000000) →
    f = clampI ((if s.d.tim.state = 2 then s.d.tim.freq else s.d.tim.rate * 4294967296) - divRound (o * 18446744073709551616) (64 * iv))
      (-858993 * 4294967296) (858993 * 4294967296) →
    t.d.tim.state = 2 ∧ t.d.tim.freq = f ∧
      t.d.tim.rate = clampI (divRound (f * (8 * iv) - o * 18446744073709551616) (4294967296 * 8 * iv)) (-858993) 858993 ∧
      t.d.tim.rejects = 0 ∧ t.d.tim.lost = false ∧ t.d.tb0 = s.d.tb0 ∧ t.d.tim.stepUsed = s.d.tim.stepUsed ∧
      (s.d.tim.state = 3 ∨ s.d.tim.lost = true → bitOf ((t.d.view 0).leaf.get 0 0x1C4) 2 = true) ∧
      State.sameBut [.tim, .src, .flt, .fns, .views] s t) ∧
  (s.d.tim.state ∈ [1, 2, 3] → ¬Obl.toStep s → s.d.tim.tol * 100 < o.natAbs → (s.d.tim.state ≠ 1 ∨ s.d.tim.stepUsed = true) →
    t.d.tb0 = s.d.tb0 ∧ t.d.tim.lost = s.d.tim.lost ∧ (t.d.src 87).latched = true ∧ (t.d.src 87).count = min ((s.d.src 87).count + 1) 65535 ∧
    (s.d.tim.state ≠ 2 ∨ s.d.tim.rejects < 2 → t.d.tim.state = s.d.tim.state ∧ t.d.tim.rate = s.d.tim.rate ∧ t.d.tim.freq = s.d.tim.freq ∧
      t.d.tim.rejects = s.d.tim.rejects + 1) ∧
    (s.d.tim.state = 2 → 2 ≤ s.d.tim.rejects → t.d.tim.state = 3 ∧ t.d.tim.rate = clampI (divRound s.d.tim.freq 4294967296) (-858993) 858993 ∧
      bitOf ((t.d.view 0).leaf.get 0 0x1C4) 1 = true) ∧
    State.sameBut [.tim, .src, .flt, .fns, .views] s t) ∧
  (Obl.toStep s → s.d.hasScheduled = false →
    t.d.tb0 = twos ((s.d.tb0 : Int) - o) 64 ∧ t.d.tim.tb0Frac = s.d.tim.tb0Frac ∧ t.d.tim.stepVal = (t.d.tb0 : Int) - s.d.tb0 ∧
    t.d.tim.stepUsed = true ∧ t.d.tim.state = 2 ∧ t.d.tim.rate = s.d.tim.rate ∧ t.d.tim.lost = false ∧ t.d.tb2 = s.d.tb2 ∧
    bitOf ((t.d.view 0).leaf.get 0 0x1C4) 0 = true ∧
    (Tab.wf {} s.d.io.queues = true → ∀ q, { t.d.queue q with prevMidnight := 0 } = { s.d.queue q with prevMidnight := 0 }) ∧
    (Tab.wf {} s.d.cmt.slots = true → ∀ k, (s.d.slot k).commitTime ≠ 0 → t.d.slot k = s.d.slot k) ∧
    State.sameBut [.tim, .src, .flt, .fns, .views, .queues, .cmt] s t) ∧
  (Obl.toStep s → s.d.hasScheduled = true → s.d.tim.forceAuto = false → s.d.tim.forceNext = false →
    t.d.tb0 = s.d.tb0 ∧ t.d.tim.state = 4 ∧ t.d.tim.rate = s.d.tim.rate ∧ t.d.tim.stepUsed = s.d.tim.stepUsed ∧
    (s.d.tim.state = 1 → bitOf ((t.d.view 0).leaf.get 0 0x1C4) 0 = true) ∧ State.sameBut [.tim, .src, .flt, .fns, .views] s t) ∧
  (Obl.toStep s → s.d.hasScheduled = true → (s.d.tim.forceAuto = true ∨ s.d.tim.forceNext = true) →
    t.d.tb0 = twos ((s.d.tb0 : Int) - o) 64 ∧ t.d.tim.stepUsed = true ∧ t.d.tim.state = 2 ∧ t.d.scheduledBatches = [] ∧
    (t.d.src 89).latched = true ∧ (t.d.src 89).count = min ((s.d.src 89).count + 1) 65535 ∧ bitOf ((t.d.view 0).leaf.get 0 0x1C4) 3 = true ∧
    State.sameBut [.tim, .src, .flt, .fns, .views, .queues, .cmt, .jobs, .mon] s t)

/-- Measurements (R343 to R348, R351, R352, R354, R471): an edge is TB0 less IN_DLY; a valid frame 10 ms to 900 ms after it names it, and with SRC =
1 the two are a measurement; with SRC = 2 a successful exchange is one, and a failed one counts. A frame that is not valid is discarded. States that
these complete: ppsIn, todFrame, ptmExchange, ptmResponse. Choices of the model: log entries 82, 83. -/
def Obligations.MeasurementsDisciplineTime : Prop :=
  (∀ (s : State), s.d.pwr.off = false → s.d.clocked = true →
    ∃ t, Machine.exec .ppsIn s = .next t ∧ t.d.tim = { s.d.tim with
      edge := some ((s.d.tb0 : Int) - s.d.tim.inDly, s.d.tb2, false), quietFrom := s.d.tb2,
      edgesBare := (match s.d.tim.edge with
        | some (_, _, false) => s.d.tim.edgesBare + 1
        | some (_, _, true) => 0
        | none => s.d.tim.edgesBare) } ∧ State.sameBut [.tim] s t) ∧
  (∀ (s : State) (bs : List Byte) (gap at2 : Nat) (at0 : Int), s.d.pwr.off = false → s.d.clocked = true → frameGood bs = true → gap ≤ 174000 →
    (∀ p, s.d.tim.lastSeq = some p → leField bs 12 2 = (p + 1) % 65536) → s.d.tim.edge = some (at0, at2, false) →
    at2 + 10000000 ≤ s.d.tb2 → s.d.tb2 ≤ at2 + 900000000 →
    ∃ t, Machine.exec (.todFrame bs gap) s = .next t ∧ t.d.tim.edge = some (at0, at2, true) ∧ t.d.tim.edgesBare = 0 ∧
      t.d.tim.lastSeq = some (leField bs 12 2) ∧ t.d.tim.todAcc = (s.d.tim.todAcc + 1) % 4096 ∧ t.d.tim.todDisc = s.d.tim.todDisc ∧
      t.d.tim.lastFlags = leField bs 10 1 ∧ t.d.tim.utcOff = leField bs 8 2 ∧ t.d.tim.quality = leField bs 11 1 ∧
      (s.d.tim.src = 1 → Obl.measured s t (at0 - (leField bs 2 6 : Int) * 1000000000)) ∧
      (s.d.tim.src ≠ 1 → t.d.tim.rate = s.d.tim.rate ∧ t.d.tim.state = s.d.tim.state ∧ t.d.tb0 = s.d.tb0 ∧ State.sameBut [.tim] s t)) ∧
  (∀ (s : State) (bs : List Byte) (gap : Nat), s.d.pwr.off = false → s.d.clocked = true →
    (frameGood bs = false ∨ 174000 < gap ∨ (∃ p, s.d.tim.lastSeq = some p ∧ leField bs 12 2 ≠ (p + 1) % 65536) ∨
      (∀ at0 at2, s.d.tim.edge = some (at0, at2, false) → s.d.tb2 < at2 + 10000000 ∨ at2 + 900000000 < s.d.tb2)) →
    ∃ t, Machine.exec (.todFrame bs gap) s = .next t ∧ t.d.tim.todDisc = (s.d.tim.todDisc + 1) % 4096 ∧ t.d.tim.todAcc = s.d.tim.todAcc ∧
      t.d.tim.edge = s.d.tim.edge ∧ t.d.tim.rate = s.d.tim.rate ∧ t.d.tb0 = s.d.tb0 ∧
      (frameGood bs = true → t.d.tim.lastSeq = some (leField bs 12 2)) ∧ (frameGood bs = false → t.d.tim.lastSeq = s.d.tim.lastSeq) ∧
      State.sameBut [.tim] s t) ∧
  (∀ (s : State), s.d.tim.src = 2 → s.d.tim.ptmEn = true → s.d.tim.ptmOut = false → s.d.clocked = true → s.d.io.linkUp = true →
    s.d.tim.ptmLast + s.d.tim.ptmPer * 1000000 ≤ s.d.tb2 →
    ∃ t later, Machine.exec .ptmExchange s = .next t ∧ t.d.tim = { s.d.tim with ptmLast := s.d.tb2, ptmOut := true } ∧
      t.d.io.out = later ++ Out.ptm :: s.d.io.out ∧ State.sameBut [.tim] s t) ∧
  (∀ (s : State) (master : Nat), s.d.tim.ptmOut = true → s.d.clocked = true → s.d.tim.src = 2 →
    (∃ t, Machine.exec (.ptmResponse true master) s = .next t ∧ t.d.tim.ptmOut = false ∧ t.d.tim.ptmFails = 0 ∧ t.d.tim.ptmLastOk = s.d.tb2 ∧
      Obl.measured s t ((s.d.tb0 : Int) - master)) ∧
    (∃ t, Machine.exec (.ptmResponse false master) s = .next t ∧
      t.d.tim = { s.d.tim with ptmOut := false, ptmFails := s.d.tim.ptmFails + 1 } ∧ State.sameBut [.tim] s t))

/-- Sources, steps and epochs of TB0, and what is sent out of it (R343 to R348, R353, R356). States that these complete: sourceLost, srcChange,
timEpochReset, step, timStepForce, ppsOut, todTx. Choices of the model: log entries 82, 83. -/
def Obligations.TimeIsSteppedAndSentOut : Prop :=
  -- Sources, steps and epochs (R343 to R348, R356): loss is FS86 and leaves LOCKED for HOLDOVER at the frequency term; a new source starts in
  -- ACQUIRING, or FREE_RUN, at the rate in force; a new epoch gives the step back; a software step sets TB0 to TIM_SET once an epoch, and is refused
  -- while a source is selected or scheduled work exists, unless forced, when the work is discarded.
  (∀ (s : State), s.d.tim.lost = false → s.d.clocked = true →
    (s.d.tim.src = 1 ∧ (s.d.tim.quietFrom + 1100000000 < s.d.tb2 ∨ 3 ≤ s.d.tim.edgesBare) ∨
      s.d.tim.src = 2 ∧ (3 ≤ s.d.tim.ptmFails ∨ s.d.tim.ptmEn = false ∨ s.d.tim.ptmLastOk + 4 * s.d.tim.ptmPer * 1000000 < s.d.tb2)) →
    ∃ t, Machine.exec .sourceLost s = .next t ∧ t.d.tim.lost = true ∧ 0 ∈ (t.d.src 86).conds ∧ t.d.tb0 = s.d.tb0 ∧
      (0 ∉ (s.d.src 86).conds → (t.d.src 86).count = min ((s.d.src 86).count + 1) 65535) ∧
      (s.d.tim.state = 2 → t.d.tim.state = 3 ∧ t.d.tim.rate = clampI (divRound s.d.tim.freq 4294967296) (-858993) 858993 ∧
        bitOf ((t.d.view 0).leaf.get 0 0x1C4) 1 = true) ∧
      (s.d.tim.state ≠ 2 → t.d.tim.state = s.d.tim.state ∧ t.d.tim.rate = s.d.tim.rate) ∧ State.sameBut [.tim, .src, .flt, .fns, .views] s t) ∧
  (∀ (s : State) (v : Word), s.d.reach 0 = true →
    ∃ t, Machine.exec (.srcChange 0 v) s = .next t ∧ t.d.tim.autoStep = bitOf v.toNat 2 ∧ t.d.tim.forceAuto = bitOf v.toNat 3 ∧
      t.d.tim.tol = max 1 (fieldOf v.toNat 8 8) ∧ t.d.tim.rate = s.d.tim.rate ∧ t.d.tb0 = s.d.tb0 ∧ t.d.tim.stepUsed = s.d.tim.stepUsed ∧
      (v.toNat % 4 = 3 ∨ v.toNat % 4 = s.d.tim.src → t.d.tim.src = s.d.tim.src ∧ t.d.tim.state = s.d.tim.state) ∧
      (v.toNat % 4 ≠ 3 → v.toNat % 4 ≠ s.d.tim.src → t.d.tim.src = v.toNat % 4 ∧ t.d.tim.state = (if v.toNat % 4 = 0 then 0 else 1)) ∧
      State.sameBut [.tim, .src] s t) ∧
  (∀ (s : State), s.d.reach 0 = true →
    ∃ t, Machine.exec (.timEpochReset 0 1) s = .next t ∧ t.d.tim.epoch = (s.d.tim.epoch + 1) % 65536 ∧ t.d.tim.stepUsed = false ∧
      t.d.tim.state = (if s.d.tim.src = 0 then 0 else 1) ∧ t.d.tim.rate = s.d.tim.rate ∧ t.d.tb0 = s.d.tb0 ∧
      bitOf ((t.d.view 0).leaf.get 0 0x1C4) 0 = true ∧ State.sameBut [.tim, .src, .flt, .fns, .views] s t) ∧
  (∀ (s : State) (v : Word), s.d.reach 0 = true → (v = 1 ∨ v = 3) → s.d.tim.state ≠ 4 →
    (s.d.tim.src ≠ 0 → ∃ t, Machine.exec (.step 0 v) s = .next t ∧ t.d.tim = { s.d.tim with errRefused := true } ∧ State.sameBut [.tim] s t) ∧
    (s.d.tim.src = 0 → s.d.tim.stepUsed = true →
      ∃ t, Machine.exec (.step 0 v) s = .next t ∧ t.d.tim = { s.d.tim with errUsed := true } ∧ State.sameBut [.tim] s t) ∧
    (s.d.tim.src = 0 → s.d.tim.stepUsed = false → s.d.hasScheduled = true → v = 1 →
      ∃ t, Machine.exec (.step 0 v) s = .next t ∧ t.d.tim = { s.d.tim with errRefused := true } ∧ State.sameBut [.tim] s t) ∧
    (s.d.tim.src = 0 → s.d.tim.stepUsed = false → s.d.hasScheduled = false →
      ∃ t, Machine.exec (.step 0 v) s = .next t ∧ t.d.tb0 = s.d.tim.set ∧ t.d.tim.tb0Frac = 0 ∧ t.d.tb2 = s.d.tb2 ∧
        t.d.tim.stepVal = (s.d.tim.set : Int) - s.d.tb0 ∧ t.d.tim.stepUsed = true ∧ t.d.tim.rate = s.d.tim.rate ∧
        bitOf ((t.d.view 0).leaf.get 0 0x1C4) 0 = true ∧ State.sameBut [.tim, .src, .flt, .fns, .views, .queues, .cmt] s t)) ∧
  (∀ (s : State), s.d.reach 0 = true →
    (s.d.tim.state = 4 → ∃ t, Machine.exec (.timStepForce 0 2) s = .next t ∧ t.d.tim = { s.d.tim with forceNext := true } ∧
      State.sameBut [.tim] s t) ∧
    (s.d.tim.state ≠ 4 → ∃ t, Machine.exec (.timStepForce 0 2) s = .next t ∧ State.sameBut [] s t) ∧
    (s.d.tim.state = 0 → s.d.tim.src = 0 → s.d.tim.stepUsed = false → s.d.hasScheduled = true →
      ∃ t, Machine.exec (.timStepForce 0 3) s = .next t ∧ t.d.tb0 = s.d.tim.set ∧ t.d.tim.stepUsed = true ∧ t.d.scheduledBatches = [] ∧
        (t.d.src 89).latched = true ∧ (t.d.src 89).count = min ((s.d.src 89).count + 1) 65535 ∧
        bitOf ((t.d.view 0).leaf.get 0 0x1C4) 3 = true ∧ State.sameBut [.tim, .src, .flt, .fns, .views, .queues, .cmt, .jobs, .mon] s t)) ∧
  -- Outputs (R353): PPS_OUT rises OUT_ADV before each whole second of TB0 but the first after a step, and TOD_TX sends that second's frame 10 ms
  -- after it: SECONDS, the fields last received, TRACEABLE only in LOCKED, and a count.
  (∀ (s : State) (k r : Nat), s.d.tim.outEn = true → s.d.clocked = true → (s.d.tb0 : Int) + s.d.tim.outAdv = ((k * 1000000000 + r : Nat) : Int) →
    r < 2 →
    k ≠ s.d.tim.ppsLast →
    (k ≠ s.d.tim.skipTo →
      ∃ t later, Machine.exec .ppsOut s = .next t ∧ t.d.io.out = later ++ Out.pin "PPS_OUT" true :: s.d.io.out ∧
        t.d.tim = { s.d.tim with ppsLast := k, ppsHighEnd := some (s.d.tb2 + s.d.tim.width * 1000000) } ∧ State.sameBut [.tim] s t) ∧
    (k = s.d.tim.skipTo → ∃ t, Machine.exec .ppsOut s = .next t ∧ State.sameBut [] s t)) ∧
  (∀ (s : State) (k r : Nat), s.d.tim.todEn = true → s.d.clocked = true → s.d.tb0 = k * 1000000000 + 10000000 + r → r < 2 → k ≠ s.d.tim.todLast →
    (k ≠ s.d.tim.skipTo → s.d.tim.leap < 4 → s.d.tim.quality < 256 → k < 2 ^ 48 →
      ∃ t later f, Machine.exec .todTx s = .next t ∧ t.d.io.out = later ++ Out.tod f :: s.d.io.out ∧ frameGood f = true ∧ leField f 2 6 = k ∧
        leField f 8 2 = s.d.tim.utcOff % 65536 ∧ bitOf (leField f 10 1) 0 = (s.d.tim.state == 2) ∧ fieldOf (leField f 10 1) 1 2 = s.d.tim.leap ∧
        bitOf (leField f 10 1) 3 = s.d.holdover ∧ leField f 11 1 = s.d.tim.quality ∧ leField f 12 2 = s.d.tim.txSeq % 65536 ∧
        t.d.tim = { s.d.tim with todLast := k, txSeq := (s.d.tim.txSeq + 1) % 65536 } ∧ State.sameBut [.tim] s t) ∧
    (k = s.d.tim.skipTo → ∃ t, Machine.exec .todTx s = .next t ∧ State.sameBut [] s t))

/-! ## The measurement island (13) -/

/-- Nothing changes outside the island but FS90 to FS92 and what signals them (R358). -/
def Obl.islandOnly (s t : State) : Prop :=
  t.net = s.net ∧ t.mem = s.mem ∧ t.pending = s.pending ∧ Dev.sameBut [.src, .flt, .fns, .views] s.d t.d

/-- Time, fuses, acknowledgement and configuration of the island are unchanged. -/
def Obl.islandKeeps (s t : State) : Prop :=
  t.isl.tb1 = s.isl.tb1 ∧ t.isl.epoch = s.isl.epoch ∧ t.isl.sealF = s.isl.sealF ∧ t.isl.unsealF = s.isl.unsealF ∧ t.isl.ackNext = s.isl.ackNext ∧
  t.isl.splitMin = s.isl.splitMin ∧ t.isl.blockMax = s.isl.blockMax ∧ t.isl.ackSrc = s.isl.ackSrc ∧ t.isl.cfgData = s.isl.cfgData

/-- There is room for a record, in the block being filled, which holds the records written so far, or in a new one. -/
def Obl.storeRoom (s : State) : Prop :=
  s.isl.hasRoom = true ∧ (s.isl.blocks.find? (fun b => b.num == s.isl.next / 64)).map (·.recs.length) =
    (if s.isl.next % 64 = 0 then none else some (s.isl.next % 64))

/-- One record is written: 256 bytes with the next INDEX, chained to the record before it (R369, R370). -/
def Obl.wrote (s t : State) (rec : List Byte) : Prop :=
  rec.length = 256 ∧ leField rec 0 8 = s.isl.next % 2 ^ 64 ∧ leField rec 9 1 = 1 ∧ leField rec 192 64 = s.isl.chain.toNat ∧
  t.isl.recAt s.isl.next = some rec ∧ t.isl.next = s.isl.next + 1 ∧ t.isl.chain = Config.sha3 rec

/-- A sample that is complete (R366, R367, R369): its class, its energies and the cross-check, from both powers in nW and the claimed attenuation. -/
def Obl.sampled (v w : Interval) (blank : Bool) (att pin pout : Nat) : Prop :=
  w.n = v.n + 1 ∧ w.eIn = v.eIn + (if 100 ≤ pin then pin else 0) ∧ w.eOut = v.eOut + (if 100 ≤ pout then pout else 0) ∧
  w.tBlank = v.tBlank + (if blank then 1 else 0) ∧ w.tDark = v.tDark + (if !blank ∧ pin < 317 then 1 else 0) ∧
  w.tSpec = v.tSpec + (if !blank ∧ 317 ≤ pin ∧ overLoss pin pout att 152 = false ∧ underLoss pin pout att = false then 1 else 0) ∧
  (blank = true ∨ pin < 1000 → w.evald = v.evald ∧ w.bad = v.bad ∧ w.contra = v.contra) ∧
  (blank = false → 1000 ≤ pin → w.evald = v.evald + 1 ∧
    w.bad = (if overLoss pin pout att 400 ∨ underLoss pin pout att then v.bad + 1 else 0) ∧ w.contra = (v.contra || decide (100 ≤ w.bad))) ∧
  w.inp = v.inp ∧ w.tStart = v.tStart ∧ w.aClaim = v.aClaim

/-- Samples and the claimed map (R359, R364 to R366, R368): an output's sample completes that of its interval's input; an output without a claim
counts samples with light; a delta opens an interval at its strobe's stamp, or keeps one whose input stays; a lost link waits for the full map.
States that these complete: islandSample, snapshotLinkDelta, fullMap, linkSilence, unclaimedOpen. Choices of the model: log entry 84. -/
def Obligations.IslandFollowsTheClaimedMap : Prop :=
  (∀ (s : State) (tap p ms : Nat), s.isl.up = true → tap < 1024 → ms = s.isl.tb1 / 1000000 → s.isl.tb1 % 1000000 / 15625 = tap % 64 →
    s.isl.taps.get 0 tap ≠ ms + 1 → s.isl.blank = (s.d.flt.blank && !s.d.flt.releasing) → Tab.wf none s.isl.ivs = true →
    (tap < 512 →
      ∃ t, Machine.exec (.islandSample tap p) s = .next t ∧ Obl.islandKeeps s t ∧ Obl.islandOnly s t ∧ t.isl.uncl = s.isl.uncl ∧
        t.isl.map = s.isl.map ∧ t.isl.next = s.isl.next ∧
        (∀ o v, s.isl.ivs.get none o = some v → v.inp ≠ tap → t.isl.ivs.get none o = some v) ∧
        (∀ o v c, s.isl.ivs.get none o = some v → v.inp = tap → s.isl.map.get none o = some c → (∀ b, v.pOut ≠ some (ms, b)) →
          t.isl.ivs.get none o = some { v with pIn := some (ms, p) })) ∧
    (∀ o v c a, tap = 512 + o → s.isl.ivs.get none o = some v → s.isl.map.get none o = some c → v.pIn = some (ms, a) →
      ∃ t w, Machine.exec (.islandSample tap p) s = .next t ∧
        t.isl = { s.isl with taps := s.isl.taps.set 0 tap (ms + 1), ivs := s.isl.ivs.set none o (some w) } ∧ w.pOut = some (ms, p) ∧
        Obl.sampled v w s.isl.blank (c.atten + (if c.bridge then 68 else 0)) a p ∧ Obl.islandOnly s t) ∧
    (∀ o, tap = 512 + o → s.isl.map.get none o = none → 317 ≤ p →
      ∃ t, Machine.exec (.islandSample tap p) s = .next t ∧ Obl.islandKeeps s t ∧ Obl.islandOnly s t ∧ t.isl.next = s.isl.next ∧
        (t.isl.uncl.get {} o).count = (if s.isl.blank then 0 else min 100 ((s.isl.uncl.get {} o).count + 1)) ∧
        (t.isl.uncl.get {} o).eOut = (s.isl.uncl.get {} o).eOut + (if (s.isl.uncl.get {} o).isOpen then p else 0)) ∧
    (∀ o, tap = 512 + o → s.isl.map.get none o = none → p < 317 → (s.isl.uncl.get {} o).isOpen = true → s.isl.reserve = false → Obl.storeRoom s →
      ∃ t rec, Machine.exec (.islandSample tap p) s = .next t ∧ Obl.wrote s t rec ∧ leField rec 8 1 = 3 ∧ leField rec 12 2 = 0x1FF ∧
        leField rec 24 8 = s.isl.tb1 % 2 ^ 64 ∧ leField rec 64 8 = (s.isl.uncl.get {} o).eOut % 2 ^ 64 ∧ t.isl.uncl.get {} o = {} ∧
        Obl.islandKeeps s t ∧ Obl.islandOnly s t)) ∧
  (∀ (s : State), s.isl.up = true →
    ∀ o, o < 512 → s.isl.map.get none o = none → (s.isl.uncl.get {} o).isOpen = false → 100 ≤ (s.isl.uncl.get {} o).count →
    ∃ t, Machine.exec (.unclaimedOpen o) s = .next t ∧ t.isl = { s.isl with
      uncl := s.isl.uncl.set {} o { s.isl.uncl.get {} o with isOpen := true, tStart := s.isl.tb1, sealedAll := s.isl.isSealed } } ∧
      Obl.islandOnly s t) ∧
  (∀ (s : State) (n stamp esn tb0 o : Nat) (rel : Bool) (e : LinkEntry), s.isl.up = true → s.isl.deaf = false → o < 512 → e.out = o →
    s.isl.fifo.find? (fun f => f.1 == n) = some (n, stamp) →
    (∀ p, e.inp = some p → s.isl.map.get none o = none → (s.isl.uncl.get {} o).isOpen = false →
      ∃ t, Machine.exec (.snapshotLinkDelta (some n) esn tb0 rel [e]) s = .next t ∧
        t.isl = { s.isl with
          lastLink := s.isl.mono, fifo := s.isl.fifo.filter (fun f => decide (n < f.1)),
          map := s.isl.map.set none o (some { inp := p, bridge := e.bridge, atten := e.atten }),
          ivs := s.isl.ivs.set none o (some { inp := p, tStart := stamp, esnStart := esn, tb0Start := some tb0, bridge := e.bridge,
                                              sealedAll := s.isl.isSealed, aClaim := e.atten + (if e.bridge then 68 else 0) }) } ∧
        Obl.islandOnly s t) ∧
    (∀ p c v, e.inp = some p → s.isl.map.get none o = some c → c.inp = p → s.isl.ivs.get none o = some v →
      ∃ t, Machine.exec (.snapshotLinkDelta (some n) esn tb0 rel [e]) s = .next t ∧ t.isl.next = s.isl.next ∧
        t.isl.ivs.get none o = some { v with
          bridge := v.bridge || e.bridge, aClaim := max v.aClaim (e.atten + (if e.bridge then 68 else 0)) } ∧
        (∀ k, k ≠ o → t.isl.ivs.get none k = s.isl.ivs.get none k) ∧ Obl.islandKeeps s t ∧ Obl.islandOnly s t) ∧
    (∀ c v, e.inp = none → s.isl.map.get none o = some c → s.isl.ivs.get none o = some v → s.isl.reserve = false → Obl.storeRoom s →
      ∃ t rec, Machine.exec (.snapshotLinkDelta (some n) esn tb0 rel [e]) s = .next t ∧ Obl.wrote s t rec ∧ leField rec 8 1 = 1 ∧
        leField rec 16 8 = v.tStart % 2 ^ 64 ∧ leField rec 24 8 = stamp % 2 ^ 64 ∧ leField rec 32 8 = v.esnStart % 2 ^ 64 ∧
        leField rec 40 8 = (if rel then 0 else esn % 2 ^ 64) ∧ leField rec 56 8 = v.eIn % 2 ^ 64 ∧ leField rec 64 8 = v.eOut % 2 ^ 64 ∧
        leField rec 76 4 = v.n % 2 ^ 32 ∧ leField rec 94 1 = (if v.contra then 1 else if 100 ≤ v.evald then 0 else 2) ∧
        bitOf (leField rec 10 2) 5 = uncertain s ∧ t.isl.ivs.get none o = none ∧ t.isl.map.get none o = none ∧
        (∀ k, k ≠ o → t.isl.ivs.get none k = s.isl.ivs.get none k) ∧ Obl.islandKeeps s t ∧ Obl.islandOnly s t) ∧
    (∀ c v, e.inp = none → s.isl.map.get none o = some c → s.isl.ivs.get none o = some v → s.isl.reserve = true →
      ∃ t, Machine.exec (.snapshotLinkDelta (some n) esn tb0 rel [e]) s = .next t ∧ t.isl.next = s.isl.next ∧ t.isl.chain = s.isl.chain ∧
        t.isl.gap.lost = s.isl.gap.lost + 1 ∧ t.isl.gap.energy = s.isl.gap.energy + v.eOut ∧ t.isl.ivs.get none o = none ∧
        Obl.islandKeeps s t ∧ Obl.islandOnly s t)) ∧
  (∀ (s : State) (st : Option Nat) (esn tb0 : Nat) (rel : Bool) (es : List LinkEntry), s.isl.up = true → s.isl.deaf = true →
    ∃ t, Machine.exec (.snapshotLinkDelta st esn tb0 rel es) s = .next t ∧ t.isl = { s.isl with lastLink := s.isl.mono } ∧ Obl.islandOnly s t) ∧
  (∀ (s : State) (es : List LinkEntry), s.isl.up = true →
    (s.isl.deaf = false →
      ∃ t, Machine.exec (.fullMap es) s = .next t ∧ t.isl = { s.isl with lastLink := s.isl.mono } ∧ Obl.islandOnly s t) ∧
    (s.isl.deaf = true →
      ∃ t, Machine.exec (.fullMap es) s = .next t ∧ t.isl.deaf = false ∧ t.isl.started = false ∧ t.isl.lastLink = s.isl.mono ∧
        (∀ o, o < 512 → t.isl.map.get none o = ((es.find? (fun e => e.out == o)).bind (fun e => e.inp.map (fun p =>
          ({ inp := p, bridge := e.bridge, atten := e.atten } : Claim))))) ∧
        (∀ o c, o < 512 → t.isl.map.get none o = some c → (t.isl.ivs.get none o).isSome = true) ∧ Obl.islandKeeps s t ∧ Obl.islandOnly s t)) ∧
  (∀ (s : State), s.isl.up = true → s.isl.deaf = false → s.isl.lastLink + 2000000000 < s.isl.mono →
    ∃ t, Machine.exec .linkSilence s = .next t ∧ t.isl = { s.isl with deaf := true } ∧ Obl.islandOnly s t)

/-- Records and the store (R361, R362, R365, R370 to R373): a split ends each interval with SPLIT_END and begins the next; a full block is signed,
and one open too long is filled first; a checkpoint saves what is open; a start writes its record, closes what the checkpoint had open, and TB1 goes
on from it, uncertain; a clock disagreement is FS91. States that these complete: split, blockSigning, checkpoint, islandStart, clockCheck,
iclkAgreement. Choices of the model: log entries 23, 86, 88. -/
def Obligations.IslandKeepsItsRecords : Prop :=
  (∀ (s : State) (k o : Nat) (v : Interval) (c : Claim), s.isl.up = true → k = s.isl.tb1 / (s.isl.splitMin * 60000000000) →
    s.isl.splitAt / (s.isl.splitMin * 60000000000) < k → s.isl.ivs = [(o, some v)] → s.isl.uncl = [] → s.isl.map.get none o = some c →
    s.isl.reserve = false → Obl.storeRoom s → (s.isl.next % 64 ≠ 63 ∨ 2 ≤ s.isl.freeBlocks) →
    ∃ t rec, Machine.exec .split s = .next t ∧ Obl.wrote s t rec ∧ leField rec 8 1 = 1 ∧ bitOf (leField rec 10 2) 3 = true ∧
      leField rec 24 8 = k * (s.isl.splitMin * 60000000000) % 2 ^ 64 ∧ leField rec 40 8 = 0 ∧
      t.isl.ivs.get none o = some { inp := c.inp, tStart := k * (s.isl.splitMin * 60000000000), splitStart := true, bridge := c.bridge,
                                    sealedAll := s.isl.isSealed, aClaim := c.atten + (if c.bridge then 68 else 0) } ∧
      t.isl.splitAt = k * (s.isl.splitMin * 60000000000) ∧ Obl.islandKeeps s t ∧ Obl.islandOnly s t) ∧
  (∀ (s : State) (b : Block), s.isl.up = true → b.trailer = none →
    s.isl.blocks.find? (fun x => x.trailer.isNone && (x.recs.length == 64 || decide (x.openAt + s.isl.blockMax * 60000000000 ≤ s.isl.mono))) =
      some b →
    (b.recs.length = 64 → (∀ x ∈ s.isl.blocks, x.num = b.num → x = b) →
      ∃ t tr, Machine.exec .blockSigning s = .next t ∧
        t.isl = { s.isl with
          blocks := s.isl.blocks.map (fun (x : Block) => if x.num = b.num then { x with trailer := some tr } else x),
          events := s.isl.events ++ [(1, b.num % 2 ^ 32, b.num / 2 ^ 32, 0)] } ∧
        tr.length = 4736 ∧ leField tr 0 8 = b.num % 2 ^ 64 ∧ leField tr 8 8 = 64 * b.num % 2 ^ 64 ∧ leField tr 16 8 = s.isl.tb1 % 2 ^ 64 ∧
        leField tr 24 64 = (Config.sha3 (b.recs.getLast?.getD [])).toNat ∧ (tr.drop 88).take 4627 = padTo 4627 (Config.sign true (tr.take 88)) ∧
        Obl.islandOnly s t) ∧
    (s.isl.blocks = [b] → b.num = s.isl.next / 64 → b.recs.length = s.isl.next % 64 → 0 < b.recs.length →
      ∃ t b', Machine.exec .blockSigning s = .next t ∧ t.isl.blocks = [b'] ∧ t.isl.next = 64 * b.num + 64 ∧ b'.num = b.num ∧ b'.recs.length = 64 ∧
        b'.recs.take b.recs.length = b.recs ∧ (∀ r ∈ b'.recs.drop b.recs.length, leField r 8 1 = 7) ∧ b'.trailer.isSome = true ∧
        Obl.islandKeeps s t ∧ Obl.islandOnly s t)) ∧
  (∀ (s : State), s.isl.up = true → s.isl.ckptAt + 1000000000 ≤ s.isl.mono →
    ∃ t, Machine.exec .checkpoint s = .next t ∧ t.isl = { s.isl with
      ckptAt := s.isl.mono, ckpt := s.isl.tb1, ckptIvs := s.isl.ivs, ckptUncl := s.isl.uncl, ckptGap := s.isl.gap } ∧ Obl.islandOnly s t) ∧
  (∀ (s : State), (s.isl.up = false ∨ s.isl.dip = true) → s.isl.ckptUncl = [] → Obl.storeRoom s →
    (s.isl.ckptIvs = [] →
      ∃ t rec, Machine.exec .islandStart s = .next t ∧ Obl.wrote s t rec ∧ leField rec 8 1 = 4 ∧ bitOf (leField rec 10 2) 5 = true ∧
        leField rec 16 8 = s.isl.ckpt % 2 ^ 64 ∧ leField rec 104 8 = s.isl.ckpt % 2 ^ 64 ∧ leField rec 112 4 = 0 ∧ t.isl.up = true ∧
        t.isl.tb1 = s.isl.ckpt ∧ t.isl.uncStart = true ∧ t.isl.addr = 0x58 + s.d.pwr.strapId % 4 ∧ t.isl.map = [] ∧ t.isl.deaf = true ∧
        t.isl.ivs = [] ∧ t.isl.chal = none ∧ t.isl.ackNext = s.isl.ackNext ∧ t.isl.sealF = s.isl.sealF ∧ t.isl.unsealF = s.isl.unsealF ∧
        Obl.islandOnly s t) ∧
    (∀ o v, s.isl.ckptIvs = [(o, some v)] → s.isl.next % 64 ≠ 0 → s.isl.next % 64 < 62 → s.isl.reserve = false →
      ∃ t r1 r2, Machine.exec .islandStart s = .next t ∧ t.isl.next = s.isl.next + 2 ∧ t.isl.recAt s.isl.next = some r1 ∧ leField r1 8 1 = 4 ∧
        leField r1 112 4 = 1 ∧ t.isl.recAt (s.isl.next + 1) = some r2 ∧ leField r2 8 1 = 1 ∧ bitOf (leField r2 10 2) 1 = true ∧
        leField r2 24 8 = s.isl.ckpt % 2 ^ 64 ∧ leField r2 64 8 = v.eOut % 2 ^ 64 ∧ leField r2 192 64 = (Config.sha3 r1).toNat ∧
        t.isl.ivs = [] ∧ Obl.islandOnly s t)) ∧
  (∀ (s : State), s.isl.up = true → s.isl.uncClock = false →
    ∃ t, Machine.exec .clockCheck s = .next t ∧ t.isl = { s.isl with uncClock := true } ∧ 0 ∈ (t.d.src 91).conds ∧ uncertain t = true ∧
      Obl.islandOnly s t) ∧
  (∀ (s : State), s.isl.up = true → s.isl.uncClock = true →
    ∃ t, Machine.exec .iclkAgreement s = .next t ∧ t.isl = { s.isl with uncClock := false } ∧ 0 ∉ (t.d.src 91).conds ∧ Obl.islandOnly s t)

/-- The reader port (R361, R371, R374 to R377): its reads answer at the island's address; its writes leave their result; only TIME_SET sets TB1, and
it ends the start's uncertainty; a seal change needs a valid token, and a refused one leaves result 5; nothing is configured while sealed. States
that these complete: identify, lastResult, seek, read, ack, timeSet, challenge, token, sealOp, configWrite. Choices of the model: log entries 85,
87. -/
def Obligations.ReaderPortAnswers : Prop :=
  (∀ (s : State), s.isl.up = true →
    (∃ t later bs, Machine.exec .identify s = .next t ∧ t.d.io.out = later ++ Out.reader s.isl.addr bs :: s.d.io.out ∧ bs.length = 224 ∧
      leField bs 0 1 = 1 ∧ leField bs 1 1 = (if s.isl.seals = 0 then 0 else if s.isl.unsealF < s.isl.seals then 1 else 2) ∧
      leField bs 184 8 = s.isl.tb1 % 2 ^ 64 ∧ leField bs 192 2 = s.isl.epoch % 65536 ∧ bitOf (leField bs 194 2) 0 = uncertain s ∧
      leField bs 196 8 = s.isl.next % 2 ^ 64 ∧ leField bs 204 8 = s.isl.ackNext % 2 ^ 64 ∧ leField bs 214 2 = s.isl.splitMin % 65536 ∧
      leField bs 216 2 = s.isl.blockMax % 65536 ∧ t.isl = s.isl ∧ Obl.islandOnly s t) ∧
    (∃ t later, Machine.exec .lastResult s = .next t ∧
      t.d.io.out = later ++ Out.reader s.isl.addr [BitVec.ofNat 8 s.isl.lastResult] :: s.d.io.out ∧ t.isl = s.isl ∧ Obl.islandOnly s t) ∧
    (∃ t later, Machine.exec .challenge s = .next t ∧
      t.d.io.out = later ++ Out.reader s.isl.addr (bytesLE (Config.fresh s.d.fresh).toNat 32) :: s.d.io.out ∧
      t.isl = { s.isl with chal := some (Config.fresh s.d.fresh, s.isl.mono + 60000000000) } ∧ t.d.fresh = s.d.fresh + 1 ∧ t.net = s.net ∧
      t.mem = s.mem ∧ t.pending = s.pending ∧ Dev.sameBut [.src, .flt, .fns, .views, .fresh] s.d t.d)) ∧
  (∀ (s : State) (x : Nat), s.isl.up = true →
    (∃ t, Machine.exec (.seek 1 x) s = .next t ∧
      t.isl = { s.isl with lastResult := 0, token := [], certs := true, streamPos := 0, streamOff := 0, inTrailer := false } ∧ Obl.islandOnly s t) ∧
    (∃ t, Machine.exec (.seek 0 x) s = .next t ∧ Obl.islandOnly s t ∧
      (s.isl.next ≤ x → t.isl = { s.isl with lastResult := 4, token := [] }) ∧
      (x < s.isl.next → x < s.isl.oldest → t.isl = { s.isl with lastResult := 2, token := [] }) ∧
      (x < s.isl.next → s.isl.oldest ≤ x →
        t.isl = { s.isl with lastResult := 0, token := [], certs := false, streamPos := x, streamOff := 0, inTrailer := false }))) ∧
  (∀ (s : State) (r : List Byte), s.isl.up = true → s.isl.certs = false → s.isl.inTrailer = false → s.isl.streamOff = 0 →
    (s.isl.oldest ≤ s.isl.streamPos → s.isl.recAt s.isl.streamPos = some r → r.length = 256 →
      ∃ t later, Machine.exec (.read 241) s = .next t ∧ t.d.io.out = later ++ Out.reader s.isl.addr (0 :: r.take 240) :: s.d.io.out ∧
        t.isl = { s.isl with streamOff := 240 } ∧ Obl.islandOnly s t) ∧
    (s.isl.oldest ≤ s.isl.streamPos → s.isl.recAt s.isl.streamPos = none →
      ∃ t later, Machine.exec (.read 241) s = .next t ∧ t.d.io.out = later ++ Out.reader s.isl.addr [1] :: s.d.io.out ∧ t.isl = s.isl ∧
        Obl.islandOnly s t) ∧
    (s.isl.streamPos < s.isl.oldest →
      ∃ t later, Machine.exec (.read 241) s = .next t ∧ t.d.io.out = later ++ Out.reader s.isl.addr [2] :: s.d.io.out ∧ t.isl = s.isl ∧
        Obl.islandOnly s t)) ∧
  (∀ (s : State) (k : DWord), s.isl.up = true → s.isl.reserve = false →
    ∃ t, Machine.exec (.ack k) s = .next t ∧ Obl.islandOnly s t ∧
      (s.isl.next ≤ k.toNat → t.isl = { s.isl with lastResult := 4, token := [] }) ∧
      (k.toNat < s.isl.next → t.isl = { s.isl with lastResult := 0, token := [], ackNext := max s.isl.ackNext (k.toNat + 1) })) ∧
  (∀ (s : State) (v : DWord), s.isl.up = true → Obl.storeRoom s →
    ∃ t rec, Machine.exec (.timeSet v) s = .next t ∧ Obl.wrote s t rec ∧ leField rec 8 1 = 5 ∧ leField rec 16 8 = v.toNat ∧
      leField rec 104 8 = s.isl.tb1 % 2 ^ 64 ∧ leField rec 96 2 = (s.isl.epoch + 1) % 65536 ∧ t.isl.tb1 = v.toNat ∧
      t.isl.epoch = (s.isl.epoch + 1) % 65536 ∧ t.isl.uncStart = false ∧ t.isl.uncClock = s.isl.uncClock ∧ t.isl.lastResult = 0 ∧
      t.isl.ivs = s.isl.ivs ∧ t.isl.map = s.isl.map ∧ t.isl.ackNext = s.isl.ackNext ∧ Obl.islandOnly s t) ∧
  (∀ (s : State) (n : Nat) (bs : List Byte), s.isl.up = true → n < 20 → bs ≠ [] → bs.length ≤ 239 →
    ∃ t, Machine.exec (.token n bs) s = .next t ∧ t.isl = { s.isl with lastResult := 0, token := s.isl.token.set [] n bs } ∧ Obl.islandOnly s t) ∧
  (∀ (s : State) (op : Nat), s.isl.up = true → op ≤ 1 →
    (op = 1 ∧ (s.isl.unsealF < s.isl.seals ∨ 8 ≤ s.isl.seals) ∨ op = 0 ∧ 8 ≤ s.isl.unsealF →
      ∃ t, Machine.exec (.sealOp op) s = .next t ∧ t.isl = { s.isl with lastResult := 3, token := [] } ∧ Obl.islandOnly s t) ∧
    (op = 1 ∧ s.isl.seals ≤ s.isl.unsealF ∧ s.isl.seals < 8 ∨ op = 0 ∧ s.isl.unsealF < 8 → Obl.storeRoom s →
      ∃ t, Machine.exec (.sealOp op) s = .next t ∧ Obl.islandOnly s t ∧
        (s.isl.tokenOk op = false → t.isl = { s.isl with lastResult := 5, token := [] }) ∧
        (s.isl.tokenOk op = true → t.isl.sealF = s.isl.sealF + (if op = 1 then 1 else 0) ∧
          t.isl.unsealF = s.isl.unsealF + (if op = 0 then 1 else 0) ∧ t.isl.lastResult = 0 ∧ t.isl.token = [] ∧
          ∃ rec, Obl.wrote s t rec ∧ leField rec 8 1 = 6 ∧ leField rec 106 1 = t.isl.unsealF % 256 ∧
            leField rec 108 64 = (Config.sha3 s.isl.tokenBytes).toNat))) ∧
  (∀ (s : State) (bs : List Byte), s.isl.up = true →
    (s.isl.unsealF < s.isl.seals →
      ∃ t, Machine.exec (.configWrite bs) s = .next t ∧ t.isl = { s.isl with lastResult := 3, token := [] } ∧ Obl.islandOnly s t) ∧
    (s.isl.seals ≤ s.isl.unsealF → 2 ≤ bs.length → bs.length ≤ 240 →
      ∃ t, Machine.exec (.configWrite bs) s = .next t ∧ t.isl.cfgData = s.isl.cfgData ++ [bs] ∧ 1 ≤ t.isl.splitMin ∧ t.isl.splitMin ≤ 1440 ∧
        1 ≤ t.isl.blockMax ∧ t.isl.blockMax ≤ 1440 ∧ t.isl.lastResult = 0 ∧ t.isl.tb1 = s.isl.tb1 ∧ t.isl.next = s.isl.next ∧
        t.isl.sealF = s.isl.sealF ∧ t.isl.unsealF = s.isl.unsealF ∧ Obl.islandOnly s t))

/-- The mailbox (R286, R378 to R380): a heartbeat refreshes the MI registers, then writes the island's events; 100 ms without one is FS90, and what
waits completes BLOCKED; ISLAND_READ passes to the island, which answers in order: the record or structure first, then the completion. States that
these complete: islandRead, islandHeartbeat, heartbeatLoss, islandReply. Choices of the model: log entry 88. -/
def Obligations.MailboxCarriesRequests : Prop :=
  (∀ (s : State), s.isl.up = true → s.d.clocked = true →
    ∃ t, Machine.exec .islandHeartbeat s = .next t ∧ t.d.mi.alive = true ∧ t.d.mi.lastBeat = s.d.tb2 ∧ t.d.mi.next = s.isl.next ∧
      t.d.mi.ack = s.isl.ackNext ∧ t.d.mi.tb1 = s.isl.tb1 ∧ t.d.mi.free = s.isl.freeBlocks ∧ t.d.mi.uncertain = uncertain s ∧
      t.d.mi.clockFault = s.isl.uncClock ∧ t.d.mi.reserve = s.isl.reserve ∧ t.d.mi.hostAck = s.isl.ackSrc ∧
      t.d.mi.gap = s.isl.gap.pend + s.isl.gap.all ∧ t.d.mi.reqs = s.d.mi.reqs ∧ t.isl = { s.isl with events := [] } ∧ 0 ∉ (t.d.src 90).conds ∧
      (s.isl.events ≠ [] → s.d.mi.evtEn = true → bitOf ((t.d.view 0).leaf.get 0 0x1D0) 0 = true) ∧ t.net = s.net ∧ t.mem = s.mem ∧
      t.pending = s.pending ∧ Dev.sameBut [.mi, .src, .flt, .fns, .views] s.d t.d) ∧
  (∀ (s : State), 0 ∉ (s.d.src 90).conds → s.d.mi.lastBeat + 100000000 ≤ s.d.tb2 → s.d.clocked = true → s.d.mi.reqs = [] →
    ∃ t, Machine.exec .heartbeatLoss s = .next t ∧ t.d.mi = { s.d.mi with alive := false } ∧ 0 ∈ (t.d.src 90).conds ∧
      (t.d.src 90).count = min ((s.d.src 90).count + 1) 65535 ∧ bitOf ((t.d.view 0).leaf.get 0 0x1D0) 2 = true ∧
      State.sameBut [.mi, .src, .flt, .fns, .views] s t) ∧
  (∀ (s : State) (c : Cmd), Obl.adminFront s 0 0x45 c →
    (sqeClean c.sqe = true → sqeAddr c.sqe % 8 = 0 → sqeField c.sqe 20 1 ≤ 2 → s.d.mi.alive = true →
      ∃ t, Machine.exec (.islandRead 0) s = .next t ∧ t.d.mi = { s.d.mi with reqs := s.d.mi.reqs ++ [(0, c.idx, c.sqe)] } ∧
        (t.d.fn 0).cmds = [{ c with executed := true }] ∧ State.sameBut [.mi, .fns] s t) ∧
    (sqeClean c.sqe = true → sqeAddr c.sqe % 8 = 0 → sqeField c.sqe 20 1 ≤ 2 → s.d.mi.alive = false →
      ∃ t, Machine.exec (.islandRead 0) s = .next t ∧ State.adminAnswers s t 0 { status := stBlocked, cid := sqeCid c.sqe } ∧
        State.sameBut [.fns] s t) ∧
    (sqeClean c.sqe = false ∨ sqeAddr c.sqe % 8 ≠ 0 ∨ 2 < sqeField c.sqe 20 1 →
      ∃ t, Machine.exec (.islandRead 0) s = .next t ∧ State.adminAnswers s t 0 { status := stMalformed, cid := sqeCid c.sqe } ∧
        State.sameBut [.fns] s t)) ∧
  (∀ (s : State) (c : Cmd) (rest : List (Nat × Nat × Sqe)), s.d.mi.reqs = (0, c.idx, c.sqe) :: rest → s.isl.up = true → s.d.clocked = true →
    (s.d.fn 0).cmds = [c] → (s.d.fn 0).orphans = [] → (s.d.fn 0).flrAt = none → (s.d.fn 0).aqActive = true →
    (sqeField c.sqe 20 1 = 2 → s.isl.ackSrc = true → sqeField c.sqe 24 8 < s.isl.next → s.isl.reserve = false →
      ∃ t, Machine.exec .islandReply s = .next t ∧ t.isl = { s.isl with ackNext := max s.isl.ackNext (sqeField c.sqe 24 8 + 1) } ∧
        State.adminAnswers s t 0 { dw3 := t.isl.ackNext - s.isl.ackNext, cid := sqeCid c.sqe } ∧ t.d.mi = { s.d.mi with reqs := rest } ∧
        bitOf ((t.d.view 0).leaf.get 0 0x1D0) 1 = true ∧ t.net = s.net ∧ t.mem = s.mem ∧ t.pending = s.pending ∧
        Dev.sameBut [.mi, .src, .flt, .fns, .views] s.d t.d) ∧
    (sqeField c.sqe 20 1 = 2 → s.isl.ackSrc = false →
      ∃ t, Machine.exec .islandReply s = .next t ∧ t.isl = s.isl ∧ State.adminAnswers s t 0 { status := stBlocked, cid := sqeCid c.sqe } ∧
        t.d.mi = { s.d.mi with reqs := rest } ∧ Obl.islandOnly s { t with d := { t.d with mi := s.d.mi } }) ∧
    (∀ r, sqeField c.sqe 20 1 = 1 → s.isl.oldest ≤ sqeField c.sqe 24 8 → sqeField c.sqe 24 8 < s.isl.next → sqeField c.sqe 32 4 = 1 →
      sqeField c.sqe 16 4 = 256 → s.isl.recAt (sqeField c.sqe 24 8) = some r → r.length = 256 →
      ∃ t later mid, Machine.exec .islandReply s = .next t ∧ t.isl = s.isl ∧
        t.d.io.out = later ++ Out.hostWrite ((s.d.fn 0).acq.base + 32 * (s.d.fn 0).acq.tail)
          (({ dw2 := 256, dw3 := 1, cid := sqeCid c.sqe } : Comp).dws (s.d.fn 0).aqHead 0 true (s.d.fn 0).acq.phase) ::
          (mid ++ Out.hostBulk (sqeAddr c.sqe) r :: s.d.io.out) ∧
        Obl.islandOnly s { t with d := { t.d with mi := s.d.mi } }))

/-! ## SPDM and debug (14) -/

/-- A request is answered on its transport with a response code and the bytes that the manual forms, before those of SPDM itself. -/
def Obl.spdmAnswers (s t : State) (doe : Bool) (code : Nat) (bs : List Byte) : Prop :=
  (∃ later, t.d.io.out = later ++ Out.spdm doe code (bs ++ Config.spdmBody s.d.fresh) :: s.d.io.out) ∧ t.d.fresh = s.d.fresh + 1

/-- SPDM (R381, R391 to R393): a request in order is answered with its response; of slot 0 alone; measurements as R393 lists them; one session at a
time on a transport, ended by END_SESSION or a heartbeat that does not come, with ATN_SEC bit 4. A bad request is answered ERROR. States that these
complete: getVersion, getCapabilities, negotiateAlgorithms, getDigests, getCertificate, spdmChallenge, getMeasurements, keyExchange, finish,
heartbeat, endSession, heartbeatTimeout. Choices of the model: log entries 7, 90. -/
def Obligations.SpdmIsAnswered : Prop :=
  (∀ (s : State) (doe : Bool) (m : SpdmMsg) (i : Instr), s.d.spdmUp doe = true → m.good = false →
    i ∈ [.getVersion doe m, .getCapabilities doe m, .negotiateAlgorithms doe m, .getDigests doe m, .getCertificate doe m, .spdmChallenge doe m,
      .getMeasurements doe m, .keyExchange doe m, .finish doe m, .heartbeat doe m, .endSession doe m] →
    ∃ t, Machine.exec i s = .next t ∧ Obl.spdmAnswers s t doe 0x7F [] ∧ State.sameBut [.fresh] s t) ∧
  (∀ (s : State) (doe : Bool) (m : SpdmMsg) (i : Instr) (code : Nat) (bs : List Byte), s.d.spdmUp doe = true → m.good = true →
    (i, code, bs) ∈ [(Instr.getVersion doe m, 0x04, []), (.getCapabilities doe m, 0x61, []), (.negotiateAlgorithms doe m, 0x63, []),
        (.getDigests doe m, 0x01, digestBytes (Config.sha3 (Config.certChain false)))] ++
      (if m.param = 0 then [(.getCertificate doe m, 0x02, Config.certChain false),
        (.spdmChallenge doe m, 0x03, Config.sign false (Config.spdmBody s.d.fresh)), (.getMeasurements doe m, 0x60, 8 :: Config.sign false [8])]
       else [(.getCertificate doe m, 0x7F, []), (.spdmChallenge doe m, 0x7F, [])]) ++
      (if 8 < m.param ∧ m.param ≠ 255 then [(.getMeasurements doe m, 0x7F, [])] else []) →
    ∃ t, Machine.exec i s = .next t ∧ Obl.spdmAnswers s t doe code bs ∧ State.sameBut [.fresh] s t) ∧
  (∀ (s : State) (doe : Bool) (m : SpdmMsg), s.d.spdmUp doe = true → m.good = true → 1 ≤ m.param → m.param ≤ 8 →
    ∃ t bs, Machine.exec (.getMeasurements doe m) s = .next t ∧ Obl.spdmAnswers s t doe 0x60 (bs ++ Config.sign false bs) ∧
      (m.param = 5 → (∀ b, s.d.cal.inForce = some b → leField bs 0 8 = (s.d.cal.bank b).gen % 2 ^ 64) ∧
        (s.d.cal.inForce = none → bs = List.replicate 72 0)) ∧
      (m.param = 6 → bs = bytesLE s.d.sec.counter 1 ++ bytesLE s.d.sec.revoked 1 ++ bytesLE s.d.sec.level 1 ++ bytesLE (b2n s.d.sec.fallback) 1) ∧
      (m.param = 7 → leField bs 68 1 = s.d.mi.sealState % 256) ∧
      (m.param = 8 → bs = (if s.d.sec.staged then (s.d.sec.image (!s.d.sec.preferred)).take 128 else List.replicate 128 0)) ∧
      State.sameBut [.fresh] s t) ∧
  (∀ (s : State) (doe : Bool) (m : SpdmMsg), s.d.spdmUp doe = true → m.good = true →
    ((s.d.session doe).state = 0 →
      ∃ t, Machine.exec (.keyExchange doe m) s = .next t ∧ Obl.spdmAnswers s t doe 0x64 (Config.sign false (Config.spdmBody s.d.fresh)) ∧
        t.d.session doe = { state := 1, period := m.param % 256 } ∧ t.d.session (!doe) = s.d.session (!doe) ∧ State.sameBut [.sec, .fresh] s t) ∧
    ((s.d.session doe).state = 1 →
      ∃ t, Machine.exec (.finish doe m) s = .next t ∧ Obl.spdmAnswers s t doe 0x65 [] ∧
        t.d.session doe = { s.d.session doe with
          state := 2, beat := (if (s.d.session doe).period = 0 then none else some (s.d.tb2 + 2000000000 * (s.d.session doe).period)) } ∧
        t.d.session (!doe) = s.d.session (!doe) ∧ State.sameBut [.sec, .fresh] s t) ∧
    ((s.d.session doe).state = 2 →
      (∃ t, Machine.exec (.heartbeat doe m) s = .next t ∧ Obl.spdmAnswers s t doe 0x68 [] ∧
        t.d.session doe = { s.d.session doe with
          beat := (if (s.d.session doe).period = 0 then none else some (s.d.tb2 + 2000000000 * (s.d.session doe).period)) } ∧
        State.sameBut [.sec, .fresh] s t) ∧
      (∃ t, Machine.exec (.endSession doe m) s = .next t ∧ Obl.spdmAnswers s t doe 0x6C [] ∧ t.d.session doe = {} ∧
        t.d.session (!doe) = s.d.session (!doe) ∧ bitOf ((t.d.view 0).leaf.get 0 0x1D4) 4 = true ∧ State.sameBut [.sec, .fresh, .views] s t)) ∧
    (∀ i, i ∈ (if (s.d.session doe).state = 0 then [] else [Instr.keyExchange doe m]) ++ (if (s.d.session doe).state =
      1 then [] else [.finish doe m]) ++
        (if (s.d.session doe).state = 2 then [] else [.heartbeat doe m, .endSession doe m]) →
      ∃ t, Machine.exec i s = .next t ∧ Obl.spdmAnswers s t doe 0x7F [] ∧ State.sameBut [.fresh] s t)) ∧
  (∀ (s : State) (doe : Bool) (e : Nat), (s.d.session doe).beat = some e → e ≤ s.d.tb2 → (s.d.session doe).state = 2 →
    ∃ t, Machine.exec (.heartbeatTimeout doe) s = .next t ∧ t.d.session doe = {} ∧ t.d.session (!doe) = s.d.session (!doe) ∧
      bitOf ((t.d.view 0).leaf.get 0 0x1D4) 4 = true ∧ State.sameBut [.sec, .views] s t)

/-- The command i, in the state s, is one of the cases that end the session of a transport (R392). -/
def Obl.sessionEndsBy (s : State) (doe : Bool) (i : Instr) : Prop :=
  (∃ m, i = .endSession doe m ∧ s.d.spdmUp doe = true ∧ m.good = true ∧ (s.d.session doe).state = 2) ∨
  (∃ e, i = .heartbeatTimeout doe ∧ (s.d.session doe).beat = some e ∧ e ≤ s.d.tb2) ∨
  (∃ memory, i = .supervisorRestart memory ∧ s.d.pwr.supUp = true ∧ s.d.sec.restart = none ∧ s.d.clocked = true) ∨
  i = .flr 0 ∧ doe = true ∧ s.d.reach 0 = true ∨ i = .linkDown ∧ s.d.io.linkUp = true

/-- Sessions end (R392): by END_SESSION, a heartbeat that does not come, a supervisor restart, an FLR of PF0 for the DOE session, and the loss of
the link; each end sets ATN_SEC bit 4. -/
def Obligations.SessionsEnd : Prop :=
  ∀ (s : State) (doe : Bool) (i : Instr), (s.d.session doe).state ≠ 0 → Obl.sessionEndsBy s doe i →
    ∃ t, Machine.exec i s = .next t ∧ t.d.session doe = {} ∧ bitOf ((t.d.view 0).leaf.get 0 0x1D4) 4 = true

/-- An unlock is attempted with a token (R395): refused in lockout; a valid token sets LEVEL and is FS82; another is FS81, and the third in a Dawn
locks out. Either ends the challenge. -/
def Obl.unlockTried (s t : State) (token : List Byte) : Prop :=
  bitOf ((t.d.view 0).leaf.get 0 0x1D4) 3 = true ∧ State.sameBut [.sec, .views, .src, .flt, .fns] s t ∧
  (s.d.sec.lockout = true → t.d.sec = s.d.sec ∧ t.d.flt.src = s.d.flt.src) ∧
  (s.d.sec.lockout = false → s.d.dbgTokenOk token = true →
    t.d.sec = { s.d.sec with level := leField token 48 1, chalEnd := none } ∧ (t.d.src 82).count = min ((s.d.src 82).count + 1) 65535) ∧
  (s.d.sec.lockout = false → s.d.dbgTokenOk token = false →
    t.d.sec = { s.d.sec with chalEnd := none, fails := s.d.sec.fails + 1, lockout := decide (3 ≤ s.d.sec.fails + 1) } ∧
      (t.d.src 81).count = min ((s.d.src 81).count + 1) 65535)

/-- Debug (R330, R394, R395): a challenge is fresh and lasts 60 s; tokens come through memory or the TAP; RELOCK returns to LEVEL 0; EXTEST holds a
cause of blank, IDCODE is read, and a locked instruction acts as BYPASS. States that these complete: chalReq, submit, relock, dbgChal, dbgToken,
jtagInstructionLoad. Choices of the model: log entries 4, 91. -/
def Obligations.DebugIsUnlockedByToken : Prop :=
  (∀ (s : State), s.d.reach 0 = true →
    ∃ t, Machine.exec (.chalReq 0 1) s = .next t ∧ t.d.sec = { s.d.sec with
      chal := Config.fresh s.d.fresh, chalEnd := some (s.d.tb2 + 60000000000) } ∧ t.d.fresh = s.d.fresh + 1 ∧ State.sameBut [.sec, .fresh] s t) ∧
  (∀ (s : State), s.d.clocked = true → s.d.pwr.supUp = true →
    ∃ t later, Machine.exec .dbgChal s = .next t ∧ t.d.sec = { s.d.sec with
      chal := Config.fresh s.d.fresh, chalEnd := some (s.d.tb2 + 60000000000) } ∧
      t.d.io.out = later ++ Out.tap (bytesLE (Config.fresh s.d.fresh).toNat 32) :: s.d.io.out ∧ State.sameBut [.sec, .fresh] s t) ∧
  (∀ (s : State) (token : List Byte), s.d.reach 0 = true →
    (∃ t, Machine.exec (.submit 0 2 token .ok) s = .next t ∧ Obl.unlockTried s t token) ∧
    (∀ how, how ≠ .ok → ∃ t, Machine.exec (.submit 0 2 token how) s = .next t ∧ t.d.sec = s.d.sec ∧ (t.d.src 63).latched = true ∧
      State.sameBut [.src, .flt, .fns, .views] s t)) ∧
  (∀ (s : State) (token : List Byte), s.d.clocked = true → s.d.pwr.supUp = true →
    ∃ t, Machine.exec (.dbgToken token) s = .next t ∧ Obl.unlockTried s t token) ∧
  (∀ (s : State), s.d.reach 0 = true →
    ∃ t, Machine.exec (.relock 0 4) s = .next t ∧ t.d.sec = { s.d.sec with level := 0 } ∧ State.sameBut [.sec] s t) ∧
  (∀ (s : State) (code i : Nat), s.d.pwr.off = false → i = (if 4 ≤ code ∧ s.d.sec.level = 0 then 3 else code) →
    (i ≠ 0 → s.d.blankCause = false → s.d.blankOn = false →
      ∃ t later, Machine.exec (.jtagInstructionLoad code) s = .next t ∧ t.d.sec = { s.d.sec with jtag := i } ∧
        t.d.io.out = later ++ (if i = 2 then [Out.tap [0x6B, 0x2A, 0xA1, 0x15]] else []) ++ s.d.io.out ∧ State.sameBut [.sec] s t) ∧
    (i = 0 → s.d.drv.armed = true → Obl.calm s → (∀ k, k < 16 → (s.d.slot k).state = .free) → s.d.cmt.restoring = [] →
      Tab.wf {} s.d.fab.cells = true →
      ∃ t, Machine.exec (.jtagInstructionLoad code) s = .next t ∧ t.d.sec.jtag = 0 ∧ t.d.flt.extest = true ∧ t.d.flt.blank = true ∧
        t.d.flt.permit = false ∧ (∀ ca, isOutVoa ca = true → (t.d.cell ca).f = (s.d.cell ca).blankCode ∧ t.d.blanked ca = true) ∧
        (∀ ca, isOutVoa ca = false → t.d.cell ca = s.d.cell ca) ∧ State.sameBut [.sec, .flt, .views, .fab, .mon] s t))

/-! ## Power, clocks, temperature (15) -/

/-- The fatal source n rises in a calm, armed device: its condition stands, blank takes every output VOA to its blank code,
  the permit is withdrawn and
every loop is held at its power (R321, R329 to R331). -/
def Obl.fatalRises (s t : State) (n : Nat) : Prop :=
  (t.d.src n).latched = true ∧ (t.d.src n).count = min ((s.d.src n).count + 1) 65535 ∧ t.d.flt.fatal = true ∧
  t.d.flt.fatalCnt = min (s.d.flt.fatalCnt + 1) 65535 ∧ t.d.flt.blank = true ∧ t.d.flt.permit = false ∧
  (∀ ca, isOutVoa ca = true → (t.d.cell ca).f = (s.d.cell ca).blankCode) ∧
  (∀ ca ∈ allCells, ∀ aa ∈ heatersOf ca,
    (t.d.loop aa).mode = 3 ∧ (t.d.loop aa).prevMode = some ((s.d.loop aa).prevMode.getD (s.d.loop aa).mode) ∧ (t.d.loop aa).u = (s.d.loop aa).u)

/-- A calm device with armed drivers, no batch in the commit unit, and its tables in canonical form. -/
def Obl.quietDevice (s : State) : Prop :=
  Obl.calm s ∧ s.d.drv.armed = true ∧ (∀ k, k < 16 → (s.d.slot k).state = .free) ∧ s.d.cmt.restoring = [] ∧
  Tab.wf {} s.d.fab.cells = true ∧ Tab.wf {} s.d.fab.loops = true ∧ s.d.pwr.off = false

/-- The condition of the fatal source n stands, and holds the fatal state and blank. -/
def Obl.fatalStands (s : State) (n : Nat) (i : Inst) : Prop :=
  s.d.flt.fatal = true ∧ s.d.flt.relock = none ∧ s.d.flt.blank = true ∧ s.d.flt.releasing = false ∧ s.d.flt.causeEnd = none ∧
  (s.d.src n).conds = [0] ∧ (s.d.src n).insts = [i] ∧ i.scope = 0 ∧ i.full = true ∧ i.since = none ∧ (s.d.src n).force = false ∧ s.d.pwr.off = false

/-- It ends: its quiet time starts, and the fatal state and blank go on until it has recovered (R328, R329). -/
def Obl.fatalQuiets (s t : State) (n : Nat) (i : Inst) : Prop :=
  t.d.src n = { s.d.src n with conds := [], insts := [{ i with since := some s.d.tb2 }] } ∧ t.d.flt.fatal = true ∧ t.d.flt.blank = true ∧
  (∀ k, k ≠ n → t.d.src k = s.d.src k)

/-- Dawn (R334, R341, R389, R390, R408 to R413): it starts at D0 with VIN48 good, or by request in PARKED, with every register at its reset value
and the map empty; its steps follow one another as their conditions are met; it stops at D0, D1 or D2 for what R411 lists, waits in the fatal state,
and gives way to a requested Dusk; at D8 it is done. States that these complete: vin48Good, dawnReq, dawnStepEnd. Choices of the model: log entry
92. -/
def Obligations.DawnRunsItsSteps : Prop :=
  (∀ (s : State) (ref : Bool) (strap : BitVec 4), (s.d.pwr.off = true ∨ s.d.pwr.phase = .stopped ∧ s.d.pwr.halt = 1) →
    (s.isl.up = false ∨ s.isl.uncClock = false) →
    ∃ t, Machine.exec (.vin48Good ref strap) s = .next t ∧ t.d.pwr = { refSel := ref, strapId := strap.toNat } ∧ t.net = {} ∧ t.mem = {} ∧
      t.isl = s.isl ∧ t.pending = s.pending ∧ t.d.tim = {} ∧ t.d.fab = {} ∧ t.d.cmt = {} ∧ t.d.jobs = {} ∧ t.d.mon = {} ∧ t.d.drv = {} ∧
      t.d.seq = {} ∧ t.d.mi = {} ∧ t.d.thm = {} ∧ t.d.glb = {} ∧ t.d.bmx = {} ∧ t.d.pmc = {} ∧ t.d.io.queues = [] ∧ t.d.io.owner = [] ∧
      t.d.io.linkUp = false ∧ t.d.flt.src = [] ∧ t.d.cal = { bankA := s.d.cal.bankA, bankB := s.d.cal.bankB } ∧
      t.d.sec.counter = s.d.sec.counter ∧ t.d.sec.revoked = s.d.sec.revoked ∧ t.d.sec.preferred = s.d.sec.preferred ∧ t.d.sec.level = 0) ∧
  (∀ (s : State) (v : Word), s.d.reach 0 = true → bitOf v.toNat 1 = true → s.d.pwr.phase = .parked →
    (∀ n, n < 13 → (s.d.src n).conds = [] ∧ (s.d.src n).force = false) → s.d.pwr.vinWarn = false → (s.isl.up = false ∨ s.isl.uncClock = false) →
    ∃ t, Machine.exec (.dawnReq 0 v) s = .next t ∧ t.d.pwr.phase = .dawn ∧ t.d.pwr.step = 0 ∧ t.d.pwr.done = false ∧
      t.d.pwr.rails = s.d.pwr.rails ∧ t.d.pwr.pllLock = s.d.pwr.pllLock ∧ t.net = {} ∧ t.isl = s.isl ∧ t.pending = s.pending ∧ t.d.tim = {} ∧
      t.d.fab = {} ∧ t.d.cmt = {} ∧ t.d.io.queues = [] ∧ t.d.io.linkUp = s.d.io.linkUp ∧ t.d.flt.src = []) ∧
  (∀ (s : State) (v : Word), s.d.reach 0 = true → bitOf v.toNat 0 = false →
    (s.d.pwr.phase ≠ .parked ∨ ∃ n, n < 13 ∧ (s.d.src n).conds ≠ []) →
    ∃ t, Machine.exec (.dawnReq 0 v) s = .next t ∧ State.sameBut [] s t) ∧
  (∀ (s : State), s.d.pwr.phase = .dawn → s.d.clocked = true → s.d.flt.fatal = false → s.d.pwr.duskWait = false →
    (s.d.pwr.step = 0 → s.d.pwr.rails = 63 → s.d.pwr.pllLock = true →
      ∃ t, Machine.exec (.dawnStepEnd false) s = .next t ∧ t.d.pwr = { s.d.pwr with step := 1, stepAt := s.d.tb2 } ∧ State.sameBut [.pwr] s t) ∧
    (s.d.pwr.step = 0 → s.d.pwr.rails = 31 → s.d.pwr.stepAt + 100000000 ≤ s.d.tb2 → 0 ∉ (s.d.src 3).conds →
      s.d.drv.armed = false →
      ∃ t, Machine.exec (.dawnStepEnd true) s = .next t ∧ t.d.pwr = { s.d.pwr with phase := .stopped, halt := 1 } ∧ (t.d.src 3).latched = true ∧
        State.sameBut [.pwr, .src, .flt, .fns, .views, .fab] s t) ∧
    (s.d.pwr.step = 1 →
      ∃ t, Machine.exec (.dawnStepEnd false) s = .next t ∧
        (s.d.sec.boots s.d.sec.preferred = true → t.d.pwr = { s.d.pwr with step := 2, stepAt := s.d.tb2, supUp := true } ∧
          t.d.sec.bootSlot = s.d.sec.preferred ∧ t.d.sec.fallback = false ∧
          t.d.sec.counter = max s.d.sec.counter (min (bundleSec (s.d.sec.image s.d.sec.preferred)) 64) ∧ State.sameBut [.pwr, .sec] s t) ∧
        (s.d.sec.boots s.d.sec.preferred = false → s.d.sec.boots (!s.d.sec.preferred) = true → t.d.pwr.step = 2 ∧
          t.d.sec.bootSlot = (!s.d.sec.preferred) ∧ t.d.sec.fallback = true ∧ State.sameBut [.pwr, .sec] s t) ∧
        (s.d.sec.boots s.d.sec.preferred = false → s.d.sec.boots (!s.d.sec.preferred) = false →
          t.d.pwr = { s.d.pwr with phase := .stopped, halt := 2 } ∧ t.d.sec = { s.d.sec with recovery := true } ∧ State.sameBut [.pwr, .sec] s t)) ∧
    (s.d.pwr.step = 2 → 0 ∉ (s.d.src 12).conds → s.d.drv.armed = false →
      ∃ t, Machine.exec (.dawnStepEnd false) s = .next t ∧ State.sameBut [.pwr, .cal, .src, .flt, .fns, .views, .fab] s t ∧
        (Config.factoryGood = true → t.d.pwr = { s.d.pwr with step := 3, stepAt := s.d.tb2 } ∧ t.d.cal.factValid = true ∧
          t.d.fab.gstLoaded = true ∧ (∀ b, s.d.cal.inForce = some b → t.d.cal.delta = (s.d.cal.bank b).set ∧ t.d.cal.noDelta = false) ∧
          (s.d.cal.inForce = none → t.d.cal.delta = {} ∧ t.d.cal.noDelta = true) ∧ State.sameBut [.pwr, .cal, .fab] s t) ∧
        (Config.factoryGood = false → t.d.pwr = { s.d.pwr with phase := .stopped, halt := 3 } ∧ (t.d.src 12).latched = true)) ∧
    (s.d.pwr.step = 3 → s.d.blankCause = false → s.d.blankOn = false → Tab.wf {} s.d.fab.cells = true → Tab.wf {} s.d.fab.loops = true →
      ∃ t, Machine.exec (.dawnStepEnd false) s = .next t ∧ t.d.pwr = { s.d.pwr with step := 4, stepAt := s.d.tb2 } ∧ t.d.drv.armed = true ∧
        (∀ ca, isVoaCa ca = true → t.d.cell ca = { s.d.cell ca with
          phiTgt := t.d.onBranch ca halfTurn, phiTh := t.d.bias ca, f := wrapHalf (halfTurn - t.d.bias ca), region := 5 }) ∧
        (∀ ca ∈ allCells, isVoaCa ca = false → t.d.cell ca = { s.d.cell ca with
          phiTgt := t.d.onBranch ca (swPhase (s.net.swOf ca)), phiTh := t.d.bias ca }) ∧
        (∀ ca ∈ allCells, ∀ aa ∈ heatersOf ca, (t.d.loop aa).v = (t.d.loop aa).u ∧ (t.d.loop aa).drv = powerCode (t.d.loop aa).u ∧
          (t.d.loop aa).mode = (s.d.loop aa).mode) ∧
        (∀ tn, tn < 336 → (t.d.tile tn).tUse = some (s.d.sensor tn).temp) ∧
        State.sameBut [.pwr, .cal, .fab, .drv] s t) ∧
    (s.d.pwr.step = 4 → Tab.wf {} s.d.fab.cells = true → Tab.wf {} s.d.fab.loops = true →
      ∃ t, Machine.exec (.dawnStepEnd false) s = .next t ∧ t.d.pwr = { s.d.pwr with step := 5, stepAt := s.d.tb2 } ∧
        (∀ ca ∈ allCells, t.d.cell ca = { s.d.cell ca with phiTh := (s.d.cell ca).phiTgt, f := 0 }) ∧
        (∀ ca ∈ allCells, ∀ aa ∈ heatersOf ca, (t.d.loop aa).mode = 5 ∧ (t.d.loop aa).u = (s.d.loop aa).u) ∧ State.sameBut [.pwr, .fab] s t) ∧
    ((s.d.pwr.step = 5 ∨ s.d.pwr.step = 6) → litCells s.net s.d = [] →
      ∃ t, Machine.exec (.dawnStepEnd false) s = .next t ∧ t.d.pwr = { s.d.pwr with step := s.d.pwr.step + 1, stepAt := s.d.tb2 } ∧
        State.sameBut [.pwr] s t) ∧
    (∀ ca, s.d.pwr.step = 6 → litCells s.net s.d = [ca] → (s.d.cell ca).locked = false → s.d.pwr.stepAt + 100000000 ≤ s.d.tb2 →
      ca ∉ (s.d.src 28).conds →
      ∃ t, Machine.exec (.dawnStepEnd true) s = .next t ∧ t.d.pwr = { s.d.pwr with step := 7, stepAt := s.d.tb2 } ∧ ca ∈ (t.d.src 28).conds ∧
        (t.d.src 28).latched = true ∧ t.d.fab = s.d.fab ∧ State.sameBut [.pwr, .src, .flt, .fns, .views] s t) ∧
    (s.d.pwr.step = 7 → s.d.mi.alive = true → s.isl.up = true → s.isl.dip = false →
      ∃ t, Machine.exec (.dawnStepEnd false) s = .next t ∧ t.d.pwr = { s.d.pwr with step := 8, stepAt := s.d.tb2 } ∧ State.sameBut [.pwr] s t) ∧
    (s.d.pwr.step = 7 → s.d.mi.alive = false → s.d.pwr.stepAt + 100000000 ≤ s.d.tb2 →
      ∃ t, Machine.exec (.dawnStepEnd true) s = .next t ∧ t.d.pwr = { s.d.pwr with step := 8, stepAt := s.d.tb2 } ∧ 0 ∈ (t.d.src 90).conds ∧
        State.sameBut [.pwr, .src, .flt, .fns, .views] s t) ∧
    (s.d.pwr.step = 8 → s.d.pwr.done = false → s.d.pwr.off = false → s.d.flt.blank = false →
      ∃ t, Machine.exec (.dawnStepEnd false) s = .next t ∧
        t.d.pwr = { s.d.pwr with phase := .run, done := true, dawnMs := min 65535 (s.d.tb2 / 1000000) } ∧ t.d.flt.permit = true ∧
        State.sameBut [.pwr] s t)) ∧
  (∀ (s : State), s.d.pwr.phase = .dawn → s.d.flt.fatal = true → s.d.pwr.duskWait = false →
    ∃ t, Machine.exec (.dawnStepEnd false) s = .next t ∧ State.sameBut [] s t)

/-- Dusk (R320, R414, R415): a request in RUN aborts every queue, stops the sequencer and unbinds its lanes; one in DAWN waits for the end of the
step; one in Dusk or PARKED does nothing. The permit goes first, then the VOAs to dark, the loops to HOLD, the heaters to 0 and the drivers off.
States that these complete: dawnStepEnd, duskReq, duskStepEnd. Choices of the model: log entry 93. -/
def Obligations.DuskPutsToRest : Prop :=
  (∀ (s : State), s.d.reach 0 = true →
    (s.d.pwr.phase = .run → s.d.cal.run = none → (∀ l, l < 4 → (s.d.lane l).bound = false) →
      ∃ t, Machine.exec (.duskReq 0 1) s = .next t ∧
        t.d.pwr = { s.d.pwr with phase := .dusk, step := 0, stepAt := s.d.tb2, duskAt := s.d.tb2, duskWait := false } ∧
        (∀ q, q < 64 → (s.d.queue q).state ∈ [QState.disabled, .enabled, .stalled] → (t.d.queue q).state = .aborting) ∧
        (∀ q, (s.d.queue q).state ∉ [QState.disabled, .enabled, .stalled] → t.d.queue q = s.d.queue q) ∧ t.d.seq.state = .stopped ∧
        t.d.seq.lanes = s.d.seq.lanes ∧ State.sameBut [.pwr, .queues, .cmt, .mon, .seq, .views] s t) ∧
    (s.d.pwr.phase = .dawn →
      ∃ t, Machine.exec (.duskReq 0 1) s = .next t ∧ t.d.pwr = { s.d.pwr with duskWait := true } ∧ State.sameBut [.pwr] s t) ∧
    (s.d.pwr.phase ∈ [Phase.dusk, .parked, .stopped] → ∃ t, Machine.exec (.duskReq 0 1) s = .next t ∧ State.sameBut [] s t)) ∧
  (∀ (s : State), s.d.pwr.phase = .dawn → s.d.clocked = true → s.d.pwr.duskWait = true → s.d.pwr.step = 8 → s.d.cal.run = none →
    (∀ l, l < 4 → (s.d.lane l).bound = false) →
    ∃ t, Machine.exec (.dawnStepEnd false) s = .next t ∧ t.d.pwr.phase = .dusk ∧ t.d.pwr.step = 0 ∧ t.d.pwr.duskWait = false ∧
      State.sameBut [.pwr, .queues, .cmt, .mon, .seq, .views] s t) ∧
  (∀ (s : State), s.d.pwr.phase = .dusk → s.d.clocked = true →
    (s.d.pwr.step = 0 → (∀ q, q < 64 → (s.d.queue q).state ≠ .aborting ∧ (s.d.queue q).state ≠ .enablePending) →
      ∃ t, Machine.exec .duskStepEnd s = .next t ∧ t.d.pwr = { s.d.pwr with step := 1, stepAt := s.d.tb2 } ∧ t.d.flt.permit = false ∧
        State.sameBut [.pwr] s t) ∧
    (s.d.pwr.step = 1 → s.d.blankOn = true →
      ∃ t, Machine.exec .duskStepEnd s = .next t ∧ t.d.pwr = { s.d.pwr with step := 2, stepAt := s.d.tb2 } ∧ State.sameBut [.pwr] s t) ∧
    (s.d.pwr.step = 1 → s.d.blankOn = false → Tab.wf {} s.d.fab.cells = true →
      ∃ t, Machine.exec .duskStepEnd s = .next t ∧ t.d.pwr = { s.d.pwr with step := 2, stepAt := s.d.tb2 } ∧
        (∀ ca, isVoaCa ca = true → (t.d.cell ca).f = (s.d.cell ca).blankCode ∧ ((s.d.cell ca).dark = false →
          (t.d.cell ca).phiTgt = (s.d.cell ca).phiTh + (s.d.cell ca).blankCode)) ∧
        (∀ ca, isVoaCa ca = false → t.d.cell ca = s.d.cell ca) ∧ t.d.fab.loops = s.d.fab.loops ∧ State.sameBut [.pwr, .fab, .mon] s t) ∧
    (s.d.pwr.step = 2 → Tab.wf {} s.d.fab.loops = true →
      ∃ t, Machine.exec .duskStepEnd s = .next t ∧ t.d.pwr = { s.d.pwr with step := 3, stepAt := s.d.tb2 } ∧
        (∀ ca ∈ allCells, ∀ aa ∈ heatersOf ca, (t.d.loop aa).mode = 3 ∧ (t.d.loop aa).u = (s.d.loop aa).u ∧
          ((s.d.loop aa).dither = true → (t.d.loop aa).amplNext = some 0)) ∧ t.d.fab.cells = s.d.fab.cells ∧ State.sameBut [.pwr, .fab] s t) ∧
    (s.d.pwr.step = 4 → s.d.pwr.stepAt + 8000000 ≤ s.d.tb2 → Tab.wf {} s.d.fab.loops = true →
      ∃ t, Machine.exec .duskStepEnd s = .next t ∧ t.d.pwr = { s.d.pwr with step := 5, stepAt := s.d.tb2 } ∧ t.d.drv.armed = false ∧
        (∀ aa, (t.d.loop aa).u = 0 ∧ (t.d.loop aa).drv = 0) ∧ t.d.fab.cells = s.d.fab.cells ∧ State.sameBut [.pwr, .fab, .drv] s t) ∧
    (s.d.pwr.step = 5 →
      ∃ t, Machine.exec .duskStepEnd s = .next t ∧
        t.d.pwr = { s.d.pwr with phase := .parked, duskUs := min 65535 ((s.d.tb2 - s.d.pwr.duskAt) / 1000) } ∧ State.sameBut [.pwr] s t))

/-- Supply (R242, R243, R398, R399, R404, R459): below V_WARN it is FS15, and a store in progress is abandoned to be repeated; below 38.0 V and
above 62.0 V it is the fatal FS01 and FS02, and below the lockout the rails and the drivers go off and the island goes on; a rail out of its window
is FS03. Power is reported each millisecond, 100 means above a threshold are FS16 or FS17, and no load is changed. Current in the permit loop is
FS10. States that these complete: vinWarn, vin48Low, uvlo, vin48High, railOutOfWindow, powerMean, permitSense, railInWindow, vin48Return. Choices of
the model: log entry 94. -/
def Obligations.SupplyIsWatched : Prop :=
  (∀ (s : State) (mv : Nat), s.d.pwr.off = false → s.d.pwr.vinWarn = false → mv < s.d.pwr.vWarn → 0 ∉ (s.d.src 15).conds → s.d.cal.again = false →
    ∃ t, Machine.exec (.vinWarn mv) s = .next t ∧ t.d.pwr = { s.d.pwr with vinWarn := true } ∧ 0 ∈ (t.d.src 15).conds ∧
      (t.d.src 15).count = min ((s.d.src 15).count + 1) 65535 ∧ bitOf ((t.d.view 0).leaf.get 0 0x1D8) 2 = true ∧
      (s.d.cal.storing = true → t.d.cal.storing = false ∧ t.d.cal.retry = true ∧ t.d.cal.pfAbort = true) ∧
      (s.d.cal.storing = false → t.d.cal = s.d.cal) ∧ State.sameBut [.pwr, .cal, .src, .flt, .fns, .views] s t) ∧
  (∀ (s : State) (mv : Nat), Obl.quietDevice s → s.d.cal.storing = false →
    (mv < 3800 → 0 ∉ (s.d.src 1).conds →
      ∃ t, Machine.exec (.vin48Low mv) s = .next t ∧ Obl.fatalRises s t 1 ∧ 0 ∈ (t.d.src 1).conds ∧
        State.sameBut [.src, .flt, .fns, .views, .fab, .mon] s t) ∧
    (6200 < mv → 0 ∉ (s.d.src 2).conds →
      ∃ t, Machine.exec (.vin48High mv) s = .next t ∧ Obl.fatalRises s t 2 ∧ 0 ∈ (t.d.src 2).conds ∧
        State.sameBut [.src, .flt, .fns, .views, .fab, .mon] s t) ∧
    (mv < 3700 → Tab.wf {} s.d.fab.loops = true →
      ∃ t, Machine.exec (.uvlo mv) s = .next t ∧ t.d.pwr = { off := true, phase := .stopped, refSel := s.d.pwr.refSel, strapId := s.d.pwr.strapId } ∧
        t.d.drv.armed = false ∧ (∀ aa, (t.d.loop aa).drv = 0) ∧ t.d.io.linkUp = false ∧ t.isl = { s.isl with dip := true } ∧ t.net = s.net ∧
        t.mem = s.mem ∧ t.pending = s.pending ∧ Dev.sameBut [.pwr, .drv, .fab, .link] s.d t.d)) ∧
  (∀ (s : State) (mv : Nat), s.d.pwr.off = false → (s.d.src 1).conds = [] → (s.d.src 2).conds = [] → s.d.pwr.vinWarn = true →
    s.d.pwr.vWarn + 50 ≤ mv →
    ∃ t, Machine.exec (.vin48Return mv) s = .next t ∧ t.d.pwr = { s.d.pwr with vinWarn := false } ∧ 0 ∉ (t.d.src 15).conds ∧
      t.d.cal = (if s.d.cal.retry then { s.d.cal with retryAt := some s.d.tb2 } else s.d.cal) ∧ State.sameBut [.pwr, .src, .cal] s t) ∧
  (∀ (s : State) (mv : Nat) (i : Inst), Obl.fatalStands s 1 i → (s.d.src 2).conds = [] → s.d.pwr.vinWarn = false → 3800 ≤ mv →
    ∃ t, Machine.exec (.vin48Return mv) s = .next t ∧ Obl.fatalQuiets s t 1 i ∧ State.sameBut [.src] s t) ∧
  (∀ (s : State) (rail mv : Nat), Obl.quietDevice s → rail < 5 → bitOf s.d.pwr.rails rail = true → railIn rail mv = false → 0 ∉ (s.d.src 3).conds →
    ∃ t, Machine.exec (.railOutOfWindow rail mv) s = .next t ∧ Obl.fatalRises s t 3 ∧ 0 ∈ (t.d.src 3).conds ∧
      t.d.pwr = { s.d.pwr with rails := s.d.pwr.rails - 2 ^ rail } ∧ State.sameBut [.src, .flt, .fns, .views, .fab, .pwr, .mon] s t) ∧
  (∀ (s : State) (mv : Nat), Obl.quietDevice s → bitOf s.d.pwr.rails 5 = true → 4000 ≤ mv → mv < 4700 → (s.d.src 11).conds = [] →
    0 ∉ (s.d.src 18).conds →
    ∃ t, Machine.exec (.railOutOfWindow 5 mv) s = .next t ∧ t.d.pwr = { s.d.pwr with rails := s.d.pwr.rails - 32 } ∧
      t.d.drv = { s.d.drv with hrailMv := mv, err := s.d.drv.err ||| 64 } ∧ 0 ∈ (t.d.src 18).conds ∧ t.d.flt.fatal = false ∧
      State.sameBut [.src, .flt, .fns, .views, .pwr, .drv] s t) ∧
  (∀ (s : State) (rail mv : Nat) (i : Inst), Obl.fatalStands s 3 i → rail < 5 → bitOf s.d.pwr.rails rail = false → railIn rail mv = true →
    (s.d.pwr.rails + 2 ^ rail) % 32 = 31 →
    ∃ t, Machine.exec (.railInWindow rail mv) s = .next t ∧ t.d.pwr = { s.d.pwr with rails := s.d.pwr.rails + 2 ^ rail } ∧ Obl.fatalQuiets s t 3 i ∧
      State.sameBut [.src, .pwr] s t) ∧
  (∀ (s : State) (vin pin : Nat), s.d.tb2 % 1000000 = 0 → s.d.tb2 ≠ 0 → s.d.pwr.meanAt ≠ s.d.tb2 + 1 → s.d.clocked = true → pin < 65536 →
    vin < 65536 →
    ∃ t, Machine.exec (.powerMean vin pin) s = .next t ∧ t.d.pwr.vin = vin ∧ t.d.pwr.pin = pin ∧ t.d.pwr.peak = max s.d.pwr.peak pin ∧
      (99 ≤ s.d.pwr.overW → 10 * s.d.pwr.warn < pin → (s.d.src 16).conds = [] →
        0 ∈ (t.d.src 16).conds ∧ t.d.pwr.capWarn = true ∧ bitOf ((t.d.view 0).leaf.get 0 0x1D8) 0 = true) ∧
      (99 ≤ s.d.pwr.overA → 10 * s.d.pwr.alarm < pin → (s.d.src 17).conds = [] →
        0 ∈ (t.d.src 17).conds ∧ t.d.pwr.capAlarm = true ∧ bitOf ((t.d.view 0).leaf.get 0 0x1D8) 1 = true) ∧
      (99 ≤ s.d.pwr.underW → pin + 100 ≤ 10 * s.d.pwr.warn → (s.d.src 16).conds = [0] → (t.d.src 16).conds = [] ∧ t.d.pwr.capWarn = false) ∧
      State.sameBut [.pwr, .src, .flt, .fns, .views] s t) ∧
  (∀ (s : State), Obl.quietDevice s → s.d.flt.permit = false →
    ∃ t, Machine.exec .permitSense s = .next t ∧ Obl.fatalRises s t 10 ∧ (t.d.src 10).conds = (s.d.src 10).conds ∧
      State.sameBut [.src, .flt, .fns, .views, .fab, .mon] s t)

/-- Clocks, temperature and masters (R402, R406, R407, R428): loss of lock and of REFIN are FS04 and FS05; a reading out of range holds its tile's
coefficients as FS27, 150 °C is FS13, and 155 °C is FS00, which starts Dusk. A stalled bus master is FS73, a corrected PCI Express error FS62.
States that these complete: pllLockLoss, refinLoss, sensorUpdate, masterStall, pllLockRegained, refinRestored, pcieCorrectableError. Choices of the
model: log entries 78, 92, 94. -/
def Obligations.ClocksAndTemperatureAreWatched : Prop :=
  (∀ (s : State), Obl.quietDevice s →
    (s.d.pwr.pllLock = true → 0 ∉ (s.d.src 4).conds →
      ∃ t, Machine.exec .pllLockLoss s = .next t ∧ Obl.fatalRises s t 4 ∧ 0 ∈ (t.d.src 4).conds ∧
        t.d.pwr = { s.d.pwr with pllLock := false, lockLoss := min (s.d.pwr.lockLoss + 1) 255 } ∧
        State.sameBut [.src, .flt, .fns, .views, .fab, .pwr, .mon] s t) ∧
    (s.d.pwr.refOk = true → 0 ∉ (s.d.src 5).conds →
      ∃ t, Machine.exec .refinLoss s = .next t ∧ Obl.fatalRises s t 5 ∧ 0 ∈ (t.d.src 5).conds ∧ t.d.pwr = { s.d.pwr with refOk := false } ∧
        State.sameBut [.src, .flt, .fns, .views, .fab, .pwr, .mon] s t)) ∧
  (∀ (s : State) (i : Inst),
    (Obl.fatalStands s 4 i → s.d.pwr.pllLock = false → s.d.pwr.refOk = true →
      ∃ t, Machine.exec .pllLockRegained s = .next t ∧ t.d.pwr = { s.d.pwr with pllLock := true } ∧ Obl.fatalQuiets s t 4 i ∧
        State.sameBut [.src, .pwr] s t) ∧
    (Obl.fatalStands s 5 i → s.d.pwr.refOk = false →
      ∃ t, Machine.exec .refinRestored s = .next t ∧ t.d.pwr = { s.d.pwr with refOk := true } ∧ Obl.fatalQuiets s t 5 i ∧
        State.sameBut [.src, .pwr] s t)) ∧
  (∀ (s : State) (k : Nat) (temp : Int), k < 352 → s.d.clocked = true → s.d.cal.run = none → s.d.hotAt 2400 = false → (s.d.src 0).conds = [] →
    (-1120 ≤ temp → temp ≤ 2800 → temp < 2400 → s.d.outlier k temp = false → ((s.d.sensor k).valid = true ∨ (s.d.sensor k).seen = false) →
      Tab.wf {} s.d.thm.sensors = true →
      ∃ t, Machine.exec (.sensorUpdate k temp false) s = .next t ∧ (t.d.sensor k).temp = temp ∧ (t.d.sensor k).valid = true ∧
        (∀ j, j ≠ k → t.d.sensor j = s.d.sensor j) ∧ (k < 336 → k ∉ (t.d.src 27).conds) ∧ 0 ∉ (t.d.src 13).conds ∧
        State.sameBut [.thm, .src] s t) ∧
    (∀ err, err = true ∨ temp < -1120 ∨ 2800 < temp → k < 336 → k ∉ (s.d.src 27).conds → Tab.wf {} s.d.thm.sensors = true →
      ∃ t, Machine.exec (.sensorUpdate k temp err) s = .next t ∧ (t.d.sensor k).valid = false ∧ k ∈ (t.d.src 27).conds ∧
        (t.d.src 27).latched = true ∧ (∀ j, j ≠ k → t.d.sensor j = s.d.sensor j) ∧ t.d.fab = s.d.fab ∧
        State.sameBut [.thm, .src, .flt, .fns, .views] s t) ∧
    (2400 ≤ temp → temp < 2480 → s.d.outlier k temp = false → ((s.d.sensor k).valid = true ∨ (s.d.sensor k).seen = false) → (s.d.src 13).conds = [] →
      Tab.wf {} s.d.thm.sensors = true →
      ∃ t, Machine.exec (.sensorUpdate k temp false) s = .next t ∧ 0 ∈ (t.d.src 13).conds ∧ bitOf ((t.d.view 0).leaf.get 0 0x1D8) 4 = true ∧
        t.d.pwr = s.d.pwr ∧ State.sameBut [.thm, .src, .flt, .fns, .views] s t) ∧
    (2480 ≤ temp → temp ≤ 2800 → s.d.outlier k temp = false → ((s.d.sensor k).valid = true ∨ (s.d.sensor k).seen = false) → Obl.quietDevice s →
      s.d.pwr.phase = .run → (∀ l, l < 4 → (s.d.lane l).bound = false) →
      ∃ t, Machine.exec (.sensorUpdate k temp false) s = .next t ∧ Obl.fatalRises s t 0 ∧ 0 ∈ (t.d.src 0).conds ∧ t.d.pwr.phase = .dusk ∧
        t.d.pwr.step = 0 ∧ State.sameBut [.thm, .src, .flt, .fns, .views, .fab, .pwr, .queues, .cmt, .mon, .seq] s t)) ∧
  (∀ (s : State) (m f : Nat), m < 9 → f < 16 → s.d.clocked = true → s.d.cal.again = false →
    ∃ t, Machine.exec (.masterStall m f) s = .next t ∧ t.d.bmx = { s.d.bmx with stall := true, stallMaster := m } ∧
      (t.d.src 73).latched = true ∧ (t.d.src 73).count = min ((s.d.src 73).count + 1) 65535 ∧ (m ≠ 5 → t.d.cal = s.d.cal) ∧
      (m = 5 → s.d.cal.storing = true → t.d.cal.storing = false ∧ t.d.cal.retry = true) ∧ (m = 1 → t.d.jobs.recs = []) ∧
      (m = 3 → ∀ k, k < 16 → (t.d.slot k).state ≠ .routing) ∧ (m = 4 → ∀ k, k < 16 → (t.d.slot k).state ≠ .staging) ∧
      (m ≠ 1 → ∀ b ∈ t.d.mtx.bursts, b.master = m → b.dead = true) ∧
      State.sameBut ([.bmx, .cal, .src, .flt, .fns, .views] ++ if m = 1 then [.jobs, .queues, .tel] else if m = 3 ∨
        m = 4 then [.cmt, .mon] else []) s t) ∧
  (∀ (s : State) (f kind : Nat), f < 16 → kind < 32 → s.d.io.linkUp = true →
    ∃ t, Machine.exec (.pcieCorrectableError ⟨f, kind⟩) s = .next t ∧ (t.d.src 62).latched = true ∧
      (t.d.src 62).count = min ((s.d.src 62).count + 1) 65535 ∧ bitOf (t.d.fn f).cfg.aerCor kind = true ∧
      State.sameBut [.src, .flt, .fns, .views] s t)

/-! ## Counters and registers (16, 17) -/

/-- Performance counters (R432 to R438): SNAP copies every counter, or waits while the reader copies; CLEAR_ALL clears each value and OVF and keeps
EN and CHAIN; a write sets the selected counter, or its chained partner, and at an overflow it wins and PMC_OVF_LOST is set; a read captures the
partner. The bus matrix grants sub-bursts by effective QoS, and counts them (R418, R419, R421, R431). States that these complete: snap, clearAll,
pmcLiveWrite, pmcLiveRead. Choices of the model: log entries 2, 78, 81. -/
def Obligations.CountersAreSnappedSetAndCleared : Prop :=
  (∀ (s : State) (v : Word), s.d.reach 0 = true → Tab.wf {} s.d.pmc.ctr = true →
    (bitOf v.toNat 1 = true → bitOf v.toNat 2 = false → s.d.pmc.dumping = false →
      ∃ t, Machine.exec (.snap 0 v) s = .next t ∧ t.d.pmc.en = bitOf v.toNat 0 ∧ t.d.pmc.snapEn = bitOf v.toNat 0 ∧ t.d.pmc.snapReq = false ∧
        t.d.pmc.snapTb2 = s.d.tb2 ∧ t.d.pmc.snapTb0 = s.d.tb0 ∧
        (∀ n, t.d.pmc.snap.get 0 n = ((s.d.count 3021).pmc.ctr.get {} n).value) ∧ State.sameBut [.pmc] s t) ∧
    (bitOf v.toNat 1 = true → bitOf v.toNat 2 = false → s.d.pmc.dumping = true →
      ∃ t, Machine.exec (.snap 0 v) s = .next t ∧ t.d.pmc.snapReq = true ∧ t.d.pmc.snap = s.d.pmc.snap ∧ State.sameBut [.pmc] s t) ∧
    (bitOf v.toNat 1 = false → bitOf v.toNat 2 = true →
      ∃ t, Machine.exec (.clearAll 0 v) s = .next t ∧ t.d.pmc.en = bitOf v.toNat 0 ∧ t.d.pmc.snap = s.d.pmc.snap ∧
        (∀ n, n ≠ 3017 → n ≠ 3018 → t.d.pmc.ctr.get {} n = { (s.d.count 3021).pmc.ctr.get {} n with value := 0, ovf := false }) ∧
        State.sameBut [.pmc] s t)) ∧
  (∀ (s : State) (v : Word) (n : Nat), s.d.reach 0 = true → n = s.d.pmc.idx → ctrReserved n = false → n < 3016 →
    (∃ t, Machine.exec (.pmcLiveWrite 0 false v false) s = .next t ∧ (t.d.pmc.ctr.get {} n).value = v.toNat ∧
      (t.d.pmc.ctr.get {} n).ovf = (s.d.pmc.ctr.get {} n).ovf ∧ State.sameBut [] s t) ∧
    (∃ t, Machine.exec (.pmcLiveWrite 0 false v true) s = .next t ∧ t.d.pmc.ovfLost = true ∧ bitOf ((t.d.view 0).leaf.get 0 0x1CC) 0 = true ∧
      (t.d.src 74).latched = true ∧ State.sameBut [.pmc, .src, .flt, .fns, .views] s t) ∧
    ((s.d.pmc.ctr.get {} n).chain = true → ctrReserved (n + 1) = false →
      ∃ t, Machine.exec (.pmcLiveWrite 0 true v false) s = .next t ∧ (n + 1 < 3016 → (t.d.pmc.ctr.get {} (n + 1)).value = v.toNat) ∧
        State.sameBut [] s t) ∧
    ((s.d.pmc.ctr.get {} n).chain = false → ∃ t, Machine.exec (.pmcLiveWrite 0 true v false) s = .next t ∧
      (t.d.pmc.ctr.get {} n) = (s.d.pmc.ctr.get {} n) ∧ State.sameBut [] s t) ∧
    ((s.d.pmc.ctr.get {} n).value < 2 ^ 32 →
      ∃ t later, Machine.exec (.pmcLiveRead 0) s = .next t ∧ t.d.io.out = later ++ Out.readData 0 (s.d.pmc.ctr.get {} n).value :: s.d.io.out ∧
        ((s.d.pmc.ctr.get {} n).chain = true → ctrReserved (n + 1) = false → n + 1 < 3016 →
          (t.d.cap 0).words.get none 0x20014 = some (s.d.pmc.ctr.get {} (n + 1)).value) ∧
        State.sameBut [.cap] s t)) ∧
  -- The bus matrix (R418, R419, R421, R431): while no command waits, a lone burst has its next sub-burst granted, of 256 bytes at most and within one
  -- 256-byte block, and the grant counts for its master.
  (∀ (s : State) (b : Burst) (n : Nat), s.pending = [] → s.d.clocked = true → s.d.mtx.bursts = [b] → s.d.fetchable = [] → b.master < 9 →
    b.beats = 0 → b.granted < b.len → b.dead = false → (b.target = 3 → s.d.io.linkUp = true) →
    n = min (b.len - b.granted) (256 - (b.addr + b.granted) % 256) →
    ∃ t, Machine.step s = .next t ∧
      t.d.mtx.bursts = [{ b with granted := b.granted + n, point := b.point', beats := b.pieceBeats, wait := 0 }] ∧ b.granted + n ≤ b.len ∧
      (b.addr + b.granted) / 256 = (b.addr + b.granted + n - 1) / 256 ∧ t.d.pmc = (s.d.count (2976 + 4 * b.master + b2n b.write)).pmc ∧
      t.net = s.net ∧ t.mem = s.mem ∧ t.pending = s.pending ∧ Dev.sameBut [.tim] s.d t.d) ∧
  -- Of two masters that wait at one point the one of higher effective QoS is granted, and the other's wait goes on.
  (∀ (s : State) (a b : Burst), s.pending = [] → s.d.clocked = true → s.d.mtx.bursts = [a, b] → s.d.fetchable = [] → a.master ≠ b.master →
    a.write = b.write → a.point' = b.point' → a.target = b.target → (a.target = 3 → s.d.io.linkUp = true) →
    (∀ x ∈ [a, b], x.beats = 0 ∧ x.granted < x.len ∧ x.dead = false) →
    max (s.d.bmx.qosOf a.master) (min 15 (s.d.bmx.qosOf a.master + a.wait / 256)) <
      max (s.d.bmx.qosOf b.master) (min 15 (s.d.bmx.qosOf b.master + b.wait / 256)) →
    ∃ t, Machine.step s = .next t ∧ t.d.mtx.bursts = [{ a with wait := a.wait + 1 }, b.grant] ∧ t.d.mtx.qm = s.d.mtx.qm ∧
      t.net = s.net ∧ t.mem = s.mem ∧ t.pending = s.pending ∧ Dev.sameBut [.tim] s.d t.d)

/-- Registers (R7, R104, R174, R251, R426, R440 to R448): the read of a low word captures its high words, and one read uses a captured word up; an
RC field clears at its read; a value word of the result table captures its time; a VF sees 0 in PF0's blocks; a write reaches its register, a locked
one stays, and one where no register lies, or not of a whole word, is a decode error. States that these complete: glbCtlLock, captureRead,
mrtValueRead, rcRead, registerWrite. Choices of the model: log entries 77, 78, 80. -/
def Obligations.RegistersAreReadAndWritten : Prop :=
  (∀ (s : State), s.d.reach 0 = true →
    (∃ t later, Machine.exec (.captureRead 0 0 0x1A010 4) s = .next t ∧ t.d.io.out = later ++ Out.readData 0 (s.d.tb0 % 2 ^ 32) :: s.d.io.out ∧
      (t.d.cap 0).words.get none 0x1A014 = some (s.d.tb0 / 2 ^ 32 % 2 ^ 32) ∧ State.sameBut [.cap] s t) ∧
    (∀ w, w < 2 ^ 32 → (s.d.cap 0).words.get none 0x1A014 = some w →
      ∃ t later, Machine.exec (.captureRead 0 0 0x1A014 4) s = .next t ∧ t.d.io.out = later ++ Out.readData 0 w :: s.d.io.out ∧
        (t.d.cap 0).words.get none 0x1A014 = none ∧ State.sameBut [.cap] s t) ∧
    ((s.d.cap 0).words.get none 0x2500C = none → s.d.pwr.pin < 65536 → s.d.pwr.peak < 65536 →
      ∃ t later, Machine.exec (.rcRead 0 0x2500C 4) s = .next t ∧
        t.d.io.out = later ++ Out.readData 0 (s.d.pwr.pin + s.d.pwr.peak * 65536) :: s.d.io.out ∧ t.d.pwr = { s.d.pwr with peak := 0 } ∧
        State.sameBut [.pwr] s t)) ∧
  (∀ (s : State) (f mpa : Nat), s.d.reach f = true → mpa < 65536 → s.d.mrtVisible f mpa = true → (s.d.mrt mpa).word < 2 ^ 32 →
    ∃ t later, Machine.exec (.mrtValueRead f mpa) s = .next t ∧ t.d.io.out = later ++ Out.readData f (s.d.mrt mpa).word :: s.d.io.out ∧
      (t.d.cap f).mrt = some (mpa, (s.d.mrt mpa).time) ∧ State.sameBut [.cap] s t) ∧
  (∀ (s : State) (f mpa w : Nat), s.d.reach f = true → mpa < 65536 → s.d.mrtVisible f mpa = true → (s.d.cap f).mrt = some (mpa, w) →
    ∃ t later, Machine.exec (.captureRead f 2 (0x900004 + 8 * mpa) 4) s = .next t ∧ t.d.io.out = later ++ Out.readData f w :: s.d.io.out ∧
      (t.d.cap f).mrt = none ∧ State.sameBut [.cap] s t) ∧
  (∀ (s : State) (f off : Nat) (w : Word), s.d.reach f = true → f ≠ 0 → f < 16 → 0x4000 ≤ off → off < 0x1E000 → off % 4 = 0 →
    (∃ t later, Machine.exec (.captureRead f 0 off 4) s = .next t ∧ t.d.io.out = later ++ Out.readData f 0 :: s.d.io.out ∧ State.sameBut [] s t) ∧
    (∃ t, Machine.exec (.registerWrite f 0 off (bytesLE w.toNat 4)) s = .next t ∧ State.sameBut [] s t)) ∧
  (∀ (s : State) (f : Nat) (w : Word), s.d.reach f = true →
    ∃ t, Machine.exec (.registerWrite f 0 0x40 (bytesLE w.toNat 4)) s = .next t ∧ (t.d.fn f).scratch = w.toNat ∧
      (∀ g, g ≠ f → (t.d.fn g).scratch = (s.d.fn g).scratch) ∧ State.sameBut [.fns] s t) ∧
  (∀ (s : State) (v : Word), s.d.reach 0 = true →
    ∃ t, Machine.exec (.glbCtlLock 0 v) s = .next t ∧
      t.d.glb = { vfTimeEn := (if s.d.glb.lock then s.d.glb.vfTimeEn else bitOf v.toNat 0), lock := s.d.glb.lock || bitOf v.toNat 1 } ∧
      State.sameBut [.glb] s t) ∧
  (∀ (s : State) (bs : List Byte) (off : Nat), s.d.reach 0 = true → (off = 0x60000 ∧ bs.length = 4 ∨ off = 0x40 ∧ bs.length = 2) →
    ∃ t, Machine.exec (.registerWrite 0 0 off bs) s = .next t ∧
      t.d.bmx = { s.d.bmx with decode := true, decMaster := 9, decTarget := 2, addr := off } ∧ (t.d.src 72).latched = true ∧
      (t.d.src 72).count = min ((s.d.src 72).count + 1) 65535 ∧ State.sameBut [.bmx, .src, .flt, .fns, .views] s t)

/-! ## Drivers' waveforms (07) -/

/-- What the drivers put out (R84, R196, R198 to R201, R203, R205): none while high-impedance; else the code of the blank override, of a bound lane,
or of the cell's output, in that priority; the current of a shape stays within 8 mA and ends in the code's own 64 ns after its edge; a step's shape
starts from the current at the cell's edge; a DAC code saturates at 16 bits, and a restored power at the heater's limit; every NCO is back at 0 at
a millisecond of TB2. Choices of the model: log entries 10, 69, 70. -/
def Obligations.DriversPutOutWaveforms : Prop :=
  (∀ old new s : Int, -maxCurrent ≤ shapeCurrent old new s ∧ shapeCurrent old new s ≤ maxCurrent) ∧
  (∀ (d : Dev) (ca : Nat),
    ((d.cell ca).hzF = true ∨ d.drv.armed = false → d.driveNow ca = 0) ∧
    ((d.cell ca).hzF = false → d.drv.armed = true → (d.cell ca).playing d.tb2 = false →
      d.driveNow ca = d.codeNow ca * 65536) ∧
    (d.blanked ca = true ∨ d.laneOf (fAa ca) = none ∧ (d.cell ca).heldI = none → d.codeNow ca = d.fCode ca (d.cell ca).f) ∧
    (∀ l, d.blanked ca = false → d.laneOf (fAa ca) = some l → d.codeNow ca = laneCode (d.lane l).value)) ∧
  (∀ (d : Dev) (ca kind : Nat) (f : Int),
    ((d.stepTo ca f kind).cell ca).wave =
      some { edge := d.tb2, delay := d.edgeDelay ca, old := d.driveAt ca (16 * d.tb2 + d.edgeDelay ca), bank := d.drv.bank } ∧
    ((d.stepTo ca f kind).cell ca).f = f ∧ ((d.stepTo ca f kind).cell ca).fDue = none) ∧
  (∀ (p r : Int) (mv : Nat) (high : Bool), (dacCode p r mv high).1 ≤ 65535) ∧
  (∀ (aa tz : Nat) (p : Int), restoredPower aa p tz ≤ heaterLimit aa) ∧
  (∀ f k : Nat, ncoAt f (k * 1000000) = 0)
end

