-- ==== Sys2Proof/Laws/Dispatch.lean ====
section
/-!
SUPPORT. Which meaning each command has: one equation for each arm of exec, so that no proof unfolds the dispatch.
-/
namespace Sys2Proof.Machine

@[simp] theorem exec_sqTail (fn q nbytes : Nat) (value : Word) (s : State) : exec (.sqTail fn q nbytes value) s = execSqTail fn q nbytes value s := rfl
@[simp] theorem exec_cqHead (fn q nbytes : Nat) (value : Word) (s : State) : exec (.cqHead fn q nbytes value) s = execCqHead fn q nbytes value s := rfl
@[simp] theorem exec_aqSqTail (fn nbytes : Nat) (value : Word) (s : State) : exec (.aqSqTail fn nbytes value) s = execAqSqTail fn nbytes value s := rfl
@[simp] theorem exec_aqCqHead (fn nbytes : Nat) (value : Word) (s : State) : exec (.aqCqHead fn nbytes value) s = execAqCqHead fn nbytes value s := rfl
@[simp] theorem exec_evtHead (fn nbytes : Nat) (value : Word) (s : State) : exec (.evtHead fn nbytes value) s = execEvtHead fn nbytes value s := rfl
@[simp] theorem exec_telHead (fn nbytes : Nat) (value : Word) (s : State) : exec (.telHead fn nbytes value) s = execTelHead fn nbytes value s := rfl
@[simp] theorem exec_irqRearm (fn nbytes : Nat) (value : Word) (s : State) : exec (.irqRearm fn nbytes value) s = execIrqRearm fn nbytes value s := rfl
@[simp] theorem exec_qctlEnable (fn q nbytes : Nat) (rsv : BitVec 29) (flush : Bool) (s : State) : exec (.qctlEnable fn q nbytes rsv flush) s = execQctlEnable fn q nbytes rsv flush s := rfl
@[simp] theorem exec_qctlDisable (fn q nbytes : Nat) (rsv : BitVec 29) (flush : Bool) (s : State) : exec (.qctlDisable fn q nbytes rsv flush) s = execQctlDisable fn q nbytes rsv flush s := rfl
@[simp] theorem exec_resume (fn q nbytes : Nat) (rsv : BitVec 29) (enable : Bool) (s : State) : exec (.resume fn q nbytes rsv enable) s = execResume fn q nbytes rsv enable s := rfl
@[simp] theorem exec_flush (fn q nbytes : Nat) (rsv : BitVec 29) (enable : Bool) (s : State) : exec (.flush fn q nbytes rsv enable) s = execFlush fn q nbytes rsv enable s := rfl
@[simp] theorem exec_commandFetch (admin : Bool) (q : Nat) (sqe : Sqe) (payload : List DWord) (entry data : HostRead) (s : State) : exec (.commandFetch admin q sqe payload entry data) s = execCommandFetch admin q sqe payload entry data s := rfl
@[simp] theorem exec_completionTimeout (r : Reader) (sqe : Option Sqe) (part : List DWord) (s : State) : exec (.completionTimeout r sqe part) s = execCompletionTimeout r sqe part s := rfl
@[simp] theorem exec_hostReadFailure (r : Reader) (sqe : Option Sqe) (part : List DWord) (how : HostRead) (s : State) : exec (.hostReadFailure r sqe part how) s = execHostReadFailure r sqe part how s := rfl
@[simp] theorem exec_aggTime (ring q : Nat) (s : State) : exec (.aggTime ring q) s = execAggTime ring q s := rfl
@[simp] theorem exec_msixUnmask (mask : Unmask) (s : State) : exec (.msixUnmask mask) s = execMsixUnmask mask s := rfl
@[simp] theorem exec_telemetryRecord (s : State) : exec .telemetryRecord s = execTelemetryRecord s := rfl
@[simp] theorem exec_adminQueueEnable (fn target : Nat) (value : Word) (s : State) : exec (.adminQueueEnable fn target value) s = execAdminQueueEnable fn target value s := rfl
@[simp] theorem exec_adminQueueDisable (fn target : Nat) (value : Word) (s : State) : exec (.adminQueueDisable fn target value) s = execAdminQueueDisable fn target value s := rfl
@[simp] theorem exec_adminAbortEnd (fn : Nat) (s : State) : exec (.adminAbortEnd fn) s = execAdminAbortEnd fn s := rfl
@[simp] theorem exec_eventRingEnable (fn target : Nat) (value : Word) (s : State) : exec (.eventRingEnable fn target value) s = execEventRingEnable fn target value s := rfl
@[simp] theorem exec_eventRingDisable (fn target : Nat) (value : Word) (s : State) : exec (.eventRingDisable fn target value) s = execEventRingDisable fn target value s := rfl
@[simp] theorem exec_telemetryEnable (fn : Nat) (value : Word) (s : State) : exec (.telemetryEnable fn value) s = execTelemetryEnable fn value s := rfl
@[simp] theorem exec_create (fn q : Nat) (value : Word) (s : State) : exec (.create fn q value) s = execCreate fn q value s := rfl
@[simp] theorem exec_connectBatch (q : Nat) (s : State) : exec (.connectBatch q) s = execConnectBatch q s := rfl
@[simp] theorem exec_attenSet (q : Nat) (s : State) : exec (.attenSet q) s = execAttenSet q s := rfl
@[simp] theorem exec_fence (q : Nat) (s : State) : exec (.fence q) s = execFence q s := rfl
@[simp] theorem exec_queryConn (q : Nat) (s : State) : exec (.queryConn q) s = execQueryConn q s := rfl
@[simp] theorem exec_calRun (q : Nat) (s : State) : exec (.calRun q) s = execCalRun q s := rfl
@[simp] theorem exec_snapshot (q : Nat) (s : State) : exec (.snapshot q) s = execSnapshot q s := rfl
@[simp] theorem exec_cellDirect (q : Nat) (s : State) : exec (.cellDirect q) s = execCellDirect q s := rfl
@[simp] theorem exec_loopMode (q : Nat) (s : State) : exec (.loopMode q) s = execLoopMode q s := rfl
@[simp] theorem exec_seqLoad (part : LoadPart) (s : State) : exec (.seqLoad part) s = execSeqLoad part s := rfl
@[simp] theorem exec_nop (q : Nat) (s : State) : exec (.nop q) s = execNop q s := rfl
@[simp] theorem exec_queueCreate (fn : Nat) (s : State) : exec (.queueCreate fn) s = execQueueCreate fn s := rfl
@[simp] theorem exec_queueDelete (fn : Nat) (s : State) : exec (.queueDelete fn) s = execQueueDelete fn s := rfl
@[simp] theorem exec_abort (fn : Nat) (s : State) : exec (.abort fn) s = execAbort fn s := rfl
@[simp] theorem exec_domainSet (fn : Nat) (s : State) : exec (.domainSet fn) s = execDomainSet fn s := rfl
@[simp] theorem exec_fwActivate (fn : Nat) (s : State) : exec (.fwActivate fn) s = execFwActivate fn s := rfl
@[simp] theorem exec_islandRead (fn : Nat) (s : State) : exec (.islandRead fn) s = execIslandRead fn s := rfl
@[simp] theorem exec_routeJobStart (q : Nat) (s : State) : exec (.routeJobStart q) s = execRouteJobStart q s := rfl
@[simp] theorem exec_routeJobComplete (slot : Nat) (s : State) : exec (.routeJobComplete slot) s = execRouteJobComplete slot s := rfl
@[simp] theorem exec_heldBatchRerun (slot : Nat) (s : State) : exec (.heldBatchRerun slot) s = execHeldBatchRerun slot s := rfl
@[simp] theorem exec_stagingComplete (slot : Nat) (s : State) : exec (.stagingComplete slot) s = execStagingComplete slot s := rfl
@[simp] theorem exec_laneReservation (s : State) : exec .laneReservation s = execLaneReservation s := rfl
@[simp] theorem exec_midnight (s : State) : exec .midnight s = execMidnight s := rfl
@[simp] theorem exec_verificationWindowClose (slot : Nat) (meas : List Meas) (s : State) : exec (.verificationWindowClose slot meas) s = execVerificationWindowClose slot meas s := rfl
@[simp] theorem exec_rollbackCommit (slot : Nat) (s : State) : exec (.rollbackCommit slot) s = execRollbackCommit slot s := rfl
@[simp] theorem exec_devicePlaneCommit (inp : Nat) (s : State) : exec (.devicePlaneCommit inp) s = execDevicePlaneCommit inp s := rfl
@[simp] theorem exec_planeRestoreCommit (inp : Nat) (s : State) : exec (.planeRestoreCommit inp) s = execPlaneRestoreCommit inp s := rfl
@[simp] theorem exec_rollRampStart (slot : Nat) (s : State) : exec (.rollRampStart slot) s = execRollRampStart slot s := rfl
@[simp] theorem exec_releaseCommit (slot : Nat) (s : State) : exec (.releaseCommit slot) s = execReleaseCommit slot s := rfl
@[simp] theorem exec_settleWindowEnd (ca : Nat) (s : State) : exec (.settleWindowEnd ca) s = execSettleWindowEnd ca s := rfl
@[simp] theorem exec_handoverEnd (ca : Nat) (s : State) : exec (.handoverEnd ca) s = execHandoverEnd ca s := rfl
@[simp] theorem exec_demodulatorWindowFull (ca : Nat) (s : State) : exec (.demodulatorWindowFull ca) s = execDemodulatorWindowFull ca s := rfl
@[simp] theorem exec_attenTargetApply (s : State) : exec .attenTargetApply s = execAttenTargetApply s := rfl
@[simp] theorem exec_loopModeApply (s : State) : exec .loopModeApply s = execLoopModeApply s := rfl
@[simp] theorem exec_snapshotRecord (s : State) : exec .snapshotRecord s = execSnapshotRecord s := rfl
@[simp] theorem exec_abortCut (s : State) : exec .abortCut s = execAbortCut s := rfl
@[simp] theorem exec_abortComplete (admin : Bool) (q : Nat) (s : State) : exec (.abortComplete admin q) s = execAbortComplete admin q s := rfl
@[simp] theorem exec_flr (fn : Nat) (s : State) : exec (.flr fn) s = execFlr fn s := rfl
@[simp] theorem exec_flrComplete (fn : Nat) (s : State) : exec (.flrComplete fn) s = execFlrComplete fn s := rfl
@[simp] theorem exec_perstN (s : State) : exec .perstN s = execPerstN s := rfl
@[simp] theorem exec_perstNRelease (s : State) : exec .perstNRelease s = execPerstNRelease s := rfl
@[simp] theorem exec_linkDown (s : State) : exec .linkDown s = execLinkDown s := rfl
@[simp] theorem exec_linkUp (gen width : Nat) (flit : Bool) (s : State) : exec (.linkUp gen width flit) s = execLinkUp gen width flit s := rfl
@[simp] theorem exec_vfRemoval (numVfs : Nat) (s : State) : exec (.vfRemoval numVfs) s = execVfRemoval numVfs s := rfl
@[simp] theorem exec_vfEnable (numVfs : Nat) (s : State) : exec (.vfEnable numVfs) s = execVfEnable numVfs s := rfl
@[simp] theorem exec_vfTeardownComplete (s : State) : exec .vfTeardownComplete s = execVfTeardownComplete s := rfl
@[simp] theorem exec_supervisorRestart (memory : Bool) (s : State) : exec (.supervisorRestart memory) s = execSupervisorRestart memory s := rfl
@[simp] theorem exec_supervisorRestartEnd (s : State) : exec .supervisorRestartEnd s = execSupervisorRestartEnd s := rfl
@[simp] theorem exec_tick (rail : List Nat) (stream : List (Nat × List (Int × Int))) (ringErr : List (Nat × Nat)) (twinErr : List Nat) (s : State) : exec (.tick rail stream ringErr twinErr) s = execTick rail stream ringErr twinErr s := rfl
@[simp] theorem exec_fastPeriod (s : State) : exec .fastPeriod s = execFastPeriod s := rfl
@[simp] theorem exec_leFailure (le : Nat) (bit : Nat) (s : State) : exec (.leFailure le bit) s = execLeFailure le bit s := rfl
@[simp] theorem exec_takeover (tn : Nat) (s : State) : exec (.takeover tn) s = execTakeover tn s := rfl
@[simp] theorem exec_takeoverComplete (tn : Nat) (s : State) : exec (.takeoverComplete tn) s = execTakeoverComplete tn s := rfl
@[simp] theorem exec_spareReq (fn le : Nat) (value : Word) (s : State) : exec (.spareReq fn le value) s = execSpareReq fn le value s := rfl
@[simp] theorem exec_returnReq (fn le : Nat) (value : Word) (s : State) : exec (.returnReq fn le value) s = execReturnReq fn le value s := rfl
@[simp] theorem exec_leRejoin (le : Nat) (pass : Bool) (s : State) : exec (.leRejoin le pass) s = execLeRejoin le pass s := rfl
@[simp] theorem exec_lptWriteBack (tn : Nat) (s : State) : exec (.lptWriteBack tn) s = execLptWriteBack tn s := rfl
@[simp] theorem exec_lockDeclared (ca : Nat) (s : State) : exec (.lockDeclared ca) s = execLockDeclared ca s := rfl
@[simp] theorem exec_lockLost (ca : Nat) (s : State) : exec (.lockLost ca) s = execLockLost ca s := rfl
@[simp] theorem exec_regionChange (ca : Nat) (s : State) : exec (.regionChange ca) s = execRegionChange ca s := rfl
@[simp] theorem exec_cellUnlit (ca : Nat) (s : State) : exec (.cellUnlit ca) s = execCellUnlit ca s := rfl
@[simp] theorem exec_cellLit (ca : Nat) (s : State) : exec (.cellLit ca) s = execCellLit ca s := rfl
@[simp] theorem exec_wrapTaken (ca : Nat) (s : State) : exec (.wrapTaken ca) s = execWrapTaken ca s := rfl
@[simp] theorem exec_conversionResult (mpa code : Nat) (fast clip err : Bool) (s : State) : exec (.conversionResult mpa code fast clip err) s = execConversionResult mpa code fast clip err s := rfl
@[simp] theorem exec_windowTransition (mpa : Nat) (s : State) : exec (.windowTransition mpa) s = execWindowTransition mpa s := rfl
@[simp] theorem exec_go (fn slot : Nat) (value : Word) (s : State) : exec (.go fn slot value) s = execGo fn slot value s := rfl
@[simp] theorem exec_cancel (fn slot : Nat) (value : Word) (s : State) : exec (.cancel fn slot value) s = execCancel fn slot value s := rfl
@[simp] theorem exec_injectedResult (slot code : Nat) (clip : Bool) (s : State) : exec (.injectedResult slot code clip) s = execInjectedResult slot code clip s := rfl
@[simp] theorem exec_claim (fn lane : Nat) (value : Word) (s : State) : exec (.claim fn lane value) s = execClaim fn lane value s := rfl
@[simp] theorem exec_claimClear (fn lane : Nat) (value : Word) (s : State) : exec (.claimClear fn lane value) s = execClaimClear fn lane value s := rfl
@[simp] theorem exec_arm (fn lane : Nat) (value : Word) (s : State) : exec (.arm fn lane value) s = execArm fn lane value s := rfl
@[simp] theorem exec_captureComplete (lane : Nat) (samples : List (BitVec 12)) (trigAt : Nat) (s : State) : exec (.captureComplete lane samples trigAt) s = execCaptureComplete lane samples trigAt s := rfl
@[simp] theorem exec_metWrite (fn mpa : Nat) (value : DWord) (s : State) : exec (.metWrite fn mpa value) s = execMetWrite fn mpa value s := rfl
@[simp] theorem exec_lptWrite (fn addr : Nat) (data : List Word) (s : State) : exec (.lptWrite fn addr data) s = execLptWrite fn addr data s := rfl
@[simp] theorem exec_parameterLoad (s : State) : exec .parameterLoad s = execParameterLoad s := rfl
@[simp] theorem exec_shapeLoad (fn : Nat) (value : Word) (s : State) : exec (.shapeLoad fn value) s = execShapeLoad fn value s := rfl
@[simp] theorem exec_shapeLoadComplete (s : State) : exec .shapeLoadComplete s = execShapeLoadComplete s := rfl
@[simp] theorem exec_toneApply (fn : Nat) (value : Word) (s : State) : exec (.toneApply fn value) s = execToneApply fn value s := rfl
@[simp] theorem exec_tonePlanChange (s : State) : exec .tonePlanChange s = execTonePlanChange s := rfl
@[simp] theorem exec_ditherAmplitudeChange (aa : Nat) (s : State) : exec (.ditherAmplitudeChange aa) s = execDitherAmplitudeChange aa s := rfl
@[simp] theorem exec_driveFault (kind aa : Nat) (s : State) : exec (.driveFault kind aa) s = execDriveFault kind aa s := rfl
@[simp] theorem exec_run (fn : Nat) (value : Word) (s : State) : exec (.run fn value) s = execRun fn value s := rfl
@[simp] theorem exec_stop (fn : Nat) (value : Word) (s : State) : exec (.stop fn value) s = execStop fn value s := rfl
@[simp] theorem exec_jump (fn : Nat) (value : Word) (s : State) : exec (.jump fn value) s = execJump fn value s := rfl
@[simp] theorem exec_seqBind (fn lane : Nat) (value : Word) (s : State) : exec (.seqBind fn lane value) s = execSeqBind fn lane value s := rfl
@[simp] theorem exec_unbind (lane : Nat) (s : State) : exec (.unbind lane) s = execUnbind lane s := rfl
@[simp] theorem exec_sampleBoundary (s : State) : exec .sampleBoundary s = execSampleBoundary s := rfl
@[simp] theorem exec_iterationBoundary (s : State) : exec .iterationBoundary s = execIterationBoundary s := rfl
@[simp] theorem exec_segmentReady (s : State) : exec .segmentReady s = execSegmentReady s := rfl
@[simp] theorem exec_refillEnable (fn : Nat) (value : Word) (s : State) : exec (.refillEnable fn value) s = execRefillEnable fn value s := rfl
@[simp] theorem exec_segmentFilled (seg : Nat) (data : List DWord) (s : State) : exec (.segmentFilled seg data) s = execSegmentFilled seg data s := rfl
@[simp] theorem exec_patternWrite (fn : Nat) (desc : Bool) (addr nbytes : Nat) (value : DWord) (s : State) : exec (.patternWrite fn desc addr nbytes value) s = execPatternWrite fn desc addr nbytes value s := rfl
@[simp] theorem exec_syncin (s : State) : exec .syncin s = execSyncin s := rfl
@[simp] theorem exec_syncPulseEnd (x : Nat) (s : State) : exec (.syncPulseEnd x) s = execSyncPulseEnd x s := rfl
@[simp] theorem exec_calTileStart (tn : Nat) (s : State) : exec (.calTileStart tn) s = execCalTileStart tn s := rfl
@[simp] theorem exec_calWindowEnd (tn : Nat) (meas : List CalMeas) (s : State) : exec (.calWindowEnd tn meas) s = execCalWindowEnd tn meas s := rfl
@[simp] theorem exec_spareWaitTimeout (tn : Nat) (s : State) : exec (.spareWaitTimeout tn) s = execSpareWaitTimeout tn s := rfl
@[simp] theorem exec_store (s : State) : exec .store s = execStore s := rfl
@[simp] theorem exec_storeComplete (verifies : Bool) (s : State) : exec (.storeComplete verifies) s = execStoreComplete verifies s := rfl
@[simp] theorem exec_calApply (tn : Nat) (s : State) : exec (.calApply tn) s = execCalApply tn s := rfl
@[simp] theorem exec_calReturn (tn : Nat) (s : State) : exec (.calReturn tn) s = execCalReturn tn s := rfl
@[simp] theorem exec_storeRetry (s : State) : exec .storeRetry s = execStoreRetry s := rfl
@[simp] theorem exec_interpolation (s : State) : exec .interpolation s = execInterpolation s := rfl
@[simp] theorem exec_force (fn src : Nat) (value : Word) (s : State) : exec (.force fn src value) s = execForce fn src value s := rfl
@[simp] theorem exec_latchedClear (fn src : Nat) (value : Word) (s : State) : exec (.latchedClear fn src value) s = execLatchedClear fn src value s := rfl
@[simp] theorem exec_outClear (fn src : Nat) (value : Word) (s : State) : exec (.outClear fn src value) s = execOutClear fn src value s := rfl
@[simp] theorem exec_quietPeriodEnd (src scope : Nat) (s : State) : exec (.quietPeriodEnd src scope) s = execQuietPeriodEnd src scope s := rfl
@[simp] theorem exec_fatalRecoveryTimeout (s : State) : exec .fatalRecoveryTimeout s = execFatalRecoveryTimeout s := rfl
@[simp] theorem exec_blankNAssert (widthNs : Nat) (s : State) : exec (.blankNAssert widthNs) s = execBlankNAssert widthNs s := rfl
@[simp] theorem exec_blankNDeassert (s : State) : exec .blankNDeassert s = execBlankNDeassert s := rfl
@[simp] theorem exec_swBlank (fn : Nat) (value : Word) (s : State) : exec (.swBlank fn value) s = execSwBlank fn value s := rfl
@[simp] theorem exec_blankStage2 (s : State) : exec .blankStage2 s = execBlankStage2 s := rfl
@[simp] theorem exec_blankRelease (s : State) : exec .blankRelease s = execBlankRelease s := rfl
@[simp] theorem exec_errNPulseEnd (s : State) : exec .errNPulseEnd s = execErrNPulseEnd s := rfl
@[simp] theorem exec_fltCtlLock (fn : Nat) (value : Word) (s : State) : exec (.fltCtlLock fn value) s = execFltCtlLock fn value s := rfl
@[simp] theorem exec_ppsIn (s : State) : exec .ppsIn s = execPpsIn s := rfl
@[simp] theorem exec_todFrame (bytes : List Byte) (gapNs : Nat) (s : State) : exec (.todFrame bytes gapNs) s = execTodFrame bytes gapNs s := rfl
@[simp] theorem exec_ptmExchange (s : State) : exec .ptmExchange s = execPtmExchange s := rfl
@[simp] theorem exec_ptmResponse (ok : Bool) (master : Nat) (s : State) : exec (.ptmResponse ok master) s = execPtmResponse ok master s := rfl
@[simp] theorem exec_sourceLost (s : State) : exec .sourceLost s = execSourceLost s := rfl
@[simp] theorem exec_srcChange (fn : Nat) (value : Word) (s : State) : exec (.srcChange fn value) s = execSrcChange fn value s := rfl
@[simp] theorem exec_timEpochReset (fn : Nat) (value : Word) (s : State) : exec (.timEpochReset fn value) s = execTimEpochReset fn value s := rfl
@[simp] theorem exec_step (fn : Nat) (value : Word) (s : State) : exec (.step fn value) s = execStep fn value s := rfl
@[simp] theorem exec_timStepForce (fn : Nat) (value : Word) (s : State) : exec (.timStepForce fn value) s = execTimStepForce fn value s := rfl
@[simp] theorem exec_ppsOut (s : State) : exec .ppsOut s = execPpsOut s := rfl
@[simp] theorem exec_todTx (s : State) : exec .todTx s = execTodTx s := rfl
@[simp] theorem exec_islandSample (tap nW : Nat) (s : State) : exec (.islandSample tap nW) s = execIslandSample tap nW s := rfl
@[simp] theorem exec_snapshotLinkDelta (strobe : Option Nat) (esn tb0 : Nat) (release : Bool) (ents : List LinkEntry) (s : State) : exec (.snapshotLinkDelta strobe esn tb0 release ents) s = execSnapshotLinkDelta strobe esn tb0 release ents s := rfl
@[simp] theorem exec_fullMap (ents : List LinkEntry) (s : State) : exec (.fullMap ents) s = execFullMap ents s := rfl
@[simp] theorem exec_linkSilence (s : State) : exec .linkSilence s = execLinkSilence s := rfl
@[simp] theorem exec_split (s : State) : exec .split s = execSplit s := rfl
@[simp] theorem exec_unclaimedOpen (out : Nat) (s : State) : exec (.unclaimedOpen out) s = execUnclaimedOpen out s := rfl
@[simp] theorem exec_blockSigning (s : State) : exec .blockSigning s = execBlockSigning s := rfl
@[simp] theorem exec_checkpoint (s : State) : exec .checkpoint s = execCheckpoint s := rfl
@[simp] theorem exec_islandStart (s : State) : exec .islandStart s = execIslandStart s := rfl
@[simp] theorem exec_clockCheck (s : State) : exec .clockCheck s = execClockCheck s := rfl
@[simp] theorem exec_islandHeartbeat (s : State) : exec .islandHeartbeat s = execIslandHeartbeat s := rfl
@[simp] theorem exec_heartbeatLoss (s : State) : exec .heartbeatLoss s = execHeartbeatLoss s := rfl
@[simp] theorem exec_islandReply (s : State) : exec .islandReply s = execIslandReply s := rfl
@[simp] theorem exec_identify (s : State) : exec .identify s = execIdentify s := rfl
@[simp] theorem exec_lastResult (s : State) : exec .lastResult s = execLastResult s := rfl
@[simp] theorem exec_seek (obj index : Nat) (s : State) : exec (.seek obj index) s = execSeek obj index s := rfl
@[simp] theorem exec_read (len : Nat) (s : State) : exec (.read len) s = execRead len s := rfl
@[simp] theorem exec_ack (index : DWord) (s : State) : exec (.ack index) s = execAck index s := rfl
@[simp] theorem exec_timeSet (ns : DWord) (s : State) : exec (.timeSet ns) s = execTimeSet ns s := rfl
@[simp] theorem exec_challenge (s : State) : exec .challenge s = execChallenge s := rfl
@[simp] theorem exec_token (chunk : Nat) (bytes : List Byte) (s : State) : exec (.token chunk bytes) s = execToken chunk bytes s := rfl
@[simp] theorem exec_sealOp (op : Nat) (s : State) : exec (.sealOp op) s = execSealOp op s := rfl
@[simp] theorem exec_configWrite (bytes : List Byte) (s : State) : exec (.configWrite bytes) s = execConfigWrite bytes s := rfl
@[simp] theorem exec_getVersion (doe : Bool) (m : SpdmMsg) (s : State) : exec (.getVersion doe m) s = execGetVersion doe m s := rfl
@[simp] theorem exec_getCapabilities (doe : Bool) (m : SpdmMsg) (s : State) : exec (.getCapabilities doe m) s = execGetCapabilities doe m s := rfl
@[simp] theorem exec_negotiateAlgorithms (doe : Bool) (m : SpdmMsg) (s : State) : exec (.negotiateAlgorithms doe m) s = execNegotiateAlgorithms doe m s := rfl
@[simp] theorem exec_getDigests (doe : Bool) (m : SpdmMsg) (s : State) : exec (.getDigests doe m) s = execGetDigests doe m s := rfl
@[simp] theorem exec_getCertificate (doe : Bool) (m : SpdmMsg) (s : State) : exec (.getCertificate doe m) s = execGetCertificate doe m s := rfl
@[simp] theorem exec_spdmChallenge (doe : Bool) (m : SpdmMsg) (s : State) : exec (.spdmChallenge doe m) s = execSpdmChallenge doe m s := rfl
@[simp] theorem exec_getMeasurements (doe : Bool) (m : SpdmMsg) (s : State) : exec (.getMeasurements doe m) s = execGetMeasurements doe m s := rfl
@[simp] theorem exec_keyExchange (doe : Bool) (m : SpdmMsg) (s : State) : exec (.keyExchange doe m) s = execKeyExchange doe m s := rfl
@[simp] theorem exec_finish (doe : Bool) (m : SpdmMsg) (s : State) : exec (.finish doe m) s = execFinish doe m s := rfl
@[simp] theorem exec_heartbeat (doe : Bool) (m : SpdmMsg) (s : State) : exec (.heartbeat doe m) s = execHeartbeat doe m s := rfl
@[simp] theorem exec_endSession (doe : Bool) (m : SpdmMsg) (s : State) : exec (.endSession doe m) s = execEndSession doe m s := rfl
@[simp] theorem exec_heartbeatTimeout (doe : Bool) (s : State) : exec (.heartbeatTimeout doe) s = execHeartbeatTimeout doe s := rfl
@[simp] theorem exec_chalReq (fn : Nat) (value : Word) (s : State) : exec (.chalReq fn value) s = execChalReq fn value s := rfl
@[simp] theorem exec_submit (fn : Nat) (value : Word) (token : List Byte) (how : HostRead) (s : State) : exec (.submit fn value token how) s = execSubmit fn value token how s := rfl
@[simp] theorem exec_relock (fn : Nat) (value : Word) (s : State) : exec (.relock fn value) s = execRelock fn value s := rfl
@[simp] theorem exec_dbgChal (s : State) : exec .dbgChal s = execDbgChal s := rfl
@[simp] theorem exec_dbgToken (token : List Byte) (s : State) : exec (.dbgToken token) s = execDbgToken token s := rfl
@[simp] theorem exec_jtagInstructionLoad (code : Nat) (s : State) : exec (.jtagInstructionLoad code) s = execJtagInstructionLoad code s := rfl
@[simp] theorem exec_vin48Good (refsel : Bool) (strapId : BitVec 4) (s : State) : exec (.vin48Good refsel strapId) s = execVin48Good refsel strapId s := rfl
@[simp] theorem exec_dawnReq (fn : Nat) (value : Word) (s : State) : exec (.dawnReq fn value) s = execDawnReq fn value s := rfl
@[simp] theorem exec_dawnStepEnd (byLimit : Bool) (s : State) : exec (.dawnStepEnd byLimit) s = execDawnStepEnd byLimit s := rfl
@[simp] theorem exec_duskReq (fn : Nat) (value : Word) (s : State) : exec (.duskReq fn value) s = execDuskReq fn value s := rfl
@[simp] theorem exec_duskStepEnd (s : State) : exec .duskStepEnd s = execDuskStepEnd s := rfl
@[simp] theorem exec_vinWarn (mv10 : Nat) (s : State) : exec (.vinWarn mv10) s = execVinWarn mv10 s := rfl
@[simp] theorem exec_vin48Low (mv10 : Nat) (s : State) : exec (.vin48Low mv10) s = execVin48Low mv10 s := rfl
@[simp] theorem exec_uvlo (mv10 : Nat) (s : State) : exec (.uvlo mv10) s = execUvlo mv10 s := rfl
@[simp] theorem exec_vin48High (mv10 : Nat) (s : State) : exec (.vin48High mv10) s = execVin48High mv10 s := rfl
@[simp] theorem exec_railOutOfWindow (rail mv : Nat) (s : State) : exec (.railOutOfWindow rail mv) s = execRailOutOfWindow rail mv s := rfl
@[simp] theorem exec_pllLockLoss (s : State) : exec .pllLockLoss s = execPllLockLoss s := rfl
@[simp] theorem exec_refinLoss (s : State) : exec .refinLoss s = execRefinLoss s := rfl
@[simp] theorem exec_sensorUpdate (sensor : Nat) (temp : Int) (convErr : Bool) (s : State) : exec (.sensorUpdate sensor temp convErr) s = execSensorUpdate sensor temp convErr s := rfl
@[simp] theorem exec_powerMean (vin10 pin : Nat) (s : State) : exec (.powerMean vin10 pin) s = execPowerMean vin10 pin s := rfl
@[simp] theorem exec_permitSense (s : State) : exec .permitSense s = execPermitSense s := rfl
@[simp] theorem exec_masterStall (m fn : Nat) (s : State) : exec (.masterStall m fn) s = execMasterStall m fn s := rfl
@[simp] theorem exec_snap (fn : Nat) (value : Word) (s : State) : exec (.snap fn value) s = execSnap fn value s := rfl
@[simp] theorem exec_clearAll (fn : Nat) (value : Word) (s : State) : exec (.clearAll fn value) s = execClearAll fn value s := rfl
@[simp] theorem exec_pmcLiveWrite (fn : Nat) (hi : Bool) (value : Word) (atOverflow : Bool) (s : State) : exec (.pmcLiveWrite fn hi value atOverflow) s = execPmcLiveWrite fn hi value atOverflow s := rfl
@[simp] theorem exec_pmcLiveRead (fn : Nat) (s : State) : exec (.pmcLiveRead fn) s = execPmcLiveRead fn s := rfl
@[simp] theorem exec_dumpComplete (s : State) : exec .dumpComplete s = execDumpComplete s := rfl
@[simp] theorem exec_glbCtlLock (fn : Nat) (value : Word) (s : State) : exec (.glbCtlLock fn value) s = execGlbCtlLock fn value s := rfl
@[simp] theorem exec_captureRead (fn bar off nbytes : Nat) (s : State) : exec (.captureRead fn bar off nbytes) s = execCaptureRead fn bar off nbytes s := rfl
@[simp] theorem exec_mrtValueRead (fn mpa : Nat) (s : State) : exec (.mrtValueRead fn mpa) s = execMrtValueRead fn mpa s := rfl
@[simp] theorem exec_rcRead (fn off nbytes : Nat) (s : State) : exec (.rcRead fn off nbytes) s = execRcRead fn off nbytes s := rfl
@[simp] theorem exec_registerWrite (fn bar off : Nat) (data : List Byte) (s : State) : exec (.registerWrite fn bar off data) s = execRegisterWrite fn bar off data s := rfl
@[simp] theorem exec_pllLockRegained (s : State) : exec .pllLockRegained s = execPllLockRegained s := rfl
@[simp] theorem exec_refinRestored (s : State) : exec .refinRestored s = execRefinRestored s := rfl
@[simp] theorem exec_railInWindow (rail mv : Nat) (s : State) : exec (.railInWindow rail mv) s = execRailInWindow rail mv s := rfl
@[simp] theorem exec_vin48Return (mv10 : Nat) (s : State) : exec (.vin48Return mv10) s = execVin48Return mv10 s := rfl
@[simp] theorem exec_iclkAgreement (s : State) : exec .iclkAgreement s = execIclkAgreement s := rfl
@[simp] theorem exec_pcieCorrectableError (err : AerBit) (s : State) : exec (.pcieCorrectableError err) s = execPcieCorrectableError err s := rfl

end Sys2Proof.Machine
end

