-- ==== Sys2Proof/Laws/Tab.lean ====
section
/-!
SUPPORT. What reading after writing answers, for a sparse table and for the addressed buffers, and that every write keeps the canonical form.
-/
namespace Sys2Proof.Machine

variable {α : Type} [DecidableEq α]

/-- The entry just set is the value. -/
@[simp] theorem Tab.get_set_self (d : α) (t : Tab α) (k : Nat) (v : α) : (t.set d k v).get d k = v := by
  induction t with
  | nil => unfold Tab.set; split <;> simp_all [Tab.get]
  | cons p t ih =>
    obtain ⟨k', w⟩ := p
    unfold Tab.set
    split
    · have : k' ≠ k := by omega
      simp [Tab.get, this, ih]
    · split
      · split
        · exact ih
        · simp_all [Tab.get]
      · split <;> simp [Tab.get]

/-- Setting a key leaves every other key. -/
theorem Tab.get_set_ne (d : α) (t : Tab α) {k j : Nat} (v : α) (h : j ≠ k) : (t.set d k v).get d j = t.get d j := by
  have h' : ¬ k = j := fun e => h e.symm
  induction t with
  | nil => unfold Tab.set; split <;> simp_all [Tab.get]
  | cons p t ih =>
    obtain ⟨k', w⟩ := p
    unfold Tab.set
    split
    · simp [Tab.get, ih]
    · split
      · split
        · next e => subst e; simp [Tab.get, h', ih]
        · simp [Tab.get, ih]
      · split
        · next e => subst e; simp [Tab.get, h']
        · simp [Tab.get, h']

/-- Both in one: what any key reads as after one is set. -/
theorem Tab.get_set (d : α) (t : Tab α) (k j : Nat) (v : α) : (t.set d k v).get d j = if j = k then v else t.get d j := by
  split
  · next h => subst h; simp
  · next h => exact Tab.get_set_ne d t v h

/-- The entry just changed. -/
@[simp] theorem Tab.get_mod_self (d : α) (t : Tab α) (k : Nat) (f : α → α) : (t.mod d k f).get d k = f (t.get d k) := by
  simp [Tab.mod]

/-- Changing a key leaves every other key. -/
theorem Tab.get_mod_ne (d : α) (t : Tab α) {k j : Nat} (f : α → α) (h : j ≠ k) : (t.mod d k f).get d j = t.get d j :=
  Tab.get_set_ne d t _ h

/-- Both in one. -/
theorem Tab.get_mod (d : α) (t : Tab α) (k j : Nat) (f : α → α) :
    (t.mod d k f).get d j = if j = k then f (t.get d k) else t.get d j := Tab.get_set d t k j _

/-! ## The canonical form, as a statement about the head and the rest -/

/-- The keys of a table in canonical form are above a bound. -/
def Tab.above (b : Nat) : Tab α → Prop
  | [] => True
  | (k, _) :: _ => b < k

theorem Tab.wf_cons (d : α) (k : Nat) (v : α) (t : Tab α) :
    Tab.wf d ((k, v) :: t) = true ↔ v ≠ d ∧ Tab.above k t ∧ Tab.wf d t = true := by
  cases t with
  | nil => simp [Tab.wf, Tab.above]
  | cons p t => obtain ⟨k', v'⟩ := p; simp [Tab.wf, Tab.above]; tauto

/-- Setting a key above a bound keeps the keys above it. -/
theorem Tab.above_set (d : α) {b : Nat} {t : Tab α} {k : Nat} {v : α} (hw : Tab.wf d t = true) (h : Tab.above b t) (hk : b < k) :
    Tab.above b (t.set d k v) := by
  induction t with
  | nil => unfold Tab.set; split <;> simp [Tab.above, hk]
  | cons p t ih =>
    obtain ⟨k', w⟩ := p
    rw [Tab.wf_cons] at hw
    unfold Tab.set
    split
    · exact h
    · split
      · split
        · refine ih hw.2.2 ?_
          cases t with
          | nil => trivial
          | cons q t =>
            have h1 : b < k' := h
            have h2 : k' < q.1 := hw.2.1
            exact Nat.lt_trans h1 h2
        · exact h
      · split <;> exact hk

/-- Setting a key keeps the canonical form. -/
theorem Tab.wf_set (d : α) {t : Tab α} (k : Nat) (v : α) (h : Tab.wf d t = true) : Tab.wf d (t.set d k v) = true := by
  induction t with
  | nil => unfold Tab.set; split <;> simp_all [Tab.wf]
  | cons p t ih =>
    obtain ⟨k', w⟩ := p
    have hw := h
    rw [Tab.wf_cons] at h
    unfold Tab.set
    split
    · next hk => rw [Tab.wf_cons]; exact ⟨h.1, Tab.above_set d h.2.2 h.2.1 hk, ih h.2.2⟩
    · split
      · next hv =>
        subst hv
        split
        · exact ih h.2.2
        · next hk hne =>
          rw [Tab.wf_cons]
          refine ⟨h.1, ?_, ih h.2.2⟩
          have hlt : k < k' := by omega
          have : ∀ u : Tab α, Tab.wf v u = true → Tab.above k' u → u.set v k v = u := by
            intro u
            induction u with
            | nil => intros; simp [Tab.set]
            | cons q u ihu =>
              obtain ⟨kq, x⟩ := q
              intro hu ha
              rw [Tab.wf_cons] at hu
              have hkq : k' < kq := ha
              have hu' : Tab.above k' u := by
                cases u with
                | nil => trivial
                | cons r u => exact Nat.lt_trans hkq hu.2.1
              have n1 : ¬ kq < k := by omega
              have n2 : kq ≠ k := by omega
              simp [Tab.set, n1, n2, ihu hu.2.2 hu']
          rw [this t h.2.2 h.2.1]; exact h.2.1
      · next hv =>
        split
        · next e => subst e; rw [Tab.wf_cons]; exact ⟨hv, h.2.1, h.2.2⟩
        · next hne => rw [Tab.wf_cons]; exact ⟨hv, by show k < k'; omega, hw⟩

theorem Tab.wf_mod (d : α) {t : Tab α} (k : Nat) (f : α → α) (h : Tab.wf d t = true) : Tab.wf d (t.mod d k f) = true :=
  Tab.wf_set d k _ h

/-! ## The addressed buffers -/

@[simp] theorem Memory.read_write (m : List (Nat × Byte)) (a b : Nat) (v : Byte) :
    Memory.read (Memory.write m a v) b = if b = a then v else Memory.read m b := Tab.get_set _ _ _ _ _

/-- Every byte outside the bytes written reads as before. -/
theorem Memory.read_writeBytes_out (bs : List Byte) : ∀ (m : List (Nat × Byte)) (a b : Nat), b < a ∨ a + bs.length ≤ b →
    Memory.read (Memory.writeBytes m a bs) b = Memory.read m b := by
  induction bs with
  | nil => intros; rfl
  | cons x bs ih =>
    intro m a b h
    simp only [List.length_cons] at h
    have hb : b ≠ a := by omega
    simp [Memory.writeBytes, ih (Memory.write m a x) (a + 1) b (by omega), hb]

/-- The bytes written read back. -/
theorem Memory.read_writeBytes_in (bs : List Byte) : ∀ (m : List (Nat × Byte)) (a k : Nat) (h : k < bs.length),
    Memory.read (Memory.writeBytes m a bs) (a + k) = bs[k] := by
  induction bs with
  | nil => intro m a k h; simp at h
  | cons x bs ih =>
    intro m a k h
    cases k with
    | zero => simp [Memory.writeBytes, Memory.read_writeBytes_out bs _ (a + 1) a (by omega)]
    | succ k =>
      have := ih (Memory.write m a x) (a + 1) k (by simpa using h)
      simp only [Memory.writeBytes, List.getElem_cons_succ, ← this]
      congr 1; omega

/-- A write of one byte, and of several, keeps the canonical form. -/
theorem Memory.wf_write {m : List (Nat × Byte)} (a : Nat) (v : Byte) (h : Memory.wf m = true) : Memory.wf (Memory.write m a v) = true :=
  Tab.wf_set _ _ _ h
theorem Memory.wf_writeBytes (bs : List Byte) : ∀ {m : List (Nat × Byte)} (a : Nat), Memory.wf m = true →
    Memory.wf (Memory.writeBytes m a bs) = true := by
  induction bs with
  | nil => intro m a h; exact h
  | cons x bs ih => intro m a h; exact ih (a + 1) (Memory.wf_write a x h)

end Sys2Proof.Machine
end

