-- ==== Sys2Proof/Laws/State.lean ====
section
/-!
SUPPORT. What each update of an entry leaves: every other part of the control side, every other field of its own part, every other entry;
and what the entry then holds. No later proof unfolds a record update.
-/
namespace Sys2Proof.Machine

variable (d : Dev)


@[simp] theorem Dev.modQueue_parts (q : Nat) (f : Queue → Queue) :
    (d.modQueue q f).flt = d.flt ∧ (d.modQueue q f).tim = d.tim ∧ (d.modQueue q f).fab = d.fab ∧ (d.modQueue q f).cmt = d.cmt ∧
    (d.modQueue q f).jobs = d.jobs ∧ (d.modQueue q f).mon = d.mon ∧ (d.modQueue q f).drv = d.drv ∧ (d.modQueue q f).seq = d.seq ∧
    (d.modQueue q f).cal = d.cal ∧ (d.modQueue q f).mi = d.mi ∧ (d.modQueue q f).sec = d.sec ∧ (d.modQueue q f).pwr = d.pwr ∧
    (d.modQueue q f).thm = d.thm ∧ (d.modQueue q f).pmc = d.pmc ∧ (d.modQueue q f).bmx = d.bmx ∧ (d.modQueue q f).mtx = d.mtx ∧
    (d.modQueue q f).glb = d.glb ∧ (d.modQueue q f).fresh = d.fresh :=
  ⟨rfl, rfl, rfl, rfl, rfl, rfl, rfl, rfl, rfl, rfl, rfl, rfl, rfl, rfl, rfl, rfl, rfl, rfl⟩

@[simp] theorem Dev.modQueue_io (q : Nat) (f : Queue → Queue) :
    ((d.modQueue q f).io).fns = d.io.fns ∧ ((d.modQueue q f).io).views = d.io.views ∧ ((d.modQueue q f).io).tel = d.io.tel ∧
    ((d.modQueue q f).io).telRo = d.io.telRo ∧ ((d.modQueue q f).io).linkUp = d.io.linkUp ∧ ((d.modQueue q f).io).linkGen = d.io.linkGen ∧
    ((d.modQueue q f).io).linkWidth = d.io.linkWidth ∧ ((d.modQueue q f).io).linkFlit = d.io.linkFlit ∧
    ((d.modQueue q f).io).numVfs = d.io.numVfs ∧ ((d.modQueue q f).io).vfHeld = d.io.vfHeld ∧
    ((d.modQueue q f).io).teardown = d.io.teardown ∧ ((d.modQueue q f).io).perst = d.io.perst ∧ ((d.modQueue q f).io).owner = d.io.owner ∧
    ((d.modQueue q f).io).disturb = d.io.disturb ∧ ((d.modQueue q f).io).cap = d.io.cap ∧ ((d.modQueue q f).io).attn = d.io.attn ∧
    ((d.modQueue q f).io).atnOn = d.io.atnOn ∧ ((d.modQueue q f).io).out = d.io.out :=
  ⟨rfl, rfl, rfl, rfl, rfl, rfl, rfl, rfl, rfl, rfl, rfl, rfl, rfl, rfl, rfl, rfl, rfl, rfl⟩

theorem Dev.queue_modQueue (q : Nat) (f : Queue → Queue) (j : Nat) : (d.modQueue q f).queue j = if j = q then f (d.queue q) else d.queue j :=
  Tab.get_mod _ _ _ _ _

@[simp] theorem Dev.queue_modQueue_self (q : Nat) (f : Queue → Queue) : (d.modQueue q f).queue q = f (d.queue q) := Tab.get_mod_self _ _ _ _

@[simp] theorem Dev.fn_modQueue (q : Nat) (f : Queue → Queue) (j : Nat) : (d.modQueue q f).fn j = d.fn j := rfl

@[simp] theorem Dev.view_modQueue (q : Nat) (f : Queue → Queue) (j : Nat) : (d.modQueue q f).view j = d.view j := rfl

@[simp] theorem Dev.cap_modQueue (q : Nat) (f : Queue → Queue) (j : Nat) : (d.modQueue q f).cap j = d.cap j := rfl

@[simp] theorem Dev.modQueue_entries (q : Nat) (f : Queue → Queue) :
    (d.modQueue q f).src = d.src ∧ (d.modQueue q f).cell = d.cell ∧ (d.modQueue q f).loop = d.loop ∧ (d.modQueue q f).tile = d.tile ∧
    (d.modQueue q f).le = d.le ∧ (d.modQueue q f).slot = d.slot ∧ (d.modQueue q f).mrt = d.mrt ∧ (d.modQueue q f).met = d.met ∧
    (d.modQueue q f).inj = d.inj ∧ (d.modQueue q f).fl = d.fl ∧ (d.modQueue q f).lane = d.lane :=
  ⟨rfl, rfl, rfl, rfl, rfl, rfl, rfl, rfl, rfl, rfl, rfl⟩

@[simp] theorem Dev.modFn_parts (k : Nat) (f : Fn → Fn) :
    (d.modFn k f).flt = d.flt ∧ (d.modFn k f).tim = d.tim ∧ (d.modFn k f).fab = d.fab ∧ (d.modFn k f).cmt = d.cmt ∧
    (d.modFn k f).jobs = d.jobs ∧ (d.modFn k f).mon = d.mon ∧ (d.modFn k f).drv = d.drv ∧ (d.modFn k f).seq = d.seq ∧
    (d.modFn k f).cal = d.cal ∧ (d.modFn k f).mi = d.mi ∧ (d.modFn k f).sec = d.sec ∧ (d.modFn k f).pwr = d.pwr ∧
    (d.modFn k f).thm = d.thm ∧ (d.modFn k f).pmc = d.pmc ∧ (d.modFn k f).bmx = d.bmx ∧ (d.modFn k f).mtx = d.mtx ∧
    (d.modFn k f).glb = d.glb ∧ (d.modFn k f).fresh = d.fresh :=
  ⟨rfl, rfl, rfl, rfl, rfl, rfl, rfl, rfl, rfl, rfl, rfl, rfl, rfl, rfl, rfl, rfl, rfl, rfl⟩

@[simp] theorem Dev.modFn_io (k : Nat) (f : Fn → Fn) :
    ((d.modFn k f).io).queues = d.io.queues ∧ ((d.modFn k f).io).views = d.io.views ∧ ((d.modFn k f).io).tel = d.io.tel ∧
    ((d.modFn k f).io).telRo = d.io.telRo ∧ ((d.modFn k f).io).linkUp = d.io.linkUp ∧ ((d.modFn k f).io).linkGen = d.io.linkGen ∧
    ((d.modFn k f).io).linkWidth = d.io.linkWidth ∧ ((d.modFn k f).io).linkFlit = d.io.linkFlit ∧
    ((d.modFn k f).io).numVfs = d.io.numVfs ∧ ((d.modFn k f).io).vfHeld = d.io.vfHeld ∧ ((d.modFn k f).io).teardown = d.io.teardown ∧
    ((d.modFn k f).io).perst = d.io.perst ∧ ((d.modFn k f).io).owner = d.io.owner ∧ ((d.modFn k f).io).disturb = d.io.disturb ∧
    ((d.modFn k f).io).cap = d.io.cap ∧ ((d.modFn k f).io).attn = d.io.attn ∧ ((d.modFn k f).io).atnOn = d.io.atnOn ∧
    ((d.modFn k f).io).out = d.io.out :=
  ⟨rfl, rfl, rfl, rfl, rfl, rfl, rfl, rfl, rfl, rfl, rfl, rfl, rfl, rfl, rfl, rfl, rfl, rfl⟩

theorem Dev.fn_modFn (k : Nat) (f : Fn → Fn) (j : Nat) : (d.modFn k f).fn j = if j = k then f (d.fn k) else d.fn j :=
  Tab.get_mod _ _ _ _ _

@[simp] theorem Dev.fn_modFn_self (k : Nat) (f : Fn → Fn) : (d.modFn k f).fn k = f (d.fn k) := Tab.get_mod_self _ _ _ _

@[simp] theorem Dev.queue_modFn (k : Nat) (f : Fn → Fn) (j : Nat) : (d.modFn k f).queue j = d.queue j := rfl

@[simp] theorem Dev.view_modFn (k : Nat) (f : Fn → Fn) (j : Nat) : (d.modFn k f).view j = d.view j := rfl

@[simp] theorem Dev.cap_modFn (k : Nat) (f : Fn → Fn) (j : Nat) : (d.modFn k f).cap j = d.cap j := rfl

@[simp] theorem Dev.modFn_entries (k : Nat) (f : Fn → Fn) :
    (d.modFn k f).src = d.src ∧ (d.modFn k f).cell = d.cell ∧ (d.modFn k f).loop = d.loop ∧ (d.modFn k f).tile = d.tile ∧
    (d.modFn k f).le = d.le ∧ (d.modFn k f).slot = d.slot ∧ (d.modFn k f).mrt = d.mrt ∧ (d.modFn k f).met = d.met ∧
    (d.modFn k f).inj = d.inj ∧ (d.modFn k f).fl = d.fl ∧ (d.modFn k f).lane = d.lane :=
  ⟨rfl, rfl, rfl, rfl, rfl, rfl, rfl, rfl, rfl, rfl, rfl⟩

@[simp] theorem Dev.modView_parts (k : Nat) (f : View → View) :
    (d.modView k f).flt = d.flt ∧ (d.modView k f).tim = d.tim ∧ (d.modView k f).fab = d.fab ∧ (d.modView k f).cmt = d.cmt ∧
    (d.modView k f).jobs = d.jobs ∧ (d.modView k f).mon = d.mon ∧ (d.modView k f).drv = d.drv ∧ (d.modView k f).seq = d.seq ∧
    (d.modView k f).cal = d.cal ∧ (d.modView k f).mi = d.mi ∧ (d.modView k f).sec = d.sec ∧ (d.modView k f).pwr = d.pwr ∧
    (d.modView k f).thm = d.thm ∧ (d.modView k f).pmc = d.pmc ∧ (d.modView k f).bmx = d.bmx ∧ (d.modView k f).mtx = d.mtx ∧
    (d.modView k f).glb = d.glb ∧ (d.modView k f).fresh = d.fresh :=
  ⟨rfl, rfl, rfl, rfl, rfl, rfl, rfl, rfl, rfl, rfl, rfl, rfl, rfl, rfl, rfl, rfl, rfl, rfl⟩

@[simp] theorem Dev.modView_io (k : Nat) (f : View → View) :
    ((d.modView k f).io).queues = d.io.queues ∧ ((d.modView k f).io).fns = d.io.fns ∧ ((d.modView k f).io).tel = d.io.tel ∧
    ((d.modView k f).io).telRo = d.io.telRo ∧ ((d.modView k f).io).linkUp = d.io.linkUp ∧ ((d.modView k f).io).linkGen = d.io.linkGen ∧
    ((d.modView k f).io).linkWidth = d.io.linkWidth ∧ ((d.modView k f).io).linkFlit = d.io.linkFlit ∧
    ((d.modView k f).io).numVfs = d.io.numVfs ∧ ((d.modView k f).io).vfHeld = d.io.vfHeld ∧
    ((d.modView k f).io).teardown = d.io.teardown ∧ ((d.modView k f).io).perst = d.io.perst ∧ ((d.modView k f).io).owner = d.io.owner ∧
    ((d.modView k f).io).disturb = d.io.disturb ∧ ((d.modView k f).io).cap = d.io.cap ∧ ((d.modView k f).io).attn = d.io.attn ∧
    ((d.modView k f).io).atnOn = d.io.atnOn ∧ ((d.modView k f).io).out = d.io.out :=
  ⟨rfl, rfl, rfl, rfl, rfl, rfl, rfl, rfl, rfl, rfl, rfl, rfl, rfl, rfl, rfl, rfl, rfl, rfl⟩

theorem Dev.view_modView (k : Nat) (f : View → View) (j : Nat) : (d.modView k f).view j = if j = k then f (d.view k) else d.view j :=
  Tab.get_mod _ _ _ _ _

@[simp] theorem Dev.view_modView_self (k : Nat) (f : View → View) : (d.modView k f).view k = f (d.view k) := Tab.get_mod_self _ _ _ _

@[simp] theorem Dev.queue_modView (k : Nat) (f : View → View) (j : Nat) : (d.modView k f).queue j = d.queue j := rfl

@[simp] theorem Dev.fn_modView (k : Nat) (f : View → View) (j : Nat) : (d.modView k f).fn j = d.fn j := rfl

@[simp] theorem Dev.cap_modView (k : Nat) (f : View → View) (j : Nat) : (d.modView k f).cap j = d.cap j := rfl

@[simp] theorem Dev.modView_entries (k : Nat) (f : View → View) :
    (d.modView k f).src = d.src ∧ (d.modView k f).cell = d.cell ∧ (d.modView k f).loop = d.loop ∧ (d.modView k f).tile = d.tile ∧
    (d.modView k f).le = d.le ∧ (d.modView k f).slot = d.slot ∧ (d.modView k f).mrt = d.mrt ∧ (d.modView k f).met = d.met ∧
    (d.modView k f).inj = d.inj ∧ (d.modView k f).fl = d.fl ∧ (d.modView k f).lane = d.lane :=
  ⟨rfl, rfl, rfl, rfl, rfl, rfl, rfl, rfl, rfl, rfl, rfl⟩

@[simp] theorem Dev.modCap_parts (k : Nat) (f : Capture → Capture) :
    (d.modCap k f).flt = d.flt ∧ (d.modCap k f).tim = d.tim ∧ (d.modCap k f).fab = d.fab ∧ (d.modCap k f).cmt = d.cmt ∧
    (d.modCap k f).jobs = d.jobs ∧ (d.modCap k f).mon = d.mon ∧ (d.modCap k f).drv = d.drv ∧ (d.modCap k f).seq = d.seq ∧
    (d.modCap k f).cal = d.cal ∧ (d.modCap k f).mi = d.mi ∧ (d.modCap k f).sec = d.sec ∧ (d.modCap k f).pwr = d.pwr ∧
    (d.modCap k f).thm = d.thm ∧ (d.modCap k f).pmc = d.pmc ∧ (d.modCap k f).bmx = d.bmx ∧ (d.modCap k f).mtx = d.mtx ∧
    (d.modCap k f).glb = d.glb ∧ (d.modCap k f).fresh = d.fresh :=
  ⟨rfl, rfl, rfl, rfl, rfl, rfl, rfl, rfl, rfl, rfl, rfl, rfl, rfl, rfl, rfl, rfl, rfl, rfl⟩

@[simp] theorem Dev.modCap_io (k : Nat) (f : Capture → Capture) :
    ((d.modCap k f).io).queues = d.io.queues ∧ ((d.modCap k f).io).fns = d.io.fns ∧ ((d.modCap k f).io).views = d.io.views ∧
    ((d.modCap k f).io).tel = d.io.tel ∧ ((d.modCap k f).io).telRo = d.io.telRo ∧ ((d.modCap k f).io).linkUp = d.io.linkUp ∧
    ((d.modCap k f).io).linkGen = d.io.linkGen ∧ ((d.modCap k f).io).linkWidth = d.io.linkWidth ∧
    ((d.modCap k f).io).linkFlit = d.io.linkFlit ∧ ((d.modCap k f).io).numVfs = d.io.numVfs ∧ ((d.modCap k f).io).vfHeld = d.io.vfHeld ∧
    ((d.modCap k f).io).teardown = d.io.teardown ∧ ((d.modCap k f).io).perst = d.io.perst ∧ ((d.modCap k f).io).owner = d.io.owner ∧
    ((d.modCap k f).io).disturb = d.io.disturb ∧ ((d.modCap k f).io).attn = d.io.attn ∧ ((d.modCap k f).io).atnOn = d.io.atnOn ∧
    ((d.modCap k f).io).out = d.io.out :=
  ⟨rfl, rfl, rfl, rfl, rfl, rfl, rfl, rfl, rfl, rfl, rfl, rfl, rfl, rfl, rfl, rfl, rfl, rfl⟩

theorem Dev.cap_modCap (k : Nat) (f : Capture → Capture) (j : Nat) : (d.modCap k f).cap j = if j = k then f (d.cap k) else d.cap j :=
  Tab.get_mod _ _ _ _ _

@[simp] theorem Dev.cap_modCap_self (k : Nat) (f : Capture → Capture) : (d.modCap k f).cap k = f (d.cap k) := Tab.get_mod_self _ _ _ _

@[simp] theorem Dev.queue_modCap (k : Nat) (f : Capture → Capture) (j : Nat) : (d.modCap k f).queue j = d.queue j := rfl

@[simp] theorem Dev.fn_modCap (k : Nat) (f : Capture → Capture) (j : Nat) : (d.modCap k f).fn j = d.fn j := rfl

@[simp] theorem Dev.view_modCap (k : Nat) (f : Capture → Capture) (j : Nat) : (d.modCap k f).view j = d.view j := rfl

@[simp] theorem Dev.modCap_entries (k : Nat) (f : Capture → Capture) :
    (d.modCap k f).src = d.src ∧ (d.modCap k f).cell = d.cell ∧ (d.modCap k f).loop = d.loop ∧ (d.modCap k f).tile = d.tile ∧
    (d.modCap k f).le = d.le ∧ (d.modCap k f).slot = d.slot ∧ (d.modCap k f).mrt = d.mrt ∧ (d.modCap k f).met = d.met ∧
    (d.modCap k f).inj = d.inj ∧ (d.modCap k f).fl = d.fl ∧ (d.modCap k f).lane = d.lane :=
  ⟨rfl, rfl, rfl, rfl, rfl, rfl, rfl, rfl, rfl, rfl, rfl⟩

@[simp] theorem Dev.modSrc_parts (n : Nat) (f : Src → Src) :
    (d.modSrc n f).io = d.io ∧ (d.modSrc n f).tim = d.tim ∧ (d.modSrc n f).fab = d.fab ∧ (d.modSrc n f).cmt = d.cmt ∧
    (d.modSrc n f).jobs = d.jobs ∧ (d.modSrc n f).mon = d.mon ∧ (d.modSrc n f).drv = d.drv ∧ (d.modSrc n f).seq = d.seq ∧
    (d.modSrc n f).cal = d.cal ∧ (d.modSrc n f).mi = d.mi ∧ (d.modSrc n f).sec = d.sec ∧ (d.modSrc n f).pwr = d.pwr ∧
    (d.modSrc n f).thm = d.thm ∧ (d.modSrc n f).pmc = d.pmc ∧ (d.modSrc n f).bmx = d.bmx ∧ (d.modSrc n f).mtx = d.mtx ∧
    (d.modSrc n f).glb = d.glb ∧ (d.modSrc n f).fresh = d.fresh :=
  ⟨rfl, rfl, rfl, rfl, rfl, rfl, rfl, rfl, rfl, rfl, rfl, rfl, rfl, rfl, rfl, rfl, rfl, rfl⟩

@[simp] theorem Dev.modSrc_flt (n : Nat) (f : Src → Src) :
    ((d.modSrc n f).flt).swBlank = d.flt.swBlank ∧ ((d.modSrc n f).flt).injEn = d.flt.injEn ∧ ((d.modSrc n f).flt).injAct = d.flt.injAct ∧
    ((d.modSrc n f).flt).lock = d.flt.lock ∧ ((d.modSrc n f).flt).blankN = d.flt.blankN ∧ ((d.modSrc n f).flt).extest = d.flt.extest ∧
    ((d.modSrc n f).flt).blank = d.flt.blank ∧ ((d.modSrc n f).flt).stage2 = d.flt.stage2 ∧
    ((d.modSrc n f).flt).releasing = d.flt.releasing ∧ ((d.modSrc n f).flt).blankAt = d.flt.blankAt ∧
    ((d.modSrc n f).flt).causeEnd = d.flt.causeEnd ∧ ((d.modSrc n f).flt).releaseEnd = d.flt.releaseEnd ∧
    ((d.modSrc n f).flt).fatal = d.flt.fatal ∧ ((d.modSrc n f).flt).relock = d.flt.relock ∧
    ((d.modSrc n f).flt).blankCnt = d.flt.blankCnt ∧ ((d.modSrc n f).flt).fatalCnt = d.flt.fatalCnt ∧
    ((d.modSrc n f).flt).injScope = d.flt.injScope ∧ ((d.modSrc n f).flt).tsSel = d.flt.tsSel ∧ ((d.modSrc n f).flt).errSw = d.flt.errSw ∧
    ((d.modSrc n f).flt).errPw = d.flt.errPw ∧ ((d.modSrc n f).flt).errEnd = d.flt.errEnd ∧ ((d.modSrc n f).flt).permit = d.flt.permit ∧
    ((d.modSrc n f).flt).errN = d.flt.errN :=
  ⟨rfl, rfl, rfl, rfl, rfl, rfl, rfl, rfl, rfl, rfl, rfl, rfl, rfl, rfl, rfl, rfl, rfl, rfl, rfl, rfl, rfl, rfl, rfl⟩

theorem Dev.src_modSrc (n : Nat) (f : Src → Src) (j : Nat) : (d.modSrc n f).src j = if j = n then f (d.src n) else d.src j :=
  Tab.get_mod _ _ _ _ _

@[simp] theorem Dev.src_modSrc_self (n : Nat) (f : Src → Src) : (d.modSrc n f).src n = f (d.src n) := Tab.get_mod_self _ _ _ _

@[simp] theorem Dev.modSrc_entries (n : Nat) (f : Src → Src) :
    (d.modSrc n f).queue = d.queue ∧ (d.modSrc n f).fn = d.fn ∧ (d.modSrc n f).view = d.view ∧ (d.modSrc n f).cap = d.cap ∧
    (d.modSrc n f).cell = d.cell ∧ (d.modSrc n f).loop = d.loop ∧ (d.modSrc n f).tile = d.tile ∧ (d.modSrc n f).le = d.le ∧
    (d.modSrc n f).slot = d.slot ∧ (d.modSrc n f).mrt = d.mrt ∧ (d.modSrc n f).met = d.met ∧ (d.modSrc n f).inj = d.inj ∧
    (d.modSrc n f).fl = d.fl ∧ (d.modSrc n f).lane = d.lane :=
  ⟨rfl, rfl, rfl, rfl, rfl, rfl, rfl, rfl, rfl, rfl, rfl, rfl, rfl, rfl⟩

@[simp] theorem Dev.modCell_parts (ca : Nat) (f : Cell → Cell) :
    (d.modCell ca f).io = d.io ∧ (d.modCell ca f).flt = d.flt ∧ (d.modCell ca f).tim = d.tim ∧ (d.modCell ca f).cmt = d.cmt ∧
    (d.modCell ca f).jobs = d.jobs ∧ (d.modCell ca f).mon = d.mon ∧ (d.modCell ca f).drv = d.drv ∧ (d.modCell ca f).seq = d.seq ∧
    (d.modCell ca f).cal = d.cal ∧ (d.modCell ca f).mi = d.mi ∧ (d.modCell ca f).sec = d.sec ∧ (d.modCell ca f).pwr = d.pwr ∧
    (d.modCell ca f).thm = d.thm ∧ (d.modCell ca f).pmc = d.pmc ∧ (d.modCell ca f).bmx = d.bmx ∧ (d.modCell ca f).mtx = d.mtx ∧
    (d.modCell ca f).glb = d.glb ∧ (d.modCell ca f).fresh = d.fresh :=
  ⟨rfl, rfl, rfl, rfl, rfl, rfl, rfl, rfl, rfl, rfl, rfl, rfl, rfl, rfl, rfl, rfl, rfl, rfl⟩

@[simp] theorem Dev.modCell_fab (ca : Nat) (f : Cell → Cell) :
    ((d.modCell ca f).fab).loops = d.fab.loops ∧ ((d.modCell ca f).fab).les = d.fab.les ∧ ((d.modCell ca f).fab).tiles = d.fab.tiles ∧
    ((d.modCell ca f).fab).cons = d.fab.cons ∧ ((d.modCell ca f).fab).tgt = d.fab.tgt ∧ ((d.modCell ca f).fab).beta = d.fab.beta ∧
    ((d.modCell ca f).fab).balOff = d.fab.balOff ∧ ((d.modCell ca f).fab).balRest = d.fab.balRest ∧
    ((d.modCell ca f).fab).gst = d.fab.gst ∧ ((d.modCell ca f).fab).gstLoaded = d.fab.gstLoaded ∧
    ((d.modCell ca f).fab).loads = d.fab.loads ∧ ((d.modCell ca f).fab).lptW = d.fab.lptW ∧
    ((d.modCell ca f).fab).rollRamp = d.fab.rollRamp :=
  ⟨rfl, rfl, rfl, rfl, rfl, rfl, rfl, rfl, rfl, rfl, rfl, rfl, rfl⟩

theorem Dev.cell_modCell (ca : Nat) (f : Cell → Cell) (j : Nat) : (d.modCell ca f).cell j = if j = ca then f (d.cell ca) else d.cell j :=
  Tab.get_mod _ _ _ _ _

@[simp] theorem Dev.cell_modCell_self (ca : Nat) (f : Cell → Cell) : (d.modCell ca f).cell ca = f (d.cell ca) := Tab.get_mod_self _ _ _ _

@[simp] theorem Dev.loop_modCell (ca : Nat) (f : Cell → Cell) (j : Nat) : (d.modCell ca f).loop j = d.loop j := rfl

@[simp] theorem Dev.tile_modCell (ca : Nat) (f : Cell → Cell) (j : Nat) : (d.modCell ca f).tile j = d.tile j := rfl

@[simp] theorem Dev.le_modCell (ca : Nat) (f : Cell → Cell) (j : Nat) : (d.modCell ca f).le j = d.le j := rfl

@[simp] theorem Dev.modCell_entries (ca : Nat) (f : Cell → Cell) :
    (d.modCell ca f).queue = d.queue ∧ (d.modCell ca f).fn = d.fn ∧ (d.modCell ca f).view = d.view ∧ (d.modCell ca f).cap = d.cap ∧
    (d.modCell ca f).src = d.src ∧ (d.modCell ca f).slot = d.slot ∧ (d.modCell ca f).mrt = d.mrt ∧ (d.modCell ca f).met = d.met ∧
    (d.modCell ca f).inj = d.inj ∧ (d.modCell ca f).fl = d.fl ∧ (d.modCell ca f).lane = d.lane :=
  ⟨rfl, rfl, rfl, rfl, rfl, rfl, rfl, rfl, rfl, rfl, rfl⟩

@[simp] theorem Dev.modLoop_parts (aa : Nat) (f : Loop → Loop) :
    (d.modLoop aa f).io = d.io ∧ (d.modLoop aa f).flt = d.flt ∧ (d.modLoop aa f).tim = d.tim ∧ (d.modLoop aa f).cmt = d.cmt ∧
    (d.modLoop aa f).jobs = d.jobs ∧ (d.modLoop aa f).mon = d.mon ∧ (d.modLoop aa f).drv = d.drv ∧ (d.modLoop aa f).seq = d.seq ∧
    (d.modLoop aa f).cal = d.cal ∧ (d.modLoop aa f).mi = d.mi ∧ (d.modLoop aa f).sec = d.sec ∧ (d.modLoop aa f).pwr = d.pwr ∧
    (d.modLoop aa f).thm = d.thm ∧ (d.modLoop aa f).pmc = d.pmc ∧ (d.modLoop aa f).bmx = d.bmx ∧ (d.modLoop aa f).mtx = d.mtx ∧
    (d.modLoop aa f).glb = d.glb ∧ (d.modLoop aa f).fresh = d.fresh :=
  ⟨rfl, rfl, rfl, rfl, rfl, rfl, rfl, rfl, rfl, rfl, rfl, rfl, rfl, rfl, rfl, rfl, rfl, rfl⟩

@[simp] theorem Dev.modLoop_fab (aa : Nat) (f : Loop → Loop) :
    ((d.modLoop aa f).fab).cells = d.fab.cells ∧ ((d.modLoop aa f).fab).les = d.fab.les ∧ ((d.modLoop aa f).fab).tiles = d.fab.tiles ∧
    ((d.modLoop aa f).fab).cons = d.fab.cons ∧ ((d.modLoop aa f).fab).tgt = d.fab.tgt ∧ ((d.modLoop aa f).fab).beta = d.fab.beta ∧
    ((d.modLoop aa f).fab).balOff = d.fab.balOff ∧ ((d.modLoop aa f).fab).balRest = d.fab.balRest ∧
    ((d.modLoop aa f).fab).gst = d.fab.gst ∧ ((d.modLoop aa f).fab).gstLoaded = d.fab.gstLoaded ∧
    ((d.modLoop aa f).fab).loads = d.fab.loads ∧ ((d.modLoop aa f).fab).lptW = d.fab.lptW ∧
    ((d.modLoop aa f).fab).rollRamp = d.fab.rollRamp :=
  ⟨rfl, rfl, rfl, rfl, rfl, rfl, rfl, rfl, rfl, rfl, rfl, rfl, rfl⟩

theorem Dev.loop_modLoop (aa : Nat) (f : Loop → Loop) (j : Nat) : (d.modLoop aa f).loop j = if j = aa then f (d.loop aa) else d.loop j :=
  Tab.get_mod _ _ _ _ _

@[simp] theorem Dev.loop_modLoop_self (aa : Nat) (f : Loop → Loop) : (d.modLoop aa f).loop aa = f (d.loop aa) := Tab.get_mod_self _ _ _ _

@[simp] theorem Dev.cell_modLoop (aa : Nat) (f : Loop → Loop) (j : Nat) : (d.modLoop aa f).cell j = d.cell j := rfl

@[simp] theorem Dev.tile_modLoop (aa : Nat) (f : Loop → Loop) (j : Nat) : (d.modLoop aa f).tile j = d.tile j := rfl

@[simp] theorem Dev.le_modLoop (aa : Nat) (f : Loop → Loop) (j : Nat) : (d.modLoop aa f).le j = d.le j := rfl

@[simp] theorem Dev.modLoop_entries (aa : Nat) (f : Loop → Loop) :
    (d.modLoop aa f).queue = d.queue ∧ (d.modLoop aa f).fn = d.fn ∧ (d.modLoop aa f).view = d.view ∧ (d.modLoop aa f).cap = d.cap ∧
    (d.modLoop aa f).src = d.src ∧ (d.modLoop aa f).slot = d.slot ∧ (d.modLoop aa f).mrt = d.mrt ∧ (d.modLoop aa f).met = d.met ∧
    (d.modLoop aa f).inj = d.inj ∧ (d.modLoop aa f).fl = d.fl ∧ (d.modLoop aa f).lane = d.lane :=
  ⟨rfl, rfl, rfl, rfl, rfl, rfl, rfl, rfl, rfl, rfl, rfl⟩

@[simp] theorem Dev.modTile_parts (tn : Nat) (f : Tile → Tile) :
    (d.modTile tn f).io = d.io ∧ (d.modTile tn f).flt = d.flt ∧ (d.modTile tn f).tim = d.tim ∧ (d.modTile tn f).cmt = d.cmt ∧
    (d.modTile tn f).jobs = d.jobs ∧ (d.modTile tn f).mon = d.mon ∧ (d.modTile tn f).drv = d.drv ∧ (d.modTile tn f).seq = d.seq ∧
    (d.modTile tn f).cal = d.cal ∧ (d.modTile tn f).mi = d.mi ∧ (d.modTile tn f).sec = d.sec ∧ (d.modTile tn f).pwr = d.pwr ∧
    (d.modTile tn f).thm = d.thm ∧ (d.modTile tn f).pmc = d.pmc ∧ (d.modTile tn f).bmx = d.bmx ∧ (d.modTile tn f).mtx = d.mtx ∧
    (d.modTile tn f).glb = d.glb ∧ (d.modTile tn f).fresh = d.fresh :=
  ⟨rfl, rfl, rfl, rfl, rfl, rfl, rfl, rfl, rfl, rfl, rfl, rfl, rfl, rfl, rfl, rfl, rfl, rfl⟩

@[simp] theorem Dev.modTile_fab (tn : Nat) (f : Tile → Tile) :
    ((d.modTile tn f).fab).cells = d.fab.cells ∧ ((d.modTile tn f).fab).loops = d.fab.loops ∧ ((d.modTile tn f).fab).les = d.fab.les ∧
    ((d.modTile tn f).fab).cons = d.fab.cons ∧ ((d.modTile tn f).fab).tgt = d.fab.tgt ∧ ((d.modTile tn f).fab).beta = d.fab.beta ∧
    ((d.modTile tn f).fab).balOff = d.fab.balOff ∧ ((d.modTile tn f).fab).balRest = d.fab.balRest ∧
    ((d.modTile tn f).fab).gst = d.fab.gst ∧ ((d.modTile tn f).fab).gstLoaded = d.fab.gstLoaded ∧
    ((d.modTile tn f).fab).loads = d.fab.loads ∧ ((d.modTile tn f).fab).lptW = d.fab.lptW ∧
    ((d.modTile tn f).fab).rollRamp = d.fab.rollRamp :=
  ⟨rfl, rfl, rfl, rfl, rfl, rfl, rfl, rfl, rfl, rfl, rfl, rfl, rfl⟩

theorem Dev.tile_modTile (tn : Nat) (f : Tile → Tile) (j : Nat) : (d.modTile tn f).tile j = if j = tn then f (d.tile tn) else d.tile j :=
  Tab.get_mod _ _ _ _ _

@[simp] theorem Dev.tile_modTile_self (tn : Nat) (f : Tile → Tile) : (d.modTile tn f).tile tn = f (d.tile tn) := Tab.get_mod_self _ _ _ _

@[simp] theorem Dev.cell_modTile (tn : Nat) (f : Tile → Tile) (j : Nat) : (d.modTile tn f).cell j = d.cell j := rfl

@[simp] theorem Dev.loop_modTile (tn : Nat) (f : Tile → Tile) (j : Nat) : (d.modTile tn f).loop j = d.loop j := rfl

@[simp] theorem Dev.le_modTile (tn : Nat) (f : Tile → Tile) (j : Nat) : (d.modTile tn f).le j = d.le j := rfl

@[simp] theorem Dev.modTile_entries (tn : Nat) (f : Tile → Tile) :
    (d.modTile tn f).queue = d.queue ∧ (d.modTile tn f).fn = d.fn ∧ (d.modTile tn f).view = d.view ∧ (d.modTile tn f).cap = d.cap ∧
    (d.modTile tn f).src = d.src ∧ (d.modTile tn f).slot = d.slot ∧ (d.modTile tn f).mrt = d.mrt ∧ (d.modTile tn f).met = d.met ∧
    (d.modTile tn f).inj = d.inj ∧ (d.modTile tn f).fl = d.fl ∧ (d.modTile tn f).lane = d.lane :=
  ⟨rfl, rfl, rfl, rfl, rfl, rfl, rfl, rfl, rfl, rfl, rfl⟩

@[simp] theorem Dev.modLe_parts (k : Nat) (f : Le → Le) :
    (d.modLe k f).io = d.io ∧ (d.modLe k f).flt = d.flt ∧ (d.modLe k f).tim = d.tim ∧ (d.modLe k f).cmt = d.cmt ∧
    (d.modLe k f).jobs = d.jobs ∧ (d.modLe k f).mon = d.mon ∧ (d.modLe k f).drv = d.drv ∧ (d.modLe k f).seq = d.seq ∧
    (d.modLe k f).cal = d.cal ∧ (d.modLe k f).mi = d.mi ∧ (d.modLe k f).sec = d.sec ∧ (d.modLe k f).pwr = d.pwr ∧
    (d.modLe k f).thm = d.thm ∧ (d.modLe k f).pmc = d.pmc ∧ (d.modLe k f).bmx = d.bmx ∧ (d.modLe k f).mtx = d.mtx ∧
    (d.modLe k f).glb = d.glb ∧ (d.modLe k f).fresh = d.fresh :=
  ⟨rfl, rfl, rfl, rfl, rfl, rfl, rfl, rfl, rfl, rfl, rfl, rfl, rfl, rfl, rfl, rfl, rfl, rfl⟩

@[simp] theorem Dev.modLe_fab (k : Nat) (f : Le → Le) :
    ((d.modLe k f).fab).cells = d.fab.cells ∧ ((d.modLe k f).fab).loops = d.fab.loops ∧ ((d.modLe k f).fab).tiles = d.fab.tiles ∧
    ((d.modLe k f).fab).cons = d.fab.cons ∧ ((d.modLe k f).fab).tgt = d.fab.tgt ∧ ((d.modLe k f).fab).beta = d.fab.beta ∧
    ((d.modLe k f).fab).balOff = d.fab.balOff ∧ ((d.modLe k f).fab).balRest = d.fab.balRest ∧ ((d.modLe k f).fab).gst = d.fab.gst ∧
    ((d.modLe k f).fab).gstLoaded = d.fab.gstLoaded ∧ ((d.modLe k f).fab).loads = d.fab.loads ∧ ((d.modLe k f).fab).lptW = d.fab.lptW ∧
    ((d.modLe k f).fab).rollRamp = d.fab.rollRamp :=
  ⟨rfl, rfl, rfl, rfl, rfl, rfl, rfl, rfl, rfl, rfl, rfl, rfl, rfl⟩

theorem Dev.le_modLe (k : Nat) (f : Le → Le) (j : Nat) : (d.modLe k f).le j = if j = k then f (d.le k) else d.le j :=
  Tab.get_mod _ _ _ _ _

@[simp] theorem Dev.le_modLe_self (k : Nat) (f : Le → Le) : (d.modLe k f).le k = f (d.le k) := Tab.get_mod_self _ _ _ _

@[simp] theorem Dev.cell_modLe (k : Nat) (f : Le → Le) (j : Nat) : (d.modLe k f).cell j = d.cell j := rfl

@[simp] theorem Dev.loop_modLe (k : Nat) (f : Le → Le) (j : Nat) : (d.modLe k f).loop j = d.loop j := rfl

@[simp] theorem Dev.tile_modLe (k : Nat) (f : Le → Le) (j : Nat) : (d.modLe k f).tile j = d.tile j := rfl

@[simp] theorem Dev.modLe_entries (k : Nat) (f : Le → Le) :
    (d.modLe k f).queue = d.queue ∧ (d.modLe k f).fn = d.fn ∧ (d.modLe k f).view = d.view ∧ (d.modLe k f).cap = d.cap ∧
    (d.modLe k f).src = d.src ∧ (d.modLe k f).slot = d.slot ∧ (d.modLe k f).mrt = d.mrt ∧ (d.modLe k f).met = d.met ∧
    (d.modLe k f).inj = d.inj ∧ (d.modLe k f).fl = d.fl ∧ (d.modLe k f).lane = d.lane :=
  ⟨rfl, rfl, rfl, rfl, rfl, rfl, rfl, rfl, rfl, rfl, rfl⟩

@[simp] theorem Dev.modSlot_parts (k : Nat) (f : Slot → Slot) :
    (d.modSlot k f).io = d.io ∧ (d.modSlot k f).flt = d.flt ∧ (d.modSlot k f).tim = d.tim ∧ (d.modSlot k f).fab = d.fab ∧
    (d.modSlot k f).jobs = d.jobs ∧ (d.modSlot k f).mon = d.mon ∧ (d.modSlot k f).drv = d.drv ∧ (d.modSlot k f).seq = d.seq ∧
    (d.modSlot k f).cal = d.cal ∧ (d.modSlot k f).mi = d.mi ∧ (d.modSlot k f).sec = d.sec ∧ (d.modSlot k f).pwr = d.pwr ∧
    (d.modSlot k f).thm = d.thm ∧ (d.modSlot k f).pmc = d.pmc ∧ (d.modSlot k f).bmx = d.bmx ∧ (d.modSlot k f).mtx = d.mtx ∧
    (d.modSlot k f).glb = d.glb ∧ (d.modSlot k f).fresh = d.fresh :=
  ⟨rfl, rfl, rfl, rfl, rfl, rfl, rfl, rfl, rfl, rfl, rfl, rfl, rfl, rfl, rfl, rfl, rfl, rfl⟩

@[simp] theorem Dev.modSlot_cmt (k : Nat) (f : Slot → Slot) :
    ((d.modSlot k f).cmt).tset = d.cmt.tset ∧ ((d.modSlot k f).cmt).tsSrc = d.cmt.tsSrc ∧ ((d.modSlot k f).cmt).asapRsv = d.cmt.asapRsv ∧
    ((d.modSlot k f).cmt).ver = d.cmt.ver ∧ ((d.modSlot k f).cmt).esn = d.cmt.esn ∧ ((d.modSlot k f).cmt).mn = d.cmt.mn ∧
    ((d.modSlot k f).cmt).planes = d.cmt.planes ∧ ((d.modSlot k f).cmt).restoring = d.cmt.restoring ∧
    ((d.modSlot k f).cmt).single = d.cmt.single :=
  ⟨rfl, rfl, rfl, rfl, rfl, rfl, rfl, rfl, rfl⟩

theorem Dev.slot_modSlot (k : Nat) (f : Slot → Slot) (j : Nat) : (d.modSlot k f).slot j = if j = k then f (d.slot k) else d.slot j :=
  Tab.get_mod _ _ _ _ _

@[simp] theorem Dev.slot_modSlot_self (k : Nat) (f : Slot → Slot) : (d.modSlot k f).slot k = f (d.slot k) := Tab.get_mod_self _ _ _ _

@[simp] theorem Dev.modSlot_entries (k : Nat) (f : Slot → Slot) :
    (d.modSlot k f).queue = d.queue ∧ (d.modSlot k f).fn = d.fn ∧ (d.modSlot k f).view = d.view ∧ (d.modSlot k f).cap = d.cap ∧
    (d.modSlot k f).src = d.src ∧ (d.modSlot k f).cell = d.cell ∧ (d.modSlot k f).loop = d.loop ∧ (d.modSlot k f).tile = d.tile ∧
    (d.modSlot k f).le = d.le ∧ (d.modSlot k f).mrt = d.mrt ∧ (d.modSlot k f).met = d.met ∧ (d.modSlot k f).inj = d.inj ∧
    (d.modSlot k f).fl = d.fl ∧ (d.modSlot k f).lane = d.lane :=
  ⟨rfl, rfl, rfl, rfl, rfl, rfl, rfl, rfl, rfl, rfl, rfl, rfl, rfl, rfl⟩

@[simp] theorem Dev.modMrt_parts (m : Nat) (f : Mrt → Mrt) :
    (d.modMrt m f).io = d.io ∧ (d.modMrt m f).flt = d.flt ∧ (d.modMrt m f).tim = d.tim ∧ (d.modMrt m f).fab = d.fab ∧
    (d.modMrt m f).cmt = d.cmt ∧ (d.modMrt m f).jobs = d.jobs ∧ (d.modMrt m f).drv = d.drv ∧ (d.modMrt m f).seq = d.seq ∧
    (d.modMrt m f).cal = d.cal ∧ (d.modMrt m f).mi = d.mi ∧ (d.modMrt m f).sec = d.sec ∧ (d.modMrt m f).pwr = d.pwr ∧
    (d.modMrt m f).thm = d.thm ∧ (d.modMrt m f).pmc = d.pmc ∧ (d.modMrt m f).bmx = d.bmx ∧ (d.modMrt m f).mtx = d.mtx ∧
    (d.modMrt m f).glb = d.glb ∧ (d.modMrt m f).fresh = d.fresh :=
  ⟨rfl, rfl, rfl, rfl, rfl, rfl, rfl, rfl, rfl, rfl, rfl, rfl, rfl, rfl, rfl, rfl, rfl, rfl⟩

@[simp] theorem Dev.modMrt_mon (m : Nat) (f : Mrt → Mrt) :
    ((d.modMrt m f).mon).winEn = d.mon.winEn ∧ ((d.modMrt m f).mon).dnCount = d.mon.dnCount ∧ ((d.modMrt m f).mon).met = d.mon.met ∧
    ((d.modMrt m f).mon).inj = d.mon.inj ∧ ((d.modMrt m f).mon).fl = d.mon.fl ∧ ((d.modMrt m f).mon).slowVer = d.mon.slowVer ∧
    ((d.modMrt m f).mon).injEnd = d.mon.injEnd :=
  ⟨rfl, rfl, rfl, rfl, rfl, rfl, rfl⟩

theorem Dev.mrt_modMrt (m : Nat) (f : Mrt → Mrt) (j : Nat) : (d.modMrt m f).mrt j = if j = m then f (d.mrt m) else d.mrt j :=
  Tab.get_mod _ _ _ _ _

@[simp] theorem Dev.mrt_modMrt_self (m : Nat) (f : Mrt → Mrt) : (d.modMrt m f).mrt m = f (d.mrt m) := Tab.get_mod_self _ _ _ _

@[simp] theorem Dev.met_modMrt (m : Nat) (f : Mrt → Mrt) (j : Nat) : (d.modMrt m f).met j = d.met j := rfl

@[simp] theorem Dev.inj_modMrt (m : Nat) (f : Mrt → Mrt) (j : Nat) : (d.modMrt m f).inj j = d.inj j := rfl

@[simp] theorem Dev.fl_modMrt (m : Nat) (f : Mrt → Mrt) (j : Nat) : (d.modMrt m f).fl j = d.fl j := rfl

@[simp] theorem Dev.modMrt_entries (m : Nat) (f : Mrt → Mrt) :
    (d.modMrt m f).queue = d.queue ∧ (d.modMrt m f).fn = d.fn ∧ (d.modMrt m f).view = d.view ∧ (d.modMrt m f).cap = d.cap ∧
    (d.modMrt m f).src = d.src ∧ (d.modMrt m f).cell = d.cell ∧ (d.modMrt m f).loop = d.loop ∧ (d.modMrt m f).tile = d.tile ∧
    (d.modMrt m f).le = d.le ∧ (d.modMrt m f).slot = d.slot ∧ (d.modMrt m f).lane = d.lane :=
  ⟨rfl, rfl, rfl, rfl, rfl, rfl, rfl, rfl, rfl, rfl, rfl⟩

@[simp] theorem Dev.modMet_parts (m : Nat) (f : Met → Met) :
    (d.modMet m f).io = d.io ∧ (d.modMet m f).flt = d.flt ∧ (d.modMet m f).tim = d.tim ∧ (d.modMet m f).fab = d.fab ∧
    (d.modMet m f).cmt = d.cmt ∧ (d.modMet m f).jobs = d.jobs ∧ (d.modMet m f).drv = d.drv ∧ (d.modMet m f).seq = d.seq ∧
    (d.modMet m f).cal = d.cal ∧ (d.modMet m f).mi = d.mi ∧ (d.modMet m f).sec = d.sec ∧ (d.modMet m f).pwr = d.pwr ∧
    (d.modMet m f).thm = d.thm ∧ (d.modMet m f).pmc = d.pmc ∧ (d.modMet m f).bmx = d.bmx ∧ (d.modMet m f).mtx = d.mtx ∧
    (d.modMet m f).glb = d.glb ∧ (d.modMet m f).fresh = d.fresh :=
  ⟨rfl, rfl, rfl, rfl, rfl, rfl, rfl, rfl, rfl, rfl, rfl, rfl, rfl, rfl, rfl, rfl, rfl, rfl⟩

@[simp] theorem Dev.modMet_mon (m : Nat) (f : Met → Met) :
    ((d.modMet m f).mon).winEn = d.mon.winEn ∧ ((d.modMet m f).mon).dnCount = d.mon.dnCount ∧ ((d.modMet m f).mon).mrt = d.mon.mrt ∧
    ((d.modMet m f).mon).inj = d.mon.inj ∧ ((d.modMet m f).mon).fl = d.mon.fl ∧ ((d.modMet m f).mon).slowVer = d.mon.slowVer ∧
    ((d.modMet m f).mon).injEnd = d.mon.injEnd :=
  ⟨rfl, rfl, rfl, rfl, rfl, rfl, rfl⟩

theorem Dev.met_modMet (m : Nat) (f : Met → Met) (j : Nat) : (d.modMet m f).met j = if j = m then f (d.met m) else d.met j :=
  Tab.get_mod _ _ _ _ _

@[simp] theorem Dev.met_modMet_self (m : Nat) (f : Met → Met) : (d.modMet m f).met m = f (d.met m) := Tab.get_mod_self _ _ _ _

@[simp] theorem Dev.mrt_modMet (m : Nat) (f : Met → Met) (j : Nat) : (d.modMet m f).mrt j = d.mrt j := rfl

@[simp] theorem Dev.inj_modMet (m : Nat) (f : Met → Met) (j : Nat) : (d.modMet m f).inj j = d.inj j := rfl

@[simp] theorem Dev.fl_modMet (m : Nat) (f : Met → Met) (j : Nat) : (d.modMet m f).fl j = d.fl j := rfl

@[simp] theorem Dev.modMet_entries (m : Nat) (f : Met → Met) :
    (d.modMet m f).queue = d.queue ∧ (d.modMet m f).fn = d.fn ∧ (d.modMet m f).view = d.view ∧ (d.modMet m f).cap = d.cap ∧
    (d.modMet m f).src = d.src ∧ (d.modMet m f).cell = d.cell ∧ (d.modMet m f).loop = d.loop ∧ (d.modMet m f).tile = d.tile ∧
    (d.modMet m f).le = d.le ∧ (d.modMet m f).slot = d.slot ∧ (d.modMet m f).lane = d.lane :=
  ⟨rfl, rfl, rfl, rfl, rfl, rfl, rfl, rfl, rfl, rfl, rfl⟩

@[simp] theorem Dev.modInj_parts (k : Nat) (f : Inj → Inj) :
    (d.modInj k f).io = d.io ∧ (d.modInj k f).flt = d.flt ∧ (d.modInj k f).tim = d.tim ∧ (d.modInj k f).fab = d.fab ∧
    (d.modInj k f).cmt = d.cmt ∧ (d.modInj k f).jobs = d.jobs ∧ (d.modInj k f).drv = d.drv ∧ (d.modInj k f).seq = d.seq ∧
    (d.modInj k f).cal = d.cal ∧ (d.modInj k f).mi = d.mi ∧ (d.modInj k f).sec = d.sec ∧ (d.modInj k f).pwr = d.pwr ∧
    (d.modInj k f).thm = d.thm ∧ (d.modInj k f).pmc = d.pmc ∧ (d.modInj k f).bmx = d.bmx ∧ (d.modInj k f).mtx = d.mtx ∧
    (d.modInj k f).glb = d.glb ∧ (d.modInj k f).fresh = d.fresh :=
  ⟨rfl, rfl, rfl, rfl, rfl, rfl, rfl, rfl, rfl, rfl, rfl, rfl, rfl, rfl, rfl, rfl, rfl, rfl⟩

@[simp] theorem Dev.modInj_mon (k : Nat) (f : Inj → Inj) :
    ((d.modInj k f).mon).winEn = d.mon.winEn ∧ ((d.modInj k f).mon).dnCount = d.mon.dnCount ∧ ((d.modInj k f).mon).mrt = d.mon.mrt ∧
    ((d.modInj k f).mon).met = d.mon.met ∧ ((d.modInj k f).mon).fl = d.mon.fl ∧ ((d.modInj k f).mon).slowVer = d.mon.slowVer ∧
    ((d.modInj k f).mon).injEnd = d.mon.injEnd :=
  ⟨rfl, rfl, rfl, rfl, rfl, rfl, rfl⟩

theorem Dev.inj_modInj (k : Nat) (f : Inj → Inj) (j : Nat) : (d.modInj k f).inj j = if j = k then f (d.inj k) else d.inj j :=
  Tab.get_mod _ _ _ _ _

@[simp] theorem Dev.inj_modInj_self (k : Nat) (f : Inj → Inj) : (d.modInj k f).inj k = f (d.inj k) := Tab.get_mod_self _ _ _ _

@[simp] theorem Dev.mrt_modInj (k : Nat) (f : Inj → Inj) (j : Nat) : (d.modInj k f).mrt j = d.mrt j := rfl

@[simp] theorem Dev.met_modInj (k : Nat) (f : Inj → Inj) (j : Nat) : (d.modInj k f).met j = d.met j := rfl

@[simp] theorem Dev.fl_modInj (k : Nat) (f : Inj → Inj) (j : Nat) : (d.modInj k f).fl j = d.fl j := rfl

@[simp] theorem Dev.modInj_entries (k : Nat) (f : Inj → Inj) :
    (d.modInj k f).queue = d.queue ∧ (d.modInj k f).fn = d.fn ∧ (d.modInj k f).view = d.view ∧ (d.modInj k f).cap = d.cap ∧
    (d.modInj k f).src = d.src ∧ (d.modInj k f).cell = d.cell ∧ (d.modInj k f).loop = d.loop ∧ (d.modInj k f).tile = d.tile ∧
    (d.modInj k f).le = d.le ∧ (d.modInj k f).slot = d.slot ∧ (d.modInj k f).lane = d.lane :=
  ⟨rfl, rfl, rfl, rfl, rfl, rfl, rfl, rfl, rfl, rfl, rfl⟩

@[simp] theorem Dev.modFl_parts (k : Nat) (f : Fl → Fl) :
    (d.modFl k f).io = d.io ∧ (d.modFl k f).flt = d.flt ∧ (d.modFl k f).tim = d.tim ∧ (d.modFl k f).fab = d.fab ∧
    (d.modFl k f).cmt = d.cmt ∧ (d.modFl k f).jobs = d.jobs ∧ (d.modFl k f).drv = d.drv ∧ (d.modFl k f).seq = d.seq ∧
    (d.modFl k f).cal = d.cal ∧ (d.modFl k f).mi = d.mi ∧ (d.modFl k f).sec = d.sec ∧ (d.modFl k f).pwr = d.pwr ∧
    (d.modFl k f).thm = d.thm ∧ (d.modFl k f).pmc = d.pmc ∧ (d.modFl k f).bmx = d.bmx ∧ (d.modFl k f).mtx = d.mtx ∧
    (d.modFl k f).glb = d.glb ∧ (d.modFl k f).fresh = d.fresh :=
  ⟨rfl, rfl, rfl, rfl, rfl, rfl, rfl, rfl, rfl, rfl, rfl, rfl, rfl, rfl, rfl, rfl, rfl, rfl⟩

@[simp] theorem Dev.modFl_mon (k : Nat) (f : Fl → Fl) :
    ((d.modFl k f).mon).winEn = d.mon.winEn ∧ ((d.modFl k f).mon).dnCount = d.mon.dnCount ∧ ((d.modFl k f).mon).mrt = d.mon.mrt ∧
    ((d.modFl k f).mon).met = d.mon.met ∧ ((d.modFl k f).mon).inj = d.mon.inj ∧ ((d.modFl k f).mon).slowVer = d.mon.slowVer ∧
    ((d.modFl k f).mon).injEnd = d.mon.injEnd :=
  ⟨rfl, rfl, rfl, rfl, rfl, rfl, rfl⟩

theorem Dev.fl_modFl (k : Nat) (f : Fl → Fl) (j : Nat) : (d.modFl k f).fl j = if j = k then f (d.fl k) else d.fl j :=
  Tab.get_mod _ _ _ _ _

@[simp] theorem Dev.fl_modFl_self (k : Nat) (f : Fl → Fl) : (d.modFl k f).fl k = f (d.fl k) := Tab.get_mod_self _ _ _ _

@[simp] theorem Dev.mrt_modFl (k : Nat) (f : Fl → Fl) (j : Nat) : (d.modFl k f).mrt j = d.mrt j := rfl

@[simp] theorem Dev.met_modFl (k : Nat) (f : Fl → Fl) (j : Nat) : (d.modFl k f).met j = d.met j := rfl

@[simp] theorem Dev.inj_modFl (k : Nat) (f : Fl → Fl) (j : Nat) : (d.modFl k f).inj j = d.inj j := rfl

@[simp] theorem Dev.modFl_entries (k : Nat) (f : Fl → Fl) :
    (d.modFl k f).queue = d.queue ∧ (d.modFl k f).fn = d.fn ∧ (d.modFl k f).view = d.view ∧ (d.modFl k f).cap = d.cap ∧
    (d.modFl k f).src = d.src ∧ (d.modFl k f).cell = d.cell ∧ (d.modFl k f).loop = d.loop ∧ (d.modFl k f).tile = d.tile ∧
    (d.modFl k f).le = d.le ∧ (d.modFl k f).slot = d.slot ∧ (d.modFl k f).lane = d.lane :=
  ⟨rfl, rfl, rfl, rfl, rfl, rfl, rfl, rfl, rfl, rfl, rfl⟩

@[simp] theorem Dev.modLane_parts (l : Nat) (f : Lane → Lane) :
    (d.modLane l f).io = d.io ∧ (d.modLane l f).flt = d.flt ∧ (d.modLane l f).tim = d.tim ∧ (d.modLane l f).fab = d.fab ∧
    (d.modLane l f).cmt = d.cmt ∧ (d.modLane l f).jobs = d.jobs ∧ (d.modLane l f).mon = d.mon ∧ (d.modLane l f).drv = d.drv ∧
    (d.modLane l f).cal = d.cal ∧ (d.modLane l f).mi = d.mi ∧ (d.modLane l f).sec = d.sec ∧ (d.modLane l f).pwr = d.pwr ∧
    (d.modLane l f).thm = d.thm ∧ (d.modLane l f).pmc = d.pmc ∧ (d.modLane l f).bmx = d.bmx ∧ (d.modLane l f).mtx = d.mtx ∧
    (d.modLane l f).glb = d.glb ∧ (d.modLane l f).fresh = d.fresh :=
  ⟨rfl, rfl, rfl, rfl, rfl, rfl, rfl, rfl, rfl, rfl, rfl, rfl, rfl, rfl, rfl, rfl, rfl, rfl⟩

@[simp] theorem Dev.modLane_seq (l : Nat) (f : Lane → Lane) :
    ((d.modLane l f).seq).stopMode = d.seq.stopMode ∧ ((d.modLane l f).seq).jumpSyncin = d.seq.jumpSyncin ∧
    ((d.modLane l f).seq).startSeg = d.seq.startSeg ∧ ((d.modLane l f).seq).startTrig = d.seq.startTrig ∧
    ((d.modLane l f).seq).state = d.seq.state ∧ ((d.modLane l f).seq).ownerCal = d.seq.ownerCal ∧ ((d.modLane l f).seq).seg = d.seq.seg ∧
    ((d.modLane l f).seq).tsAct = d.seq.tsAct ∧ ((d.modLane l f).seq).iter = d.seq.iter ∧ ((d.modLane l f).seq).target = d.seq.target ∧
    ((d.modLane l f).seq).jumpPend = d.seq.jumpPend ∧ ((d.modLane l f).seq).stopPend = d.seq.stopPend ∧
    ((d.modLane l f).seq).err = d.seq.err ∧ ((d.modLane l f).seq).errAddr = d.seq.errAddr ∧ ((d.modLane l f).seq).under = d.seq.under ∧
    ((d.modLane l f).seq).rfEn = d.seq.rfEn ∧ ((d.modLane l f).seq).rfWrap = d.seq.rfWrap ∧ ((d.modLane l f).seq).rfLen = d.seq.rfLen ∧
    ((d.modLane l f).seq).rfAddr = d.seq.rfAddr ∧ ((d.modLane l f).seq).rfPos = d.seq.rfPos ∧
    ((d.modLane l f).seq).rfStop = d.seq.rfStop ∧ ((d.modLane l f).seq).fill = d.seq.fill ∧ ((d.modLane l f).seq).loads = d.seq.loads ∧
    ((d.modLane l f).seq).readyAt = d.seq.readyAt ∧ ((d.modLane l f).seq).sync = d.seq.sync ∧ ((d.modLane l f).seq).segA = d.seq.segA ∧
    ((d.modLane l f).seq).segB = d.seq.segB ∧ ((d.modLane l f).seq).ts = d.seq.ts ∧ ((d.modLane l f).seq).tsNext = d.seq.tsNext ∧
    ((d.modLane l f).seq).sample = d.seq.sample ∧ ((d.modLane l f).seq).sampleAt = d.seq.sampleAt ∧
    ((d.modLane l f).seq).next = d.seq.next ∧ ((d.modLane l f).seq).jumpTaken = d.seq.jumpTaken :=
  ⟨rfl, rfl, rfl, rfl, rfl, rfl, rfl, rfl, rfl, rfl, rfl, rfl, rfl, rfl, rfl, rfl, rfl, rfl, rfl, rfl, rfl, rfl, rfl, rfl, rfl, rfl, rfl, rfl, rfl, rfl, rfl, rfl, rfl⟩

theorem Dev.lane_modLane (l : Nat) (f : Lane → Lane) (j : Nat) : (d.modLane l f).lane j = if j = l then f (d.lane l) else d.lane j :=
  Tab.get_mod _ _ _ _ _

@[simp] theorem Dev.lane_modLane_self (l : Nat) (f : Lane → Lane) : (d.modLane l f).lane l = f (d.lane l) := Tab.get_mod_self _ _ _ _

@[simp] theorem Dev.modLane_entries (l : Nat) (f : Lane → Lane) :
    (d.modLane l f).queue = d.queue ∧ (d.modLane l f).fn = d.fn ∧ (d.modLane l f).view = d.view ∧ (d.modLane l f).cap = d.cap ∧
    (d.modLane l f).src = d.src ∧ (d.modLane l f).cell = d.cell ∧ (d.modLane l f).loop = d.loop ∧ (d.modLane l f).tile = d.tile ∧
    (d.modLane l f).le = d.le ∧ (d.modLane l f).slot = d.slot ∧ (d.modLane l f).mrt = d.mrt ∧ (d.modLane l f).met = d.met ∧
    (d.modLane l f).inj = d.inj ∧ (d.modLane l f).fl = d.fl :=
  ⟨rfl, rfl, rfl, rfl, rfl, rfl, rfl, rfl, rfl, rfl, rfl, rfl, rfl, rfl⟩

@[simp] theorem Dev.send_parts (x : Out) :
    (d.send x).flt = d.flt ∧ (d.send x).tim = d.tim ∧ (d.send x).fab = d.fab ∧ (d.send x).cmt = d.cmt ∧ (d.send x).jobs = d.jobs ∧
    (d.send x).mon = d.mon ∧ (d.send x).drv = d.drv ∧ (d.send x).seq = d.seq ∧ (d.send x).cal = d.cal ∧ (d.send x).mi = d.mi ∧
    (d.send x).sec = d.sec ∧ (d.send x).pwr = d.pwr ∧ (d.send x).thm = d.thm ∧ (d.send x).pmc = d.pmc ∧ (d.send x).bmx = d.bmx ∧
    (d.send x).mtx = d.mtx ∧ (d.send x).glb = d.glb ∧ (d.send x).fresh = d.fresh :=
  ⟨rfl, rfl, rfl, rfl, rfl, rfl, rfl, rfl, rfl, rfl, rfl, rfl, rfl, rfl, rfl, rfl, rfl, rfl⟩

@[simp] theorem Dev.send_io (x : Out) :
    ((d.send x).io).queues = d.io.queues ∧ ((d.send x).io).fns = d.io.fns ∧ ((d.send x).io).views = d.io.views ∧
    ((d.send x).io).tel = d.io.tel ∧ ((d.send x).io).telRo = d.io.telRo ∧ ((d.send x).io).linkUp = d.io.linkUp ∧
    ((d.send x).io).linkGen = d.io.linkGen ∧ ((d.send x).io).linkWidth = d.io.linkWidth ∧ ((d.send x).io).linkFlit = d.io.linkFlit ∧
    ((d.send x).io).numVfs = d.io.numVfs ∧ ((d.send x).io).vfHeld = d.io.vfHeld ∧ ((d.send x).io).teardown = d.io.teardown ∧
    ((d.send x).io).perst = d.io.perst ∧ ((d.send x).io).owner = d.io.owner ∧ ((d.send x).io).disturb = d.io.disturb ∧
    ((d.send x).io).cap = d.io.cap ∧ ((d.send x).io).attn = d.io.attn ∧ ((d.send x).io).atnOn = d.io.atnOn :=
  ⟨rfl, rfl, rfl, rfl, rfl, rfl, rfl, rfl, rfl, rfl, rfl, rfl, rfl, rfl, rfl, rfl, rfl, rfl⟩

@[simp] theorem Dev.send_entries (x : Out) :
    (d.send x).queue = d.queue ∧ (d.send x).fn = d.fn ∧ (d.send x).view = d.view ∧ (d.send x).cap = d.cap ∧ (d.send x).src = d.src ∧
    (d.send x).cell = d.cell ∧ (d.send x).loop = d.loop ∧ (d.send x).tile = d.tile ∧ (d.send x).le = d.le ∧ (d.send x).slot = d.slot ∧
    (d.send x).mrt = d.mrt ∧ (d.send x).met = d.met ∧ (d.send x).inj = d.inj ∧ (d.send x).fl = d.fl ∧ (d.send x).lane = d.lane :=
  ⟨rfl, rfl, rfl, rfl, rfl, rfl, rfl, rfl, rfl, rfl, rfl, rfl, rfl, rfl, rfl⟩

@[simp] theorem Dev.bus_parts (m : Nat) (w : Bool) (t a n : Nat) (f : Option Nat) :
    (d.bus m w t a n f).io = d.io ∧ (d.bus m w t a n f).flt = d.flt ∧ (d.bus m w t a n f).tim = d.tim ∧ (d.bus m w t a n f).fab = d.fab ∧
    (d.bus m w t a n f).cmt = d.cmt ∧ (d.bus m w t a n f).jobs = d.jobs ∧ (d.bus m w t a n f).mon = d.mon ∧
    (d.bus m w t a n f).drv = d.drv ∧ (d.bus m w t a n f).seq = d.seq ∧ (d.bus m w t a n f).cal = d.cal ∧ (d.bus m w t a n f).mi = d.mi ∧
    (d.bus m w t a n f).sec = d.sec ∧ (d.bus m w t a n f).pwr = d.pwr ∧ (d.bus m w t a n f).thm = d.thm ∧
    (d.bus m w t a n f).pmc = d.pmc ∧ (d.bus m w t a n f).bmx = d.bmx ∧ (d.bus m w t a n f).glb = d.glb ∧
    (d.bus m w t a n f).fresh = d.fresh :=
  ⟨rfl, rfl, rfl, rfl, rfl, rfl, rfl, rfl, rfl, rfl, rfl, rfl, rfl, rfl, rfl, rfl, rfl, rfl⟩

@[simp] theorem Dev.bus_entries (m : Nat) (w : Bool) (t a n : Nat) (f : Option Nat) :
    (d.bus m w t a n f).queue = d.queue ∧ (d.bus m w t a n f).fn = d.fn ∧ (d.bus m w t a n f).view = d.view ∧
    (d.bus m w t a n f).cap = d.cap ∧ (d.bus m w t a n f).src = d.src ∧ (d.bus m w t a n f).cell = d.cell ∧
    (d.bus m w t a n f).loop = d.loop ∧ (d.bus m w t a n f).tile = d.tile ∧ (d.bus m w t a n f).le = d.le ∧
    (d.bus m w t a n f).slot = d.slot ∧ (d.bus m w t a n f).mrt = d.mrt ∧ (d.bus m w t a n f).met = d.met ∧
    (d.bus m w t a n f).inj = d.inj ∧ (d.bus m w t a n f).fl = d.fl ∧ (d.bus m w t a n f).lane = d.lane :=
  ⟨rfl, rfl, rfl, rfl, rfl, rfl, rfl, rfl, rfl, rfl, rfl, rfl, rfl, rfl, rfl⟩

@[simp] theorem Dev.toHost_parts (a n : Nat) (x : Out) :
    (d.toHost a n x).flt = d.flt ∧ (d.toHost a n x).tim = d.tim ∧ (d.toHost a n x).fab = d.fab ∧ (d.toHost a n x).cmt = d.cmt ∧
    (d.toHost a n x).jobs = d.jobs ∧ (d.toHost a n x).mon = d.mon ∧ (d.toHost a n x).drv = d.drv ∧ (d.toHost a n x).seq = d.seq ∧
    (d.toHost a n x).cal = d.cal ∧ (d.toHost a n x).mi = d.mi ∧ (d.toHost a n x).sec = d.sec ∧ (d.toHost a n x).pwr = d.pwr ∧
    (d.toHost a n x).thm = d.thm ∧ (d.toHost a n x).pmc = d.pmc ∧ (d.toHost a n x).bmx = d.bmx ∧ (d.toHost a n x).glb = d.glb ∧
    (d.toHost a n x).fresh = d.fresh :=
  ⟨rfl, rfl, rfl, rfl, rfl, rfl, rfl, rfl, rfl, rfl, rfl, rfl, rfl, rfl, rfl, rfl, rfl⟩

@[simp] theorem Dev.toHost_io (a n : Nat) (x : Out) :
    ((d.toHost a n x).io).queues = d.io.queues ∧ ((d.toHost a n x).io).fns = d.io.fns ∧ ((d.toHost a n x).io).views = d.io.views ∧
    ((d.toHost a n x).io).tel = d.io.tel ∧ ((d.toHost a n x).io).telRo = d.io.telRo ∧ ((d.toHost a n x).io).linkUp = d.io.linkUp ∧
    ((d.toHost a n x).io).linkGen = d.io.linkGen ∧ ((d.toHost a n x).io).linkWidth = d.io.linkWidth ∧
    ((d.toHost a n x).io).linkFlit = d.io.linkFlit ∧ ((d.toHost a n x).io).numVfs = d.io.numVfs ∧
    ((d.toHost a n x).io).vfHeld = d.io.vfHeld ∧ ((d.toHost a n x).io).teardown = d.io.teardown ∧
    ((d.toHost a n x).io).perst = d.io.perst ∧ ((d.toHost a n x).io).owner = d.io.owner ∧ ((d.toHost a n x).io).disturb = d.io.disturb ∧
    ((d.toHost a n x).io).cap = d.io.cap ∧ ((d.toHost a n x).io).attn = d.io.attn ∧ ((d.toHost a n x).io).atnOn = d.io.atnOn :=
  ⟨rfl, rfl, rfl, rfl, rfl, rfl, rfl, rfl, rfl, rfl, rfl, rfl, rfl, rfl, rfl, rfl, rfl, rfl⟩

@[simp] theorem Dev.toHost_entries (a n : Nat) (x : Out) :
    (d.toHost a n x).queue = d.queue ∧ (d.toHost a n x).fn = d.fn ∧ (d.toHost a n x).view = d.view ∧ (d.toHost a n x).cap = d.cap ∧
    (d.toHost a n x).src = d.src ∧ (d.toHost a n x).cell = d.cell ∧ (d.toHost a n x).loop = d.loop ∧ (d.toHost a n x).tile = d.tile ∧
    (d.toHost a n x).le = d.le ∧ (d.toHost a n x).slot = d.slot ∧ (d.toHost a n x).mrt = d.mrt ∧ (d.toHost a n x).met = d.met ∧
    (d.toHost a n x).inj = d.inj ∧ (d.toHost a n x).fl = d.fl ∧ (d.toHost a n x).lane = d.lane :=
  ⟨rfl, rfl, rfl, rfl, rfl, rfl, rfl, rfl, rfl, rfl, rfl, rfl, rfl, rfl, rfl⟩

@[simp] theorem Dev.toHost_out (a n : Nat) (x : Out) : (d.toHost a n x).io.out = x :: d.io.out := rfl

end Sys2Proof.Machine
end

