-- ==== Sys2Proof/Laws/Frame.lean ====
section
/-!
SUPPORT. What each shared operation of Machine/Ops.lean may change: one lemma for each, cited in place of unfolding it.
-/
namespace Sys2Proof.Machine

theorem Part.same_refl (d : Dev) (p : Part) : Part.same d d p := by
  cases p <;> simp [Part.same, Io.sameLink]

theorem Part.same_trans {d e g : Dev} {p : Part} (h : Part.same d e p) (h' : Part.same e g p) : Part.same d g p := by
  cases p <;> simp_all [Part.same, Io.sameLink]
  case fns =>
    intro f
    have h1 := h f
    have h2 := h' f
    generalize d.fn f = a at *
    generalize e.fn f = b at *
    generalize g.fn f = c at *
    cases a; cases b; cases c; simp_all
  case flt =>
    generalize d.flt = a at *
    generalize e.flt = b at *
    generalize g.flt = c at *
    cases a; cases b; cases c; simp_all
  case pmc =>
    generalize d.pmc = a at *
    generalize e.pmc = b at *
    generalize g.pmc = c at *
    cases a; cases b; cases c; simp_all

theorem Dev.sameBut.refl (ps : List Part) (d : Dev) : Dev.sameBut ps d d := fun p _ => Part.same_refl d p
theorem Dev.sameBut.trans {ps : List Part} {d e g : Dev} (h : Dev.sameBut ps d e) (h' : Dev.sameBut ps e g) : Dev.sameBut ps d g :=
  fun p hp => Part.same_trans (h p hp) (h' p hp)
theorem Dev.sameBut.mono {ps qs : List Part} {d e : Dev} (h : Dev.sameBut ps d e) (hs : ∀ p ∈ ps, p ∈ qs) : Dev.sameBut qs d e :=
  fun p hp => h p (fun hm => hp (hs p hm))
/-- A loop changes what its body changes. -/
theorem Dev.sameBut.foldl {α : Type} {ps : List Part} {g : Dev → α → Dev} (h : ∀ d x, Dev.sameBut ps d (g d x)) (l : List α) :
    ∀ d : Dev, Dev.sameBut ps d (l.foldl g d) := by
  induction l with
  | nil => intro d; exact .refl ps d
  | cons x l ih => intro d; exact (h d x).trans (ih (g d x))

theorem Dev.modQueue_same (d : Dev) (q : Nat) (f : Queue → Queue) : Dev.sameBut [.queues] d (d.modQueue q f) := by
  intro p hp; cases p <;> simp_all [Part.same, Io.sameLink]
theorem Dev.modFn_same (d : Dev) (k : Nat) (f : Fn → Fn) : Dev.sameBut [.fns] d (d.modFn k f) := by
  intro p hp; cases p <;> simp_all [Part.same, Io.sameLink]
theorem Dev.modView_same (d : Dev) (k : Nat) (f : View → View) : Dev.sameBut [.views] d (d.modView k f) := by
  intro p hp; cases p <;> simp_all [Part.same, Io.sameLink]
theorem Dev.modSrc_same (d : Dev) (n : Nat) (f : Src → Src) : Dev.sameBut [.src] d (d.modSrc n f) := by
  intro p hp; cases p <;> simp_all [Part.same, Io.sameLink]
theorem Dev.modCell_same (d : Dev) (k : Nat) (f : Cell → Cell) : Dev.sameBut [.fab] d (d.modCell k f) := by
  intro p hp; cases p <;> simp_all [Part.same, Io.sameLink]
theorem Dev.modLoop_same (d : Dev) (k : Nat) (f : Loop → Loop) : Dev.sameBut [.fab] d (d.modLoop k f) := by
  intro p hp; cases p <;> simp_all [Part.same, Io.sameLink]
theorem Dev.modLe_same (d : Dev) (k : Nat) (f : Le → Le) : Dev.sameBut [.fab] d (d.modLe k f) := by
  intro p hp; cases p <;> simp_all [Part.same, Io.sameLink]
theorem Dev.modTile_same (d : Dev) (k : Nat) (f : Tile → Tile) : Dev.sameBut [.fab] d (d.modTile k f) := by
  intro p hp; cases p <;> simp_all [Part.same, Io.sameLink]
theorem Dev.modSlot_same (d : Dev) (k : Nat) (f : Slot → Slot) : Dev.sameBut [.cmt] d (d.modSlot k f) := by
  intro p hp; cases p <;> simp_all [Part.same, Io.sameLink]
theorem Dev.modMrt_same (d : Dev) (k : Nat) (f : Mrt → Mrt) : Dev.sameBut [.mon] d (d.modMrt k f) := by
  intro p hp; cases p <;> simp_all [Part.same, Io.sameLink]
theorem Dev.modMet_same (d : Dev) (k : Nat) (f : Met → Met) : Dev.sameBut [.mon] d (d.modMet k f) := by
  intro p hp; cases p <;> simp_all [Part.same, Io.sameLink]
theorem Dev.modInj_same (d : Dev) (k : Nat) (f : Inj → Inj) : Dev.sameBut [.mon] d (d.modInj k f) := by
  intro p hp; cases p <;> simp_all [Part.same, Io.sameLink]
theorem Dev.modFl_same (d : Dev) (k : Nat) (f : Fl → Fl) : Dev.sameBut [.mon] d (d.modFl k f) := by
  intro p hp; cases p <;> simp_all [Part.same, Io.sameLink]
theorem Dev.modLane_same (d : Dev) (k : Nat) (f : Lane → Lane) : Dev.sameBut [.seq] d (d.modLane k f) := by
  intro p hp; cases p <;> simp_all [Part.same, Io.sameLink]
theorem Dev.send_same (d : Dev) (o : Out) : Dev.sameBut [] d (d.send o) := by
  intro p hp; cases p <;> simp_all [Part.same, Io.sameLink]

/-- Bursts in the bus matrix lie outside every part. -/
theorem Dev.bus_same (d : Dev) (m : Nat) (w : Bool) (t a n : Nat) (f : Option Nat) : Dev.sameBut [] d (d.bus m w t a n f) := by
  intro p hp; cases p <;> simp_all [Part.same, Io.sameLink]
theorem Dev.toHost_same (d : Dev) (a n : Nat) (o : Out) : Dev.sameBut [] d (d.toHost a n o) := (d.send_same o).trans (Dev.bus_same _ _ _ _ _ _ _)

theorem Pmc.add_same (p : Pmc) (n k : Nat) : { p.add n k with ctr := p.ctr } = p := by
  unfold Pmc.add; split <;> rfl
theorem Dev.countN_same (d : Dev) (n k : Nat) : Dev.sameBut [] d (d.countN n k) := by
  intro p hp; cases p <;> simp_all [Part.same, Io.sameLink, Dev.countN, Dev.fn, Pmc.add_same]
theorem Dev.count_same (d : Dev) (n : Nat) : Dev.sameBut [] d (d.count n) := d.countN_same n 1
theorem Dev.setLeaf_same (d : Dev) (f off bits : Nat) : Dev.sameBut [.views] d (d.setLeaf f off bits) := d.modView_same f _

/-- A frame for fewer parts is a frame for these. -/
theorem Dev.sameBut.up {ps : List Part} (qs : List Part) {d e : Dev} (h : Dev.sameBut ps d e) (hs : ps.all (fun p => qs.contains p) = true := by decide) :
    Dev.sameBut qs d e :=
  h.mono (fun p hp => by have := List.all_eq_true.mp hs p hp; simpa using this)

/-! ## Events and faults -/

theorem Dev.evtPush_same (d : Dev) (f type a b c e : Nat) : Dev.sameBut [.fns, .views] d (d.evtPush f type a b c e).2 := by
  unfold Dev.evtPush
  extract_lets fn seq r at_ d1 d2 d3
  split
  · have h1 : Dev.sameBut [.fns, .views] d d1 := (d.toHost_same _ _ _).up _
    have h2 : Dev.sameBut [.fns, .views] d1 d2 := (d1.modFn_same f _).up _
    exact h1.trans (h2.trans ((d2.count_same 3015).up _))
  · have h1 : Dev.sameBut [.fns, .views] d d3 := (d.modFn_same f _).up _
    exact h1.trans (((d3.setLeaf_same f _ _).up _).trans ((Dev.count_same _ 3016).up _))

theorem Dev.faultPush_same (d : Dev) (f n scope : Nat) (cur inj : Bool) : Dev.sameBut [.fns, .views] d (d.faultPush f n scope cur inj).2 := by
  have h : Dev.sameBut [.fns, .views] d (d.evtPush f 4 (faultDw2 n cur inj) scope (d.src n).count 0).2 := d.evtPush_same _ _ _ _ _ _
  unfold Dev.faultPush
  generalize d.evtPush f 4 (faultDw2 n cur inj) scope (d.src n).count 0 = r at *
  obtain ⟨ok, e⟩ := r
  dsimp only at *
  split
  · exact h.trans ((e.setLeaf_same f _ _).up _)
  · exact h

theorem Dev.errPulse_same (d : Dev) : Dev.sameBut [.views, .flt] d d.errPulse := by
  have h : ∀ e : Dev, Dev.sameBut [.views, .flt] e { e with flt := { e.flt with errEnd := some (e.tb2 + e.flt.errPw * 1000) } } := by
    intro e p hp; cases p <;> simp_all [Part.same, Io.sameLink, Dev.fn]
  unfold Dev.errPulse
  extract_lets d1
  refine Dev.sameBut.trans (e := d1) ?_ (h d1)
  unfold d1
  split
  · exact (d.setLeaf_same 0 _ _).up _
  · exact .refl _ _

theorem Dev.mark_same (d : Dev) (n scope : Nat) (inj : Bool) : Dev.sameBut [.views, .src, .flt] d (d.mark n scope inj) := by
  unfold Dev.mark
  extract_lets now full d1
  have h1 : Dev.sameBut [.views, .src, .flt] d d1 := (d.modSrc_same n _).up _
  split
  · exact h1.trans (d1.errPulse_same.up _)
  · exact h1

/-- What a fault occurrence may change outside its scope action. -/
abbrev faultParts : List Part := [.fns, .views, .src, .flt]

theorem Dev.eventLost_same (d : Dev) (f : Nat) : Dev.sameBut faultParts d (d.eventLost f) := by
  unfold Dev.eventLost
  extract_lets d1
  have h1 : Dev.sameBut faultParts d d1 := (d.mark_same 68 f false).up _
  split
  · exact h1.trans (.foldl (fun d g => (d.faultPush_same g 68 f _ false).up _) _ _)
  · exact h1

theorem Dev.evt_same (d : Dev) (f type a b c e : Nat) : Dev.sameBut faultParts d (d.evt f type a b c e) := by
  have h := (d.evtPush_same f type a b c e).up faultParts
  unfold Dev.evt
  generalize d.evtPush f type a b c e = r at *
  obtain ⟨ok, x⟩ := r
  dsimp only at *
  split
  · exact h
  · exact h.trans (x.eventLost_same f)

theorem Dev.faultEvents_same (d : Dev) (n scope : Nat) (cur inj : Bool) : Dev.sameBut faultParts d (d.faultEvents n scope cur inj) := by
  unfold Dev.faultEvents
  split
  · refine .foldl (fun d f => ?_) _ _
    have h := (d.faultPush_same f n scope cur inj).up faultParts
    generalize d.faultPush f n scope cur inj = r at *
    obtain ⟨ok, x⟩ := r
    dsimp only at *
    split
    · exact h
    · exact h.trans (x.eventLost_same f)
  · exact .refl _ _

theorem Dev.signal_same (d : Dev) (n scope : Nat) (inj : Bool) : Dev.sameBut faultParts d (d.signal n scope inj) := by
  unfold Dev.signal
  split
  · exact .refl _ _
  · extract_lets d1 d2
    have h1 : Dev.sameBut faultParts d d1 := (d.mark_same n scope inj).up _
    have h2 : Dev.sameBut faultParts d1 d2 := by
      unfold d2
      split
      · exact (d1.setLeaf_same _ _ _).up _
      · exact .refl _ _
    exact h1.trans (h2.trans (Dev.faultEvents_same _ _ _ _ _))

theorem Dev.once_same (d : Dev) (n scope : Nat) : Dev.sameBut faultParts d (d.once n scope) := d.signal_same n scope false

theorem Dev.condOn_same (d : Dev) (n scope : Nat) : Dev.sameBut faultParts d (d.condOn n scope) := by
  unfold Dev.condOn
  split
  · exact .refl _ _
  · exact ((d.modSrc_same n _).up _).trans (Dev.signal_same _ _ _ _)

theorem Dev.condOff_same (d : Dev) (n scope : Nat) : Dev.sameBut [.src] d (d.condOff n scope) := d.modSrc_same n _

/-! ## Completions -/

theorem Dev.cqPush_same (d : Dev) (q : Nat) (c : Comp) (imm : Bool) : Dev.sameBut [.queues] d (d.cqPush q c imm) := by
  unfold Dev.cqPush
  extract_lets qu at_ d1 r r2
  have h1 : Dev.sameBut [.queues] d d1 := (d.toHost_same _ _ _).up _
  exact h1.trans (((d1.modQueue_same q _).up _).trans (((Dev.count_same _ _).up _).trans ((Dev.count_same _ _).up _)))

theorem Dev.acqPush_same (d : Dev) (f : Nat) (c : Comp) : Dev.sameBut [.fns] d (d.acqPush f c) := by
  unfold Dev.acqPush
  extract_lets fn at_ d1 r
  split
  · have h1 : Dev.sameBut [.fns] d d1 := (d.toHost_same _ _ _).up _
    exact h1.trans ((d1.modFn_same f _).trans ((Dev.count_same _ _).up _))
  · exact .refl _ _

theorem Dev.releaseLane_same (d : Dev) (k : Nat) : Dev.sameBut [.mon] d (d.releaseLane k) := d.modFl_same k _

theorem Dev.freeSlot_same (d : Dev) (k : Nat) : Dev.sameBut [.cmt, .mon] d (d.freeSlot k) := by
  unfold Dev.freeSlot
  extract_lets d1
  have h1 : Dev.sameBut [.cmt, .mon] d d1 := .foldl (fun d k => (d.releaseLane_same k).up _) _ d
  exact h1.trans ((d1.modSlot_same k _).up _)

theorem Dev.dropCmds_same (d : Dev) (q : Nat) (gone : Nat → Bool) : Dev.sameBut [.queues, .cmt, .mon, .jobs] d (d.dropCmds q gone) := by
  unfold Dev.dropCmds
  extract_lets mine d1 js d2
  have h1 : Dev.sameBut [.queues, .cmt, .mon, .jobs] d d1 := .foldl (fun d k => by
    split
    · exact (d.freeSlot_same k).up _
    · exact .refl _ _) _ d
  have h2 : Dev.sameBut [.queues, .cmt, .mon, .jobs] d1 d2 := by
    intro p hp; cases p <;> simp_all [Part.same, Io.sameLink, Dev.fn, d2]
  exact h1.trans (h2.trans ((d2.modQueue_same q _).up _))

/-- What a completion may change: it may stall its queue. -/
abbrev compParts : List Part := [.queues, .fns, .views, .src, .flt, .cmt, .mon, .jobs]

theorem Dev.stallAt_same (d : Dev) (q idx : Nat) : Dev.sameBut [.queues, .cmt, .mon, .jobs] d (d.stallAt q idx) :=
  (d.dropCmds_same q _).trans ((Dev.modQueue_same _ q _).up _)

theorem Dev.drain1_same (d : Dev) (q : Nat) : Dev.sameBut compParts d (d.drain1 q) := by
  unfold Dev.drain1
  split
  · exact .refl _ _
  · split
    · exact .refl _ _
    · extract_lets st d1 d2 d3 d4
      have h1 : Dev.sameBut compParts d d1 := (d.modQueue_same q _).up _
      have h2 : Dev.sameBut compParts d1 d2 := by
        unfold d2
        split
        · exact (d1.freeSlot_same _).up _
        · exact .refl _ _
      have h3 : Dev.sameBut compParts d2 d3 := by
        unfold d3
        split
        · exact (d2.stallAt_same _ _).up _
        · exact .refl _ _
      have h4 : Dev.sameBut compParts d3 d4 := by
        unfold d4
        split
        · exact .refl _ _
        · exact (d3.cqPush_same _ _ _).up _
      refine h1.trans (h2.trans (h3.trans (h4.trans ?_)))
      split
      · exact (d4.evt_same _ _ _ _ _ _).up _
      · exact .refl _ _

theorem Dev.drain_same (d : Dev) (q : Nat) : Dev.sameBut compParts d (d.drain q) := .foldl (fun d _ => d.drain1_same q) _ d

theorem Dev.complete_same (d : Dev) (q idx : Nat) (c : Comp) : Dev.sameBut compParts d (d.complete q idx c) :=
  ((d.modQueue_same q _).up _).trans (Dev.drain_same _ q)

theorem Dev.adminDone_same (d : Dev) (f idx : Nat) (c : Comp) : Dev.sameBut [.fns] d (d.adminDone f idx c) := by
  unfold Dev.adminDone
  split
  · exact d.modFn_same f _
  · split
    · exact .refl _ _
    · exact (d.modFn_same f _).trans (Dev.acqPush_same _ f _)

/-! ## Messages and pins -/

theorem Dev.message_same (d : Dev) (f : Nat) : Dev.sameBut [] d (d.message f) := by
  unfold Dev.message
  split
  · intro p hp
    cases p <;> simp_all [Part.same, Io.sameLink]
    intro k
    rw [Dev.fn_modFn]
    split
    · next h => subst h; rfl
    · rfl
  · split
    · exact (d.send_same _).trans (Dev.count_same _ _)
    · exact .refl _ _

theorem Dev.pinTo_same (d : Dev) (n : String) (o w : Bool) : Dev.sameBut [] d (d.pinTo n o w) := by
  unfold Dev.pinTo
  split
  · exact .refl _ _
  · exact d.send_same _

/-- Notifying the host and the board changes no part: only pins, messages and pending bits follow. -/
theorem Dev.notify_same (d : Dev) : Dev.sameBut [] d d.notify := by
  have hp : ∀ (e : Dev) (on : List Nat) (attn err permit : Bool),
      Dev.sameBut [] e { e with io := { e.io with atnOn := on, attn := attn }, flt := { e.flt with errN := err, permit := permit } } := by
    intro e on attn err permit p hp
    cases p <;> simp_all [Part.same, Io.sameLink, Dev.fn]
  unfold Dev.notify
  extract_lets on d1 attn err permit d2 d3 d4
  have h1 : Dev.sameBut [] d d1 := .foldl (fun d f => d.message_same f) _ d
  have h2 : Dev.sameBut [] d1 d2 := d1.pinTo_same _ _ _
  have h3 : Dev.sameBut [] d2 d3 := d2.pinTo_same _ _ _
  have h4 : Dev.sameBut [] d3 d4 := d3.pinTo_same _ _ _
  exact h1.trans (h2.trans (h3.trans (h4.trans (hp d4 on attn err permit))))

end Sys2Proof.Machine
end

