-- ==== Sys2Proof/Laws/Ops.lean ====
section
/-!
SUPPORT. What stays readable through the notification that ends a command (R275, R334 to R336), and what a command answers: its effect on the
control side, notified.
-/
namespace Sys2Proof.Machine

variable (d : Dev)


@[simp] theorem Dev.notify_parts :
    (d.notify).tim = d.tim ∧ (d.notify).fab = d.fab ∧ (d.notify).cmt = d.cmt ∧ (d.notify).jobs = d.jobs ∧ (d.notify).mon = d.mon ∧
    (d.notify).drv = d.drv ∧ (d.notify).seq = d.seq ∧ (d.notify).cal = d.cal ∧ (d.notify).mi = d.mi ∧ (d.notify).sec = d.sec ∧
    (d.notify).pwr = d.pwr ∧ (d.notify).thm = d.thm ∧ (d.notify).bmx = d.bmx ∧ (d.notify).glb = d.glb ∧ (d.notify).fresh = d.fresh := by
  have h := d.notify_same
  exact ⟨h .tim (by simp), h .fab (by simp), h .cmt (by simp), h .jobs (by simp), h .mon (by simp), h .drv (by simp), h .seq (by simp), h .cal (by simp), h .mi (by simp), h .sec (by simp), h .pwr (by simp), h .thm (by simp), h .bmx (by simp), h .glb (by simp), h .fresh (by simp)⟩

@[simp] theorem Dev.notify_io :
    (d.notify.io).queues = d.io.queues ∧ (d.notify.io).views = d.io.views ∧ (d.notify.io).tel = d.io.tel ∧
    (d.notify.io).telRo = d.io.telRo ∧ (d.notify.io).linkUp = d.io.linkUp ∧ (d.notify.io).linkGen = d.io.linkGen ∧
    (d.notify.io).linkWidth = d.io.linkWidth ∧ (d.notify.io).linkFlit = d.io.linkFlit ∧ (d.notify.io).numVfs = d.io.numVfs ∧
    (d.notify.io).vfHeld = d.io.vfHeld ∧ (d.notify.io).teardown = d.io.teardown ∧ (d.notify.io).perst = d.io.perst ∧
    (d.notify.io).owner = d.io.owner ∧ (d.notify.io).disturb = d.io.disturb ∧ (d.notify.io).cap = d.io.cap := by
  have h := d.notify_same
  have l : Io.sameLink d.io d.notify.io := h .link (by simp)
  have w : d.notify.io.owner = d.io.owner ∧ d.notify.io.disturb = d.io.disturb := h .owner (by simp)
  obtain ⟨l1, l2, l3, l4, l5, l6, l7, l8, l9⟩ := l
  exact ⟨h .queues (by simp), h .views (by simp), h .tel (by simp), l1, l2, l3, l4, l5, l6, l7, l8, l9, w.1, w.2, h .cap (by simp)⟩

theorem Dev.notify_fn_all (f : Nat) : { d.notify.fn f with msixPend := (d.fn f).msixPend } = d.fn f := d.notify_same .fns (by simp) f

@[simp] theorem Dev.notify_fn (f : Nat) :
    (d.notify.fn f).aqSqBase = (d.fn f).aqSqBase ∧ (d.notify.fn f).aqCqBase = (d.fn f).aqCqBase ∧ (d.notify.fn f).aqSqs = (d.fn f).aqSqs ∧
    (d.notify.fn f).aqCqs = (d.fn f).aqCqs ∧ (d.notify.fn f).aqEn = (d.fn f).aqEn ∧ (d.notify.fn f).aqActive = (d.fn f).aqActive ∧
    (d.notify.fn f).aqHead = (d.fn f).aqHead ∧ (d.notify.fn f).aqTail = (d.fn f).aqTail ∧ (d.notify.fn f).acq = (d.fn f).acq ∧
    (d.notify.fn f).cmds = (d.fn f).cmds ∧ (d.notify.fn f).orphans = (d.fn f).orphans ∧ (d.notify.fn f).evtBase = (d.fn f).evtBase ∧
    (d.notify.fn f).evtEs = (d.fn f).evtEs ∧ (d.notify.fn f).evtEn = (d.fn f).evtEn ∧ (d.notify.fn f).evtActive = (d.fn f).evtActive ∧
    (d.notify.fn f).evtAgg = (d.fn f).evtAgg ∧ (d.notify.fn f).evt = (d.fn f).evt ∧ (d.notify.fn f).evtSeq = (d.fn f).evtSeq ∧
    (d.notify.fn f).evtLost = (d.fn f).evtLost ∧ (d.notify.fn f).lostFlag = (d.fn f).lostFlag ∧
    (d.notify.fn f).msixAddr = (d.fn f).msixAddr ∧ (d.notify.fn f).msixData = (d.fn f).msixData ∧
    (d.notify.fn f).msixMask = (d.fn f).msixMask ∧ (d.notify.fn f).scratch = (d.fn f).scratch ∧ (d.notify.fn f).waits = (d.fn f).waits ∧
    (d.notify.fn f).covered = (d.fn f).covered ∧ (d.notify.fn f).flrAt = (d.fn f).flrAt ∧ (d.notify.fn f).cfg = (d.fn f).cfg := by
  have h := d.notify_fn_all f
  refine ⟨?_, ?_, ?_, ?_, ?_, ?_, ?_, ?_, ?_, ?_, ?_, ?_, ?_, ?_, ?_, ?_, ?_, ?_, ?_, ?_, ?_, ?_, ?_, ?_, ?_, ?_, ?_, ?_⟩ <;> rw [← h]

theorem Dev.notify_src_eq : d.notify.flt.src = d.flt.src := d.notify_same .src (by simp)
theorem Dev.notify_flt_all : { d.notify.flt with src := d.flt.src, errN := d.flt.errN, permit := d.flt.permit } = d.flt :=
  d.notify_same .flt (by simp)

@[simp] theorem Dev.notify_flt :
    (d.notify.flt).src = d.flt.src ∧ (d.notify.flt).swBlank = d.flt.swBlank ∧ (d.notify.flt).injEn = d.flt.injEn ∧
    (d.notify.flt).injAct = d.flt.injAct ∧ (d.notify.flt).lock = d.flt.lock ∧ (d.notify.flt).blankN = d.flt.blankN ∧
    (d.notify.flt).extest = d.flt.extest ∧ (d.notify.flt).blank = d.flt.blank ∧ (d.notify.flt).stage2 = d.flt.stage2 ∧
    (d.notify.flt).releasing = d.flt.releasing ∧ (d.notify.flt).blankAt = d.flt.blankAt ∧ (d.notify.flt).causeEnd = d.flt.causeEnd ∧
    (d.notify.flt).releaseEnd = d.flt.releaseEnd ∧ (d.notify.flt).fatal = d.flt.fatal ∧ (d.notify.flt).relock = d.flt.relock ∧
    (d.notify.flt).blankCnt = d.flt.blankCnt ∧ (d.notify.flt).fatalCnt = d.flt.fatalCnt ∧ (d.notify.flt).injScope = d.flt.injScope ∧
    (d.notify.flt).tsSel = d.flt.tsSel ∧ (d.notify.flt).errSw = d.flt.errSw ∧ (d.notify.flt).errPw = d.flt.errPw ∧
    (d.notify.flt).errEnd = d.flt.errEnd := by
  have h := d.notify_flt_all
  refine ⟨d.notify_src_eq, ?_, ?_, ?_, ?_, ?_, ?_, ?_, ?_, ?_, ?_, ?_, ?_, ?_, ?_, ?_, ?_, ?_, ?_, ?_, ?_, ?_⟩ <;> rw [← h]

@[simp] theorem Dev.notify_pmc :
    (d.notify.pmc).en = d.pmc.en ∧ (d.notify.pmc).snapReq = d.pmc.snapReq ∧ (d.notify.pmc).dumping = d.pmc.dumping ∧
    (d.notify.pmc).ovfLost = d.pmc.ovfLost ∧ (d.notify.pmc).idx = d.pmc.idx ∧ (d.notify.pmc).snap = d.pmc.snap ∧
    (d.notify.pmc).snapOvf = d.pmc.snapOvf ∧ (d.notify.pmc).snapEn = d.pmc.snapEn ∧ (d.notify.pmc).snapTb2 = d.pmc.snapTb2 ∧
    (d.notify.pmc).snapTb0 = d.pmc.snapTb0 ∧ (d.notify.pmc).dumpDrop = d.pmc.dumpDrop := by
  have h : { d.notify.pmc with ctr := d.pmc.ctr } = d.pmc := d.notify_same .pmc (by simp)
  refine ⟨?_, ?_, ?_, ?_, ?_, ?_, ?_, ?_, ?_, ?_, ?_⟩ <;> rw [← h]

theorem Dev.message_mtx (f : Nat) : (d.message f).mtx = d.mtx := by
  unfold Dev.message
  split
  · rfl
  · split <;> rfl
theorem Dev.pinTo_mtx (n : String) (o w : Bool) : (d.pinTo n o w).mtx = d.mtx := by unfold Dev.pinTo; split <;> rfl
/-- Bursts in the bus matrix wait for its edges: no notification moves them. -/
@[simp] theorem Dev.notify_mtx : d.notify.mtx = d.mtx := by
  have hf : ∀ (l : List Nat) (e : Dev), (l.foldl (fun d f => d.message f) e).mtx = e.mtx := by
    intro l
    induction l with
    | nil => intro e; rfl
    | cons f l ih => intro e; exact (ih _).trans (e.message_mtx f)
  unfold Dev.notify
  extract_lets on d1 attn err permit d2 d3 d4
  exact (d3.pinTo_mtx _ _ _).trans ((d2.pinTo_mtx _ _ _).trans ((d1.pinTo_mtx _ _ _).trans (hf _ _)))

@[simp] theorem Dev.notify_entries :
    d.notify.queue = d.queue ∧ d.notify.view = d.view ∧ d.notify.cap = d.cap ∧ d.notify.cell = d.cell ∧ d.notify.loop = d.loop ∧
    d.notify.tile = d.tile ∧ d.notify.le = d.le ∧ d.notify.slot = d.slot ∧ d.notify.mrt = d.mrt ∧ d.notify.met = d.met ∧
    d.notify.inj = d.inj ∧ d.notify.fl = d.fl ∧ d.notify.lane = d.lane ∧ d.notify.src = d.src := by
  refine ⟨?_, ?_, ?_, ?_, ?_, ?_, ?_, ?_, ?_, ?_, ?_, ?_, ?_, ?_⟩ <;> funext k <;>
    simp [Dev.queue, Dev.view, Dev.cap, Dev.cell, Dev.loop, Dev.tile, Dev.le, Dev.slot, Dev.mrt, Dev.met, Dev.inj, Dev.fl, Dev.lane, Dev.src]

/-- A command's effect on the control side alone is a next state: that effect, notified; all else is as it was. -/
theorem finish_next (s : State) : finish s d = .next { s with d := d.notify } := rfl

/-- The frame of a command is the frame of its effect. -/
theorem finish_same {ps : List Part} {s : State} {d : Dev} (h : Dev.sameBut ps s.d d) : State.sameBut ps s { s with d := d.notify } :=
  ⟨rfl, rfl, rfl, rfl, h.trans (d.notify_same.mono (by simp))⟩

/-- A host write that reaches the device crosses the matrix, is counted and carried out. -/
theorem hostWr_next {s : State} {f addr : Nat} {g : Dev → Dev} (h : s.d.reach f = true) :
    hostWr s f addr g = .next { s with d := (g (s.d.inbound true 0 addr 4)).notify } := by simp [hostWr, hostWrBar, h, finish]

/-- An access on its way in changes no part, and nothing that is sent. -/
theorem Dev.inbound_same (w : Bool) (bar addr len : Nat) : Dev.sameBut [] d (d.inbound w bar addr len) :=
  (d.count_same _).trans (Dev.bus_same _ _ _ _ _ _ _)

/-- Counting an event changes no entry that is read by number. -/
@[simp] theorem Dev.count_entries (n : Nat) :
    (d.count n).queue = d.queue ∧ (d.count n).view = d.view ∧ (d.count n).cap = d.cap ∧ (d.count n).cell = d.cell ∧ (d.count n).loop = d.loop ∧
    (d.count n).tile = d.tile ∧ (d.count n).le = d.le ∧ (d.count n).slot = d.slot ∧ (d.count n).mrt = d.mrt ∧ (d.count n).met = d.met ∧
    (d.count n).inj = d.inj ∧ (d.count n).fl = d.fl ∧ (d.count n).lane = d.lane ∧ (d.count n).src = d.src ∧
    (d.count n).fn = d.fn :=
  ⟨rfl, rfl, rfl, rfl, rfl, rfl, rfl, rfl, rfl, rfl, rfl, rfl, rfl, rfl, rfl⟩

@[simp] theorem Dev.count_parts (n : Nat) :
    (d.count n).io = d.io ∧ (d.count n).flt = d.flt ∧ (d.count n).tim = d.tim ∧ (d.count n).fab = d.fab ∧ (d.count n).cmt = d.cmt ∧
    (d.count n).jobs = d.jobs ∧ (d.count n).mon = d.mon ∧ (d.count n).drv = d.drv ∧ (d.count n).seq = d.seq ∧ (d.count n).cal = d.cal ∧
    (d.count n).mi = d.mi ∧ (d.count n).sec = d.sec ∧ (d.count n).pwr = d.pwr ∧ (d.count n).thm = d.thm ∧ (d.count n).bmx = d.bmx ∧
    (d.count n).mtx = d.mtx ∧ (d.count n).glb = d.glb ∧ (d.count n).fresh = d.fresh :=
  ⟨rfl, rfl, rfl, rfl, rfl, rfl, rfl, rfl, rfl, rfl, rfl, rfl, rfl, rfl, rfl, rfl, rfl, rfl⟩

@[simp] theorem Dev.inbound_entries (w : Bool) (b a n : Nat) :
    (d.inbound w b a n).queue = d.queue ∧ (d.inbound w b a n).view = d.view ∧ (d.inbound w b a n).cap = d.cap ∧
    (d.inbound w b a n).cell = d.cell ∧ (d.inbound w b a n).loop = d.loop ∧ (d.inbound w b a n).tile = d.tile ∧
    (d.inbound w b a n).le = d.le ∧ (d.inbound w b a n).slot = d.slot ∧ (d.inbound w b a n).mrt = d.mrt ∧
    (d.inbound w b a n).met = d.met ∧ (d.inbound w b a n).inj = d.inj ∧ (d.inbound w b a n).fl = d.fl ∧
    (d.inbound w b a n).lane = d.lane ∧ (d.inbound w b a n).src = d.src ∧ (d.inbound w b a n).fn = d.fn :=
  ⟨rfl, rfl, rfl, rfl, rfl, rfl, rfl, rfl, rfl, rfl, rfl, rfl, rfl, rfl, rfl⟩

@[simp] theorem Dev.inbound_parts (w : Bool) (b a n : Nat) :
    (d.inbound w b a n).io = d.io ∧ (d.inbound w b a n).flt = d.flt ∧ (d.inbound w b a n).tim = d.tim ∧
    (d.inbound w b a n).fab = d.fab ∧ (d.inbound w b a n).cmt = d.cmt ∧ (d.inbound w b a n).jobs = d.jobs ∧
    (d.inbound w b a n).mon = d.mon ∧ (d.inbound w b a n).drv = d.drv ∧ (d.inbound w b a n).seq = d.seq ∧
    (d.inbound w b a n).cal = d.cal ∧ (d.inbound w b a n).mi = d.mi ∧ (d.inbound w b a n).sec = d.sec ∧
    (d.inbound w b a n).pwr = d.pwr ∧ (d.inbound w b a n).thm = d.thm ∧ (d.inbound w b a n).bmx = d.bmx ∧
    (d.inbound w b a n).glb = d.glb ∧ (d.inbound w b a n).fresh = d.fresh :=
  ⟨rfl, rfl, rfl, rfl, rfl, rfl, rfl, rfl, rfl, rfl, rfl, rfl, rfl, rfl, rfl, rfl, rfl⟩

/-! ## What is sent -/

/-- What was sent stays sent: the list of what has been sent only grows at its front. -/
def Dev.sentOn (d e : Dev) : Prop := ∃ l, e.io.out = l ++ d.io.out

theorem Dev.sentOn.refl : Dev.sentOn d d := ⟨[], rfl⟩
theorem Dev.sentOn.trans {d e g : Dev} (h : Dev.sentOn d e) (h' : Dev.sentOn e g) : Dev.sentOn d g := by
  obtain ⟨l, h⟩ := h; obtain ⟨m, h'⟩ := h'; exact ⟨m ++ l, by rw [h', h, List.append_assoc]⟩
theorem Dev.sentOn.foldl {α : Type} {g : Dev → α → Dev} (h : ∀ d x, Dev.sentOn d (g d x)) (l : List α) :
    ∀ d : Dev, Dev.sentOn d (l.foldl g d) := by
  induction l with
  | nil => intro d; exact .refl d
  | cons x l ih => intro d; exact (h d x).trans (ih _)
theorem Dev.message_sentOn (f : Nat) : Dev.sentOn d (d.message f) := by
  unfold Dev.message
  split
  · exact ⟨[], rfl⟩
  · split
    · exact ⟨[.msix f], rfl⟩
    · exact ⟨[], rfl⟩
theorem Dev.pinTo_sentOn (n : String) (o w : Bool) : Dev.sentOn d (d.pinTo n o w) := by
  unfold Dev.pinTo
  split
  · exact ⟨[], rfl⟩
  · exact ⟨[.pin n w], rfl⟩
/-- What a command has sent stays sent through the notification that ends it. -/
theorem Dev.notify_sentOn : Dev.sentOn d d.notify := by
  unfold Dev.notify
  extract_lets on d1 attn err permit d2 d3 d4
  have h1 : Dev.sentOn d d1 := .foldl (fun d f => d.message_sentOn f) _ d
  have h2 : Dev.sentOn d1 d2 := d1.pinTo_sentOn _ _ _
  have h3 : Dev.sentOn d2 d3 := d2.pinTo_sentOn _ _ _
  have h4 : Dev.sentOn d3 d4 := d3.pinTo_sentOn _ _ _
  exact h1.trans (h2.trans (h3.trans h4))

end Sys2Proof.Machine
end

