-- ==== Sys2Proof/Tests/Slice0.lean ====
section
/-!
SUPPORT. The model's own tests: a few single steps with results from the spec, an ill-formed term for each check of WellFormed, and for
every statement with hypotheses the states and operands that meet them together, clause by clause.
-/
open Sys2Proof Sys2Proof.Machine
namespace Sys2Proof.Tests
set_option Elab.async false

/-- A device in RUN, 580 ms after Dawn began, with its link up and nothing configured. -/
def ready : State :=
  let s := State.reset
  { s with
    d := { s.d with
      pwr := { s.d.pwr with phase := .run, step := 8, done := true, rails := 63, pllLock := true, supUp := true }
      io := { s.d.io with linkUp := true, perst := false, linkGen := 5, linkWidth := 4 }
      fab := { s.d.fab with gstLoaded := true }
      drv := { s.d.drv with armed := true }
      cal := { s.d.cal with factValid := true }
      tim := { s.d.tim with tb0 := 580000000, tb2 := 580000000 }
      flt := { s.d.flt with permit := true } } }
/-- The control side changed. -/
def on (f : Dev → Dev) (s : State) : State := { s with d := f s.d }
/-- TB0 and TB2 at 580 ms and some ns. -/
def at_ (t : Nat) : State → State := on (fun d => { d with tim := { d.tim with tb0 := 580000000 + t, tb2 := 580000000 + t } })
/-- I/O queue q of a domain, ENABLED unless said otherwise, its SQ and CQ of 16 entries. -/
def withQ (q dom : Nat) (s : State) (st : QState := .enabled) (f : Queue → Queue := id) : State :=
  on (fun d => d.modQueue q (fun x => f { x with state := st, domain := dom, sqBase := 0x100000, sqs := 0, cq := { base := 0x200000, size := 16 } })) s
/-- Function f's admin pair and event ring run. -/
def withFn (f : Nat) (s : State) (g : Fn → Fn := id) : State :=
  on (fun d => d.modFn f (fun x => g { x with
    aqEn := true
    aqActive := true
    aqSqs := 0
    acq := { base := 0x300000, size := 16 }
    evtEn := true
    evtActive := true
    evt := { base := 0x400000, size := 16 } })) s
/-- VFs 1 to n are enabled. -/
def withVfs (n : Nat) : State → State := on (fun d => { d with io := { d.io with numVfs := n } })
/-- A submission entry from its fields: first byte and value. -/
def entry (fs : List (Nat × Nat)) : Sqe := BitVec.ofNat 512 ((fs.map (fun p => p.2 * 2 ^ (8 * p.1))).sum)
/-- A queue whose only command in flight is c. -/
def front (c : Cmd) (dom : Nat := 0) : State := withQ 3 dom (withVfs 2 ready) (f := fun x => { x with cmds := [c], head := 1, tail := 1 })
/-- A function whose only admin command is c. -/
def adminFront (f : Nat) (c : Cmd) : State := withFn f (withVfs 2 ready) (fun x => { x with cmds := [c], aqHead := 1, aqTail := 1 })


/-! ## States that meet the hypotheses of the statements -/

/-! ### Doorbells -/

def qRun : State := withQ 3 0 (withFn 0 ready)
def qIn (st : QState) (f : Queue → Queue := id) : State := withQ 3 0 (withFn 0 ready) st f
def vfQ : State := withQ 63 2 (withVfs 2 ready)
def cqFull : State := withQ 3 0 ready (f := fun x => { x with cq := { x.cq with tail := 3, head := 1, cause := true, ages := [1, 2] } })
def fnRun : State := withFn 0 ready
def acqFull : State := withFn 0 ready (fun x => { x with acq := { x.acq with tail := 3, head := 15, cause := true, ages := [1, 2, 3, 4] } })
def evtFull : State := withFn 0 ready (fun x => { x with evt := { x.evt with tail := 3, head := 15, cause := true, ages := [1, 2, 3, 4] } })
def withTel (f : Tel → Tel) : State → State := on (fun d => { d with io := { d.io with tel := f { d.io.tel with ring := { base := 0x500000, size := 16, tail := 2 } } } })
def telFull : State := withTel (fun t => { t with bulk := [{ len := 64 }, { off := 64, len := 64 }] }) ready
def causeQ (m : Bool) : State := withQ 3 0 (withFn 0 ready (fun x => { x with msixMask := m })) (f := fun x => { x with cq := { x.cq with tail := 3, head := 1, cause := true } })
def msixWaits : State := withFn 0 ready (fun x => { x with msixPend := true })
def qStall (h : Nat) : State := qIn .stalled (fun x => { x with head := h, tail := 5 })
def qAbort (k : AbortKind) : State := qIn .aborting (fun x => { x with abort := some { kind := k } })
def causesSendMessagesAt1 : State := causeQ false
def causesSendMessagesAt2 : State := causeQ true
def msixBoth : State := withFn 0 ready (fun x => { x with msixPend := true, msixMask := true, cfg := { x.cfg with fnMask := true } })
def qctlWritesAreDecodedAt1 : State := qStall 2
def qctlWritesAreDecodedAt2 : State := qIn .disabled
def qctlWritesAreDecodedAt3 : State := qStall 2
def abortOf (k : AbortKind) : Abort := { kind := k }
def qctlWritesAreDecodedAt4 : State := qAbort (.abort 0)
def qctlWritesAreDecodedAt5 : State := qIn .enablePending
def qctlWritesAreDecodedAt6 : State := qAbort .reset
def qctlWritesAreDecodedAt7 : State := qIn .disabled

/-! ### Commands of a queue -/

def cmd (fs : List (Nat × Nat)) (pay : List DWord := []) : Cmd := { sqe := entry fs, payload := pay }
def cBad (op : Nat) : Cmd := cmd [(0, op), (2, 77), (4, 1)]
def fBad (op : Nat) : State := front (cBad op)
def cNop : Cmd := cmd [(0, 10), (2, 77)]
def fNop : State := front cNop
def cFence : Cmd := cmd [(0, 3), (2, 77)]
def fFence : State := front cFence
def cQuery : Cmd := cmd [(0, 4), (2, 77), (8, 0x7000), (16, 510), (18, 2)]
def fQuery : State := front cQuery
def cNop2 : Cmd := { sqe := entry [(0, 10), (2, 78)], idx := 1 }
def cAhead : Cmd := { cmd [(0, 1), (2, 77), (24, 1)] with executed := true, effect := true }
def nopBehind : State := withQ 3 0 (withVfs 2 ready) (f := fun x => { x with cmds := [cAhead, cNop2], head := 2, tail := 2 })
def cBatch (op : Nat) : Cmd := cmd [(0, op), (2, 77), (8, 0x7000), (24, 1)] [1]
def fBatch (op : Nat) : State := front (cBatch op)
def cAtt : Cmd := cmd [(0, 2), (2, 77), (8, 0x7000), (24, 1)] [BitVec.ofNat 64 (511 + 2 ^ 9 + 30 * 2 ^ 16)]
def fAtt : State := front cAtt
def cLm : Cmd := cmd [(0, 8), (2, 77), (8, 0x7000), (24, 1)] [BitVec.ofNat 64 (3 + 7 * 2 ^ 8)]
def fLm : State := front cLm
def cSnap : Cmd := cmd [(0, 6), (2, 77), (8, 0x7000), (16, 20000), (20, 2), (24, 600000000)]
def fSnap : State := front cSnap
def cCal : Cmd := cmd [(0, 5), (2, 77), (8, 0x7000), (16, 20), (18, 0), (19, 0), (20, 7), (22, 1)]
def fCal : State := on (fun d => { d with cal := { d.cal with run := some { q := 5 } } }) (front cCal)
def cLoad : Cmd := cmd [(0, 9), (2, 77), (8, 0x7000), (16, 4), (20, 1), (24, 2)] [0x1122334455667788, 0x99]
def fLoad : State := on (fun d => { d with seq := { d.seq with segA := [(4, 100 + 7 * 2 ^ 17)] } }) (front cLoad)
def simpleCommandsCompleteAt1 : State := fBad 10
def commandsTakeEffectOrWaitAt1 : State := fBatch 1
def attJob : AttJob := { q := 3, ents := [(512 + 511, 30)], at2 := 1 }
def attWait : State := on (fun d => { d with jobs := { d.jobs with att := [attJob] } }) (front cAtt)
def lmJob (w : DWord) : LmJob := { q := 3, ents := [w], at2 := 579999000 }
def lmWait (w : DWord) : State := on (fun d => { d with jobs := { d.jobs with lm := [lmJob w] } }) (front cLm)
def lmWord : DWord := BitVec.ofNat 64 (1 + 3 * 16 + 2 ^ 25)
def waitingCommandsAreAppliedAt1 : State := lmWait lmWord
def fetched (s : State) : State := on (fun d => { d with mtx := { d.mtx with bursts := [{ target := 3, addr := 0x1003C0, len := 64, granted := 64, fetch := some 3 }] } }) s
def qNew (st : QState := .enabled) (f : Queue → Queue := id) : State := fetched (withQ 3 0 (withFn 0 ready) st (fun x => f { x with head := 15, tail := 2 }))
def qFlush : State := qNew .stalled (fun x => { x with flushTo := some 0 })
def eBatch : Sqe := entry [(0, 1), (2, 77), (8, 0x7000), (24, 2), (26, 2)]
def toFetch : State := withQ 3 0 (withFn 0 ready) (f := fun x => { x with head := 15, tail := 2 })

/-! ### Admin commands, resets, rings -/

def cCreate : Cmd := cmd [(0, 0x40), (2, 9), (8, 0x7000), (16, 0x9000), (24, 63), (25, 12), (26, 1), (27, 1), (31, 1)]
def aCreate : State := adminFront 0 cCreate
def cCreateBad : Cmd := cmd [(0, 0x40), (2, 9), (8, 0x7000), (16, 0x9000), (24, 63), (25, 13), (26, 1), (27, 1), (31, 1)]
def aCreateBad : State := adminFront 0 cCreateBad
def cDelete : Cmd := cmd [(0, 0x41), (2, 9), (8, 3)]
def aDelete : State := withQ 3 0 (adminFront 0 cDelete) (f := fun x => { x with tail := 2, cmds := [{}] })
def cAbort : Cmd := cmd [(0, 0x42), (2, 9), (8, 0), (9, 3), (10, 0)]
def aAbort : State := withQ 3 0 (adminFront 0 cAbort) .stalled
def aDeleteNone : State := adminFront 0 cDelete
def cPorts : Cmd := cmd [(0, 0x43), (2, 9), (8, 0), (9, 1), (10, 10), (12, 3), (14, 2)]
def aPorts : State := adminFront 0 cPorts
def cMask : Cmd := cmd [(0, 0x43), (2, 9), (8, 1), (14, 2), (16, 0x8001)]
def aMask : State := adminFront 0 cMask
def cQs : Cmd := cmd [(0, 0x43), (2, 9), (8, 2), (10, 62), (12, 2), (14, 1)]
def aQs : State := adminFront 0 cQs
def cutting : Abort := { kind := .abort 0, start := 579999500, tail := 5 }
def qCut : State := withQ 3 0 ready .aborting (fun x => { x with
  head := 4
  tail := 5
  cmds := [{ idx := 1, executed := true, effect := true }, { idx := 2, executed := true }, { idx := 3 }]
  abort := some cutting })
def cutDone : Abort := { cutting with cut := some 2 }
def qRange : State := withQ 3 0 ready .aborting (fun x => { x with head := 5, abort := some cutDone })
def cAbortRun : Cmd := { cAbort with executed := true }
def cutRanged : Abort := { cutDone with ranged := true }
def qEnding : State := withQ 3 0 (withFn 0 ready (fun x => { x with cmds := [cAbortRun], waits := [3], covered := 3 })) .enablePending (fun x => { x with abort := some { cutDone with ranged := true } })
def cDelRun : Cmd := { cDelete with executed := true }
def ranged : Abort := { cutDone with kind := .delete 0, ranged := true }
def qDeleting : State := withQ 3 0 (withFn 0 ready (fun x => { x with cmds := [cDelRun], waits := [3], covered := 3 })) .aborting (fun x => { x with abort := some ranged })
def vfRun : State := withQ 3 2 (withQ 5 0 (withFn 2 (withVfs 2 ready)))
def vfResets : State := withFn 2 (withVfs 2 ready) (fun x => { x with flrAt := some 5 })
def inPerst : State := on (fun d => { d with io := { d.io with perst := true, linkUp := false } }) ready
def linkOff : State := on (fun d => { d with io := { d.io with linkUp := false } }) ready
def tearing : State := on (fun d => { d with io := { d.io with teardown := some 7, vfHeld := some 4, owner := [(5, 3)] } }) ready
def adminOff : State := on (fun d => d.modFn 2 (fun x => { x with aqCqBase := 0x8000 })) (withVfs 2 ready)
def adminHeld : State := on (fun d => d.modFn 2 (fun x => { x with orphans := [{}] })) (withVfs 2 ready)
def adminBusy : State := withFn 2 (withVfs 2 ready) (fun x => { x with cmds := [{ executed := true }, { idx := 1 }] })
def adminWaits : State := withFn 2 (withVfs 2 ready) (fun x => { x with aqActive := false })
def aged : State := withQ 3 0 ready (f := fun x => { x with aggTime := 10, cq := { x.cq with ages := [(579990000, 10)], tail := 1 } })
def evtAged : State := withFn 0 ready (fun x => { x with evtAgg := 10, evt := { x.evt with ages := [(579990000, 7)], tail := 1 } })
def made (cqb : Nat) : State := on (fun d => d.modQueue 3 (fun x => { x with sqBase := 0x1000, cqBase := cqb })) ready
def causesSendMessagesAt3 : State := made 0x2000
def telRun (c : Nat) : State := withTel (fun t => { t with en := true, content := c, period := 10, bs := 16, hdrBase := 0x500000, bulkBase := 0x900000 }) ready
def recordsAreTakenAt1 : State := telRun 3
def recordsAreTakenAt2 : State := telRun 4
def snapJ : SnapJob := { q := 3, idx := 4, addr := 0x7000, trig := 2, time := 580000000, at2 := 3 }
def snapDue : State := withQ 3 0 (on (fun d => { d with jobs := { d.jobs with snap := [snapJ] } }) ready) (f := fun x => { x with cmds := [{ idx := 4, executed := true }] })
def dumpRec : Rec := { time := 5, esn := 2, counters := true, words := some [], lock := some [], cmd := some (3, 4, 0x7000, 0) }
def cDumping : Cmd := { idx := 4, executed := true, effect := true }
def dumpDue : State := withQ 3 0 (on (fun d => { d with jobs := { d.jobs with recs := [dumpRec] }, pmc := { d.pmc with dumping := true } }) ready) (f := fun x => { x with cmds := [{ idx := 4, executed := true, effect := true }] })

/-! ### Firmware, route and commit -/

def cStage : Cmd := cmd [(0, 0x44), (2, 9), (8, 0x7000), (16, 8)] [0]
def aStage : State := adminFront 0 cStage
def cActivate : Cmd := cmd [(0, 0x44), (2, 9), (20, 1)]
def aActivate : State := adminFront 0 cActivate
/-- A directory of one component, of type 1, as a bundle holds it. -/
def fwImage : List Byte := List.replicate 128 0 ++ [1] ++ List.replicate 300 0
def aActivate2 : State := on (fun d => { d with sec := { d.sec with staged := true, img1 := some fwImage } }) aActivate
def restarts : Activation := { restarting := true }
def supRun (act : Option Activation) (blocked : List (Nat × Nat)) (restart : Option Nat) (cs : List Cmd) : State := withFn 0 (on (fun d => { d with sec := { d.sec with act := act, blocked := blocked, restart := restart, doe := { state := 2 } } }) ready) (fun x => { x with cmds := cs })
def firmwareAndItsRestartsAt1 : State := supRun none [] none []
def cAct : Cmd := { cActivate with executed := true }
def firmwareAndItsRestartsAt2 : State := supRun (some { restarting := true }) [] (some 4) [cAct]
def firmwareAndItsRestartsAt3 : State := supRun none [(0, 0)] (some 4) [cAct]
def wOne : DWord := BitVec.ofNat 64 (1 + 5 * 2 ^ 8 + 300 * 2 ^ 17)
def cOne : Cmd := { cmd [(0, 1), (2, 77), (8, 0x7000), (24, 1)] [wOne] with executed := true }
def oneBatch (dom : Nat) : State := withQ 3 dom (withVfs 2 ready) (f := fun x => { x with cmds := [cOne], head := 1, tail := 1 })
def routeJobsStartAndEndAt1 : State := oneBatch 0
def routeJobsStartAndEndAt2 : State := oneBatch 2
def withSlot (k : Nat) (x : Slot) (s : State) : State := on (fun d => d.modSlot k (fun _ => x)) s
def heldSlot : Slot := { state := .held, queue := 3, heldBy := some (4, 1), entries := [wOne] }
def routeJobsStartAndEndAt3 : State := withSlot 7 heldSlot (oneBatch 0)
def routeJobsStartAndEndAt4 : State := withSlot 7 { state := .routing, queue := 3 } (oneBatch 0)
def footA : Slot := { state := .routing, queue := 3, delta := { foot := [10, 11] } }
def footB : Slot := { state := .staged, queue := 4, delta := { foot := [11, 12] }, rbOnFail := true }
def twoSlots : State := withSlot 7 footA (withSlot 8 footB (oneBatch 0))
def badComp : Comp := { status := 5, dw2 := 0 }
def badSlot : Slot := { state := .routing, queue := 3, bad := some { status := 5, dw2 := 0 } }
def routeJobsStartAndEndAt5 : State := withSlot 7 badSlot (oneBatch 0)
def stagedBatchesWaitForMidnightAt1 : State := withSlot 7 { state := .staging, queue := 3, commitTime := 580001001 } (oneBatch 0)
def stagedBatchesWaitForMidnightAt2 : State := withSlot 7 { state := .staging, queue := 3, commitTime := 580000999 } (oneBatch 0)
def conn5 : Conn := { inp := 5, out := 300 }
def connected : State := { oneBatch 0 with net := { conns := [conn5] } }
def stagedSlot : Slot := { state := .staged, queue := 3, time := 580000500, delta := { checked := [300] } }
def reserving : State := withSlot 7 stagedSlot connected
def dueSlot : Slot := { state := .staged, queue := 3, time := 580000000, masked := true, delta := { edits := [.add 5 300 false], sw := [(0x0105, .cross)], oatt := [(300, 30)], foot := [0x0105], checked := [300] } }
def due : State := withSlot 7 dueSlot (oneBatch 0)
def dueSettling : State := on (fun d => d.modCell 0x0105 (fun c => { c with settling := true })) due
def dueBlank : State := on (fun d => { d with flt := { d.flt with blank := true, swBlank := true, permit := false } }) due
def verSlot (x : Slot) : Slot := { x with state := .verifying, queue := 3, mn := 579996000, wait := [1], delta := { x.delta with checked := [300] } }
def ver (x : Slot) : State := withSlot 7 (verSlot x) connected
/-- Output 300 measured in one plane, some 2^-16 dB from what state s expects there. -/
def meas (s : State) (plane : Bool) (off : Int) : Meas :=
  { out := 300, plane := plane, level := s.d.expected s.net 5 300 plane (inputAt (s.d.slot 7).inputs 300 plane) + off, arrival := none }
def verPass : State := ver { locks := [1], inputs := [(300, 0, 65536)] }
def verDim : State := ver { locks := [1], inputs := [(300, -3000000, 0)], skip := [300] }
def verRoll : State := ver { rbOnFail := true }
def verKeep : State := ver {}

/-! ### Cells -/

/-- One connection, from 5 to 300. -/
def wired (s : State) : State := { s with net := { conns := [conn5] } }
def cOne5 : Cmd := { sqe := entry [(0, 1), (2, 77), (8, 0x7000), (24, 1)], payload := [1], executed := true }
def queued (c : Cmd) (s : State) : State := withQ 3 0 s (f := fun x => { x with cmds := [c], head := 1, tail := 1 })
def pathCells : List Nat := (List.range 0x1900).filter (fun ca => isSwitchCa ca && (wired ready).net.used ca)
/-- Cell ca with the given state, its path lit. -/
def withCell (ca : Nat) (f : Cell → Cell) (s : State) : State := on (fun d => d.modCell ca f) s
/-- The power test of cells reads lit. -/
def litAt (cas : List Nat) (s : State) : State := cas.foldl (fun x ca => withCell ca (fun c => { c with power := true }) x) s
def verifying (x : Slot) (s : State) : State := withSlot 7 { x with state := .verifying, queue := 3, mn := 579996000, delta := { checked := [300] } } s
def settlingCell (c : Cell) : Cell := { c with settling := true, settleEnd := 580000000 }
/-- A cell that carries the only checked path has not locked at t_SET. -/
def unlocked (ca : Nat) : State := verifying { rbOnFail := true, window := true, locks := [ca], wait := [ca] } (withCell ca settlingCell (litAt [ca] (queued cOne5 (wired ready))))
def failureAndSettlingAt1 : State := unlocked 2
def failureAndSettlingAt2 : State := unlocked 0x4002
def rbSlot : Slot := { state := .rollback, queue := 3, mn := 579996000, knownAt := 579999000, esn := 5, undo := { inps := [5], conns := [], sw := [(2, .cross)], tgt := [(1300, 7)] }, delta := { checked := [300] } }
def rolling : State := on (fun d => { d with cmt := { d.cmt with esn := 5 } }) (withSlot 7 rbSlot (queued cOne5 (wired ready)))
def settled : State := withCell 2 (fun c => { settlingCell c with fTrim := 777, phiTgt := 5, fast := true }) (litAt [2] (wired ready))
def failureAndSettlingAt3 : State := withCell 0x7A05 (fun c => { c with settling := true, locked := true, settleEnd := 600000000 }) (wired ready)
def settlingBatch : State := withSlot 7 { state := .settling, queue := 3, esn := 5, wait := [2], defer := true, deferBy := 70000, delta := { moved := [1, 2] } } (queued cOne5 settled)
def lossJob : PlaneJob := { inp := 5, plane := true, at2 := 579999000, failCa := some 0x4002 }
def planesAreLostAndRestoredAt1 : State := on (fun d => { d with cmt := { d.cmt with planes := [lossJob] } }) (wired ready)
def backJob : PlaneJob := { lossJob with restore := true }
def conn5B : Conn := { conn5 with dark := some true }
def onePlane : State := on (fun d => { d with cmt := { d.cmt with planes := [backJob] } }) { ready with net := { conns := [conn5B] } }
def onePlaneT : State := on (fun d => { d with fab := { d.fab with tgt := [(5, 30)] } }) onePlane
def backVer : Restore := { inp := 5, plane := true, mn := 579996000, locked := true, inputs := [(300, 0, 0)] }
def backState : State := on (fun d => ({ d with cmt := { d.cmt with restoring := [backVer], single := [(5, some 0x4002)] } }).condOn 37 (pathScope 5 300 2)) (wired ready)
def backMeas (plane : Bool) : Meas := { out := 300, plane := plane, level := backState.d.expected backState.net 5 300 plane 0, arrival := none }
def bridge : Conn := { inp := 5, out := 300, out2 := some 301 }
def bridged (s : State) : State := { s with net := { conns := [bridge] } }
def rollSlot : Slot := { state := .rolling, queue := 3, rolls := [(5, none)], knownAt := 579999000, rampUs := 50 }
def rollStart : State := withSlot 7 rollSlot (queued cOne5 (bridged ready))
def releaseAt : State := withSlot 7 { rollSlot with rolls := [(5, some 579999999)] } (queued cOne5 (bridged ready))
def inHandover : State := withCell 2 (fun c => { c with handover := true, fTrim := -9, f := -184549, locked := true, fWait := some 3 }) (litAt [2] (wired ready))
def inHandoverVoa : State := withCell 0x3C05 (fun c => { c with handover := true, f := 184549 }) ready
def handoverAndLockAt1 : State := withCell 2 (fun c => { c with demodAt := some 580000000 }) ready
def mayLock : State := on (fun d => d.condOn 28 2) (on (fun d => d.modLoop (hpAa 2) (fun l => { l with mode := 5 })) (withCell 2 (fun c => { c with nLock := 10, region := 1 }) (litAt [2] (wired ready))))
def mayLose : State := withCell 2 (fun c => { c with nLoss := 10, locked := true }) (litAt [2] (wired ready))
def falls (r : Nat) : State := on (fun d => d.modLoop (hpAa 2) (fun l => { l with mode := 2 })) (withCell 2 (fun c => { c with nMove := 3, region := r }) (litAt [2] (wired ready)))
def handoverAndLockAt2 : State := falls 1
def handoverAndLockAt3 : State := falls 0
def darkens : State := withCell 2 (fun c => { c with nDark := 3, power := true, locked := true }) (wired ready)
def lightWrapsAndHeatersAt1 : State := withCell 2 (fun c => { c with nLit := 3 }) (wired ready)
def lightWrapsAndHeatersAt2 : State := withCell 0x3C05 (fun c => { c with nLit := 3 }) ready
def wraps (u : Int) : State := on (fun d => d.modLoop (hpAa 2) (fun l => { l with wrapPending := true, u := u })) ready
def lightWrapsAndHeatersAt3 : State := wraps 16777215
def lightWrapsAndHeatersAt4 : State := wraps 16777216
def manual (s : State) : State := on (fun d => d.modLoop (hpAa 2) (fun l => { l with mode := 1, manual := 3000, code := 100, u := 50 })) s
def lightWrapsAndHeatersAt5 : State := manual ready
def railed (mv : Nat) : State → State := on (fun d => { d with drv := { d.drv with rail := [mv] } })
def fastDue : State := withCell 2 (fun c => { c with f := 7, fDue := some 99 }) (withCell 3 (fun c => { c with f := 8 }) ready)
def lightWrapsAndHeatersAt6 : State := railed 4699 fastDue

/-! ### Loop engines, parameters, results -/

def withLe (k : Nat) (f : Le → Le) (s : State) : State := on (fun d => d.modLe k f) s
def leFailed : State := withLe 9 (fun l => { l with state := some .failed, cause := some .permanent }) ready
def asks (f : Le → Le := id) : State := withLe 9 (fun l => f { l with pend := some 579990001, cause := some .permanent }) ready
def loopEnginesAndSparesAt1 : State := asks (fun l => { l with state := some .failed, presetDue := true })
/-- Every spare of plane A serves a tile whose own LE has failed. -/
def sparesGone (s : State) : State := (sparesOf 0).foldl (fun x k => withLe (k - 300) (fun l => { l with state := some .failed, cause := some .permanent, partner := k }) (withLe k (fun l => { l with state := some .spareServing, partner := k - 300 }) x)) s
def loopEnginesAndSparesAt2 : State := sparesGone (asks (fun l => { l with state := some .failed }))
def moves (back : Bool) (st : LeState) : State := withLe 336 (fun l => { l with state := some .moving, partner := 9 }) (withLe 9 (fun l => { l with moveAt := some 579995000, back := back, state := some st, cause := some .request, partner := 336 }) ready)
def loopEnginesAndSparesAt3 : State := moves false .moving
def loopEnginesAndSparesAt4 : State := moves true .moving
def loopEnginesAndSparesAt5 : State := sparesGone ready
def lentLe : State := withLe 336 (fun l => { l with state := some .spareServing, partner := 9 }) (withLe 9 (fun l => { l with state := some .lent, cause := some .request, partner := 336 }) ready)
def parametersAreLoadedAt1 : State := withVfs 1 ready
def loading (aa : Nat) : State := on (fun d => { d with fab := { d.fab with loads := [(579999000, .lpt aa 2 0x00030007)] } }) ready
def parametersAreLoadedAt2 : State := loading 9
def parametersAreLoadedAt3 : State := loading (4 * 0x3C05)
def conv (f : Mrt → Mrt := id) (g : Met → Met := id) : State := at_ 4000 (on (fun d => (d.modMrt 0x7A05 f).modMet 0x7A05 g) ready)
/-- A point's lane is in fast mode from Midnight on. -/
def fastLane : State := on (fun d => (d.modCell 0x3D02 (fun c => { c with fast := true, fastAt := 579990000 }))) ready

/-! ### Windows, injected conversions, fast lanes -/

/-- A comparator with LOW and HIGH limits. -/
def compares (side : Nat) (lo hi : Nat := 5000) : State := conv id (fun m => { m with en := true, nq := 2, count := 2, side := side, low := lo, high := hi })
def valueAt (code : Nat) : Int := codeValue (ready.d.coeffs 0x7A05) 0 code
def windowsAndInjectionsAt1 : State := compares 1
def windowsAndInjectionsAt2 : State := withFn 0 (on (fun d => d.modMet 4 (fun m => { m with due := some (2, 55, 66) })) ready)
def windowsAndInjectionsAt3 : State := withFn 0 (on (fun d => d.modMet 4 (fun m => { m with state := 1, due := some (0, 55, 66) })) ready)
def windowsAndInjectionsAt4 : State := withVfs 2 ready
def written : State := conv id (fun m => { m with next := [(580003000, 0x22221111, 0x07A50000)] })
def armedInj : State := on (fun d => d.modInj 3 (fun x => { x with mpa := 0x7A05, go := true, trig := 1, val := 77 })) ready
def waits : Inj := { mpa := 0x7A05, fast := true, go := true, triggered := true, trigAt := 580005000 }
def injecting : State := at_ 9000 (on (fun d => d.modInj 3 (fun _ => waits)) ready)
def withFl (k : Nat) (f : Fl → Fl) (s : State) : State := on (fun d => d.modFl k f) s
def claimedLane (st : FlSt) : State := withFl 5 (fun l => { l with claim := true, state := st }) ready
def lanesAreClaimedAt1 : State := claimedLane .capturing
def lanesAreClaimedAt2 : State := claimedLane .claimed
def lanesAreClaimedAt3 : State := withFl 6 (fun l => { l with state := .verify, att := some (mkMpa (outVoa 1 258) 1) }) (claimedLane .done)
def capturing : State := at_ 4000 (withFl 5 (fun l => { l with claim := true, arm := true, state := .capturing, att := some 0x7A05, pre := 1, len := 0, range := 2, trigTime := 580000000, armAt := 579000000 }) ready)
def samples : List (BitVec 12) := (List.range 256).map (BitVec.ofNat 12)

/-! ### Drives and sequencer -/

def withSeq (f : Seq → Seq) (s : State) : State := on (fun d => { d with seq := f d.seq }) s
def withDrv (f : Drv → Drv) (s : State) : State := on (fun d => { d with drv := f d.drv }) s
/-- Segment g of n + 1 samples from base. -/
def seg (g base n : Nat) (b : Nat := 0) (s : State) : State := withSeq (fun q => { q with segA := q.segA.set 0 g (base + n * 2 ^ 17), segB := q.segB.set 0 g b }) s
def driversAndTheirFaultsAt1 : State := seg 5 10 63 0 ready
def driversAndTheirFaultsAt2 : State := seg 5 10 62 0 ready
def pats (s : State) : State := { s with mem := { s.mem with pattern := (List.range 600).map (fun k => (k, BitVec.ofNat 8 (k * 7))) } }
def shapeCopied : State := withDrv (fun d => { d with shapeLoad := true, copySeg := 5 }) (seg 5 10 63 0 (pats ready))
def twoTones : State := withDrv (fun d => { d with tone := [(31, some 24)] }) ready
def toneDue : State := withDrv (fun d => { d with tone := [(31, some 60)], toneApply := true, toneAt := 580000000 }) ready
def amplDue (a : Nat) : State := on (fun d => d.modLoop 9 (fun l => { l with amplNext := some a, dither := true, ampl := 4 })) ready
def driversAndTheirFaultsAt3 : State := amplDue 0
def driversAndTheirFaultsAt4 : State := wired ready
def driversAndTheirFaultsAt5 : State := wired ready
def crossed (s : State) : State := { wired s with net := { (wired s).net with sw := [(2, .cross)] } }
def desc (g base n : Nat) (b : Nat := 0) : Desc := (seg g base n b ready).d.seq.desc g
def sequencerPlaysAt1 : State := seg 63 100 5 0x5800 ready
def sequencerPlaysAt2 : State := seg 63 100 5 0 ready
def sequencerPlaysAt3 : State := seg 63 131071 1 0 ready
def runs (f : Seq → Seq := id) : State := withSeq (fun q => f { q with state := .running, seg := 63, sampleAt := 579999990 }) (seg 63 100 5 0 (pats ready))
def trigWait : State := withSeq (fun q => { q with state := .waitTrig }) ready
def sequencerPlaysAt4 : State := runs (fun q => { q with next := .again })
def sequencerPlaysAt5 : State := withSeq (fun q => { q with ownerCal := true }) ready
def sequencerPlaysAt6 : State := runs (fun q => { q with sample := 4, jumpPend := true, target := 3 })
def sequencerPlaysAt7 : State := runs (fun q => { q with sample := 4, stopPend := true })
def sequencerPlaysAt8 : State := runs (fun q => { q with sample := 5, stopPend := true, jumpPend := true })
def sequencerPlaysAt9 : State := runs (fun q => { q with sample := 5, next := .again })
def sequencerPlaysAt10 : State := seg 7 20 0 0 (runs (fun q => { q with sample := 5, next := .go 7, jumpPend := true, jumpTaken := true }))
def sequencerPlaysAt11 : State := seg 7 20 3 0x40 (runs (fun q => { q with sample := 5, next := .go 7 }))
def sequencerPlaysAt12 : State := runs (fun q => { q with sample := 5, next := .stop })
def starved : State := withSeq (fun q => { q with state := .underrun, seg := 63, fill := [63], under := 4 }) (seg 63 100 5 0x40 (pats ready))
def isBound : State := withSeq (fun q => { q with lanes := [(1, { aa := 9, en := true, bound := true })] }) ready
def unbinding (aa : Nat) : State := withSeq (fun q => { q with lanes := [(1, { aa := aa, bound := true, value := 500 })] }) (on (fun d => d.modCell 2 (fun c => { c with f := 6 })) ready)
def sequencerIsFedAndBoundAt1 : State := unbinding 9
def sequencerIsFedAndBoundAt2 : State := unbinding 10
def refilling : State := withSeq (fun q => { q with rfEn := true, rfLen := 20, rfPos := 3, startSeg := 7 }) (seg 7 20 3 0x40 (pats ready))
def fillWords : List DWord := [0x1111, 0x2222, 0, 0xFFFFFFFFFFFFFFFF]
def sequencerIsFedAndBoundAt3 : State := pats ready
def syncinTriggers : State := on (fun d => (d.modInj 3 (fun x => { x with go := true, trig := 1 })).modFl 5 (fun l => { l with state := .armed, trig := 1 })) (runs (fun q => { q with jumpSyncin := true }))
def pulse : State := withSeq (fun q => { q with sync := [(1, { inv := true, endAt := some 580000000 })] }) ready

/-! ### Calibration -/

def withCal (f : Cal → Cal) (s : State) : State := on (fun d => { d with cal := f d.cal }) s
def runAll : CalRun := { q := 3, kinds := 0x3F, todo := [9, 10, 200], tiles := [9, 10, 200], waitFrom := 400000000 }
def calRuns (r : CalRun) : State := withCal (fun c => { c with run := some r, spareWait := 10 }) ready
def calibrationMeasuresAt1 : State := calRuns runAll
def tile9 : CalTile := { tn := 9, step := 3, t0 := 480000000 }
def runTile (x : CalTile) (r : CalRun := runAll) : CalRun := { r with active := [x] }
def runBias : CalRun := { runAll with kinds := 1 }
def firstCell : Nat := (tileCells 9).headD 0
def aHp : Nat := hpAa firstCell
def biasStat (v : Int) : Tab CalStat := [(statKey 0 aHp, { n := 4, a := 4 * v, lo := v, hi := v })]
def tile9a : CalTile := { tile9 with now := biasStat 100 }
def calibrationMeasuresAt2 : State := calRuns (runTile tile9a runBias)
def allAmps : List CalMeas := ((tileCells 9).flatMap heatersOf).map (fun aa => CalMeas.heater aa [100, 200, 300, 400])
def tile9x : CalTile := { tile9a with swept := true }
def tile9b : CalTile := { tile9 with step := 4, now := biasStat 100, w1 := biasStat 90, est := [(statKey 0 aHp, some 4194404)] }
/-- Cell firstCell is in calibration. -/
def inCal (s : State) : State := on (fun d => (d.modCell firstCell (fun c => { c with power := true, locked := true, cal := true })).modLoop aHp (fun l => { l with mode := 4, prevMode := some 2 })) s
def calibrationMeasuresAt3 : State := inCal (calRuns (runTile tile9b runBias))
def tile9c : CalTile := { tile9b with bad := [(statKey 0 aHp, 5)] }
def tile9e : CalTile := { tile9 with step := 5, accepted := [(0, hpAa 9, [77])] }
def calibrationStoresAt1 : State := calRuns (runTile tile9e)
def tile9s : CalTile := { tile9e with step := 6 }
def storing : State := withCal (fun c => { c with storing := true, storeSet := { flGain := [(3, 4)] }, bankB := { gen := 7 } }) (calRuns (runTile tile9s))
def calibrationStoresAt2 : State := withCal (fun c => { c with again := true }) storing
def retrying : State := withCal (fun c => { c with retry := true, retryAt := some 480000000 }) (calRuns (runTile tile9s))
def withSensor (k : Nat) (t : Int) (s : State) : State := on (fun d => { d with thm := { d.thm with sensors := d.thm.sensors.set {} k { temp := t, valid := true } } }) s
def tile9t : CalTile := { tile9e with step := 7, t0 := 579990000 }
def calibrationStoresAt3 : State := withSensor 9 640 (calRuns (runTile tile9t))
def tile9u : CalTile := { tile9e with step := 8, t0 := 579990000 }
def lent9 (s : State) : State := withLe 336 (fun l => { l with state := some .spareServing, partner := 9 }) (withLe 9 (fun l => { l with state := some .lent, cause := some .cal, partner := 336 }) s)
def calibrationStoresAt4 : State := lent9 (calRuns (runTile tile9u))
def waits9 : CalRun := runTile { tile9 with tn := 9 } { runAll with todo := [10, 11, 300] }
def calibrationMeasuresAt4 : State := calRuns waits9
def interp (t : Nat) (s : State) : State := on (fun d => { d with tim := { d.tim with tb2 := t } }) s
def calibrationMeasuresAt5 : State := interp ((25 * 335 + 1) * 10000) (withSensor 335 700 ready)
def calibrationMeasuresAt6 : State := interp ((25 * 335 + 1) * 10000) ready

/-! ### Faults and blank -/

def withFlt (f : Flt → Flt) (s : State) : State := on (fun d => { d with flt := f d.flt }) s
def withSrc (n : Nat) (f : Src → Src) (s : State) : State := on (fun d => d.modSrc n f) s
def faultSourcesAndRecoveryAt1 : State := withFlt (fun x => { x with injEn := true, injScope := 7 }) ready
def faultSourcesAndRecoveryAt2 : State := withSrc 29 (fun x => { x with latched := true, real := true, count := 3 }) ready
def faultSourcesAndRecoveryAt3 : State := withSrc 29 (fun x => { x with latched := true, conds := [5], out := true, recs := [5], insts := [{ scope := 5, since := some 66 }] }) ready
def faultSourcesAndRecoveryAt4 : State := withFlt (fun x => { x with errEnd := some 580000000, errN := true }) ready
def quiet : Inst := { scope := 9, since := some 0, full := true }
def recovering (n : Nat) (rs : List Nat) : State := withSrc n (fun x => { x with latched := true, insts := [quiet], recs := rs, cfg := some 0x0000_0040 }) ready
def recovers (n : Nat) (rs : List Nat := []) : State := withSrc n (fun x => { x with latched := true, insts := [quiet], recs := rs }) ready
def faultSourcesAndRecoveryAt5 : State := recovers 27
def faultSourcesAndRecoveryAt6 : State := recovers 27 [1, 2, 3, 4, 5, 6, 7, 579999999]
def fatalOver : State := withFlt (fun x => { x with fatal := true, blank := true, stage2 := true, relock := some (580000000, 3), permit := false }) ready
def blankPin : State := withFlt (fun x => { x with blankN := true, blank := true, stage2 := true, permit := false }) ready
def brightVoas (s : State) : State := on (fun d => (d.modCell (inVoa 0 5) (fun c => { c with dark := false })).modCell (outVoa 1 300) (fun c => { c with dark := false })) s
def blankFresh : State := brightVoas (withFlt (fun x => { x with blankN := true, blank := true, blankAt := 579991000, permit := false }) ready)
def blankOver (s : State) : State := withFlt (fun x => { x with blank := true, stage2 := true, blankAt := 579000000, causeEnd := some 579989999, permit := false }) s
def blankAndReleaseAt1 : State := blankOver (brightVoas ready)

/-! ### Time -/

def withTim (f : Tim → Tim) (s : State) : State := on (fun d => { d with tim := f d.tim }) s
/-- A source is selected, in state st. -/
def disc (src st : Nat) (f : Tim → Tim := id) : State := withTim (fun x => f { x with src := src, state := st }) ready
def measurementsDisciplineTimeAt1 : State := withTim (fun x => { x with inDly := -5, edge := some (3, 4, false) }) ready
/-- Frame SEQ 7 of second n. -/
def frame (n seq : Nat) : List Byte :=
  let b := bytesLE (0xC5 + 256 + n * 2 ^ 16 + 37 * 2 ^ 64 + 5 * 2 ^ 80 + 6 * 2 ^ 88 + seq * 2 ^ 96) 14
  b ++ bytesLE (crc16 b) 2
def edgeAt (src st : Nat) (f : Tim → Tim := id) : State := disc src st (fun x => f { x with edge := some (579000123, 569000000, false), lastSeq := some 6 })
def measurementsDisciplineTimeAt2 : State := edgeAt 1 2 (fun x => { x with rate := 5, freq := 77777777 })
def measurementsDisciplineTimeAt3 : State := edgeAt 2 1
def measurementsDisciplineTimeAt4 : State := edgeAt 1 2
def ptm (f : Tim → Tim := id) : State := disc 2 2 (fun x => f { x with ptmEn := true, ptmPer := 10 })
def measurementsDisciplineTimeAt5 : State := ptm (fun x => { x with ptmOut := true, rate := 100, freq := 5000000000 })
/-- Scheduled work: a SNAPSHOT for an instant of TB0. -/
def sched (s : State) : State := withQ 3 0 (on (fun d => { d with jobs := { d.jobs with snap := [{ q := 3, idx := 0, trig := 2, time := 590000000 }] } }) s) (f := fun x => { x with cmds := [{ sqe := entry [(0, 6), (24, 2)], executed := true }], head := 1, tail := 1 })
def timeIsSteppedAndSentOutAt1 : State := disc 1 2 (fun x => { x with edgesBare := 3, quietFrom := 580000000, freq := 99999999999 })
def timeIsSteppedAndSentOutAt2 : State := disc 1 2
def timeIsSteppedAndSentOutAt3 : State := disc 1 4 (fun x => { x with epoch := 65535, stepUsed := true })
def timeIsSteppedAndSentOutAt4 : State := disc 1 2
def timeIsSteppedAndSentOutAt5 : State := disc 0 0 (fun x => { x with stepUsed := true })
def timeIsSteppedAndSentOutAt6 : State := sched ready
def timeIsSteppedAndSentOutAt7 : State := disc 0 0 (fun x => { x with set := 2 ^ 63 + 5 })
def timeIsSteppedAndSentOutAt8 : State := disc 1 4
def timeIsSteppedAndSentOutAt9 : State := sched ready
def timeIsSteppedAndSentOutAt10 : State := withTim (fun x => { x with outEn := true, tb0 := 5000000100, outAdv := -99 }) ready
def timeIsSteppedAndSentOutAt11 : State := withTim (fun x => { x with outEn := true, tb0 := 5000000000, skipTo := 5 }) ready
def tod : State := withTim (fun x => { x with todEn := true, tb0 := 5010000001, leap := 2, quality := 255, utcOff := 37, txSeq := 65535 }) ready
def timeIsSteppedAndSentOutAt12 : State := withTim (fun x => { x with todEn := true, tb0 := 5010000001, skipTo := 5 }) ready

/-! ### Island -/

def withIsl (f : Isl → Isl) (s : State) : State := { s with isl := f s.isl }
/-- The island runs, with 70 records written: block 0 signed, block 1 being filled. -/
def rec0 (k : Nat) : List Byte := bytesLE k 8 ++ List.replicate 248 0
def isl0 : Isl := { State.reset.isl with
  up := true, deaf := false, uncStart := false, tb1 := 3600000000000 + 5 * 15625 + 3000000, mono := 70000000000, lastLink := 69000000000, ckptAt := 69000000000, next := 70, chain := 99,
  blocks := [{ num := 0, openAt := 1, recs := (List.range 64).map rec0, trailer := some (List.replicate 4736 0) },
             { num := 1, openAt := 1, recs := (List.range 6).map (fun k => rec0 (64 + k)) }] }
def island (f : Isl → Isl := id) : State := withIsl (fun _ => f isl0) ready
def iv5 : Interval := { inp := 5, eIn := 7, eOut := 8, n := 3, bad := 99, evald := 200, pIn := some (3600003, 5000) }
def c5 : Claim := { inp := 5, bridge := true, atten := 40 }
def claimed (f : Isl → Isl := id) : State := island (fun i => f { i with map := [(5, some c5)], ivs := [(5, some iv5)] })
def islandFollowsTheClaimedMapAt1 : State := claimed (fun i => { i with ivs := [(5, some { iv5 with pIn := none })] })
def islandFollowsTheClaimedMapAt2 : State := island (fun i => { i with uncl := [(5, { isOpen := true, count := 100, eOut := 5 })] })
def islandFollowsTheClaimedMapAt3 : State := island (fun i => { i with uncl := [(5, { count := 100 })] })
def link (inp : Option Nat) : LinkEntry := { out := 5, inp := inp, bridge := false, atten := 60 }
def stamped (f : Isl → Isl := id) : State := island (fun i => f { i with fifo := [(8, 1234), (9, 1235)] })
def islandFollowsTheClaimedMapAt4 : State := stamped (fun i => { i with map := [(5, some c5)], ivs := [(5, some iv5)] })
def islandFollowsTheClaimedMapAt5 : State := stamped (fun i => { i with map := [(5, some c5)], ivs := [(5, some iv5)] })
def islandFollowsTheClaimedMapAt6 : State := stamped (fun i => { i with reserve := true, reserveNum := 1, map := [(5, some c5)], ivs := [(5, some iv5)] })
def islandFollowsTheClaimedMapAt7 : State := stamped (fun i => { i with deaf := true })
def islandFollowsTheClaimedMapAt8 : State := stamped (fun i => { i with deaf := true })
def islandFollowsTheClaimedMapAt9 : State := island (fun i => { i with mono := 71000000001 })
def full64 : Block := { num := 1, openAt := 1, recs := (List.range 64).map (fun k => rec0 (64 + k)) }
def islandKeepsItsRecordsAt1 : State := island (fun i => { i with next := 128, blocks := [full64] })
def old6 : Block := { num := 1, openAt := 1, recs := (List.range 6).map (fun k => rec0 (64 + k)) }
def islandKeepsItsRecordsAt2 : State := island (fun i => { i with mono := 3600000000001, blocks := [old6] })
def islandKeepsItsRecordsAt3 : State := island (fun i => { i with mono := 70000000000 })
def downIsl (f : Isl → Isl := id) : State := island (fun i => f { i with up := false, ckpt := 555 })
def islandKeepsItsRecordsAt4 : State := downIsl (fun i => { i with ckptIvs := [(5, some iv5)] })
def islandKeepsItsRecordsAt5 : State := on (fun d => d.condOn 91 0) (island (fun i => { i with uncClock := true }))
def readerPortAnswersAt1 : State := island (fun i => { i with streamPos := 64 })
def readerPortAnswersAt2 : State := island (fun i => { i with streamPos := 70 })
def readerPortAnswersAt3 : State := island (fun i => { i with streamPos := 0, blocks := i.blocks.drop 1 })
def readerPortAnswersAt4 : State := island (fun i => { i with sealF := 8 })
def readerPortAnswersAt5 : State := island (fun i => { i with unsealF := 1 })
def readerPortAnswersAt6 : State := island (fun i => { i with unsealF := 8 })
def readerPortAnswersAt7 : State := island (fun i => { i with sealF := 8 })
def readerPortAnswersAt8 : State := island (fun i => { i with unsealF := 1 })

/-! ### Mailbox, SPDM, debug -/

def withMi (f : Mi → Mi) (s : State) : State := on (fun d => { d with mi := f d.mi }) s
def beats : State := withMi (fun m => { m with evtEn := true }) (withFn 0 (island (fun i => { i with events := [(1, 2, 3, 4)] })))
def missed : State := withMi (fun m => { m with alive := true, lastBeat := 480000000 }) ready
def cRead (kind pos max size : Nat) : Cmd := cmd [(0, 0x45), (2, 9), (8, 0x7000), (16, size), (20, kind), (24, pos), (32, max)]
def reads (c : Cmd) (f : Mi → Mi := id) (g : Isl → Isl := id) : State := withMi f { adminFront 0 c with isl := g isl0 }
def mailboxCarriesRequestsAt1 : State := reads (cRead 1 64 1 256) (fun m => { m with alive := true })
def mailboxCarriesRequestsAt2 : State := reads (cRead 2 64 1 256)
def mailboxCarriesRequestsAt3 : State := reads (cRead 3 64 1 256)
def asked (c : Cmd) (g : Isl → Isl := id) : State := reads { c with executed := true } (fun m => { m with alive := true, reqs := [(0, c.idx, c.sqe)] }) g
def xRead (kind pos max size : Nat) : Cmd := { cRead kind pos max size with executed := true }
def mailboxCarriesRequestsAt4 : State := asked (cRead 2 69 1 256)
def mailboxCarriesRequestsAt5 : State := asked (cRead 2 69 1 256) (fun i => { i with ackSrc := false })
def mailboxCarriesRequestsAt6 : State := asked (cRead 1 69 1 256)
def badMsg : SpdmMsg := { good := false, param := 0 }
def msg (p : Nat) : SpdmMsg := { good := true, param := p }
def session (x : Session) (s : State) : State := on (fun d => { d with sec := { d.sec with doe := x } }) s
def spdmIsAnsweredAt1 : State := session { state := 1, period := 4 } ready
def spdmIsAnsweredAt2 : State := session { state := 2, period := 4, beat := some 5 } ready
def spdmIsAnsweredAt3 : State := session { state := 2, period := 4, beat := some 580000000 } ready
def inSession : State := session { state := 2, period := 4, beat := some 580000000 } ready
def withSec (f : Sec → Sec) (s : State) : State := on (fun d => { d with sec := f d.sec }) s
def debugIsUnlockedByTokenAt1 : State := withSec (fun x => { x with chalEnd := some 581000000, fails := 2 }) ready
def debugIsUnlockedByTokenAt2 : State := withSec (fun x => { x with level := 2 }) ready

/-! ### Power, counters, registers -/

def withPwr (f : Pwr → Pwr) (s : State) : State := on (fun d => { d with pwr := f d.pwr }) s
def halted : State := withPwr (fun p => { p with phase := .stopped, halt := 1 }) ready
def parked : State := withDrv (fun d => { d with armed := false }) (withPwr (fun p => { p with phase := .parked, done := false, step := 5 }) ready)
def dawning (n : Nat) (f : Pwr → Pwr := id) : State := withDrv (fun d => { d with armed := 4 ≤ n }) (withPwr (fun p => f { p with phase := .dawn, done := false, step := n, stepAt := 480000000, supUp := 2 ≤ n }) (withFlt (fun x => { x with permit := false }) ready))
def dawnRunsItsStepsAt1 : State := dawning 0
def dawnRunsItsStepsAt2 : State := dawning 0 (fun p => { p with rails := 31 })
def dawnRunsItsStepsAt3 : State := dawning 1
def dawnRunsItsStepsAt4 : State := dawning 2
def dawnRunsItsStepsAt5 : State := dawning 3
def dawnRunsItsStepsAt6 : State := dawning 4
def dawnRunsItsStepsAt7 : State := dawning 5
def dawnRunsItsStepsAt8 : State := dawning 6
def lockWait : State := on (fun d => d.modCell 2 (fun c => { c with power := true })) { dawning 6 with net := { conns := [{ inp := 5, out := 300 }] } }
def islandUp (s : State) : State := { on (fun d => { d with mi := { d.mi with alive := true } }) s with isl := { s.isl with up := true } }
def dawnRunsItsStepsAt9 : State := islandUp (dawning 7)
def dawnRunsItsStepsAt10 : State := dawning 7
def dawnRunsItsStepsAt11 : State := dawning 8
def dawnRunsItsStepsAt12 : State := withFlt (fun x => { x with fatal := true, blank := true }) (dawning 4)
def twoQueues : State := withQ 3 0 (withQ 63 0 ready (st := .stalled)) (st := .disabled)
def duskPutsToRestAt1 : State := dawning 3
def duskPutsToRestAt2 : State := dawning 8 (fun p => { p with duskWait := true })
def dusk (n : Nat) (s : State := ready) : State := withPwr (fun p => { p with phase := .dusk, step := n, duskAt := 500000000, stepAt := 570000000 }) s
def duskPutsToRestAt3 : State := dusk 0
def duskPutsToRestAt4 : State := dusk 1 (withFlt (fun x => { x with blank := true }) ready)
def bright : State := on (fun d => d.modCell (outVoa 1 300) (fun c => { c with dark := false })) (dusk 1)
def duskPutsToRestAt5 : State := dusk 2
def duskPutsToRestAt6 : State := dusk 4 (on (fun d => d.modLoop 9 (fun l => { l with u := 55, drv := 6 })) ready)
def duskPutsToRestAt7 : State := dusk 5
def warned : State := withPwr (fun p => { p with vinWarn := true }) (on (fun d => d.condOn 15 0) ready)
def held : Inst := { scope := 0, full := true }
def stands (n : Nat) (f : Pwr → Pwr := id) : State := withPwr f (withFlt (fun x => { x with fatal := true, blank := true, permit := false }) (withSrc n (fun x => { x with conds := [0], insts := [held], latched := true }) ready))
def supplyIsWatchedAt1 : State := stands 1
def supplyIsWatchedAt2 : State := stands 3 (fun p => { p with rails := 62 })
def supplyIsWatchedAt3 : State := withPwr (fun p => { p with overW := 99, overA := 99 }) ready
def supplyIsWatchedAt4 : State := withFlt (fun x => { x with permit := false }) ready
def refFine : State := withPwr (fun p => { p with refOk := true }) ready
def clocksAndTemperatureAreWatchedAt1 : State := stands 4 (fun p => { p with pllLock := false, refOk := true })
def clocksAndTemperatureAreWatchedAt2 : State := stands 5 (fun p => { p with refOk := false })
def clocksAndTemperatureAreWatchedAt3 : State := withVfs 2 ready
def withPmc (f : Pmc → Pmc) (s : State) : State := on (fun d => { d with pmc := f d.pmc }) s
def counting : State := withPmc (fun p => { p with en := true, idx := 2880, ctr := [(2880, { en := true, chain := true, value := 7, ovf := true }), (2881, { value := 9 }), (3021, { en := true, value := 5 })] }) ready
def countersAreSnappedSetAndClearedAt1 : State := withPmc (fun p => { p with dumping := true }) counting
def countersAreSnappedSetAndClearedAt2 : State := withPmc (fun p => { p with idx := 2881 }) counting
def captured (off w : Nat) : State := on (fun d => d.modCap 0 (fun c => { c with words := c.words.set none off (some w) })) ready
def registersAreReadAndWrittenAt1 : State := captured 0x1A014 77
def registersAreReadAndWrittenAt2 : State := on (fun d => d.modCap 0 (fun c => { c with mrt := some (0x7A05, 66) })) ready
def registersAreReadAndWrittenAt3 : State := withVfs 2 ready
def registersAreReadAndWrittenAt4 : State := withVfs 2 ready
def withBursts (bs : List Burst) (s : State) : State := on (fun d => { d with mtx := { d.mtx with bursts := bs } }) s
def bulkB : Burst := { master := 1, write := true, target := 3, addr := 0x1080, len := 600, wait := 40 }
def countersAreSnappedSetAndClearedAt3 : State := withBursts [bulkB] ready
def agedB : Burst := { master := 5, write := true, target := 3, addr := 0x2080, len := 64, granted := 32, wait := 0x900 }
def countersAreSnappedSetAndClearedAt4 : State := withBursts [bulkB, agedB] ready
def laneDriven : Dev := { ready.d with seq := { ready.d.seq with lanes := [(1, { aa := fAa 2, bound := true, value := 500 })] } }
def blankedDev : Dev := { laneDriven with flt := { laneDriven.flt with blank := true, stage2 := true } }
/-! ## Checks of WellFormed -/

/-- One ill-formed command for each check. -/
def illFormed : List Instr :=
  [.sqTail 16 0 4 0, .cqHead 0 64 4 0, .qctlEnable 0 64 4 0 false, .resume 16 0 4 0 false, .aqSqTail 16 4 0, .irqRearm 16 4 0,
   .commandFetch true 16 0 [] .ok .ok, .commandFetch false 64 0 [] .ok .ok, .abortComplete true 16, .completionTimeout (.io 64) none [],
   .hostReadFailure (.admin 16) none [] .ur, .create 0 64 0, .connectBatch 64, .routeJobStart 64, .queueCreate 16, .flr 16,
   .adminQueueEnable 0 16 0, .eventRingDisable 16 0 0, .routeJobComplete 16, .releaseCommit 16, .verificationWindowClose 528 [],
   .settleWindowEnd 32768, .lockLost 32768, .leFailure 352 0, .leRejoin 352 true, .takeover 336, .calTileStart 336, .spareReq 0 352 0,
   .conversionResult 65536 0 false false false, .conversionResult 0 65536 false false false, .windowTransition 65536, .go 0 8 0,
   .injectedResult 8 0 false, .claim 0 128 0, .arm 16 0 0, .captureComplete 128 [] 0, .metWrite 0 65536 0, .mrtValueRead 0 65536,
   .ditherAmplitudeChange 131072, .driveFault 0 131072, .force 0 96 0, .quietPeriodEnd 96 0] ++
  [.islandSample 1024 0, .unclaimedOpen 512, .sensorUpdate 352 0 false, .seqBind 0 4 0, .unbind 4, .segmentFilled 64 [], .syncPulseEnd 4,
   .vfEnable 16, .railOutOfWindow 6 0, .masterStall 9 0, .devicePlaneCommit 512, .token 20 [], .token 0 (List.replicate 240 0),
   .configWrite (List.replicate 241 0), .read 0, .read 242, .aggTime 2 0, .aggTime 1 16, .snap 16 0, .lptWrite 16 0 [],
   .patternWrite 16 true 0 4 0, .submit 16 0 [] .ok, .captureRead 0 1 0 4, .captureRead 0 4 4093 4, .registerWrite 0 0 0 [],
   .registerWrite 0 6 0 [0], .rcRead 0 0xFFFFD 4,
   .msixUnmask ⟨16, true⟩, .pcieCorrectableError ⟨16, 0⟩, .pcieCorrectableError ⟨0, 32⟩, .seqLoad ⟨64, 1⟩, .captureRead 0 7 4093 4]
theorem test_illFormed_refused : illFormed.all (fun c => !c.wf) = true := by decide +kernel
theorem test_wellFormed : (Instr.wf (.sqTail 15 63 4 0) && Instr.wf (.captureRead 0 4 4092 4) && Instr.wf (.read 241) && Instr.wf .midnight) = true := by
  decide +kernel

/-! ## Results that the spec states -/

/-- The state that one command leaves. -/
def after (c : Instr) (s : State) : State :=
  match Machine.exec c s with
  | .next t => t
  | _ => s

/-- The trace of IN005 to OUT300 (R17 and its example). -/
theorem test_wires : nextWire 0 4 = 2 ∧ nextWire 1 2 = 1 ∧ nextWire 2 1 = 64 ∧ nextWire 8 65 = 66 ∧ nextWire 9 66 = 68 ∧ nextWire 10 68 = 72 ∧
    nextWire 11 73 = 82 ∧ nextWire 12 82 = 100 ∧ nextWire 13 101 = 75 ∧ nextWire 14 75 = 150 ∧ nextWire 15 150 = 300 := by decide +kernel
theorem test_tiles : tileOf 0x3C05 = 136 ∧ tileOf 0x0620 = 25 ∧ tileOf 0x1624 = 89 ∧ tileOf 0x1E4B = 122 ∧ tileOf 0x3F2C = 161 ∧
    tileOf 0x7F2C = 329 := by decide +kernel
/-- The addresses of OUT300's output VOA (example of 17). -/
theorem test_tap : outVoa 1 300 = 0x7F2C ∧ hpAa 0x7F2C = 0x1FCB0 ∧ mkMpa 0x7F2C 0 = 0xFE58 ∧ tapMpa 0x658 = 0xFE58 := by decide +kernel
/-- The roll's word and its SPLIT cell's column (example of 02). -/
theorem test_rollWord : batchEnt 0x00000FFCBA580504 =
    { typ := 4, pinNew := false, inp := 5, out := 300, out2 := 302, oatt := 511, rsv := 0 } ∧ splitCol 300 302 = 15 := by decide +kernel
/-- The SET_MODE entry of the example of 05. -/
theorem test_loopWord : loopEnt 0x0000000000FCB021 =
    { op := 1, mode := 2, flag := false, aa := 0xFCB0, twin := false, code := 0, rsv := 0 } := by decide +kernel
/-- The roll's completion (example of 09): DW2, DW5 and DW6. -/
theorem test_completion : ((({ dw2 := 0x103FF, dw5 := 0x03FF0000, esn := 0x21C5A } : Comp).dws 6 7 false true).map (·.toNat)).take 7 =
    [0x21C5A, 0, 0x103FF, 0, 0, 0x03FF0000, 0x00070006] := by decide +kernel
/-- The heater code of a switched cell (example of 07): 9.04 mW through 800 Ω. -/
theorem test_dac : dacCode 151666033 8000 5180 true = (35441, false) ∧ dacCode 151666033 8000 5000 true = (36717, false) := by decide +kernel
/-- The corrected result (example of 06), −6.0452 dBm, up to the rounding of its coefficients to their formats. -/
theorem test_corrected : (codeValue [0, 40, 0, 31130, 42090680, 0, 33178, 0] 1 30000 + 396180).natAbs ≤ 8 := by decide +kernel
/-- The share left 69.6 µs after a handover of τ = 20 µs (example of 05): e^(−3.48) = 0.0308066. -/
theorem test_decay : (expNeg 69600 20000 - 516863).natAbs ≤ 4 := by decide +kernel

/-! ## Single steps -/

/-- GLB_ID as PF0 and VF1 read it (example of 17). -/
theorem test_captureRead : (after (.captureRead 0 0 0 4) (withVfs 2 ready)).d.io.out.head? = some (.readData 0 0x5A121D7E) ∧
    (after (.captureRead 1 0 0 4) (withVfs 2 ready)).d.io.out.head? = some (.readData 1 0x5A131D7E) := by decide +kernel
/-- FLT_SRC_CFG[21] after reset (R339). -/
theorem test_srcCfg : (after (.captureRead 0 0 0x1C1AC 4) ready).d.io.out.head? = some (.readData 0 0x0002A1C9) := by decide +kernel
/-- SQ_TAIL[7] takes 6. -/
theorem test_sqTail : ((after (.sqTail 1 7 4 6) (withQ 7 1 (withVfs 2 ready))).d.queue 7).tail = 6 := by decide +kernel
/-- INJ_EN keeps its value once FLT_CTL.LOCK is set (example of 00). -/
theorem test_registerWrite_locked : (after (.captureRead 0 0 0x1C000 4) (after (.registerWrite 0 0 0x1C000 [2, 0, 0, 0])
    (after (.fltCtlLock 0 8) ready))).d.io.out.head? = some (.readData 0 8) := by decide +kernel
/-- A pulse of BLANK_N of 10 ns is a blank; one below 5 ns is not (R330). -/
theorem test_blankN : (after (.blankNAssert 10) ready).d.blankOn = true ∧ (after (.blankNAssert 4) ready).d.blankOn = false := by decide +kernel
/-- At Midnight the staged connection is in the map, with the next ESN. -/
theorem test_midnight : (after .midnight due).net.conns.map (fun c => (c.inp, c.out)) = [(5, 300)] ∧ (after .midnight due).d.cmt.esn = 1 := by
  decide +kernel
/-- A write of PMC_LIVE_LO on the overflow edge: the counter reads the value written, OVF_LOST and FS74 (example of 16). -/
theorem test_pmcLiveWrite : ((after (.pmcLiveWrite 0 false 0 true) ready).d.src 74).latched = true ∧
    (after (.captureRead 0 0 0x20004 4) (after (.pmcLiveWrite 0 false 0 true) ready)).d.io.out.head? = some (.readData 0 2) := by decide +kernel
/-- A shape load copies signed samples into the bank that was inactive (R202). -/
theorem test_shapeLoad : (after .shapeLoadComplete { (on (fun d => { d with drv := { d.drv with shapeLoad := true, shapeSeg := 0 } }) ready) with
    mem := { ready.mem with pattern := [(0, 5), (511, 0xFF)] } }).d.drv.bankB = some (5 :: List.replicate 510 0 ++ [-1]) := by decide +kernel
/-- SEEK to the INDEX after the last record is not found (R381). -/
theorem test_seek : (after (.seek 0 70) island).isl.lastResult = 4 := by decide +kernel
/-- SQ_TAIL equal to the ring's size is a bad doorbell, and the tail stays (R257). -/
theorem test_sqTail_bad : ((after (.sqTail 1 7 4 16) (withQ 7 1 (withVfs 2 ready))).d.queue 7).tail = 0 := by decide +kernel

/-- A restored path's levels are those expected. -/
theorem levelsBack : ∀ m ∈ [backMeas false, backMeas true], (m.level -
    backState.d.expected backState.net conn5.inp m.out m.plane (inputAt backVer.inputs m.out m.plane)).natAbs ≤ backVer.ver.tol.natAbs := by
  intro m hm
  have h : ∀ p, (backMeas p).level - backState.d.expected backState.net 5 300 p 0 = 0 := fun p => Int.sub_self _
  simp only [List.mem_cons, List.not_mem_nil, or_false] at hm
  rcases hm with rfl | rfl
  · exact (congrArg Int.natAbs (h false)).trans_le (by decide)
  · exact (congrArg Int.natAbs (h true)).trans_le (by decide)
/-- The entries of the ATTEN_SET list are good. -/
theorem attListOk : ∀ w ∈ cAtt.payload, (attEnt w).ok = true := by
  intro w hw
  obtain rfl := List.mem_singleton.mp hw
  decide +kernel
/-- A level some 2^-16 dB off what is expected lies within the tolerance when that is no smaller. -/
theorem levelOff (s : State) (p : Bool) (y : Int) (h : y.natAbs ≤ (s.d.slot 7).ver.tol.natAbs) : Obl.levelOk s 7 conn5.inp (meas s p y) := by
  have e : s.d.expected s.net 5 300 p (inputAt (s.d.slot 7).inputs 300 p) + y -
      s.d.expected s.net 5 300 p (inputAt (s.d.slot 7).inputs 300 p) = y := by omega
  exact (congrArg Int.natAbs e).trans_le h
theorem levelOn (s : State) (p : Bool) (y : Int) (h : Obl.levelOk s 7 conn5.inp (meas s p y)) : y.natAbs ≤ (s.d.slot 7).ver.tol.natAbs := by
  have e : s.d.expected s.net 5 300 p (inputAt (s.d.slot 7).inputs 300 p) + y -
      s.d.expected s.net 5 300 p (inputAt (s.d.slot 7).inputs 300 p) = y := by omega
  exact (congrArg Int.natAbs e).symm.trans_le h
/-- What the seals are whichever variant the device is of. -/
theorem sealedAt (i : Isl) (h : i.unsealF < i.sealF) : i.unsealF < i.seals := Nat.lt_of_lt_of_le h (Nat.le_add_left _ _)
theorem sealsAtMost (i : Isl) : i.seals ≤ i.sealF + 1 := by
  unfold Isl.seals
  cases Config.variantS <;> simp [b2n]
  omega
theorem unsealedAt (i : Isl) (h : i.sealF + 1 ≤ i.unsealF) : i.seals ≤ i.unsealF := (sealsAtMost i).trans h
theorem sealsFew (i : Isl) (h : i.sealF + 1 < 8) : i.seals < 8 := (sealsAtMost i).trans_lt h

/-! ## The hypotheses are met -/

theorem wit_ringDoorbellsAreTaken :
    ((qRun.d.reach 0 = true) ∧ (3 < 64) ∧ ((qRun.d.queue 3).domain = 0) ∧ ((qRun.d.queue 3).state ≠ QState.none) ∧ ((15#32).toNat < 65536) ∧
      ((15#32).toNat < (qRun.d.queue 3).sqSize)) ∧
    ((vfQ.d.reach 2 = true) ∧ (63 < 64) ∧ ((vfQ.d.queue 63).domain = 2) ∧ ((vfQ.d.queue 63).state ≠ QState.none) ∧ ((0#32).toNat < 65536) ∧
      ((0#32).toNat < (vfQ.d.queue 63).sqSize)) ∧
    ((fnRun.d.reach 0 = true) ∧ ((fnRun.d.fn 0).aqEn = true) ∧ ((15#32).toNat < 65536) ∧ ((15#32).toNat < 2 ^ ((fnRun.d.fn 0).aqSqs + 4))) ∧
    ((cqFull.d.reach 0 = true) ∧ (3 < 64) ∧ ((cqFull.d.queue 3).domain = 0) ∧ ((cqFull.d.queue 3).state ≠ QState.none) ∧ ((3#32).toNat < 65536) ∧
      ((3#32).toNat < (cqFull.d.queue 3).cq.size) ∧ (((3#32).toNat + (cqFull.d.queue 3).cq.size - (cqFull.d.queue 3).cq.head) % (cqFull.d.queue
      3).cq.size ≤ ((cqFull.d.queue 3).cq.tail + (cqFull.d.queue 3).cq.size - (cqFull.d.queue 3).cq.head) % (cqFull.d.queue 3).cq.size)) ∧
    ((acqFull.d.reach 0 = true) ∧ ((acqFull.d.fn 0).aqEn = true) ∧ ((3#32).toNat < 65536) ∧ ((3#32).toNat < (acqFull.d.fn 0).acq.size) ∧
      (((3#32).toNat + (acqFull.d.fn 0).acq.size - (acqFull.d.fn 0).acq.head) % (acqFull.d.fn 0).acq.size ≤ ((acqFull.d.fn 0).acq.tail +
      (acqFull.d.fn 0).acq.size - (acqFull.d.fn 0).acq.head) % (acqFull.d.fn 0).acq.size)) ∧
    ((evtFull.d.reach 0 = true) ∧ ((evtFull.d.fn 0).evtEn = true) ∧ ((3#32).toNat < 65536) ∧ ((3#32).toNat < (evtFull.d.fn 0).evt.size) ∧
      (((3#32).toNat + (evtFull.d.fn 0).evt.size - (evtFull.d.fn 0).evt.head) % (evtFull.d.fn 0).evt.size ≤ ((evtFull.d.fn 0).evt.tail +
      (evtFull.d.fn 0).evt.size - (evtFull.d.fn 0).evt.head) % (evtFull.d.fn 0).evt.size)) ∧
    ((telFull.d.reach 0 = true) ∧ ((1#32).toNat < 65536) ∧ ((1#32).toNat < telFull.d.io.tel.ring.size) ∧ (((1#32).toNat +
      telFull.d.io.tel.ring.size - telFull.d.io.tel.ring.head) % telFull.d.io.tel.ring.size ≤ (telFull.d.io.tel.ring.tail +
      telFull.d.io.tel.ring.size - telFull.d.io.tel.ring.head) % telFull.d.io.tel.ring.size)) := by
  and_intros <;> decide +kernel

theorem wit_qctlWritesAreDecoded :
    ((qctlWritesAreDecodedAt1.d.reach 0 = true) ∧ (3 < 64) ∧ ((qctlWritesAreDecodedAt1.d.queue 3).domain = 0) ∧ ((qctlWritesAreDecodedAt1.d.queue
      3).state = QState.stalled)) ∧
    ((qctlWritesAreDecodedAt2.d.reach 0 = true) ∧ (3 < 64) ∧ ((qctlWritesAreDecodedAt2.d.queue 3).domain = 0) ∧ ((qctlWritesAreDecodedAt2.d.queue
      3).state = QState.disabled)) ∧
    ((qRun.d.reach 0 = true) ∧ (3 < 64) ∧ ((qRun.d.queue 3).domain = 0) ∧ ((qRun.d.queue 3).state = QState.enabled)) ∧
    ((qRun.d.reach 0 = true) ∧ (3 < 64) ∧ ((qRun.d.queue 3).domain = 0) ∧ ((qRun.d.queue 3).state ≠ QState.none) ∧ ((qRun.d.fn 0).evtActive =
      true) ∧ ((qRun.d.fn 0).evt.hasRoom = true) ∧ ((Instr.qctlEnable 0 3 4 0 true, 5#32) ∈ [(Instr.qctlEnable 0 3 4 0 true, 5),
      (Instr.qctlDisable 0 3 4 0 true, 4)] ++ if (qRun.d.queue 3).state = QState.stalled then [] else [(Instr.resume 0 3 4 0 false, 2),
      (Instr.resume 0 3 4 0 true, 3), (Instr.flush 0 3 4 0 false, 6), (Instr.flush 0 3 4 0 true, 7)])) ∧
    ((qRun.d.reach 0 = true) ∧ (3 < 64) ∧ ((qRun.d.queue 3).domain = 0) ∧ ((qRun.d.queue 3).state ≠ QState.none) ∧ ((qRun.d.fn 0).evtActive =
      true) ∧ ((qRun.d.fn 0).evt.hasRoom = true) ∧ ((Instr.resume 0 3 4 0 false, 2#32) ∈ [(Instr.qctlEnable 0 3 4 0 true, 5), (Instr.qctlDisable 0
      3 4 0 true, 4)] ++ if (qRun.d.queue 3).state = QState.stalled then [] else [(Instr.resume 0 3 4 0 false, 2), (Instr.resume 0 3 4 0 true, 3),
      (Instr.flush 0 3 4 0 false, 6), (Instr.flush 0 3 4 0 true, 7)])) ∧
    ((qctlWritesAreDecodedAt3.d.reach 0 = true) ∧ (3 < 64) ∧ ((qctlWritesAreDecodedAt3.d.queue 3).domain = 0) ∧ ((qctlWritesAreDecodedAt3.d.queue
      3).state = QState.stalled)) ∧
    ((qctlWritesAreDecodedAt4.d.reach 0 = true) ∧ (3 < 64) ∧ ((qctlWritesAreDecodedAt4.d.queue 3).domain = 0) ∧ ((qctlWritesAreDecodedAt4.d.queue
      3).state = QState.aborting) ∧ ((qctlWritesAreDecodedAt4.d.queue 3).abort = some (abortOf (AbortKind.abort 0))) ∧ ((abortOf (AbortKind.abort
      0)).kind = AbortKind.abort 0)) ∧
    ((qctlWritesAreDecodedAt5.d.reach 0 = true) ∧ (3 < 64) ∧ ((qctlWritesAreDecodedAt5.d.queue 3).domain = 0) ∧ ((qctlWritesAreDecodedAt5.d.queue
      3).state = QState.enablePending)) ∧
    ((qctlWritesAreDecodedAt6.d.reach 0 = true) ∧ (3 < 64) ∧ ((qctlWritesAreDecodedAt6.d.queue 3).domain = 0) ∧ ((qctlWritesAreDecodedAt6.d.queue
      3).state = QState.aborting) ∧ ((qctlWritesAreDecodedAt6.d.queue 3).abort = some (abortOf AbortKind.reset)) ∧ ((abortOf AbortKind.reset).kind
      = AbortKind.reset ∨ ∃ g, (abortOf AbortKind.reset).kind = AbortKind.delete g)) ∧
    ((qctlWritesAreDecodedAt7.d.reach 0 = true) ∧ (3 < 64) ∧ ((qctlWritesAreDecodedAt7.d.queue 3).domain = 0) ∧ ((qctlWritesAreDecodedAt7.d.queue
      3).state = QState.disabled)) := by
  and_intros <;> first
    | decide +kernel
    | exact Or.inl rfl

theorem wit_badDoorbellsAreReported :
    ((qRun.d.reach 0 = true) ∧ (3 < 64) ∧ ((qRun.d.fn 0).evtActive = true) ∧ ((qRun.d.fn 0).evt.hasRoom = true) ∧ (Obl.badDoorbell qRun 0 3 2
      (5#32) (Instr.sqTail 0 3 2 5) 280)) ∧
    ((qRun.d.reach 0 = true) ∧ (3 < 64) ∧ ((qRun.d.fn 0).evtActive = true) ∧ ((qRun.d.fn 0).evt.hasRoom = true) ∧ (Obl.badDoorbell qRun 0 3 4
      (16#32) (Instr.sqTail 0 3 4 16) 280)) ∧
    ((qRun.d.reach 0 = true) ∧ (3 < 64) ∧ ((qRun.d.fn 0).evtActive = true) ∧ ((qRun.d.fn 0).evt.hasRoom = true) ∧ (Obl.badDoorbell qRun 0 3 4
      (1#32) (Instr.cqHead 0 3 4 1) 284)) ∧
    ((qRun.d.reach 0 = true) ∧ (3 < 64) ∧ ((qRun.d.fn 0).evtActive = true) ∧ ((qRun.d.fn 0).evt.hasRoom = true) ∧ (Obl.badDoorbell qRun 0 3 4
      (16#32) (Instr.aqSqTail 0 4 16) 0)) ∧
    ((qRun.d.reach 0 = true) ∧ (3 < 64) ∧ ((qRun.d.fn 0).evtActive = true) ∧ ((qRun.d.fn 0).evt.hasRoom = true) ∧ (Obl.badDoorbell qRun 0 3 4
      (16#32) (Instr.aqCqHead 0 4 16) 4)) ∧
    ((qRun.d.reach 0 = true) ∧ (3 < 64) ∧ ((qRun.d.fn 0).evtActive = true) ∧ ((qRun.d.fn 0).evt.hasRoom = true) ∧ (Obl.badDoorbell qRun 0 3 4
      (16#32) (Instr.evtHead 0 4 16) 8)) ∧
    ((qRun.d.reach 0 = true) ∧ (3 < 64) ∧ ((qRun.d.fn 0).evtActive = true) ∧ ((qRun.d.fn 0).evt.hasRoom = true) ∧ (Obl.badDoorbell qRun 0 3 4
      (1#32) (Instr.irqRearm 0 4 1) 16)) ∧
    ((qRun.d.reach 0 = true) ∧ (3 < 64) ∧ ((qRun.d.fn 0).evtActive = true) ∧ ((qRun.d.fn 0).evt.hasRoom = true) ∧ (Obl.badDoorbell qRun 0 3 4
      (1#32) (Instr.telHead 0 4 1) 12)) := by
  unfold Obl.badDoorbell Obl.badHead
  and_intros <;> decide +kernel

theorem wit_nopsCompleteInOrder :
    (Obl.front fNop 3 10 cNop) ∧
    ((nopBehind.d.ready 3 10 = some cNop2) ∧ ((nopBehind.d.queue 3).cmds = [cAhead, cNop2]) ∧ (cAhead.done = none) ∧ (cAhead.idx ≠ cNop2.idx)) := by
  unfold Obl.front
  and_intros <;> decide +kernel

theorem wit_simpleCommandsComplete :
    (((10, Instr.nop 3) ∈ [(1, Instr.connectBatch 3), (2, Instr.attenSet 3), (3, Instr.fence 3), (4, Instr.queryConn 3), (5, Instr.calRun 3), (6,
      Instr.snapshot 3), (7, Instr.cellDirect 3), (8, Instr.loopMode 3), (9, Instr.seqLoad { q := 3, n := 2 }), (10, Instr.nop 3)]) ∧ (Obl.front
      simpleCommandsCompleteAt1 3 10 (cBad 10)) ∧ (simpleCommandsCompleteAt1.d.seq.loads = []) ∧ (sqeClean (cBad 10).sqe = false) ∧ (sqeStop (cBad
      10).sqe = false)) ∧
    ((Obl.front fNop 3 10 cNop) ∧ (sqeClean cNop.sqe = true)) ∧
    ((Obl.front fFence 3 3 cFence) ∧ (sqeClean cFence.sqe = true) ∧ (sqeField cFence.sqe 8 1 = 0) ∧ (cFence.executed = false)) ∧
    ((Obl.front fQuery 3 4 cQuery) ∧ (sqeClean cQuery.sqe = true) ∧ (sqeAddr cQuery.sqe % 16 = 0) ∧ (1 ≤ sqeField cQuery.sqe 18 2) ∧ (sqeField
      cQuery.sqe 16 2 + sqeField cQuery.sqe 18 2 ≤ 512)) := by
  unfold Obl.front
  and_intros <;> decide +kernel

theorem wit_commandsTakeEffectOrWait :
    ((Obl.front commandsTakeEffectOrWaitAt1 3 1 (cBatch 1)) ∧ (1 = 1 ∧ Instr.connectBatch 3 = Instr.connectBatch 3 ∨ 1 = 7 ∧ Instr.connectBatch 3
      = Instr.cellDirect 3 ∧ (commandsTakeEffectOrWaitAt1.d.queue 3).domain = 0) ∧ (listFieldsOk (cBatch 1).sqe = true)) ∧
    ((Obl.front fAtt 3 2 cAtt) ∧ (listFieldsOk cAtt.sqe = true) ∧ (∀ w ∈ cAtt.payload, (attEnt w).ok = true ∧ ((fAtt.d.queue 3).domain = 0 ∨
      fAtt.d.owner (attEnt w).side (attEnt w).port = (fAtt.d.queue 3).domain))) ∧
    ((Obl.front fLm 3 8 cLm) ∧ (listFieldsOk cLm.sqe = true) ∧ (loopCheck fLm.net fLm.d (fLm.d.queue 3).domain 0 (List.map loopEnt cLm.payload) =
      none)) ∧
    ((Obl.front fSnap 3 6 cSnap) ∧ (snapFieldsOk cSnap.sqe (fSnap.d.queue 3).domain = true)) ∧
    ((Obl.front fCal 3 5 cCal) ∧ ((fCal.d.queue 3).domain = 0) ∧ (calFieldsOk cCal.sqe = true) ∧ (fCal.d.cal.run.isSome = true)) ∧
    ((Obl.front fLoad 3 9 cLoad) ∧ (loadFieldsOk fLoad.d.seq cLoad.sqe (fLoad.d.queue 3).domain = true) ∧ (101 = (fLoad.d.seq.desc (sqeField
      cLoad.sqe 16 1)).base + sqeField cLoad.sqe 20 4) ∧ (101 + cLoad.payload.length ≤ 131072) ∧ (∀ g < 64, fLoad.d.segActive g = false) ∧
      (fLoad.d.seq.rfEn = false) ∧ (fLoad.d.seq.loads = []) ∧ (0 < 2)) ∧
    ((Obl.front fLoad 3 9 cLoad) ∧ (loadFieldsOk fLoad.d.seq cLoad.sqe (fLoad.d.queue 3).domain = true) ∧ (101 = (fLoad.d.seq.desc (sqeField
      cLoad.sqe 16 1)).base + sqeField cLoad.sqe 20 4) ∧ (101 + cLoad.payload.length ≤ 131072) ∧ (∀ g < 64, fLoad.d.segActive g = false) ∧
      (fLoad.d.seq.rfEn = false) ∧ (fLoad.d.seq.loads = []) ∧ (0 < 1)) := by
  unfold Obl.front
  and_intros <;> first
    | exact fun w hw => And.intro (attListOk w hw) (Or.inl (by decide +kernel))
    | decide +kernel

theorem wit_waitingCommandsAreApplied :
    ((attWait.d.clocked = true) ∧ (attWait.d.tb2 % 10000 = 0) ∧ (attWait.d.jobs.att = [attJob]) ∧ (attJob.applied = false) ∧ (attJob.at2 <
      attWait.d.tb2) ∧ (attJob.wait = false) ∧ (511 < 512) ∧ (attJob.ents = [(512 + 511, 30)]) ∧ (attWait.net.ofOut 511 = none)) ∧
    ((waitingCommandsAreAppliedAt1.d.clocked = true) ∧ (waitingCommandsAreAppliedAt1.d.tb2 % 10000 = 0) ∧ (waitingCommandsAreAppliedAt1.d.jobs.lm
      = [lmJob lmWord]) ∧ ((lmJob lmWord).at2 + 1000 ≤ waitingCommandsAreAppliedAt1.d.tb2) ∧ ((lmJob lmWord).ents = [lmWord])) := by
  and_intros <;> decide +kernel

theorem wit_fetchesEndAsTheyMust :
    ((Obl.fetchIn qNew 3) ∧ ((qNew.d.queue 3).state = QState.enabled) ∧ ((qNew.d.queue 3).flushTo = none) ∧ ((qNew.d.queue 3).cmds = []) ∧
      ((qNew.d.queue 3).abort = none) ∧ (sqeOp (entry [(0, 10), (2, 77)]) = 10 ∧ sqeClean (entry [(0, 10), (2, 77)]) = true ∨ ioOpcode (sqeOp
      (entry [(0, 10), (2, 77)])) = false)) ∧
    ((Obl.fetchIn qNew 3) ∧ ((qNew.d.queue 3).state = QState.enabled) ∧ ((qNew.d.queue 3).cmds = []) ∧ ((qNew.d.queue 3).abort = none) ∧
      (HostRead.poisoned ≠ HostRead.ok) ∧ (bitOf (qNew.d.fn (qNew.d.queue 3).domain).cfg.devCtl2 4 = false) ∧ (Instr.commandFetch false 3 0 []
      HostRead.poisoned HostRead.ok ∈ [Instr.commandFetch false 3 0 [] HostRead.poisoned HostRead.ok, Instr.completionTimeout (Reader.io 3) none
      [], Instr.hostReadFailure (Reader.io 3) none [] HostRead.poisoned])) ∧
    ((Obl.fetchIn qFlush 3) ∧ ((qFlush.d.queue 3).state = QState.stalled) ∧ ((qFlush.d.queue 3).flushTo = some 0) ∧ ((qFlush.d.queue 3).abort =
      none)) ∧
    ((Obl.fetchIn qNew 3) ∧ ((qNew.d.queue 3).state = QState.enabled) ∧ ((qNew.d.queue 3).cmds = []) ∧ ((qNew.d.queue 3).abort = none) ∧
      (HostRead.poisoned ≠ HostRead.ok) ∧ (bitOf (qNew.d.fn (qNew.d.queue 3).domain).cfg.devCtl2 4 = false) ∧ (sqeOp eBatch = 1) ∧ (listFieldsOk
      eBatch = true) ∧ ([1].length < sqeCount eBatch) ∧ (Instr.commandFetch false 3 eBatch [1] HostRead.ok HostRead.poisoned ∈ [Instr.commandFetch
      false 3 eBatch [1] HostRead.ok HostRead.poisoned, Instr.completionTimeout (Reader.io 3) (some eBatch) [1], Instr.hostReadFailure (Reader.io
      3) (some eBatch) [1] HostRead.poisoned])) ∧
    ((toFetch.pending = []) ∧ (toFetch.d.clocked = true) ∧ (toFetch.d.mtx.bursts = []) ∧ (toFetch.d.fetchable = [3])) := by
  unfold Obl.fetchIn
  and_intros <;> decide +kernel

theorem wit_queuesAndPortsAreGiven :
    ((Obl.adminFront aCreate 0 64 cCreate) ∧ (sqeField cCreate.sqe 24 1 < 64) ∧ ((aCreate.d.queue (sqeField cCreate.sqe 24 1)).domain = 0) ∧
      (sqeClean cCreate.sqe = true ∧ sqeField cCreate.sqe 8 8 % 4096 = 0 ∧ sqeField cCreate.sqe 16 8 % 4096 = 0 ∧ sqeField cCreate.sqe 25 1 ≤ 12 ∧
      sqeField cCreate.sqe 26 1 ≤ 12 ∧ 1 ≤ sqeField cCreate.sqe 27 1 ∧ sqeField cCreate.sqe 27 1 ≤ 15 ∧ (aCreate.d.queue (sqeField cCreate.sqe 24
      1)).state = QState.none)) ∧
    ((Obl.adminFront aCreateBad 0 64 cCreateBad) ∧ (sqeField cCreateBad.sqe 24 1 < 64) ∧ ((aCreateBad.d.queue (sqeField cCreateBad.sqe 24
      1)).domain = 0) ∧ (sqeField cCreateBad.sqe 8 8 % 4096 ≠ 0 ∨ sqeField cCreateBad.sqe 16 8 % 4096 ≠ 0 ∨ 12 < sqeField cCreateBad.sqe 25 1 ∨ 12
      < sqeField cCreateBad.sqe 26 1 ∨ sqeField cCreateBad.sqe 27 1 = 0 ∨ sqeClean cCreateBad.sqe = false)) ∧
    ((Obl.adminFront aPorts 0 67 cPorts) ∧ (sqeClean cPorts.sqe = true) ∧ (sqeField cPorts.sqe 14 1 ≤ aPorts.d.io.numVfs) ∧ (sqeField cPorts.sqe 8
      1 = 0) ∧ (sqeField cPorts.sqe 9 1 ≤ 1) ∧ (1 ≤ sqeField cPorts.sqe 12 2) ∧ (sqeField cPorts.sqe 10 2 + sqeField cPorts.sqe 12 2 ≤ 512)) ∧
    ((Obl.adminFront aMask 0 67 cMask) ∧ (sqeClean cMask.sqe = true) ∧ (sqeField cMask.sqe 14 1 ≤ aMask.d.io.numVfs) ∧ (sqeField cMask.sqe 8 1 =
      1)) ∧
    ((Obl.adminFront aQs 0 67 cQs) ∧ (sqeClean cQs.sqe = true) ∧ (sqeField cQs.sqe 14 1 ≤ aQs.d.io.numVfs) ∧ (sqeField cQs.sqe 8 1 = 2) ∧ (1 ≤
      sqeField cQs.sqe 12 2) ∧ (sqeField cQs.sqe 10 2 + sqeField cQs.sqe 12 2 ≤ 64) ∧ (∀ (k : ℕ), sqeField cQs.sqe 10 2 ≤ k → k < sqeField cQs.sqe
      10 2 + sqeField cQs.sqe 12 2 → (aQs.d.queue k).state = QState.none)) := by
  unfold Obl.adminFront
  and_intros <;> decide +kernel

theorem wit_abortsBeginCutAndEnd :
    ((Instr.queueDelete 0 = Instr.queueDelete 0 ∧ Obl.adminFront aDelete 0 65 cDelete ∧ 3 = sqeField cDelete.sqe 8 1 ∨ Instr.queueDelete 0 =
      Instr.abort 0 ∧ Obl.adminFront aDelete 0 66 cDelete ∧ sqeField cDelete.sqe 8 1 = 0 ∧ 3 = sqeField cDelete.sqe 9 1 ∧ sqeField cDelete.sqe 10
      1 = 0 ∧ (0 = 0 ∨ 0 ≤ aDelete.d.io.numVfs)) ∧ (sqeClean cDelete.sqe = true) ∧ (3 < 64) ∧ ((aDelete.d.queue 3).domain = 0) ∧ ((aDelete.d.queue
      3).state ∈ [QState.disabled, QState.enabled, QState.stalled])) ∧
    ((Instr.abort 0 = Instr.queueDelete 0 ∧ Obl.adminFront aAbort 0 65 cAbort ∧ 3 = sqeField cAbort.sqe 8 1 ∨ Instr.abort 0 = Instr.abort 0 ∧
      Obl.adminFront aAbort 0 66 cAbort ∧ sqeField cAbort.sqe 8 1 = 0 ∧ 3 = sqeField cAbort.sqe 9 1 ∧ sqeField cAbort.sqe 10 1 = 0 ∧ (0 = 0 ∨ 0 ≤
      aAbort.d.io.numVfs)) ∧ (sqeClean cAbort.sqe = true) ∧ (3 < 64) ∧ ((aAbort.d.queue 3).domain = 0) ∧ ((aAbort.d.queue 3).state ∈
      [QState.disabled, QState.enabled, QState.stalled])) ∧
    ((Obl.adminFront aDeleteNone 0 65 cDelete) ∧ (sqeClean cDelete.sqe = true) ∧ (sqeField cDelete.sqe 8 1 < 64) ∧ ((aDeleteNone.d.queue (sqeField
      cDelete.sqe 8 1)).domain = 0) ∧ ((aDeleteNone.d.queue (sqeField cDelete.sqe 8 1)).state = QState.none)) ∧
    ((3 < 64) ∧ ((qCut.d.queue 3).state = QState.aborting) ∧ ((qCut.d.queue 3).abort = some cutting) ∧ (cutting.cut = none) ∧ (cutting.start + 500
      ≤ qCut.d.tb2) ∧ (∀ r < 64, r ≠ 3 → (qCut.d.queue r).abort = none) ∧ (qCut.d.jobs.att = []) ∧ (qCut.d.cal.run = none) ∧ (qCut.d.cal.waiting =
      []) ∧ ((List.map (fun x => x.idx) (qCut.d.queue 3).cmds).Nodup)) ∧
    (((qRange.d.queue 3).abort = some cutDone) ∧ (cutDone.cut = some 2) ∧ (cutDone.ranged = false) ∧ ((qRange.d.queue 3).cmds = []) ∧
      (cutDone.kind = AbortKind.abort 0) ∧ ((cutDone.tail + (qRange.d.queue 3).sqSize - 2) % (qRange.d.queue 3).sqSize ≠ 0)) ∧
    (((qEnding.d.fn 0).cmds = [cAbortRun]) ∧ ((qEnding.d.fn 0).orphans = []) ∧ (cAbortRun.executed = true) ∧ ((qEnding.d.fn 0).waits = [3]) ∧
      ((qEnding.d.queue 3).abort = some cutRanged) ∧ (cutRanged.ranged = true) ∧ ((qEnding.d.fn 0).aqActive = true) ∧ ((qEnding.d.fn 0).flrAt =
      none) ∧ (sqeOp cAbortRun.sqe = 66 ∧ cutRanged.kind = AbortKind.abort 0 ∨ sqeOp cAbortRun.sqe = 65 ∧ cutRanged.kind = AbortKind.delete 0)) := by
  unfold Obl.adminFront
  and_intros <;> decide +kernel

theorem wit_resetsAndFunctionsComeAndGo :
    ((vfRun.d.reach 2 = true) ∧ (2 ≠ 0) ∧ (2 < 16)) ∧
    (((vfResets.d.fn 2).flrAt.isSome = true) ∧ (2 ≤ vfResets.d.io.numVfs) ∧ (2 ≠ 0) ∧ (∀ q < 64, (vfResets.d.queue q).domain = 2 →
      (vfResets.d.queue q).state = QState.none)) ∧
    ((Instr.perstN = Instr.perstN ∧ vfRun.d.io.perst = false ∨ Instr.perstN = Instr.linkDown ∧ vfRun.d.io.linkUp = true)) ∧
    ((Instr.linkDown = Instr.perstN ∧ vfRun.d.io.perst = false ∨ Instr.linkDown = Instr.linkDown ∧ vfRun.d.io.linkUp = true)) ∧
    (inPerst.d.io.perst = true) ∧
    ((linkOff.d.io.linkUp = false) ∧ (linkOff.d.io.perst = false) ∧ (1 ≤ 6) ∧ (6 ≤ 6) ∧ (8 ∈ [1, 2, 4, 8]) ∧ (linkOff.d.clocked = true) ∧
      (¬(linkOff.d.pwr.phase = Phase.dawn ∧ linkOff.d.pwr.step = 0))) ∧
    ((vfRun.d.reach 0 = true) ∧ (1 < vfRun.d.io.numVfs) ∧ (vfRun.d.io.numVfs ≤ 15)) ∧
    ((vfRun.d.reach 0 = true) ∧ (vfRun.d.io.numVfs < 15) ∧ (15 ≤ 15)) ∧
    ((tearing.d.io.teardown.isSome = true) ∧ (∀ q < 64, tearing.d.io.numVfs < (tearing.d.queue q).domain → (tearing.d.queue q).state =
      QState.none) ∧ (Tab.wf 0 tearing.d.io.owner = true) ∧ (Tab.wf { } tearing.d.io.queues = true)) := by
  and_intros <;> decide +kernel

theorem wit_ringsStartAndStop :
    ((adminOff.d.reach 0 = true) ∧ (2 < 16) ∧ (0 = 0 ∨ 0 = 2) ∧ (bitOf (448#32).toNat 8 = true) ∧ ((adminOff.d.fn 2).aqEn = false) ∧ (fieldOf
      (448#32).toNat 0 4 ≤ 12) ∧ (fieldOf (448#32).toNat 4 4 ≤ 12)) ∧
    ((adminBusy.d.reach 0 = true) ∧ (2 < 16) ∧ (0 = 0 ∨ 0 = 2) ∧ (bitOf (0#32).toNat 8 = false) ∧ ((adminBusy.d.fn 2).aqEn = true)) ∧
    (((adminWaits.d.fn 2).aqEn = true) ∧ ((adminWaits.d.fn 2).aqActive = false) ∧ ((adminWaits.d.fn 2).orphans = [])) ∧
    ((adminOff.d.reach 2 = true) ∧ (2 < 16) ∧ (2 = 0 ∨ 2 = 2) ∧ (bitOf (327948#32).toNat 8 = true) ∧ ((adminOff.d.fn 2).evtEn = false) ∧ (fieldOf
      (327948#32).toNat 0 4 ≤ 12)) ∧
    ((vfRun.d.reach 2 = true) ∧ (2 < 16) ∧ (2 = 0 ∨ 2 = 2) ∧ (bitOf (0#32).toNat 8 = false) ∧ ((vfRun.d.fn 2).evtEn = true)) ∧
    ((ready.d.reach 0 = true) ∧ (bitOf (748#32).toNat 9 = true) ∧ (ready.d.io.tel.en = false) ∧ (fieldOf (748#32).toNat 0 4 ≤ 12)) := by
  and_intros <;> decide +kernel

theorem wit_causesSendMessages :
    ((causesSendMessagesAt1.d.reach 0 = true) ∧ (causesSendMessagesAt1.d.atnSum 0 ≠ 0) ∧ ((causesSendMessagesAt1.d.fn 0).msixMask = false) ∧
      ((causesSendMessagesAt1.d.fn 0).cfg.fnMask = false)) ∧
    ((causesSendMessagesAt2.d.reach 0 = true) ∧ (causesSendMessagesAt2.d.atnSum 0 ≠ 0) ∧ ((causesSendMessagesAt2.d.fn 0).msixMask = true ∨
      (causesSendMessagesAt2.d.fn 0).cfg.fnMask = true)) ∧
    (((msixWaits.d.fn 0).msixPend = true) ∧ ((msixWaits.d.fn 0).flrAt = none) ∧ ((if false = true then (msixWaits.d.fn 0).msixMask else
      (msixWaits.d.fn 0).cfg.fnMask) = false)) ∧
    ((if false = true then (msixBoth.d.fn 0).msixMask else (msixBoth.d.fn 0).cfg.fnMask) = true) ∧
    ((if true = true then (msixBoth.d.fn 0).msixMask else (msixBoth.d.fn 0).cfg.fnMask) = true) ∧
    (((aged.d.queue 3).cq.ages = [(579990000, 10)]) ∧ (10 ≠ 0) ∧ (579990000 + 10 * 1000 ≤ aged.d.tb2)) ∧
    (((evtAged.d.fn 0).evt.ages = [(579990000, 7)]) ∧ ((evtAged.d.fn 0).evtAgg ≠ 0) ∧ (579990000 + (evtAged.d.fn 0).evtAgg * 1000 ≤
      evtAged.d.tb2)) ∧
    ((causesSendMessagesAt3.d.reach 0 = true) ∧ (3 < 64) ∧ (bitOf (200908#32).toNat 16 = true) ∧ ((causesSendMessagesAt3.d.queue 3).state =
      QState.none)) := by
  and_intros <;> decide +kernel

theorem wit_recordsAreTaken :
    ((recordsAreTakenAt1.d.io.tel.en = true) ∧ (recordsAreTakenAt1.d.tb2 % (recordsAreTakenAt1.d.io.tel.period * 1000000) = 0) ∧
      (recordsAreTakenAt1.d.clocked = true) ∧ (recordsAreTakenAt1.d.pwr.done = true) ∧ (recordsAreTakenAt1.d.jobs.recs = []) ∧
      (recordsAreTakenAt1.d.pmc.dumping = false) ∧ (bitOf recordsAreTakenAt1.d.io.tel.content 1 = true)) ∧
    ((recordsAreTakenAt2.d.io.tel.en = true) ∧ (recordsAreTakenAt2.d.tb2 % (recordsAreTakenAt2.d.io.tel.period * 1000000) = 0) ∧
      (recordsAreTakenAt2.d.clocked = true) ∧ (recordsAreTakenAt2.d.pwr.done = true) ∧ (recordsAreTakenAt2.d.jobs.recs = []) ∧
      (recordsAreTakenAt2.d.io.tel.content = 4) ∧ (recordsAreTakenAt2.d.io.tel.ring.hasRoom = true) ∧ ((recordsAreTakenAt2.d.fn 0).flrAt = none) ∧
      (recordsAreTakenAt2.d.io.linkUp = true) ∧ (recordsAreTakenAt2.d.io.tel.bulk = []) ∧ (recordsAreTakenAt2.d.io.tel.bulkNext + 2752 ≤ 2 ^
      recordsAreTakenAt2.d.io.tel.bs)) ∧
    ((snapDue.d.clocked = true) ∧ (snapDue.d.tb2 % 10000 = 0) ∧ (snapDue.d.jobs.snap = [snapJ]) ∧ (snapDue.d.jobs.recs = []) ∧ (snapJ.at2 <
      snapDue.d.tb2) ∧ (snapJ.trig = 0 ∨ snapJ.trig = 2 ∧ snapJ.time ≤ snapDue.d.tb0) ∧ (snapJ.addr ≠ 0) ∧ (snapDue.d.pmc.dumping = false)) ∧
    ((dumpDue.d.pmc.dumping = true) ∧ (dumpDue.d.pmc.snapReq = false) ∧ (dumpDue.d.jobs.recs = [dumpRec]) ∧ (dumpRec.counters = true) ∧
      (dumpRec.words = some []) ∧ (dumpRec.cmd = some (3, cDumping.idx, 28672, 0)) ∧ (28672 ≠ 0) ∧ ((dumpDue.d.queue 3).cmds = [cDumping]) ∧
      ((dumpDue.d.queue 3).abort = none)) := by
  and_intros <;> decide +kernel

theorem wit_firmwareAndItsRestarts :
    ((Obl.adminFront aStage 0 68 cStage) ∧ (sqeClean cStage.sqe = true) ∧ (sqeAddr cStage.sqe % 8 = 0) ∧ (sqeField cStage.sqe 20 1 = 0)) ∧
    ((Obl.adminFront aActivate 0 68 cActivate) ∧ (sqeClean cActivate.sqe = true) ∧ (sqeAddr cActivate.sqe % 8 = 0) ∧ (sqeField cActivate.sqe 20 1
      = 1) ∧ (aActivate.d.sec.staged = false)) ∧
    ((Obl.adminFront aActivate2 0 68 cActivate) ∧ (sqeClean cActivate.sqe = true) ∧ (sqeAddr cActivate.sqe % 8 = 0) ∧ (sqeField cActivate.sqe 20 1
      = 1) ∧ (aActivate2.d.sec.staged = true) ∧ (fwImage = aActivate2.d.sec.image !aActivate2.d.sec.preferred) ∧ ((bundleComp fwImage 1).isSome =
      true) ∧ (bundleComp fwImage 2 = none) ∧ (bundleComp fwImage 3 = none) ∧ (aActivate2.d.cal.run = none)) ∧
    ((firmwareAndItsRestartsAt1.d.pwr.supUp = true) ∧ (firmwareAndItsRestartsAt1.d.sec.restart = none) ∧ (firmwareAndItsRestartsAt1.d.clocked =
      true) ∧ (firmwareAndItsRestartsAt1.d.cal.run = none) ∧ (firmwareAndItsRestartsAt1.d.sec.act = none)) ∧
    ((firmwareAndItsRestartsAt2.d.sec.restart.isSome = true) ∧ (firmwareAndItsRestartsAt2.d.clocked = true) ∧
      (firmwareAndItsRestartsAt2.d.sec.blocked = []) ∧ (firmwareAndItsRestartsAt2.d.sec.act = some restarts) ∧ (restarts.restarting = true) ∧
      ((firmwareAndItsRestartsAt2.d.fn 0).cmds = [cAct]) ∧ (cAct.idx = restarts.idx) ∧ ((firmwareAndItsRestartsAt2.d.fn 0).orphans = []) ∧
      ((firmwareAndItsRestartsAt2.d.fn 0).aqActive = true) ∧ ((firmwareAndItsRestartsAt2.d.fn 0).flrAt = none)) ∧
    ((firmwareAndItsRestartsAt3.d.sec.restart.isSome = true) ∧ (firmwareAndItsRestartsAt3.d.clocked = true) ∧
      (firmwareAndItsRestartsAt3.d.sec.blocked = [(0, cAct.idx)]) ∧ (firmwareAndItsRestartsAt3.d.sec.act = none) ∧
      ((firmwareAndItsRestartsAt3.d.fn 0).cmds = [cAct]) ∧ ((firmwareAndItsRestartsAt3.d.fn 0).orphans = []) ∧ ((firmwareAndItsRestartsAt3.d.fn
      0).aqActive = true) ∧ ((firmwareAndItsRestartsAt3.d.fn 0).flrAt = none)) := by
  unfold Obl.adminFront
  and_intros <;> decide +kernel

theorem wit_routeJobsStartAndEnd :
    ((Obl.batchWaits routeJobsStartAndEndAt1 3 cOne wOne) ∧ (Obl.oneConnect routeJobsStartAndEndAt1 3 wOne)) ∧
    ((Obl.batchWaits routeJobsStartAndEndAt2 3 cOne wOne) ∧ ((routeJobsStartAndEndAt2.d.queue 3).abort = none) ∧ (sqeStop cOne.sqe = false) ∧
      ((batchEnt wOne).ok = true) ∧ ((routeJobsStartAndEndAt2.d.queue 3).domain ≠ 0) ∧ (routeJobsStartAndEndAt2.d.owner 0 (batchEnt wOne).inp ≠
      (routeJobsStartAndEndAt2.d.queue 3).domain)) ∧
    ((7 < 16) ∧ ((routeJobsStartAndEndAt3.d.slot 7).state = SlotSt.held) ∧ ((routeJobsStartAndEndAt3.d.slot 7).heldBy = some (4, 1)) ∧
      ((routeJobsStartAndEndAt3.d.queue (4, 1).1).cmd (4, 1).2 = none) ∧ (∀ j < 16, j ≠ 7 → (routeJobsStartAndEndAt3.d.slot j).state =
      SlotSt.free) ∧ ((routeJobsStartAndEndAt3.d.slot 7).direct = false) ∧ ((routeJobsStartAndEndAt3.d.slot 7).entries = [wOne]) ∧ (Obl.oneConnect
      routeJobsStartAndEndAt3 (routeJobsStartAndEndAt3.d.slot 7).queue wOne)) ∧
    ((Obl.slotFront routeJobsStartAndEndAt4 7 cOne) ∧ ((routeJobsStartAndEndAt4.d.slot 7).state = SlotSt.routing) ∧
      ((routeJobsStartAndEndAt4.d.slot 7).bad = none) ∧ (∀ j < 16, j ≠ 7 → (routeJobsStartAndEndAt4.d.slot j).state = SlotSt.free)) ∧
    ((Obl.slotFront twoSlots 7 cOne) ∧ ((twoSlots.d.slot 7).state = SlotSt.routing) ∧ ((twoSlots.d.slot 7).bad = none) ∧ (8 < 16) ∧ (8 ≠ 7) ∧
      ((twoSlots.d.slot 8).state ∈ [SlotSt.staging, SlotSt.staged, SlotSt.verifying, SlotSt.settling, SlotSt.rolling, SlotSt.rollback]) ∧
      ((twoSlots.d.slot 8).rbOnFail = true) ∧ (∃ ca ∈ (twoSlots.d.slot 8).delta.foot, ca ∈ (twoSlots.d.slot 7).delta.foot)) ∧
    ((Obl.slotFront routeJobsStartAndEndAt5 7 cOne) ∧ ((routeJobsStartAndEndAt5.d.slot 7).state = SlotSt.routing) ∧
      ((routeJobsStartAndEndAt5.d.slot 7).bad = some badComp) ∧ (∀ j < 16, j ≠ 7 → (routeJobsStartAndEndAt5.d.slot j).state = SlotSt.free)) := by
  unfold Obl.batchWaits Obl.oneConnect Obl.slotFront
  and_intros <;> decide +kernel

theorem wit_stagedBatchesWaitForMidnight :
    ((Obl.slotFront stagedBatchesWaitForMidnightAt1 7 cOne) ∧ ((stagedBatchesWaitForMidnightAt1.d.slot 7).state = SlotSt.staging) ∧
      ((stagedBatchesWaitForMidnightAt1.d.slot 7).commitTime = 0 ∨ (stagedBatchesWaitForMidnightAt1.d.slot 7).lateOk = true ∨ max
      (stagedBatchesWaitForMidnightAt1.d.tb0 + 1000) (stagedBatchesWaitForMidnightAt1.d.queue (stagedBatchesWaitForMidnightAt1.d.slot
      7).queue).prevMidnight ≤ (stagedBatchesWaitForMidnightAt1.d.slot 7).commitTime)) ∧
    ((Obl.slotFront stagedBatchesWaitForMidnightAt2 7 cOne) ∧ ((stagedBatchesWaitForMidnightAt2.d.slot 7).state = SlotSt.staging) ∧
      ((stagedBatchesWaitForMidnightAt2.d.slot 7).lateOk = false) ∧ ((stagedBatchesWaitForMidnightAt2.d.slot 7).commitTime ≠ 0) ∧
      ((stagedBatchesWaitForMidnightAt2.d.slot 7).commitTime < max (stagedBatchesWaitForMidnightAt2.d.tb0 + 1000)
      (stagedBatchesWaitForMidnightAt2.d.queue (stagedBatchesWaitForMidnightAt2.d.slot 7).queue).prevMidnight)) ∧
    ((7 < 16) ∧ ((reserving.d.slot 7).state = SlotSt.staged) ∧ (reserving.d.slotDone 7 = false) ∧ ((reserving.d.slot 7).masked = false) ∧
      ((reserving.d.slot 7).due ≤ reserving.d.tb0 + 500) ∧ (∀ j < 16, j ≠ 7 → (reserving.d.slot j).state ≠ SlotSt.staged) ∧ ((reserving.d.slot
      7).lanes = []) ∧ (reserving.d.checkedPairs reserving.net 7 = [(5, 300)]) ∧ (∀ l < 128, (reserving.d.fl l).state = FlSt.free ∧
      (reserving.d.fl l).bad = false)) := by
  unfold Obl.slotFront
  and_intros <;> decide +kernel

theorem wit_midnightCommitsOrDoesNot :
    ((Obl.edgeOf due 7) ∧ (due.d.blankOn = false) ∧ (due.d.maySlot 7 = true) ∧ (due.d.behind 7 = false) ∧ (due.d.mustDefer due.net (due.d.slot
      7).delta.foot = false) ∧ ((due.d.slot 7).defer = true → due.d.justFree (due.d.slot 7).delta.foot = false) ∧ ((List.map (fun x => x.1)
      (due.d.slot 7).delta.sw).Nodup) ∧ (∀ p ∈ (due.d.slot 7).delta.sw, planeACa p.1 = p.1)) ∧
    ((Obl.edgeOf dueSettling 7) ∧ (dueSettling.d.blankOn = false) ∧ (dueSettling.d.maySlot 7 = true) ∧ ((∃ ca ∈ (dueSettling.d.slot 7).delta.foot,
      (dueSettling.d.cell ca).settling = true ∨ ca ∈ dueSettling.d.rollFoot dueSettling.net) ∨ dueSettling.d.behind 7 = true)) ∧
    ((Obl.edgeOf dueBlank 7) ∧ (dueBlank.d.blankOn = true) ∧ (Obl.slotFront dueBlank 7 cOne)) := by
  unfold Obl.edgeOf Obl.slotFront
  and_intros <;> decide +kernel

theorem wit_verificationDecides :
    ((7 < 16) ∧ ((verPass.d.slot 7).state = SlotSt.verifying) ∧ ((verPass.d.slot 7).window = false) ∧ ((verPass.d.slot 7).fails = []) ∧
      ((verPass.d.slot 7).rolledBack = false) ∧ ((verPass.d.slot 7).mn + 4000 ≤ verPass.d.tb2) ∧ (verPass.d.slotDone 7 = false) ∧ (Obl.measures
      verPass 7 300 (meas verPass false 0) (meas verPass true 0)) ∧ (verPass.net.ofOut 300 = some conn5) ∧ ((verPass.d.slot 7).lanes = []) ∧
      ((verPass.d.slot 7).wait ≠ []) ∧ ((verPass.d.slot 7).skip = (verPass.d.slot 7).ver.unjudged (verPass.d.slot 7).inputs [300]) ∧ (Obl.judged
      verPass 7 300) ∧ (Obl.levelOk verPass 7 conn5.inp (meas verPass false 0)) ∧ (Obl.levelOk verPass 7 conn5.inp (meas verPass true 0)) ∧
      ((verPass.d.slot 7).locks ≠ [])) ∧
    ((7 < 16) ∧ ((verDim.d.slot 7).state = SlotSt.verifying) ∧ ((verDim.d.slot 7).window = false) ∧ ((verDim.d.slot 7).fails = []) ∧
      ((verDim.d.slot 7).rolledBack = false) ∧ ((verDim.d.slot 7).mn + 4000 ≤ verDim.d.tb2) ∧ (verDim.d.slotDone 7 = false) ∧ (Obl.measures verDim
      7 300 (meas verDim false 0) (meas verDim true 0)) ∧ (verDim.net.ofOut 300 = some conn5) ∧ ((verDim.d.slot 7).lanes = []) ∧ ((verDim.d.slot
      7).wait ≠ []) ∧ ((verDim.d.slot 7).skip = (verDim.d.slot 7).ver.unjudged (verDim.d.slot 7).inputs [300]) ∧ (¬Obl.judged verDim 7 300) ∧
      ((verDim.d.slot 7).locks ≠ [])) ∧
    ((7 < 16) ∧ ((verRoll.d.slot 7).state = SlotSt.verifying) ∧ ((verRoll.d.slot 7).window = false) ∧ ((verRoll.d.slot 7).fails = []) ∧
      ((verRoll.d.slot 7).rolledBack = false) ∧ ((verRoll.d.slot 7).mn + 4000 ≤ verRoll.d.tb2) ∧ (verRoll.d.slotDone 7 = false) ∧ (Obl.measures
      verRoll 7 300 (meas verRoll false (-90000000)) (meas verRoll true 0)) ∧ (verRoll.net.ofOut 300 = some conn5) ∧ ((verRoll.d.slot 7).lanes =
      []) ∧ ((verRoll.d.slot 7).wait ≠ []) ∧ ((verRoll.d.slot 7).skip = (verRoll.d.slot 7).ver.unjudged (verRoll.d.slot 7).inputs [300]) ∧
      (Obl.judged verRoll 7 300) ∧ (¬Obl.levelOk verRoll 7 conn5.inp (meas verRoll false (-90000000))) ∧ (Obl.levelOk verRoll 7 conn5.inp (meas
      verRoll true 0)) ∧ ((verRoll.d.slot 7).rbOnFail = true)) ∧
    ((7 < 16) ∧ ((verKeep.d.slot 7).state = SlotSt.verifying) ∧ ((verKeep.d.slot 7).window = false) ∧ ((verKeep.d.slot 7).fails = []) ∧
      ((verKeep.d.slot 7).rolledBack = false) ∧ ((verKeep.d.slot 7).mn + 4000 ≤ verKeep.d.tb2) ∧ (verKeep.d.slotDone 7 = false) ∧ (Obl.measures
      verKeep 7 300 (meas verKeep false (-90000000)) (meas verKeep true 90000000)) ∧ (verKeep.net.ofOut 300 = some conn5) ∧ ((verKeep.d.slot
      7).lanes = []) ∧ ((verKeep.d.slot 7).wait ≠ []) ∧ ((verKeep.d.slot 7).skip = (verKeep.d.slot 7).ver.unjudged (verKeep.d.slot 7).inputs
      [300]) ∧ (Obl.judged verKeep 7 300) ∧ (¬Obl.levelOk verKeep 7 conn5.inp (meas verKeep false (-90000000))) ∧ (¬Obl.levelOk verKeep 7
      conn5.inp (meas verKeep true 90000000)) ∧ ((verKeep.d.slot 7).rbOnFail = false) ∧ ((verKeep.d.slot 7).acted = []) ∧ ((verKeep.d.slot
      7).locks = [])) := by
  unfold Obl.measures Obl.judged
  and_intros <;> first
    | decide +kernel
    | exact levelOff _ _ _ (by decide +kernel)
    | exact fun h => absurd (levelOn _ _ _ h) (by decide +kernel)

theorem wit_failureAndSettling :
    ((7 < 16) ∧ ((failureAndSettlingAt1.d.slot 7).state = SlotSt.verifying) ∧ ((failureAndSettlingAt1.d.slot 7).rbOnFail = true) ∧
      ((failureAndSettlingAt1.d.slot 7).fails = []) ∧ ((failureAndSettlingAt1.d.slot 7).locks = [2]) ∧ ((failureAndSettlingAt1.d.slot
      7).rolledBack = false) ∧ (failureAndSettlingAt1.d.slotDone 7 = false) ∧ (failureAndSettlingAt1.d.outsThrough failureAndSettlingAt1.net 7 2 =
      [300]) ∧ (300 ∉ (failureAndSettlingAt1.d.slot 7).skip) ∧ ((failureAndSettlingAt1.d.slot 7).window = true) ∧ (∀ j < 16, j ≠ 7 → 2 ∉
      (failureAndSettlingAt1.d.slot j).locks ∧ 2 ∉ (failureAndSettlingAt1.d.slot j).wait) ∧ (isSwitchCa 2 = true) ∧
      (failureAndSettlingAt1.net.swOf 2 = Sw.bar) ∧ ((failureAndSettlingAt1.d.cell 2).settling = true) ∧ ((failureAndSettlingAt1.d.cell 2).locked
      = false) ∧ (lit failureAndSettlingAt1.net failureAndSettlingAt1.d 2 = true) ∧ ((failureAndSettlingAt1.d.cell 2).settleEnd ≤
      failureAndSettlingAt1.d.tb2) ∧ (failureAndSettlingAt1.d.flt.releasing = false)) ∧
    ((7 < 16) ∧ ((failureAndSettlingAt2.d.slot 7).state = SlotSt.verifying) ∧ ((failureAndSettlingAt2.d.slot 7).rbOnFail = true) ∧
      ((failureAndSettlingAt2.d.slot 7).fails = []) ∧ ((failureAndSettlingAt2.d.slot 7).locks = [16386]) ∧ ((failureAndSettlingAt2.d.slot
      7).rolledBack = false) ∧ (failureAndSettlingAt2.d.slotDone 7 = false) ∧ (failureAndSettlingAt2.d.outsThrough failureAndSettlingAt2.net 7
      16386 = [300]) ∧ (300 ∉ (failureAndSettlingAt2.d.slot 7).skip) ∧ ((failureAndSettlingAt2.d.slot 7).window = true) ∧ (∀ j < 16, j ≠ 7 → 16386
      ∉ (failureAndSettlingAt2.d.slot j).locks ∧ 16386 ∉ (failureAndSettlingAt2.d.slot j).wait) ∧ (isSwitchCa 16386 = true) ∧
      (failureAndSettlingAt2.net.swOf 16386 = Sw.bar) ∧ ((failureAndSettlingAt2.d.cell 16386).settling = true) ∧ ((failureAndSettlingAt2.d.cell
      16386).locked = false) ∧ (lit failureAndSettlingAt2.net failureAndSettlingAt2.d 16386 = true) ∧ ((failureAndSettlingAt2.d.cell
      16386).settleEnd ≤ failureAndSettlingAt2.d.tb2) ∧ (failureAndSettlingAt2.d.flt.releasing = false)) ∧
    ((7 < 16) ∧ ((rolling.d.slot 7).state = SlotSt.rollback) ∧ ((rolling.d.slot 7).rolledBack = false) ∧ ((rolling.d.slot 7).knownAt <
      rolling.d.tb2) ∧ (rolling.d.tb2 % 2 = 0) ∧ (rolling.d.clocked = true) ∧ (rolling.d.blankOn = false) ∧ ((rolling.d.slot 7).esn ≤
      rolling.d.cmt.esn) ∧ ((List.map (fun x => x.1) (rolling.d.slot 7).undo.sw).Nodup) ∧ (∀ p ∈ (rolling.d.slot 7).undo.sw, planeACa p.1 = p.1) ∧
      ((List.map (fun x => x.1) (rolling.d.slot 7).undo.tgt).Nodup)) ∧
    (((settled.d.cell 2).settling = true) ∧ ((settled.d.cell 2).locked = true ∨ (settled.d.cell 2).settleEnd ≤ settled.d.tb2) ∧ (∀ j < 16, 2 ∉
      (settled.d.slot j).locks ∧ 2 ∉ (settled.d.slot j).wait) ∧ (settled.d.cmt.restoring = []) ∧ (settled.d.flt.releasing = false)) ∧
    (((failureAndSettlingAt3.d.cell 31237).settling = true) ∧ ((failureAndSettlingAt3.d.cell 31237).locked = true ∨ (failureAndSettlingAt3.d.cell
      31237).settleEnd ≤ failureAndSettlingAt3.d.tb2) ∧ (∀ j < 16, 31237 ∉ (failureAndSettlingAt3.d.slot j).locks ∧ 31237 ∉
      (failureAndSettlingAt3.d.slot j).wait) ∧ (failureAndSettlingAt3.d.cmt.restoring = []) ∧ (failureAndSettlingAt3.d.flt.releasing = false)) ∧
    (((settlingBatch.d.cell 2).settling = true) ∧ ((settlingBatch.d.cell 2).settleEnd ≤ settlingBatch.d.tb2) ∧ (Obl.slotFront settlingBatch 7
      cOne5) ∧ ((settlingBatch.d.slot 7).state = SlotSt.settling) ∧ ((settlingBatch.d.slot 7).wait = [2]) ∧ ((settlingBatch.d.slot 7).rolls = [])
      ∧ ((settlingBatch.d.slot 7).rolledBack = false) ∧ ((settlingBatch.d.slot 7).kept = false) ∧ ((settlingBatch.d.slot 7).blankedKept = false) ∧
      ((settlingBatch.d.slot 7).failFirst = none) ∧ (2 ∉ (settlingBatch.d.slot 7).locks) ∧ (∀ j < 16, j ≠ 7 → 2 ∉ (settlingBatch.d.slot j).locks ∧
      2 ∉ (settlingBatch.d.slot j).wait) ∧ (settlingBatch.d.cmt.restoring = []) ∧ (settlingBatch.d.flt.releasing = false)) := by
  unfold Obl.slotFront
  and_intros <;> decide +kernel

theorem wit_planesAreLostAndRestored :
    ((planesAreLostAndRestoredAt1.d.cmt.planes = [lossJob]) ∧ (planesAreLostAndRestoredAt1.d.jobs.att = []) ∧ (lossJob.restore = false) ∧
      (planesAreLostAndRestoredAt1.net.ofIn lossJob.inp = some conn5) ∧ (conn5.dark = none) ∧ (lossJob.inp < 512) ∧
      (planesAreLostAndRestoredAt1.d.tb2 % 2 = 0) ∧ (lossJob.at2 < planesAreLostAndRestoredAt1.d.tb2) ∧ (planesAreLostAndRestoredAt1.d.blankOn =
      false) ∧ ((planesAreLostAndRestoredAt1.d.cell (inVoa (b2n lossJob.plane) lossJob.inp)).settling = false) ∧
      (planesAreLostAndRestoredAt1.d.clocked = true) ∧ (∀ k < 16, inVoa (b2n lossJob.plane) lossJob.inp ∉ (planesAreLostAndRestoredAt1.d.slot
      k).wait)) ∧
    ((onePlaneT.d.cmt.planes = [backJob]) ∧ (onePlaneT.d.jobs.att = []) ∧ (backJob.restore = true) ∧ (onePlaneT.net.ofIn backJob.inp = some
      conn5B) ∧ (conn5B.dark = some backJob.plane) ∧ (backJob.inp < 512) ∧ (onePlaneT.d.tgt 0 backJob.inp ≠ 511) ∧ ((onePlaneT.d.cell (inVoa (b2n
      backJob.plane) backJob.inp)).dark = true) ∧ (onePlaneT.d.tb2 % 2 = 0) ∧ (backJob.at2 < onePlaneT.d.tb2) ∧ (onePlaneT.d.blankOn = false) ∧
      ((onePlaneT.d.cell (inVoa (b2n backJob.plane) backJob.inp)).settling = false) ∧ (onePlaneT.d.clocked = true)) ∧
    ((backState.d.cmt.restoring = [backVer]) ∧ (backVer.locked = true) ∧ (backVer.window = false) ∧ (backVer.lanes = []) ∧ (backVer.failed = 0) ∧
      (backVer.mn + 4000 ≤ backState.d.tb2) ∧ (backState.net.ofIn backVer.inp = some conn5) ∧ (backState.net.ofOut conn5.out = some conn5) ∧
      (conn5.inp = backVer.inp) ∧ (conn5.out2 = none) ∧ ((backMeas false).out = conn5.out) ∧ ((backMeas false).plane = false) ∧ ((backMeas
      true).out = conn5.out) ∧ ((backMeas true).plane = true) ∧ (backVer.ver.unjudged backVer.inputs [conn5.out] = []) ∧ (∀ m ∈ [backMeas false,
      backMeas true], (m.level - backState.d.expected backState.net conn5.inp m.out m.plane (inputAt backVer.inputs m.out m.plane)).natAbs ≤
      backVer.ver.tol.natAbs)) := by
  and_intros <;> first
    | decide +kernel
    | exact levelsBack

theorem wit_rollsRampAndRelease :
    ((7 < 16) ∧ ((rollStart.d.slot 7).state = SlotSt.rolling) ∧ ((rollStart.d.slot 7).rolls = [(5, none)]) ∧ ((rollStart.d.slot 7).abortAt = none)
      ∧ ((rollStart.d.slot 7).knownAt < rollStart.d.tb2) ∧ (rollStart.d.tb2 % 1000 = 0) ∧ (rollStart.net.ofIn 5 = some bridge) ∧ (splitCellOf
      rollStart.net bridge = some ((splitCellOf (bridged ready).net bridge).getD 0)) ∧ (isSwitchCa ((splitCellOf (bridged ready).net bridge).getD
      0) = true)) ∧
    ((7 < 16) ∧ ((releaseAt.d.slot 7).state = SlotSt.rolling) ∧ ((releaseAt.d.slot 7).rolls = [(5, some 579999999)]) ∧ (579999999 <
      releaseAt.d.tb2) ∧ (releaseAt.d.tb2 % 2 = 0) ∧ (releaseAt.d.clocked = true) ∧ (releaseAt.net.ofIn 5 = some bridge) ∧ (bridge.out2 = some
      301) ∧ (bridge.out ≠ 301) ∧ (bridge.out < 512) ∧ (∀ x ∈ releaseAt.net.conns, x.uses bridge.out = true → x = bridge)) := by
  and_intros <;> decide +kernel

theorem wit_handoverAndLock :
    (((inHandover.d.cell 2).handover = true) ∧ ((inHandover.d.cell 2).settling = false) ∧ ((inHandover.d.cell 2).f.natAbs ≤ 184549)) ∧
    (((inHandoverVoa.d.cell 15365).handover = true) ∧ ((inHandoverVoa.d.cell 15365).settling = false) ∧ ((inHandoverVoa.d.cell 15365).f.natAbs ≤
      184549)) ∧
    (((handoverAndLockAt1.d.cell 2).demodAt = some 580000000) ∧ (580000000 ≤ handoverAndLockAt1.d.tb2)) ∧
    (((mayLock.d.cell 2).locked = false) ∧ (lit mayLock.net mayLock.d 2 = true) ∧ ((mayLock.d.cell 2).settling = false) ∧ ((mayLock.d.cell
      2).handover = false) ∧ ((mayLock.d.cell 2).nLock = 10) ∧ (isSwitchCa 2 = true) ∧ (mayLock.net.swOf 2 ≠ Sw.split) ∧ ((mayLock.d.cell
      2).region = 1) ∧ (mayLock.d.flt.relock = none) ∧ (mayLock.d.flt.blank = false) ∧ (mayLock.d.blankCause = false)) ∧
    (((mayLose.d.cell 2).locked = true) ∧ (lit mayLose.net mayLose.d 2 = true) ∧ ((mayLose.d.cell 2).settling = false) ∧ ((mayLose.d.cell
      2).handover = false) ∧ ((mayLose.d.cell 2).nLoss = 10)) ∧
    ((isSwitchCa 2 = true) ∧ (lit handoverAndLockAt2.net handoverAndLockAt2.d 2 = true) ∧ ((handoverAndLockAt2.d.cell 2).settling = false) ∧
      ((handoverAndLockAt2.d.cell 2).handover = false) ∧ (handoverAndLockAt2.net.swOf 2 ≠ Sw.split) ∧ (3 ≤ (handoverAndLockAt2.d.cell 2).nMove) ∧
      ((handoverAndLockAt2.d.cell 2).region ≤ 1)) ∧
    ((isSwitchCa 2 = true) ∧ (lit handoverAndLockAt3.net handoverAndLockAt3.d 2 = true) ∧ ((handoverAndLockAt3.d.cell 2).settling = false) ∧
      ((handoverAndLockAt3.d.cell 2).handover = false) ∧ (handoverAndLockAt3.net.swOf 2 ≠ Sw.split) ∧ (3 ≤ (handoverAndLockAt3.d.cell 2).nMove) ∧
      ((handoverAndLockAt3.d.cell 2).region ≤ 1)) := by
  and_intros <;> decide +kernel

theorem wit_lightWrapsAndHeaters :
    (((darkens.d.cell 2).power = true) ∧ (3 ≤ (darkens.d.cell 2).nDark)) ∧
    (((lightWrapsAndHeatersAt1.d.cell 2).power = false) ∧ (3 ≤ (lightWrapsAndHeatersAt1.d.cell 2).nLit) ∧ (isInVoa 2 = true ∨
      lightWrapsAndHeatersAt1.net.used 2 = true)) ∧
    (((lightWrapsAndHeatersAt2.d.cell 15365).power = false) ∧ (3 ≤ (lightWrapsAndHeatersAt2.d.cell 15365).nLit) ∧ (isInVoa 15365 = true ∨
      lightWrapsAndHeatersAt2.net.used 15365 = true)) ∧
    (((lightWrapsAndHeatersAt3.d.loop (hpAa 2)).wrapPending = true) ∧ (lit lightWrapsAndHeatersAt3.net lightWrapsAndHeatersAt3.d 2 = false) ∧
      ((lightWrapsAndHeatersAt3.d.cell 2).settling = false) ∧ ((lightWrapsAndHeatersAt3.d.cell 2).handover = false) ∧
      ((lightWrapsAndHeatersAt3.d.cell 2).wrapping = false) ∧ (lightWrapsAndHeatersAt3.d.tileHeld (tileOf 2) = false)) ∧
    (((lightWrapsAndHeatersAt4.d.loop (hpAa 2)).wrapPending = true) ∧ (lit lightWrapsAndHeatersAt4.net lightWrapsAndHeatersAt4.d 2 = false) ∧
      ((lightWrapsAndHeatersAt4.d.cell 2).settling = false) ∧ ((lightWrapsAndHeatersAt4.d.cell 2).handover = false) ∧
      ((lightWrapsAndHeatersAt4.d.cell 2).wrapping = false) ∧ (lightWrapsAndHeatersAt4.d.tileHeld (tileOf 2) = false)) ∧
    ((lightWrapsAndHeatersAt5.d.clocked = true) ∧ (lightWrapsAndHeatersAt5.d.tb2 % 10000 = 0) ∧ (10000 ≤ lightWrapsAndHeatersAt5.d.tb2) ∧
      (lightWrapsAndHeatersAt5.d.tim.tickDone ≠ lightWrapsAndHeatersAt5.d.tb2 + 1) ∧ (lightWrapsAndHeatersAt5.d.drv.armed = true) ∧
      (lightWrapsAndHeatersAt5.d.pwr.phase = Phase.run) ∧ (lightWrapsAndHeatersAt5.d.cal.run = none) ∧ (lightWrapsAndHeatersAt5.d.cal.sweep =
      none) ∧ (lightWrapsAndHeatersAt5.d.seq.ownerCal = false) ∧ (Tab.wf { } lightWrapsAndHeatersAt5.d.fab.loops = true)) ∧
    ((lightWrapsAndHeatersAt6.d.clocked = true) ∧ (lightWrapsAndHeatersAt6.d.tb2 % 1000 = 0) ∧ (lightWrapsAndHeatersAt6.d.tim.fastDone ≠
      lightWrapsAndHeatersAt6.d.tb2 + 1) ∧ (lightWrapsAndHeatersAt6.d.drv.armed = true) ∧ (Tab.wf { } lightWrapsAndHeatersAt6.d.fab.cells = true)
      ∧ (lightWrapsAndHeatersAt6.d.drv.rail = [4699]) ∧ (4000 ≤ 4699) ∧ ((lightWrapsAndHeatersAt6.d.src 11).conds = [])) := by
  and_intros <;> decide +kernel

theorem wit_loopEnginesAndSpares :
    ((351 < 352) ∧ (ready.d.clocked = true)) ∧
    ((335 < 336) ∧ (ready.d.clocked = true) ∧ (ready.d.leState 335 = LeState.own) ∧ (ready.d.sec.act = none) ∧ (ready.d.cal.run = none) ∧ (1 = 1 ∨
      1 = 2 ∨ 1 = 6)) ∧
    ((9 < 336) ∧ (leFailed.d.leState 9 = LeState.failed) ∧ ((leFailed.d.src 21).insts = []) ∧ ((leFailed.d.src 22).insts = []) ∧ ((leFailed.d.src
      26).insts = []) ∧ ((leFailed.d.le 9).pend = none) ∧ ((leFailed.d.le 9).moveAt = none)) ∧
    ((9 < 336) ∧ ((loopEnginesAndSparesAt1.d.le 9).pend = some 579990001) ∧ (579990001 < loopEnginesAndSparesAt1.d.tb2) ∧
      (loopEnginesAndSparesAt1.d.tb2 % 10000 = 0) ∧ (loopEnginesAndSparesAt1.d.clocked = true) ∧ ((loopEnginesAndSparesAt1.d.le 9).back = false) ∧
      (loopEnginesAndSparesAt1.d.idleSpare (tilePlane 9) = some 336) ∧ (loopEnginesAndSparesAt1.d.sec.act = none)) ∧
    ((9 < 336) ∧ ((loopEnginesAndSparesAt2.d.le 9).pend = some 579990001) ∧ (579990001 < loopEnginesAndSparesAt2.d.tb2) ∧
      (loopEnginesAndSparesAt2.d.tb2 % 10000 = 0) ∧ (loopEnginesAndSparesAt2.d.clocked = true) ∧ ((loopEnginesAndSparesAt2.d.le 9).back = false) ∧
      (loopEnginesAndSparesAt2.d.idleSpare (tilePlane 9) = none) ∧ ((loopEnginesAndSparesAt2.d.le 9).cause = some LeCause.permanent) ∧
      (loopEnginesAndSparesAt2.d.victim (tilePlane 9) = none) ∧ (∀ k ∈ sparesOf (tilePlane 9), loopEnginesAndSparesAt2.d.leState k ≠
      LeState.moving) ∧ (loopEnginesAndSparesAt2.d.sec.act = none)) ∧
    ((9 < 336) ∧ ((loopEnginesAndSparesAt3.d.le 9).moveAt = some 579995000) ∧ (579995000 + 5000 ≤ loopEnginesAndSparesAt3.d.tb2) ∧
      (loopEnginesAndSparesAt3.d.clocked = true) ∧ (loopEnginesAndSparesAt3.d.spareOf 9 = some 336) ∧ (loopEnginesAndSparesAt3.d.sec.act = none) ∧
      (loopEnginesAndSparesAt3.d.cal.run = none) ∧ ((loopEnginesAndSparesAt3.d.le 9).back = false) ∧ ((loopEnginesAndSparesAt3.d.le 9).cause ≠
      some LeCause.cal) ∧ ((loopEnginesAndSparesAt3.d.le 9).cause ≠ some LeCause.microcode)) ∧
    ((9 < 336) ∧ ((loopEnginesAndSparesAt4.d.le 9).moveAt = some 579995000) ∧ (579995000 + 5000 ≤ loopEnginesAndSparesAt4.d.tb2) ∧
      (loopEnginesAndSparesAt4.d.clocked = true) ∧ (loopEnginesAndSparesAt4.d.spareOf 9 = some 336) ∧ (loopEnginesAndSparesAt4.d.sec.act = none) ∧
      (loopEnginesAndSparesAt4.d.cal.run = none) ∧ ((loopEnginesAndSparesAt4.d.le 9).back = true) ∧ (∀ j < 336, loopEnginesAndSparesAt4.d.leState
      j ≠ LeState.unavailable)) ∧
    ((ready.d.reach 0 = true) ∧ (335 < 336) ∧ (bitOf (21761#32).toNat 0 = true) ∧ (bitOf (21761#32).toNat 1 = false) ∧ (ready.d.leState 335 =
      LeState.own) ∧ ((ready.d.le 335).spareReq = false) ∧ ((ready.d.le 335).pend = none) ∧ ((ready.d.idleSpare (tilePlane 335)).isSome = true)) ∧
    ((loopEnginesAndSparesAt5.d.reach 0 = true) ∧ (9 < 336) ∧ (bitOf (21761#32).toNat 0 = true) ∧ (bitOf (21761#32).toNat 1 = false) ∧
      (loopEnginesAndSparesAt5.d.leState 9 ≠ LeState.own ∨ (loopEnginesAndSparesAt5.d.le 9).spareReq = false ∧
      (loopEnginesAndSparesAt5.d.idleSpare (tilePlane 9) = none ∨ (loopEnginesAndSparesAt5.d.le 9).pend.isSome = true))) ∧
    ((lentLe.d.reach 0 = true) ∧ (9 < 336) ∧ (bitOf (21762#32).toNat 0 = false) ∧ (bitOf (21762#32).toNat 1 = true) ∧ (lentLe.d.leState 9 =
      LeState.lent) ∧ ((lentLe.d.le 9).cause = some LeCause.request) ∧ ((lentLe.d.le 9).pend = none)) := by
  and_intros <;> decide +kernel

theorem wit_parametersAreLoaded :
    ((ready.d.reach 0 = true) ∧ (ready.d.pwr.phase ≠ Phase.parked) ∧ (4 * 2 + 1 < 131072) ∧ (aaHole (4 * 2 + 1) = false) ∧ (aaKind (4 * 2 + 1) ≤
      1)) ∧
    ((parametersAreLoadedAt1.d.reach 1 = true) ∧ (1 ≠ 0)) ∧
    ((parametersAreLoadedAt2.d.clocked = true) ∧ (parametersAreLoadedAt2.d.tb2 % 10000 = 0) ∧ (parametersAreLoadedAt2.d.fab.loads = [(579999000,
      Load.lpt 9 2 196615)]) ∧ (579999000 + 1000 ≤ parametersAreLoadedAt2.d.tb2)) ∧
    ((parametersAreLoadedAt3.d.clocked = true) ∧ (parametersAreLoadedAt3.d.tb2 % 10000 = 0) ∧ (parametersAreLoadedAt3.d.fab.loads = [(579999000,
      Load.lpt (4 * 15365) 2 196615)]) ∧ (579999000 + 1000 ≤ parametersAreLoadedAt3.d.tb2)) ∧
    ((330 < 336) ∧ (ready.d.tb2 / 10000 % 10 = 330 % 10) ∧ (ready.d.clocked = true) ∧ (ready.d.served 330 = true) ∧ (ready.d.pwr.phase =
      Phase.run)) := by
  and_intros <;> decide +kernel

theorem wit_resultsAreCorrected :
    ((Obl.tickResult conv 31237 30000) ∧ ((conv.d.met 31237).next = [])) ∧
    ((mpaHole 31237 = false) ∧ (fastLane.d.clocked = true) ∧ (fastLane.d.pwr.phase = Phase.run) ∧ (1000 ≤ fastLane.d.tb2) ∧ (4095 < 4096) ∧
      (579999000 = (fastLane.d.tb2 / 1000 - 1) * 1000) ∧ (fastLane.d.fastIn 31237 579999000 960 = true) ∧ ((fastLane.d.mrt 31237).fAt ≤ 579999000)
      ∧ ((fastLane.d.mrt 31237).oldCo = []) ∧ (fastLane.d.reacting 44 (mpaCell 31237) = false) ∧ ((fastLane.d.met 31237).next = []) ∧
      (fastLane.d.fastStart 31237 579999000 + 512 ≤ 579999000 + 960) ∧ (fastLane.d.waiting 31237 = [])) := by
  unfold Obl.tickResult
  and_intros <;> decide +kernel

theorem wit_windowsAndInjections :
    ((Obl.tickResult windowsAndInjectionsAt1 31237 30000) ∧ ((windowsAndInjectionsAt1.d.met 31237).next = []) ∧ (windowsAndInjectionsAt1.d.metHeld
      windowsAndInjectionsAt1.net 31237 = false) ∧ ((windowsAndInjectionsAt1.d.met 31237).en = true) ∧ ((windowsAndInjectionsAt1.d.met
      31237).broken = false) ∧ ((windowsAndInjectionsAt1.d.met 31237).due = none) ∧ ((windowsAndInjectionsAt1.d.met 31237).state = 0) ∧ (valueAt
      30000 = codeValue (windowsAndInjectionsAt1.d.coeffs 31237) (windowsAndInjectionsAt1.d.mrt 31237).range 30000) ∧ (floorDbm < valueAt 30000 ∨
      floorDbm < (windowsAndInjectionsAt1.d.met 31237).limit (windowsAndInjectionsAt1.d.met 31237).low) ∧ ((windowsAndInjectionsAt1.d.met
      31237).limit (windowsAndInjectionsAt1.d.met 31237).low ≤ (windowsAndInjectionsAt1.d.met 31237).limit (windowsAndInjectionsAt1.d.met
      31237).high)) ∧
    (((windowsAndInjectionsAt2.d.met 4).due = some (2, 55, 66)) ∧ ((windowsAndInjectionsAt2.d.met 4).state = 0 ∨ 2 = 0) ∧ (isVoaCa (mpaCell 4) =
      false) ∧ ((windowsAndInjectionsAt2.d.fn 0).evtActive = true) ∧ ((windowsAndInjectionsAt2.d.fn 0).flrAt = none) ∧
      ((windowsAndInjectionsAt2.d.fn 0).evt.hasRoom = true)) ∧
    (((windowsAndInjectionsAt3.d.met 4).due = some (0, 55, 66)) ∧ ((windowsAndInjectionsAt3.d.met 4).state = 0 ∨ 0 = 0) ∧ (isVoaCa (mpaCell 4) =
      false) ∧ ((windowsAndInjectionsAt3.d.fn 0).evtActive = true) ∧ ((windowsAndInjectionsAt3.d.fn 0).flrAt = none) ∧
      ((windowsAndInjectionsAt3.d.fn 0).evt.hasRoom = true)) ∧
    ((ready.d.reach 0 = true) ∧ (mpaHole 31237 = false) ∧ (ready.d.pwr.phase ≠ Phase.parked) ∧ ((ready.d.tile (tileOf (mpaCell 31237))).holdErr =
      false)) ∧
    ((windowsAndInjectionsAt4.d.reach 2 = true) ∧ (2 ≠ 0)) ∧
    ((Obl.tickResult written 31237 30000) ∧ ((written.d.met 31237).next = [(580003000, 572657937, 128253952)]) ∧ (580003000 + 1000 ≤
      written.d.tb2)) ∧
    ((ready.d.reach 0 = true) ∧ (7 < 8) ∧ (bitOf (30767621#32).toNat 20 = true) ∧ ((ready.d.inj 7).go = false)) ∧
    ((armedInj.d.reach 0 = true) ∧ (3 < 8) ∧ (bitOf (2193925#32).toNat 21 = true) ∧ ((armedInj.d.inj 3).go = true) ∧ ((armedInj.d.inj 3).triggered
      = false)) ∧
    ((injecting.d.inj 3 = waits) ∧ (injecting.d.waiting waits.mpa = [3]) ∧ (injecting.d.injNext waits.mpa = some (3, 580005000)) ∧
      (injecting.d.fastIn waits.mpa injecting.d.tb2 1 = false) ∧ (4095 ≤ if waits.fast = true then 4095 else 65535) ∧ ((580005000 + if waits.fast
      = true then 1000 else 4000) ≤ injecting.d.tb2) ∧ ((injecting.d.mrt waits.mpa).oldCo = [] ∨ (injecting.d.mrt waits.mpa).coAt ≤ 580005000) ∧
      (injecting.d.reacting 44 (mpaCell waits.mpa) = false)) := by
  unfold Obl.tickResult
  and_intros <;> first
    | decide +kernel
    | rfl
    | exact Or.inr (by decide +kernel)

theorem wit_lanesAreClaimed :
    ((ready.d.reach 0 = true) ∧ (127 < 128) ∧ (bitOf (536772607#32).toNat 13 = true) ∧ (bitOf (536772607#32).toNat 16 = false) ∧ ((ready.d.fl
      127).claim = false) ∧ ((ready.d.fl 127).arm = false) ∧ ((ready.d.fl 127).bad = false)) ∧
    ((lanesAreClaimedAt1.d.reach 0 = true) ∧ (5 < 128) ∧ (bitOf (0#32).toNat 13 = false) ∧ ((lanesAreClaimedAt1.d.fl 5).claim = true) ∧
      ((lanesAreClaimedAt1.d.fl 5).state ∈ [FlSt.claimed, FlSt.armed, FlSt.capturing, FlSt.done]) ∧ (bitOf (0#32).toNat 16 = false)) ∧
    ((lanesAreClaimedAt2.d.reach 0 = true) ∧ (5 < 128) ∧ (bitOf (1260037#32).toNat 13 = true) ∧ (bitOf (1260037#32).toNat 16 = true) ∧
      ((lanesAreClaimedAt2.d.fl 5).claim = true) ∧ ((lanesAreClaimedAt2.d.fl 5).arm = false) ∧ ((lanesAreClaimedAt2.d.fl 5).state ∈ [FlSt.claimed,
      FlSt.done]) ∧ (16 * fieldOf (1260037#32).toNat 17 7 < 256 * (fieldOf (1260037#32).toNat 24 4 + 1)) ∧ (∀ j < 128, j ≠ 5 →
      (lanesAreClaimedAt2.d.fl j).state = FlSt.free)) ∧
    ((lanesAreClaimedAt3.d.reach 0 = true) ∧ (5 < 128) ∧ (bitOf (81413#32).toNat 13 = true) ∧ (bitOf (81413#32).toNat 16 = true) ∧
      ((lanesAreClaimedAt3.d.fl 5).claim = true) ∧ ((lanesAreClaimedAt3.d.fl 5).arm = false) ∧ ((lanesAreClaimedAt3.d.fl 5).state ∈ [FlSt.claimed,
      FlSt.done]) ∧ (16 * fieldOf (81413#32).toNat 17 7 < 256 * (fieldOf (81413#32).toNat 24 4 + 1)) ∧ (∃ j < 128, j ≠ 5 ∧
      (lanesAreClaimedAt3.d.fl j).state ≠ FlSt.free ∧ (lanesAreClaimedAt3.d.fl j).att = some (mkMpa (outVoa ((81413#32).toNat / 1024 % 2)
      ((81413#32).toNat / 2 % 512)) ((81413#32).toNat % 2)))) ∧
    (((capturing.d.fl 5).att = some 31237) ∧ ((capturing.d.fl 5).state = FlSt.capturing) ∧ (capturing.d.clocked = true) ∧ ((capturing.d.fl
      5).trigTime + 4 * ((capturing.d.fl 5).length - (capturing.d.fl 5).preN) ≤ capturing.d.tb2) ∧ ((capturing.d.fl 5).preN ≤ (capturing.d.fl
      5).length) ∧ ((capturing.d.fl 5).preGot = (capturing.d.fl 5).preN) ∧ (samples.length = (capturing.d.fl 5).length) ∧ ((capturing.d.fl
      5).range < 4)) := by
  and_intros <;> decide +kernel

theorem wit_driversAndTheirFaults :
    ((driversAndTheirFaultsAt1.d.reach 0 = true) ∧ (bitOf (11#32).toNat 0 = true) ∧ (bitOf (11#32).toNat 7 = false) ∧
      (driversAndTheirFaultsAt1.d.drv.shapeLoad = false) ∧ (driversAndTheirFaultsAt1.d.segActive (fieldOf (11#32).toNat 1 6) = false) ∧
      ((driversAndTheirFaultsAt1.d.seq.desc (fieldOf (11#32).toNat 1 6)).len = 63)) ∧
    ((driversAndTheirFaultsAt2.d.reach 0 = true) ∧ (bitOf (11#32).toNat 0 = true) ∧ (bitOf (11#32).toNat 7 = false) ∧
      (driversAndTheirFaultsAt2.d.drv.shapeLoad = true ∨ driversAndTheirFaultsAt2.d.segActive (fieldOf (11#32).toNat 1 6) = true ∨
      (driversAndTheirFaultsAt2.d.seq.desc (fieldOf (11#32).toNat 1 6)).len ≠ 63)) ∧
    (shapeCopied.d.drv.shapeLoad = true) ∧
    ((ready.d.reach 0 = true) ∧ (bitOf (128#32).toNat 7 = true) ∧ (bitOf (128#32).toNat 0 = false) ∧ (∀ k < 32, 20 ≤ ready.d.toneSet k ∧
      ready.d.toneSet k ≤ 60 ∧ ∀ j < k, ready.d.toneSet j ≠ ready.d.toneSet k)) ∧
    ((twoTones.d.reach 0 = true) ∧ (bitOf (130#32).toNat 7 = true) ∧ (bitOf (130#32).toNat 0 = false) ∧ (∃ k < 32, twoTones.d.toneSet k < 20 ∨ 60
      < twoTones.d.toneSet k ∨ ∃ j < k, twoTones.d.toneSet j = twoTones.d.toneSet k)) ∧
    ((toneDue.d.drv.toneApply = true) ∧ (toneDue.d.drv.toneAt ≤ toneDue.d.tb2) ∧ (Tab.wf { } toneDue.d.fab.cells = true) ∧ (Tab.wf { }
      toneDue.d.fab.loops = true)) ∧
    (((driversAndTheirFaultsAt3.d.loop 9).amplNext = some 0) ∧ (driversAndTheirFaultsAt3.d.clocked = true) ∧ (driversAndTheirFaultsAt3.d.tb2 % 8 =
      0) ∧ (Tab.wf { } driversAndTheirFaultsAt3.d.fab.loops = true) ∧ (driversAndTheirFaultsAt3.d.toneNow ((hpTone (aaCell 9) + aaKind 9) % 32) *
      (driversAndTheirFaultsAt3.d.tb2 % 1000000 / 8) % 62500 < driversAndTheirFaultsAt3.d.toneNow ((hpTone (aaCell 9) + aaKind 9) % 32))) ∧
    ((driversAndTheirFaultsAt4.d.drv.armed = true) ∧ (aaHole (4 * 2 + 1) = false) ∧ (0 ≤ 1 ∧ aaKind (4 * 2 + 1) ≤ 1 ∨ 0 = 2 ∧ aaKind (4 * 2 + 1) =
      2) ∧ (aaCell (4 * 2 + 1) ∉ (driversAndTheirFaultsAt4.d.src (30 + 0)).conds)) ∧
    ((driversAndTheirFaultsAt5.d.drv.armed = true) ∧ (aaHole (4 * 2 + 2) = false) ∧ (2 ≤ 1 ∧ aaKind (4 * 2 + 2) ≤ 1 ∨ 2 = 2 ∧ aaKind (4 * 2 + 2) =
      2) ∧ (aaCell (4 * 2 + 2) ∉ (driversAndTheirFaultsAt5.d.src (30 + 2)).conds)) := by
  and_intros <;> decide +kernel

theorem wit_sequencerPlays :
    ((sequencerPlaysAt1.d.reach 0 = true) ∧ (bitOf (1009#32).toNat 0 = true) ∧ (bitOf (1009#32).toNat 1 = false) ∧
      (sequencerPlaysAt1.d.seq.ownerCal = false) ∧ (sequencerPlaysAt1.d.seq.state = SeqSt.stopped) ∧ (desc 63 100 5 22528 =
      sequencerPlaysAt1.d.seq.desc (fieldOf (1009#32).toNat 4 6)) ∧ (fieldOf (1009#32).toNat 10 2 = 0) ∧ ((desc 63 100 5 22528).valid = true) ∧
      (sequencerPlaysAt1.d.segReady (fieldOf (1009#32).toNat 4 6) = true) ∧ ((desc 63 100 5 22528).trig = 0) ∧ (0 < (desc 63 100 5 22528).len) ∧
      (Tab.wf { } sequencerPlaysAt1.d.mon.fl = true)) ∧
    ((sequencerPlaysAt2.d.reach 0 = true) ∧ (bitOf (2033#32).toNat 0 = true) ∧ (bitOf (2033#32).toNat 1 = false) ∧
      (sequencerPlaysAt2.d.seq.ownerCal = false) ∧ (sequencerPlaysAt2.d.seq.state = SeqSt.stopped) ∧ (desc 63 100 5 = sequencerPlaysAt2.d.seq.desc
      (fieldOf (2033#32).toNat 4 6)) ∧ (fieldOf (2033#32).toNat 10 2 = 1 ∨ fieldOf (2033#32).toNat 10 2 = 2)) ∧
    ((sequencerPlaysAt3.d.reach 0 = true) ∧ (bitOf (1009#32).toNat 0 = true) ∧ (bitOf (1009#32).toNat 1 = false) ∧
      (sequencerPlaysAt3.d.seq.ownerCal = false) ∧ (sequencerPlaysAt3.d.seq.state = SeqSt.stopped) ∧ (desc 63 131071 1 =
      sequencerPlaysAt3.d.seq.desc (fieldOf (1009#32).toNat 4 6)) ∧ (fieldOf (1009#32).toNat 10 2 = 0) ∧ ((desc 63 131071 1).valid = false)) ∧
    ((runs.d.reach 0 = true) ∧ (bitOf (3086#32).toNat 1 = true) ∧ (bitOf (3086#32).toNat 0 = false) ∧ (runs.d.seq.state = SeqSt.running)) ∧
    ((trigWait.d.reach 0 = true) ∧ (bitOf (2#32).toNat 1 = true) ∧ (bitOf (2#32).toNat 0 = false) ∧ (trigWait.d.seq.state ∈ [SeqSt.waitTrig,
      SeqSt.underrun])) ∧
    ((runs.d.reach 0 = true) ∧ (bitOf (263#32).toNat 8 = true) ∧ (runs.d.seq.ownerCal = false) ∧ (runs.d.seq.state ≠ SeqSt.running ∨
      runs.d.seq.next = SeqNext.undecided)) ∧
    ((sequencerPlaysAt4.d.reach 0 = true) ∧ (bitOf (263#32).toNat 8 = true) ∧ (sequencerPlaysAt4.d.seq.ownerCal = false) ∧
      (sequencerPlaysAt4.d.seq.state = SeqSt.running) ∧ (sequencerPlaysAt4.d.seq.next ≠ SeqNext.undecided)) ∧
    ((sequencerPlaysAt5.d.reach 0 = true) ∧ (bitOf (263#32).toNat 8 = true) ∧ (sequencerPlaysAt5.d.seq.ownerCal = true)) ∧
    ((sequencerPlaysAt6.d.seq.state = SeqSt.running) ∧ (desc 63 100 5 = sequencerPlaysAt6.d.seq.desc sequencerPlaysAt6.d.seq.seg) ∧
      (sequencerPlaysAt6.d.seq.sample < (desc 63 100 5).len) ∧ (sequencerPlaysAt6.d.seq.sampleAt + (desc 63 100 5).dur ≤ sequencerPlaysAt6.d.tb2)
      ∧ (sequencerPlaysAt6.d.seq.stopPend = false)) ∧
    ((sequencerPlaysAt7.d.seq.state = SeqSt.running) ∧ (desc 63 100 5 = sequencerPlaysAt7.d.seq.desc sequencerPlaysAt7.d.seq.seg) ∧
      (sequencerPlaysAt7.d.seq.sample < (desc 63 100 5).len) ∧ (sequencerPlaysAt7.d.seq.sampleAt + (desc 63 100 5).dur ≤ sequencerPlaysAt7.d.tb2)
      ∧ (sequencerPlaysAt7.d.seq.stopPend = true) ∧ (sequencerPlaysAt7.d.seq.stopMode = false)) ∧
    ((sequencerPlaysAt8.d.seq.state = SeqSt.running) ∧ (desc 63 100 5 = sequencerPlaysAt8.d.seq.desc sequencerPlaysAt8.d.seq.seg) ∧ ((desc 63 100
      5).len ≤ sequencerPlaysAt8.d.seq.sample) ∧ (sequencerPlaysAt8.d.seq.sampleAt + (desc 63 100 5).dur ≤ sequencerPlaysAt8.d.tb2) ∧
      (sequencerPlaysAt8.d.seq.stopPend = true)) ∧
    ((sequencerPlaysAt9.d.seq.state = SeqSt.running) ∧ (desc 63 100 5 = sequencerPlaysAt9.d.seq.desc sequencerPlaysAt9.d.seq.seg) ∧ ((desc 63 100
      5).len ≤ sequencerPlaysAt9.d.seq.sample) ∧ (sequencerPlaysAt9.d.seq.sampleAt + (desc 63 100 5).dur ≤ sequencerPlaysAt9.d.tb2) ∧
      (sequencerPlaysAt9.d.seq.stopPend = false) ∧ (sequencerPlaysAt9.d.seq.next = SeqNext.again) ∧ ((desc 63 100 5).trig = 0) ∧ (Tab.wf { }
      sequencerPlaysAt9.d.mon.fl = true)) ∧
    ((sequencerPlaysAt10.d.seq.state = SeqSt.running) ∧ (desc 63 100 5 = sequencerPlaysAt10.d.seq.desc sequencerPlaysAt10.d.seq.seg) ∧ ((desc 63
      100 5).len ≤ sequencerPlaysAt10.d.seq.sample) ∧ (sequencerPlaysAt10.d.seq.sampleAt + (desc 63 100 5).dur ≤ sequencerPlaysAt10.d.tb2) ∧
      (sequencerPlaysAt10.d.seq.stopPend = false) ∧ (sequencerPlaysAt10.d.seq.next = SeqNext.go 7) ∧ (desc 7 20 0 = sequencerPlaysAt10.d.seq.desc
      7) ∧ ((desc 7 20 0).valid = true) ∧ ((desc 7 20 0).refill = false) ∧ (∀ z ∈ sequencerPlaysAt10.d.seq.loads, z.seg ≠ 7) ∧ ((desc 7 20 0).trig
      = 0) ∧ (Tab.wf { } sequencerPlaysAt10.d.mon.fl = true)) ∧
    ((sequencerPlaysAt11.d.seq.state = SeqSt.running) ∧ (desc 63 100 5 = sequencerPlaysAt11.d.seq.desc sequencerPlaysAt11.d.seq.seg) ∧ ((desc 63
      100 5).len ≤ sequencerPlaysAt11.d.seq.sample) ∧ (sequencerPlaysAt11.d.seq.sampleAt + (desc 63 100 5).dur ≤ sequencerPlaysAt11.d.tb2) ∧
      (sequencerPlaysAt11.d.seq.stopPend = false) ∧ (sequencerPlaysAt11.d.seq.next = SeqNext.go 7) ∧ (desc 7 20 3 64 =
      sequencerPlaysAt11.d.seq.desc 7) ∧ ((desc 7 20 3 64).valid = true) ∧ ((desc 7 20 3 64).refill = true ∧ 7 ∉ sequencerPlaysAt11.d.seq.fill ∧
      sequencerPlaysAt11.d.seq.rfStop = false ∨ (desc 7 20 3 64).refill = false ∧ ∃ z ∈ sequencerPlaysAt11.d.seq.loads, z.seg = 7)) ∧
    ((sequencerPlaysAt12.d.seq.state = SeqSt.running) ∧ (desc 63 100 5 = sequencerPlaysAt12.d.seq.desc sequencerPlaysAt12.d.seq.seg) ∧ ((desc 63
      100 5).len ≤ sequencerPlaysAt12.d.seq.sample) ∧ (sequencerPlaysAt12.d.seq.sampleAt + (desc 63 100 5).dur ≤ sequencerPlaysAt12.d.tb2) ∧
      (sequencerPlaysAt12.d.seq.stopPend = false) ∧ (sequencerPlaysAt12.d.seq.next = SeqNext.stop)) ∧
    ((starved.d.seq.state = SeqSt.underrun) ∧ (desc 63 100 5 64 = starved.d.seq.desc starved.d.seq.seg) ∧ (starved.d.segReady starved.d.seq.seg =
      true) ∧ (starved.d.seq.readyAt < starved.d.tb2) ∧ ((desc 63 100 5 64).trig = 0) ∧ (Tab.wf { } starved.d.mon.fl = true)) := by
  and_intros <;> decide +kernel

theorem wit_sequencerIsFedAndBound :
    ((ready.d.reach 0 = true) ∧ (3 < 4) ∧ (ready.d.seq.ownerCal = false) ∧ ((ready.d.lane 3).en = false) ∧ ((ready.d.lane 3).bound = false) ∧
      (bitOf (131081#32).toNat 17 = true) ∧ (aaHole ((131081#32).toNat % 2 ^ 17) = false) ∧ (lit ready.net ready.d (aaCell ((131081#32).toNat % 2
      ^ 17)) = false) ∧ (ready.net.used (aaCell ((131081#32).toNat % 2 ^ 17)) = false) ∧ (∀ k < 16, (ready.d.slot k).state = SlotSt.free) ∧ (∀ j <
      4, j ≠ 3 → (ready.d.lane j).bound = false ∨ (ready.d.lane j).aa ≠ (131081#32).toNat % 2 ^ 17)) ∧
    ((isBound.d.reach 0 = true) ∧ (3 < 4) ∧ (isBound.d.seq.ownerCal = false) ∧ ((isBound.d.lane 3).en = false) ∧ ((isBound.d.lane 3).bound =
      false) ∧ (bitOf (131081#32).toNat 17 = true) ∧ (aaHole ((131081#32).toNat % 2 ^ 17) = true ∨ lit isBound.net isBound.d (aaCell
      ((131081#32).toNat % 2 ^ 17)) = true ∨ isBound.net.used (aaCell ((131081#32).toNat % 2 ^ 17)) = true ∨ ∃ j < 4, j ≠ 3 ∧ (isBound.d.lane
      j).bound = true ∧ (isBound.d.lane j).aa = (131081#32).toNat % 2 ^ 17)) ∧
    ((1 < 4) ∧ ((sequencerIsFedAndBoundAt1.d.lane 1).bound = true) ∧ ((sequencerIsFedAndBoundAt1.d.lane 1).en = false) ∧
      ((sequencerIsFedAndBoundAt1.d.lane 1).offAt < sequencerIsFedAndBoundAt1.d.tb2) ∧ (sequencerIsFedAndBoundAt1.d.tb2 % 10000 = 0) ∧ (∀ j < 4, j
      ≠ 1 → (sequencerIsFedAndBoundAt1.d.lane j).bound = false)) ∧
    ((1 < 4) ∧ ((sequencerIsFedAndBoundAt2.d.lane 1).bound = true) ∧ ((sequencerIsFedAndBoundAt2.d.lane 1).en = false) ∧
      ((sequencerIsFedAndBoundAt2.d.lane 1).offAt < sequencerIsFedAndBoundAt2.d.tb2) ∧ (sequencerIsFedAndBoundAt2.d.tb2 % 10000 = 0) ∧ (∀ j < 4, j
      ≠ 1 → (sequencerIsFedAndBoundAt2.d.lane j).bound = false)) ∧
    ((ready.d.reach 0 = true) ∧ (bitOf (3#32).toNat 0 = true) ∧ (ready.d.seq.rfEn = false)) ∧
    ((desc 7 20 3 64 = refilling.d.seq.desc 7) ∧ (refilling.d.refillNext = some 7) ∧ (∀ j ≤ (desc 7 20 3 64).len, refilling.d.activeAt ((desc 7 20
      3 64).base + j) = false) ∧ (fillWords.length = (desc 7 20 3 64).len + 1) ∧ (refilling.d.seq.rfPos + (desc 7 20 3 64).len + 1 <
      refilling.d.seq.rfLen)) ∧
    ((refilling.d.reach 0 = true) ∧ (21 < 131072) ∧ (refilling.d.activeAt 21 = false) ∧ (refilling.d.refillOnly 21 = true)) ∧
    ((sequencerIsFedAndBoundAt3.d.reach 0 = true) ∧ (131071 < 131072) ∧ (sequencerIsFedAndBoundAt3.d.activeAt 131071 = false) ∧
      (sequencerIsFedAndBoundAt3.d.refillOnly 131071 = false)) ∧
    ((runs.d.reach 0 = true) ∧ (105 < 131072) ∧ (runs.d.activeAt 105 = true)) ∧
    ((syncinTriggers.d.clocked = true) ∧ (syncinTriggers.d.seq.jumpSyncin = true) ∧ (syncinTriggers.d.seq.ownerCal = false) ∧
      (syncinTriggers.d.seq.state = SeqSt.running) ∧ (syncinTriggers.d.seq.next = SeqNext.undecided) ∧ (Tab.wf { } syncinTriggers.d.mon.inj =
      true) ∧ (Tab.wf { } syncinTriggers.d.mon.fl = true)) ∧
    (((Tab.get { } pulse.d.seq.sync 1).endAt = some 580000000) ∧ (580000000 ≤ pulse.d.tb2)) := by
  and_intros <;> decide +kernel

theorem wit_calibrationMeasures :
    ((calibrationMeasuresAt1.d.cal.run = some runAll) ∧ (runAll.todo = [9, 10, 200]) ∧ (calibrationMeasuresAt1.d.injIn 9 = false) ∧
      (calibrationMeasuresAt1.d.spareLeft (tilePlane 9) = true) ∧ (calibrationMeasuresAt1.d.leState 9 = LeState.own) ∧
      ((calibrationMeasuresAt1.d.le 9).pend = none) ∧ (calibrationMeasuresAt1.d.sec.restart = none) ∧ (calibrationMeasuresAt1.d.pwr.phase =
      Phase.run) ∧ (calibrationMeasuresAt1.d.clocked = true)) ∧
    ((calibrationMeasuresAt2.d.cal.run = some (runTile tile9a runBias)) ∧ ((runTile tile9a runBias).active = [tile9a]) ∧ (tile9a.step = 3) ∧
      (tile9a.t0 + 10000000 * tile9a.win ≤ calibrationMeasuresAt2.d.tb2) ∧ (calibrationMeasuresAt2.d.clocked = true) ∧ (bitOf (runTile tile9a
      runBias).kinds 5 = true → tile9a.swept = true) ∧ (tile9a.measured (runTile tile9a runBias) [] = true)) ∧
    ((calibrationMeasuresAt3.d.cal.run = some (runTile tile9b runBias)) ∧ ((runTile tile9b runBias).active = [tile9b]) ∧ (tile9b.step = 4) ∧
      (tile9b.accepted = []) ∧ (tile9b.t0 + 10000000 * tile9b.win ≤ calibrationMeasuresAt3.d.tb2) ∧ (calibrationMeasuresAt3.d.clocked = true) ∧
      (bitOf (runTile tile9b runBias).kinds 5 = true → tile9b.swept = true) ∧ (tile9b.measured (runTile tile9b runBias) [] = true)) ∧
    ((tile9b.badOf (0, hpAa firstCell) = 0) ∧ (Tab.get none tile9b.est (statKey 0 (hpAa firstCell)) = some 4194404) ∧ ((tile9b.stat 0 (hpAa
      firstCell)).n ≠ 0)) ∧
    (tile9c.badOf (0, aHp) ≠ 0) ∧
    ((calibrationMeasuresAt4.d.cal.run = some waits9) ∧ (waits9.todo = [10, 11, 300]) ∧ (waits9.active ≠ []) ∧
      (calibrationMeasuresAt4.d.cal.spareWait ≠ 0) ∧ (waits9.waitFrom + 10000000 * calibrationMeasuresAt4.d.cal.spareWait <
      calibrationMeasuresAt4.d.tb2) ∧ (calibrationMeasuresAt4.d.clocked = true) ∧ (∀ j ∈ [10, 11, 300], j < 336)) ∧
    ((335 < 336) ∧ (calibrationMeasuresAt5.d.clocked = true) ∧ (calibrationMeasuresAt5.d.pwr.phase = Phase.run) ∧
      (calibrationMeasuresAt5.d.cal.interpEn = true) ∧ (calibrationMeasuresAt5.d.tb2 % 10000 = 0) ∧ (10000 ≤ calibrationMeasuresAt5.d.tb2) ∧
      ((calibrationMeasuresAt5.d.tb2 / 10000 - 1) % 10000 = 25 * 335) ∧ ((calibrationMeasuresAt5.d.sensor 335).valid = true)) ∧
    ((335 < 336) ∧ (calibrationMeasuresAt6.d.clocked = true) ∧ (calibrationMeasuresAt6.d.pwr.phase = Phase.run) ∧
      (calibrationMeasuresAt6.d.cal.interpEn = true) ∧ (calibrationMeasuresAt6.d.tb2 % 10000 = 0) ∧ (10000 ≤ calibrationMeasuresAt6.d.tb2) ∧
      ((calibrationMeasuresAt6.d.tb2 / 10000 - 1) % 10000 = 25 * 335) ∧ ((calibrationMeasuresAt6.d.sensor 335).valid = false) ∧ (335 ∉
      (calibrationMeasuresAt6.d.src 27).conds)) := by
  and_intros <;> decide +kernel

theorem wit_calibrationStores :
    ((calibrationStoresAt1.d.cal.run = some (runTile tile9e)) ∧ (∃ x ∈ (runTile tile9e).active, x.step = 5) ∧ (calibrationStoresAt1.d.cal.storing
      = false) ∧ (calibrationStoresAt1.d.cal.retry = false) ∧ (calibrationStoresAt1.d.pwr.vinWarn = false) ∧ ((calibrationStoresAt1.d.src
      15).conds = []) ∧ (calibrationStoresAt1.d.sec.restart = none) ∧ (calibrationStoresAt1.d.clocked = true)) ∧
    ((storing.d.cal.storing = true) ∧ (storing.d.clocked = true) ∧ (storing.d.cal.run = some (runTile tile9s)) ∧ (storing.d.cal.again = false)) ∧
    ((calibrationStoresAt2.d.cal.storing = true) ∧ (calibrationStoresAt2.d.clocked = true) ∧ (calibrationStoresAt2.d.cal.run = some (runTile
      tile9s)) ∧ (calibrationStoresAt2.d.cal.again = true) ∧ ((runTile tile9s).todo ≠ []) ∧ ((runTile tile9s).clear = false) ∧ (∀ x ∈ (runTile
      tile9s).active, x.tn < 336)) ∧
    ((retrying.d.cal.run = some (runTile tile9s)) ∧ (retrying.d.cal.retry = true) ∧ (retrying.d.cal.retryAt = some 480000000) ∧ (480000000 +
      100000000 ≤ retrying.d.tb2) ∧ (retrying.d.pwr.vinWarn = false) ∧ (retrying.d.clocked = true)) ∧
    ((calibrationStoresAt3.d.cal.run = some (runTile tile9t)) ∧ ((runTile tile9t).active = [tile9t]) ∧ (tile9t.step = 7) ∧ ((runTile tile9t).clear
      = false) ∧ (calibrationStoresAt3.d.tb2 % 10000 = 0) ∧ (tile9t.t0 < calibrationStoresAt3.d.tb2) ∧ (calibrationStoresAt3.d.clocked = true) ∧
      ((calibrationStoresAt3.d.sensor tile9t.tn).valid = true)) ∧
    ((calibrationStoresAt4.d.cal.run = some (runTile tile9u)) ∧ ((runTile tile9u).active = [tile9u]) ∧ (tile9u.step = 8) ∧
      (calibrationStoresAt4.d.tb2 % 10000 = 0) ∧ (tile9u.t0 < calibrationStoresAt4.d.tb2) ∧ (calibrationStoresAt4.d.leState tile9u.tn =
      LeState.lent) ∧ ((calibrationStoresAt4.d.le tile9u.tn).cause = some LeCause.cal) ∧ (calibrationStoresAt4.d.clocked = true) ∧
      (calibrationStoresAt4.d.spareOf tile9u.tn = some 336) ∧ (tile9u.tn < 336)) := by
  and_intros <;> decide +kernel

theorem wit_faultSourcesAndRecovery :
    ((faultSourcesAndRecoveryAt1.d.reach 0 = true) ∧ (95 < 96) ∧ (srcReserved 95 = false) ∧ (Obl.calm faultSourcesAndRecoveryAt1) ∧
      (faultSourcesAndRecoveryAt1.d.flt.injAct = false) ∧ ((faultSourcesAndRecoveryAt1.d.src 95).force = false) ∧ (32#32 = 32) ∧
      (faultSourcesAndRecoveryAt1.d.flt.injEn = true)) ∧
    ((ready.d.reach 0 = true) ∧ (95 < 96) ∧ (srcReserved 95 = false) ∧ (Obl.calm ready) ∧ (ready.d.flt.injAct = false) ∧ ((ready.d.src 95).force =
      false) ∧ (32#32 = 32) ∧ (ready.d.flt.injEn = false)) ∧
    ((faultSourcesAndRecoveryAt2.d.reach 0 = true) ∧ (29 < 96) ∧ (29 ≠ 40) ∧ (29 ≠ 68) ∧ (Obl.calm faultSourcesAndRecoveryAt2) ∧
      ((faultSourcesAndRecoveryAt2.d.src 29).force = false) ∧ ((faultSourcesAndRecoveryAt2.d.src 29).conds = [])) ∧
    ((faultSourcesAndRecoveryAt3.d.reach 0 = true) ∧ (29 < 96) ∧ (29 ≠ 40) ∧ (29 ≠ 68) ∧ (Obl.calm faultSourcesAndRecoveryAt3) ∧
      ((faultSourcesAndRecoveryAt3.d.src 29).force = false) ∧ ((faultSourcesAndRecoveryAt3.d.src 29).conds ≠ [])) ∧
    ((faultSourcesAndRecoveryAt3.d.reach 0 = true) ∧ (29 < 96) ∧ (29 ≠ 40) ∧ (29 ≠ 68) ∧ (Obl.calm faultSourcesAndRecoveryAt3) ∧
      ((faultSourcesAndRecoveryAt3.d.src 29).force = false) ∧ ((faultSourcesAndRecoveryAt3.d.src 29).out = true) ∧ (12 < 29)) ∧
    ((ready.d.reach 0 = true) ∧ (Obl.calm ready) ∧ (bitOf (15#32 &&& 4294967294#32).toNat 0 = false) ∧ (bitOf (15#32 &&& 4294967294#32).toNat 3 =
      true) ∧ (∀ n < 96, (ready.d.src n).force = false) ∧ (ready.d.flt.swBlank = false)) ∧
    ((faultSourcesAndRecoveryAt4.d.flt.errEnd = some 580000000) ∧ (580000000 ≤ faultSourcesAndRecoveryAt4.d.tb2)) ∧
    ((12 < 27) ∧ (27 ≠ 40) ∧ (27 ≠ 68) ∧ (Obl.calm faultSourcesAndRecoveryAt5) ∧ ((faultSourcesAndRecoveryAt5.d.src 27).insts = [quiet]) ∧
      (quiet.scope = 9) ∧ (quiet.since = some 0) ∧ (9 ∉ (faultSourcesAndRecoveryAt5.d.src 27).conds) ∧ ((faultSourcesAndRecoveryAt5.d.src
      27).force = false) ∧ (faultSourcesAndRecoveryAt5.d.srcRecEn 27 = true) ∧ ((faultSourcesAndRecoveryAt5.d.src 27).out = false) ∧ (0 +
      faultSourcesAndRecoveryAt5.d.srcQuiet 27 * 1000000 ≤ faultSourcesAndRecoveryAt5.d.tb2) ∧ (faultSourcesAndRecoveryAt5.d.clocked = true) ∧
      ((List.filter (fun r => decide (faultSourcesAndRecoveryAt5.d.tb2 < r + faultSourcesAndRecoveryAt5.d.srcSpan 27))
      (faultSourcesAndRecoveryAt5.d.src 27).recs).length < faultSourcesAndRecoveryAt5.d.srcLimit 27)) ∧
    ((12 < 27) ∧ (27 ≠ 40) ∧ (27 ≠ 68) ∧ (Obl.calm faultSourcesAndRecoveryAt6) ∧ ((faultSourcesAndRecoveryAt6.d.src 27).insts = [quiet]) ∧
      (quiet.scope = 9) ∧ (quiet.since = some 0) ∧ (9 ∉ (faultSourcesAndRecoveryAt6.d.src 27).conds) ∧ ((faultSourcesAndRecoveryAt6.d.src
      27).force = false) ∧ (faultSourcesAndRecoveryAt6.d.srcRecEn 27 = true) ∧ ((faultSourcesAndRecoveryAt6.d.src 27).out = false) ∧ (0 +
      faultSourcesAndRecoveryAt6.d.srcQuiet 27 * 1000000 ≤ faultSourcesAndRecoveryAt6.d.tb2) ∧ (faultSourcesAndRecoveryAt6.d.clocked = true) ∧
      (faultSourcesAndRecoveryAt6.d.srcLimit 27 ≤ (List.filter (fun r => decide (faultSourcesAndRecoveryAt6.d.tb2 < r +
      faultSourcesAndRecoveryAt6.d.srcSpan 27)) (faultSourcesAndRecoveryAt6.d.src 27).recs).length)) ∧
    ((fatalOver.d.flt.relock = some (580000000, 3)) ∧ (fatalOver.d.flt.fatal = true) ∧ (580000000 ≤ fatalOver.d.tb2) ∧ (3 < 13) ∧
      (fatalOver.d.blankOn = true) ∧ (fatalOver.d.drv.armed = true) ∧ (Tab.wf { } fatalOver.d.fab.loops = true)) := by
  unfold Obl.calm
  and_intros <;> decide +kernel

theorem wit_blankAndRelease :
    ((ready.d.pwr.off = false) ∧ (ready.d.drv.armed = true) ∧ (Obl.calm ready) ∧ (∀ k < 16, (ready.d.slot k).state = SlotSt.free) ∧
      (ready.d.cmt.restoring = []) ∧ (Tab.wf { } ready.d.fab.cells = true) ∧ ((∃ w, 10 ≤ w ∧ Instr.blankNAssert 10 = Instr.blankNAssert w) ∨
      Instr.blankNAssert 10 = Instr.swBlank 0 1 ∧ ready.d.reach 0 = true ∧ ∀ n < 96, (ready.d.src n).force = false)) ∧
    ((ready.d.pwr.off = false) ∧ (ready.d.drv.armed = true) ∧ (Obl.calm ready) ∧ (∀ k < 16, (ready.d.slot k).state = SlotSt.free) ∧
      (ready.d.cmt.restoring = []) ∧ (Tab.wf { } ready.d.fab.cells = true) ∧ ((∃ w, 10 ≤ w ∧ Instr.swBlank 0 1 = Instr.blankNAssert w) ∨
      Instr.swBlank 0 1 = Instr.swBlank 0 1 ∧ ready.d.reach 0 = true ∧ ∀ n < 96, (ready.d.src n).force = false)) ∧
    (4 < 5) ∧
    ((blankPin.d.flt.blankN = true) ∧ (blankPin.d.drv.armed = true) ∧ (blankPin.d.blankOn = true) ∧ (blankPin.d.flt.causeEnd = none) ∧
      (blankPin.d.flt.swBlank = false) ∧ (blankPin.d.flt.fatal = false) ∧ (blankPin.d.flt.extest = false)) ∧
    ((blankFresh.d.blankOn = true) ∧ (blankFresh.d.flt.stage2 = false) ∧ (blankFresh.d.tb2 % 10000 = 0) ∧ (blankFresh.d.flt.blankAt <
      blankFresh.d.tb2) ∧ (Tab.wf { } blankFresh.d.fab.cells = true)) ∧
    ((blankAndReleaseAt1.d.blankOn = true) ∧ (blankAndReleaseAt1.d.flt.stage2 = true) ∧ (blankAndReleaseAt1.d.flt.causeEnd = some 579989999) ∧
      (579989999 + 10000 < blankAndReleaseAt1.d.tb2) ∧ (blankAndReleaseAt1.d.tb2 % 10000 = 0) ∧ (Tab.wf { } blankAndReleaseAt1.d.fab.cells =
      true)) := by
  unfold Obl.calm
  and_intros <;> first
    | decide +kernel
    | exact Or.inl ⟨_, by decide, rfl⟩
    | exact Or.inr (by decide +kernel)

theorem wit_measurementsDisciplineTime :
    ((measurementsDisciplineTimeAt1.d.pwr.off = false) ∧ (measurementsDisciplineTimeAt1.d.clocked = true)) ∧
    ((measurementsDisciplineTimeAt2.d.pwr.off = false) ∧ (measurementsDisciplineTimeAt2.d.clocked = true) ∧ (frameGood (frame 0 7) = true) ∧
      (174000 ≤ 174000) ∧ (∀ (p : ℕ), measurementsDisciplineTimeAt2.d.tim.lastSeq = some p → leField (frame 0 7) 12 2 = (p + 1) % 65536) ∧
      (measurementsDisciplineTimeAt2.d.tim.edge = some (579000123, 569000000, false)) ∧ (569000000 + 10000000 ≤
      measurementsDisciplineTimeAt2.d.tb2) ∧ (measurementsDisciplineTimeAt2.d.tb2 ≤ 569000000 + 900000000)) ∧
    ((measurementsDisciplineTimeAt3.d.pwr.off = false) ∧ (measurementsDisciplineTimeAt3.d.clocked = true) ∧ (frameGood (frame 0 7) = true) ∧ (0 ≤
      174000) ∧ (∀ (p : ℕ), measurementsDisciplineTimeAt3.d.tim.lastSeq = some p → leField (frame 0 7) 12 2 = (p + 1) % 65536) ∧
      (measurementsDisciplineTimeAt3.d.tim.edge = some (579000123, 569000000, false)) ∧ (569000000 + 10000000 ≤
      measurementsDisciplineTimeAt3.d.tb2) ∧ (measurementsDisciplineTimeAt3.d.tb2 ≤ 569000000 + 900000000)) ∧
    ((measurementsDisciplineTimeAt4.d.pwr.off = false) ∧ (measurementsDisciplineTimeAt4.d.clocked = true) ∧ (frameGood (frame 0 8) = false ∨
      174000 < 0 ∨ (∃ p, measurementsDisciplineTimeAt4.d.tim.lastSeq = some p ∧ leField (frame 0 8) 12 2 ≠ (p + 1) % 65536) ∨ ∀ (at0 : ℤ) (at2 :
      ℕ), measurementsDisciplineTimeAt4.d.tim.edge = some (at0, at2, false) → measurementsDisciplineTimeAt4.d.tb2 < at2 + 10000000 ∨ at2 +
      900000000 < measurementsDisciplineTimeAt4.d.tb2)) ∧
    ((ptm.d.tim.src = 2) ∧ (ptm.d.tim.ptmEn = true) ∧ (ptm.d.tim.ptmOut = false) ∧ (ptm.d.clocked = true) ∧ (ptm.d.io.linkUp = true) ∧
      (ptm.d.tim.ptmLast + ptm.d.tim.ptmPer * 1000000 ≤ ptm.d.tb2)) ∧
    ((measurementsDisciplineTimeAt5.d.tim.ptmOut = true) ∧ (measurementsDisciplineTimeAt5.d.clocked = true) ∧
      (measurementsDisciplineTimeAt5.d.tim.src = 2)) := by
  and_intros <;> first
    | decide +kernel
    | exact Or.inr (Or.inr (Or.inl ⟨6, rfl, by decide +kernel⟩))

theorem wit_timeIsSteppedAndSentOut :
    ((timeIsSteppedAndSentOutAt1.d.tim.lost = false) ∧ (timeIsSteppedAndSentOutAt1.d.clocked = true) ∧ (timeIsSteppedAndSentOutAt1.d.tim.src = 1 ∧
      (timeIsSteppedAndSentOutAt1.d.tim.quietFrom + 1100000000 < timeIsSteppedAndSentOutAt1.d.tb2 ∨ 3 ≤
      timeIsSteppedAndSentOutAt1.d.tim.edgesBare) ∨ timeIsSteppedAndSentOutAt1.d.tim.src = 2 ∧ (3 ≤ timeIsSteppedAndSentOutAt1.d.tim.ptmFails ∨
      timeIsSteppedAndSentOutAt1.d.tim.ptmEn = false ∨ timeIsSteppedAndSentOutAt1.d.tim.ptmLastOk + 4 * timeIsSteppedAndSentOutAt1.d.tim.ptmPer *
      1000000 < timeIsSteppedAndSentOutAt1.d.tb2))) ∧
    (timeIsSteppedAndSentOutAt2.d.reach 0 = true) ∧
    (timeIsSteppedAndSentOutAt3.d.reach 0 = true) ∧
    ((timeIsSteppedAndSentOutAt4.d.reach 0 = true) ∧ (1#32 = 1 ∨ 1#32 = 3) ∧ (timeIsSteppedAndSentOutAt4.d.tim.state ≠ 4) ∧
      (timeIsSteppedAndSentOutAt4.d.tim.src ≠ 0)) ∧
    ((timeIsSteppedAndSentOutAt5.d.reach 0 = true) ∧ (3#32 = 1 ∨ 3#32 = 3) ∧ (timeIsSteppedAndSentOutAt5.d.tim.state ≠ 4) ∧
      (timeIsSteppedAndSentOutAt5.d.tim.src = 0) ∧ (timeIsSteppedAndSentOutAt5.d.tim.stepUsed = true)) ∧
    ((timeIsSteppedAndSentOutAt6.d.reach 0 = true) ∧ (1#32 = 1 ∨ 1#32 = 3) ∧ (timeIsSteppedAndSentOutAt6.d.tim.state ≠ 4) ∧
      (timeIsSteppedAndSentOutAt6.d.tim.src = 0) ∧ (timeIsSteppedAndSentOutAt6.d.tim.stepUsed = false) ∧
      (timeIsSteppedAndSentOutAt6.d.hasScheduled = true) ∧ (1#32 = 1)) ∧
    ((timeIsSteppedAndSentOutAt7.d.reach 0 = true) ∧ (3#32 = 1 ∨ 3#32 = 3) ∧ (timeIsSteppedAndSentOutAt7.d.tim.state ≠ 4) ∧
      (timeIsSteppedAndSentOutAt7.d.tim.src = 0) ∧ (timeIsSteppedAndSentOutAt7.d.tim.stepUsed = false) ∧
      (timeIsSteppedAndSentOutAt7.d.hasScheduled = false)) ∧
    ((timeIsSteppedAndSentOutAt8.d.reach 0 = true) ∧ (timeIsSteppedAndSentOutAt8.d.tim.state = 4)) ∧
    ((timeIsSteppedAndSentOutAt9.d.reach 0 = true) ∧ (timeIsSteppedAndSentOutAt9.d.tim.state ≠ 4)) ∧
    ((timeIsSteppedAndSentOutAt9.d.reach 0 = true) ∧ (timeIsSteppedAndSentOutAt9.d.tim.state = 0) ∧ (timeIsSteppedAndSentOutAt9.d.tim.src = 0) ∧
      (timeIsSteppedAndSentOutAt9.d.tim.stepUsed = false) ∧ (timeIsSteppedAndSentOutAt9.d.hasScheduled = true)) ∧
    ((timeIsSteppedAndSentOutAt10.d.tim.outEn = true) ∧ (timeIsSteppedAndSentOutAt10.d.clocked = true) ∧ (↑timeIsSteppedAndSentOutAt10.d.tb0 +
      timeIsSteppedAndSentOutAt10.d.tim.outAdv = ↑(5 * 1000000000 + 1)) ∧ (1 < 2) ∧ (5 ≠ timeIsSteppedAndSentOutAt10.d.tim.ppsLast) ∧ (5 ≠
      timeIsSteppedAndSentOutAt10.d.tim.skipTo)) ∧
    ((timeIsSteppedAndSentOutAt11.d.tim.outEn = true) ∧ (timeIsSteppedAndSentOutAt11.d.clocked = true) ∧ (↑timeIsSteppedAndSentOutAt11.d.tb0 +
      timeIsSteppedAndSentOutAt11.d.tim.outAdv = ↑(5 * 1000000000 + 0)) ∧ (0 < 2) ∧ (5 ≠ timeIsSteppedAndSentOutAt11.d.tim.ppsLast) ∧ (5 =
      timeIsSteppedAndSentOutAt11.d.tim.skipTo)) ∧
    ((tod.d.tim.todEn = true) ∧ (tod.d.clocked = true) ∧ (tod.d.tb0 = 5 * 1000000000 + 10000000 + 1) ∧ (1 < 2) ∧ (5 ≠ tod.d.tim.todLast) ∧ (5 ≠
      tod.d.tim.skipTo) ∧ (tod.d.tim.leap < 4) ∧ (tod.d.tim.quality < 256) ∧ (5 < 2 ^ 48)) ∧
    ((timeIsSteppedAndSentOutAt12.d.tim.todEn = true) ∧ (timeIsSteppedAndSentOutAt12.d.clocked = true) ∧ (timeIsSteppedAndSentOutAt12.d.tb0 = 5 *
      1000000000 + 10000000 + 1) ∧ (1 < 2) ∧ (5 ≠ timeIsSteppedAndSentOutAt12.d.tim.todLast) ∧ (5 = timeIsSteppedAndSentOutAt12.d.tim.skipTo)) := by
  and_intros <;> decide +kernel

theorem wit_islandFollowsTheClaimedMap :
    ((islandFollowsTheClaimedMapAt1.isl.up = true) ∧ (5 < 1024) ∧ (3600003 = islandFollowsTheClaimedMapAt1.isl.tb1 / 1000000) ∧
      (islandFollowsTheClaimedMapAt1.isl.tb1 % 1000000 / 15625 = 5 % 64) ∧ (Tab.get 0 islandFollowsTheClaimedMapAt1.isl.taps 5 ≠ 3600003 + 1) ∧
      (islandFollowsTheClaimedMapAt1.isl.blank = (islandFollowsTheClaimedMapAt1.d.flt.blank && !islandFollowsTheClaimedMapAt1.d.flt.releasing)) ∧
      (Tab.wf none islandFollowsTheClaimedMapAt1.isl.ivs = true) ∧ (5 < 512)) ∧
    ((claimed.isl.up = true) ∧ (517 < 1024) ∧ (3600003 = claimed.isl.tb1 / 1000000) ∧ (claimed.isl.tb1 % 1000000 / 15625 = 517 % 64) ∧ (Tab.get 0
      claimed.isl.taps 517 ≠ 3600003 + 1) ∧ (claimed.isl.blank = (claimed.d.flt.blank && !claimed.d.flt.releasing)) ∧ (Tab.wf none claimed.isl.ivs
      = true) ∧ (517 = 512 + 5) ∧ (Tab.get none claimed.isl.ivs 5 = some iv5) ∧ (Tab.get none claimed.isl.map 5 = some c5) ∧ (iv5.pIn = some
      (3600003, 5000))) ∧
    ((island.isl.up = true) ∧ (517 < 1024) ∧ (3600003 = island.isl.tb1 / 1000000) ∧ (island.isl.tb1 % 1000000 / 15625 = 517 % 64) ∧ (Tab.get 0
      island.isl.taps 517 ≠ 3600003 + 1) ∧ (island.isl.blank = (island.d.flt.blank && !island.d.flt.releasing)) ∧ (Tab.wf none island.isl.ivs =
      true) ∧ (517 = 512 + 5) ∧ (Tab.get none island.isl.map 5 = none) ∧ (317 ≤ 317)) ∧
    ((islandFollowsTheClaimedMapAt2.isl.up = true) ∧ (517 < 1024) ∧ (3600003 = islandFollowsTheClaimedMapAt2.isl.tb1 / 1000000) ∧
      (islandFollowsTheClaimedMapAt2.isl.tb1 % 1000000 / 15625 = 517 % 64) ∧ (Tab.get 0 islandFollowsTheClaimedMapAt2.isl.taps 517 ≠ 3600003 + 1)
      ∧ (islandFollowsTheClaimedMapAt2.isl.blank = (islandFollowsTheClaimedMapAt2.d.flt.blank && !islandFollowsTheClaimedMapAt2.d.flt.releasing))
      ∧ (Tab.wf none islandFollowsTheClaimedMapAt2.isl.ivs = true) ∧ (517 = 512 + 5) ∧ (Tab.get none islandFollowsTheClaimedMapAt2.isl.map 5 =
      none) ∧ (316 < 317) ∧ ((Tab.get { } islandFollowsTheClaimedMapAt2.isl.uncl 5).isOpen = true) ∧ (islandFollowsTheClaimedMapAt2.isl.reserve =
      false) ∧ (Obl.storeRoom islandFollowsTheClaimedMapAt2)) ∧
    ((islandFollowsTheClaimedMapAt3.isl.up = true) ∧ (5 < 512) ∧ (Tab.get none islandFollowsTheClaimedMapAt3.isl.map 5 = none) ∧ ((Tab.get { }
      islandFollowsTheClaimedMapAt3.isl.uncl 5).isOpen = false) ∧ (100 ≤ (Tab.get { } islandFollowsTheClaimedMapAt3.isl.uncl 5).count)) ∧
    ((stamped.isl.up = true) ∧ (stamped.isl.deaf = false) ∧ (5 < 512) ∧ ((link (some 5)).out = 5) ∧ (List.find? (fun f => f.1 == 8)
      stamped.isl.fifo = some (8, 1234)) ∧ ((link (some 5)).inp = some 5) ∧ (Tab.get none stamped.isl.map 5 = none) ∧ ((Tab.get { }
      stamped.isl.uncl 5).isOpen = false)) ∧
    ((islandFollowsTheClaimedMapAt4.isl.up = true) ∧ (islandFollowsTheClaimedMapAt4.isl.deaf = false) ∧ (5 < 512) ∧ ((link (some 5)).out = 5) ∧
      (List.find? (fun f => f.1 == 8) islandFollowsTheClaimedMapAt4.isl.fifo = some (8, 1234)) ∧ ((link (some 5)).inp = some 5) ∧ (Tab.get none
      islandFollowsTheClaimedMapAt4.isl.map 5 = some c5) ∧ (c5.inp = 5) ∧ (Tab.get none islandFollowsTheClaimedMapAt4.isl.ivs 5 = some iv5)) ∧
    ((islandFollowsTheClaimedMapAt5.isl.up = true) ∧ (islandFollowsTheClaimedMapAt5.isl.deaf = false) ∧ (5 < 512) ∧ ((link none).out = 5) ∧
      (List.find? (fun f => f.1 == 8) islandFollowsTheClaimedMapAt5.isl.fifo = some (8, 1234)) ∧ ((link none).inp = none) ∧ (Tab.get none
      islandFollowsTheClaimedMapAt5.isl.map 5 = some c5) ∧ (Tab.get none islandFollowsTheClaimedMapAt5.isl.ivs 5 = some iv5) ∧
      (islandFollowsTheClaimedMapAt5.isl.reserve = false) ∧ (Obl.storeRoom islandFollowsTheClaimedMapAt5)) ∧
    ((islandFollowsTheClaimedMapAt6.isl.up = true) ∧ (islandFollowsTheClaimedMapAt6.isl.deaf = false) ∧ (5 < 512) ∧ ((link none).out = 5) ∧
      (List.find? (fun f => f.1 == 8) islandFollowsTheClaimedMapAt6.isl.fifo = some (8, 1234)) ∧ ((link none).inp = none) ∧ (Tab.get none
      islandFollowsTheClaimedMapAt6.isl.map 5 = some c5) ∧ (Tab.get none islandFollowsTheClaimedMapAt6.isl.ivs 5 = some iv5) ∧
      (islandFollowsTheClaimedMapAt6.isl.reserve = true)) ∧
    ((islandFollowsTheClaimedMapAt7.isl.up = true) ∧ (islandFollowsTheClaimedMapAt7.isl.deaf = true)) ∧
    ((islandFollowsTheClaimedMapAt8.isl.up = true) ∧ (islandFollowsTheClaimedMapAt8.isl.deaf = true)) ∧
    ((islandFollowsTheClaimedMapAt9.isl.up = true) ∧ (islandFollowsTheClaimedMapAt9.isl.deaf = false) ∧
      (islandFollowsTheClaimedMapAt9.isl.lastLink + 2000000000 < islandFollowsTheClaimedMapAt9.isl.mono)) := by
  unfold Obl.storeRoom
  and_intros <;> decide +kernel

theorem wit_islandKeepsItsRecords :
    ((claimed.isl.up = true) ∧ (1 = claimed.isl.tb1 / (claimed.isl.splitMin * 60000000000)) ∧ (claimed.isl.splitAt / (claimed.isl.splitMin *
      60000000000) < 1) ∧ (claimed.isl.ivs = [(5, some iv5)]) ∧ (claimed.isl.uncl = []) ∧ (Tab.get none claimed.isl.map 5 = some c5) ∧
      (claimed.isl.reserve = false) ∧ (Obl.storeRoom claimed) ∧ (claimed.isl.next % 64 ≠ 63 ∨ 2 ≤ claimed.isl.freeBlocks)) ∧
    ((islandKeepsItsRecordsAt1.isl.up = true) ∧ (full64.trailer = none) ∧ (List.find? (fun x => x.trailer.isNone && (x.recs.length == 64 || decide
      (x.openAt + islandKeepsItsRecordsAt1.isl.blockMax * 60000000000 ≤ islandKeepsItsRecordsAt1.isl.mono))) islandKeepsItsRecordsAt1.isl.blocks =
      some full64) ∧ (full64.recs.length = 64) ∧ (∀ x ∈ islandKeepsItsRecordsAt1.isl.blocks, x.num = full64.num → x = full64)) ∧
    ((islandKeepsItsRecordsAt2.isl.up = true) ∧ (old6.trailer = none) ∧ (List.find? (fun x => x.trailer.isNone && (x.recs.length == 64 || decide
      (x.openAt + islandKeepsItsRecordsAt2.isl.blockMax * 60000000000 ≤ islandKeepsItsRecordsAt2.isl.mono))) islandKeepsItsRecordsAt2.isl.blocks =
      some old6) ∧ (islandKeepsItsRecordsAt2.isl.blocks = [old6]) ∧ (old6.num = islandKeepsItsRecordsAt2.isl.next / 64) ∧ (old6.recs.length =
      islandKeepsItsRecordsAt2.isl.next % 64) ∧ (0 < old6.recs.length)) ∧
    ((islandKeepsItsRecordsAt3.isl.up = true) ∧ (islandKeepsItsRecordsAt3.isl.ckptAt + 1000000000 ≤ islandKeepsItsRecordsAt3.isl.mono)) ∧
    ((downIsl.isl.up = false ∨ downIsl.isl.dip = true) ∧ (downIsl.isl.ckptUncl = []) ∧ (Obl.storeRoom downIsl) ∧ (downIsl.isl.ckptIvs = [])) ∧
    ((islandKeepsItsRecordsAt4.isl.up = false ∨ islandKeepsItsRecordsAt4.isl.dip = true) ∧ (islandKeepsItsRecordsAt4.isl.ckptUncl = []) ∧
      (Obl.storeRoom islandKeepsItsRecordsAt4) ∧ (islandKeepsItsRecordsAt4.isl.ckptIvs = [(5, some iv5)]) ∧ (islandKeepsItsRecordsAt4.isl.next %
      64 ≠ 0) ∧ (islandKeepsItsRecordsAt4.isl.next % 64 < 62) ∧ (islandKeepsItsRecordsAt4.isl.reserve = false)) ∧
    ((island.isl.up = true) ∧ (island.isl.uncClock = false)) ∧
    ((islandKeepsItsRecordsAt5.isl.up = true) ∧ (islandKeepsItsRecordsAt5.isl.uncClock = true)) := by
  unfold Obl.storeRoom
  and_intros <;> decide +kernel

theorem wit_readerPortAnswers :
    ((readerPortAnswersAt1.isl.up = true) ∧ (readerPortAnswersAt1.isl.certs = false) ∧ (readerPortAnswersAt1.isl.inTrailer = false) ∧
      (readerPortAnswersAt1.isl.streamOff = 0) ∧ (readerPortAnswersAt1.isl.oldest ≤ readerPortAnswersAt1.isl.streamPos) ∧
      (readerPortAnswersAt1.isl.recAt readerPortAnswersAt1.isl.streamPos = some (rec0 64)) ∧ ((rec0 64).length = 256)) ∧
    ((readerPortAnswersAt2.isl.up = true) ∧ (readerPortAnswersAt2.isl.certs = false) ∧ (readerPortAnswersAt2.isl.inTrailer = false) ∧
      (readerPortAnswersAt2.isl.streamOff = 0) ∧ (readerPortAnswersAt2.isl.oldest ≤ readerPortAnswersAt2.isl.streamPos) ∧
      (readerPortAnswersAt2.isl.recAt readerPortAnswersAt2.isl.streamPos = none)) ∧
    ((readerPortAnswersAt3.isl.up = true) ∧ (readerPortAnswersAt3.isl.certs = false) ∧ (readerPortAnswersAt3.isl.inTrailer = false) ∧
      (readerPortAnswersAt3.isl.streamOff = 0) ∧ (readerPortAnswersAt3.isl.streamPos < readerPortAnswersAt3.isl.oldest)) ∧
    ((island.isl.up = true) ∧ (island.isl.reserve = false)) ∧
    ((island.isl.up = true) ∧ (19 < 20) ∧ ([7, 8] ≠ []) ∧ ([7, 8].length ≤ 239)) ∧
    ((readerPortAnswersAt4.isl.up = true) ∧ (1 ≤ 1) ∧ (1 = 1 ∧ (readerPortAnswersAt4.isl.unsealF < readerPortAnswersAt4.isl.seals ∨ 8 ≤
      readerPortAnswersAt4.isl.seals) ∨ 1 = 0 ∧ 8 ≤ readerPortAnswersAt4.isl.unsealF)) ∧
    ((readerPortAnswersAt5.isl.up = true) ∧ (1 ≤ 1) ∧ (1 = 1 ∧ readerPortAnswersAt5.isl.seals ≤ readerPortAnswersAt5.isl.unsealF ∧
      readerPortAnswersAt5.isl.seals < 8 ∨ 1 = 0 ∧ readerPortAnswersAt5.isl.unsealF < 8) ∧ (Obl.storeRoom readerPortAnswersAt5)) ∧
    ((island.isl.up = true) ∧ (0 ≤ 1) ∧ (0 = 1 ∧ island.isl.seals ≤ island.isl.unsealF ∧ island.isl.seals < 8 ∨ 0 = 0 ∧ island.isl.unsealF < 8) ∧
      (Obl.storeRoom island)) ∧
    ((readerPortAnswersAt6.isl.up = true) ∧ (0 ≤ 1) ∧ (0 = 1 ∧ (readerPortAnswersAt6.isl.unsealF < readerPortAnswersAt6.isl.seals ∨ 8 ≤
      readerPortAnswersAt6.isl.seals) ∨ 0 = 0 ∧ 8 ≤ readerPortAnswersAt6.isl.unsealF)) ∧
    ((readerPortAnswersAt7.isl.up = true) ∧ (readerPortAnswersAt7.isl.unsealF < readerPortAnswersAt7.isl.seals)) ∧
    ((readerPortAnswersAt8.isl.up = true) ∧ (readerPortAnswersAt8.isl.seals ≤ readerPortAnswersAt8.isl.unsealF) ∧ (2 ≤ [1, 2].length) ∧ ([1,
      2].length ≤ 240)) := by
  unfold Obl.storeRoom
  and_intros <;> first
    | decide +kernel
    | exact Or.inr (by decide +kernel)
    | exact sealedAt _ (by decide +kernel)
    | exact unsealedAt _ (by decide +kernel)
    | exact Or.inl ⟨rfl, unsealedAt _ (by decide +kernel), sealsFew _ (by decide +kernel)⟩

theorem wit_mailboxCarriesRequests :
    ((beats.isl.up = true) ∧ (beats.d.clocked = true)) ∧
    ((0 ∉ (missed.d.src 90).conds) ∧ (missed.d.mi.lastBeat + 100000000 ≤ missed.d.tb2) ∧ (missed.d.clocked = true) ∧ (missed.d.mi.reqs = [])) ∧
    ((Obl.adminFront mailboxCarriesRequestsAt1 0 69 (cRead 1 64 1 256)) ∧ (sqeClean (cRead 1 64 1 256).sqe = true) ∧ (sqeAddr (cRead 1 64 1
      256).sqe % 8 = 0) ∧ (sqeField (cRead 1 64 1 256).sqe 20 1 ≤ 2) ∧ (mailboxCarriesRequestsAt1.d.mi.alive = true)) ∧
    ((Obl.adminFront mailboxCarriesRequestsAt2 0 69 (cRead 2 64 1 256)) ∧ (sqeClean (cRead 2 64 1 256).sqe = true) ∧ (sqeAddr (cRead 2 64 1
      256).sqe % 8 = 0) ∧ (sqeField (cRead 2 64 1 256).sqe 20 1 ≤ 2) ∧ (mailboxCarriesRequestsAt2.d.mi.alive = false)) ∧
    ((Obl.adminFront mailboxCarriesRequestsAt3 0 69 (cRead 3 64 1 256)) ∧ (sqeClean (cRead 3 64 1 256).sqe = false ∨ sqeAddr (cRead 3 64 1
      256).sqe % 8 ≠ 0 ∨ 2 < sqeField (cRead 3 64 1 256).sqe 20 1)) ∧
    ((mailboxCarriesRequestsAt4.d.mi.reqs = [(0, (xRead 2 69 1 256).idx, (xRead 2 69 1 256).sqe)]) ∧ (mailboxCarriesRequestsAt4.isl.up = true) ∧
      (mailboxCarriesRequestsAt4.d.clocked = true) ∧ ((mailboxCarriesRequestsAt4.d.fn 0).cmds = [xRead 2 69 1 256]) ∧
      ((mailboxCarriesRequestsAt4.d.fn 0).orphans = []) ∧ ((mailboxCarriesRequestsAt4.d.fn 0).flrAt = none) ∧ ((mailboxCarriesRequestsAt4.d.fn
      0).aqActive = true) ∧ (sqeField (xRead 2 69 1 256).sqe 20 1 = 2) ∧ (mailboxCarriesRequestsAt4.isl.ackSrc = true) ∧ (sqeField (xRead 2 69 1
      256).sqe 24 8 < mailboxCarriesRequestsAt4.isl.next) ∧ (mailboxCarriesRequestsAt4.isl.reserve = false)) ∧
    ((mailboxCarriesRequestsAt5.d.mi.reqs = [(0, (xRead 2 69 1 256).idx, (xRead 2 69 1 256).sqe)]) ∧ (mailboxCarriesRequestsAt5.isl.up = true) ∧
      (mailboxCarriesRequestsAt5.d.clocked = true) ∧ ((mailboxCarriesRequestsAt5.d.fn 0).cmds = [xRead 2 69 1 256]) ∧
      ((mailboxCarriesRequestsAt5.d.fn 0).orphans = []) ∧ ((mailboxCarriesRequestsAt5.d.fn 0).flrAt = none) ∧ ((mailboxCarriesRequestsAt5.d.fn
      0).aqActive = true) ∧ (sqeField (xRead 2 69 1 256).sqe 20 1 = 2) ∧ (mailboxCarriesRequestsAt5.isl.ackSrc = false)) ∧
    ((mailboxCarriesRequestsAt6.d.mi.reqs = [(0, (xRead 1 69 1 256).idx, (xRead 1 69 1 256).sqe)]) ∧ (mailboxCarriesRequestsAt6.isl.up = true) ∧
      (mailboxCarriesRequestsAt6.d.clocked = true) ∧ ((mailboxCarriesRequestsAt6.d.fn 0).cmds = [xRead 1 69 1 256]) ∧
      ((mailboxCarriesRequestsAt6.d.fn 0).orphans = []) ∧ ((mailboxCarriesRequestsAt6.d.fn 0).flrAt = none) ∧ ((mailboxCarriesRequestsAt6.d.fn
      0).aqActive = true) ∧ (sqeField (xRead 1 69 1 256).sqe 20 1 = 1) ∧ (mailboxCarriesRequestsAt6.isl.oldest ≤ sqeField (xRead 1 69 1 256).sqe
      24 8) ∧ (sqeField (xRead 1 69 1 256).sqe 24 8 < mailboxCarriesRequestsAt6.isl.next) ∧ (sqeField (xRead 1 69 1 256).sqe 32 4 = 1) ∧ (sqeField
      (xRead 1 69 1 256).sqe 16 4 = 256) ∧ (mailboxCarriesRequestsAt6.isl.recAt (sqeField (xRead 1 69 1 256).sqe 24 8) = some (rec0 69)) ∧ ((rec0
      69).length = 256)) := by
  unfold Obl.adminFront
  and_intros <;> decide +kernel

theorem wit_spdmIsAnswered :
    ((ready.d.spdmUp true = true) ∧ (badMsg.good = false) ∧ (Instr.finish true badMsg ∈ [Instr.getVersion true badMsg, Instr.getCapabilities true
      badMsg, Instr.negotiateAlgorithms true badMsg, Instr.getDigests true badMsg, Instr.getCertificate true badMsg, Instr.spdmChallenge true
      badMsg, Instr.getMeasurements true badMsg, Instr.keyExchange true badMsg, Instr.finish true badMsg, Instr.heartbeat true badMsg,
      Instr.endSession true badMsg])) ∧
    ((ready.d.spdmUp true = true) ∧ ((msg 0).good = true) ∧ ((Instr.getVersion true (msg 0), 4, []) ∈ ([(Instr.getVersion true (msg 0), 4, []),
      (Instr.getCapabilities true (msg 0), 97, []), (Instr.negotiateAlgorithms true (msg 0), 99, []), (Instr.getDigests true (msg 0), 1,
      digestBytes (Config.sha3 (Config.certChain false)))] ++ if (msg 0).param = 0 then [(Instr.getCertificate true (msg 0), 2, Config.certChain
      false), (Instr.spdmChallenge true (msg 0), 3, Config.sign false (Config.spdmBody ready.d.fresh)), (Instr.getMeasurements true (msg 0), 96, 8
      :: Config.sign false [8])] else [(Instr.getCertificate true (msg 0), 127, []), (Instr.spdmChallenge true (msg 0), 127, [])]) ++ if 8 < (msg
      0).param ∧ (msg 0).param ≠ 255 then [(Instr.getMeasurements true (msg 0), 127, [])] else [])) ∧
    ((ready.d.spdmUp true = true) ∧ ((msg 5).good = true) ∧ (1 ≤ (msg 5).param) ∧ ((msg 5).param ≤ 8)) ∧
    ((ready.d.spdmUp true = true) ∧ ((msg 7).good = true) ∧ ((ready.d.session true).state = 0)) ∧
    ((ready.d.spdmUp true = true) ∧ ((msg 7).good = true) ∧ (Instr.finish true (msg 7) ∈ ((if (ready.d.session true).state = 0 then [] else
      [Instr.keyExchange true (msg 7)]) ++ if (ready.d.session true).state = 1 then [] else [Instr.finish true (msg 7)]) ++ if (ready.d.session
      true).state = 2 then [] else [Instr.heartbeat true (msg 7), Instr.endSession true (msg 7)])) ∧
    ((spdmIsAnsweredAt1.d.spdmUp true = true) ∧ ((msg 7).good = true) ∧ ((spdmIsAnsweredAt1.d.session true).state = 1)) ∧
    ((spdmIsAnsweredAt1.d.spdmUp true = true) ∧ ((msg 7).good = true) ∧ (Instr.heartbeat true (msg 7) ∈ ((if (spdmIsAnsweredAt1.d.session
      true).state = 0 then [] else [Instr.keyExchange true (msg 7)]) ++ if (spdmIsAnsweredAt1.d.session true).state = 1 then [] else [Instr.finish
      true (msg 7)]) ++ if (spdmIsAnsweredAt1.d.session true).state = 2 then [] else [Instr.heartbeat true (msg 7), Instr.endSession true (msg
      7)])) ∧
    ((spdmIsAnsweredAt2.d.spdmUp true = true) ∧ ((msg 7).good = true) ∧ ((spdmIsAnsweredAt2.d.session true).state = 2)) ∧
    ((spdmIsAnsweredAt2.d.spdmUp true = true) ∧ ((msg 7).good = true) ∧ (Instr.keyExchange true (msg 7) ∈ ((if (spdmIsAnsweredAt2.d.session
      true).state = 0 then [] else [Instr.keyExchange true (msg 7)]) ++ if (spdmIsAnsweredAt2.d.session true).state = 1 then [] else [Instr.finish
      true (msg 7)]) ++ if (spdmIsAnsweredAt2.d.session true).state = 2 then [] else [Instr.heartbeat true (msg 7), Instr.endSession true (msg
      7)])) ∧
    (((spdmIsAnsweredAt3.d.session true).beat = some 580000000) ∧ (580000000 ≤ spdmIsAnsweredAt3.d.tb2) ∧ ((spdmIsAnsweredAt3.d.session
      true).state = 2)) := by
  and_intros <;> decide +kernel

theorem wit_sessionsEnd :
    (((inSession.d.session true).state ≠ 0) ∧ (Obl.sessionEndsBy inSession true (Instr.endSession true (msg 0)))) ∧
    (((inSession.d.session true).state ≠ 0) ∧ (Obl.sessionEndsBy inSession true (Instr.heartbeatTimeout true))) ∧
    (((inSession.d.session true).state ≠ 0) ∧ (Obl.sessionEndsBy inSession true (Instr.supervisorRestart true))) ∧
    (((inSession.d.session true).state ≠ 0) ∧ (Obl.sessionEndsBy inSession true (Instr.flr 0))) ∧
    (((inSession.d.session true).state ≠ 0) ∧ (Obl.sessionEndsBy inSession true Instr.linkDown)) := by
  unfold Obl.sessionEndsBy
  and_intros <;> first
    | decide +kernel
    | exact Or.inl ⟨_, rfl, by decide +kernel, by decide +kernel, by decide +kernel⟩
    | exact Or.inr (Or.inl ⟨_, rfl, rfl, by decide +kernel⟩)
    | exact Or.inr (Or.inr (Or.inl ⟨_, rfl, by decide +kernel, by decide +kernel, by decide +kernel⟩))
    | exact Or.inr (Or.inr (Or.inr (by decide +kernel)))

theorem wit_debugIsUnlockedByToken :
    (ready.d.reach 0 = true) ∧
    ((ready.d.clocked = true) ∧ (ready.d.pwr.supUp = true)) ∧
    ((debugIsUnlockedByTokenAt1.d.reach 0 = true) ∧ (HostRead.ur ≠ HostRead.ok)) ∧
    (debugIsUnlockedByTokenAt2.d.reach 0 = true) ∧
    ((ready.d.pwr.off = false) ∧ (3 = if 4 ≤ 4 ∧ ready.d.sec.level = 0 then 3 else 4) ∧ (3 ≠ 0) ∧ (ready.d.blankCause = false) ∧ (ready.d.blankOn
      = false)) ∧
    ((ready.d.pwr.off = false) ∧ (0 = if 4 ≤ 0 ∧ ready.d.sec.level = 0 then 3 else 0) ∧ (0 = 0) ∧ (ready.d.drv.armed = true) ∧ (Obl.calm ready) ∧
      (∀ k < 16, (ready.d.slot k).state = SlotSt.free) ∧ (ready.d.cmt.restoring = []) ∧ (Tab.wf { } ready.d.fab.cells = true)) := by
  unfold Obl.calm
  and_intros <;> decide +kernel

theorem wit_dawnRunsItsSteps :
    ((halted.d.pwr.off = true ∨ halted.d.pwr.phase = Phase.stopped ∧ halted.d.pwr.halt = 1) ∧ (halted.isl.up = false ∨ halted.isl.uncClock =
      false)) ∧
    ((parked.d.reach 0 = true) ∧ (bitOf (2#32).toNat 1 = true) ∧ (parked.d.pwr.phase = Phase.parked) ∧ (∀ n < 13, (parked.d.src n).conds = [] ∧
      (parked.d.src n).force = false) ∧ (parked.d.pwr.vinWarn = false) ∧ (parked.isl.up = false ∨ parked.isl.uncClock = false)) ∧
    ((ready.d.reach 0 = true) ∧ (bitOf (2#32).toNat 0 = false) ∧ (ready.d.pwr.phase ≠ Phase.parked ∨ ∃ n < 13, (ready.d.src n).conds ≠ [])) ∧
    ((dawnRunsItsStepsAt1.d.pwr.phase = Phase.dawn) ∧ (dawnRunsItsStepsAt1.d.clocked = true) ∧ (dawnRunsItsStepsAt1.d.flt.fatal = false) ∧
      (dawnRunsItsStepsAt1.d.pwr.duskWait = false) ∧ (dawnRunsItsStepsAt1.d.pwr.step = 0) ∧ (dawnRunsItsStepsAt1.d.pwr.rails = 63) ∧
      (dawnRunsItsStepsAt1.d.pwr.pllLock = true)) ∧
    ((dawnRunsItsStepsAt2.d.pwr.phase = Phase.dawn) ∧ (dawnRunsItsStepsAt2.d.clocked = true) ∧ (dawnRunsItsStepsAt2.d.flt.fatal = false) ∧
      (dawnRunsItsStepsAt2.d.pwr.duskWait = false) ∧ (dawnRunsItsStepsAt2.d.pwr.step = 0) ∧ (dawnRunsItsStepsAt2.d.pwr.rails = 31) ∧
      (dawnRunsItsStepsAt2.d.pwr.stepAt + 100000000 ≤ dawnRunsItsStepsAt2.d.tb2) ∧ (0 ∉ (dawnRunsItsStepsAt2.d.src 3).conds) ∧
      (dawnRunsItsStepsAt2.d.drv.armed = false)) ∧
    ((dawnRunsItsStepsAt3.d.pwr.phase = Phase.dawn) ∧ (dawnRunsItsStepsAt3.d.clocked = true) ∧ (dawnRunsItsStepsAt3.d.flt.fatal = false) ∧
      (dawnRunsItsStepsAt3.d.pwr.duskWait = false) ∧ (dawnRunsItsStepsAt3.d.pwr.step = 1)) ∧
    ((dawnRunsItsStepsAt4.d.pwr.phase = Phase.dawn) ∧ (dawnRunsItsStepsAt4.d.clocked = true) ∧ (dawnRunsItsStepsAt4.d.flt.fatal = false) ∧
      (dawnRunsItsStepsAt4.d.pwr.duskWait = false) ∧ (dawnRunsItsStepsAt4.d.pwr.step = 2) ∧ (0 ∉ (dawnRunsItsStepsAt4.d.src 12).conds) ∧
      (dawnRunsItsStepsAt4.d.drv.armed = false)) ∧
    ((dawnRunsItsStepsAt5.d.pwr.phase = Phase.dawn) ∧ (dawnRunsItsStepsAt5.d.clocked = true) ∧ (dawnRunsItsStepsAt5.d.flt.fatal = false) ∧
      (dawnRunsItsStepsAt5.d.pwr.duskWait = false) ∧ (dawnRunsItsStepsAt5.d.pwr.step = 3) ∧ (dawnRunsItsStepsAt5.d.blankCause = false) ∧
      (dawnRunsItsStepsAt5.d.blankOn = false) ∧ (Tab.wf { } dawnRunsItsStepsAt5.d.fab.cells = true) ∧ (Tab.wf { } dawnRunsItsStepsAt5.d.fab.loops
      = true)) ∧
    ((dawnRunsItsStepsAt6.d.pwr.phase = Phase.dawn) ∧ (dawnRunsItsStepsAt6.d.clocked = true) ∧ (dawnRunsItsStepsAt6.d.flt.fatal = false) ∧
      (dawnRunsItsStepsAt6.d.pwr.duskWait = false) ∧ (dawnRunsItsStepsAt6.d.pwr.step = 4) ∧ (Tab.wf { } dawnRunsItsStepsAt6.d.fab.cells = true) ∧
      (Tab.wf { } dawnRunsItsStepsAt6.d.fab.loops = true)) ∧
    ((dawnRunsItsStepsAt7.d.pwr.phase = Phase.dawn) ∧ (dawnRunsItsStepsAt7.d.clocked = true) ∧ (dawnRunsItsStepsAt7.d.flt.fatal = false) ∧
      (dawnRunsItsStepsAt7.d.pwr.duskWait = false) ∧ (dawnRunsItsStepsAt7.d.pwr.step = 5 ∨ dawnRunsItsStepsAt7.d.pwr.step = 6) ∧ (litCells
      dawnRunsItsStepsAt7.net dawnRunsItsStepsAt7.d = [])) ∧
    ((dawnRunsItsStepsAt8.d.pwr.phase = Phase.dawn) ∧ (dawnRunsItsStepsAt8.d.clocked = true) ∧ (dawnRunsItsStepsAt8.d.flt.fatal = false) ∧
      (dawnRunsItsStepsAt8.d.pwr.duskWait = false) ∧ (dawnRunsItsStepsAt8.d.pwr.step = 5 ∨ dawnRunsItsStepsAt8.d.pwr.step = 6) ∧ (litCells
      dawnRunsItsStepsAt8.net dawnRunsItsStepsAt8.d = [])) ∧
    ((lockWait.d.pwr.phase = Phase.dawn) ∧ (lockWait.d.clocked = true) ∧ (lockWait.d.flt.fatal = false) ∧ (lockWait.d.pwr.duskWait = false) ∧
      (lockWait.d.pwr.step = 6) ∧ (litCells lockWait.net lockWait.d = [2]) ∧ ((lockWait.d.cell 2).locked = false) ∧ (lockWait.d.pwr.stepAt +
      100000000 ≤ lockWait.d.tb2) ∧ (2 ∉ (lockWait.d.src 28).conds)) ∧
    ((dawnRunsItsStepsAt9.d.pwr.phase = Phase.dawn) ∧ (dawnRunsItsStepsAt9.d.clocked = true) ∧ (dawnRunsItsStepsAt9.d.flt.fatal = false) ∧
      (dawnRunsItsStepsAt9.d.pwr.duskWait = false) ∧ (dawnRunsItsStepsAt9.d.pwr.step = 7) ∧ (dawnRunsItsStepsAt9.d.mi.alive = true) ∧
      (dawnRunsItsStepsAt9.isl.up = true) ∧ (dawnRunsItsStepsAt9.isl.dip = false)) ∧
    ((dawnRunsItsStepsAt10.d.pwr.phase = Phase.dawn) ∧ (dawnRunsItsStepsAt10.d.clocked = true) ∧ (dawnRunsItsStepsAt10.d.flt.fatal = false) ∧
      (dawnRunsItsStepsAt10.d.pwr.duskWait = false) ∧ (dawnRunsItsStepsAt10.d.pwr.step = 7) ∧ (dawnRunsItsStepsAt10.d.mi.alive = false) ∧
      (dawnRunsItsStepsAt10.d.pwr.stepAt + 100000000 ≤ dawnRunsItsStepsAt10.d.tb2)) ∧
    ((dawnRunsItsStepsAt11.d.pwr.phase = Phase.dawn) ∧ (dawnRunsItsStepsAt11.d.clocked = true) ∧ (dawnRunsItsStepsAt11.d.flt.fatal = false) ∧
      (dawnRunsItsStepsAt11.d.pwr.duskWait = false) ∧ (dawnRunsItsStepsAt11.d.pwr.step = 8) ∧ (dawnRunsItsStepsAt11.d.pwr.done = false) ∧
      (dawnRunsItsStepsAt11.d.pwr.off = false) ∧ (dawnRunsItsStepsAt11.d.flt.blank = false)) ∧
    ((dawnRunsItsStepsAt12.d.pwr.phase = Phase.dawn) ∧ (dawnRunsItsStepsAt12.d.flt.fatal = true) ∧ (dawnRunsItsStepsAt12.d.pwr.duskWait = false)) := by
  and_intros <;> decide +kernel

theorem wit_duskPutsToRest :
    ((twoQueues.d.reach 0 = true) ∧ (twoQueues.d.pwr.phase = Phase.run) ∧ (twoQueues.d.cal.run = none) ∧ (∀ l < 4, (twoQueues.d.lane l).bound =
      false)) ∧
    ((duskPutsToRestAt1.d.reach 0 = true) ∧ (duskPutsToRestAt1.d.pwr.phase = Phase.dawn)) ∧
    ((parked.d.reach 0 = true) ∧ (parked.d.pwr.phase ∈ [Phase.dusk, Phase.parked, Phase.stopped])) ∧
    ((duskPutsToRestAt2.d.pwr.phase = Phase.dawn) ∧ (duskPutsToRestAt2.d.clocked = true) ∧ (duskPutsToRestAt2.d.pwr.duskWait = true) ∧
      (duskPutsToRestAt2.d.pwr.step = 8) ∧ (duskPutsToRestAt2.d.cal.run = none) ∧ (∀ l < 4, (duskPutsToRestAt2.d.lane l).bound = false)) ∧
    ((duskPutsToRestAt3.d.pwr.phase = Phase.dusk) ∧ (duskPutsToRestAt3.d.clocked = true) ∧ (duskPutsToRestAt3.d.pwr.step = 0) ∧ (∀ q < 64,
      (duskPutsToRestAt3.d.queue q).state ≠ QState.aborting ∧ (duskPutsToRestAt3.d.queue q).state ≠ QState.enablePending)) ∧
    ((duskPutsToRestAt4.d.pwr.phase = Phase.dusk) ∧ (duskPutsToRestAt4.d.clocked = true) ∧ (duskPutsToRestAt4.d.pwr.step = 1) ∧
      (duskPutsToRestAt4.d.blankOn = true)) ∧
    ((bright.d.pwr.phase = Phase.dusk) ∧ (bright.d.clocked = true) ∧ (bright.d.pwr.step = 1) ∧ (bright.d.blankOn = false) ∧ (Tab.wf { }
      bright.d.fab.cells = true)) ∧
    ((duskPutsToRestAt5.d.pwr.phase = Phase.dusk) ∧ (duskPutsToRestAt5.d.clocked = true) ∧ (duskPutsToRestAt5.d.pwr.step = 2) ∧ (Tab.wf { }
      duskPutsToRestAt5.d.fab.loops = true)) ∧
    ((duskPutsToRestAt6.d.pwr.phase = Phase.dusk) ∧ (duskPutsToRestAt6.d.clocked = true) ∧ (duskPutsToRestAt6.d.pwr.step = 4) ∧
      (duskPutsToRestAt6.d.pwr.stepAt + 8000000 ≤ duskPutsToRestAt6.d.tb2) ∧ (Tab.wf { } duskPutsToRestAt6.d.fab.loops = true)) ∧
    ((duskPutsToRestAt7.d.pwr.phase = Phase.dusk) ∧ (duskPutsToRestAt7.d.clocked = true) ∧ (duskPutsToRestAt7.d.pwr.step = 5)) := by
  and_intros <;> decide +kernel

theorem wit_supplyIsWatched :
    ((ready.d.pwr.off = false) ∧ (ready.d.pwr.vinWarn = false) ∧ (ready.d.pwr.vWarn - 1 < ready.d.pwr.vWarn) ∧ (0 ∉ (ready.d.src 15).conds) ∧
      (ready.d.cal.again = false)) ∧
    ((Obl.quietDevice ready) ∧ (ready.d.cal.storing = false) ∧ (3699 < 3800) ∧ (0 ∉ (ready.d.src 1).conds)) ∧
    ((Obl.quietDevice ready) ∧ (ready.d.cal.storing = false) ∧ (3699 < 3700) ∧ (Tab.wf { } ready.d.fab.loops = true)) ∧
    ((Obl.quietDevice ready) ∧ (ready.d.cal.storing = false) ∧ (6200 < 6201) ∧ (0 ∉ (ready.d.src 2).conds)) ∧
    ((warned.d.pwr.off = false) ∧ ((warned.d.src 1).conds = []) ∧ ((warned.d.src 2).conds = []) ∧ (warned.d.pwr.vinWarn = true) ∧
      (warned.d.pwr.vWarn + 50 ≤ warned.d.pwr.vWarn + 50)) ∧
    ((Obl.fatalStands supplyIsWatchedAt1 1 held) ∧ ((supplyIsWatchedAt1.d.src 2).conds = []) ∧ (supplyIsWatchedAt1.d.pwr.vinWarn = false) ∧ (3800
      ≤ 3800)) ∧
    ((Obl.quietDevice ready) ∧ (4 < 5) ∧ (bitOf ready.d.pwr.rails 4 = true) ∧ (railIn 4 0 = false) ∧ (0 ∉ (ready.d.src 3).conds)) ∧
    ((Obl.quietDevice ready) ∧ (bitOf ready.d.pwr.rails 5 = true) ∧ (4000 ≤ 4699) ∧ (4699 < 4700) ∧ ((ready.d.src 11).conds = []) ∧ (0 ∉
      (ready.d.src 18).conds)) ∧
    ((Obl.fatalStands supplyIsWatchedAt2 3 held) ∧ (0 < 5) ∧ (bitOf supplyIsWatchedAt2.d.pwr.rails 0 = false) ∧ (railIn 0 760 = true) ∧
      ((supplyIsWatchedAt2.d.pwr.rails + 2 ^ 0) % 32 = 31)) ∧
    ((supplyIsWatchedAt3.d.tb2 % 1000000 = 0) ∧ (supplyIsWatchedAt3.d.tb2 ≠ 0) ∧ (supplyIsWatchedAt3.d.pwr.meanAt ≠ supplyIsWatchedAt3.d.tb2 + 1)
      ∧ (supplyIsWatchedAt3.d.clocked = true) ∧ (65535 < 65536) ∧ (5000 < 65536)) ∧
    ((Obl.quietDevice supplyIsWatchedAt4) ∧ (supplyIsWatchedAt4.d.flt.permit = false)) := by
  unfold Obl.quietDevice Obl.fatalStands Obl.calm
  and_intros <;> decide +kernel

theorem wit_clocksAndTemperatureAreWatched :
    ((Obl.quietDevice refFine) ∧ (refFine.d.pwr.pllLock = true) ∧ (0 ∉ (refFine.d.src 4).conds)) ∧
    ((Obl.quietDevice refFine) ∧ (refFine.d.pwr.refOk = true) ∧ (0 ∉ (refFine.d.src 5).conds)) ∧
    ((Obl.fatalStands clocksAndTemperatureAreWatchedAt1 4 held) ∧ (clocksAndTemperatureAreWatchedAt1.d.pwr.pllLock = false) ∧
      (clocksAndTemperatureAreWatchedAt1.d.pwr.refOk = true)) ∧
    ((Obl.fatalStands clocksAndTemperatureAreWatchedAt2 5 held) ∧ (clocksAndTemperatureAreWatchedAt2.d.pwr.refOk = false)) ∧
    ((335 < 352) ∧ (ready.d.clocked = true) ∧ (ready.d.cal.run = none) ∧ (ready.d.hotAt 2400 = false) ∧ ((ready.d.src 0).conds = []) ∧ (-1120 ≤
      2399) ∧ (2399 ≤ 2800) ∧ (2399 < 2400) ∧ (ready.d.outlier 335 2399 = false) ∧ ((ready.d.sensor 335).valid = true ∨ (ready.d.sensor 335).seen
      = false) ∧ (Tab.wf { } ready.d.thm.sensors = true)) ∧
    ((335 < 352) ∧ (ready.d.clocked = true) ∧ (ready.d.cal.run = none) ∧ (ready.d.hotAt 2400 = false) ∧ ((ready.d.src 0).conds = []) ∧ (false =
      true ∨ -1121 < -1120 ∨ 2800 < -1121) ∧ (335 < 336) ∧ (335 ∉ (ready.d.src 27).conds) ∧ (Tab.wf { } ready.d.thm.sensors = true)) ∧
    ((335 < 352) ∧ (ready.d.clocked = true) ∧ (ready.d.cal.run = none) ∧ (ready.d.hotAt 2400 = false) ∧ ((ready.d.src 0).conds = []) ∧ (2400 ≤
      2400) ∧ (2400 < 2480) ∧ (ready.d.outlier 335 2400 = false) ∧ ((ready.d.sensor 335).valid = true ∨ (ready.d.sensor 335).seen = false) ∧
      ((ready.d.src 13).conds = []) ∧ (Tab.wf { } ready.d.thm.sensors = true)) ∧
    ((335 < 352) ∧ (ready.d.clocked = true) ∧ (ready.d.cal.run = none) ∧ (ready.d.hotAt 2400 = false) ∧ ((ready.d.src 0).conds = []) ∧ (2480 ≤
      2480) ∧ (2480 ≤ 2800) ∧ (ready.d.outlier 335 2480 = false) ∧ ((ready.d.sensor 335).valid = true ∨ (ready.d.sensor 335).seen = false) ∧
      (Obl.quietDevice ready) ∧ (ready.d.pwr.phase = Phase.run) ∧ (∀ l < 4, (ready.d.lane l).bound = false)) ∧
    ((8 < 9) ∧ (15 < 16) ∧ (ready.d.clocked = true) ∧ (ready.d.cal.again = false)) := by
  unfold Obl.quietDevice Obl.fatalStands Obl.calm
  and_intros <;> decide +kernel

theorem wit_countersAreSnappedSetAndCleared :
    ((counting.d.reach 0 = true) ∧ (Tab.wf { } counting.d.pmc.ctr = true) ∧ (bitOf (3#32).toNat 1 = true) ∧ (bitOf (3#32).toNat 2 = false) ∧
      (counting.d.pmc.dumping = false)) ∧
    ((countersAreSnappedSetAndClearedAt1.d.reach 0 = true) ∧ (Tab.wf { } countersAreSnappedSetAndClearedAt1.d.pmc.ctr = true) ∧ (bitOf
      (3#32).toNat 1 = true) ∧ (bitOf (3#32).toNat 2 = false) ∧ (countersAreSnappedSetAndClearedAt1.d.pmc.dumping = true)) ∧
    ((counting.d.reach 0 = true) ∧ (Tab.wf { } counting.d.pmc.ctr = true) ∧ (bitOf (4#32).toNat 1 = false) ∧ (bitOf (4#32).toNat 2 = true)) ∧
    ((counting.d.reach 0 = true) ∧ (2880 = counting.d.pmc.idx) ∧ (ctrReserved 2880 = false) ∧ (2880 < 3016) ∧ ((Tab.get { } counting.d.pmc.ctr
      2880).chain = true) ∧ (ctrReserved (2880 + 1) = false)) ∧
    ((counting.d.reach 0 = true) ∧ (2880 = counting.d.pmc.idx) ∧ (ctrReserved 2880 = false) ∧ (2880 < 3016) ∧ ((Tab.get { } counting.d.pmc.ctr
      2880).value < 2 ^ 32)) ∧
    ((countersAreSnappedSetAndClearedAt2.d.reach 0 = true) ∧ (2881 = countersAreSnappedSetAndClearedAt2.d.pmc.idx) ∧ (ctrReserved 2881 = false) ∧
      (2881 < 3016) ∧ ((Tab.get { } countersAreSnappedSetAndClearedAt2.d.pmc.ctr 2881).chain = false)) ∧
    ((countersAreSnappedSetAndClearedAt2.d.reach 0 = true) ∧ (2881 = countersAreSnappedSetAndClearedAt2.d.pmc.idx) ∧ (ctrReserved 2881 = false) ∧
      (2881 < 3016) ∧ ((Tab.get { } countersAreSnappedSetAndClearedAt2.d.pmc.ctr 2881).value < 2 ^ 32)) ∧
    ((countersAreSnappedSetAndClearedAt3.pending = []) ∧ (countersAreSnappedSetAndClearedAt3.d.clocked = true) ∧
      (countersAreSnappedSetAndClearedAt3.d.mtx.bursts = [bulkB]) ∧ (countersAreSnappedSetAndClearedAt3.d.fetchable = []) ∧ (bulkB.master < 9) ∧
      (bulkB.beats = 0) ∧ (bulkB.granted < bulkB.len) ∧ (bulkB.dead = false) ∧ (bulkB.target = 3 → countersAreSnappedSetAndClearedAt3.d.io.linkUp
      = true) ∧ (128 = min (bulkB.len - bulkB.granted) (256 - (bulkB.addr + bulkB.granted) % 256))) ∧
    ((countersAreSnappedSetAndClearedAt4.pending = []) ∧ (countersAreSnappedSetAndClearedAt4.d.clocked = true) ∧
      (countersAreSnappedSetAndClearedAt4.d.mtx.bursts = [bulkB, agedB]) ∧ (countersAreSnappedSetAndClearedAt4.d.fetchable = []) ∧ (bulkB.master ≠
      agedB.master) ∧ (bulkB.write = agedB.write) ∧ (bulkB.point' = agedB.point') ∧ (bulkB.target = agedB.target) ∧ (bulkB.target = 3 →
      countersAreSnappedSetAndClearedAt4.d.io.linkUp = true) ∧ (∀ x ∈ [bulkB, agedB], x.beats = 0 ∧ x.granted < x.len ∧ x.dead = false) ∧ (max
      (countersAreSnappedSetAndClearedAt4.d.bmx.qosOf bulkB.master) (min 15 (countersAreSnappedSetAndClearedAt4.d.bmx.qosOf bulkB.master +
      bulkB.wait / 256)) < max (countersAreSnappedSetAndClearedAt4.d.bmx.qosOf agedB.master) (min 15
      (countersAreSnappedSetAndClearedAt4.d.bmx.qosOf agedB.master + agedB.wait / 256)))) := by
  and_intros <;> decide +kernel

theorem wit_registersAreReadAndWritten :
    ((registersAreReadAndWrittenAt1.d.reach 0 = true) ∧ (77 < 2 ^ 32) ∧ (Tab.get none (registersAreReadAndWrittenAt1.d.cap 0).words 106516 = some
      77)) ∧
    ((registersAreReadAndWrittenAt1.d.reach 0 = true) ∧ (Tab.get none (registersAreReadAndWrittenAt1.d.cap 0).words 151564 = none) ∧
      (registersAreReadAndWrittenAt1.d.pwr.pin < 65536) ∧ (registersAreReadAndWrittenAt1.d.pwr.peak < 65536)) ∧
    ((ready.d.reach 0 = true) ∧ (31237 < 65536) ∧ (ready.d.mrtVisible 0 31237 = true) ∧ ((ready.d.mrt 31237).word < 2 ^ 32)) ∧
    ((registersAreReadAndWrittenAt2.d.reach 0 = true) ∧ (31237 < 65536) ∧ (registersAreReadAndWrittenAt2.d.mrtVisible 0 31237 = true) ∧
      ((registersAreReadAndWrittenAt2.d.cap 0).mrt = some (31237, 66))) ∧
    ((registersAreReadAndWrittenAt3.d.reach 2 = true) ∧ (2 ≠ 0) ∧ (2 < 16) ∧ (16384 ≤ 122876) ∧ (122876 < 122880) ∧ (122876 % 4 = 0)) ∧
    (registersAreReadAndWrittenAt4.d.reach 2 = true) ∧
    ((ready.d.reach 0 = true) ∧ (393216 = 393216 ∧ (bytesLE 5 4).length = 4 ∨ 393216 = 64 ∧ (bytesLE 5 4).length = 2)) ∧
    ((ready.d.reach 0 = true) ∧ (64 = 393216 ∧ (bytesLE 5 2).length = 4 ∨ 64 = 64 ∧ (bytesLE 5 2).length = 2)) := by
  and_intros <;> decide +kernel

theorem wit_driversPutOutWaveforms :
    (((ready.d.cell 2).hzF = false) ∧ (ready.d.drv.armed = true) ∧ ((ready.d.cell 2).playing ready.d.tb2 = false)) ∧
    ((ready.d.blanked 2 = true ∨ ready.d.laneOf (fAa 2) = none ∧ (ready.d.cell 2).heldI = none)) ∧
    ((State.reset.d.cell 2).hzF = true ∨ State.reset.d.drv.armed = false) ∧
    ((State.reset.d.blanked 2 = true ∨ State.reset.d.laneOf (fAa 2) = none ∧ (State.reset.d.cell 2).heldI = none)) ∧
    (((laneDriven.cell 2).hzF = false) ∧ (laneDriven.drv.armed = true) ∧ ((laneDriven.cell 2).playing laneDriven.tb2 = false)) ∧
    ((laneDriven.blanked 2 = false) ∧ (laneDriven.laneOf (fAa 2) = some 1)) ∧
    (((blankedDev.cell (inVoa 0 3)).hzF = false) ∧ (blankedDev.drv.armed = true) ∧ ((blankedDev.cell (inVoa 0 3)).playing blankedDev.tb2 = false)) ∧
    ((blankedDev.blanked (inVoa 0 3) = true ∨ blankedDev.laneOf (fAa (inVoa 0 3)) = none ∧ (blankedDev.cell (inVoa 0 3)).heldI = none)) := by
  and_intros <;> decide +kernel

/-! ## The general statements -/

/-- A step from s answers a next state. -/
def answered (s : State) : Bool :=
  match Machine.step s with
  | .next _ => true
  | _ => false
theorem next_of_answered (s : State) (h : answered s = true) : ∃ t, Machine.step s = .next t := by
  unfold answered at h
  split at h
  · exact ⟨_, ‹_›⟩
  · cases h
theorem wit_stepRunsFrontCommand : { ready with pending := [.midnight, .nop 3] }.pending = Instr.midnight :: [Instr.nop 3] ∧ ready.pending = [] := by
  decide +kernel
theorem wit_everyStepKeepsCanonicalForms : due.canonical ∧ ∃ t, Machine.step { due with pending := [.midnight] } = .next t := by
  refine ⟨?_, next_of_answered _ (by decide +kernel)⟩
  unfold State.canonical State.memOk Dev.canonical Isl.canonical
  and_intros <;> decide +kernel
theorem wit_pinsFollowTheirSources : ready.pinsFollow ∧ ∃ t, Machine.step { ready with pending := [.blankNAssert 10] } = .next t := by
  refine ⟨?_, next_of_answered _ (by decide +kernel)⟩
  unfold State.pinsFollow
  decide +kernel
/-- A step that changes the map. -/
theorem wit_mapChangesOnlyAtCommits :
    (match Machine.step { due with pending := [.midnight] } with
      | .next t => decide (t.net.conns ≠ due.net.conns)
      | _ => false) = true := by
  decide +kernel
/-- A step that sets TB1, with a command in front. -/
theorem wit_timeBasesKeepApart :
    (match Machine.step { island with pending := [.timeSet 5] } with
      | .next t => decide (t.isl.tb1 ≠ island.isl.tb1)
      | _ => false) = true := by
  decide +kernel
/-- A step that uses an INDEX. -/
theorem wit_fusesAndNumbersNeverGoBack :
    (match Machine.step { island with pending := [.timeSet 5] } with
      | .next t => decide (island.isl.next < t.isl.next)
      | _ => false) = true := by
  decide +kernel

end Sys2Proof.Tests
end

/-! SUPPORT. How a command of an I/O queue completes: the one at the ring's head is answered at once, one behind an open command is marked
and waits (R258, R263, R279, R290). -/
namespace Sys2Proof.Machine

/-! ## Which command executes -/

/-- The command that is ready has the opcode asked for and is in flight. -/
theorem Dev.ready_spec {d : Dev} {q op : Nat} {c : Cmd} (h : d.ready q op = some c) : sqeOp c.sqe = op ∧ c ∈ (d.queue q).cmds := by
  unfold Dev.ready at h
  extract_lets x at h
  split at h
  · cases h
  · cases hf : x.front with
    | none => simp [hf] at h
    | some y =>
      simp only [hf, Option.ite_none_right_eq_some, Option.some.injEq] at h
      obtain ⟨⟨hop, -⟩, rfl⟩ := h
      exact ⟨hop, List.mem_of_find?_eq_some hf⟩

/-- What a queue's ready command does is what its execution does. -/
theorem onFront_of_ready {s : State} {q op : Nat} {c : Cmd} {f : Cmd → Host.Outcome State Fault Refusal} (h : s.d.ready q op = some c) :
    onFront s q op f = f c := by simp [onFront, h]

/-- STOP_ON_FAIL is a flag of the two batch opcodes alone (R41, R301). -/
theorem sqeStop_eq_false {s : Sqe} (h1 : sqeOp s ≠ 1) (h7 : sqeOp s ≠ 7) : sqeStop s = false := by simp [sqeStop, h1, h7]

/-! ## A command marked complete -/

/-- A command as its completion leaves it: it has taken effect, and its answer carries its CID (R297, R263). -/
def Cmd.completed (comp : Comp) (c : Cmd) : Cmd :=
  { c with executed := true, effect := true, done := some { comp with cid := sqeCid c.sqe }, stalls := sqeStop c.sqe && !(comp.status == stOk) }

/-- Completing a command marks it and writes what is due in ring order. -/
theorem Dev.complete_eq (d : Dev) (q idx : Nat) (comp : Comp) :
    d.complete q idx comp = (d.modQueue q (fun x => x.modCmd idx (Cmd.completed comp))).drain q := rfl

/-- A mark that keeps the ring index keeps the queue's ring order. -/
theorem Queue.modCmd_idx (x : Queue) (idx : Nat) {f : Cmd → Cmd} (hf : ∀ c, (f c).idx = c.idx) :
    (x.modCmd idx f).cmds.map (·.idx) = x.cmds.map (·.idx) := by
  simp only [Queue.modCmd, List.map_map]
  refine List.map_congr_left (fun c _ => ?_)
  by_cases h : c.idx = idx <;> simp [h, hf]

/-- The command at the index is in flight as marked. -/
theorem Queue.mem_modCmd {x : Queue} {c : Cmd} (f : Cmd → Cmd) (h : c ∈ x.cmds) : f c ∈ (x.modCmd c.idx f).cmds :=
  List.mem_map.mpr ⟨c, h, by simp⟩

/-! ## Completions behind an open command wait -/

/-- While the ring's first command is open, no completion is written. -/
theorem Dev.drain1_of_open {d : Dev} {q : Nat} {c : Cmd} {rest : List Cmd} (h : (d.queue q).cmds = c :: rest) (ho : c.done = none) :
    d.drain1 q = d := by simp [Dev.drain1, h, ho]

theorem Dev.drain_of_open {d : Dev} {q : Nat} {c : Cmd} {rest : List Cmd} (h : (d.queue q).cmds = c :: rest) (ho : c.done = none) :
    d.drain q = d := by
  unfold Dev.drain
  generalize List.range (d.queue q).cmds.length = l
  induction l with
  | nil => rfl
  | cons k l ih => rw [List.foldl_cons, d.drain1_of_open h ho, ih]

/-- Behind an open command, completing a command marks it and does nothing else (R290). -/
theorem Dev.complete_behind {d : Dev} {q idx : Nat} {d0 : Cmd} {rest : List Cmd} (comp : Comp) (h : (d.queue q).cmds = d0 :: rest)
    (ho : d0.done = none) (hne : d0.idx ≠ idx) :
    d.complete q idx comp = d.modQueue q (fun x => x.modCmd idx (Cmd.completed comp)) := by
  have hm : ((d.modQueue q (fun x => x.modCmd idx (Cmd.completed comp))).queue q).cmds =
      d0 :: rest.map (fun c => if c.idx = idx then c.completed comp else c) := by simp [Queue.modCmd, h, hne]
  exact Dev.drain_of_open hm ho

/-! ## The completion of the ring's head is written at once -/

/-- The slot that a command holds, if any, returns to FREE. -/
def Dev.freeSlotOf (d : Dev) (q idx : Nat) : Dev := (d.slotOf q idx).elim d d.freeSlot

@[simp] theorem Dev.freeSlot_io (d : Dev) (k : Nat) : (d.freeSlot k).io = d.io := by
  have h : ∀ (l : List Nat) (e : Dev), (l.foldl Dev.releaseLane e).io = e.io := by
    intro l
    induction l with
    | nil => intro e; rfl
    | cons n l ih => intro e; exact ih (e.releaseLane n)
  exact h _ d

@[simp] theorem Dev.freeSlotOf_io (d : Dev) (q idx : Nat) : (d.freeSlotOf q idx).io = d.io := by
  unfold Dev.freeSlotOf
  cases d.slotOf q idx with
  | none => rfl
  | some k => exact d.freeSlot_io k

@[simp] theorem Dev.freeSlotOf_queue (d : Dev) (q idx j : Nat) : (d.freeSlotOf q idx).queue j = d.queue j := by simp [Dev.queue]

theorem Dev.freeSlotOf_same (d : Dev) (q idx : Nat) : Dev.sameBut [.cmt, .mon] d (d.freeSlotOf q idx) := by
  unfold Dev.freeSlotOf
  cases d.slotOf q idx with
  | none => exact .refl _ _
  | some k => exact d.freeSlot_same k

/-- A head that is done and does not stall leaves the ring: its slot is freed and its completion written. -/
theorem Dev.drain1_of_done {d : Dev} {q : Nat} {c : Cmd} {rest : List Cmd} {comp : Comp} (h : (d.queue q).cmds = c :: rest)
    (hd : c.done = some comp) (hs : c.stalls = false) (hw : (d.queue q).silent = false) :
    d.drain1 q = ((d.modQueue q (fun x => { x with cmds := rest })).freeSlotOf q c.idx).cqPush q comp (sqeImm c.sqe) := by
  have hw' : (((d.modQueue q (fun x => { x with cmds := rest })).freeSlotOf q c.idx).queue q).silent = false := by
    simpa [Queue.silent] using hw
  unfold Dev.freeSlotOf at hw' ⊢
  cases hk : (d.modQueue q (fun x => { x with cmds := rest })).slotOf q c.idx <;> simp_all [Dev.drain1]

/-- A queue that nothing aborts writes to host memory (R308). -/
theorem Queue.silent_of_no_abort {x : Queue} (h : x.abort = none) : x.silent = false := by simp [Queue.silent, h]

@[simp] theorem Dev.cqPush_out (d : Dev) (q : Nat) (comp : Comp) (imm : Bool) : (d.cqPush q comp imm).io.out =
    .hostWrite ((d.queue q).cq.base + 32 * (d.queue q).cq.tail) (comp.dws (d.queue q).head q false (d.queue q).cq.phase) :: d.io.out := rfl

/-- A completion moves the CQ's tail on and leaves the commands in flight (R254, R267). -/
theorem Dev.cqPush_queue (d : Dev) (q : Nat) (comp : Comp) (imm : Bool) :
    ((d.cqPush q comp imm).queue q).cmds = (d.queue q).cmds ∧ ((d.cqPush q comp imm).queue q).cq.tail =
      if (d.queue q).cq.tail + 1 = (d.queue q).cq.size then 0 else (d.queue q).cq.tail + 1 := by
  simp [Dev.cqPush, Ring.pushed]

/-- The only command in flight, unless it stalls its queue, leaves the ring as it completes. -/
theorem Dev.complete_only {d : Dev} {q : Nat} {c : Cmd} (comp : Comp) (hc : (d.queue q).cmds = [c]) (ha : (d.queue q).abort = none)
    (hs : sqeStop c.sqe = false) :
    d.complete q c.idx comp = (((d.modQueue q (fun x => x.modCmd c.idx (Cmd.completed comp))).modQueue q (fun x => { x with cmds := [] })).freeSlotOf
      q c.idx).cqPush q { comp with cid := sqeCid c.sqe } (sqeImm c.sqe) := by
  have hm : ((d.modQueue q (fun x => x.modCmd c.idx (Cmd.completed comp))).queue q).cmds = [c.completed comp] := by
    simp [Queue.modCmd, hc]
  have hw : ((d.modQueue q (fun x => x.modCmd c.idx (Cmd.completed comp))).queue q).silent = false :=
    Queue.silent_of_no_abort (by simpa [Queue.modCmd] using ha)
  have h1 := Dev.drain1_of_done hm rfl (by simp [Cmd.completed, hs]) hw
  rw [Dev.complete_eq, Dev.drain, hm]
  exact h1

/-- Such a completion changes its queue, and frees the slot and lanes that the command held. -/
theorem Dev.complete_only_same {d : Dev} {q : Nat} {c : Cmd} (comp : Comp) (hc : (d.queue q).cmds = [c]) (ha : (d.queue q).abort = none)
    (hs : sqeStop c.sqe = false) : Dev.sameBut [.queues, .cmt, .mon] d (d.complete q c.idx comp) := by
  rw [Dev.complete_only comp hc ha hs]
  exact ((d.modQueue_same q _).up _).trans (((Dev.modQueue_same _ q _).up _).trans
    (((Dev.freeSlotOf_same _ _ _).up _).trans ((Dev.cqPush_same _ _ _ _).up _)))

/-- The completion of a queue's only command answers it, after whatever its execution has sent (R255, R263, R267). -/
theorem State.answers_complete {s : State} {d : Dev} {q : Nat} {c : Cmd} {sent : List Out} (comp : Comp) (hq : d.queue q = s.d.queue q)
    (ho : d.io.out = sent ++ s.d.io.out) (hc : (s.d.queue q).cmds = [c]) (ha : (s.d.queue q).abort = none) (hs : sqeStop c.sqe = false) :
    State.answers s { s with d := (d.complete q c.idx comp).notify } q sent { comp with cid := sqeCid c.sqe } := by
  rw [← hq] at hc ha
  obtain ⟨later, hl⟩ := (d.complete q c.idx comp).notify_sentOn
  refine ⟨⟨later, ?_⟩, ?_, ?_⟩
  · rw [hl, Dev.complete_only comp hc ha hs]
    simp [Queue.modCmd, hq, ho]
  · simp [Dev.complete_only comp hc ha hs, Dev.cqPush_queue]
  · simp [Dev.complete_only comp hc ha hs, Dev.cqPush_queue, Queue.modCmd, hq]

/-! ## NOP (R279) -/

/-- The status of a NOP: MALFORMED where a reserved bit is set, else OK (R261, R279). -/
abbrev nopStatus (c : Cmd) : Nat := if sqeClean c.sqe then stOk else stMalformed

/-- A NOP that may execute completes with its status. -/
theorem exec_nop_of_ready {s : State} {q : Nat} {c : Cmd} (h : s.d.ready q 0x0A = some c) :
    exec (.nop q) s = .next { s with d := (s.d.complete q c.idx { status := nopStatus c }).notify } := by
  rw [exec_nop, execNop, onFront_of_ready h]
  rfl

/-- The only command of its queue, a NOP is answered. -/
theorem exec_nop_front {s : State} {q : Nat} {c : Cmd} (h : Obl.front s q 0x0A c) :
    ∃ t, exec (.nop q) s = .next t ∧ State.answers s t q [] { status := nopStatus c, cid := sqeCid c.sqe } ∧
      State.sameBut [.queues, .cmt, .mon] s t := by
  obtain ⟨hr, hc, ha⟩ := h
  have hop : sqeOp c.sqe = 0x0A := (Dev.ready_spec hr).1
  have hs : sqeStop c.sqe = false := sqeStop_eq_false (by simp [hop]) (by simp [hop])
  exact ⟨_, exec_nop_of_ready hr, State.answers_complete _ rfl rfl hc ha hs, finish_same (Dev.complete_only_same _ hc ha hs)⟩

/-- Behind an open command, a NOP is done and waits: nothing is written. -/
theorem exec_nop_behind {s : State} {q : Nat} {c d0 : Cmd} {rest : List Cmd} (hr : s.d.ready q 0x0A = some c)
    (hc : (s.d.queue q).cmds = d0 :: rest) (ho : d0.done = none) (hne : d0.idx ≠ c.idx) :
    ∃ t, exec (.nop q) s = .next t ∧ (t.d.queue q).cq = (s.d.queue q).cq ∧ (t.d.queue q).cmds.head? = some d0 ∧
      (t.d.queue q).cmds.map (·.idx) = (s.d.queue q).cmds.map (·.idx) ∧
      (∃ y ∈ (t.d.queue q).cmds, y.idx = c.idx ∧ y.done = some { status := nopStatus c, cid := sqeCid c.sqe }) ∧
      State.sameBut [.queues] s t := by
  have hd := Dev.complete_behind { status := nopStatus c } hc ho hne
  have hx : ((s.d.complete q c.idx { status := nopStatus c }).notify.queue q) =
      (s.d.queue q).modCmd c.idx (Cmd.completed { status := nopStatus c }) := by simp [hd]
  have hy := Queue.mem_modCmd (Cmd.completed { status := nopStatus c }) (Dev.ready_spec hr).2
  refine ⟨_, exec_nop_of_ready hr, ?_, ?_, ?_, ⟨c.completed _, by rw [hx]; exact hy, rfl, rfl⟩, finish_same (hd ▸ s.d.modQueue_same q _)⟩
  · rw [hx]; rfl
  · simp [hx, Queue.modCmd, hc, hne]
  · rw [hx]; exact Queue.modCmd_idx _ _ (fun _ => rfl)

/-- Settles O12: a NOP completes in its place in the ring's order, at the head at once and behind an open command later. -/
theorem nopsCompleteInOrder : Obligations.NopsCompleteInOrder :=
  ⟨fun _ _ _ h => exec_nop_front h, fun _ _ _ _ _ hr hc ho hne => exec_nop_behind hr hc ho hne⟩

end Sys2Proof.Machine

/-! SUPPORT. What a doorbell write does: taken, it is counted and carried out; refused, it is reported to its function by an event, as an
occurrence of FS67 (R257, R268, R324). -/
namespace Sys2Proof.Machine

/-! ## What is sent stays sent through events and fault occurrences -/

theorem Dev.evtPush_sentOn (d : Dev) (f type a b c e : Nat) : Dev.sentOn d (d.evtPush f type a b c e).2 := by
  unfold Dev.evtPush
  extract_lets fn seq r at_ d1 d2 d3
  split
  · exact ⟨[.hostWrite at_ _], rfl⟩
  · exact ⟨[], rfl⟩

theorem Dev.faultPush_sentOn (d : Dev) (f n scope : Nat) (cur inj : Bool) : Dev.sentOn d (d.faultPush f n scope cur inj).2 := by
  obtain ⟨l, h⟩ := d.evtPush_sentOn f 4 (faultDw2 n cur inj) scope (d.src n).count 0
  refine ⟨l, ?_⟩
  simp only [Dev.faultPush]
  split
  · exact h
  · exact h

/-- Marking an occurrence sends nothing: its ERR_N pulse shows at the notification. -/
@[simp] theorem Dev.mark_out (d : Dev) (n scope : Nat) (inj : Bool) : (d.mark n scope inj).io.out = d.io.out := by
  have pulse : ∀ e : Dev, e.errPulse.io.out = e.io.out := by
    intro e
    unfold Dev.errPulse
    split <;> rfl
  unfold Dev.mark
  extract_lets now full d1
  split
  · exact pulse d1
  · rfl

theorem Dev.eventLost_sentOn (d : Dev) (f : Nat) : Dev.sentOn d (d.eventLost f) := by
  have h : Dev.sentOn d (d.mark 68 f false) := ⟨[], d.mark_out _ _ _⟩
  unfold Dev.eventLost
  extract_lets d1
  split
  · exact h.trans (.foldl (fun d g => d.faultPush_sentOn g 68 f _ false) _ d1)
  · exact h

theorem Dev.faultEvents_sentOn (d : Dev) (n scope : Nat) (cur inj : Bool) : Dev.sentOn d (d.faultEvents n scope cur inj) := by
  unfold Dev.faultEvents
  split
  · refine .foldl (fun d f => ?_) _ d
    have h := d.faultPush_sentOn f n scope cur inj
    dsimp only
    split
    · exact h
    · exact h.trans (Dev.eventLost_sentOn _ f)
  · exact .refl d

/-- What was sent stays sent through a fault occurrence. -/
theorem Dev.once_sentOn (d : Dev) (n scope : Nat) : Dev.sentOn d (d.once n scope) := by
  unfold Dev.once Dev.signal
  split
  · exact .refl d
  · extract_lets d1 d2
    have h : Dev.sentOn d d2 := by
      refine ⟨[], ?_⟩
      unfold d2
      split
      · exact d.mark_out _ _ _
      · exact d.mark_out _ _ _
    exact h.trans (Dev.faultEvents_sentOn _ _ _ _ _)

/-! ## An event with room in its ring -/

/-- Is an event of the function written: its ring is enabled and has room, and the function is not in reset (R268, R270, R313)? -/
def Dev.evtWritten (d : Dev) (f : Nat) : Bool := (d.fn f).evtActive && d.mayWrite f && (d.fn f).evt.hasRoom

/-- An event that is written goes to its ring's tail, with the next sequence number (R268). -/
theorem Dev.evt_out {d : Dev} {f : Nat} (h : d.evtWritten f = true) (type a b c e : Nat) : (d.evt f type a b c e).io.out =
    .hostWrite ((d.fn f).evt.base + 32 * (d.fn f).evt.tail)
      (eventDws d.tb0 a b c e type (d.fn f).evt.phase (d.fn f).lostFlag (((d.fn f).evtSeq + 1) % 65536)) :: d.io.out := by
  unfold Dev.evtWritten at h
  simp [Dev.evt, Dev.evtPush, h]

/-! ## Doorbells taken and refused -/

/-- A doorbell that is valid is counted and carried out. -/
theorem Dev.doorbell_taken (d : Dev) (f off : Nat) (v : Word) (g : Dev → Dev) : d.doorbell f off v true g = g (d.count 3012) := rfl

/-- A refused doorbell: counted, a DOORBELL_ERROR event with the offset and the word written, and an occurrence of FS67. -/
theorem Dev.doorbell_refused (d : Dev) (f off : Nat) (v : Word) (g : Dev → Dev) :
    d.doorbell f off v false g = (((d.count 3012).count 3013).evt f 6 off v.toNat 0 0).once 67 f := rfl

theorem Dev.doorbell_refused_same (d : Dev) (f off : Nat) (v : Word) (g : Dev → Dev) :
    Dev.sameBut faultParts d (d.doorbell f off v false g) := by
  rw [Dev.doorbell_refused]
  exact (((d.count_same _).trans (Dev.count_same _ _)).up _).trans ((Dev.evt_same _ _ _ _ _ _ _).trans (Dev.once_same _ _ _))

/-- The DOORBELL_ERROR event is written first; the occurrence of FS67 may write more. -/
theorem Dev.doorbell_refused_out {d : Dev} {f : Nat} (h : d.evtWritten f = true) (off : Nat) (v : Word) (g : Dev → Dev) :
    ∃ l, (d.doorbell f off v false g).io.out = l ++ .hostWrite ((d.fn f).evt.base + 32 * (d.fn f).evt.tail)
      (eventDws d.tb0 off v.toNat 0 0 6 (d.fn f).evt.phase (d.fn f).lostFlag (((d.fn f).evtSeq + 1) % 65536)) :: d.io.out := by
  have h' : ((d.count 3012).count 3013).evtWritten f = true := h
  obtain ⟨l, hl⟩ := (((d.count 3012).count 3013).evt f 6 off v.toNat 0 0).once_sentOn 67 f
  rw [Dev.evt_out h'] at hl
  exact ⟨l, hl⟩

end Sys2Proof.Machine

/-! SUPPORT. QCTL by the state of the queue it writes (R299, R300, R304, R312). -/
namespace Sys2Proof.Machine

/-! ## What a QCTL write may leave -/

/-- One queue becomes x; no other queue and no other part changes. -/
def State.queueBecomes (s t : State) (q : Nat) (x : Queue) : Prop :=
  t.d.queue q = x ∧ (∀ r, r ≠ q → t.d.queue r = s.d.queue r) ∧ State.sameBut [.queues] s t

/-- The DOORBELL_ERROR event of a write of word w at an offset of function f's page is written; queues stay as they are (R257, R268). -/
def State.reportsDoorbell (s t : State) (f off : Nat) (w : Word) : Prop :=
  t.d.io.queues = s.d.io.queues ∧
  (∃ later, t.d.io.out = later ++ Out.hostWrite ((s.d.fn f).evt.base + 32 * (s.d.fn f).evt.tail)
    (eventDws s.d.tb0 off w.toNat 0 0 6 (s.d.fn f).evt.phase (s.d.fn f).lostFlag (((s.d.fn f).evtSeq + 1) % 65536)) :: s.d.io.out) ∧
  State.sameBut faultParts s t

/-- A queue of the function's domain that is not in NONE is the function's own. -/
theorem Dev.ownQueue_of {d : Dev} {f q : Nat} (hq : q < 64) (hd : (d.queue q).domain = f) (hn : (d.queue q).state ≠ .none) :
    d.ownQueue f q = true := by simp [Dev.ownQueue, okQueue, hq, hd, hn]

/-- R299 decodes a QCTL write of an own queue: the write is good or bad by its bits and the queue's state alone. -/
theorem Dev.qctl_own {d : Dev} {f q : Nat} (ho : d.ownQueue f q = true) (w : Word) (ok : Bool) (g : Dev → Dev) :
    d.qctl f q 4 0 w ok g = d.doorbell f (0x400 + 4 * q) w ok g := by simp [Dev.qctl, ho]

section
variable {s : State} {f q a : Nat} {w : Word} {ok : Dev → Bool} {g : Dev → Dev}
variable (hr : s.d.reach f = true) (ho : s.d.ownQueue f q = true)
include hr ho

/-- A good QCTL write is its effect on the device, counted and notified. -/
theorem hostWr_qctl_good (hk : ok (s.d.inbound true 0 a 4) = true) :
    hostWr s f a (fun d => d.qctl f q 4 0 w (ok d) g) = .next { s with d := (g ((s.d.inbound true 0 a 4).count 3012)).notify } := by
  have ho' : (s.d.inbound true 0 a 4).ownQueue f q = true := ho
  rw [hostWr_next hr, Dev.qctl_own ho', hk, Dev.doorbell_taken]

/-- A good QCTL write whose effect is a change of the queue changes the queue and nothing else. -/
theorem hostWr_qctl_changes {F : Queue → Queue} (hk : ok (s.d.inbound true 0 a 4) = true)
    (hg : ∀ d, d.queue q = s.d.queue q → g d = d.modQueue q F) :
    ∃ t, hostWr s f a (fun d => d.qctl f q 4 0 w (ok d) g) = .next t ∧ State.queueBecomes s t q (F (s.d.queue q)) := by
  refine ⟨_, hostWr_qctl_good hr ho hk, ?_⟩
  rw [hg _ (by simp)]
  refine ⟨by simp, fun r h => by simp [Dev.queue_modQueue, h], finish_same ?_⟩
  exact (((s.d.inbound_same _ _ _ _).trans (Dev.count_same _ _)).up _).trans (Dev.modQueue_same _ q F)

/-- A good QCTL write with no effect changes nothing. -/
theorem hostWr_qctl_idle (hk : ok (s.d.inbound true 0 a 4) = true) (hg : ∀ d, d.queue q = s.d.queue q → g d = d) :
    ∃ t, hostWr s f a (fun d => d.qctl f q 4 0 w (ok d) g) = .next t ∧ State.sameBut [] s t := by
  refine ⟨_, hostWr_qctl_good hr ho hk, ?_⟩
  rw [hg _ (by simp)]
  exact finish_same ((s.d.inbound_same _ _ _ _).trans (Dev.count_same _ _))

/-- A bad QCTL write is ignored and reported. -/
theorem hostWr_qctl_bad (hk : ok (s.d.inbound true 0 a 4) = false) (hv : (s.d.fn f).evtActive = true) (hm : (s.d.fn f).evt.hasRoom = true) :
    ∃ t, hostWr s f a (fun d => d.qctl f q 4 0 w (ok d) g) = .next t ∧ State.reportsDoorbell s t f (0x400 + 4 * q) w := by
  have hw : s.d.mayWrite f = true := by
    simp only [Dev.reach, Bool.and_eq_true] at hr
    obtain ⟨⟨⟨-, hw⟩, -⟩, -⟩ := hr
    exact hw
  have ho' : (s.d.inbound true 0 a 4).ownQueue f q = true := ho
  have he : (s.d.inbound true 0 a 4).evtWritten f = true := by
    change s.d.evtWritten f = true
    simp [Dev.evtWritten, hv, hw, hm]
  have hs : State.sameBut faultParts s { s with d := ((s.d.inbound true 0 a 4).doorbell f (0x400 + 4 * q) w false g).notify } :=
    finish_same (((s.d.inbound_same _ _ _ _).up _).trans (Dev.doorbell_refused_same _ _ _ _ _))
  obtain ⟨l, hl⟩ := Dev.doorbell_refused_out he (0x400 + 4 * q) w g
  obtain ⟨m, hn⟩ := ((s.d.inbound true 0 a 4).doorbell f (0x400 + 4 * q) w false g).notify_sentOn
  refine ⟨_, by rw [hostWr_next hr, Dev.qctl_own ho', hk], ?_, ⟨m ++ l, ?_⟩, hs⟩
  · obtain ⟨-, -, -, -, hd⟩ := hs
    exact hd .queues (by decide)
  · rw [hn, hl, List.append_assoc]
    rfl

end

/-! ## Each command, in the states that it changes and in those that it does not -/

section
variable {s : State} {f q : Nat} (hr : s.d.reach f = true) (hq : q < 64) (hd : (s.d.queue q).domain = f)
include hr hq hd

/-- RESUME without FLUSH enables a stalled queue and ends a flush that runs. -/
theorem exec_resume_of_stalled (en : Bool) (h : (s.d.queue q).state = .stalled) :
    ∃ t, exec (.resume f q 4 0 en) s = .next t ∧ State.queueBecomes s t q { s.d.queue q with state := .enabled, flushTo := none } :=
  hostWr_qctl_changes (ok := fun d => (d.queue q).state == .stalled) (F := fun x => { x with state := .enabled, flushTo := none })
    hr (Dev.ownQueue_of hq hd (by simp [h])) (by simp [h]) (fun _ _ => rfl)

/-- RESUME with FLUSH flushes a stalled queue to the tail in force; with nothing to flush the queue is enabled. -/
theorem exec_flush_of_stalled (en : Bool) (h : (s.d.queue q).state = .stalled) :
    ∃ t, exec (.flush f q 4 0 en) s = .next t ∧ State.queueBecomes s t q
      (if (s.d.queue q).head = (s.d.queue q).tail then { s.d.queue q with state := .enabled, flushTo := none }
        else { s.d.queue q with flushTo := some (s.d.queue q).tail }) :=
  hostWr_qctl_changes (ok := fun d => (d.queue q).state == .stalled)
    (F := fun x => if x.head = x.tail then { x with state := .enabled, flushTo := none } else { x with flushTo := some x.tail })
    hr (Dev.ownQueue_of hq hd (by simp [h])) (by simp [h]) (fun _ _ => rfl)

theorem exec_qctlEnable_of_disabled (h : (s.d.queue q).state = .disabled) :
    ∃ t, exec (.qctlEnable f q 4 0 false) s = .next t ∧ State.queueBecomes s t q { s.d.queue q with state := .enabled } :=
  hostWr_qctl_changes (ok := fun _ => true) (F := fun x => { x with state := .enabled })
    hr (Dev.ownQueue_of hq hd (by simp [h])) rfl (fun d e => by simp [e, h, Dev.setQ])

/-- During an ABORT command an enable is held (R312). -/
theorem exec_qctlEnable_of_aborting (h : (s.d.queue q).state = .aborting) (ha : (s.d.queue q).abortedByAbort = true) :
    ∃ t, exec (.qctlEnable f q 4 0 false) s = .next t ∧ State.queueBecomes s t q { s.d.queue q with state := .enablePending } :=
  hostWr_qctl_changes (ok := fun _ => true) (F := fun x => { x with state := .enablePending })
    hr (Dev.ownQueue_of hq hd (by simp [h])) rfl (fun d e => by simp [e, h, ha, Dev.setQ])

theorem exec_qctlDisable_of_enabled (h : (s.d.queue q).state = .enabled) :
    ∃ t, exec (.qctlDisable f q 4 0 false) s = .next t ∧ State.queueBecomes s t q { s.d.queue q with state := .disabled } :=
  hostWr_qctl_changes (ok := fun _ => true) (F := fun x => { x with state := .disabled })
    hr (Dev.ownQueue_of hq hd (by simp [h])) rfl (fun d e => by simp [e, h, Dev.setQ])

/-- A stalled queue that is disabled keeps its stall point, its head; a flush that runs ends (R300). -/
theorem exec_qctlDisable_of_stalled (h : (s.d.queue q).state = .stalled) :
    ∃ t, exec (.qctlDisable f q 4 0 false) s = .next t ∧ State.queueBecomes s t q { s.d.queue q with state := .disabled, flushTo := none } :=
  hostWr_qctl_changes (ok := fun _ => true) (F := fun x => { x with state := .disabled, flushTo := none })
    hr (Dev.ownQueue_of hq hd (by simp [h])) rfl (fun d e => by simp [e, h])

/-- A disable withdraws a held enable (R312). -/
theorem exec_qctlDisable_of_enablePending (h : (s.d.queue q).state = .enablePending) :
    ∃ t, exec (.qctlDisable f q 4 0 false) s = .next t ∧ State.queueBecomes s t q { s.d.queue q with state := .aborting } :=
  hostWr_qctl_changes (ok := fun _ => true) (F := fun x => { x with state := .aborting })
    hr (Dev.ownQueue_of hq hd (by simp [h])) rfl (fun d e => by simp [e, h, Dev.setQ])

/-- Log entry 30: an enable of an enabled queue changes nothing. -/
theorem exec_qctlEnable_of_enabled (h : (s.d.queue q).state = .enabled) :
    ∃ t, exec (.qctlEnable f q 4 0 false) s = .next t ∧ State.sameBut [] s t :=
  hostWr_qctl_idle (ok := fun _ => true) hr (Dev.ownQueue_of hq hd (by simp [h])) rfl (fun d e => by simp [e, h])

/-- An enable of a queue that something other than an ABORT command or Dusk aborts is ignored (R300, R312). -/
theorem exec_qctlEnable_of_aborting_ignored (h : (s.d.queue q).state = .aborting) (ha : (s.d.queue q).abortedByAbort = false) :
    ∃ t, exec (.qctlEnable f q 4 0 false) s = .next t ∧ State.sameBut [] s t :=
  hostWr_qctl_idle (ok := fun _ => true) hr (Dev.ownQueue_of hq hd (by simp [h])) rfl (fun d e => by simp [e, h, ha])

/-- Log entry 30: a disable of a disabled queue changes nothing. -/
theorem exec_qctlDisable_of_disabled (h : (s.d.queue q).state = .disabled) :
    ∃ t, exec (.qctlDisable f q 4 0 false) s = .next t ∧ State.sameBut [] s t :=
  hostWr_qctl_idle (ok := fun _ => true) hr (Dev.ownQueue_of hq hd (by simp [h])) rfl (fun d e => by simp [e, h])

end

/-! ## Writes that R299 refuses -/

section
variable {s : State} {f q : Nat} (hr : s.d.reach f = true) (ho : s.d.ownQueue f q = true) (hv : (s.d.fn f).evtActive = true)
  (hm : (s.d.fn f).evt.hasRoom = true)
include hr ho hv hm

/-- FLUSH without RESUME, with ENABLE = 1. -/
theorem exec_qctlEnable_flush : ∃ t, exec (.qctlEnable f q 4 0 true) s = .next t ∧ State.reportsDoorbell s t f (0x400 + 4 * q) 5 :=
  hostWr_qctl_bad (ok := fun _ => false) (w := qctlWord true false true 0) hr ho rfl hv hm

/-- FLUSH without RESUME, with ENABLE = 0. -/
theorem exec_qctlDisable_flush : ∃ t, exec (.qctlDisable f q 4 0 true) s = .next t ∧ State.reportsDoorbell s t f (0x400 + 4 * q) 4 :=
  hostWr_qctl_bad (ok := fun _ => false) (w := qctlWord false false true 0) hr ho rfl hv hm

/-- RESUME of a queue that is not stalled. -/
theorem exec_resume_of_not_stalled (en : Bool) (h : (s.d.queue q).state ≠ .stalled) :
    ∃ t, exec (.resume f q 4 0 en) s = .next t ∧ State.reportsDoorbell s t f (0x400 + 4 * q) (qctlWord en true false 0) :=
  hostWr_qctl_bad (ok := fun d => (d.queue q).state == .stalled) hr ho (by simp [h]) hv hm

/-- RESUME with FLUSH of a queue that is not stalled. -/
theorem exec_flush_of_not_stalled (en : Bool) (h : (s.d.queue q).state ≠ .stalled) :
    ∃ t, exec (.flush f q 4 0 en) s = .next t ∧ State.reportsDoorbell s t f (0x400 + 4 * q) (qctlWord en true true 0) :=
  hostWr_qctl_bad (ok := fun d => (d.queue q).state == .stalled) hr ho (by simp [h]) hv hm

/-- Every QCTL write that R299 refuses is reported with its word. -/
theorem exec_refused_qctl {c : Instr} {w : Word} (h : (c, w) ∈ [(Instr.qctlEnable f q 4 0 true, 5), (Instr.qctlDisable f q 4 0 true, 4)] ++
      (if (s.d.queue q).state = .stalled then []
       else [(Instr.resume f q 4 0 false, 2), (Instr.resume f q 4 0 true, 3), (Instr.flush f q 4 0 false, 6), (Instr.flush f q 4 0 true, 7)])) :
    ∃ t, exec c s = .next t ∧ State.reportsDoorbell s t f (0x400 + 4 * q) w := by
  rw [List.mem_append, List.mem_ite_nil_left] at h
  simp only [List.mem_cons, List.not_mem_nil, or_false, Prod.mk.injEq] at h
  obtain (⟨rfl, rfl⟩ | ⟨rfl, rfl⟩) | ⟨hs, ⟨rfl, rfl⟩ | ⟨rfl, rfl⟩ | ⟨rfl, rfl⟩ | ⟨rfl, rfl⟩⟩ := h
  · exact exec_qctlEnable_flush hr ho hv hm
  · exact exec_qctlDisable_flush hr ho hv hm
  · exact exec_resume_of_not_stalled hr ho hv hm false hs
  · exact exec_resume_of_not_stalled hr ho hv hm true hs
  · exact exec_flush_of_not_stalled hr ho hv hm false hs
  · exact exec_flush_of_not_stalled hr ho hv hm true hs

end

/-- An ABORT command is an abort after which the queue may be enabled. -/
theorem Queue.abortedByAbort_of_abort {x : Queue} {a : Abort} {g : Nat} (h : x.abort = some a) (hk : a.kind = .abort g) :
    x.abortedByAbort = true := by simp [Queue.abortedByAbort, h, hk]

/-- QUEUE_DELETE and resets are not. -/
theorem Queue.abortedByAbort_of_reset_or_delete {x : Queue} {a : Abort} (h : x.abort = some a) (hk : a.kind = .reset ∨ ∃ g, a.kind = .delete g) :
    x.abortedByAbort = false := by
  obtain hk | ⟨g, hk⟩ := hk
  · simp [Queue.abortedByAbort, h, hk]
  · simp [Queue.abortedByAbort, h, hk]

/-- A change of one queue, where only that queue and the frame are asked for. -/
theorem exists_queueBecomes_frame {s : State} {q : Nat} {c : Instr} {x : Queue} (h : ∃ t, exec c s = .next t ∧ State.queueBecomes s t q x) :
    ∃ t, exec c s = .next t ∧ t.d.queue q = x ∧ State.sameBut [.queues] s t := by
  obtain ⟨t, he, hx, -, hs⟩ := h
  exact ⟨t, he, hx, hs⟩

/-- Settles O10: by the lemma of each write in each state; a refused write is reported, and changes no queue. -/
theorem qctlWritesAreDecoded : Obligations.QctlWritesAreDecoded := by
  unfold Obligations.QctlWritesAreDecoded
  refine ⟨fun s f q en hr hq hd h => ⟨exec_resume_of_stalled hr hq hd en h, exec_flush_of_stalled hr hq hd en h⟩,
    fun s f q hr hq hd h => exec_qctlEnable_of_disabled hr hq hd h, fun s f q hr hq hd h => exec_qctlDisable_of_enabled hr hq hd h, ?refused,
    fun s f q hr hq hd h => exists_queueBecomes_frame (exec_qctlDisable_of_stalled hr hq hd h), ?held,
    fun s f q hr hq hd h => exists_queueBecomes_frame (exec_qctlDisable_of_enablePending hr hq hd h), ?ignored,
    fun s f q hr hq hd => ⟨exec_qctlEnable_of_enabled hr hq hd, exec_qctlDisable_of_disabled hr hq hd⟩⟩
  case refused =>
    intro s f q c w hr hq hd hn hv hm hc
    obtain ⟨t, he, hqs, ⟨later, ho⟩, hs⟩ := exec_refused_qctl hr (Dev.ownQueue_of hq hd hn) hv hm hc
    exact ⟨t, later, he, hqs, ho, hs⟩
  case held =>
    intro s f q a g hr hq hd h ha hk
    exact exists_queueBecomes_frame (exec_qctlEnable_of_aborting hr hq hd h (Queue.abortedByAbort_of_abort ha hk))
  case ignored =>
    intro s f q a hr hq hd h ha hk
    exact exec_qctlEnable_of_aborting_ignored hr hq hd h (Queue.abortedByAbort_of_reset_or_delete ha hk)

end Sys2Proof.Machine

/-! SUPPORT. What the end of a CAL_RUN and a change of the delta set may change (R229, R240). -/
namespace Sys2Proof.Machine

/-! ## What the end of a CAL_RUN may change (R240) -/

/-- What the end of a CAL_RUN may change: completions, calibration, the fabric and the sequencer. -/
abbrev calParts : List Part := compParts ++ [.cal, .fab, .seq]

theorem Dev.withCal_same (d : Dev) (c : Cal) : Dev.sameBut [.cal] d { d with cal := c } := by
  intro p hp; cases p <;> simp_all [Part.same, Io.sameLink, Dev.fn]

theorem Dev.withMtx_same (d : Dev) (m : Traffic) : Dev.sameBut [] d { d with mtx := m } := by
  intro p hp; cases p <;> simp_all [Part.same, Io.sameLink, Dev.fn]

theorem Dev.resetBursts_same (d : Dev) (p : Burst → Bool) : Dev.sameBut [] d (d.resetBursts p) := by
  unfold Dev.resetBursts
  extract_lets gone cut traffic d1
  refine (d.withMtx_same _).trans (.foldl (fun d b => ?_) gone d1)
  split
  · exact d.countN_same _ _
  · exact .refl _ d

theorem Dev.modHeaters_same (d : Dev) (ca : Nat) (f : Loop → Loop) : Dev.sameBut [.fab] d (d.modHeaters ca f) :=
  .foldl (fun d aa => d.modLoop_same aa f) _ d

theorem Dev.uncal_same (d : Dev) (tn : Nat) : Dev.sameBut [.fab] d (d.uncal tn) := by
  refine .foldl (fun d ca => ?_) _ d
  split
  · exact (d.modHeaters_same _ _).trans (Dev.modCell_same _ _ _)
  · exact .refl _ d

theorem Dev.calFinish_same (d : Dev) (r : CalRun) : Dev.sameBut compParts d (d.calFinish r) := by
  unfold Dev.calFinish
  extract_lets es bytes silent d1
  have h : Dev.sameBut compParts d d1 := by
    unfold d1
    split
    · exact .refl _ d
    · exact (d.toHost_same _ _ _).up _
  exact h.trans (((d1.setLeaf_same _ _ _).up _).trans (Dev.complete_same _ _ _ _))

theorem Dev.calCheck_same (d : Dev) : Dev.sameBut calParts d d.calCheck := by
  unfold Dev.calCheck
  split
  · exact .refl _ d
  · split
    · exact .refl _ d
    · extract_lets r next cal d1
      have h : Dev.sameBut calParts d d1 := ((d.withCal_same _).up _).trans ((Dev.calFinish_same _ r).up _)
      clear_value next
      split
      · exact h.trans ((d1.withCal_same _).up _)
      · exact h

theorem Dev.seqStop_same (d : Dev) : Dev.sameBut [.seq, .views] d d.seqStop := by
  intro p hp; cases p <;> simp_all [Part.same, Io.sameLink, Dev.fn, Dev.seqStop, Dev.setLeaf]

theorem Dev.sweepRestore_same (d : Dev) (w : Sweep) : Dev.sameBut [.seq, .fab] d (d.sweepRestore w) := by
  refine .foldl (fun d p => ?_) _ d
  split
  · exact ((d.modLane_same _ _).up _).trans ((Dev.modLoop_same _ _ _).up _)
  · exact .refl _ d

theorem Dev.stopSweep_same (d : Dev) (tn : Nat) : Dev.sameBut [.seq, .views, .fab, .cal] d (d.stopSweep tn) := by
  unfold Dev.stopSweep
  split
  · next w _ =>
    split
    · exact .refl _ d
    · extract_lets d1
      have h : Dev.sameBut [.seq, .views, .fab, .cal] d d1 := by
        refine Dev.sameBut.trans ?_ ((Dev.sweepRestore_same _ w).up _)
        split
        · exact .refl _ d
        · exact d.seqStop_same.up _
      exact h.trans ((d1.withCal_same _).up _)
  · exact .refl _ d

theorem Dev.calReturned_same (d : Dev) (tn : Nat) : Dev.sameBut calParts d (d.calReturned tn) := by
  unfold Dev.calReturned
  split
  · exact .refl _ d
  · exact ((d.withCal_same _).up _).trans (((Dev.uncal_same _ tn).up _).trans (Dev.calCheck_same _))

theorem Dev.askMove_same (d : Dev) (tn : Nat) (back preset : Bool) : Dev.sameBut [.fab] d (d.askMove tn back preset) := d.modLe_same tn _

theorem Dev.calStopTile_same (d : Dev) (tn : Nat) : Dev.sameBut calParts d (d.calStopTile tn) := by
  unfold Dev.calStopTile
  extract_lets d1 l
  have h : Dev.sameBut calParts d d1 := (d.stopSweep_same tn).up _
  split
  · exact h
  · split
    · exact h.trans (((d1.modLe_same tn _).up _).trans (Dev.calReturned_same _ tn))
    · split
      · exact h.trans ((d1.askMove_same tn true false).up _)
      · exact h

theorem Dev.calEnd_same (d : Dev) : Dev.sameBut calParts d d.calEnd := by
  unfold Dev.calEnd
  split
  · exact .refl _ d
  · split
    · exact .refl _ d
    · next r _ _ =>
      extract_lets base cal d1
      have h : Dev.sameBut calParts d d1 := ((d.resetBursts_same _).up _).trans ((Dev.withCal_same _ _).up _)
      split
      · exact h.trans d1.calCheck_same
      · exact h.trans ((Dev.sameBut.foldl Dev.calStopTile_same _ d1).trans (Dev.calCheck_same _))

/-! ## What a change of the delta set may change (R229) -/

theorem Dev.swapCoeffs_same (d d0 : Dev) (tn : Nat) : Dev.sameBut [.fab, .mon] d (d.swapCoeffs d0 tn) := by
  refine .foldl (fun d ca => ?_) _ d
  extract_lets d1 c d2
  have h1 : Dev.sameBut [.fab, .mon] d d1 := by
    refine .foldl (fun x aa => ?_) _ d
    extract_lets m
    split
    · exact (x.modLoop_same aa _).up _
    · exact .refl _ x
  have h2 : Dev.sameBut [.fab, .mon] d1 d2 := by
    unfold d2
    split
    · exact (d1.modCell_same ca _).up _
    · exact .refl _ d1
  exact h1.trans (h2.trans (.foldl (fun x m => (x.modMrt_same m _).up _) _ d2))

theorem Dev.recompute_same (d d0 : Dev) (tn : Nat) : Dev.sameBut [.fab, .mon] d (d.recompute d0 tn) :=
  ((d.modTile_same tn _).up _).trans (Dev.swapCoeffs_same _ d0 tn)

theorem Dev.putDeltas_same (d : Dev) (set : DeltaSet) : Dev.sameBut [.cal, .fab, .mon] d (d.putDeltas set) := by
  unfold Dev.putDeltas
  extract_lets cal e
  refine ((d.withCal_same _).up _).trans (.foldl (fun x tn => ?_) _ e)
  split
  · exact (x.recompute_same d tn).up _
  · exact (x.swapCoeffs_same d tn).up _

end Sys2Proof.Machine

/-! SUPPORT. Leaf causes that stay set, sessions that stay and sessions that end (R313 to R315, R392). -/
namespace Sys2Proof.Machine

/-! ## Leaf bits that stay set -/

theorem bitOf_eq_testBit (v n : Nat) : bitOf v n = v.testBit n := by
  simp only [bitOf, Nat.testBit_eq_decide_div_mod_eq, beq_eq_decide]

theorem bitOf_or (v w n : Nat) : bitOf (v ||| w) n = (bitOf v n || bitOf w n) := by simp [bitOf_eq_testBit]

/-- The leaf causes that are set in a view are set after it. -/
def Dev.causesStay (d e : Dev) : Prop :=
  ∀ f off n, bitOf ((d.view f).leaf.get 0 off) n = true → bitOf ((e.view f).leaf.get 0 off) n = true

theorem Dev.causesStay.refl (d : Dev) : Dev.causesStay d d := fun _ _ _ h => h
theorem Dev.causesStay.trans {d e g : Dev} (h : Dev.causesStay d e) (h' : Dev.causesStay e g) : Dev.causesStay d g :=
  fun f off n hb => h' f off n (h f off n hb)
theorem Dev.causesStay.of_views {d e : Dev} (h : e.io.views = d.io.views) : Dev.causesStay d e := by
  intro f off n hb
  simpa only [Dev.view, h] using hb
theorem Dev.causesStay.foldl {α : Type} {g : Dev → α → Dev} (h : ∀ d x, Dev.causesStay d (g d x)) (l : List α) :
    ∀ d : Dev, Dev.causesStay d (l.foldl g d) := by
  induction l with
  | nil => exact .refl
  | cons x l ih => intro d; exact (h d x).trans (ih _)

/-- The leaf of a view once bits of it have been set. -/
theorem Dev.leaf_setLeaf_self (d : Dev) (f off bits : Nat) :
    ((d.setLeaf f off bits).view f).leaf.get 0 off = (d.view f).leaf.get 0 off ||| bits := by
  simp [Dev.setLeaf]

theorem Dev.setLeaf_causesStay (d : Dev) (f off bits : Nat) : Dev.causesStay d (d.setLeaf f off bits) := by
  intro g off' n hb
  simp only [Dev.setLeaf, Dev.view_modView]
  split
  · next hg =>
    subst hg
    rw [Tab.get_mod]
    split
    · next ho => subst ho; simp [bitOf_or, hb]
    · exact hb
  · exact hb

theorem Dev.evtPush_causesStay (d : Dev) (f type a b c e : Nat) : Dev.causesStay d (d.evtPush f type a b c e).2 := by
  unfold Dev.evtPush
  extract_lets fn seq r at_ d1 d2 d3
  split
  · exact .of_views rfl
  · exact (Dev.causesStay.of_views (e := d3) rfl).trans (d3.setLeaf_causesStay f _ _)

theorem Dev.faultPush_causesStay (d : Dev) (f n scope : Nat) (cur inj : Bool) : Dev.causesStay d (d.faultPush f n scope cur inj).2 := by
  have h := d.evtPush_causesStay f 4 (faultDw2 n cur inj) scope (d.src n).count 0
  simp only [Dev.faultPush]
  split
  · exact h.trans (Dev.setLeaf_causesStay _ f _ _)
  · exact h

theorem Dev.errPulse_causesStay (d : Dev) : Dev.causesStay d d.errPulse := by
  unfold Dev.errPulse
  split
  · exact (d.setLeaf_causesStay 0 _ _).trans (.of_views rfl)
  · exact .of_views rfl

theorem Dev.mark_causesStay (d : Dev) (n scope : Nat) (inj : Bool) : Dev.causesStay d (d.mark n scope inj) := by
  unfold Dev.mark
  extract_lets now full d1
  have h : Dev.causesStay d d1 := .of_views rfl
  split
  · exact h.trans d1.errPulse_causesStay
  · exact h

theorem Dev.eventLost_causesStay (d : Dev) (f : Nat) : Dev.causesStay d (d.eventLost f) := by
  have h := d.mark_causesStay 68 f false
  unfold Dev.eventLost
  extract_lets d1
  split
  · exact h.trans (.foldl (fun d g => d.faultPush_causesStay g 68 f _ false) _ d1)
  · exact h

theorem Dev.faultEvents_causesStay (d : Dev) (n scope : Nat) (cur inj : Bool) : Dev.causesStay d (d.faultEvents n scope cur inj) := by
  unfold Dev.faultEvents
  split
  · refine .foldl (fun d f => ?_) _ d
    have h := d.faultPush_causesStay f n scope cur inj
    dsimp only
    split
    · exact h
    · exact h.trans (Dev.eventLost_causesStay _ f)
  · exact .refl d

theorem Dev.signal_causesStay (d : Dev) (n scope : Nat) (inj : Bool) : Dev.causesStay d (d.signal n scope inj) := by
  unfold Dev.signal
  split
  · exact .refl d
  · extract_lets d1 d2
    have h : Dev.causesStay d1 d2 := by
      unfold d2
      split
      · exact d1.setLeaf_causesStay _ _ _
      · exact .refl d1
    exact (d.mark_causesStay n scope inj).trans (h.trans (Dev.faultEvents_causesStay _ _ _ _ _))

theorem Dev.condOn_causesStay (d : Dev) (n scope : Nat) : Dev.causesStay d (d.condOn n scope) := by
  unfold Dev.condOn
  split
  · exact .refl d
  · exact Dev.causesStay.trans (e := d.modSrc n _) (.of_views rfl) (Dev.signal_causesStay _ n scope false)

/-! ## Sessions that stay, and sessions that end -/

theorem Dev.session_of_sec {d e : Dev} (h : e.sec = d.sec) (doe : Bool) : e.session doe = d.session doe := by simp only [Dev.session, h]

/-- What leaves identity and security alone leaves the sessions. -/
theorem Dev.sameBut.session {ps : List Part} {d e : Dev} (h : Dev.sameBut ps d e) (doe : Bool) (hp : Part.sec ∉ ps := by decide) :
    e.session doe = d.session doe := Dev.session_of_sec (h .sec hp) doe

/-- The session of a transport has ended, and its end is signalled: ATN_SEC bit 4 (R392). -/
def Dev.sessionEnded (d : Dev) (doe : Bool) : Prop := d.session doe = {} ∧ bitOf ((d.view 0).leaf.get 0 0x1D4) 4 = true

/-- It stays so while the session and the causes stay. -/
theorem Dev.sessionEnded.stays {d e : Dev} {doe : Bool} (h : d.sessionEnded doe) (hs : e.session doe = d.session doe)
    (hc : Dev.causesStay d e) : e.sessionEnded doe := ⟨hs.trans h.1, hc 0 _ _ h.2⟩

/-- It stays so through what leaves sessions and views alone. -/
theorem Dev.sessionEnded.of_same {ps : List Part} {d e : Dev} {doe : Bool} (h : d.sessionEnded doe) (hs : Dev.sameBut ps d e)
    (hp : Part.sec ∉ ps ∧ Part.views ∉ ps := by decide) : e.sessionEnded doe :=
  h.stays (hs.session doe hp.1) (.of_views (hs .views hp.2))

@[simp] theorem Dev.session_setSession (d : Dev) (x doe : Bool) (v : Session) :
    (d.setSession x v).session doe = if doe = x then v else d.session doe := by
  cases x <;> cases doe <;> rfl

/-- A session that exists is reset, with its cause; where there is none, nothing happens. -/
theorem Dev.endSession_eq (d : Dev) (x : Bool) :
    d.endSession x = if (d.session x).state = 0 then d else (d.setSession x {}).setLeaf 0 0x1D4 16 := rfl

theorem Dev.endSession_causesStay (d : Dev) (x : Bool) : Dev.causesStay d (d.endSession x) := by
  rw [Dev.endSession_eq]
  split
  · exact .refl d
  · exact (Dev.causesStay.of_views rfl).trans ((d.setSession x {}).setLeaf_causesStay 0 _ _)

/-- The end of one transport's session leaves the other transport's. -/
theorem Dev.endSession_session_ne (d : Dev) {x doe : Bool} (h : doe ≠ x) : (d.endSession x).session doe = d.session doe := by
  rw [Dev.endSession_eq]
  split
  · rfl
  · exact (d.session_setSession x doe {}).trans (if_neg h)

/-- A session that exists ends (R392). -/
theorem Dev.endSession_ends {d : Dev} {doe : Bool} (h : (d.session doe).state ≠ 0) : (d.endSession doe).sessionEnded doe := by
  rw [Dev.endSession_eq, if_neg h]
  refine ⟨(d.session_setSession doe doe {}).trans (if_pos rfl), ?_⟩
  rw [Dev.leaf_setLeaf_self, bitOf_or]
  exact Bool.or_true _

/-- A session that has ended is not changed by another end, of either transport. -/
theorem Dev.sessionEnded.endSession {d : Dev} {doe : Bool} (h : d.sessionEnded doe) (x : Bool) : (d.endSession x).sessionEnded doe := by
  refine h.stays ?_ (d.endSession_causesStay x)
  by_cases hx : doe = x
  · subst hx
    have h0 : (d.session doe).state = 0 := by rw [h.1]
    rw [Dev.endSession_eq, if_pos h0]
  · exact d.endSession_session_ne hx

/-- Both sessions end together: that of either transport, if it exists. -/
theorem Dev.endSessions_end {d : Dev} {doe : Bool} (h : (d.session doe).state ≠ 0) :
    ((d.endSession true).endSession false).sessionEnded doe := by
  cases doe with
  | true => exact (Dev.endSession_ends h).endSession false
  | false => exact Dev.endSession_ends (by rwa [d.endSession_session_ne Bool.false_ne_true])

theorem Dev.sessionEnded.once {d : Dev} {doe : Bool} (h : d.sessionEnded doe) (n scope : Nat) : (d.once n scope).sessionEnded doe :=
  h.stays ((d.once_same n scope).session doe) (d.signal_causesStay n scope false)

theorem Dev.sessionEnded.condOn {d : Dev} {doe : Bool} (h : d.sessionEnded doe) (n scope : Nat) : (d.condOn n scope).sessionEnded doe :=
  h.stays ((d.condOn_same n scope).session doe) (d.condOn_causesStay n scope)

/-- The step ends the session of a transport, with its cause: the conclusion of the statement about R392. -/
def endsSession (doe : Bool) (o : Host.Outcome State Fault Refusal) : Prop := ∃ t : State, o = .next t ∧ t.d.sessionEnded doe

/-- A command whose effect ends a session answers a state in which it has ended. -/
theorem Dev.sessionEnded.finish {d : Dev} {doe : Bool} (h : d.sessionEnded doe) (s : State) : endsSession doe (finish s d) :=
  ⟨_, finish_next d s, h.of_same d.notify_same⟩

/-! ## Resets of functions and the sessions (R313, R314) -/

theorem Dev.startAbort_same (d : Dev) (kind : AbortKind) (q : Nat) : Dev.sameBut [.queues, .cmt, .mon] d (d.startAbort kind q) := by
  unfold Dev.startAbort
  extract_lets x d1 d2
  have h1 : Dev.sameBut [.queues, .cmt, .mon] d d1 := (d.resetBursts_same _).up _
  have h2 : Dev.sameBut [.queues, .cmt, .mon] d1 d2 := by
    refine .foldl (fun d k => ?_) _ d1
    split
    · exact (d.freeSlot_same k).up _
    · exact .refl _ d
  split
  · exact .refl _ d
  · split
    · split
      · exact (d.modQueue_same q _).up _
      · exact .refl _ d
    · exact h1.trans (h2.trans ((d2.modQueue_same q _).up _))

/-- The queues of a function whose reset starts. -/
theorem Dev.startAborts_same (d : Dev) (qs : List Nat) :
    Dev.sameBut [.queues, .cmt, .mon] d (qs.foldl (fun d q => d.startAbort .reset q) d) :=
  .foldl (fun d q => d.startAbort_same .reset q) qs d

theorem Dev.resetFn_session (d : Dev) (f : Nat) (doe : Bool) : (d.resetFn f).session doe = d.session doe :=
  Dev.sameBut.session (d.startAborts_same (d.queuesOf f)) doe

theorem Dev.resetFn_causesStay (d : Dev) (f : Nat) : Dev.causesStay d (d.resetFn f) :=
  .of_views (d.startAborts_same (d.queuesOf f) .views (by decide))

theorem Dev.removeVfs_session (d : Dev) (n : Nat) (doe : Bool) : (d.removeVfs n).session doe = d.session doe := by
  have h : ∀ (l : List Nat) (e : Dev), (l.foldl (fun d f => d.resetFn f) e).session doe = e.session doe := by
    intro l
    induction l with
    | nil => intro e; rfl
    | cons f l ih => intro e; exact (ih _).trans (e.resetFn_session f doe)
  unfold Dev.removeVfs
  extract_lets gone io d1
  split
  · rfl
  · exact h gone d

theorem Dev.withIo_session (d : Dev) (x : Io) (doe : Bool) : Dev.session { d with io := x } doe = d.session doe := rfl

/-- A reset of PF0 does to the sessions what the end of the DOE session does. -/
theorem Dev.resetPf0_session (d : Dev) (doe : Bool) :
    d.resetPf0.session doe = ((d.removeVfs 0).endSession true).session doe :=
  (Dev.withIo_session _ _ doe).trans (Dev.resetFn_session _ 0 doe)

theorem Dev.resetPf0_causesStay (d : Dev) : Dev.causesStay ((d.removeVfs 0).endSession true) d.resetPf0 := by
  unfold Dev.resetPf0
  extract_lets d1 d2 io
  have h : Dev.causesStay d1 d2 := d1.resetFn_causesStay 0
  clear_value d2
  exact h.trans (.of_views rfl)

/-- A reset of PF0 ends the DOE session. -/
theorem Dev.resetPf0_ends {d : Dev} (h : (d.session true).state ≠ 0) : d.resetPf0.sessionEnded true := by
  have he : ((d.removeVfs 0).endSession true).sessionEnded true := Dev.endSession_ends (by rwa [d.removeVfs_session])
  exact he.stays (d.resetPf0_session true) d.resetPf0_causesStay

/-- It leaves the session over MCTP. -/
theorem Dev.resetPf0_session_mctp (d : Dev) : d.resetPf0.session false = d.session false := by
  rw [d.resetPf0_session, Dev.endSession_session_ne _ Bool.false_ne_true, d.removeVfs_session]

/-- A link that is lost drops its bursts, and no part changes. -/
theorem Dev.dropHostBursts_same (d : Dev) : Dev.sameBut [] d d.dropHostBursts := d.withMtx_same _

/-- A lost link ends both sessions (R314, R392). -/
theorem Dev.linkLost_ends {d : Dev} {doe : Bool} (h : (d.session doe).state ≠ 0) :
    (d.resetPf0.dropHostBursts.endSession false).sessionEnded doe := by
  cases doe with
  | true => exact ((Dev.resetPf0_ends h).of_same d.resetPf0.dropHostBursts_same).endSession false
  | false =>
    have hs : d.resetPf0.dropHostBursts.session false = d.session false :=
      (d.resetPf0.dropHostBursts_same.session false).trans d.resetPf0_session_mctp
    exact Dev.endSession_ends (by rwa [hs])

/-! ## A supervisor restart and the sessions (R315) -/

/-- An activation that is undone leaves the sessions and the causes. -/
theorem Dev.sessionEnded.undoAct {d : Dev} {doe : Bool} (h : d.sessionEnded doe) (w : ActBefore) : (d.undoAct w).sessionEnded doe := by
  unfold Dev.undoAct
  extract_lets les secBase sec calBase cal fab d1
  have h1 : d1.sessionEnded doe := h
  split
  · exact h1
  · exact h1.of_same (d1.putDeltas_same w.delta)

/-- A restart of the supervisor ends both sessions (R315, R392). -/
theorem Dev.restartSup_ends {d : Dev} {doe : Bool} (h : (d.session doe).state ≠ 0) : d.restartSup.sessionEnded doe := by
  unfold Dev.restartSup
  extract_lets d1 held mi sec d2
  have h1 : d1.sessionEnded doe := Dev.endSessions_end (by rwa [d.calEnd_same.session doe])
  have h2 : d2.sessionEnded doe := h1.stays rfl (.of_views rfl)
  split
  · exact h2
  · next a _ =>
    split
    · exact h2
    · extract_lets base sec' d3
      have h3 : d3.sessionEnded doe := (h2.undoAct a.was).stays rfl (.of_views rfl)
      split
      · split
        · exact h3.of_same (d3.askMove_same _ true false)
        · exact h3
      · exact h3

end Sys2Proof.Machine

/-! SUPPORT. The sessions of SPDM end in the cases that R392 lists, each end with its cause. -/
namespace Sys2Proof.Machine

/-! ## Each case of R392 -/

/-- A good END_SESSION of a session that runs is answered after the session's end. -/
theorem exec_endSession_eq {s : State} {doe : Bool} {m : SpdmMsg} (hu : s.d.spdmUp doe = true) (hm : m.good = true)
    (hs : (s.d.session doe).state = 2) :
    exec (.endSession doe m) s = finish s ((({ s.d with fresh := s.d.fresh + 1 } : Dev).endSession doe).send
      (.spdm doe 0x6C (Config.spdmBody s.d.fresh))) := by
  have hf : ({ s.d with fresh := s.d.fresh + 1 } : Dev).session doe = s.d.session doe := rfl
  simp [execEndSession, spdm, hu, hm, hf, hs]

theorem exec_endSession_ends {s : State} {doe : Bool} {m : SpdmMsg} (hu : s.d.spdmUp doe = true) (hm : m.good = true)
    (hs : (s.d.session doe).state = 2) : endsSession doe (exec (.endSession doe m) s) := by
  have h2 : (({ s.d with fresh := s.d.fresh + 1 } : Dev).session doe).state = 2 := hs
  rw [exec_endSession_eq hu hm hs]
  exact ((Dev.endSession_ends (by rw [h2]; decide)).of_same (Dev.send_same _ _)).finish s

theorem exec_heartbeatTimeout_ends {s : State} {doe : Bool} {e : Nat} (h : (s.d.session doe).state ≠ 0)
    (hb : (s.d.session doe).beat = some e) (he : e ≤ s.d.tb2) :
    endsSession doe (exec (.heartbeatTimeout doe) s) := by
  simpa [execHeartbeatTimeout, hb, he] using (Dev.endSession_ends h).finish s

theorem exec_supervisorRestart_ends {s : State} {doe : Bool} (memory : Bool) (h : (s.d.session doe).state ≠ 0)
    (hu : s.d.pwr.supUp = true) (hr : s.d.sec.restart = none) (hc : s.d.clocked = true) :
    endsSession doe (exec (.supervisorRestart memory) s) := by
  have hs := (s.d.once_same (if memory then 79 else 78) 0).session doe
  have he : (s.d.once (if memory then 79 else 78) 0).restartSup.sessionEnded doe := Dev.restartSup_ends (by rwa [hs])
  simpa [execSupervisorRestart, hu, hr, hc] using he.finish s

theorem exec_flr_pf0_ends {s : State} (h : (s.d.session true).state ≠ 0) (hr : s.d.reach 0 = true) :
    endsSession true (exec (.flr 0) s) := by
  simpa [execFlr, hr] using ((Dev.resetPf0_ends h).once 66 0).finish s

theorem exec_linkDown_ends {s : State} {doe : Bool} (h : (s.d.session doe).state ≠ 0) (hl : s.d.io.linkUp = true) :
    endsSession doe (exec .linkDown s) := by
  have hs := s.d.withIo_session { s.d.io with linkUp := false, linkGen := 0, linkWidth := 0, linkFlit := false } doe
  simpa [execLinkDown, hl] using ((Dev.linkLost_ends (by rwa [hs])).condOn 65 0).finish s

/-- Settles O52, case by case of R392. -/
theorem sessionsEnd : Obligations.SessionsEnd := by
  intro s doe i h hi
  obtain ⟨m, rfl, hu, hm, hs⟩ | ⟨e, rfl, hb, he⟩ | ⟨memory, rfl, hu, hr, hc⟩ | ⟨rfl, rfl, hr⟩ | ⟨rfl, hl⟩ := hi
  · exact exec_endSession_ends hu hm hs
  · exact exec_heartbeatTimeout_ends h hb he
  · exact exec_supervisorRestart_ends memory h hu hr hc
  · exact exec_flr_pf0_ends h hr
  · exact exec_linkDown_ends h hl

end Sys2Proof.Machine

/-! SUPPORT. The passes over a whole table keep its canonical form: those over every listed entry, and those over rising keys. -/
namespace Sys2Proof.Machine
set_option Elab.async false

section Tables
variable {α : Type} [DecidableEq α]

/-- The canonical form, entry by entry: keys rise, and no entry is the default. -/
theorem Tab.wf_iff (d : α) (t : Tab α) : Tab.wf d t = true ↔ t.Pairwise (fun p q => p.1 < q.1) ∧ ∀ p ∈ t, p.2 ≠ d := by
  induction t with
  | nil => simp [Tab.wf]
  | cons p t ih =>
    have head_lt : Tab.wf d t = true → (Tab.above p.1 t ↔ ∀ q ∈ t, p.1 < q.1) := by
      intro hw
      cases t with
      | nil => simp [Tab.above]
      | cons q t =>
        have hq := (List.pairwise_cons.mp (ih.mp hw).1).1
        simp only [Tab.above, List.mem_cons, forall_eq_or_imp, iff_self_and]
        exact fun h r hr => h.trans (hq r hr)
    rw [Tab.wf_cons, List.pairwise_cons]
    constructor
    · rintro ⟨hv, ha, hw⟩
      exact ⟨⟨(head_lt hw).mp ha, (ih.mp hw).1⟩, by simpa [hv] using (ih.mp hw).2⟩
    · rintro ⟨⟨ha, hp⟩, hv⟩
      have hw := ih.mpr ⟨hp, fun q hq => hv q (List.mem_cons_of_mem _ hq)⟩
      exact ⟨hv p List.mem_cons_self, (head_lt hw).mpr ha, hw⟩

theorem Tab.wf_filter (d : α) {t : Tab α} (p : Nat × α → Bool) (h : Tab.wf d t = true) : Tab.wf d (t.filter p) = true := by
  rw [Tab.wf_iff] at *
  exact ⟨h.1.filter p, fun q hq => h.2 q (List.mem_of_mem_filter hq)⟩

theorem Tab.wf_mapVals (d : α) {t : Tab α} (f : Nat → α → α) (h : Tab.wf d t = true) : Tab.wf d (t.mapVals d f) = true := by
  rw [Tab.wf_iff] at *
  constructor
  · refine List.Pairwise.filterMap _ (fun p q hpq p' hp q' hq => ?_) h.1
    simp only [Option.ite_none_left_eq_some, Option.some.injEq] at hp hq
    rw [← hp.2, ← hq.2]
    exact hpq
  · intro q hq
    obtain ⟨p, -, hp⟩ := List.mem_filterMap.mp hq
    simp only [Option.ite_none_left_eq_some, Option.some.injEq] at hp
    rw [← hp.2]
    exact hp.1

/-- One key of a pass: the entries below it stay, its own is changed, and the pass goes on with those above it. -/
theorem Tab.modMany_cons (d : α) (f : Nat → α → α) (k : Nat) (ks : List Nat) {t : Tab α} (h : t.Pairwise (fun p q => p.1 < q.1)) :
    ∃ pre rest old, Tab.modMany d f (k :: ks) t = pre ++ ((if f k old = d then [] else [(k, f k old)]) ++ Tab.modMany d f ks rest) ∧
      (pre ++ rest).Sublist t ∧ (∀ p ∈ pre, p.1 < k) ∧ ∀ p ∈ rest, k < p.1 := by
  have hpre : ∀ p ∈ t.takeWhile (fun e => decide (e.1 < k)), p.1 < k := fun p hp => by
    simpa using List.mem_takeWhile_imp hp
  have hle : ∀ p ∈ t.dropWhile (fun e => decide (e.1 < k)), k ≤ p.1 := by
    intro p hp
    cases hr : t.dropWhile (fun e => decide (e.1 < k)) with
    | nil => simp [hr] at hp
    | cons q r =>
      have hq : k ≤ q.1 := by simpa [hr] using List.head_dropWhile_not (fun e : Nat × α => decide (e.1 < k)) (l := t) (by simp [hr])
      have hs := h.sublist (List.dropWhile_sublist (fun e : Nat × α => decide (e.1 < k)))
      rw [hr] at hp hs
      rcases List.mem_cons.mp hp with rfl | hp
      · exact hq
      · exact hq.trans ((List.pairwise_cons.mp hs).1 p hp).le
  have hsub : (t.takeWhile (fun e => decide (e.1 < k)) ++ t.dropWhile (fun e => decide (e.1 < k))).Sublist t := by
    rw [List.takeWhile_append_dropWhile]
  have hs := h.sublist (List.dropWhile_sublist (fun e : Nat × α => decide (e.1 < k)))
  have heq : ∀ (pre rest : Tab α) (old v : α), v = f k old → (if v = d then pre ++ Tab.modMany d f ks rest else
      pre ++ (k, v) :: Tab.modMany d f ks rest) = pre ++ ((if f k old = d then [] else [(k, f k old)]) ++ Tab.modMany d f ks rest) := by
    rintro pre rest old v rfl
    split <;> simp
  rw [Tab.modMany, List.span_eq_takeWhile_dropWhile]
  dsimp only
  generalize t.takeWhile (fun e => decide (e.1 < k)) = pre at *
  generalize t.dropWhile (fun e => decide (e.1 < k)) = rest at *
  match rest with
  | [] => exact ⟨pre, [], d, heq _ _ _ _ rfl, hsub, hpre, by simp⟩
  | (k', v) :: r =>
    have hr := (List.pairwise_cons.mp hs).1
    by_cases hk : k' = k
    · subst hk
      simp only [if_true]
      exact ⟨pre, r, v, heq _ _ _ _ rfl, ((List.sublist_cons_self _ _).append_left _).trans hsub, hpre, hr⟩
    · simp only [hk, if_false]
      have hlt : k < k' := lt_of_le_of_ne (hle _ List.mem_cons_self) (Ne.symm hk)
      exact ⟨pre, (k', v) :: r, d, heq _ _ _ _ rfl, hsub, hpre, by
        simpa using ⟨hlt, fun a b hb => hlt.trans (hr _ hb)⟩⟩

/-- A pass over rising keys keeps the canonical form, and lists no key but these and the table's. -/
theorem Tab.modMany_spec (d : α) (f : Nat → α → α) : ∀ (ks : List Nat) {t : Tab α}, ks.Pairwise (· < ·) → Tab.wf d t = true →
    Tab.wf d (Tab.modMany d f ks t) = true ∧ ∀ p ∈ Tab.modMany d f ks t, p.1 ∈ ks ∨ ∃ q ∈ t, q.1 = p.1 := by
  intro ks
  induction ks with
  | nil => exact fun {t} _ h => ⟨h, fun p hp => .inr ⟨p, hp, rfl⟩⟩
  | cons k ks ih =>
    intro t hk h
    obtain ⟨hk1, hk⟩ := List.pairwise_cons.mp hk
    rw [Tab.wf_iff] at h
    obtain ⟨pre, rest, old, heq, hsub, hpre, hrest⟩ := Tab.modMany_cons d f k ks h.1
    obtain ⟨hpr, hr, -⟩ := List.pairwise_append.mp (h.1.sublist hsub)
    have hv : ∀ p ∈ pre ++ rest, p.2 ≠ d := fun p hp => h.2 p (hsub.subset hp)
    obtain ⟨hw, hm⟩ := ih hk ((Tab.wf_iff d rest).mpr ⟨hr, fun p hp => hv p (List.mem_append_right _ hp)⟩)
    have above : ∀ p ∈ Tab.modMany d f ks rest, k < p.1 := by
      intro p hp
      rcases hm p hp with hp | ⟨q, hq, hqp⟩
      · exact hk1 _ hp
      · exact hqp ▸ hrest q hq
    rw [Tab.wf_iff] at hw
    rw [heq, Tab.wf_iff, List.pairwise_append, List.pairwise_append]
    refine ⟨⟨⟨hpr, ⟨by split <;> simp, hw.1, ?_⟩, ?_⟩, ?_⟩, ?_⟩
    · intro p hp q hq
      obtain rfl : p = (k, f k old) := by split at hp <;> simp_all
      exact above q hq
    · intro p hp q hq
      rcases List.mem_append.mp hq with hq | hq
      · obtain rfl : q = (k, f k old) := by split at hq <;> simp_all
        exact hpre p hp
      · exact (hpre p hp).trans (above q hq)
    · intro p hp
      rcases List.mem_append.mp hp with hp | hp
      · exact hv p (List.mem_append_left _ hp)
      · rcases List.mem_append.mp hp with hp | hp
        · split at hp <;> simp_all
        · exact hw.2 p hp
    · intro p hp
      rcases List.mem_append.mp hp with hp | hp
      · exact .inr ⟨p, hsub.subset (List.mem_append_left _ hp), rfl⟩
      · rcases List.mem_append.mp hp with hp | hp
        · left
          split at hp <;> simp_all
        · rcases hm p hp with hp | ⟨q, hq, hqp⟩
          · exact .inl (List.mem_cons_of_mem _ hp)
          · exact .inr ⟨q, hsub.subset (List.mem_append_right _ hq), hqp⟩

theorem Tab.wf_modMany (d : α) {t : Tab α} {ks : List Nat} (f : Nat → α → α) (hk : ks.Pairwise (· < ·)) (h : Tab.wf d t = true) :
    Tab.wf d (Tab.modMany d f ks t) = true := (Tab.modMany_spec d f ks hk h).1

end Tables

/-! ## The lists of cells and heaters rise -/

theorem range_map_rises {f : Nat → Nat} {n : Nat} (hf : ∀ i j, i < j → j < n → f i < f j) : ((List.range n).map f).Pairwise (· < ·) := by
  rw [List.pairwise_map]
  exact List.pairwise_lt_range.imp_of_mem (fun _ hb h => hf _ _ h (List.mem_range.mp hb))

/-- Both planes' VOA cells of a column rise: those of plane A lie below those of plane B (R19). -/
theorem planes_rise (col : Nat) : (((List.range 512).map (mkCa 0 col)) ++ ((List.range 512).map (mkCa 1 col))).Pairwise (· < ·) := by
  refine List.pairwise_append.mpr ⟨range_map_rises ?_, range_map_rises ?_, ?_⟩
  · intro i j h _; simp only [mkCa]; omega
  · intro i j h _; simp only [mkCa]; omega
  · intro x hx y hy
    obtain ⟨i, hi, rfl⟩ := List.mem_map.mp hx
    obtain ⟨j, hj, rfl⟩ := List.mem_map.mp hy
    simp only [mkCa, List.mem_range] at *
    omega

theorem inVoas_rise : inVoas.Pairwise (· < ·) := planes_rise _
theorem outVoas_rise : outVoas.Pairwise (· < ·) := planes_rise _

/-- A tile's cells end before those of the next (R21). -/
theorem tileBase_next (tn : Nat) : tileBase tn + 32 ≤ tileBase (tn + 1) := by
  unfold tileBase mkCa
  dsimp only
  split_ifs <;> omega

theorem tileBase_le {i j : Nat} (h : i < j) : tileBase i + 32 ≤ tileBase j := by
  induction j with
  | zero => omega
  | succ j ih =>
    rcases Nat.lt_succ_iff_lt_or_eq.mp h with h | rfl
    · exact (ih h).trans ((Nat.le_add_right _ _).trans (tileBase_next j))
    · exact tileBase_next i

theorem allCells_rise : allCells.Pairwise (· < ·) := by
  refine List.pairwise_flatMap.mpr ⟨fun tn _ => range_map_rises (fun i j h _ => by omega), ?_⟩
  refine List.pairwise_lt_range.imp (fun {i j} h x hx y hy => ?_)
  have hij := tileBase_le h
  obtain ⟨a, ha, rfl⟩ := List.mem_map.mp hx
  obtain ⟨b, hb, rfl⟩ := List.mem_map.mp hy
  simp only [List.mem_range] at ha
  omega

theorem mem_heatersOf {ca aa : Nat} (h : aa ∈ heatersOf ca) : aaCell aa = ca := by
  unfold heatersOf at h
  split at h <;> simp [hpAa, hcAa, aaCell] at * <;> omega

theorem heatersOf_rise (ca : Nat) : (heatersOf ca).Pairwise (· < ·) := by
  unfold heatersOf
  split <;> simp [hpAa, hcAa]

theorem allHeaters_rise : allHeaters.Pairwise (· < ·) := by
  refine List.pairwise_flatMap.mpr ⟨fun ca _ => heatersOf_rise ca, ?_⟩
  refine allCells_rise.imp (fun {i j} h x hx y hy => ?_)
  have h1 := mem_heatersOf hx
  have h2 := mem_heatersOf hy
  simp only [aaCell] at h1 h2
  omega

end Sys2Proof.Machine

/-! SUPPORT. What every operation of the control side keeps, whatever it does: the canonical form of the tables, the instants of TB0 and TB2, the
number of the last commit, the security counter and the revoked keys. -/
namespace Sys2Proof.Machine
set_option Elab.async false

/-! ## The canonical form, part by part -/

/-- The tables of the host interface are in canonical form. -/
def Io.canonical (x : Io) : Prop := Tab.wf {} x.queues = true ∧ Tab.wf {} x.fns = true ∧ Tab.wf {} x.views = true

/-- The tables of the fabric are in canonical form. -/
def Fab.canonical (x : Fab) : Prop :=
  Tab.wf {} x.cells = true ∧ Tab.wf {} x.loops = true ∧ Tab.wf {} x.les = true ∧ Tab.wf {} x.tiles = true ∧ Tab.wf .free x.cons = true ∧
  Tab.wf 0 x.tgt = true

/-- The tables of the monitors are in canonical form. -/
def Mon.canonical (x : Mon) : Prop :=
  Tab.wf {} x.mrt = true ∧ Tab.wf {} x.met = true ∧ Tab.wf {} x.inj = true ∧ Tab.wf {} x.fl = true

/-- The control side's tables are those of its parts. -/
theorem Dev.canonical_iff (d : Dev) : d.canonical ↔
    d.io.canonical ∧ Tab.wf {} d.flt.src = true ∧ d.fab.canonical ∧ Tab.wf {} d.cmt.slots = true ∧ d.mon.canonical ∧
      Tab.wf {} d.pmc.ctr = true ∧ Tab.wf {} d.thm.sensors = true := by
  simp only [Dev.canonical, Io.canonical, Fab.canonical, Mon.canonical, and_assoc]

/-! ## What is kept -/

/-- Neither time base of the control side is moved. -/
def Tim.keeps (x y : Tim) : Prop := y.tb0 = x.tb0 ∧ y.tb2 = x.tb2

/-- The security counter does not go back, and a revoked key stays revoked (R384, R387). -/
def Sec.keeps (x y : Sec) : Prop := x.counter ≤ y.counter ∧ x.revoked &&& y.revoked = x.revoked

/-- What an operation of the control side keeps of the state before. -/
structure Dev.keeps (d e : Dev) : Prop where
  canonical : d.canonical → e.canonical
  tim : Tim.keeps d.tim e.tim
  sec : Sec.keeps d.sec e.sec
  esn : e.cmt.esn = d.cmt.esn

theorem Sec.keeps.same {x y : Sec} (hc : y.counter = x.counter) (hr : y.revoked = x.revoked) : Sec.keeps x y := by
  simp [Sec.keeps, hc, hr]

theorem Sec.keeps.trans {x y z : Sec} (h : Sec.keeps x y) (h' : Sec.keeps y z) : Sec.keeps x z := by
  refine ⟨h.1.trans h'.1, ?_⟩
  calc x.revoked &&& z.revoked = x.revoked &&& y.revoked &&& z.revoked := by rw [h.2]
    _ = x.revoked := by rw [Nat.and_assoc, h'.2, h.2]

theorem Dev.keeps.refl (d : Dev) : d.keeps d := ⟨id, ⟨rfl, rfl⟩, .same rfl rfl, rfl⟩

theorem Dev.keeps.trans {d e g : Dev} (h : d.keeps e) (h' : e.keeps g) : d.keeps g :=
  ⟨fun c => h'.canonical (h.canonical c), ⟨h'.tim.1.trans h.tim.1, h'.tim.2.trans h.tim.2⟩, h.sec.trans h'.sec, h'.esn.trans h.esn⟩

variable {d₀ d : Dev}

/-! ## Parts that hold nothing of it -/

theorem Dev.keeps.jobs {x : Jobs} (h : d₀.keeps d) : d₀.keeps { d with jobs := x } := ⟨h.canonical, h.tim, h.sec, h.esn⟩
theorem Dev.keeps.drv {x : Drv} (h : d₀.keeps d) : d₀.keeps { d with drv := x } := ⟨h.canonical, h.tim, h.sec, h.esn⟩
theorem Dev.keeps.seq {x : Seq} (h : d₀.keeps d) : d₀.keeps { d with seq := x } := ⟨h.canonical, h.tim, h.sec, h.esn⟩
theorem Dev.keeps.cal {x : Cal} (h : d₀.keeps d) : d₀.keeps { d with cal := x } := ⟨h.canonical, h.tim, h.sec, h.esn⟩
theorem Dev.keeps.mi {x : Mi} (h : d₀.keeps d) : d₀.keeps { d with mi := x } := ⟨h.canonical, h.tim, h.sec, h.esn⟩
theorem Dev.keeps.pwr {x : Pwr} (h : d₀.keeps d) : d₀.keeps { d with pwr := x } := ⟨h.canonical, h.tim, h.sec, h.esn⟩
theorem Dev.keeps.bmx {x : Bmx} (h : d₀.keeps d) : d₀.keeps { d with bmx := x } := ⟨h.canonical, h.tim, h.sec, h.esn⟩
theorem Dev.keeps.mtx {x : Traffic} (h : d₀.keeps d) : d₀.keeps { d with mtx := x } := ⟨h.canonical, h.tim, h.sec, h.esn⟩
theorem Dev.keeps.glb {x : Glb} (h : d₀.keeps d) : d₀.keeps { d with glb := x } := ⟨h.canonical, h.tim, h.sec, h.esn⟩
theorem Dev.keeps.fresh {x : Nat} (h : d₀.keeps d) : d₀.keeps { d with fresh := x } := ⟨h.canonical, h.tim, h.sec, h.esn⟩

/-! ## Parts that hold some of it: what is written keeps it -/

theorem Dev.keeps.io {x : Io} (h : d₀.keeps d) (hx : d.io.canonical → x.canonical := by exact id) : d₀.keeps { d with io := x } :=
  ⟨fun c => by
    obtain ⟨i, f, b, s, m, p, t⟩ := d.canonical_iff.mp (h.canonical c)
    exact (Dev.canonical_iff _).mpr ⟨hx i, f, b, s, m, p, t⟩, h.tim, h.sec, h.esn⟩
theorem Dev.keeps.flt {x : Flt} (h : d₀.keeps d) (hx : Tab.wf {} d.flt.src = true → Tab.wf {} x.src = true := by exact id) : d₀.keeps { d with flt := x } :=
  ⟨fun c => by
    obtain ⟨i, f, b, s, m, p, t⟩ := d.canonical_iff.mp (h.canonical c)
    exact (Dev.canonical_iff _).mpr ⟨i, hx f, b, s, m, p, t⟩, h.tim, h.sec, h.esn⟩
theorem Dev.keeps.fab {x : Fab} (h : d₀.keeps d) (hx : d.fab.canonical → x.canonical := by exact id) : d₀.keeps { d with fab := x } :=
  ⟨fun c => by
    obtain ⟨i, f, b, s, m, p, t⟩ := d.canonical_iff.mp (h.canonical c)
    exact (Dev.canonical_iff _).mpr ⟨i, f, hx b, s, m, p, t⟩, h.tim, h.sec, h.esn⟩
theorem Dev.keeps.mon {x : Mon} (h : d₀.keeps d) (hx : d.mon.canonical → x.canonical := by exact id) : d₀.keeps { d with mon := x } :=
  ⟨fun c => by
    obtain ⟨i, f, b, s, m, p, t⟩ := d.canonical_iff.mp (h.canonical c)
    exact (Dev.canonical_iff _).mpr ⟨i, f, b, s, hx m, p, t⟩, h.tim, h.sec, h.esn⟩
theorem Dev.keeps.pmc {x : Pmc} (h : d₀.keeps d) (hx : Tab.wf {} d.pmc.ctr = true → Tab.wf {} x.ctr = true := by exact id) : d₀.keeps { d with pmc := x } :=
  ⟨fun c => by
    obtain ⟨i, f, b, s, m, p, t⟩ := d.canonical_iff.mp (h.canonical c)
    exact (Dev.canonical_iff _).mpr ⟨i, f, b, s, m, hx p, t⟩, h.tim, h.sec, h.esn⟩
theorem Dev.keeps.thm {x : Thm} (h : d₀.keeps d) (hx : Tab.wf {} d.thm.sensors = true → Tab.wf {} x.sensors = true := by exact id) : d₀.keeps { d with thm := x } :=
  ⟨fun c => by
    obtain ⟨i, f, b, s, m, p, t⟩ := d.canonical_iff.mp (h.canonical c)
    exact (Dev.canonical_iff _).mpr ⟨i, f, b, s, m, p, hx t⟩, h.tim, h.sec, h.esn⟩
theorem Dev.keeps.cmt {x : Cmt} (h : d₀.keeps d)
    (hx : Tab.wf {} d.cmt.slots = true → Tab.wf {} x.slots = true := by exact id) (he : x.esn = d.cmt.esn := by exact rfl) :
    d₀.keeps { d with cmt := x } :=
  ⟨fun c => by
    obtain ⟨i, f, b, s, m, p, t⟩ := d.canonical_iff.mp (h.canonical c)
    exact (Dev.canonical_iff _).mpr ⟨i, f, b, hx s, m, p, t⟩, h.tim, h.sec, he.trans h.esn⟩
theorem Dev.keeps.withTim {x : Tim} (h : d₀.keeps d) (hx : Tim.keeps d.tim x := by exact ⟨rfl, rfl⟩) : d₀.keeps { d with tim := x } :=
  ⟨h.canonical, ⟨hx.1.trans h.tim.1, hx.2.trans h.tim.2⟩, h.sec, h.esn⟩
theorem Dev.keeps.withSec {x : Sec} (h : d₀.keeps d) (hx : Sec.keeps d.sec x := by exact .same rfl rfl) : d₀.keeps { d with sec := x } :=
  ⟨h.canonical, h.tim, h.sec.trans hx, h.esn⟩

/-! ## One table written -/

theorem Dev.keeps.queues {x : Tab Queue} (h : d₀.keeps d) (hx : Tab.wf {} d.io.queues = true → Tab.wf {} x = true) :
    d₀.keeps { d with io := { d.io with queues := x } } := h.io (fun ⟨c, r⟩ => ⟨hx c, r⟩)
theorem Dev.keeps.cells {x : Tab Cell} (h : d₀.keeps d) (hx : Tab.wf {} d.fab.cells = true → Tab.wf {} x = true) :
    d₀.keeps { d with fab := { d.fab with cells := x } } := h.fab (fun ⟨c, r⟩ => ⟨hx c, r⟩)
theorem Dev.keeps.loops {x : Tab Loop} (h : d₀.keeps d) (hx : Tab.wf {} d.fab.loops = true → Tab.wf {} x = true) :
    d₀.keeps { d with fab := { d.fab with loops := x } } := h.fab (fun ⟨c, l, r⟩ => ⟨c, hx l, r⟩)
theorem Dev.keeps.les {x : Tab Le} (h : d₀.keeps d) (hx : Tab.wf {} d.fab.les = true → Tab.wf {} x = true) :
    d₀.keeps { d with fab := { d.fab with les := x } } := h.fab (fun ⟨c, l, e, r⟩ => ⟨c, l, hx e, r⟩)
theorem Dev.keeps.tiles {x : Tab Tile} (h : d₀.keeps d) (hx : Tab.wf {} d.fab.tiles = true → Tab.wf {} x = true) :
    d₀.keeps { d with fab := { d.fab with tiles := x } } := h.fab (fun ⟨c, l, e, t, r⟩ => ⟨c, l, e, hx t, r⟩)
theorem Dev.keeps.slots {x : Tab Slot} (h : d₀.keeps d) (hx : Tab.wf {} d.cmt.slots = true → Tab.wf {} x = true) :
    d₀.keeps { d with cmt := { d.cmt with slots := x } } := h.cmt hx
theorem Dev.keeps.met {x : Tab Met} (h : d₀.keeps d) (hx : Tab.wf {} d.mon.met = true → Tab.wf {} x = true) :
    d₀.keeps { d with mon := { d.mon with met := x } } := h.mon (fun ⟨c, e, r⟩ => ⟨c, hx e, r⟩)
theorem Dev.keeps.inj {x : Tab Inj} (h : d₀.keeps d) (hx : Tab.wf {} d.mon.inj = true → Tab.wf {} x = true) :
    d₀.keeps { d with mon := { d.mon with inj := x } } := h.mon (fun ⟨c, e, j, r⟩ => ⟨c, e, hx j, r⟩)
theorem Dev.keeps.fl {x : Tab Fl} (h : d₀.keeps d) (hx : Tab.wf {} d.mon.fl = true → Tab.wf {} x = true) :
    d₀.keeps { d with mon := { d.mon with fl := x } } := h.mon (fun ⟨c, e, j, l⟩ => ⟨c, e, j, hx l⟩)
theorem Dev.keeps.ctr {x : Tab Ctr} (h : d₀.keeps d) (hx : Tab.wf {} d.pmc.ctr = true → Tab.wf {} x = true) :
    d₀.keeps { d with pmc := { d.pmc with ctr := x } } := h.pmc hx
theorem Dev.keeps.sensors {x : Tab Sensor} (h : d₀.keeps d) (hx : Tab.wf {} d.thm.sensors = true → Tab.wf {} x = true) :
    d₀.keeps { d with thm := { d.thm with sensors := x } } := h.thm hx

/-! ## Shapes of an operation -/

theorem Dev.keeps.ite {c : Prop} {dec : Decidable c} {x y : Dev} (hx : d₀.keeps x) (hy : d₀.keeps y) : d₀.keeps (if c then x else y) := by
  split <;> assumption

theorem Dev.keeps.ite1 {α : Type} {c : Prop} {dec : Decidable c} {x y : Dev × α} (hx : d₀.keeps x.1) (hy : d₀.keeps y.1) :
    d₀.keeps (if c then x else y).1 := by
  split <;> assumption
theorem Dev.keeps.ite2 {α : Type} {c : Prop} {dec : Decidable c} {x y : α × Dev} (hx : d₀.keeps x.2) (hy : d₀.keeps y.2) :
    d₀.keeps (if c then x else y).2 := by
  split <;> assumption

theorem Dev.keeps.foldl {α : Type} {f : Dev → α → Dev} (hf : ∀ d x, d₀.keeps d → d₀.keeps (f d x)) {l : List α} :
    ∀ {d : Dev}, d₀.keeps d → d₀.keeps (l.foldl f d) := by
  induction l with
  | nil => exact fun h => h
  | cons x l ih => exact fun h => ih (hf _ x h)

theorem Dev.keeps.foldl1 {α β : Type} {f : Dev × β → α → Dev × β} (hf : ∀ a x, d₀.keeps a.1 → d₀.keeps (f a x).1) {l : List α} :
    ∀ {a : Dev × β}, d₀.keeps a.1 → d₀.keeps (l.foldl f a).1 := by
  induction l with
  | nil => exact fun h => h
  | cons x l ih => exact fun h => ih (hf _ x h)

theorem Dev.keeps.foldl2 {α β : Type} {f : β × Dev → α → β × Dev} (hf : ∀ a x, d₀.keeps a.2 → d₀.keeps (f a x).2) {l : List α} :
    ∀ {a : β × Dev}, d₀.keeps a.2 → d₀.keeps (l.foldl f a).2 := by
  induction l with
  | nil => exact fun h => h
  | cons x l ih => exact fun h => ih (hf _ x h)

/-- Several parts written at once. -/
theorem Dev.keeps.several {fl : Flt} {f : Fab} {j : Jobs} {v : Drv} {q : Seq} {c : Cal} {m : Mi} {s : Sec} {p : Pwr} {b : Bmx} {x : Traffic}
    {g : Glb} {n : Nat} (h : d₀.keeps d) (hf : d.fab.canonical → f.canonical := by exact id)
    (hs : Sec.keeps d.sec s := by exact .same rfl rfl) (hl : Tab.wf {} d.flt.src = true → Tab.wf {} fl.src = true := by exact id) :
    d₀.keeps { d with flt := fl, fab := f, jobs := j, drv := v, seq := q, cal := c, mi := m, sec := s, pwr := p, bmx := b, mtx := x, glb := g,
                      fresh := n } :=
  have h1 : d₀.keeps { d with flt := fl, fab := f } := (h.flt hl).fab hf
  have h2 : d₀.keeps { d with flt := fl, fab := f, sec := s } := h1.withSec hs
  ⟨h2.canonical, h2.tim, h2.sec, h2.esn⟩

/-! ## Entries -/

theorem Dev.keeps.modQueue {q : Nat} {f : Queue → Queue} (h : d₀.keeps d) : d₀.keeps (d.modQueue q f) :=
  h.io (fun c => ⟨Tab.wf_mod _ q f c.1, c.2⟩)
theorem Dev.keeps.modFn {q : Nat} {f : Fn → Fn} (h : d₀.keeps d) : d₀.keeps (d.modFn q f) :=
  h.io (fun c => ⟨c.1, Tab.wf_mod _ q f c.2.1, c.2.2⟩)
theorem Dev.keeps.modView {q : Nat} {f : View → View} (h : d₀.keeps d) : d₀.keeps (d.modView q f) :=
  h.io (fun c => ⟨c.1, c.2.1, Tab.wf_mod _ q f c.2.2⟩)
theorem Dev.keeps.modCap {q : Nat} {f : Capture → Capture} (h : d₀.keeps d) : d₀.keeps (d.modCap q f) := h.io
theorem Dev.keeps.modSrc {n : Nat} {f : Src → Src} (h : d₀.keeps d) : d₀.keeps (d.modSrc n f) := h.flt (Tab.wf_mod _ n f)
theorem Dev.keeps.modCell {ca : Nat} {f : Cell → Cell} (h : d₀.keeps d) : d₀.keeps (d.modCell ca f) :=
  h.fab (fun ⟨c, r⟩ => ⟨Tab.wf_mod _ ca f c, r⟩)
theorem Dev.keeps.modLoop {aa : Nat} {f : Loop → Loop} (h : d₀.keeps d) : d₀.keeps (d.modLoop aa f) :=
  h.fab (fun ⟨c, l, r⟩ => ⟨c, Tab.wf_mod _ aa f l, r⟩)
theorem Dev.keeps.modLe {k : Nat} {f : Le → Le} (h : d₀.keeps d) : d₀.keeps (d.modLe k f) :=
  h.fab (fun ⟨c, l, e, r⟩ => ⟨c, l, Tab.wf_mod _ k f e, r⟩)
theorem Dev.keeps.modTile {tn : Nat} {f : Tile → Tile} (h : d₀.keeps d) : d₀.keeps (d.modTile tn f) :=
  h.fab (fun ⟨c, l, e, t, r⟩ => ⟨c, l, e, Tab.wf_mod _ tn f t, r⟩)
theorem Dev.keeps.setCons {ca : Nat} {v : Cons} (h : d₀.keeps d) : d₀.keeps (d.setCons ca v) :=
  h.fab (fun ⟨c, l, e, t, n, g⟩ => ⟨c, l, e, t, Tab.wf_set _ _ v n, g⟩)
theorem Dev.keeps.setTgt {side port v : Nat} (h : d₀.keeps d) : d₀.keeps (d.setTgt side port v) :=
  h.fab (fun ⟨c, l, e, t, n, g⟩ => ⟨c, l, e, t, n, Tab.wf_set _ _ v g⟩)
theorem Dev.keeps.modSlot {k : Nat} {f : Slot → Slot} (h : d₀.keeps d) : d₀.keeps (d.modSlot k f) := h.cmt (Tab.wf_mod _ k f)
theorem Dev.keeps.modMrt {k : Nat} {f : Mrt → Mrt} (h : d₀.keeps d) : d₀.keeps (d.modMrt k f) :=
  h.mon (fun ⟨c, r⟩ => ⟨Tab.wf_mod _ k f c, r⟩)
theorem Dev.keeps.modMet {k : Nat} {f : Met → Met} (h : d₀.keeps d) : d₀.keeps (d.modMet k f) :=
  h.mon (fun ⟨c, e, r⟩ => ⟨c, Tab.wf_mod _ k f e, r⟩)
theorem Dev.keeps.modInj {k : Nat} {f : Inj → Inj} (h : d₀.keeps d) : d₀.keeps (d.modInj k f) :=
  h.mon (fun ⟨c, e, j, r⟩ => ⟨c, e, Tab.wf_mod _ k f j, r⟩)
theorem Dev.keeps.modFl {k : Nat} {f : Fl → Fl} (h : d₀.keeps d) : d₀.keeps (d.modFl k f) :=
  h.mon (fun ⟨c, e, j, l⟩ => ⟨c, e, j, Tab.wf_mod _ k f l⟩)
theorem Dev.keeps.modLane {k : Nat} {f : Lane → Lane} (h : d₀.keeps d) : d₀.keeps (d.modLane k f) := h.seq

theorem ctrAdd_wf : ∀ (fuel : Nat) {t : Tab Ctr} (n k : Nat), Tab.wf {} t = true → Tab.wf {} (ctrAdd fuel t n k) = true := by
  intro fuel
  induction fuel with
  | zero => exact fun _ _ h => h
  | succ fuel ih =>
    intro t n k h
    unfold ctrAdd
    dsimp only
    split
    · exact h
    · split
      · exact Tab.wf_set _ _ _ h
      · split
        · exact ih _ _ (Tab.wf_set _ _ _ h)
        · exact Tab.wf_set _ _ _ h

theorem Pmc.add_wf {p : Pmc} {n k : Nat} (h : Tab.wf {} p.ctr = true) : Tab.wf {} (p.add n k).ctr = true := by
  unfold Pmc.add
  split
  · exact h
  · exact ctrAdd_wf _ _ _ h

theorem Dev.keeps.countN {n k : Nat} (h : d₀.keeps d) : d₀.keeps (d.countN n k) := h.pmc Pmc.add_wf

theorem Dev.keeps.bus {m : Nat} {w : Bool} {t x n : Nat} {f : Option Nat} (h : d₀.keeps d) : d₀.keeps (d.bus m w t x n f) := h.mtx

end Sys2Proof.Machine

/-! SUPPORT. One lemma for each operation of the control side: from a device that keeps what d₀ had it makes one that keeps it too. -/
namespace Sys2Proof.Machine
set_option Elab.async false
variable {d₀ d : Dev}

theorem Dev.keeps.send {o : Out} (h : d₀.keeps d) : d₀.keeps (d.send o) := h.io

theorem Dev.keeps.toHost {addr len : Nat} {o : Out} (h : d₀.keeps d) : d₀.keeps (d.toHost addr len o) := h.send.bus

theorem Dev.keeps.takeFresh (h : d₀.keeps d) : d₀.keeps (d.takeFresh).2 := h.fresh

theorem Dev.keeps.setLeaf {f off bits : Nat} (h : d₀.keeps d) : d₀.keeps (d.setLeaf f off bits) := h.modView

theorem Dev.keeps.setTileLeaf {off tn : Nat} (h : d₀.keeps d) : d₀.keeps (d.setTileLeaf off tn) := h.setLeaf

theorem Dev.keeps.count {n : Nat} (h : d₀.keeps d) : d₀.keeps (d.count n) := h.countN

theorem Dev.keeps.evtPush {f type dw2 dw3 dw4 dw5 : Nat} (h : d₀.keeps d) : d₀.keeps (d.evtPush f type dw2 dw3 dw4 dw5).2 :=
  .ite2 h.toHost.modFn.count h.modFn.setLeaf.count

theorem Dev.keeps.faultPush {f n scope : Nat} {current inj : Bool} (h : d₀.keeps d) : d₀.keeps (d.faultPush f n scope current inj).2 :=
  .ite h.evtPush.setLeaf h.evtPush

theorem Dev.keeps.errPulse (h : d₀.keeps d) : d₀.keeps (d.errPulse) := Dev.keeps.flt (.ite h.setLeaf h)

theorem Dev.keeps.mark {n scope : Nat} {inj : Bool} (h : d₀.keeps d) : d₀.keeps (d.mark n scope inj) := .ite h.modSrc.errPulse h.modSrc

theorem Dev.keeps.eventLost {f : Nat} (h : d₀.keeps d) : d₀.keeps (d.eventLost f) :=
  .ite (.foldl (fun _ _ h0 => h0.faultPush) h.mark) h.mark

theorem Dev.keeps.evt {f type dw2 dw3 dw4 dw5 : Nat} (h : d₀.keeps d) : d₀.keeps (d.evt f type dw2 dw3 dw4 dw5) :=
  .ite h.evtPush h.evtPush.eventLost

theorem Dev.keeps.faultEvents {n scope : Nat} {current inj : Bool} (h : d₀.keeps d) : d₀.keeps (d.faultEvents n scope current inj) :=
  .ite (.foldl (fun _ _ h0 => .ite h0.faultPush h0.faultPush.eventLost) h) h

theorem Dev.keeps.signal {n scope : Nat} {inj : Bool} (h : d₀.keeps d) : d₀.keeps (d.signal n scope inj) :=
  .ite h (.faultEvents (.ite h.mark.setLeaf h.mark))

theorem Dev.keeps.once {n scope : Nat} (h : d₀.keeps d) : d₀.keeps (d.once n scope) := h.signal

theorem Dev.keeps.condOn {n scope : Nat} (h : d₀.keeps d) : d₀.keeps (d.condOn n scope) := .ite h h.modSrc.signal

theorem Dev.keeps.condOff {n scope : Nat} (h : d₀.keeps d) : d₀.keeps (d.condOff n scope) := h.modSrc

theorem Dev.keeps.cqPush {q : Nat} {c : Comp} {imm : Bool} (h : d₀.keeps d) : d₀.keeps (d.cqPush q c imm) := h.toHost.modQueue.count.count

theorem Dev.keeps.acqPush {f : Nat} {c : Comp} (h : d₀.keeps d) : d₀.keeps (d.acqPush f c) := .ite h.toHost.modFn.count h

theorem Dev.keeps.releaseLane {k : Nat} (h : d₀.keeps d) : d₀.keeps (d.releaseLane k) := h.modFl

theorem Dev.keeps.freeSlot {k : Nat} (h : d₀.keeps d) : d₀.keeps (d.freeSlot k) := .modSlot (.foldl (fun _ _ h0 => h0.releaseLane) h)

theorem Dev.keeps.dropCmds {q : Nat} {gone : Nat → Bool} (h : d₀.keeps d) : d₀.keeps (d.dropCmds q gone) :=
  .modQueue (Dev.keeps.jobs (.foldl (fun _ _ h0 => .ite h0.freeSlot h0) h))

theorem Dev.keeps.stallAt {q idx : Nat} (h : d₀.keeps d) : d₀.keeps (d.stallAt q idx) := h.dropCmds.modQueue

theorem Dev.keeps.drain1 {q : Nat} (h : d₀.keeps d) : d₀.keeps (d.drain1 q) := by
  unfold Dev.drain1
  split
  · exact h
  · split
    · exact h
    · refine .ite (.evt (.ite (.ite (.stallAt ?_) ?_) (.cqPush (.ite (.stallAt ?_) ?_)))) (.ite (.ite (.stallAt ?_) ?_) (.cqPush (.ite (.stallAt ?_) ?_)))
      · split
        · exact h.modQueue.freeSlot
        · exact h.modQueue
      · split
        · exact h.modQueue.freeSlot
        · exact h.modQueue
      · split
        · exact h.modQueue.freeSlot
        · exact h.modQueue
      · split
        · exact h.modQueue.freeSlot
        · exact h.modQueue
      · split
        · exact h.modQueue.freeSlot
        · exact h.modQueue
      · split
        · exact h.modQueue.freeSlot
        · exact h.modQueue
      · split
        · exact h.modQueue.freeSlot
        · exact h.modQueue
      · split
        · exact h.modQueue.freeSlot
        · exact h.modQueue

theorem Dev.keeps.drain {q : Nat} (h : d₀.keeps d) : d₀.keeps (d.drain q) := .foldl (fun _ _ h0 => h0.drain1) h

theorem Dev.keeps.complete {q idx : Nat} {comp : Comp} (h : d₀.keeps d) : d₀.keeps (d.complete q idx comp) := h.modQueue.drain

theorem Dev.keeps.adminDone {f idx : Nat} {comp : Comp} (h : d₀.keeps d) : d₀.keeps (d.adminDone f idx comp) := by
  unfold Dev.adminDone
  split
  · exact h.modFn
  · split
    · exact h
    · exact h.modFn.acqPush

theorem Dev.keeps.message {f : Nat} (h : d₀.keeps d) : d₀.keeps (d.message f) := .ite h.modFn (.ite h.send.count h)

theorem Dev.keeps.pinTo {name : String} {old new : Bool} (h : d₀.keeps d) : d₀.keeps (d.pinTo name old new) := .ite h h.send

theorem Dev.keeps.notify (h : d₀.keeps d) : d₀.keeps (d.notify) :=
  Dev.keeps.flt (Dev.keeps.io (.pinTo (.pinTo (.pinTo (.foldl (fun _ _ h0 => h0.message) h)))))

theorem Dev.keeps.inbound {write : Bool} {bar addr len : Nat} (h : d₀.keeps d) : d₀.keeps (d.inbound write bar addr len) := h.count.bus

theorem Dev.keeps.matrixEdge (h : d₀.keeps d) : d₀.keeps (d.matrixEdge) :=
  .ite h (.foldl (fun _ _ h0 => .ite h0 (.ite h0.count (.ite h0.count h0))) h.mtx)

theorem Dev.keeps.resetBursts {p : Burst → Bool} (h : d₀.keeps d) : d₀.keeps (d.resetBursts p) :=
  .foldl (fun _ _ h0 => .ite h0.countN h0) h.mtx

theorem Dev.keeps.dropHostBursts (h : d₀.keeps d) : d₀.keeps (d.dropHostBursts) := h.mtx

theorem Dev.keeps.endFetch {q : Nat} (h : d₀.keeps d) : d₀.keeps (d.endFetch q) := h.mtx

theorem Dev.keeps.startFetches : ∀ {n : Nat} {d : Dev}, d₀.keeps d → d₀.keeps (Dev.startFetches n d) := by
  intro n
  induction n with
  | zero => exact fun h => h
  | succ n ih =>
    intro d h
    unfold Dev.startFetches
    refine .ite h ?_
    split
    · exact h
    · exact ih h.mtx.bus

theorem Dev.keeps.busEdge (h : d₀.keeps d) : d₀.keeps (d.busEdge) := .ite h.matrixEdge.startFetches h

theorem Dev.keeps.startJob {n : Net} {k : Nat} (h : d₀.keeps d) : d₀.keeps (d.startJob n k) := by
  unfold Dev.startJob
  extract_lets
  split
  · exact h.count.modSlot.modSlot.complete
  · exact h.count.modSlot.modSlot
  · exact h.count.modSlot.modSlot

theorem Dev.keeps.holdOrStage {k : Nat} (h : d₀.keeps d) : d₀.keeps (d.holdOrStage k) := by
  unfold Dev.holdOrStage
  split
  · exact h.modSlot.count
  · exact h.modSlot

theorem Dev.keeps.countBad {st : Nat} (h : d₀.keeps d) : d₀.keeps (d.countBad st) := .ite h.count (.ite h.count (.ite h.count h))

theorem Dev.keeps.ffStep {ca : Nat} (h : d₀.keeps d) : d₀.keeps (d.ffStep ca) := .ite h h.modLoop

theorem Dev.keeps.injDone {ks : List Nat} {value flags t : Nat} (h : d₀.keeps d) : d₀.keeps (d.injDone ks value flags t) :=
  .foldl (fun _ _ h0 => h0.modInj.setLeaf) h

theorem Dev.keeps.injAbandon {mpa : Nat} (h : d₀.keeps d) : d₀.keeps (d.injAbandon mpa) := by
  unfold Dev.injAbandon
  split
  · exact h
  · exact .ite h (.count (.count (Dev.keeps.mon (.foldl (fun _ _ h0 => h0.injDone) h))))

theorem Dev.keeps.invalid {mpa time : Nat} (h : d₀.keeps d) : d₀.keeps (d.invalid mpa time) := h.modMrt.count

theorem Dev.keeps.abandon {mpa : Nat} (h : d₀.keeps d) : d₀.keeps (d.abandon mpa) :=
  .ite (.ite h h.injAbandon) (.modMrt (.invalid (.ite h h.injAbandon)))

theorem Dev.keeps.enterFast {ca : Nat} (h : d₀.keeps d) : d₀.keeps (d.enterFast ca) := .ite h h.abandon.abandon.modCell

theorem Dev.keeps.slowCheck {ca : Nat} (h : d₀.keeps d) : d₀.keeps (d.slowCheck ca) := Dev.keeps.mon (.ite h h.abandon)

theorem Dev.keeps.modHeaters {ca : Nat} {f : Loop → Loop} (h : d₀.keeps d) : d₀.keeps (d.modHeaters ca f) :=
  .foldl (fun _ _ h0 => h0.modLoop) h

theorem Dev.keeps.clearTrim {ca : Nat} (h : d₀.keeps d) : d₀.keeps (d.clearTrim ca) := h.modLoop

theorem Dev.keeps.restartMet {mpa : Nat} (h : d₀.keeps d) : d₀.keeps (d.restartMet mpa) := h.modMet

theorem Dev.keeps.stepTo {ca : Nat} {f : Int} {kind : Nat} (h : d₀.keeps d) : d₀.keeps (d.stepTo ca f kind) :=
  h.enterFast.restartMet.restartMet.modCell.clearTrim.modHeaters.ffStep

theorem Dev.keeps.stepSwitch {ca : Nat} {old new : Sw} (h : d₀.keeps d) : d₀.keeps (d.stepSwitch ca old new) := .ite h h.stepTo

theorem Dev.keeps.followRef {d0 : Dev} {ca : Nat} (h : d₀.keeps d) : d₀.keeps (d.followRef d0 ca) := .ite h h.modMet

theorem Dev.keeps.followEff {d0 : Dev} {ca : Nat} (h : d₀.keeps d) : d₀.keeps (d.followEff d0 ca) := .ite h h.modCell

theorem Dev.keeps.setBal {o : Nat} {b restA restB : Int} (h : d₀.keeps d) : d₀.keeps (d.setBal o b restA restB) :=
  .foldl (fun _ _ h0 => h0.followEff.followRef) h.fab

theorem Dev.keeps.balDisable {o : Nat} (h : d₀.keeps d) : d₀.keeps (d.balDisable o) := by
  unfold Dev.balDisable
  exact h.setBal

theorem Dev.keeps.stepVoa {ca : Nat} {dark : Bool} {a : Int} (h : d₀.keeps d) : d₀.keeps (d.stepVoa ca dark a) :=
  .ite (.ite h.modCell.modCell h.modCell) h.modCell.stepTo

theorem Dev.keeps.seqErr {b : Nat} (h : d₀.keeps d) : d₀.keeps (d.seqErr b) := .ite h.seq.once (.ite h.seq.once h.seq.setLeaf)

theorem Dev.keeps.droppedWrite {addr : Nat} (h : d₀.keeps d) : d₀.keeps (d.droppedWrite addr) := h.seq.seqErr

theorem Dev.keeps.syncEvent {x : Nat} (h : d₀.keeps d) : d₀.keeps (d.syncEvent x) := Dev.keeps.seq (.ite h.send h)

theorem Dev.keeps.injTrigger {t : Nat} (h : d₀.keeps d) : d₀.keeps (d.injTrigger t) := (h.inj (Tab.wf_mapVals _ _))

theorem Dev.keeps.flTrigger {p : Fl → Bool} (h : d₀.keeps d) : d₀.keeps (d.flTrigger p) := (h.fl (Tab.wf_mapVals _ _))

theorem Dev.keeps.trigLines {lines : Nat} (h : d₀.keeps d) : d₀.keeps (d.trigLines lines) :=
  .foldl (fun _ _ h0 => .ite h0.syncEvent h0) h.flTrigger

theorem Dev.keeps.loadSample {m : Mem} {x t : Nat} (h : d₀.keeps d) : d₀.keeps (d.loadSample m x t) := .foldl (fun _ _ h0 => h0.modLane) h

theorem Dev.keeps.seqStop (h : d₀.keeps d) : d₀.keeps (d.seqStop) := h.seq.setLeaf

theorem Dev.keeps.startIteration {m : Mem} {t : Nat} (h : d₀.keeps d) : d₀.keeps (d.startIteration m t) :=
  .ite h.seq.loadSample.trigLines.seq h.seq.loadSample.trigLines

theorem Dev.keeps.reachSeg {m : Mem} {g t : Nat} (h : d₀.keeps d) : d₀.keeps (d.reachSeg m g t) :=
  .ite h.seqErr.seqStop (.ite (.ite h.seq.seqStop h.seq.seqErr.seqErr) h.seq.startIteration)

theorem Dev.keeps.seqRun {m : Mem} (h : d₀.keeps d) : d₀.keeps (d.seqRun m) := .ite h (.ite h.seq.reachSeg h.seq.seq)

theorem Dev.keeps.seqTrigger {m : Mem} {t : Nat} (h : d₀.keeps d) : d₀.keeps (d.seqTrigger m t) := .ite h.reachSeg h

theorem Dev.keeps.seqStopReq (h : d₀.keeps d) : d₀.keeps (d.seqStopReq) := by
  unfold Dev.seqStopReq
  split
  · exact h
  · exact h.seq
  · exact h.seqStop

theorem Dev.keeps.seqJump (h : d₀.keeps d) : d₀.keeps (d.seqJump) := .ite h.seq.seqErr h.seq

theorem Dev.keeps.midnightTriggers {m : Mem} (h : d₀.keeps d) : d₀.keeps (d.midnightTriggers m) :=
  .seqTrigger (.flTrigger (.injTrigger (.foldl (fun _ _ h0 => .ite h0.syncEvent h0) h)))

theorem Dev.keeps.seqCtl {m : Mem} {v : Nat} (h : d₀.keeps d) : d₀.keeps (d.seqCtl m v) :=
  .ite (.seqStopReq (.ite (.ite h.seq.seqErr h.seq.seqRun) h.seq)) (.ite (.ite h.seq.seqErr h.seq.seqRun) h.seq)

theorem Dev.keeps.seqJumpWrite {v : Nat} (h : d₀.keeps d) : d₀.keeps (d.seqJumpWrite v) := .ite h.seqErr (.ite h.seq.seqJump h.seq)

theorem Dev.keeps.seqBindWrite {n : Net} {l v : Nat} (h : d₀.keeps d) : d₀.keeps (d.seqBindWrite n l v) :=
  .ite h.seqErr (.ite (.ite h h.modLane) (.ite h.modLane (.ite h (.ite h.modLane h.modLane.seqErr))))

theorem Dev.keeps.unbindLane {lane : Nat} (h : d₀.keeps d) : d₀.keeps (d.unbindLane lane) :=
  .ite h (.ite (.ite h.modLane.modCell h.modLane.modLoop) (.modHeaters (.ite h.modLane.modCell h.modLane.modLoop)))

theorem Dev.keeps.sampleNext {m : Mem} (h : d₀.keeps d) : d₀.keeps (d.sampleNext m) :=
  .ite h.seqStop (.ite h.seq.loadSample.seq h.seq.loadSample)

theorem Dev.keeps.iterationNext {m : Mem} (h : d₀.keeps d) : d₀.keeps (d.iterationNext m) := by
  unfold Dev.iterationNext
  refine .ite h.seq.seqStop ?_
  split
  · exact h.seq.startIteration
  · exact h.seq.reachSeg
  · exact h.seq.seqStop

theorem Dev.keeps.rfEnds (h : d₀.keeps d) : d₀.keeps (d.rfEnds) := .ite h.resetBursts.seq.seqStop h.resetBursts.seq

theorem Dev.keeps.descWrite {off v : Nat} (h : d₀.keeps d) : d₀.keeps (d.descWrite off v) := .ite h (.ite h.droppedWrite h.seq)

theorem Dev.keeps.sampleWrite {dma : Bool} {m : Mem} {addr : Nat} {bs : List Byte} (h : d₀.keeps d) :
    d₀.keeps (sampleWrite dma m d addr bs).2 :=
  .ite2 h (.ite2 h.droppedWrite (.ite2 h h))

theorem Dev.keeps.patternPut {dma : Bool} {m : Mem} {addr : Nat} {bs : List Byte} (h : d₀.keeps d) :
    d₀.keeps (patternPut dma m d addr bs).2 :=
  .foldl2 (fun _ _ h0 => h0.sampleWrite) h

theorem Dev.keeps.shapeLoadReq {seg : Nat} (h : d₀.keeps d) : d₀.keeps (d.shapeLoadReq seg) := .ite h.drv.once h.drv

theorem Dev.keeps.toneApplyReq (h : d₀.keeps d) : d₀.keeps (d.toneApplyReq) := .ite h.drv h.drv.once

theorem Dev.keeps.drvCtl {v : Nat} (h : d₀.keeps d) : d₀.keeps (d.drvCtl v) :=
  .ite (.toneApplyReq (.ite h.drv.shapeLoadReq h.drv)) (.ite h.drv.shapeLoadReq h.drv)

theorem Dev.keeps.reconstrain {ca : Nat} {old new : Sw} (h : d₀.keeps d) : d₀.keeps (d.reconstrain ca old new) :=
  .ite (.modCell (.setCons (.foldl (fun _ _ h0 => h0.modCell) h))) (.ite h.setCons h)

theorem Dev.keeps.voaAt {n : Net} {c : Change} {ca : Nat} (h : d₀.keeps d) : d₀.keeps (d.voaAt n c ca).1 :=
  .ite1 (.ite1 h h.stepVoa) (.ite1 h.stepVoa h)

theorem Dev.keeps.supersede {keys : List Nat} (h : d₀.keeps d) : d₀.keeps (d.supersede keys) := h.jobs

theorem Dev.keeps.attFinish (h : d₀.keeps d) : d₀.keeps (d.attFinish) := .foldl (fun _ _ h0 => h0.jobs.complete) h

theorem Dev.keeps.freeMet {mpa : Nat} (h : d₀.keeps d) : d₀.keeps (d.freeMet mpa) := .ite h.modMet h

theorem Dev.keeps.setRef {n : Net} {i o : Nat} (h : d₀.keeps d) : d₀.keeps (d.setRef n i o) := .foldl (fun _ _ h0 => h0.modMet) h

theorem Dev.keeps.pathFaults {n : Net} (h : d₀.keeps d) : d₀.keeps (d.pathFaults n) :=
  .foldl (fun _ _ h0 => h0.condOn) (.foldl (fun _ _ h1 => h1.condOff) h)

theorem Dev.keeps.singlesGone {n : Net} (h : d₀.keeps d) : d₀.keeps (d.singlesGone n) := Dev.keeps.cmt (.foldl (fun _ _ h0 => h0.condOff) h)

theorem Dev.keeps.snapMidnight (h : d₀.keeps d) : d₀.keeps (d.snapMidnight) := h.jobs

theorem Dev.keeps.constrain {n : Net} {ca src : Nat} (h : d₀.keeps d) : d₀.keeps (d.constrain n ca src) := by
  unfold Dev.constrain
  refine .ite h ?_
  split
  · exact h.modCell
  · exact h.setCons.modCell
  · exact h.setCons.modCell

theorem Dev.keeps.lockFail {n : Net} {ca : Nat} (h : d₀.keeps d) : d₀.keeps (d.lockFail n ca) := h.once.constrain.setTileLeaf

theorem Dev.keeps.planeEvent {type inp out plane ca : Nat} (h : d₀.keeps d) : d₀.keeps (d.planeEvent type inp out plane ca) :=
  .foldl (fun _ _ h0 => .ite h0.evtPush.setLeaf h0.evtPush.eventLost) h

theorem Dev.keeps.dropPlane {keep : Bool} {c : Conn} {pl : Nat} {ca : Option Nat} (h : d₀.keeps d) : d₀.keeps (d.dropPlane keep c pl ca) :=
  .ite h.planeEvent h.cmt

theorem Dev.keeps.keepFailed {n : Net} {s : Slot} {c : Conn} (h : d₀.keeps d) : d₀.keeps (d.keepFailed n s c) := by
  unfold Dev.keepFailed
  split
  · exact .foldl (fun _ _ h0 => h0.once) h
  · exact .dropPlane (.foldl (fun _ _ h1 => h1.once) h)

theorem Dev.keeps.advance {n : Net} {k : Nat} (h : d₀.keeps d) : d₀.keeps (d.advance n k) := by
  unfold Dev.advance
  refine .ite h ?_
  split
  · exact .ite h.modSlot (.ite (.modSlot (.foldl (fun _ _ h0 => h0.keepFailed) h)) (.ite (.complete (.modSlot (.ite (.modSlot (.foldl (fun _ _ h1 => h1.keepFailed) h)) (.count (.modSlot (.foldl (fun _ _ h2 => h2.keepFailed) h)))))) (.modSlot (.ite (.modSlot (.foldl (fun _ _ h3 => h3.keepFailed) h)) (.count (.modSlot (.foldl (fun _ _ h4 => h4.keepFailed) h)))))))
  · exact .ite h.complete h
  · exact .ite h.complete h
  · refine .ite (.complete (.foldl (fun _ _ h5 => ?_) h)) (.ite h h.modSlot)
    split
    · exact h5.once
    · exact h5
  · exact h

theorem Dev.keeps.startVerify {n : Net} {k : Nat} {checked : List Nat} {stepped : List Nat} (h : d₀.keeps d) :
    d₀.keeps (d.startVerify n k checked stepped) :=
  .countN (.foldl (fun _ _ h0 => h0.slowCheck.slowCheck) (.foldl (fun _ _ h1 => h1.modFl) h.modSlot.modSlot))

theorem Dev.keeps.pickLanes {conns : List Conn} {oatt : List (Nat × Nat)} {k : Nat} {outs : List (Nat × Nat)} (h : d₀.keeps d) :
    d₀.keeps (d.pickLanes conns oatt k outs).1 := by
  refine .foldl1 (fun _ _ h0 => ?_) h
  dsimp only
  split
  · exact .ite1 h0 h0.modFl.modFl.countN
  · exact h0

theorem Dev.keeps.reserveLanes {conns : List Conn} {oatt : List (Nat × Nat)} {k : Nat} {outs : List (Nat × Nat)} (h : d₀.keeps d) :
    d₀.keeps (d.reserveLanes conns oatt k outs) :=
  h.pickLanes.modSlot

theorem Dev.keeps.reserveFor {n : Net} {k : Nat} (h : d₀.keeps d) : d₀.keeps (d.reserveFor n k) := h.reserveLanes

theorem Dev.keeps.planeMoved {n : Net} {moved : List Nat} (h : d₀.keeps d) : d₀.keeps (d.planeMoved n moved) := by
  unfold Dev.planeMoved
  refine .foldl (fun _ _ h0 => ?_) h
  split
  · exact .ite h0.cmt h0
  · exact h0

theorem Dev.keeps.laneResult {l : Nat} {m : Meas} (h : d₀.keeps d) : d₀.keeps (d.laneResult l m) := h.modFl

theorem Dev.keeps.closeLanes {lanes : List Nat} {ms : List Meas} (h : d₀.keeps d) : d₀.keeps (d.closeLanes lanes ms) := by
  unfold Dev.closeLanes
  refine .foldl (fun _ _ h0 => h0.releaseLane) (.foldl (fun _ _ h1 => ?_) h)
  split
  · exact h1.laneResult
  · exact h1

theorem Dev.keeps.restoreCheck {n : Net} {i : Nat} (h : d₀.keeps d) : d₀.keeps (d.restoreCheck n i) := by
  unfold Dev.restoreCheck
  split
  · exact .ite h (.ite h.cmt.dropPlane h.cmt.cmt.condOff.planeEvent)
  · exact h.closeLanes.cmt
  · exact h

theorem Dev.keeps.unwait {ca : Nat} (h : d₀.keeps d) : d₀.keeps (d.unwait ca) := .foldl (fun _ _ h0 => .ite h0.modSlot h0) h

theorem Dev.keeps.holdLoops (h : d₀.keeps d) : d₀.keeps (d.holdLoops) := (h.loops (Tab.wf_modMany _ _ allHeaters_rise))

theorem Dev.keeps.returnLoops (h : d₀.keeps d) : d₀.keeps (d.returnLoops) := (h.loops (Tab.wf_mapVals _ _))

theorem Dev.keeps.dropRamps {n : Net} {rolls : List (Nat × Option Nat)} (h : d₀.keeps d) : d₀.keeps (d.dropRamps n rolls) := by
  unfold Dev.dropRamps
  refine .foldl (fun _ _ h0 => ?_) h
  split
  · exact h0
  · exact .foldl (fun _ _ h1 => h1.modCell) h0

theorem Dev.keeps.keepBlanked {n : Net} {k : Nat} (h : d₀.keeps d) : d₀.keeps (d.keepBlanked n k) :=
  h.closeLanes.dropRamps.modSlot.count.advance

theorem Dev.keeps.blankSlot {n : Net} {k : Nat} (h : d₀.keeps d) : d₀.keeps (d.blankSlot n k) := by
  unfold Dev.blankSlot
  extract_lets
  split
  · exact h.keepBlanked
  · exact .ite h h.keepBlanked
  · exact .ite h h.keepBlanked
  · exact .ite h.closeLanes.modSlot.advance h
  · exact h

theorem Dev.keeps.blankSlots {n : Net} (h : d₀.keeps d) : d₀.keeps (d.blankSlots n) := by
  have h1 : d₀.keeps ((List.range 16).foldl (fun d k => d.blankSlot n k) d) := .foldl (fun _ _ h0 => h0.blankSlot) h
  unfold Dev.blankSlots
  extract_lets d1 d2 _ d3
  have h2 : d₀.keeps d2 := .foldl (fun _ _ h0 => h0.closeLanes) h1
  clear_value d2
  have h3 : d₀.keeps d3 := h2.cmt
  exact .foldl (fun _ _ h0 => h0.restoreCheck) h3

theorem Dev.keeps.overrideVoas {cas : List Nat} (hc : cas.Pairwise (· < ·)) (h : d₀.keeps d) : d₀.keeps (d.overrideVoas cas) := by
  unfold Dev.overrideVoas
  exact ((h.cells (Tab.wf_modMany _ _ hc)).met (Tab.wf_mapVals _ _)).countN

theorem Dev.keeps.darkTargets (h : d₀.keeps d) : d₀.keeps d.darkTargets :=
  h.cells (fun c => Tab.wf_modMany _ _ outVoas_rise (Tab.wf_modMany _ _ inVoas_rise c))

theorem Dev.keeps.releaseVoa {ca : Nat} (h : d₀.keeps d) : d₀.keeps (d.releaseVoa ca) := .ite h.modCell h.modCell.stepTo

theorem Dev.keeps.releaseCheck (h : d₀.keeps d) : d₀.keeps (d.releaseCheck) := .ite h.flt.setLeaf h

theorem Dev.keeps.blankStart {n : Net} (h : d₀.keeps d) : d₀.keeps (d.blankStart n) := by
  unfold Dev.blankStart
  extract_lets _ d1
  have h1 : d₀.keeps d1 := h.flt
  clear_value d1
  exact (Dev.keeps.overrideVoas outVoas_rise h1.setLeaf).blankSlots

theorem Dev.keeps.blankSync {n : Net} (h : d₀.keeps d) : d₀.keeps (d.blankSync n) := .ite h (.ite (.ite h.flt h.blankStart) (.ite h.flt h))

theorem Dev.keeps.fatalSync {src : Nat} (h : d₀.keeps d) : d₀.keeps (d.fatalSync src) :=
  .ite (.ite h.flt.holdLoops (.ite h.flt.holdLoops h)) (.ite h.flt.returnLoops h)

theorem Dev.keeps.relockCheck {n : Net} (h : d₀.keeps d) : d₀.keeps (d.relockCheck n) := .ite h.flt h

theorem Dev.keeps.settleFatal {n : Net} {src : Nat} (h : d₀.keeps d) : d₀.keeps (d.settleFatal n src) := h.fatalSync.relockCheck.blankSync

theorem Dev.keeps.fatalOn {n : Net} {src scope : Nat} (h : d₀.keeps d) : d₀.keeps (d.fatalOn n src scope) := h.condOn.settleFatal

theorem Dev.keeps.fatalOff {n : Net} {src scope : Nat} (h : d₀.keeps d) : d₀.keeps (d.fatalOff n src scope) := h.condOff.settleFatal

theorem Dev.keeps.unforce {n : Nat} (h : d₀.keeps d) : d₀.keeps (d.unforce n) := .ite h.modSrc h

theorem Dev.keeps.fltCtlWrite {n : Net} {v : Nat} (h : d₀.keeps d) : d₀.keeps (d.fltCtlWrite n v) := by
  unfold Dev.fltCtlWrite
  extract_lets f f' d1 d2 last
  have h1 : d₀.keeps d1 := h.flt
  have h2 : d₀.keeps d2 := .ite h1 (.foldl (fun _ _ h0 => h0.unforce) h1)
  exact h2.settleFatal.pathFaults

theorem Dev.keeps.demodTake {n : Net} {t0 ca : Nat} {taps : List (Int × Int)} (h : d₀.keeps d) : d₀.keeps (d.demodTake n t0 ca taps) :=
  h.modCell

theorem Dev.keeps.snapNow (h : d₀.keeps d) : d₀.keeps (d.snapNow) := h.pmc

theorem Dev.keeps.recordSnap (h : d₀.keeps d) : d₀.keeps (d.recordSnap).2 := .ite2 (.ite2 h h.pmc.setLeaf) h.snapNow.pmc.bus

theorem Dev.keeps.takeRec {n : Net} {cmd : Option (Nat × Nat × Nat × Nat)} {counters powers lock : Bool} (h : d₀.keeps d) :
    d₀.keeps (d.takeRec n cmd counters powers lock) :=
  Dev.keeps.jobs (.ite2 h.recordSnap h)

theorem Dev.keeps.lostRecord (h : d₀.keeps d) : d₀.keeps (d.lostRecord) := h.io.count.setLeaf.once

theorem Dev.keeps.ringRecord {r : Rec} (h : d₀.keeps d) : d₀.keeps (d.ringRecord r).2 := by
  unfold Dev.ringRecord
  dsimp only
  split
  · exact (Dev.keeps.io h.toHost.toHost).count
  · exact h.lostRecord

theorem Dev.keeps.writeRec {r : Rec} (h : d₀.keeps d) : d₀.keeps (d.writeRec r) := by
  unfold Dev.writeRec
  split
  · exact h.ringRecord
  · exact .ite h (.complete (.ite2 h.ringRecord (.ite h h.toHost)))

theorem Dev.keeps.cutRec {r : Rec} (h : d₀.keeps d) : d₀.keeps (d.cutRec r) := by
  unfold Dev.cutRec
  split
  · exact h.lostRecord
  · exact .ite h (.complete (.ite h.lostRecord h))

theorem Dev.keeps.writeRecs {dumped : Bool} (h : d₀.keeps d) : d₀.keeps (d.writeRecs dumped) := .foldl (fun _ _ h0 => h0.writeRec) h.jobs

theorem Dev.keeps.latchPowers {t : Nat} (h : d₀.keeps d) : d₀.keeps (d.latchPowers t) := .ite h.jobs.writeRecs h

theorem Dev.keeps.uncal {tn : Nat} (h : d₀.keeps d) : d₀.keeps (d.uncal tn) := .foldl (fun _ _ h0 => .ite h0.modHeaters.modCell h0) h

theorem Dev.keeps.calFinish {r : CalRun} (h : d₀.keeps d) : d₀.keeps (d.calFinish r) := .complete (.setLeaf (.ite h h.toHost))

theorem Dev.keeps.calBegin {r : CalRun} (h : d₀.keeps d) : d₀.keeps (d.calBegin r) := h.cal

theorem Dev.keeps.calCheck (h : d₀.keeps d) : d₀.keeps (d.calCheck) := by
  unfold Dev.calCheck
  dsimp only
  split
  · exact h
  · refine .ite h ?_
    split
    · exact h.cal.calFinish.calBegin
    · exact h.cal.calFinish

theorem Dev.keeps.sweepRestore {w : Sweep} (h : d₀.keeps d) : d₀.keeps (d.sweepRestore w) := by
  unfold Dev.sweepRestore
  refine .foldl (fun _ _ h0 => ?_) h
  split
  · exact h0.modLane.modLoop
  · exact h0

theorem Dev.keeps.stopSweep {tn : Nat} (h : d₀.keeps d) : d₀.keeps (d.stopSweep tn) := by
  unfold Dev.stopSweep
  split
  · exact .ite h (Dev.keeps.cal (.sweepRestore (.ite h h.seqStop)))
  · exact h

theorem Dev.keeps.calAbandon {tn : Nat} {flag : Bool} (h : d₀.keeps d) : d₀.keeps (d.calAbandon tn flag) := by
  unfold Dev.calAbandon
  split
  · exact h
  · exact .calCheck (.ite h.cal.stopSweep.uncal.modLe.setLeaf h.cal.stopSweep.uncal.modLe)

theorem Dev.keeps.leErr {k bit : Nat} (h : d₀.keeps d) : d₀.keeps (d.leErr k bit) := h.modLe

theorem Dev.keeps.dropReq {k : Nat} (h : d₀.keeps d) : d₀.keeps (d.dropReq k) := h.modLe.leErr.once

theorem Dev.keeps.askMove {tn : Nat} {back preset : Bool} (h : d₀.keeps d) : d₀.keeps (d.askMove tn back preset) := h.modLe

theorem Dev.keeps.spareFreed {plane : Nat} (h : d₀.keeps d) : d₀.keeps (d.spareFreed plane) := by
  unfold Dev.spareFreed
  split
  · exact h.modLe
  · exact h

theorem Dev.keeps.ownFails {tn : Nat} (h : d₀.keeps d) : d₀.keeps (d.ownFails tn) := by
  unfold Dev.ownFails
  dsimp only
  split
  · exact h.modLe.askMove.calAbandon
  · exact h.modLe.modLe.calAbandon
  · refine .ite ?_ (.calAbandon (.askMove (.modLe (.modLe ?_))))
    · split
      · exact h.modLe.modLe.modLe.calAbandon
      · exact h.modLe.modLe.askMove.calAbandon
    · split
      · exact h.modLe
      · exact h
  · exact h

theorem Dev.keeps.spareFails {k : Nat} (h : d₀.keeps d) : d₀.keeps (d.spareFails k) := by
  unfold Dev.spareFails
  extract_lets
  refine .ite ?_ h.modLe
  split
  · exact h.modLe.modLe.askMove.calAbandon
  · exact .ite h.modLe.modLe.modLe.askMove h.modLe.modLe.modLe.calAbandon
  · exact h.modLe.modLe.askMove

theorem Dev.keeps.leFails {k bit : Nat} (h : d₀.keeps d) : d₀.keeps (d.leFails k bit) := .once (.ite h.leErr.spareFails h.leErr.ownFails)

theorem Dev.keeps.startReturn {tn : Nat} (h : d₀.keeps d) : d₀.keeps (d.startReturn tn) := by
  unfold Dev.startReturn
  refine .modLe ?_
  split
  · exact h.modLe
  · exact h

theorem Dev.keeps.presetTile {tn : Nat} (h : d₀.keeps d) : d₀.keeps (d.presetTile tn) :=
  .modLe (.foldl (fun _ _ h0 => h0.modHeaters.modCell.modLoop) h)

theorem Dev.keeps.startMove {tn : Nat} (h : d₀.keeps d) : d₀.keeps (d.startMove tn) := by
  unfold Dev.startMove
  refine .ite (.startReturn (.ite h.modLe.presetTile h)) ?_
  split
  · exact .modLe (.modLe (.ite h.modLe.presetTile h))
  · refine .ite ?_ (.ite h.modLe (.ite h.modLe.dropReq h.modLe))
    split
    · exact .modLe (.ite h.calAbandon.startReturn h)
    · exact .ite h.modLe h.modLe.leErr.condOn

theorem Dev.keeps.calOpen {tn : Nat} (h : d₀.keeps d) : d₀.keeps (d.calOpen tn) := by
  unfold Dev.calOpen
  split
  · exact h
  · exact h.cal

theorem Dev.keeps.calReturned {tn : Nat} (h : d₀.keeps d) : d₀.keeps (d.calReturned tn) := .ite h h.cal.uncal.calCheck

theorem Dev.keeps.endMove {tn : Nat} (h : d₀.keeps d) : d₀.keeps (d.endMove tn) := by
  unfold Dev.endMove
  refine .ite (.calReturned ?_) (.ite (.modLe ?_) (.ite (.calOpen (.modLe ?_)) (.askMove (.modLe ?_))))
  · split
    · exact h.condOff.modLe.modLe.spareFreed
    · exact h.condOff.modLe
  · split
    · exact h.condOff.modLe
    · exact h.condOff
  · split
    · exact h.condOff.modLe
    · exact h.condOff
  · split
    · exact h.condOff.modLe
    · exact h.condOff

theorem Dev.keeps.leCtlWrite {k v : Nat} (h : d₀.keeps d) : d₀.keeps (d.leCtlWrite k v) :=
  .ite h (.ite (.askMove (.modLe (.ite h.modLe (.ite h.modLe.dropReq (.ite h.modLe (.ite h.modLe.dropReq h.modLe.modLe.askMove)))))) (.ite h.modLe (.ite h.modLe.dropReq (.ite h.modLe (.ite h.modLe.dropReq h.modLe.modLe.askMove)))))

theorem Dev.keeps.doorbell {f off : Nat} {value : Word} {ok : Bool} {g : Dev → Dev} (hg : ∀ d, d₀.keeps d → d₀.keeps (g d)) (h : d₀.keeps d) :
    d₀.keeps (d.doorbell f off value ok g) :=
  .ite (hg _ h.count) h.count.count.evt.once

theorem Dev.keeps.dbSqTail {f q nbytes : Nat} {value : Word} (h : d₀.keeps d) : d₀.keeps (d.dbSqTail f q nbytes value) :=
  .doorbell (fun _ h0 => h0.modQueue.startFetches) h

theorem Dev.keeps.dbCqHead {f q nbytes : Nat} {value : Word} (h : d₀.keeps d) : d₀.keeps (d.dbCqHead f q nbytes value) :=
  .doorbell (fun _ h0 => h0.modQueue) h

theorem Dev.keeps.dbAqSqTail {f nbytes : Nat} {value : Word} (h : d₀.keeps d) : d₀.keeps (d.dbAqSqTail f nbytes value) :=
  .doorbell (fun _ h0 => h0.modFn) h

theorem Dev.keeps.dbAqCqHead {f nbytes : Nat} {value : Word} (h : d₀.keeps d) : d₀.keeps (d.dbAqCqHead f nbytes value) :=
  .doorbell (fun _ h0 => h0.modFn) h

theorem Dev.keeps.dbEvtHead {f nbytes : Nat} {value : Word} (h : d₀.keeps d) : d₀.keeps (d.dbEvtHead f nbytes value) :=
  .doorbell (fun _ h0 => h0.modFn) h

theorem Dev.keeps.dbTelHead {f nbytes : Nat} {value : Word} (h : d₀.keeps d) : d₀.keeps (d.dbTelHead f nbytes value) :=
  .doorbell (fun _ h0 => h0.io) h

theorem Dev.keeps.dbIrqRearm {f nbytes : Nat} {value : Word} (h : d₀.keeps d) : d₀.keeps (d.dbIrqRearm f nbytes value) :=
  .doorbell (fun _ h0 => .ite h0 h0.message) h

theorem Dev.keeps.qctl {f q nbytes : Nat} {rsv : BitVec 29} {word : Word} {ok : Bool} {g : Dev → Dev} (hg : ∀ d, d₀.keeps d → d₀.keeps (g d)) (h : d₀.keeps d) :
    d₀.keeps (d.qctl f q nbytes rsv word ok g) :=
  .doorbell (fun _ h0 => hg _ h0) h

theorem Dev.keeps.setQ {q : Nat} {st : QState} (h : d₀.keeps d) : d₀.keeps (d.setQ q st) := h.modQueue

theorem Dev.keeps.qctlEnable {f q nbytes : Nat} {rsv : BitVec 29} {flush : Bool} (h : d₀.keeps d) :
    d₀.keeps (d.qctlEnable f q nbytes rsv flush) := by
  unfold Dev.qctlEnable
  refine .qctl (fun _ h0 => ?_) h
  split
  · exact h0.setQ
  · exact .ite h0.setQ h0
  · exact h0

theorem Dev.keeps.qctlDisable {f q nbytes : Nat} {rsv : BitVec 29} {flush : Bool} (h : d₀.keeps d) :
    d₀.keeps (d.qctlDisable f q nbytes rsv flush) := by
  unfold Dev.qctlDisable
  refine .qctl (fun _ h0 => ?_) h
  split
  · exact h0.setQ
  · exact h0.modQueue
  · exact h0.setQ
  · exact h0

theorem Dev.keeps.qctlResume {f q nbytes : Nat} {rsv : BitVec 29} {enable : Bool} (h : d₀.keeps d) :
    d₀.keeps (d.qctlResume f q nbytes rsv enable) :=
  .qctl (fun _ h0 => h0.modQueue) h

theorem Dev.keeps.qctlFlush {f q nbytes : Nat} {rsv : BitVec 29} {enable : Bool} (h : d₀.keeps d) :
    d₀.keeps (d.qctlFlush f q nbytes rsv enable) :=
  .qctl (fun _ h0 => h0.modQueue) h

theorem Dev.keeps.dbQctl {f q nbytes : Nat} {value : Word} (h : d₀.keeps d) : d₀.keeps (d.dbQctl f q nbytes value) := by
  unfold Dev.dbQctl
  split
  · exact h.qctlEnable
  · exact h.qctlDisable
  · exact h.qctlResume
  · exact h.qctlFlush

theorem Dev.keeps.sendPending {f : Nat} (h : d₀.keeps d) : d₀.keeps (d.sendPending f) := .ite h.modFn.message h

theorem Dev.keeps.telCfgWrite {v : Nat} (h : d₀.keeps d) : d₀.keeps (d.telCfgWrite v) := h.io

theorem Dev.keeps.calStopTile {tn : Nat} (h : d₀.keeps d) : d₀.keeps (d.calStopTile tn) :=
  .ite h.stopSweep (.ite h.stopSweep.modLe.calReturned (.ite h.stopSweep.askMove h.stopSweep))

theorem Dev.keeps.calEnd (h : d₀.keeps d) : d₀.keeps (d.calEnd) := by
  unfold Dev.calEnd
  split
  · exact h
  · exact .ite h (.ite h.resetBursts.cal.calCheck (.calCheck (.foldl (fun _ _ h0 => h0.calStopTile) h.resetBursts.cal)))

theorem Dev.keeps.calEndQueue {q : Nat} (h : d₀.keeps d) : d₀.keeps (d.calEndQueue q) := by
  unfold Dev.calEndQueue
  refine .foldl (fun _ _ h0 => h0.calFinish) ?_
  split
  · exact .ite h.cal.calEnd h.cal
  · exact h.cal

theorem Dev.keeps.startAbort {kind : AbortKind} {q : Nat} (h : d₀.keeps d) : d₀.keeps (d.startAbort kind q) :=
  .ite h (.ite (.ite h.modQueue h) (.modQueue (.foldl (fun _ _ h0 => .ite h0.freeSlot h0) h.resetBursts)))

theorem Dev.keeps.shortenRolls {n : Net} {k start : Nat} (h : d₀.keeps d) : d₀.keeps (d.shortenRolls n k start) := by
  unfold Dev.shortenRolls
  refine .foldl (fun _ _ h0 => ?_) h.modSlot
  split
  · exact .modSlot (.foldl (fun _ _ h1 => h1.modCell) h0)
  · exact h0

theorem Dev.keeps.stopLoads {q : Nat} (h : d₀.keeps d) : d₀.keeps (d.stopLoads q) := .foldl (fun _ _ h0 => h0.complete) h.seq

theorem Dev.keeps.cutQueue {n : Net} {q : Nat} (h : d₀.keeps d) : d₀.keeps (d.cutQueue n q) := by
  unfold Dev.cutQueue
  extract_lets
  split
  · exact h
  · exact .calEndQueue (.stopLoads (.attFinish (Dev.keeps.jobs (.foldl (fun _ _ h0 => .ite h0.shortenRolls h0) h.dropCmds.modQueue))))

theorem Dev.keeps.abortRange {q : Nat} {a : Abort} {cut : Nat} (h : d₀.keeps d) : d₀.keeps (d.abortRange q a cut) := by
  unfold Dev.abortRange
  split
  · exact .modQueue (.modFn (.ite h h.cqPush))
  · exact .modQueue (.modFn (.ite h h.cqPush))
  · exact .modQueue (.ite h h.cqPush)

theorem Dev.keeps.abortAdmin {f : Nat} {c : Cmd} (h : d₀.keeps d) : d₀.keeps (d.abortAdmin f c) :=
  .modFn (.foldl (fun _ _ h0 => h0.modQueue) h.adminDone)

theorem Dev.keeps.endSession {doe : Bool} (h : d₀.keeps d) : d₀.keeps (d.endSession doe) := by
  unfold Dev.endSession
  refine .ite h (.setLeaf (.withSec h ?_))
  cases doe <;> exact .same rfl rfl

theorem Dev.keeps.resetFn {f : Nat} (h : d₀.keeps d) : d₀.keeps (d.resetFn f) := by
  unfold Dev.resetFn
  extract_lets qs d1 now _ _ d2
  have h1 : d₀.keeps d1 := .foldl (fun _ _ h0 => h0.startAbort) h
  have h2 : d₀.keeps d2 := h1.several
  exact h2.modFn

theorem Dev.keeps.removeVfs {n : Nat} (h : d₀.keeps d) : d₀.keeps (d.removeVfs n) := by
  have key : ∀ {l : List Nat}, d₀.keeps (l.foldl (fun d f => d.resetFn f) d) := .foldl (fun _ _ h0 => h0.resetFn) h
  exact .ite h key.io

theorem Dev.keeps.resetPf0 (h : d₀.keeps d) : d₀.keeps d.resetPf0 := Dev.keeps.io h.removeVfs.endSession.resetFn

theorem Dev.keeps.clearFn {f : Nat} (h : d₀.keeps d) : d₀.keeps (d.clearFn f) := .ite h.modFn.io h.modFn

theorem Dev.keeps.adminBegin {f idx : Nat} (h : d₀.keeps d) : d₀.keeps (d.adminBegin f idx) := h.modFn

theorem Dev.keeps.queueCreate {f : Nat} {c : Cmd} (h : d₀.keeps d) : d₀.keeps (d.queueCreate f c) :=
  .ite h.adminDone (.ite h.modQueue.adminDone (.ite h.modQueue.adminDone h.modQueue.adminDone))

theorem Dev.keeps.beginAbort {f idx : Nat} {kind : AbortKind} {qs : List Nat} (h : d₀.keeps d) : d₀.keeps (d.beginAbort f idx kind qs) :=
  .foldl (fun _ _ h0 => h0.startAbort) h.adminBegin.modFn

theorem Dev.keeps.queueDelete {f : Nat} {c : Cmd} (h : d₀.keeps d) : d₀.keeps (d.queueDelete f c) :=
  .ite h.adminDone (.ite h.adminDone h.beginAbort)

theorem Dev.keeps.abortCmd {f : Nat} {c : Cmd} (h : d₀.keeps d) : d₀.keeps (d.abortCmd f c) := .ite h.adminDone h.beginAbort

theorem Dev.keeps.domainSet {f : Nat} {c : Cmd} (h : d₀.keeps d) : d₀.keeps (d.domainSet f c) := by
  unfold Dev.domainSet
  refine .ite h.adminDone ?_
  split
  · exact .ite h.adminDone h.io.adminDone
  · exact h.io.adminDone
  · exact .ite h.adminDone (.ite h.adminDone (.adminDone (.foldl (fun _ _ h0 => h0.modQueue) h)))
  · exact h.adminDone

theorem Dev.keeps.modActive {f : CalRun → CalTile → CalTile} (h : d₀.keeps d) : d₀.keeps (d.modActive f) := h.cal

theorem Dev.keeps.calSetup {n : Net} (h : d₀.keeps d) : d₀.keeps (d.calSetup n) := by
  unfold Dev.calSetup
  split
  · exact h
  · exact .ite (Dev.keeps.cal (.foldl (fun _ _ h0 => h0.uncal) h)) (.foldl (fun _ _ h1 => .ite h1 h1.modCell.modHeaters) (Dev.keeps.cal (.foldl (fun _ _ h2 => h2.uncal) h)))

theorem Dev.keeps.calMeasure {n : Net} {x : TickIn} {stream : List (Nat × List (Int × Int))} (h : d₀.keeps d) :
    d₀.keeps (d.calMeasure n x stream) :=
  h.modActive

theorem Dev.keeps.calTouch {aa : Nat} (h : d₀.keeps d) : d₀.keeps (d.calTouch aa) := h.modActive

theorem Dev.keeps.calReading {k : Nat} {temp : Int} (h : d₀.keeps d) : d₀.keeps (d.calReading k temp) := h.modActive

theorem Dev.keeps.forceRange {mpa T : Nat} (h : d₀.keeps d) : d₀.keeps (d.forceRange mpa T) := by
  unfold Dev.forceRange
  split
  · exact .ite h h.modMrt.count
  · exact h

theorem Dev.keeps.darkCode {mpa T code : Nat} (h : d₀.keeps d) : d₀.keeps (d.darkCode mpa T code) := by
  unfold Dev.darkCode
  split
  · exact h.modActive
  · exact h

theorem Dev.keeps.sweepsEnd {tn : Nat} {lost : List Nat} (h : d₀.keeps d) : d₀.keeps (d.sweepsEnd tn lost) := h.cal.modActive

theorem Dev.keeps.slewVoa {ca : Nat} (h : d₀.keeps d) : d₀.keeps (d.slewVoa ca) :=
  .ite h (.ite (.stepVoa (.ite (.followRef (.ite h.modCell h.modCell.followEff)) (.ite h.modCell h.modCell.followEff))) (.ite (.followRef (.ite h.modCell h.modCell.followEff)) (.ite h.modCell h.modCell.followEff)))

theorem Dev.keeps.slewAll (h : d₀.keeps d) : d₀.keeps (d.slewAll) := .foldl (fun _ _ h0 => h0.slewVoa) h

theorem Dev.keeps.tileTick {d0 : Dev} {tn : Nat} (h : d₀.keeps d) : d₀.keeps (d.tileTick d0 tn) :=
  .ite (.ite h.modTile.condOn.setLeaf h.modTile) (.ite h.modTile.condOff h.modTile)

theorem Dev.keeps.loadTick {evs : List (Nat × Bool × Bool × Bool)} {tn : Nat} (h : d₀.keeps d) : d₀.keeps (d.loadTick evs tn) :=
  .ite h (.modTile (.ite h.modLe.countN.countN.countN.count h.modLe.countN.countN.countN))

theorem Dev.keeps.satTick {evs : List (Nat × Bool × Bool × Bool)} (h : d₀.keeps d) : d₀.keeps (d.satTick evs) :=
  .foldl (fun _ _ h0 => .ite h0.modTile.condOn h0.modTile) (.foldl (fun _ _ h1 => h1.modTile.condOff) (.ite h.drv h.drv.count))

theorem Dev.keeps.balSkip {o : Nat} (h : d₀.keeps d) : d₀.keeps (d.balSkip o) := h.modTile

theorem Dev.keeps.balTick {n : Net} {t0 o : Nat} (h : d₀.keeps d) : d₀.keeps (d.balTick n t0 o) := by
  unfold Dev.balTick
  split
  · exact h
  · refine .ite h (.ite h.balSkip ?_)
    split
    · exact .ite h h.setBal
    · exact h.balSkip

theorem Dev.keeps.balReturn {o : Nat} (h : d₀.keeps d) : d₀.keeps (d.balReturn o) := by
  unfold Dev.balReturn
  exact h.setBal

theorem Dev.keeps.balAll {n : Net} {t0 : Nat} (h : d₀.keeps d) : d₀.keeps (d.balAll n t0) :=
  .foldl (fun _ _ h0 => h0.balReturn) (.foldl (fun _ _ h1 => h1.balTick) h)

theorem Dev.keeps.cellTick {n : Net} {x : TickIn} {ca : Nat} (h : d₀.keeps d) : d₀.keeps (d.cellTick n x ca) := by
  unfold Dev.cellTick
  split
  · exact h
  · exact .ite h.modCell.condOn h.modCell.condOff

theorem Dev.keeps.inputTick {n : Net} {t0 i : Nat} (h : d₀.keeps d) : d₀.keeps (d.inputTick n t0 i) := by
  unfold Dev.inputTick
  split
  · exact .ite (.ite (.condOn (.ite (.ite h.modCell.condOn h.modCell) (.foldl (fun _ _ h0 => h0.condOff) h.modCell))) (.ite (.ite h.modCell.condOn h.modCell) (.foldl (fun _ _ h1 => h1.condOff) h.modCell))) (.foldl (fun _ _ h2 => h2.condOff) (.ite (.ite h.modCell.condOn h.modCell) (.foldl (fun _ _ h3 => h3.condOff) h.modCell)))
  · exact h

theorem Dev.keeps.longTick {ca : Nat} (h : d₀.keeps d) : d₀.keeps (d.longTick ca) := by
  unfold Dev.longTick
  dsimp only
  split
  · refine .ite (.condOn ?_) ?_
    · split
      · exact .ite (.condOn (.ite h h.modCell)) (.ite h h.modCell)
      · exact .ite (.condOff (.ite h h.modCell)) (.ite h h.modCell)
    · split
      · exact .ite (.condOn (.ite h h.modCell)) (.ite h h.modCell)
      · exact .ite (.condOff (.ite h h.modCell)) (.ite h h.modCell)
  · refine .ite (.condOff ?_) ?_
    · split
      · exact .ite (.condOn (.ite h h.modCell)) (.ite h h.modCell)
      · exact .ite (.condOff (.ite h h.modCell)) (.ite h h.modCell)
    · split
      · exact .ite (.condOn (.ite h h.modCell)) (.ite h h.modCell)
      · exact .ite (.condOff (.ite h h.modCell)) (.ite h h.modCell)

theorem Dev.keeps.attTick {n : Net} {t0 : Nat} (h : d₀.keeps d) : d₀.keeps (d.attTick n t0) := h.jobs.attFinish

theorem Dev.keeps.railTick {n : Net} {mv : Nat} (h : d₀.keeps d) : d₀.keeps (d.railTick n mv) := by
  unfold Dev.railTick
  refine .ite h ?_
  extract_lets _ d1 _ d2
  have h1 : d₀.keeps d1 := h.drv
  have h2 : d₀.keeps d2 := .ite (Dev.keeps.condOn h1.drv) h1.condOff
  exact .ite h2.fatalOn (.ite h2 h2.fatalOff)

theorem Dev.keeps.railNext {n : Net} (h : d₀.keeps d) : d₀.keeps (d.railNext n) := by
  unfold Dev.railNext
  split
  · exact h
  · exact Dev.keeps.railTick h.drv

theorem Dev.keeps.linkTick {x : TickIn} {twin : List Nat} (h : d₀.keeps d) : d₀.keeps (d.linkTick x twin) :=
  .foldl (fun _ _ h0 => .condOn (.ite h0.leErr h0)) (.foldl (fun _ _ h1 => h1.condOff) (.foldl (fun _ _ h2 => .ite h2.leErr.count.once h2) h))

theorem Dev.keeps.duskTick (h : d₀.keeps d) : d₀.keeps (d.duskTick) := .ite ((h.loops (Tab.wf_mapVals _ _))) h

theorem Dev.loopsTick_wf {n : Net} {x : TickIn} (h : Tab.wf {} d.fab.loops = true) : Tab.wf {} (d.loopsTick n x).1 = true := by
  have key : ∀ (f : Nat × Loop → Nat × Loop × Bool × Bool × Bool), (∀ p, (f p).1 = p.1) →
      Tab.wf {} ((d.fab.loops.map f).filterMap (fun r => if r.2.1 = {} then none else some (r.1, r.2.1))) = true := by
    intro f hf
    rw [Tab.wf_iff] at *
    constructor
    · rw [List.filterMap_map]
      refine List.Pairwise.filterMap _ (fun p q hpq p' hp q' hq => ?_) h.1
      simp only [Function.comp_apply, Option.ite_none_left_eq_some, Option.some.injEq] at hp hq
      rw [← hp.2, ← hq.2]
      simpa only [hf] using hpq
    · intro q hq
      obtain ⟨r, -, hr⟩ := List.mem_filterMap.mp hq
      simp only [Option.ite_none_left_eq_some, Option.some.injEq] at hr
      rw [← hr.2]
      exact hr.1
  unfold Dev.loopsTick
  refine key _ (fun p => ?_)
  dsimp only
  split <;> rfl

theorem Dev.keeps.driveTick {n : Net} {x : TickIn} (h : d₀.keeps d) : d₀.keeps (d.driveTick n x).1 :=
  (h.loops (x := (d.loopsTick n x).1) Dev.loopsTick_wf).duskTick.countN.satTick

theorem Dev.keeps.tickBody {n : Net} {x : TickIn} {twin : List Nat} {stream : List (Nat × List (Int × Int))} (h : d₀.keeps d) :
    d₀.keeps (d.tickBody n x twin stream) :=
  .pathFaults (.attTick (.foldl (fun _ _ h0 => h0.longTick) (.foldl (fun _ _ h1 => h1.inputTick) (.foldl (fun _ _ h2 => h2.tileTick.loadTick) (Dev.keeps.les (.balAll (.foldl (fun _ _ h3 => h3.cellTick) (.driveTick (.slewAll (.linkTick (.foldl (fun _ _ h4 => .ite h4.demodTake h4) h)))))) (Tab.wf_mapVals _ _))))))

theorem Dev.keeps.displaceAll (h : d₀.keeps d) : d₀.keeps (d.displaceAll) :=
  .foldl (fun _ _ h0 => h0.invalid.modMrt.count) ((h.inj (Tab.wf_mapVals _ _)))

theorem Dev.keeps.clampScan (h : d₀.keeps d) : d₀.keeps (d.clampScan) := (h.loops (Tab.wf_mapVals _ _)).drv

theorem Dev.keeps.trim {n : Net} {ca region : Nat} {t : Taps} (h : d₀.keeps d) : d₀.keeps (d.trim n ca region t) :=
  .ite (.ite h.modLoop h.modCell) (.ite h.modLoop.modCell (.ite h.modCell h.modCell.modLoop.modCell))

theorem Dev.keeps.skipTrim {ca : Nat} (h : d₀.keeps d) : d₀.keeps (d.skipTrim ca) := h.modLoop.modTile

theorem Dev.keeps.cellFast {n : Net} {ca : Nat} (h : d₀.keeps d) : d₀.keeps (d.cellFast n ca) := by
  unfold Dev.cellFast
  refine .ite h.modCell (.modCell (.modCell ?_))
  split
  · exact .modCell (.trim (.ite h.modCell.modTile h.modCell))
  · exact .ite (.skipTrim (.ite h.modCell.modTile h.modCell)) (.ite h.modCell.modTile h.modCell)

theorem Dev.keeps.cellHandover {n : Net} {ca : Nat} (h : d₀.keeps d) : d₀.keeps (d.cellHandover n ca) := by
  unfold Dev.cellHandover
  refine .ite ?_ h
  split
  · exact h.trim
  · exact h.skipTrim

theorem Dev.keeps.lockDecided {n : Net} {ca : Nat} {ok : Bool} (h : d₀.keeps d) : d₀.keeps (d.lockDecided n ca ok) :=
  .foldl (fun _ _ h0 => .ite h0 (.ite h0.modSlot.advance h0.modSlot.lockFail.modSlot.advance)) h

theorem Dev.keeps.restoreLock {n : Net} {ca : Nat} {ok : Bool} (h : d₀.keeps d) : d₀.keeps (d.restoreLock n ca ok) :=
  .ite h.cmt.restoreCheck h

theorem Dev.keeps.settled {n : Net} {ca : Nat} (h : d₀.keeps d) : d₀.keeps (d.settled n ca) :=
  .foldl (fun _ _ h0 => .ite h0.modSlot.advance h0) h

theorem Dev.keeps.leTileWrite {k v : Nat} (h : d₀.keeps d) : d₀.keeps (d.leTileWrite k v) := .ite h.fab h

theorem Dev.keeps.loopWordWrite {addr v : Nat} (h : d₀.keeps d) : d₀.keeps (d.loopWordWrite addr v) := by
  have word : ∀ aa w, d₀.keeps (match lptField aa w v with
      | some x =>
        { d with fab := { d.fab with loads := d.fab.loads ++ [(d.tb2, .lpt aa w x)], lptW := d.fab.lptW.set none (16 * aa + w) (some x) } }
      | none => d) := by
    intro aa w
    split
    · exact h.fab
    · exact h
  exact .ite (word _ _) (.ite (.ite h.fab h) (.ite h.leTileWrite h))

theorem Dev.keeps.rewritten {addr words : Nat} (h : d₀.keeps d) : d₀.keeps (d.rewritten addr words) :=
  .foldl (fun _ _ h0 => .ite (.ite h0.modTile.condOff h0) h0) h

theorem Dev.keeps.loopTableWrite {f addr : Nat} {data : List Word} (h : d₀.keeps d) : d₀.keeps (d.loopTableWrite f addr data) :=
  .ite h (Dev.keeps.rewritten (.foldl (fun _ _ h0 => h0.loopWordWrite) h))

theorem Dev.keeps.takeLoad {x : Load} (h : d₀.keeps d) : d₀.keeps (d.takeLoad x) := by
  unfold Dev.takeLoad
  split
  · exact h.fab.modLoop
  · exact h.fab
  · exact h.modLe

theorem Dev.keeps.setExecuted {q idx : Nat} {effect : Bool} (h : d₀.keeps d) : d₀.keeps (d.setExecuted q idx effect) := h.modQueue

theorem Dev.keeps.runBatch {q : Nat} {c : Cmd} (h : d₀.keeps d) : d₀.keeps (d.runBatch q c) := .ite h.setExecuted h.complete

theorem Dev.keeps.runAttenSet {q : Nat} {c : Cmd} (h : d₀.keeps d) : d₀.keeps (d.runAttenSet q c) := by
  unfold Dev.runAttenSet
  extract_lets
  refine .ite h.complete ?_
  split
  · exact h.complete
  · exact h.setExecuted.jobs

theorem Dev.keeps.attCell {n : Net} {t ca : Nat} (h : d₀.keeps d) : d₀.keeps (d.attCell n t ca) := by
  unfold Dev.attCell
  split
  · exact h
  · exact .ite h (.ite (.ite h h.modCell) (.ite h.stepVoa h.modCell))

theorem Dev.keeps.attEntry {n : Net} {e : Nat × Nat} (h : d₀.keeps d) : d₀.keeps (d.attEntry n e) :=
  .foldl (fun _ _ h0 => h0.attCell) h.setTgt

theorem Dev.keeps.attApply {n : Net} {j : AttJob} (h : d₀.keeps d) : d₀.keeps (d.attApply n j) :=
  .attFinish (Dev.keeps.jobs (.modQueue (.foldl (fun _ _ h0 => h0.attEntry) h.supersede)))

theorem Dev.keeps.runLoopMode {n : Net} {q : Nat} {c : Cmd} (h : d₀.keeps d) : d₀.keeps (d.runLoopMode n q c) := by
  unfold Dev.runLoopMode
  refine .ite h.complete ?_
  split
  · exact h.complete
  · exact h.setExecuted.jobs

theorem Dev.keeps.loopEntry {e : LoopEnt} (h : d₀.keeps d) : d₀.keeps (d.loopEntry e) :=
  .ite (.foldl (fun _ _ h0 => h0.modLoop) h) (.ite (.foldl (fun _ _ h1 => h1.modLoop) h) (.ite h.fab h.fab.balDisable))

theorem Dev.keeps.runSnapshot {q : Nat} {c : Cmd} (h : d₀.keeps d) : d₀.keeps (d.runSnapshot q c) := .ite h.complete h.setExecuted.jobs

theorem Dev.keeps.beginLoad {q : Nat} {c : Cmd} (h : d₀.keeps d) : d₀.keeps (d.beginLoad q c) :=
  .ite h.complete (.ite h.droppedWrite.complete (.ite h.complete h.setExecuted.seq))

theorem Dev.keeps.rerange {mpa code : Nat} {clip bad : Bool} (h : d₀.keeps d) : d₀.keeps (d.rerange mpa code clip bad) :=
  .ite h.modMrt h.modMrt.count

theorem Dev.keeps.metLoad {mpa : Nat} (h : d₀.keeps d) : d₀.keeps (d.metLoad mpa) :=
  .ite h (.ite h.modMet.condOn (.ite h.modMet.condOff h.modMet))

theorem Dev.keeps.result {n : Net} {mpa code16 t : Nat} {fast clip err short : Bool} (h : d₀.keeps d) :
    d₀.keeps (d.result n mpa code16 t fast clip err short) :=
  .ite (.restartMet (.rerange (.metLoad (.modMrt (.ite (.invalid (.ite h.once h)) (.modMrt (.ite h.once h))))))) (.ite (.rerange (.metLoad (.modMrt (.ite (.invalid (.ite h.once h)) (.modMrt (.ite h.once h)))))) (.modMet (.rerange (.metLoad (.modMrt (.ite (.invalid (.ite h.once h)) (.modMrt (.ite h.once h))))))))

theorem Dev.keeps.windowEvent {mpa old new value time : Nat} (h : d₀.keeps d) : d₀.keeps (d.windowEvent mpa old new value time) :=
  .count (.foldl (fun _ _ h0 => .ite h0.evtPush.eventLost (.ite h0.evtPush.setLeaf.setTileLeaf h0.evtPush.setLeaf)) h)

theorem Dev.keeps.metStore {mpa w0 w1 : Nat} (h : d₀.keeps d) : d₀.keeps (d.metStore mpa w0 w1) := .ite h h.modMet

theorem Dev.keeps.metWhole {mpa w0 w1 : Nat} {whole : Bool} (h : d₀.keeps d) : d₀.keeps (d.metWhole mpa w0 w1 whole) :=
  .ite h (.ite h.metStore.modTile.condOff h.metStore)

theorem Dev.keeps.injWrite {k v : Nat} (h : d₀.keeps d) : d₀.keeps (d.injWrite k v) :=
  .ite (.ite h.modInj.setLeaf h.modInj) (.ite h.modInj (.ite h.modInj.setLeaf h.modInj))

theorem Dev.keeps.flCtlWrite {k v : Nat} (h : d₀.keeps d) : d₀.keeps (d.flCtlWrite k v).2 :=
  .ite2 (.ite2 (.modFl (.ite h.count h)) (.modFl (.ite h.count h))) (.modFl (.ite h.count h))

theorem Dev.keeps.swapCoeffs {d0 : Dev} {tn : Nat} (h : d₀.keeps d) : d₀.keeps (d.swapCoeffs d0 tn) :=
  .foldl (fun _ _ h0 => .foldl (fun _ _ h1 => h1.modMrt) (.ite (.modCell (.foldl (fun _ _ h2 => .ite h2.modLoop h2) h0)) (.foldl (fun _ _ h3 => .ite h3.modLoop h3) h0))) h

theorem Dev.keeps.recompute {d0 : Dev} {tn : Nat} (h : d₀.keeps d) : d₀.keeps (d.recompute d0 tn) := h.modTile.swapCoeffs

theorem Dev.keeps.interpHold {n : Nat} (h : d₀.keeps d) : d₀.keeps (d.interpHold n) := .ite h.cal.condOn h.cal

theorem Dev.keeps.runCal {q : Nat} {c : Cmd} (h : d₀.keeps d) : d₀.keeps (d.runCal q c) :=
  .ite h.complete (.ite h.setExecuted.count.cal h.setExecuted.count.calBegin)

theorem Dev.keeps.modRun {f : CalRun → CalRun} (h : d₀.keeps d) : d₀.keeps (d.modRun f) := h.cal

theorem Dev.keeps.startStore {step : Nat} {again : Bool} (h : d₀.keeps d) : d₀.keeps (d.startStore step again) := by
  unfold Dev.startStore
  split
  · exact h
  · exact h.cal.bus

theorem Dev.keeps.storeFails (h : d₀.keeps d) : d₀.keeps (d.storeFails) := by
  unfold Dev.storeFails
  split
  · exact h
  · exact h.cal.once.calCheck

theorem Dev.keeps.storeAbandon {power : Bool} (h : d₀.keeps d) : d₀.keeps (d.storeAbandon power) :=
  .ite h (.ite h.resetBursts.cal.count.storeFails h.resetBursts.cal.count)

theorem Dev.keeps.applyTile {t : CalTile} (h : d₀.keeps d) : d₀.keeps (d.applyTile t) :=
  .count (.modRun (.ite h.cal.recompute h.cal.swapCoeffs))

theorem Dev.keeps.pmcCtlWrite {v : Nat} (h : d₀.keeps d) : d₀.keeps (d.pmcCtlWrite v) := by
  unfold Dev.pmcCtlWrite
  extract_lets _ d1 _ d2
  have h1 : d₀.keeps d1 := h.pmc
  have h2 : d₀.keeps d2 := .ite h1 (.ite h1.pmc h1.snapNow)
  exact .ite (h2.ctr (Tab.wf_mapVals _ _)) h2

theorem Dev.keeps.pmcCfgWrite {v : Nat} (h : d₀.keeps d) : d₀.keeps (d.pmcCfgWrite v) := .ite h ((h.ctr (Tab.wf_mod _ _ _)))

theorem Dev.keeps.pmcSet {n v : Nat} (h : d₀.keeps d) : d₀.keeps (d.pmcSet n v) := .ite h ((h.ctr (Tab.wf_mod _ _ _)))

theorem Dev.keeps.pmcLiveWrite {hi : Bool} {v : Nat} {atOverflow : Bool} (h : d₀.keeps d) : d₀.keeps (d.pmcLiveWrite hi v atOverflow) :=
  .ite h (.ite h.pmcSet.pmc.setLeaf.once h.pmcSet)

theorem Dev.keeps.decodeError {off : Nat} (h : d₀.keeps d) : d₀.keeps (d.decodeError off) := h.bmx.once

theorem Dev.keeps.discardSlots {st : SlotSt} (h : d₀.keeps d) : d₀.keeps (d.discardSlots st) := .foldl (fun _ _ h0 => h0.freeSlot) h

theorem Dev.keeps.masterReset {m : Nat} (h : d₀.keeps d) : d₀.keeps (d.masterReset m) :=
  .ite (.foldl (fun _ _ h0 => h0.cutRec) h.resetBursts.jobs) (.ite h.resetBursts.discardSlots (.ite h.resetBursts.discardSlots (.ite h.resetBursts.storeAbandon h.resetBursts)))

theorem Dev.keeps.driveReact {n : Net} {src scope : Nat} (h : d₀.keeps d) : d₀.keeps (d.driveReact n src scope) :=
  .ite (.foldl (fun _ _ h0 => h0.modCell.constrain) h) (.constrain (.ite h.modCell (.ite h.modCell h)))

theorem Dev.keeps.unconstrain {ca : Nat} (h : d₀.keeps d) : d₀.keeps (d.unconstrain ca) := .ite h h.setCons.modCell

theorem Dev.keeps.rearm {ca : Nat} (h : d₀.keeps d) : d₀.keeps (d.rearm ca) :=
  .ite (.modHeaters (.modCell (.ite h.modCell h))) (.ite h.modCell h)

theorem Dev.keeps.unlose {ca : Nat} (h : d₀.keeps d) : d₀.keeps (d.unlose ca) := .ite h (.foldl (fun _ _ h0 => .ite h0 h0.cmt) h)

theorem Dev.keeps.driveRecover {src scope : Nat} (h : d₀.keeps d) : d₀.keeps (d.driveRecover src scope) :=
  .foldl (fun _ _ h0 => h0.modCell.rearm.unconstrain.unlose) h

theorem Dev.keeps.islEvt {e : Nat × Nat × Nat × Nat} (h : d₀.keeps d) : d₀.keeps (d.islEvt e) := .ite h.evt.setLeaf h

theorem Dev.keeps.dropMailbox {st : Nat} (h : d₀.keeps d) : d₀.keeps (d.dropMailbox st) := .foldl (fun _ _ h0 => .ite h0 h0.adminDone) h.mi

theorem Dev.keeps.islandRead {f : Nat} {c : Cmd} (h : d₀.keeps d) : d₀.keeps (d.islandRead f c) :=
  .ite h.adminDone (.ite h.adminDone h.adminBegin.mi)

theorem Dev.keeps.putDeltas {set : DeltaSet} (h : d₀.keeps d) : d₀.keeps (d.putDeltas set) :=
  .foldl (fun _ _ h0 => .ite h0.recompute h0.swapCoeffs) h.cal

theorem Dev.keeps.undoAct {w : ActBefore} (h : d₀.keeps d) : d₀.keeps (d.undoAct w) := by
  unfold Dev.undoAct
  extract_lets les _ sec _ cal _ d1
  have h1 : d₀.keeps d1 := (h.les (x := les) (Tab.wf_modMany _ _ List.pairwise_lt_range)).withSec.cal
  exact .ite h1 h1.putDeltas

theorem Dev.keeps.restartSup (h : d₀.keeps d) : d₀.keeps d.restartSup := by
  have h1 : d₀.keeps ((d.calEnd.endSession true).endSession false) := h.calEnd.endSession.endSession
  unfold Dev.restartSup
  extract_lets d1 held _ _ d2
  have h2 : d₀.keeps d2 := h1.several
  split
  · exact h2
  · next a _ =>
    refine .ite h2 ?_
    extract_lets _ _ d3
    have h3 : d₀.keeps d3 := h2.undoAct.withSec
    split
    · exact .ite h3.askMove h3
    · exact h3

theorem Dev.keeps.modAct {f : Activation → Activation} (h : d₀.keeps d) : d₀.keeps (d.modAct f) := h.withSec

theorem Dev.keeps.actDone {a : Activation} (h : d₀.keeps d) : d₀.keeps (d.actDone a) := h.withSec.adminDone.setLeaf

theorem Sec.keeps.raise (s : Sec) (bs : List Byte) : Sec.keeps s (s.raise bs) := by
  refine ⟨le_max_left _ _, Nat.eq_of_testBit_eq (fun i => ?_)⟩
  simp only [Sec.raise, Nat.testBit_and, Nat.testBit_or]
  cases s.revoked.testBit i <;> simp

theorem Dev.keeps.actFinish {a : Activation} (h : d₀.keeps d) : d₀.keeps (d.actFinish a) := by
  unfold Dev.actFinish
  extract_lets slot bs _ _ d1 d2
  have h1 : d₀.keeps d1 := h.withSec (Sec.keeps.raise { d.sec with preferred := slot, staged := false, fwStaged := 0 } bs)
  have h2 : d₀.keeps d2 := h1.actDone
  exact .ite h2.several (.ite h1.modAct.restartSup h2)

theorem Dev.keeps.rollGo : ∀ {n : Nat} {d : Dev}, d₀.keeps d → d₀.keeps (Dev.rollGo n d) := by
  intro n
  induction n with
  | zero => exact fun h => h
  | succ n ih =>
    intro d h
    unfold Dev.rollGo
    split
    · exact h
    · next a _ =>
      refine .ite h ?_
      split
      · exact .ite h (ih h.modAct)
      · split
        · exact h.actFinish
        · dsimp only
          split
          · exact .ite (ih h.modAct.modAct) h.modAct.modLe.askMove.modAct
          · exact ih h.modAct.modLe
          · exact ih h.modAct.modAct
          · exact ih h.modAct

theorem Dev.keeps.rollStart {ver : Nat} (h : d₀.keeps d) : d₀.keeps (d.rollStart ver) := by
  unfold Dev.rollStart
  extract_lets old les
  exact (h.les (x := les) (Tab.wf_modMany _ _ List.pairwise_lt_range)).withSec.modAct

theorem Dev.keeps.actDeltas {set : DeltaSet} (h : d₀.keeps d) : d₀.keeps (d.actDeltas set) := h.cal.putDeltas.count.setLeaf

theorem Dev.keeps.activate {was : ActBefore} {idx : Nat} {bs : List Byte} (h : d₀.keeps d) : d₀.keeps (d.activate was idx bs) := by
  unfold Dev.activate
  extract_lets d1 d2 _ d3 d4
  have h1 : d₀.keeps d1 := h.adminBegin
  have h2 : d₀.keeps d2 := by
    dsimp only [d2]
    split
    · exact h1.actDeltas
    · exact h1
  have h3 : d₀.keeps d3 := h2.withSec
  have h4 : d₀.keeps d4 := by
    dsimp only [d4]
    split
    · exact .ite h3 h3.rollStart
    · exact h3
  exact h4.rollGo

theorem Dev.keeps.fwReject {idx reason : Nat} (h : d₀.keeps d) : d₀.keeps (d.fwReject idx reason) := h.once.setLeaf.adminDone

theorem Dev.keeps.stage {bs : List Byte} (h : d₀.keeps d) : d₀.keeps (d.stage bs) := by
  refine .setLeaf (.withSec h ?_)
  cases d.sec.preferred <;> exact .same rfl rfl

theorem Dev.keeps.setSession {doe : Bool} {x : Session} (h : d₀.keeps d) : d₀.keeps (d.setSession doe x) := by
  refine .withSec h ?_
  cases doe <;> exact .same rfl rfl

theorem Dev.keeps.newChallenge (h : d₀.keeps d) : d₀.keeps (d.newChallenge) := h.takeFresh.withSec

theorem Dev.keeps.dbgAttempt {bs : List Byte} (h : d₀.keeps d) : d₀.keeps (d.dbgAttempt bs) :=
  .ite h.setLeaf (.ite h.setLeaf.withSec.once h.setLeaf.withSec.once)

theorem Dev.keeps.secDbgWrite {v : Nat} {token : Option (List Byte × HostRead)} (h : d₀.keeps d) : d₀.keeps (d.secDbgWrite v token) := by
  unfold Dev.secDbgWrite
  refine .ite (Dev.keeps.withSec ?_) ?_
  · split
    · exact .dbgAttempt (.ite h.newChallenge h)
    · exact .once (.ite h.newChallenge h)
    · exact .ite h.newChallenge h
  · split
    · exact .dbgAttempt (.ite h.newChallenge h)
    · exact .once (.ite h.newChallenge h)
    · exact .ite h.newChallenge h

theorem Dev.keeps.ioTake {q : Nat} {c : Nat → Cmd} (h : d₀.keeps d) : d₀.keeps (d.ioTake q c) := h.modQueue

theorem Dev.keeps.adminTake {f : Nat} {c : Nat → Cmd} (h : d₀.keeps d) : d₀.keeps (d.adminTake f c) := h.modFn

theorem Dev.keeps.flushEnd {q : Nat} (h : d₀.keeps d) : d₀.keeps (d.flushEnd q) := h.modQueue

theorem Dev.keeps.ioUnread {q : Nat} {timeout : Bool} (h : d₀.keeps d) : d₀.keeps (d.ioUnread q timeout) :=
  .flushEnd (.drain (.ioTake (.ite h.once h)))

theorem Dev.keeps.adminUnread {f : Nat} {timeout : Bool} (h : d₀.keeps d) : d₀.keeps (d.adminUnread f timeout) := by
  unfold Dev.adminUnread Dev.adminUnread.adminDoneAs
  exact .acqPush (.modFn (.adminTake (.ite h.once h)))

theorem Dev.keeps.aerRead {f : Nat} {how : HostRead} (h : d₀.keeps d) : d₀.keeps (d.aerRead f how) := h.modFn

theorem Dev.keeps.dawnHalt {halt : Nat} (h : d₀.keeps d) : d₀.keeps (d.dawnHalt halt) := h.pwr

theorem Dev.keeps.toStep {k : Nat} (h : d₀.keeps d) : d₀.keeps (d.toStep k) := h.pwr

theorem Dev.keeps.dawnBoot (h : d₀.keeps d) : d₀.keeps d.dawnBoot := by
  unfold Dev.dawnBoot
  dsimp only
  split
  · exact h.withSec.dawnHalt
  · next b _ =>
    have h1 : d₀.keeps { d with sec := { (d.sec.raise (d.sec.image b)) with
        bootSlot := b, fallback := b != d.sec.preferred, fwActive := imageVer (d.sec.image b) 1, ucode := imageVer (d.sec.image b) 2 } } :=
      h.withSec (Sec.keeps.raise d.sec _)
    exact h1.pwr.toStep

theorem Dev.keeps.dawnLoad {n : Net} (h : d₀.keeps d) : d₀.keeps (d.dawnLoad n) := by
  unfold Dev.dawnLoad
  refine .ite h.fatalOn.dawnHalt ?_
  extract_lets c c' bad d1 _ _
  have h1 : d₀.keeps d1 := .ite h.setLeaf h
  exact Dev.keeps.toStep h1.several

theorem Dev.keeps.dawnArm {n : Net} (h : d₀.keeps d) : d₀.keeps (d.dawnArm n) := by
  unfold Dev.dawnArm
  extract_lets tiles lanes _ _ _ d1 arm _ d2 heat
  have ht : Tab.wf {} d.fab.tiles = true → Tab.wf {} tiles = true := Tab.wf_modMany _ _ List.pairwise_lt_range
  have h1 : d₀.keeps d1 := h.several (fun ⟨c, l, e, t, r⟩ => ⟨c, l, e, ht t, r⟩)
  have h2 : d₀.keeps d2 := h1.cells (Tab.wf_modMany _ _ allCells_rise)
  exact (h2.loops (Tab.wf_modMany _ _ allHeaters_rise)).toStep.blankSync

theorem Dev.keeps.dawnLoops (h : d₀.keeps d) : d₀.keeps d.dawnLoops := by
  unfold Dev.dawnLoops
  extract_lets arrive cells loops
  have hc : Tab.wf {} d.fab.cells = true → Tab.wf {} cells = true := Tab.wf_modMany _ _ allCells_rise
  have hl : Tab.wf {} d.fab.loops = true → Tab.wf {} loops = true := Tab.wf_modMany _ _ allHeaters_rise
  exact Dev.keeps.toStep (h.fab (fun ⟨c, l, r⟩ => ⟨hc c, hl l, r⟩))

theorem Dev.keeps.dawnLate {cas : List Nat} (h : d₀.keeps d) : d₀.keeps (d.dawnLate cas) := .foldl (fun _ _ h0 => h0.condOn) h

theorem Dev.keeps.startDusk (h : d₀.keeps d) : d₀.keeps (d.startDusk) :=
  .foldl (fun _ _ h0 => h0.unbindLane) (.ite (.calEnd (.foldl (fun _ _ h1 => h1.startAbort) h.pwr)) (.seqStop (.calEnd (.foldl (fun _ _ h2 => h2.startAbort) h.pwr))))

theorem Dev.keeps.dawnStep {s : State} {late : Bool} (h : d₀.keeps d) : d₀.keeps (Dev.dawnStep s d late) := by
  unfold Dev.dawnStep
  extract_lets n
  split
  · exact .ite (Dev.keeps.dawnHalt (.ite h.fatalOn h.fatalOn)) h.toStep
  · exact h.dawnBoot
  · exact h.dawnLoad
  · exact h.dawnArm
  · exact h.dawnLoops
  · exact Dev.keeps.toStep (.ite h.dawnLate h)
  · exact Dev.keeps.toStep (.ite h.dawnLate h)
  · exact Dev.keeps.toStep (.ite h.condOn h)
  · exact .ite (.pwr (.ite h h.pwr)) (.ite h h.pwr)

theorem Dev.keeps.duskWrite {v : Nat} (h : d₀.keeps d) : d₀.keeps (d.duskWrite v) := by
  unfold Dev.duskWrite
  refine .ite h ?_
  split
  · exact h.startDusk
  · exact h.pwr
  · exact h

theorem Dev.keeps.driversOff (h : d₀.keeps d) : d₀.keeps (d.driversOff) := (h.loops (Tab.wf_mapVals _ _)).drv

theorem Dev.keeps.duskStep (h : d₀.keeps d) : d₀.keeps d.duskStep := by
  unfold Dev.duskStep
  split
  · exact h.toStep
  · exact (Dev.keeps.overrideVoas inVoas_rise (.overrideVoas outVoas_rise h)).darkTargets.toStep
  · exact (h.loops (Tab.wf_mapVals _ _)).holdLoops.toStep
  · exact (h.loops (Tab.wf_mapVals _ _)).toStep
  · exact h.driversOff.toStep
  · exact h.pwr

theorem Dev.keeps.sensorUpdate {n : Net} {k : Nat} {t : Int} {err : Bool} (h : d₀.keeps d) : d₀.keeps (d.sensorUpdate n k t err) := by
  unfold Dev.sensorUpdate
  extract_lets bad _ d1 d2 d3 d4 d5
  have h1 : d₀.keeps d1 := h.sensors (Tab.wf_mod _ _ _)
  have h2 : d₀.keeps d2 := .ite h1 (.ite h1.condOn (.ite h1.condOff h1))
  have h3 : d₀.keeps d3 := .ite h2 h2.calReading
  have h4 : d₀.keeps d4 := .ite (.ite h3.condOn.setLeaf h3) h3.condOff
  have h5 : d₀.keeps d5 := h4.fatalOn
  exact .ite (.ite h4 h4.fatalOff) (.ite h4 (.ite h5.startDusk h5))

theorem Dev.keeps.forceLe {scope : Nat} (h : d₀.keeps d) : d₀.keeps (d.forceLe scope) := .ite h (.ite h.spareFails h.ownFails)

theorem Dev.keeps.forceStall {q : Nat} (h : d₀.keeps d) : d₀.keeps (d.forceStall q) := .ite h h.dropCmds.modQueue.evt

theorem Dev.keeps.laneBad {k : Nat} (h : d₀.keeps d) : d₀.keeps (d.laneBad k) := by
  unfold Dev.laneBad
  refine .ite h (.modFl (.ite (.setLeaf (.count (Dev.keeps.cmt (.ite (.modSlot ?_) ?_)))) (Dev.keeps.cmt (.ite (.modSlot ?_) ?_))))
  · split
    · exact .ite h.slowCheck h
    · exact h
  · split
    · exact .ite h.slowCheck h
    · exact h
  · split
    · exact .ite h.slowCheck h
    · exact h
  · split
    · exact .ite h.slowCheck h
    · exact h

theorem Dev.keeps.laneGood {k : Nat} (h : d₀.keeps d) : d₀.keeps (d.laneGood k) := .ite h h.modFl

theorem Dev.keeps.losePlanes {n : Net} {ca : Nat} (h : d₀.keeps d) : d₀.keeps (d.losePlanes n ca) :=
  .foldl (fun _ _ h0 => .ite h0 h0.dropPlane) h

theorem Dev.keeps.losePath {n : Net} {scope : Nat} (h : d₀.keeps d) : d₀.keeps (d.losePath n scope) := by
  unfold Dev.losePath
  split
  · exact h
  · exact .ite h h.dropPlane

theorem Dev.keeps.forceFatal {n : Net} {src : Nat} (h : d₀.keeps d) : d₀.keeps (d.forceFatal n src) := by
  have h1 : d₀.keeps ((if src = 1 then d.storeAbandon true else d).settleFatal n src) := .settleFatal (.ite h.storeAbandon h)
  exact .ite (.ite h1.startDusk h1) (.ite h1.dawnHalt h1)

theorem Dev.keeps.scopeReact {n : Net} {src scope : Nat} (h : d₀.keeps d) : d₀.keeps (d.scopeReact n src scope) :=
  .ite h.forceFatal <| .ite h.forceLe <| .ite (.ite h.modLe h) <| .ite (.ite h.modHeaters h) <| .ite (.ite h.driveReact.losePlanes h) <|
  .ite (.ite h.driveReact h) <| .ite h.driveReact <| .ite h.losePath <| .ite h.laneBad <| .ite (.ite h h.seqStop) <| .ite h.rfEnds <|
  .ite h.forceStall <| .ite h.resetPf0.endSession <| .ite (.ite h.modTile h) <| .ite (.ite h.restartSup h) h

theorem Dev.keeps.inject {n : Net} {src : Nat} (h : d₀.keeps d) : d₀.keeps (d.inject n src) := by
  have h1 : d₀.keeps ((d.modSrc src (fun s => { s with force := true, forceScope := d.flt.injScope })).signal src d.flt.injScope true) :=
    h.modSrc.signal
  exact .ite h1 h1.scopeReact

theorem Dev.keeps.srcStatWrite {n : Net} {src v : Nat} (h : d₀.keeps d) : d₀.keeps (d.srcStatWrite n src v) := by
  unfold Dev.srcStatWrite
  refine .ite h ?_
  extract_lets now d1 d2 want d3
  have h1 : d₀.keeps d1 := .ite h.modSrc h
  have h2 : d₀.keeps d2 := .ite h1.modSrc h1
  have h3 : d₀.keeps d3 := .ite h2.inject (.ite h2 h2.unforce)
  exact h3.settleFatal.pathFaults

theorem Dev.keeps.srcCfgWrite {src v : Nat} (h : d₀.keeps d) : d₀.keeps (d.srcCfgWrite src v) := .ite h h.modSrc

theorem Dev.keeps.recoverAct {src scope : Nat} (h : d₀.keeps d) : d₀.keeps (d.recoverAct src scope) :=
  .ite h.driveRecover (.ite (.ite h h.laneGood) h)

theorem Dev.keeps.recovered {src : Nat} {i : Inst} (h : d₀.keeps d) : d₀.keeps (d.recovered src i) :=
  .faultEvents (.ite h.modSrc.recoverAct h.modSrc)

theorem Dev.keeps.timeEvt {kind : Nat} {v : Int} {items : Nat} (h : d₀.keeps d) : d₀.keeps (d.timeEvt kind v items) := h.evt.setLeaf

theorem Dev.keeps.setTim {f : Tim → Tim} (h : d₀.keeps d) (hf : Tim.keeps d.tim (f d.tim) := by exact ⟨rfl, rfl⟩) :
    d₀.keeps (d.setTim f) := by
  unfold Dev.setTim
  refine h.withTim ?_
  split <;> exact hf

theorem Dev.keeps.enterHoldover (h : d₀.keeps d) : d₀.keeps (d.enterHoldover) := h.setTim.count.timeEvt.setLeaf

theorem Dev.keeps.found (h : d₀.keeps d) : d₀.keeps (d.found) := h.setTim.condOff

theorem Dev.keeps.discard {q idx : Nat} {batch : Bool} (h : d₀.keeps d) : d₀.keeps (d.discard q idx batch) := by
  unfold Dev.discard
  refine .modQueue (.ite (.count ?_) ?_)
  · split
    · exact h.freeSlot
    · exact h
  · split
    · exact h.freeSlot
    · exact h

theorem Dev.keeps.discardScheduled (h : d₀.keeps d) : d₀.keeps (d.discardScheduled) :=
  .foldl (fun _ _ h0 => h0.drain) (Dev.keeps.jobs (.foldl (fun _ _ h1 => h1.discard) (.foldl (fun _ _ h2 => h2.discard) h)))

theorem Dev.keeps.rebase {v : Int} (h : d₀.keeps d) : d₀.keeps (d.rebase v) := ((h.queues (Tab.wf_mapVals _ _)).slots (Tab.wf_mapVals _ _))

theorem Dev.keeps.rejectMeas {off : Int} (h : d₀.keeps d) : d₀.keeps (d.rejectMeas off) :=
  .ite h.setTim.count.once.timeEvt.enterHoldover h.setTim.count.once.timeEvt

theorem Dev.keeps.acceptMeas {off : Int} (h : d₀.keeps d) : d₀.keeps (d.acceptMeas off) := by
  unfold Dev.acceptMeas
  extract_lets again d1 d2
  have h2 : d₀.keeps d2 := by
    refine h.count.found.setTim ?_
    dsimp only [Tim.learn]
    split <;> exact ⟨rfl, rfl⟩
  exact .ite h2.timeEvt.setLeaf h2

theorem Dev.keeps.selectSource {src : Nat} (h : d₀.keeps d) : d₀.keeps (d.selectSource src) := by
  unfold Dev.selectSource
  exact h.found.setTim

theorem Dev.keeps.timCtlWrite {v : Nat} (h : d₀.keeps d) : d₀.keeps (d.timCtlWrite v) := .ite h.setTim h.setTim.selectSource

theorem Dev.keeps.epochReset {v : Nat} (h : d₀.keeps d) : d₀.keeps (d.epochReset v) := .ite h h.setTim.timeEvt

theorem Dev.keeps.readClears {off : Nat} (h : d₀.keeps d) : d₀.keeps (d.readClears off) := .ite h.modLe (.ite h.pwr h)

theorem Dev.keeps.regRead {n : Net} {f off : Nat} (h : d₀.keeps d) : d₀.keeps (regRead n d f off).2 := by
  refine .ite2 (.ite h.decodeError h) (.ite2 h ?_)
  split
  · exact .ite h.decodeError h
  · refine .ite2 ?_ h.modCap
    split
    · exact h.modCap.readClears
    · exact h.readClears

theorem Dev.keeps.bar0Read {n : Net} {f off nbytes : Nat} (h : d₀.keeps d) : d₀.keeps (bar0Read n d f off nbytes).2 := by
  unfold Machine.bar0Read
  dsimp only
  refine Dev.keeps.foldl2 (a := (0, d)) (fun _ _ h0 => ?_) h
  exact h0.regRead

theorem Dev.keeps.bar2Read {n : Net} {m : Mem} {f off nbytes : Nat} (h : d₀.keeps d) : d₀.keeps (bar2Read n d m f off nbytes).2 := by
  refine .ite2 (.ite2 h.modCap ?_) h
  split
  · exact .ite2 h.modCap h
  · exact h

theorem Dev.keeps.glbWrite {f off v : Nat} (h : d₀.keeps d) : d₀.keeps (d.glbWrite f off v) := .ite h.modFn (.ite h.glb h)

theorem Dev.keeps.hifWrite {off v : Nat} (h : d₀.keeps d) : d₀.keeps (d.hifWrite off v) := .ite h.io (.ite h.modFn h.io)

theorem Dev.keeps.rteWrite {off v : Nat} (h : d₀.keeps d) : d₀.keeps (d.rteWrite off v) := .ite h.fab (.ite h.io h)

theorem Dev.keeps.cmtWrite {off v : Nat} (h : d₀.keeps d) : d₀.keeps (d.cmtWrite off v) := .ite h.cmt (.ite h.cmt h)

theorem Dev.keeps.drvWrite {off v : Nat} (h : d₀.keeps d) : d₀.keeps (d.drvWrite off v) :=
  .ite h.drvCtl (.ite h.drv (.ite h.drv (.ite h.drv h)))

theorem Dev.keeps.syncWrite {x v : Nat} (h : d₀.keeps d) : d₀.keeps (d.syncWrite x v) := h.seq.pinTo

theorem Dev.keeps.seqWrite {n : Net} {m : Mem} {off v : Nat} (h : d₀.keeps d) : d₀.keeps (Dev.seqWrite n m d off v) :=
  .ite h.seqCtl (.ite h.seqJumpWrite (.ite h.seq (.ite h.seq (.ite h.seq (.ite h.seq (.ite h.seqBindWrite (.ite h.syncWrite (.ite h.descWrite (.ite h.seq h)))))))))

theorem Dev.keeps.monWrite {off v : Nat} (h : d₀.keeps d) : d₀.keeps (d.monWrite off v) := by
  unfold Dev.monWrite
  refine .ite (h.mon (fun ⟨a, b, r⟩ => ⟨a, ?_, r⟩)) (.ite h.injWrite h)
  dsimp only
  split
  · exact b
  · exact Tab.wf_mapVals _ _ b

theorem Dev.keeps.flWrite1 {off v : Nat} (h : d₀.keeps d) : d₀.keeps (d.flWrite1 off v) := .ite h.modFl h

theorem Dev.keeps.calWrite {off v : Nat} (h : d₀.keeps d) : d₀.keeps (d.calWrite off v) :=
  .ite h.cal (.ite h.cal (.ite h.cal (.ite h.cal h)))

theorem Dev.keeps.fltWrite {n : Net} {off v : Nat} (h : d₀.keeps d) : d₀.keeps (d.fltWrite n off v) :=
  .ite h.fltCtlWrite <| .ite h.flt <| .ite h.flt <| .ite h.flt <| .ite (.ite h.srcStatWrite h.srcCfgWrite) h

theorem Dev.keeps.atnWrite {f off v : Nat} (h : d₀.keeps d) : d₀.keeps (d.atnWrite f off v) := by
  unfold Dev.atnWrite
  refine .ite h.modView (.ite (.ite h.modView h) ?_)
  split
  · exact h.modView
  · exact .ite h h.modView
  · exact h

theorem Dev.keeps.pmcWrite {off v : Nat} (h : d₀.keeps d) : d₀.keeps (d.pmcWrite off v) :=
  .ite h.pmcCtlWrite (.ite h.pmc (.ite h.pmc (.ite h.pmcCfgWrite (.ite h.pmcLiveWrite (.ite h.pmcLiveWrite h)))))

theorem Dev.keeps.bmxWrite {off v : Nat} (h : d₀.keeps d) : d₀.keeps (d.bmxWrite off v) := .ite h.bmx (.ite h.bmx h)

theorem Dev.keeps.pwrWrite {off v : Nat} (h : d₀.keeps d) : d₀.keeps (d.pwrWrite off v) := .ite h.duskWrite (.ite h.pwr (.ite h.pwr h))

theorem Dev.keeps.thmWrite {off v : Nat} (h : d₀.keeps d) : d₀.keeps (d.thmWrite off v) := .ite h.thm (.ite h.thm h)

theorem Dev.keeps.miWrite {off v : Nat} (h : d₀.keeps d) : d₀.keeps (d.miWrite off v) := .ite h.mi h

theorem Dev.keeps.secWrite {off v : Nat} (h : d₀.keeps d) : d₀.keeps (d.secWrite off v) :=
  .ite h.secDbgWrite (.ite h.withSec (.ite h.withSec h))

theorem Dev.keeps.leWrite {k o v : Nat} (h : d₀.keeps d) : d₀.keeps (d.leWrite k o v) :=
  .ite h.leCtlWrite (.ite h.leTileWrite (.ite h.modLe h))

theorem Dev.keeps.tableWrite {n : Net} {m : Mem} {off : Nat} {bs : List Byte} (h : d₀.keeps d) : d₀.keeps (d.tableWrite n m off bs) := by
  unfold Dev.tableWrite
  extract_lets first words e0
  clear_value first words e0
  refine .ite (.foldl (fun d1 k h1 => ?_) h) h.loopTableWrite
  exact h1.metWhole

theorem Dev.keeps.bar4Write {f off : Nat} {bs : List Byte} (h : d₀.keeps d) : d₀.keeps (d.bar4Write f off bs) := h.modFn.sendPending

theorem Dev.keeps.cfgWrite {f off v : Nat} (h : d₀.keeps d) : d₀.keeps (d.cfgWrite f off v) :=
  .ite h.modFn (.ite h.modFn (.ite h.modFn.sendPending (.ite h.modFn (.ite h.modFn (.ite h.modFn (.ite h.modFn (.ite h.modFn (.ite h.setTim h))))))))


end Sys2Proof.Machine

/-! SUPPORT. What every operation of the island keeps: the canonical form of its tables, TB1, and the numbers that only rise. -/
namespace Sys2Proof.Machine
set_option Elab.async false

/-- What an operation of the island keeps of the island before: only TIME_SET and a start move TB1, and fuses, record numbers and
acknowledgements do not go back (R361, R366, R371, R374). -/
structure Isl.keeps (i j : Isl) : Prop where
  canonical : i.canonical → j.canonical
  tb1 : j.tb1 = i.tb1
  sealF : i.sealF ≤ j.sealF
  unsealF : i.unsealF ≤ j.unsealF
  next : i.next ≤ j.next
  ackNext : i.ackNext ≤ j.ackNext

theorem Isl.keeps.refl (i : Isl) : i.keeps i := ⟨id, rfl, le_rfl, le_rfl, le_rfl, le_rfl⟩

theorem Isl.keeps.trans {i j k : Isl} (h : i.keeps j) (h' : j.keeps k) : i.keeps k :=
  ⟨fun c => h'.canonical (h.canonical c), h'.tb1.trans h.tb1, h.sealF.trans h'.sealF, h.unsealF.trans h'.unsealF, h.next.trans h'.next,
    h.ackNext.trans h'.ackNext⟩

variable {i j k : Isl}

/-- A write of the rest, and of some of the tables, keeps it. -/
theorem Isl.keeps.write (h : i.keeps j) (hc : j.canonical → k.canonical := by exact id) (ht : k.tb1 = j.tb1 := by rfl)
    (hs : k.sealF = j.sealF := by rfl) (hu : k.unsealF = j.unsealF := by rfl) (hn : k.next = j.next := by rfl)
    (ha : k.ackNext = j.ackNext := by rfl) : i.keeps k :=
  h.trans ⟨hc, ht, hs.ge, hu.ge, hn.ge, ha.ge⟩

theorem Isl.keeps.ite {c : Prop} {dec : Decidable c} {x y : Isl} (hx : i.keeps x) (hy : i.keeps y) : i.keeps (if c then x else y) := by
  split <;> assumption

theorem Isl.keeps.foldl {α : Type} {f : Isl → α → Isl} (hf : ∀ j x, i.keeps j → i.keeps (f j x)) {l : List α} :
    ∀ {j : Isl}, i.keeps j → i.keeps (l.foldl f j) := by
  induction l with
  | nil => exact fun h => h
  | cons x l ih => exact fun h => ih (hf _ x h)

/-! ## The tables -/

theorem Isl.keeps.map (h : i.keeps j) (o : Nat) (c : Option Claim) : i.keeps { j with map := j.map.set none o c } :=
  h.write (fun ⟨m, r⟩ => ⟨Tab.wf_set _ _ _ m, r⟩)
theorem Isl.keeps.ivs {t : Tab (Option Interval)} (h : i.keeps j) (ht : Tab.wf none j.ivs = true → Tab.wf none t = true) :
    i.keeps { j with ivs := t } :=
  h.write (fun ⟨m, v, r⟩ => ⟨m, ht v, r⟩)
theorem Isl.keeps.uncl {t : Tab Unclaimed} (h : i.keeps j) (ht : Tab.wf {} j.uncl = true → Tab.wf {} t = true) :
    i.keeps { j with uncl := t } :=
  h.write (fun ⟨m, v, u, r⟩ => ⟨m, v, ht u, r⟩)
theorem Isl.keeps.tables {t : Tab (Option Interval)} {u : Tab Unclaimed} (h : i.keeps j) (ht : Tab.wf none j.ivs = true → Tab.wf none t = true)
    (hu : Tab.wf {} j.uncl = true → Tab.wf {} u = true) : i.keeps { j with ivs := t, uncl := u } :=
  (h.ivs ht).uncl hu

/-! ## Records and blocks -/

theorem Isl.keeps.event {a b c d : Nat} (h : i.keeps j) : i.keeps (j.event a b c d) := h.write

theorem Isl.keeps.checkReserve (h : i.keeps j) : i.keeps j.checkReserve := .ite h.write h

theorem Isl.keeps.put {unc : Bool} {r : IRec} (h : i.keeps j) : i.keeps (j.put unc r) := by
  refine .ite h (Isl.keeps.checkReserve (h.trans ⟨id, rfl, le_rfl, le_rfl, Nat.le_succ _, le_rfl⟩))

theorem Isl.keeps.close {unc : Bool} {r : IRec} (h : i.keeps j) : i.keeps (j.close unc r) := .ite h.write (.ite h.put.event h.put)

theorem Isl.keeps.putGap {unc : Bool} (h : i.keeps j) : i.keeps (j.putGap unc) := .ite h (Isl.keeps.write h.put)

theorem Isl.keeps.endReserve {unc : Bool} (h : i.keeps j) : i.keeps (j.endReserve unc) := by
  have h1 : i.keeps (if j.gap.lost = 0 then j else j.putGap unc) := .ite h h.putGap
  exact .ite (Isl.keeps.checkReserve (Isl.keeps.event h1.write)) h

theorem Isl.keeps.acknowledge {unc : Bool} {n : Nat} (h : i.keeps j) : i.keeps (j.acknowledge unc n) := by
  unfold Isl.acknowledge
  split
  · next hn =>
    exact Isl.keeps.endReserve (h.trans ⟨id, rfl, le_rfl, le_rfl, le_rfl, Nat.le_succ_of_le hn⟩)
  · exact h

theorem Isl.keeps.signBlock {n : Nat} (h : i.keeps j) : i.keeps (j.signBlock n) := Isl.keeps.event h.write

/-! ## Intervals and samples -/

theorem Isl.keeps.closeIv {unc : Bool} {out tEnd esnEnd flags : Nat} (h : i.keeps j) : i.keeps (j.closeIv unc out tEnd esnEnd flags) := by
  unfold Isl.closeIv
  split
  · exact h
  · exact Isl.keeps.close (h.ivs (Tab.wf_set _ _ _))

theorem Isl.keeps.openIv {out : Nat} {c : Claim} {v : Interval} (h : i.keeps j) : i.keeps (j.openIv out c v) := h.ivs (Tab.wf_set _ _ _)

theorem Isl.keeps.keepIv {out : Nat} {c : Claim} (h : i.keeps j) : i.keeps (j.keepIv out c) := h.ivs (Tab.wf_mod _ _ _)

theorem Isl.keeps.half {out ms p : Nat} {input : Bool} (h : i.keeps j) : i.keeps (j.half out ms p input) := by
  unfold Isl.half
  split
  · exact h.ivs (Tab.wf_set _ _ _)
  · exact h

theorem Isl.keeps.closeUncl {unc : Bool} {out tEnd flags : Nat} (h : i.keeps j) : i.keeps (j.closeUncl unc out tEnd flags) :=
  .ite h (Isl.keeps.close (h.uncl (Tab.wf_set _ _ _)))

theorem Isl.keeps.unclSample {unc : Bool} {out p : Nat} (h : i.keeps j) : i.keeps (j.unclSample unc out p) :=
  .ite (Isl.keeps.closeUncl (h.uncl (Tab.wf_mod _ _ _))) (h.uncl (Tab.wf_mod _ _ _))

theorem Isl.keeps.entry {unc : Bool} {stamp esnStart esnEnd flags : Nat} {tb0 : Option Nat} {e : LinkEntry} (h : i.keeps j) :
    i.keeps (j.entry unc stamp esnStart esnEnd tb0 flags e) := by
  unfold Isl.entry
  extract_lets new old j' rs
  have h' : i.keeps j' := h.map _ _
  cases old with
  | none =>
    cases new with
    | none => exact h'
    | some c => exact h'.closeUncl.openIv
  | some o =>
    cases new with
    | none => exact h'.closeIv
    | some c => exact .ite h'.keepIv h'.closeIv.openIv

/-! ## The reader port and the mailbox -/

theorem Isl.keeps.result {r : Nat} (h : i.keeps j) : i.keeps (j.result r) := h.write

theorem Isl.keeps.changeSeal {unc : Bool} {op : Nat} (h : i.keeps j) : i.keeps (j.changeSeal unc op) := by
  unfold Isl.changeSeal
  extract_lets hash j1 j2 j3
  have h1 : i.keeps j1 := .ite (h.trans ⟨id, rfl, le_rfl, Nat.le_succ _, le_rfl, le_rfl⟩) (h.trans ⟨id, rfl, Nat.le_succ _, le_rfl, le_rfl, le_rfl⟩)
  have h2 : i.keeps j2 := .ite h1 (h1.tables (Tab.wf_mapVals _ _) (Tab.wf_mapVals _ _))
  exact h2.put.result.event

theorem Isl.keeps.stream (fuel : Nat) : ∀ {room : Nat} {j : Isl}, i.keeps j → i.keeps (j.stream fuel room).2 := by
  induction fuel with
  | zero => exact fun h => h
  | succ fuel ih =>
    intro room j h
    unfold Isl.stream
    extract_lets unit
    clear_value unit
    cases unit with
    | none =>
      dsimp only
      split
      · exact ih h.write
      · exact h
    | some u =>
      dsimp only
      split
      · exact h
      · split
        · exact h.write
        · exact ih (.ite h.write h.write)

theorem Isl.keeps.readStream {len : Nat} (h : i.keeps j) : i.keeps (j.readStream len).2 := by
  have h1 : ∀ room, i.keeps (j.stream 4 room).2 := fun _ => .stream _ h
  unfold Isl.readStream
  extract_lets room bs
  split
  · split
    · exact h
    · exact h.write
  · split
    · exact h
    · dsimp only
      split
      · exact h1 _
      · exact h1 _

theorem Isl.keeps.answer {unc : Bool} {e : Sqe} (h : i.keeps j) : i.keeps (j.answer unc e).1 := by
  unfold Isl.answer
  extract_lets len first bad
  split
  · split <;> exact h
  · split <;> exact h
  · split
    · exact h
    · split
      · exact h
      · exact h.acknowledge

end Sys2Proof.Machine

/-! SUPPORT. What a command keeps of the state before, and the shapes of a command. -/
namespace Sys2Proof.Machine
set_option Elab.async false

/-! ## The pins -/

/-- What drives the pins is read from parts that messages, pins and counters leave. -/
theorem Dev.sameBut.pins {d e : Dev} (h : Dev.sameBut [] d e) :
    e.atnSum = d.atnSum ∧ e.view = d.view ∧ e.errLow = d.errLow ∧ e.permitOk = d.permitOk := by
  have same : ∀ p, Part.same d e p := fun p => h p (by simp)
  have hq : e.queue = d.queue := by funext q; rw [Dev.queue, same .queues, Dev.queue]
  have hv : e.view = d.view := by funext f; rw [Dev.view, same .views, Dev.view]
  have hs : e.src = d.src := by funext n; rw [Dev.src, same .src, Dev.src]
  have ht : e.io.tel = d.io.tel := same .tel
  have hw : e.pwr = d.pwr := same .pwr
  have ha : ∀ f, (e.fn f).acq = (d.fn f).acq := fun f => by rw [← same .fns f]
  have he : ∀ f, (e.fn f).evt = (d.fn f).evt := fun f => by rw [← same .fns f]
  have hx : { e.flt with src := d.flt.src, errN := d.flt.errN, permit := d.flt.permit } = d.flt := same .flt
  refine ⟨?_, hv, ?_, ?_⟩
  · funext f
    simp [Dev.atnSum, Dev.group, Dev.leaf, Dev.leafEn, hq, hv, hs, ht, ha, he]
  · rw [Dev.errLow, Dev.errLow, hw, ← hx]
  · rw [Dev.permitOk, Dev.permitOk, hw, ← hx]

/-- After a notification the pins show what drives them. -/
theorem State.pinsFollow_notify (s : State) (d : Dev) : State.pinsFollow { s with d := d.notify } := by
  have hm : Dev.sameBut [] d ((d.fnList.filter (fun f => decide (d.atnSum f ≠ 0))).filter (fun f => !d.io.atnOn.contains f) |>.foldl Dev.message d) :=
    .foldl (fun d f => d.message_same f) _ d
  obtain ⟨ha, hv, he, hp⟩ := hm.pins
  obtain ⟨ha', hv', he', hp'⟩ := d.notify_same.pins
  refine ⟨?_, ?_, ?_⟩
  · rw [State.d, ha', hv', ← ha, ← hv]
    rfl
  · rw [State.d, he', ← he]
    rfl
  · rw [State.d, hp', ← hp]
    rfl

/-! ## What is kept -/

/-- What a part of a command that neither commits, starts a Dawn nor sets a clock keeps of the state before. -/
structure State.carries (s t : State) : Prop where
  pending : t.pending = s.pending
  net : t.net = s.net
  mem : s.memOk → t.memOk
  dev : s.d.keeps t.d
  isl : s.isl.keeps t.isl

/-- The whole command keeps that much, and leaves the pins in step (R334 to R336). -/
structure State.keeps (s t : State) : Prop extends State.carries s t where
  pins : s.pinsFollow → t.pinsFollow

/-- The outcome is a next state that keeps that much. -/
def State.leadsTo (s : State) (o : Host.Outcome State Fault Refusal) : Prop := ∃ t, o = .next t ∧ s.keeps t

theorem State.carries.refl (s : State) : s.carries s := ⟨rfl, rfl, id, .refl _, .refl _⟩

theorem State.carries.trans {s t u : State} (h : s.carries t) (h' : t.carries u) : s.carries u :=
  ⟨h'.pending.trans h.pending, h'.net.trans h.net, fun m => h'.mem (h.mem m), h.dev.trans h'.dev, h.isl.trans h'.isl⟩

theorem State.keeps.refl (s : State) : s.keeps s := ⟨.refl s, id⟩

theorem State.keeps.trans {s t u : State} (h : s.keeps t) (h' : t.keeps u) : s.keeps u :=
  ⟨h.tocarries.trans h'.tocarries, fun p => h'.pins (h.pins p)⟩

variable {s : State}

/-- A command ends notified: with the addressed buffers and the island in order its pins and the rest are. -/
theorem State.keeps.notified {d : Dev} {m : Mem} {i : Isl} (h : s.d.keeps d)
    (hm : s.memOk → State.memOk { s with mem := m } := by exact id) (hi : s.isl.keeps i := by exact .refl _) :
    s.keeps { s with d := d.notify, mem := m, isl := i } :=
  ⟨⟨rfl, rfl, hm, h.notify, hi⟩, fun _ => State.pinsFollow_notify { s with mem := m, isl := i } d⟩

namespace State.leadsTo

theorem ignored : s.leadsTo (ignored s) := ⟨s, rfl, .refl s⟩

theorem notified {d : Dev} {m : Mem} {i : Isl} (h : s.d.keeps s.d → s.d.keeps d)
    (hm : s.memOk → State.memOk { s with mem := m } := by exact id) (hi : s.isl.keeps i := by exact .refl _) :
    s.leadsTo (.next { s with d := d.notify, mem := m, isl := i }) := ⟨_, rfl, .notified (h (.refl _)) hm hi⟩

theorem finish {d : Dev} (h : s.d.keeps s.d → s.d.keeps d) : s.leadsTo (finish s d) := .notified h

theorem ite {c : Prop} {dec : Decidable c} {x y : Host.Outcome State Fault Refusal} (hx : s.leadsTo x) (hy : s.leadsTo y) :
    s.leadsTo (if c then x else y) := by
  split <;> assumption

/-- A part is done, and the rest of the command ends notified. -/
theorem notify {t : State} (h : s.carries t) : s.leadsTo (.next { t with d := t.d.notify }) :=
  ⟨_, rfl, ⟨h.pending, h.net, h.mem, h.dev.notify, h.isl⟩, fun _ => State.pinsFollow_notify t t.d⟩

/-- After a part that keeps as much. -/
theorem after {t : State} {o : Host.Outcome State Fault Refusal} (h : s.keeps t) (ho : t.leadsTo o) : s.leadsTo o := by
  obtain ⟨u, hu, k⟩ := ho
  exact ⟨u, hu, h.trans k⟩

theorem hostWrBar {f bar addr len : Nat} {g : Dev → Dev} (h : ∀ d, s.d.keeps d → s.d.keeps (g d)) : s.leadsTo (hostWrBar s f bar addr len g) :=
  .ite (.finish fun k => h _ k.inbound) .ignored

theorem hostWr {f addr : Nat} {g : Dev → Dev} (h : ∀ d, s.d.keeps d → s.d.keeps (g d)) : s.leadsTo (hostWr s f addr g) := .hostWrBar h

theorem pf0Wr {f addr : Nat} {g : Dev → Dev} (h : ∀ d, s.d.keeps d → s.d.keeps (g d)) : s.leadsTo (pf0Wr s f addr g) :=
  .hostWr fun d k => .ite (h d k) k

theorem hostRd {f bar addr len : Nat} {g : Dev → Nat × Dev} (h : ∀ d, s.d.keeps d → s.d.keeps (g d).2) :
    s.leadsTo (hostRd s f bar addr len g) :=
  .ite (.finish fun k => (h _ k.inbound).send) (.ite (.finish fun k => k.send) .ignored)

theorem onAdmin {f op : Nat} {g : Cmd → Host.Outcome State Fault Refusal} (h : ∀ c, s.leadsTo (g c)) : s.leadsTo (onAdmin s f op g) := by
  unfold Machine.onAdmin
  split
  · exact .ite (.finish fun k => k.adminDone) (h _)
  · exact .ignored

theorem onFront {q op : Nat} {g : Cmd → Host.Outcome State Fault Refusal} (h : ∀ c, s.leadsTo (g c)) : s.leadsTo (onFront s q op g) := by
  unfold Machine.onFront
  split
  · exact h _
  · exact .ignored

theorem onTap {g : Dev → Dev} (h : ∀ d, s.d.keeps d → s.d.keeps (g d)) : s.leadsTo (onTap s g) := .ite (.finish (h _)) .ignored

theorem finishIsl {d : Dev} {i : Isl} (h : s.d.keeps s.d → s.d.keeps d) (hi : s.isl.keeps i) : s.leadsTo (finishIsl s d i) :=
  .notified (fun k => Dev.keeps.pinTo (.ite (h k).condOn (h k).condOff)) id hi

theorem onIsl {g : Isl → Isl} (h : ∀ i, s.isl.keeps i → s.isl.keeps (g i)) : s.leadsTo (onIsl s g) :=
  .ite (.finishIsl id (h _ (.refl _))) .ignored

theorem onReader {g : Isl → List Byte × Isl} (h : ∀ i, s.isl.keeps i → s.isl.keeps (g i).2) : s.leadsTo (onReader s g) :=
  .ite (.finishIsl (fun k => k.send) (h _ (.refl _))) .ignored

theorem spdm {doe : Bool} {m : SpdmMsg} {code : Nat} {g : Dev → Option (List Byte × Dev)}
    (h : ∀ d bs e, s.d.keeps d → g d = some (bs, e) → s.d.keeps e) : s.leadsTo (spdm s doe m code g) := by
  refine .ite .ignored ?_
  extract_lets body _ d
  have hd : ∀ bs e, (if m.good then g d else none) = some (bs, e) → s.d.keeps e := by
    intro bs e hg
    split at hg
    · exact h d bs e (Dev.keeps.refl s.d).fresh hg
    · exact absurd hg (by simp)
  generalize (if m.good then g d else none) = r at hd
  cases r with
  | none => exact .finish fun k => k.fresh.send
  | some p => exact .finish fun _ => (hd p.1 p.2 rfl).send

end State.leadsTo

end Sys2Proof.Machine

/-! SUPPORT. What the parts of commands keep that touch the addressed buffers, and those that fetches share. -/
namespace Sys2Proof.Machine
set_option Elab.async false

variable {s t : State}

theorem State.carries.control (h : s.carries t) {d : Dev} (hd : t.d.keeps d) : s.carries { t with d := d } :=
  h.trans ⟨rfl, rfl, id, hd, .refl _⟩

theorem State.carries.ite {c : Prop} {dec : Decidable c} {x y : State} (hx : s.carries x) (hy : s.carries y) :
    s.carries (if c then x else y) := by
  split <;> assumption

theorem State.carries.foldl {α : Type} {f : State → α → State} (hf : ∀ t x, s.carries t → s.carries (f t x)) {l : List α} :
    ∀ {t : State}, s.carries t → s.carries (l.foldl f t) := by
  induction l with
  | nil => exact fun h => h
  | cons x l ih => exact fun h => ih (hf _ x h)

/-! ## Pattern memory and the lanes' buffers -/

/-- The addressed buffers are in canonical form. -/
def Mem.canonical (m : Mem) : Prop := Memory.wf m.pattern = true ∧ Memory.wf m.fcb = true

theorem Mem.write_canonical {m : Mem} (a : Nat) (bs : List Byte) (h : m.canonical) :
    Mem.canonical { m with pattern := Memory.writeBytes m.pattern a bs } :=
  ⟨Memory.wf_writeBytes _ _ h.1, h.2⟩

theorem sampleWrite_canonical {dma : Bool} {m : Mem} {d : Dev} {a : Nat} {bs : List Byte} (h : m.canonical) :
    (sampleWrite dma m d a bs).1.canonical := by
  unfold sampleWrite
  split
  · exact h
  · split
    · exact h
    · split
      · exact h
      · exact Mem.write_canonical _ _ h

theorem patternPut_canonical {dma : Bool} {m : Mem} {d : Dev} {a : Nat} {bs : List Byte} (h : m.canonical) :
    (patternPut dma m d a bs).1.canonical := by
  unfold patternPut
  dsimp only
  generalize List.range _ = l
  induction l generalizing m d with
  | nil => exact h
  | cons k l ih => exact ih (sampleWrite_canonical h)

theorem Mem.clearLane_canonical {m : Mem} {k : Nat} (h : m.canonical) : (m.clearLane k).canonical := ⟨h.1, Tab.wf_filter _ _ h.2⟩

theorem State.carries.patternPut {dma : Bool} {a : Nat} {bs : List Byte} {d : Dev} (hd : s.d.keeps d) :
    s.carries { s with mem := (patternPut dma s.mem d a bs).1, d := (patternPut dma s.mem d a bs).2 } :=
  ⟨rfl, rfl, patternPut_canonical, hd.patternPut, .refl _⟩

/-! ## Sweeps of a calibration -/

/-- What calibration leaves in the pattern memory above what it leaves alone, byte by byte. -/
theorem Memory.wf_overwritten {m : List (Nat × Byte)} {a : Nat} (g : Nat → Byte) (ks : Nat) (h : Memory.wf m = true) :
    Memory.wf (m.filter (fun p => decide (p.1 < a)) ++
      (List.range ks).filterMap (fun k => if g k = blankByte then none else some (a + k, g k))) = true := by
  have hm := (Tab.wf_iff _ _).mp (Tab.wf_filter _ (fun p => decide (p.1 < a)) h)
  have hb : ∀ q ∈ (List.range ks).filterMap (fun k => if g k = blankByte then none else some (a + k, g k)), a ≤ q.1 ∧ q.2 ≠ blankByte := by
    intro q hq
    obtain ⟨k, -, hk⟩ := List.mem_filterMap.mp hq
    simp only [Option.ite_none_left_eq_some, Option.some.injEq] at hk
    obtain ⟨hk, rfl⟩ := hk
    exact ⟨Nat.le_add_right _ _, hk⟩
  refine (Tab.wf_iff _ _).mpr ⟨List.pairwise_append.mpr ⟨hm.1, ?_, fun p hp q hq => ?_⟩, fun q hq => ?_⟩
  · refine List.Pairwise.filterMap _ (fun j k hjk p hp q hq => ?_) List.pairwise_lt_range
    simp only [Option.ite_none_left_eq_some, Option.some.injEq] at hp hq
    obtain ⟨-, rfl⟩ := hp
    obtain ⟨-, rfl⟩ := hq
    exact Nat.add_lt_add_left hjk _
  · have hp' : p.1 < a := by simpa using (List.mem_filter.mp hp).2
    exact hp'.trans_le (hb q hq).1
  · rcases List.mem_append.mp hq with hq | hq
    · exact hm.2 q hq
    · exact (hb q hq).2

theorem State.garble_carries : s.carries s.garble :=
  ⟨rfl, rfl, fun ⟨hp, hf⟩ => ⟨Memory.wf_overwritten _ _ hp, hf⟩, (Dev.keeps.refl s.d).several, .refl _⟩

theorem State.sweepPlay_carries {w : Sweep} : s.carries (s.sweepPlay w) := by
  unfold State.sweepPlay
  extract_lets used _ m q0 q _ _ d
  have hd : s.d.keeps d := (Dev.keeps.refl s.d).several
  have hm : s.mem.canonical → m.canonical := Mem.write_canonical _ _
  clear_value d m
  exact ⟨rfl, rfl, hm, hd.reachSeg, .refl _⟩

theorem State.sweepNext_carries {w : Sweep} : s.carries (s.sweepNext w) := by
  unfold State.sweepNext
  refine .ite ((State.carries.refl s).control (Dev.keeps.refl s.d).sweepsEnd) ?_
  exact State.carries.trans ((State.carries.refl s).control (.foldl (fun _ _ h => h.modLane) (.refl _))) State.sweepPlay_carries

theorem State.sweepTick_carries : s.carries s.sweepTick := by
  unfold State.sweepTick
  dsimp only
  split
  · refine .ite (.refl s) (.ite State.sweepPlay_carries ?_)
    exact State.carries.trans ((State.carries.refl s).control (Dev.keeps.refl s.d).sweepRestore.modActive) State.sweepNext_carries
  · split
    · exact State.sweepNext_carries
    · exact .ite State.garble_carries (.refl s)

/-! ## Loads of pattern memory -/

theorem State.copyLoad_carries {x : SegLoad} {c : Cmd} {n : Nat} : s.carries (s.copyLoad x c n) := by
  unfold State.copyLoad
  extract_lets new r y d1 others d2 d3
  have hr : s.carries { s with mem := r.1, d := r.2 } := .patternPut (.refl _)
  have h1 : s.d.keeps d1 := .ite hr.dev.setExecuted hr.dev
  have h2 : s.d.keeps d3 := .ite h1.seq h1.seq.complete
  exact ⟨rfl, rfl, hr.mem, h2, .refl _⟩

end Sys2Proof.Machine

/-! SUPPORT. One lemma for each command that neither commits, starts a Dawn nor sets a clock: it leads to a state that keeps what was. -/
namespace Sys2Proof.Machine
set_option Elab.async false

theorem execRouteJobStart_keeps {s : State} {q : Nat} : s.leadsTo (execRouteJobStart q s) := by
  unfold execRouteJobStart
  extract_lets
  split
  · exact .ite .ignored (.finish fun h => h.mtx.modSlot.startJob)
  · exact .ignored

theorem execRouteJobComplete_keeps {s : State} {slot : Nat} : s.leadsTo (execRouteJobComplete slot s) := by
  unfold execRouteJobComplete
  refine .ite .ignored ?_
  split
  · exact .finish fun h => h.countN.countBad.complete
  · exact .finish fun h => .holdOrStage (.countN (.foldl (fun _ _ h0 => h0.bus) h.countN.count))

theorem execHeldBatchRerun_keeps {s : State} {slot : Nat} : s.leadsTo (execHeldBatchRerun slot s) := by
  unfold execHeldBatchRerun
  extract_lets
  split
  · exact .ite .ignored (.finish fun h => h.modSlot.startJob)
  · exact .ignored

theorem execStagingComplete_keeps {s : State} {slot : Nat} : s.leadsTo (execStagingComplete slot s) :=
  .ite .ignored (.ite (.finish fun h => h.count.complete) (.finish fun h => .modSlot (.foldl (fun _ _ h0 => h0.bus) h)))

theorem execRun_keeps {s : State} {fn : Nat} {value : Word} : s.leadsTo (execRun fn value s) := .pf0Wr (fun _ h0 => .ite h0.seqCtl h0)

theorem execStop_keeps {s : State} {fn : Nat} {value : Word} : s.leadsTo (execStop fn value s) := .pf0Wr (fun _ h0 => .ite h0.seqCtl h0)

theorem execJump_keeps {s : State} {fn : Nat} {value : Word} : s.leadsTo (execJump fn value s) :=
  .pf0Wr (fun _ h0 => .ite h0.seqJumpWrite h0)

theorem execSeqBind_keeps {s : State} {fn lane : Nat} {value : Word} : s.leadsTo (execSeqBind fn lane value s) :=
  .pf0Wr (fun _ h0 => .ite h0.seqBindWrite h0)

theorem execUnbind_keeps {s : State} {lane : Nat} : s.leadsTo (execUnbind lane s) := .ite (.finish fun h => h.unbindLane) .ignored

theorem execSampleBoundary_keeps {s : State} : s.leadsTo (execSampleBoundary s) := .ite .ignored (.finish fun h => h.sampleNext)

theorem execIterationBoundary_keeps {s : State} : s.leadsTo (execIterationBoundary s) := .ite .ignored (.finish fun h => h.iterationNext)

theorem execSegmentReady_keeps {s : State} : s.leadsTo (execSegmentReady s) := .ite (.finish fun h => h.seq.startIteration) .ignored

theorem execRefillEnable_keeps {s : State} {fn : Nat} {value : Word} : s.leadsTo (execRefillEnable fn value s) :=
  .pf0Wr (fun _ h0 => .ite h0.seq h0)

theorem execSegmentFilled_keeps {s : State} {seg : Nat} {data : List DWord} : s.leadsTo (execSegmentFilled seg data s) := by
  unfold execSegmentFilled
  refine .ite .ignored ?_
  extract_lets r q pos _ d1 d2
  have hr : s.carries { s with mem := r.1, d := r.2 } := .patternPut (Dev.keeps.refl s.d).bus.bus
  clear_value r
  have h1 : s.d.keeps d1 := hr.dev.seq
  have h2 : s.d.keeps d2 := .ite h1.rfEnds h1
  exact .notified (fun _ => h2) hr.mem

theorem execPatternWrite_keeps {s : State} {fn : Nat} {desc : Bool} {addr nbytes : Nat} {value : DWord} :
    s.leadsTo (execPatternWrite fn desc addr nbytes value s) := by
  unfold execPatternWrite
  refine .ite .ignored ?_
  extract_lets d r
  have hd : s.d.keeps d := (Dev.keeps.refl s.d).inbound
  have hr : s.carries { s with mem := r.1, d := r.2 } := .patternPut hd
  exact .ite (.finish fun _ => hd) (.ite (.finish fun _ => .ite hd.descWrite hd) (.ite (.finish fun _ => hd) (.notified (fun _ => hr.dev) hr.mem)))

theorem execSyncin_keeps {s : State} : s.leadsTo (execSyncin s) :=
  .ite .ignored (.finish fun h => .flTrigger (.injTrigger (.seqTrigger (.ite (.ite h h.seqJump) h))))

theorem execSyncPulseEnd_keeps {s : State} {x : Nat} : s.leadsTo (execSyncPulseEnd x s) := by
  unfold execSyncPulseEnd
  extract_lets
  split
  · exact .ignored
  · exact .ite .ignored (.finish fun h => h.send.seq)

theorem execShapeLoad_keeps {s : State} {fn : Nat} {value : Word} : s.leadsTo (execShapeLoad fn value s) :=
  .pf0Wr (fun _ h0 => .ite h0.drvCtl h0)

theorem execToneApply_keeps {s : State} {fn : Nat} {value : Word} : s.leadsTo (execToneApply fn value s) :=
  .pf0Wr (fun _ h0 => .ite h0.drvCtl h0)

theorem execShapeLoadComplete_keeps {s : State} : s.leadsTo (execShapeLoadComplete s) := .ite .ignored (.finish fun h => h.drv)

theorem Fab.canonical_passes {x : Fab} (f : Nat → Cell → Cell) (g : Nat → Loop → Loop) (h : x.canonical) :
    Fab.canonical { x with cells := x.cells.mapVals {} f, loops := x.loops.mapVals {} g } := by
  obtain ⟨c, l, r⟩ := h
  exact ⟨Tab.wf_mapVals _ _ c, Tab.wf_mapVals _ _ l, r⟩

theorem execTonePlanChange_keeps {s : State} : s.leadsTo (execTonePlanChange s) := by
  unfold execTonePlanChange
  refine .ite .ignored (.finish fun h => ?_)
  refine h.several ?_
  exact fun ⟨c, l, r⟩ => Fab.canonical_passes _ _ ⟨c, l, r⟩

theorem execLaneReservation_keeps {s : State} : s.leadsTo (execLaneReservation s) :=
  .ite .ignored (.finish fun h => .foldl (fun _ _ h0 => h0.modSlot.reserveFor) h)

theorem execVerificationWindowClose_keeps {s : State} {slot : Nat} {meas : List Meas} : s.leadsTo (execVerificationWindowClose slot meas s) := by
  unfold execVerificationWindowClose
  extract_lets
  refine .ite (.ite .ignored (.finish fun h => h.closeLanes.modSlot.advance)) ?_
  split
  · exact .ite .ignored (.finish fun h => h.closeLanes.cmt.restoreCheck)
  · exact .finish fun h => h.restoreCheck
  · exact .ignored

theorem execRollRampStart_keeps {s : State} {slot : Nat} : s.leadsTo (execRollRampStart slot s) := by
  unfold execRollRampStart
  refine .ite .ignored (.finish fun h => .modSlot (.foldl (fun _ _ h0 => ?_) h))
  split
  · exact h0
  · split
    · exact .foldl (fun _ _ h1 => h1.modCell) h0
    · exact h0

theorem execBlankNAssert_keeps {s : State} {widthNs : Nat} : s.leadsTo (execBlankNAssert widthNs s) :=
  .ite .ignored (.ite (.finish fun h => .ite h.fresh h) (.finish fun h => .blankSync (Dev.keeps.flt (.ite h.fresh h))))

theorem execBlankNDeassert_keeps {s : State} : s.leadsTo (execBlankNDeassert s) := .finish fun h => h.flt.blankSync

theorem execBlankStage2_keeps {s : State} : s.leadsTo (execBlankStage2 s) := by
  refine .ite .ignored (.finish fun h => ?_)
  have hd : s.d.keeps ({ s.d with flt := { s.d.flt with stage2 := true } }.overrideVoas inVoas) := .overrideVoas inVoas_rise h.flt
  exact .ite hd hd.darkTargets

theorem execBlankRelease_keeps {s : State} : s.leadsTo (execBlankRelease s) :=
  .ite .ignored (.finish fun h => .releaseCheck (.foldl (fun _ _ h0 => h0.releaseVoa) h.flt))

theorem execErrNPulseEnd_keeps {s : State} : s.leadsTo (execErrNPulseEnd s) := by
  unfold execErrNPulseEnd
  split
  · exact .ite (.finish fun h => h.flt) .ignored
  · exact .ignored

theorem execFatalRecoveryTimeout_keeps {s : State} : s.leadsTo (execFatalRecoveryTimeout s) := by
  unfold execFatalRecoveryTimeout
  split
  · exact .ite (.finish fun h => h.modSrc.settleFatal) .ignored
  · exact .ignored

theorem execSwBlank_keeps {s : State} {fn : Nat} {value : Word} : s.leadsTo (execSwBlank fn value s) := .pf0Wr (fun _ h0 => h0.fltCtlWrite)

theorem execFltCtlLock_keeps {s : State} {fn : Nat} {value : Word} : s.leadsTo (execFltCtlLock fn value s) :=
  .pf0Wr (fun _ h0 => h0.fltCtlWrite)

theorem execTelemetryRecord_keeps {s : State} : s.leadsTo (execTelemetryRecord s) := .ite .ignored (.finish fun h => h.takeRec.writeRecs)

theorem execSnapshotRecord_keeps {s : State} : s.leadsTo (execSnapshotRecord s) := by
  unfold execSnapshotRecord
  refine .ite .ignored ?_
  split
  · exact .ignored
  · exact .finish fun h => h.jobs.modQueue.takeRec.writeRecs

theorem execDumpComplete_keeps {s : State} : s.leadsTo (execDumpComplete s) :=
  .ite .ignored (.finish fun h => .ite h.pmc.writeRecs.snapNow h.pmc.writeRecs)

theorem execSpareReq_keeps {s : State} {fn le : Nat} {value : Word} : s.leadsTo (execSpareReq fn le value s) :=
  .pf0Wr (fun _ h0 => h0.leCtlWrite)

theorem execReturnReq_keeps {s : State} {fn le : Nat} {value : Word} : s.leadsTo (execReturnReq fn le value s) :=
  .pf0Wr (fun _ h0 => h0.leCtlWrite)

theorem execLeRejoin_keeps {s : State} {le : Nat} {pass : Bool} : s.leadsTo (execLeRejoin le pass s) :=
  .ite .ignored (.ite (.finish fun h => h.leErr.once) (.ite (.finish fun h => h.modLe.spareFreed) (.finish fun h => h.modLe.askMove)))

theorem execSqTail_keeps {s : State} {fn q nbytes : Nat} {value : Word} : s.leadsTo (execSqTail fn q nbytes value s) :=
  .hostWr (fun _ h0 => h0.dbSqTail)

theorem execCqHead_keeps {s : State} {fn q nbytes : Nat} {value : Word} : s.leadsTo (execCqHead fn q nbytes value s) :=
  .hostWr (fun _ h0 => h0.dbCqHead)

theorem execAqSqTail_keeps {s : State} {fn nbytes : Nat} {value : Word} : s.leadsTo (execAqSqTail fn nbytes value s) :=
  .hostWr (fun _ h0 => h0.dbAqSqTail)

theorem execAqCqHead_keeps {s : State} {fn nbytes : Nat} {value : Word} : s.leadsTo (execAqCqHead fn nbytes value s) :=
  .hostWr (fun _ h0 => h0.dbAqCqHead)

theorem execEvtHead_keeps {s : State} {fn nbytes : Nat} {value : Word} : s.leadsTo (execEvtHead fn nbytes value s) :=
  .hostWr (fun _ h0 => h0.dbEvtHead)

theorem execTelHead_keeps {s : State} {fn nbytes : Nat} {value : Word} : s.leadsTo (execTelHead fn nbytes value s) :=
  .pf0Wr (fun _ h0 => h0.dbTelHead)

theorem execIrqRearm_keeps {s : State} {fn nbytes : Nat} {value : Word} : s.leadsTo (execIrqRearm fn nbytes value s) :=
  .hostWr (fun _ h0 => h0.dbIrqRearm)

theorem execQctlEnable_keeps {s : State} {fn q nbytes : Nat} {rsv : BitVec 29} {flush : Bool} : s.leadsTo (execQctlEnable fn q nbytes rsv flush s) :=
  .hostWr (fun _ h0 => h0.qctlEnable)

theorem execQctlDisable_keeps {s : State} {fn q nbytes : Nat} {rsv : BitVec 29} {flush : Bool} : s.leadsTo (execQctlDisable fn q nbytes rsv flush s) :=
  .hostWr (fun _ h0 => h0.qctlDisable)

theorem execResume_keeps {s : State} {fn q nbytes : Nat} {rsv : BitVec 29} {enable : Bool} : s.leadsTo (execResume fn q nbytes rsv enable s) :=
  .hostWr (fun _ h0 => h0.qctlResume)

theorem execFlush_keeps {s : State} {fn q nbytes : Nat} {rsv : BitVec 29} {enable : Bool} : s.leadsTo (execFlush fn q nbytes rsv enable s) :=
  .hostWr (fun _ h0 => h0.qctlFlush)

theorem execAggTime_keeps {s : State} {ring q : Nat} : s.leadsTo (execAggTime ring q s) :=
  .ite (.ite (.finish fun h => h.modQueue) .ignored) (.ite (.finish fun h => h.modFn) .ignored)

theorem execMsixUnmask_keeps {s : State} {mask : Unmask} : s.leadsTo (execMsixUnmask mask s) := .finish fun h => h.modFn.sendPending

theorem execAdminQueueEnable_keeps {s : State} {fn target : Nat} {value : Word} : s.leadsTo (execAdminQueueEnable fn target value s) :=
  .hostWr (fun _ h0 => .ite h0.modFn h0)

theorem execAdminQueueDisable_keeps {s : State} {fn target : Nat} {value : Word} : s.leadsTo (execAdminQueueDisable fn target value s) :=
  .hostWr (fun _ h0 => .ite h0.modFn h0)

theorem execAdminAbortEnd_keeps {s : State} {fn : Nat} : s.leadsTo (execAdminAbortEnd fn s) := .ite (.finish fun h => h.modFn) .ignored

theorem execEventRingEnable_keeps {s : State} {fn target : Nat} {value : Word} : s.leadsTo (execEventRingEnable fn target value s) :=
  .hostWr (fun _ h0 => .ite h0.modFn h0)

theorem execEventRingDisable_keeps {s : State} {fn target : Nat} {value : Word} : s.leadsTo (execEventRingDisable fn target value s) :=
  .hostWr (fun _ h0 => .ite h0.modFn h0)

theorem execTelemetryEnable_keeps {s : State} {fn : Nat} {value : Word} : s.leadsTo (execTelemetryEnable fn value s) :=
  .pf0Wr (fun _ h0 => h0.telCfgWrite)

theorem execCreate_keeps {s : State} {fn q : Nat} {value : Word} : s.leadsTo (execCreate fn q value s) :=
  .pf0Wr (fun _ h0 => .ite h0.modQueue h0)

theorem execAbortCut_keeps {s : State} : s.leadsTo (execAbortCut s) := .ite .ignored (.finish fun h => .foldl (fun _ _ h0 => h0.cutQueue) h)

theorem execAbortComplete_keeps {s : State} {admin : Bool} {q : Nat} : s.leadsTo (execAbortComplete admin q s) := by
  unfold execAbortComplete
  refine .ite ?_ ?_
  · split
    · exact .ignored
    · exact .ite .ignored (.ite (.finish fun h => .foldl (fun _ _ h0 => h0.startAbort) h) (.finish fun h => h.abortAdmin))
  · split
    · split
      · exact .ite .ignored (.finish fun h => h.abortRange)
      · exact .ignored
    · exact .ignored

theorem execFlr_keeps {s : State} {fn : Nat} : s.leadsTo (execFlr fn s) :=
  .ite .ignored (.finish fun h => .once (.ite h.resetPf0 h.resetFn))

theorem execFlrComplete_keeps {s : State} {fn : Nat} : s.leadsTo (execFlrComplete fn s) := .ite .ignored (.finish fun h => h.clearFn)

theorem execPerstN_keeps {s : State} : s.leadsTo (execPerstN s) :=
  .ite .ignored (.finish fun h => h.io.resetPf0.dropHostBursts.endSession.condOn)

theorem execPerstNRelease_keeps {s : State} : s.leadsTo (execPerstNRelease s) := .ite (.finish fun h => h.io) .ignored

theorem execLinkDown_keeps {s : State} : s.leadsTo (execLinkDown s) :=
  .ite .ignored (.finish fun h => h.io.resetPf0.dropHostBursts.endSession.condOn)

theorem execLinkUp_keeps {s : State} {gen width : Nat} {flit : Bool} : s.leadsTo (execLinkUp gen width flit s) :=
  .ite .ignored (.finish fun h => h.io.condOff)

theorem execVfRemoval_keeps {s : State} {numVfs : Nat} : s.leadsTo (execVfRemoval numVfs s) := .ite .ignored (.finish fun h => h.removeVfs)

theorem execVfEnable_keeps {s : State} {numVfs : Nat} : s.leadsTo (execVfEnable numVfs s) :=
  .ite .ignored (.ite (.finish fun h => h.io) (.finish fun h => h.io))

theorem execVfTeardownComplete_keeps {s : State} : s.leadsTo (execVfTeardownComplete s) := by
  unfold execVfTeardownComplete
  extract_lets d gone d1 back _ io
  have h1 : s.d.keeps d1 := .foldl (fun _ _ h0 => h0.clearFn) (.refl _)
  have hq : Tab.wf {} d1.io.queues = true → Tab.wf {} io.queues = true := Tab.wf_mapVals {} (fun _ q => back q)
  exact .ite .ignored (.finish fun _ => h1.io (fun ⟨q, r⟩ => ⟨hq q, r⟩))

theorem execQueueCreate_keeps {s : State} {fn : Nat} : s.leadsTo (execQueueCreate fn s) := .onAdmin fun _ => .finish fun h => h.queueCreate

theorem execQueueDelete_keeps {s : State} {fn : Nat} : s.leadsTo (execQueueDelete fn s) := .onAdmin fun _ => .finish fun h => h.queueDelete

theorem execAbort_keeps {s : State} {fn : Nat} : s.leadsTo (execAbort fn s) := .onAdmin fun _ => .finish fun h => h.abortCmd

theorem execDomainSet_keeps {s : State} {fn : Nat} : s.leadsTo (execDomainSet fn s) := .onAdmin fun _ => .finish fun h => h.domainSet

theorem execTick_keeps {s : State} {rail : List Nat} {stream : List (Nat × List (Int × Int))} {ringErr : List (Nat × Nat)} {twinErr : List Nat} :
    s.leadsTo (execTick rail stream ringErr twinErr s) := by
  unfold execTick
  refine .ite .ignored ?_
  extract_lets _ d1 d2 x s1 d3 x1 d4 _
  have h1 : s.d.keeps d1 := Dev.keeps.clampScan (Dev.keeps.refl s.d).withTim
  have hs : s.carries s1 := State.carries.trans ((State.carries.refl s).control h1.latchPowers.calMeasure) State.sweepTick_carries
  have h4 : s.d.keeps d4 := .ite hs.dev.tickBody (.ite hs.dev.driveTick hs.dev)
  have h5 : s.d.keeps ({ d4 with drv := { d4.drv with rail := rail } }.displaceAll.calSetup s1.net) := Dev.keeps.calSetup (Dev.keeps.displaceAll h4.drv)
  exact State.leadsTo.notify (t := { s1 with d := _ }) ⟨hs.pending, hs.net, hs.mem, h5, hs.isl⟩

theorem execDitherAmplitudeChange_keeps {s : State} {aa : Nat} : s.leadsTo (execDitherAmplitudeChange aa s) := by
  unfold execDitherAmplitudeChange
  extract_lets
  split
  · exact .ite (.finish fun h => h.clampScan.modLoop) .ignored
  · exact .ignored

theorem execFastPeriod_keeps {s : State} : s.leadsTo (execFastPeriod s) :=
  .ite .ignored (.finish fun h => .foldl (fun _ _ h0 => h0.cellFast) (.ite (.foldl (fun _ _ h1 => h1.cellHandover) h.withTim.clampScan.railNext) h.withTim.clampScan.railNext))

theorem execSettleWindowEnd_keeps {s : State} {ca : Nat} : s.leadsTo (execSettleWindowEnd ca s) :=
  .ite .ignored (.finish fun h => h.modCell.modLoop.ffStep.lockDecided.restoreLock.settled.releaseCheck)

theorem execHandoverEnd_keeps {s : State} {ca : Nat} : s.leadsTo (execHandoverEnd ca s) :=
  .ite .ignored (.finish fun h => .ite h.modCell.clearTrim.ffStep.modHeaters h.modCell.clearTrim.ffStep)

theorem execDemodulatorWindowFull_keeps {s : State} {ca : Nat} : s.leadsTo (execDemodulatorWindowFull ca s) :=
  .finish fun h => .modCell (.ite h.drv h)

theorem execLockDeclared_keeps {s : State} {ca : Nat} : s.leadsTo (execLockDeclared ca s) :=
  .ite .ignored (.finish fun h => .blankSync (.relockCheck (.ite h.modCell.count.modHeaters.condOff.lockDecided h.modCell.count.modHeaters.condOff)))

theorem execLockLost_keeps {s : State} {ca : Nat} : s.leadsTo (execLockLost ca s) :=
  .ite .ignored (.finish fun h => h.modCell.count.setTileLeaf.condOn)

theorem execRegionChange_keeps {s : State} {ca : Nat} : s.leadsTo (execRegionChange ca s) :=
  .ite .ignored (.ite (.finish fun h => h.modCell) (.ite (.finish fun h => h.modCell.modHeaters) .ignored))

theorem execCellUnlit_keeps {s : State} {ca : Nat} : s.leadsTo (execCellUnlit ca s) := .ite .ignored (.finish fun h => h.modCell)

theorem execCellLit_keeps {s : State} {ca : Nat} : s.leadsTo (execCellLit ca s) := .ite .ignored (.finish fun h => h.modCell)

theorem execWrapTaken_keeps {s : State} {ca : Nat} : s.leadsTo (execWrapTaken ca s) :=
  .ite .ignored (.finish fun h => h.modCell.modLoop.ffStep.count)

theorem execLptWriteBack_keeps {s : State} {tn : Nat} : s.leadsTo (execLptWriteBack tn s) :=
  .ite .ignored (.finish fun h => .foldl (fun _ _ h0 => h0.modLoop.bus) h)

theorem execLptWrite_keeps {s : State} {fn addr : Nat} {data : List Word} : s.leadsTo (execLptWrite fn addr data s) :=
  .hostWrBar (fun _ h0 => h0.loopTableWrite)

theorem execParameterLoad_keeps {s : State} : s.leadsTo (execParameterLoad s) :=
  .ite .ignored (.finish fun h => .foldl (fun _ _ h0 => h0.takeLoad) h.fab)

theorem execConnectBatch_keeps {s : State} {q : Nat} : s.leadsTo (execConnectBatch q s) := .onFront fun _ => .finish fun h => h.runBatch

theorem execCellDirect_keeps {s : State} {q : Nat} : s.leadsTo (execCellDirect q s) := .onFront fun _ => .finish fun h => h.runBatch

theorem execAttenSet_keeps {s : State} {q : Nat} : s.leadsTo (execAttenSet q s) := .onFront fun _ => .finish fun h => h.runAttenSet

theorem execAttenTargetApply_keeps {s : State} : s.leadsTo (execAttenTargetApply s) :=
  .ite .ignored (.finish fun h => .foldl (fun _ _ h0 => h0.attApply) h)

theorem execLoopMode_keeps {s : State} {q : Nat} : s.leadsTo (execLoopMode q s) := .onFront fun _ => .finish fun h => h.runLoopMode

theorem execLoopModeApply_keeps {s : State} : s.leadsTo (execLoopModeApply s) :=
  .ite .ignored (.finish fun h => .foldl (fun _ _ h0 => .complete (.foldl (fun _ _ h1 => h1.loopEntry) h0)) (.foldl (fun _ _ h2 => h2.calTouch) h.jobs))

theorem execFence_keeps {s : State} {q : Nat} : s.leadsTo (execFence q s) :=
  .onFront fun _ => .ite (.finish fun h => h.complete) (.ite .ignored (.finish fun h => h.complete))

theorem execQueryConn_keeps {s : State} {q : Nat} : s.leadsTo (execQueryConn q s) :=
  .onFront fun _ => .ite (.finish fun h => h.complete) (.finish fun h => h.toHost.complete)

theorem execNop_keeps {s : State} {q : Nat} : s.leadsTo (execNop q s) := .onFront fun _ => .finish fun h => h.complete

theorem execSnapshot_keeps {s : State} {q : Nat} : s.leadsTo (execSnapshot q s) := .onFront fun _ => .finish fun h => h.runSnapshot

theorem execSeqLoad_keeps {s : State} {part : LoadPart} : s.leadsTo (execSeqLoad part s) := by
  have go : ∀ t : State, s.carries t → s.leadsTo (match t.d.loading part.q with
      | some (x, c) => .next { t.copyLoad x c part.n with d := (t.copyLoad x c part.n).d.notify }
      | none => finish t t.d) := by
    intro t ht
    split
    · exact .notify (ht.trans State.copyLoad_carries)
    · exact .notify ht
  exact .ite (go s (.refl s)) (.onFront fun _ => go _ ((State.carries.refl s).control (Dev.keeps.refl s.d).beginLoad))

theorem execConversionResult_keeps {s : State} {mpa code : Nat} {fast clip err : Bool} : s.leadsTo (execConversionResult mpa code fast clip err s) :=
  .ite (.ite .ignored (.finish fun h => .ite h.modMrt.result h.modMrt.result.injDone.count)) (.ite .ignored (.finish fun h => .result (.ite h.forceRange.modMrt h.forceRange.modMrt.darkCode)))

theorem execWindowTransition_keeps {s : State} {mpa : Nat} : s.leadsTo (execWindowTransition mpa s) := by
  unfold execWindowTransition
  extract_lets
  split
  · exact .ignored
  · exact .finish fun h => .ite h.modMet.windowEvent.windowEvent h.modMet.windowEvent

theorem execMetWrite_keeps {s : State} {fn mpa : Nat} {value : DWord} : s.leadsTo (execMetWrite fn mpa value s) :=
  .hostWrBar (fun _ h0 => .ite h0.metWhole h0)

theorem execGo_keeps {s : State} {fn slot : Nat} {value : Word} : s.leadsTo (execGo fn slot value s) :=
  .pf0Wr (fun _ h0 => .ite h0.injWrite h0)

theorem execCancel_keeps {s : State} {fn slot : Nat} {value : Word} : s.leadsTo (execCancel fn slot value s) :=
  .pf0Wr (fun _ h0 => .ite h0.injWrite h0)

theorem execInjectedResult_keeps {s : State} {slot code : Nat} {clip : Bool} : s.leadsTo (execInjectedResult slot code clip s) :=
  .ite .ignored (.finish fun h => h.injDone.rerange.mon.count)

theorem State.leadsTo.flWrite {s : State} {fn lane v : Nat} : s.leadsTo (flWrite s fn lane v) := by
  have hm : ∀ c : Bool, s.mem.canonical → Mem.canonical (if c then s.mem.clearLane lane else s.mem) := by
    intro c h
    split
    · exact Mem.clearLane_canonical h
    · exact h
  refine .ite .ignored (.ite (.finish fun h => h.count) ?_)
  exact .notified (fun h => h.count.flCtlWrite) (hm _)

theorem execClaim_keeps {s : State} {fn lane : Nat} {value : Word} : s.leadsTo (execClaim fn lane value s) := .flWrite

theorem execClaimClear_keeps {s : State} {fn lane : Nat} {value : Word} : s.leadsTo (execClaimClear fn lane value s) := .flWrite

theorem execArm_keeps {s : State} {fn lane : Nat} {value : Word} : s.leadsTo (execArm fn lane value s) := .flWrite

theorem execCaptureComplete_keeps {s : State} {lane : Nat} {samples : List (BitVec 12)} {trigAt : Nat} :
    s.leadsTo (execCaptureComplete lane samples trigAt s) := by
  unfold execCaptureComplete
  extract_lets d l post
  split
  · exact .ignored
  · refine .ite .ignored (.notified (fun h => Dev.keeps.setLeaf (Dev.keeps.count (.ite h.modFl.count h.modFl))) (fun h => ?_))
    exact ⟨h.1, Memory.wf_writeBytes _ _ h.2⟩

theorem execInterpolation_keeps {s : State} : s.leadsTo (execInterpolation s) := by
  unfold execInterpolation
  refine .ite .ignored ?_
  split
  · exact .ignored
  · exact .ite (.finish fun h => h.interpHold) (.ite (.finish fun h => h.recompute.count) (.finish fun h => h.cal.count))

theorem execCalRun_keeps {s : State} {q : Nat} : s.leadsTo (execCalRun q s) := .onFront fun _ => .finish fun h => h.runCal

theorem execCalTileStart_keeps {s : State} {tn : Nat} : s.leadsTo (execCalTileStart tn s) := by
  unfold execCalTileStart
  extract_lets
  split
  · exact .ignored
  · exact .ite .ignored (.finish fun h => h.modRun.modLe.askMove)

theorem execSpareWaitTimeout_keeps {s : State} {tn : Nat} : s.leadsTo (execSpareWaitTimeout tn s) := by
  unfold execSpareWaitTimeout
  extract_lets
  split
  · exact .ignored
  · exact .ite .ignored (.finish fun h => h.cal.setLeaf.calCheck)

theorem execCalWindowEnd_keeps {s : State} {tn : Nat} {meas : List CalMeas} : s.leadsTo (execCalWindowEnd tn meas s) := by
  unfold execCalWindowEnd
  extract_lets
  split
  · exact .ite .ignored (.ite (.finish fun h => h.modRun) (.finish fun h => h.cal.uncal.countN))
  · exact .ignored

theorem execStore_keeps {s : State} : s.leadsTo (execStore s) := .ite .ignored (.finish fun h => h.startStore)

theorem execStoreComplete_keeps {s : State} {verifies : Bool} : s.leadsTo (execStoreComplete verifies s) :=
  .ite .ignored (.ite (.finish fun h => h.storeAbandon) (.finish fun h => h.cal.modRun.count.setLeaf))

theorem execStoreRetry_keeps {s : State} : s.leadsTo (execStoreRetry s) := by
  unfold execStoreRetry
  split
  · exact .ite (.finish fun h => h.startStore) .ignored
  · exact .ignored

theorem execCalApply_keeps {s : State} {tn : Nat} : s.leadsTo (execCalApply tn s) := by
  unfold execCalApply
  extract_lets
  split
  · exact .ite .ignored (.ite (.finish fun h => h.applyTile.modRun.calCheck) (.finish fun h => h.applyTile.modRun))
  · exact .ignored

theorem execCalReturn_keeps {s : State} {tn : Nat} : s.leadsTo (execCalReturn tn s) := by
  unfold execCalReturn
  extract_lets
  split
  · exact .ite .ignored (.finish fun h => h.startReturn)
  · exact .ignored

theorem execSnap_keeps {s : State} {fn : Nat} {value : Word} : s.leadsTo (execSnap fn value s) := .pf0Wr (fun _ h0 => h0.pmcCtlWrite)

theorem execClearAll_keeps {s : State} {fn : Nat} {value : Word} : s.leadsTo (execClearAll fn value s) :=
  .pf0Wr (fun _ h0 => h0.pmcCtlWrite)

theorem execPmcLiveWrite_keeps {s : State} {fn : Nat} {hi : Bool} {value : Word} {atOverflow : Bool} : s.leadsTo (execPmcLiveWrite fn hi value atOverflow s) :=
  .pf0Wr (fun _ h0 => h0.pmcLiveWrite)

theorem execMasterStall_keeps {s : State} {m fn : Nat} : s.leadsTo (execMasterStall m fn s) :=
  .ite .ignored (.finish fun h => h.bmx.once.masterReset)

theorem execPcieCorrectableError_keeps {s : State} {err : AerBit} : s.leadsTo (execPcieCorrectableError err s) :=
  .ite .ignored (.finish fun h => h.modFn.count.once)

theorem execDriveFault_keeps {s : State} {kind aa : Nat} : s.leadsTo (execDriveFault kind aa s) :=
  .ite .ignored (.finish fun h => h.drv.condOn.driveReact.pathFaults.condOff.pathFaults)

theorem Isl.keeps.copyBlank {i j : Isl} {f : Flt} (h : i.keeps j) : i.keeps (j.copyBlank f) := .ite h.write h

theorem execIslandSample_keeps {s : State} {tap nW : Nat} : s.leadsTo (execIslandSample tap nW s) := by
  unfold execIslandSample
  extract_lets i ms
  refine .ite .ignored ?_
  have hi : s.keeps { s with isl := i } := ⟨⟨rfl, rfl, id, .refl _, (Isl.keeps.refl s.isl).copyBlank⟩, id⟩
  refine .after hi (.onIsl fun j hj => ?_)
  have hj' : ∀ t, i.keeps { j with taps := t } := fun _ => hj.write
  exact .ite (.foldl (fun _ _ h => h.half) (hj' _)) (.ite (hj' _).half (hj' _).unclSample)

theorem execSnapshotLinkDelta_keeps {s : State} {strobe : Option Nat} {esn tb0 : Nat} {release : Bool} {ents : List LinkEntry} :
    s.leadsTo (execSnapshotLinkDelta strobe esn tb0 release ents s) :=
  .onIsl fun _ h => .ite h.write (.foldl (fun _ _ h => .ite h.entry h) h.write)

theorem execFullMap_keeps {s : State} {ents : List LinkEntry} : s.leadsTo (execFullMap ents s) := by
  refine .onIsl fun i h => ?_
  have h1 : s.isl.keeps { i with lastLink := i.mono } := h.write
  have h2 : ∀ f : Isl → LinkEntry → Isl, (∀ i e, s.isl.keeps i → s.isl.keeps (f i e)) → ∀ l : List LinkEntry,
      s.isl.keeps { l.foldl f { i with lastLink := i.mono } with deaf := false, started := false } := fun _ hf _ => (Isl.keeps.foldl hf h1).write
  exact .ite h1 (h2 _ (fun _ _ h => h.entry) _)

theorem execLinkSilence_keeps {s : State} : s.leadsTo (execLinkSilence s) := .ite .ignored (.onIsl fun _ h => h.write)

theorem execSplit_keeps {s : State} : s.leadsTo (execSplit s) := by
  have splitAt : ∀ j a, s.isl.keeps j → s.isl.keeps { j with splitAt := a } := fun _ _ h => h.write
  unfold execSplit
  refine .ite .ignored (.onIsl fun i h => ?_)
  extract_lets outs un i1 i2 i3
  have h1 : s.isl.keeps i1 := by
    refine .foldl (fun j o hj => ?_) h
    split
    · exact hj.closeIv.openIv
    · exact hj.closeIv
  have h2 : s.isl.keeps i2 := .foldl (fun _ _ hj => hj.closeUncl.uncl (Tab.wf_mod _ _ _)) h1
  have h3 : s.isl.keeps i3 := .ite h2.putGap h2
  exact splitAt _ _ h3

theorem execUnclaimedOpen_keeps {s : State} {out : Nat} : s.leadsTo (execUnclaimedOpen out s) :=
  .ite .ignored (.onIsl fun _ h => h.uncl (Tab.wf_set _ _ _))

theorem execBlockSigning_keeps {s : State} : s.leadsTo (execBlockSigning s) := by
  unfold execBlockSigning
  dsimp only
  split
  · exact .ignored
  · exact .onIsl fun _ h => Isl.keeps.signBlock (.foldl (fun _ _ h => h.put) h)

theorem execCheckpoint_keeps {s : State} : s.leadsTo (execCheckpoint s) :=
  .ite .ignored (.onIsl fun _ h => h.write (fun ⟨m, v, u, _, _⟩ => ⟨m, v, u, v, u⟩))

theorem execClockCheck_keeps {s : State} : s.leadsTo (execClockCheck s) := .ite .ignored (.finishIsl (fun h => h.condOn) (Isl.keeps.refl _).write)

theorem execIclkAgreement_keeps {s : State} : s.leadsTo (execIclkAgreement s) :=
  .ite .ignored (.finishIsl (fun h => h.condOff) (Isl.keeps.refl _).write)

theorem execIslandHeartbeat_keeps {s : State} : s.leadsTo (execIslandHeartbeat s) :=
  .ite .ignored (.finishIsl (fun h => .foldl (fun _ _ h0 => h0.islEvt) (Dev.keeps.condOff h.mi)) (Isl.keeps.refl _).write)

theorem execHeartbeatLoss_keeps {s : State} : s.leadsTo (execHeartbeatLoss s) := .ite .ignored (.finish fun h => h.mi.condOn.dropMailbox)

theorem execIslandRead_keeps {s : State} {fn : Nat} : s.leadsTo (execIslandRead fn s) := .onAdmin fun _ => .finish fun h => h.islandRead

theorem execIslandReply_keeps {s : State} : s.leadsTo (execIslandReply s) := by
  unfold execIslandReply
  split
  · exact .ignored
  · refine .ite .ignored ?_
    dsimp only
    refine .finishIsl (fun h => Dev.keeps.setLeaf ?_) (Isl.keeps.refl _).answer
    exact .ite (.adminDone (.ite (Dev.keeps.toHost h.mi) h.mi)) (.ite (Dev.keeps.toHost h.mi) h.mi)

theorem execIdentify_keeps {s : State} : s.leadsTo (execIdentify s) := .onReader fun _ h => h

theorem execLastResult_keeps {s : State} : s.leadsTo (execLastResult s) := .onReader fun _ h => h

theorem execSeek_keeps {s : State} {obj index : Nat} : s.leadsTo (execSeek obj index s) := by
  refine .onIsl fun i h => ?_
  have h0 : s.isl.keeps (i.result 0) := h.result
  exact .ite h0.write (.ite h.result (.ite h.result (.ite h.result h0.write)))

theorem execRead_keeps {s : State} {len : Nat} : s.leadsTo (execRead len s) := .onReader fun _ h => h.readStream

theorem execAck_keeps {s : State} {index : DWord} : s.leadsTo (execAck index s) := .onIsl fun _ h => .ite h.result h.acknowledge.result

theorem execChallenge_keeps {s : State} : s.leadsTo (execChallenge s) :=
  .ite .ignored (.finishIsl (fun h => h.takeFresh.send) (Isl.keeps.refl _).write)

theorem execToken_keeps {s : State} {chunk : Nat} {bytes : List Byte} : s.leadsTo (execToken chunk bytes s) :=
  .onIsl fun _ h => .ite h.write (.ite h.write h.write)

theorem execSealOp_keeps {s : State} {op : Nat} : s.leadsTo (execSealOp op s) :=
  .onIsl fun _ h => .ite h.result (.ite h.result (.ite h.result (.ite h.result h.changeSeal)))

theorem execConfigWrite_keeps {s : State} {bytes : List Byte} : s.leadsTo (execConfigWrite bytes s) := by
  refine .onIsl fun i h => ?_
  have h0 : s.isl.keeps (i.result 0) := h.result
  exact .ite h.result (.ite h.result h0.write)

theorem execSupervisorRestart_keeps {s : State} {memory : Bool} : s.leadsTo (execSupervisorRestart memory s) :=
  .ite .ignored (.finish fun h => h.once.restartSup)

theorem execFwActivate_keeps {s : State} {fn : Nat} : s.leadsTo (execFwActivate fn s) :=
  .onAdmin fun _ => .ite (.finish fun h => h.adminDone) (.ite (.finish fun h => h.fwReject) (.ite (.finish fun h => h.fwReject) (.ite (.finish fun h => .adminDone (.ite h h.stage)) (.ite .ignored (.finish fun h => .activate (.ite h h.stage))))))

theorem execSupervisorRestartEnd_keeps {s : State} : s.leadsTo (execSupervisorRestartEnd s) := by
  unfold execSupervisorRestartEnd
  extract_lets
  refine .ite .ignored ?_
  split
  · exact .ite (.finish fun h => .actDone (Dev.keeps.withSec (.foldl (fun _ _ h0 => h0.adminDone) h.withSec))) (.finish fun h => .foldl (fun _ _ h1 => h1.adminDone) h.withSec)
  · exact .finish fun h => .foldl (fun _ _ h2 => h2.adminDone) h.withSec

theorem execLeFailure_keeps {s : State} {le bit : Nat} : s.leadsTo (execLeFailure le bit s) :=
  .ite .ignored (.ite (.finish fun h => h.leErr.once) (.ite (.finish fun h => h.leFails.rollGo) .ignored))

theorem execTakeover_keeps {s : State} {tn : Nat} : s.leadsTo (execTakeover tn s) := by
  unfold execTakeover
  split
  · exact .ite (.finish fun h => h.startMove.rollGo) .ignored
  · exact .ignored

theorem execTakeoverComplete_keeps {s : State} {tn : Nat} : s.leadsTo (execTakeoverComplete tn s) := by
  unfold execTakeoverComplete
  dsimp only
  split
  · exact .ignored
  · refine .ite .ignored (.finish fun h => .rollGo ?_)
    split
    · exact .modLe (.ite h.endMove.modLe.askMove h.endMove)
    · exact .ite h.endMove.modLe.askMove h.endMove

theorem State.leadsTo.spdm_plain {s : State} {doe : Bool} {m : SpdmMsg} {code : Nat} {c : Prop} {dec : Decidable c} {bs : Dev → List Byte} {g : Dev → Dev}
    (h : ∀ d, s.d.keeps d → s.d.keeps (g d)) : s.leadsTo (Machine.spdm s doe m code (fun d => if c then none else some (bs d, g d))) := by
  refine .spdm fun d b e hd he => ?_
  split at he
  · exact absurd he (by simp)
  · obtain ⟨-, rfl⟩ := Prod.mk.inj (Option.some.inj he)
    exact h d hd

theorem execGetVersion_keeps {s : State} {doe : Bool} {m : SpdmMsg} : s.leadsTo (execGetVersion doe m s) :=
  .spdm fun _ _ _ h e => (Prod.mk.inj (Option.some.inj e)).2 ▸ h

theorem execGetCapabilities_keeps {s : State} {doe : Bool} {m : SpdmMsg} : s.leadsTo (execGetCapabilities doe m s) :=
  .spdm fun _ _ _ h e => (Prod.mk.inj (Option.some.inj e)).2 ▸ h

theorem execNegotiateAlgorithms_keeps {s : State} {doe : Bool} {m : SpdmMsg} : s.leadsTo (execNegotiateAlgorithms doe m s) :=
  .spdm fun _ _ _ h e => (Prod.mk.inj (Option.some.inj e)).2 ▸ h

theorem execGetDigests_keeps {s : State} {doe : Bool} {m : SpdmMsg} : s.leadsTo (execGetDigests doe m s) :=
  .spdm fun _ _ _ h e => (Prod.mk.inj (Option.some.inj e)).2 ▸ h

theorem execGetCertificate_keeps {s : State} {doe : Bool} {m : SpdmMsg} : s.leadsTo (execGetCertificate doe m s) := by
  refine .spdm fun d b e h he => ?_
  split at he
  · exact (Prod.mk.inj (Option.some.inj he)).2 ▸ h
  · exact absurd he (by simp)

theorem execSpdmChallenge_keeps {s : State} {doe : Bool} {m : SpdmMsg} : s.leadsTo (execSpdmChallenge doe m s) := by
  refine .spdm fun d b e h he => ?_
  split at he
  · exact (Prod.mk.inj (Option.some.inj he)).2 ▸ h
  · exact absurd he (by simp)

theorem execGetMeasurements_keeps {s : State} {doe : Bool} {m : SpdmMsg} : s.leadsTo (execGetMeasurements doe m s) := .spdm_plain fun _ h => h

theorem execKeyExchange_keeps {s : State} {doe : Bool} {m : SpdmMsg} : s.leadsTo (execKeyExchange doe m s) := by
  refine .spdm fun d b e h he => ?_
  split at he
  · exact absurd he (by simp)
  · exact (Prod.mk.inj (Option.some.inj he)).2 ▸ h.setSession

theorem execFinish_keeps {s : State} {doe : Bool} {m : SpdmMsg} : s.leadsTo (execFinish doe m s) := by
  refine .spdm fun d b e h he => ?_
  dsimp only at he
  split at he
  · exact absurd he (by simp)
  · exact (Prod.mk.inj (Option.some.inj he)).2 ▸ h.setSession

theorem execHeartbeat_keeps {s : State} {doe : Bool} {m : SpdmMsg} : s.leadsTo (execHeartbeat doe m s) := by
  refine .spdm fun d b e h he => ?_
  dsimp only at he
  split at he
  · exact absurd he (by simp)
  · exact (Prod.mk.inj (Option.some.inj he)).2 ▸ h.setSession

theorem execEndSession_keeps {s : State} {doe : Bool} {m : SpdmMsg} : s.leadsTo (execEndSession doe m s) := by
  refine .spdm fun d b e h he => ?_
  split at he
  · exact absurd he (by simp)
  · exact (Prod.mk.inj (Option.some.inj he)).2 ▸ h.endSession

theorem execHeartbeatTimeout_keeps {s : State} {doe : Bool} : s.leadsTo (execHeartbeatTimeout doe s) := by
  unfold execHeartbeatTimeout
  split
  · exact .ite (.finish fun h => h.endSession) .ignored
  · exact .ignored

theorem execChalReq_keeps {s : State} {fn : Nat} {value : Word} : s.leadsTo (execChalReq fn value s) := .pf0Wr (fun _ h0 => h0.secDbgWrite)

theorem execSubmit_keeps {s : State} {fn : Nat} {value : Word} {token : List Byte} {how : HostRead} : s.leadsTo (execSubmit fn value token how s) :=
  .pf0Wr (fun _ h0 => h0.secDbgWrite)

theorem execRelock_keeps {s : State} {fn : Nat} {value : Word} : s.leadsTo (execRelock fn value s) := .pf0Wr (fun _ h0 => h0.secDbgWrite)

theorem execDbgChal_keeps {s : State} : s.leadsTo (execDbgChal s) := .onTap (fun _ h0 => h0.newChallenge.send)

theorem execDbgToken_keeps {s : State} {token : List Byte} : s.leadsTo (execDbgToken token s) := .onTap (fun _ h0 => h0.dbgAttempt)

theorem execJtagInstructionLoad_keeps {s : State} {code : Nat} : s.leadsTo (execJtagInstructionLoad code s) := by
  refine .ite .ignored (.finish fun h => Dev.keeps.blankSync (.ite (Dev.keeps.send ?_) ?_))
  · exact h.several
  · exact h.several

/-- What a read that ends on its way to its command changes drives no pin. -/
theorem Dev.endFetch_pins (d : Dev) (q : Nat) :
    (d.endFetch q).atnSum = d.atnSum ∧ (d.endFetch q).view = d.view ∧ (d.endFetch q).errLow = d.errLow ∧ (d.endFetch q).permitOk = d.permitOk :=
  ⟨rfl, rfl, rfl, rfl⟩

theorem Dev.aerRead_pins (d : Dev) (f : Nat) (how : HostRead) :
    (d.aerRead f how).atnSum = d.atnSum ∧ (d.aerRead f how).view = d.view ∧ (d.aerRead f how).errLow = d.errLow ∧
      (d.aerRead f how).permitOk = d.permitOk := by
  have hf : ∀ k, ((d.aerRead f how).fn k).acq = (d.fn k).acq ∧ ((d.aerRead f how).fn k).evt = (d.fn k).evt := by
    intro k
    unfold Dev.aerRead
    rw [Dev.fn_modFn]
    split <;> simp_all
  refine ⟨?_, rfl, rfl, rfl⟩
  funext k
  have hl : ∀ off, (d.aerRead f how).leaf k off = d.leaf k off := by
    intro off
    simp only [Dev.leaf, hf]
    rfl
  simp only [Dev.atnSum, Dev.group, hl]
  rfl

/-- A part that drives no pin, and no more than the control side. -/
theorem State.keeps.control {s : State} {d : Dev} (h : s.d.keeps d)
    (hp : d.atnSum = s.d.atnSum ∧ d.view = s.d.view ∧ d.errLow = s.d.errLow ∧ d.permitOk = s.d.permitOk)
    (ha : d.io.attn = s.d.io.attn := by rfl) (he : d.flt.errN = s.d.flt.errN := by rfl) (hl : d.flt.permit = s.d.flt.permit := by rfl) :
    s.keeps { s with d := d } := by
  obtain ⟨h1, h2, h3, h4⟩ := hp
  refine ⟨(State.carries.refl s).control h, fun ⟨p1, p2, p3⟩ => ⟨?_, ?_, ?_⟩⟩
  · rw [State.d, ha, h1, h2, p1]
  · rw [State.d, he, h3, p2]
  · rw [State.d, hl, h4, p3]

theorem runIo_keeps {s : State} {q op : Nat} : s.leadsTo (runIo q op s) :=
  .ite execConnectBatch_keeps <| .ite execAttenSet_keeps <| .ite execFence_keeps <| .ite execQueryConn_keeps <| .ite execCalRun_keeps <|
  .ite execSnapshot_keeps <| .ite execCellDirect_keeps <| .ite execLoopMode_keeps <| .ite execSeqLoad_keeps execNop_keeps

theorem runAdmin_keeps {s : State} {f op : Nat} : s.leadsTo (runAdmin f op s) :=
  .ite execQueueCreate_keeps <| .ite execQueueDelete_keeps <| .ite execAbort_keeps <| .ite execDomainSet_keeps <|
  .ite execFwActivate_keeps execIslandRead_keeps

theorem ioFetched_keeps {s : State} {q : Nat} {sqe : Sqe} {payload : List DWord} : s.leadsTo (ioFetched q sqe payload s) := by
  unfold ioFetched
  extract_lets op ovr wants d1 d2
  have hovr : ∀ st, s.leadsTo (ovr st) := fun _ => .finish fun h => h.ioTake.drain.flushEnd
  have h1 : s.d.keeps d1 := (Dev.keeps.refl s.d).ioTake
  have h2 : s.d.keeps d2 := .ite h1.bus h1
  exact .ite (hovr _) (.ite (hovr _) (.ite .ignored (.after (.notified h2) runIo_keeps)))

theorem adminFetched_keeps {s : State} {f : Nat} {sqe : Sqe} {payload : List DWord} : s.leadsTo (adminFetched f sqe payload s) := by
  unfold adminFetched
  extract_lets op wants i x d1 d2
  have h1 : s.d.keeps d1 := (Dev.keeps.refl s.d).bus.adminTake
  have h2 : s.d.keeps d2 := .ite h1.bus h1
  exact .ite .ignored (.ite (.finish fun _ => h2.adminDone) (.after (.notified h2) runAdmin_keeps))

theorem ioPayloadFails_keeps {s : State} {q : Nat} {sqe : Sqe} {part : List DWord} : s.leadsTo (ioPayloadFails q sqe part s) := by
  unfold ioPayloadFails
  extract_lets dom i d1 load d2
  have h2 : s.d.keeps d2 := (Dev.keeps.refl s.d).once.ioTake
  exact .ite .ignored (.ite (.after (.notified h2) execSeqLoad_keeps) (.finish fun _ => h2.complete))

theorem adminPayloadFails_keeps {s : State} {f : Nat} {sqe : Sqe} {part : List DWord} : s.leadsTo (adminPayloadFails f sqe part s) :=
  .ite .ignored (.finish fun h => Dev.keeps.adminDone h.once.adminTake.withSec)

theorem State.leadsTo.onFetch {s : State} {q : Nat} {g : State → Host.Outcome State Fault Refusal} (h : ∀ t : State, t.leadsTo (g t)) :
    s.leadsTo (onFetch q s g) := by
  unfold Machine.onFetch
  split
  · exact .ignored
  · exact .ite .ignored (.ite (.finish fun h => h.endFetch) (.after (.control (Dev.keeps.refl _).endFetch (s.d.endFetch_pins q)) (h _)))

theorem readFails_keeps {s : State} {r : Reader} {sqe : Option Sqe} {part : List DWord} {how : HostRead} :
    s.leadsTo (readFails r sqe part how s) := by
  refine .after (t := { s with d := s.d.aerRead (s.d.readerFn r) how }) (.control (Dev.keeps.refl _).aerRead (s.d.aerRead_pins _ how)) ?_
  unfold readFails
  dsimp only
  split
  · exact .finish fun h => h.ioUnread
  · exact ioPayloadFails_keeps
  · exact .finish fun h => h.adminUnread
  · exact adminPayloadFails_keeps
  · exact .finish fun h => h.once.seqErr.rfEnds

theorem execCommandFetch_keeps {s : State} {admin : Bool} {q : Nat} {sqe : Sqe} {payload : List DWord} {entry data : HostRead} :
    s.leadsTo (execCommandFetch admin q sqe payload entry data s) := by
  unfold execCommandFetch
  extract_lets r go
  have hgo : ∀ t : State, t.leadsTo (go t) := fun t =>
    .ite readFails_keeps (.ite readFails_keeps (.ite adminFetched_keeps ioFetched_keeps))
  exact .ite (.ite (hgo s) .ignored) (.onFetch hgo)

theorem readFailure_keeps {s : State} {r : Reader} {sqe : Option Sqe} {part : List DWord} {how : HostRead} :
    s.leadsTo (readFailure r sqe part how s) := by
  unfold readFailure
  split
  · exact .onFetch fun _ => readFails_keeps
  · exact .ite readFails_keeps .ignored
  · exact .ite readFails_keeps .ignored

theorem execCompletionTimeout_keeps {s : State} {r : Reader} {sqe : Option Sqe} {part : List DWord} :
    s.leadsTo (execCompletionTimeout r sqe part s) := .ite .ignored readFailure_keeps

theorem execHostReadFailure_keeps {s : State} {r : Reader} {sqe : Option Sqe} {part : List DWord} {how : HostRead} :
    s.leadsTo (execHostReadFailure r sqe part how s) := .ite .ignored readFailure_keeps

theorem execDawnStepEnd_keeps {s : State} {byLimit : Bool} : s.leadsTo (execDawnStepEnd byLimit s) :=
  .ite .ignored (.ite (.finish fun h => h.startDusk) (.finish fun h => h.dawnStep))

theorem execDuskReq_keeps {s : State} {fn : Nat} {value : Word} : s.leadsTo (execDuskReq fn value s) := .pf0Wr (fun _ h0 => h0.duskWrite)

theorem execDuskStepEnd_keeps {s : State} : s.leadsTo (execDuskStepEnd s) :=
  .ite .ignored (.ite (.finish fun h => h.toStep) (.finish fun h => h.duskStep))

theorem execVinWarn_keeps {s : State} {mv10 : Nat} : s.leadsTo (execVinWarn mv10 s) :=
  .ite .ignored (.finish fun h => h.pwr.condOn.setLeaf.storeAbandon)

theorem execVin48Low_keeps {s : State} {mv10 : Nat} : s.leadsTo (execVin48Low mv10 s) :=
  .ite .ignored (.finish fun h => h.storeAbandon.fatalOn)

theorem execVin48High_keeps {s : State} {mv10 : Nat} : s.leadsTo (execVin48High mv10 s) := .ite .ignored (.finish fun h => h.fatalOn)

theorem execUvlo_keeps {s : State} {mv10 : Nat} : s.leadsTo (execUvlo mv10 s) := by
  unfold execUvlo
  refine .ite .ignored ?_
  extract_lets d1 _ d2
  have h1 : s.d.keeps d1 := (Dev.keeps.refl s.d).storeAbandon.driversOff
  have h2 : s.d.keeps { d1 with pwr := { off := true, phase := .stopped, refSel := d1.pwr.refSel, strapId := d1.pwr.strapId } } := h1.pwr
  exact .notified (fun _ => h2.io) id (Isl.keeps.refl _).write

theorem execVin48Return_keeps {s : State} {mv10 : Nat} : s.leadsTo (execVin48Return mv10 s) := by
  unfold execVin48Return
  extract_lets d _ _ d1 d2
  have hb : s.d.keeps { d with pwr := { d.pwr with vinWarn := false }, cal := if d.cal.retry then { d.cal with retryAt := some d.tb2 } else d.cal } :=
    (Dev.keeps.refl s.d).several
  have h1 : s.d.keeps d1 := .ite hb.condOff (.refl _)
  have h2 : s.d.keeps d2 := .ite h1.fatalOff h1
  exact .ite .ignored (.finish fun _ => .ite h2.fatalOff h2)

theorem execRailOutOfWindow_keeps {s : State} {rail mv : Nat} : s.leadsTo (execRailOutOfWindow rail mv s) :=
  .ite .ignored (.ite (.finish fun h => .ite h.pwr.once.settleFatal h.pwr.fatalOn) (.finish fun h => h.pwr.railTick))

theorem execRailInWindow_keeps {s : State} {rail mv : Nat} : s.leadsTo (execRailInWindow rail mv s) :=
  .ite .ignored (.ite (.finish fun h => h.pwr.railTick) (.ite (.finish fun h => h.pwr.fatalOff) (.finish fun h => h.pwr)))

theorem execPowerMean_keeps {s : State} {vin10 pin : Nat} : s.leadsTo (execPowerMean vin10 pin s) :=
  .ite .ignored (.finish fun h => Dev.keeps.pwr (.ite (.ite (.setLeaf (.condOn (.ite (.ite h.pwr.condOn.setLeaf h.pwr) (.ite h.pwr.condOff h.pwr)))) (.ite (.ite h.pwr.condOn.setLeaf h.pwr) (.ite h.pwr.condOff h.pwr))) (.ite (.condOff (.ite (.ite h.pwr.condOn.setLeaf h.pwr) (.ite h.pwr.condOff h.pwr))) (.ite (.ite h.pwr.condOn.setLeaf h.pwr) (.ite h.pwr.condOff h.pwr)))))

theorem execPermitSense_keeps {s : State} : s.leadsTo (execPermitSense s) := .ite .ignored (.finish fun h => h.once.settleFatal)

theorem execPllLockLoss_keeps {s : State} : s.leadsTo (execPllLockLoss s) := .ite .ignored (.finish fun h => h.pwr.fatalOn)

theorem execPllLockRegained_keeps {s : State} : s.leadsTo (execPllLockRegained s) :=
  .ite .ignored (.finish fun h => .ite h.pwr h.pwr.fatalOff)

theorem execRefinLoss_keeps {s : State} : s.leadsTo (execRefinLoss s) := .ite .ignored (.finish fun h => h.pwr.fatalOn)

theorem execRefinRestored_keeps {s : State} : s.leadsTo (execRefinRestored s) := .ite .ignored (.finish fun h => .ite h.pwr h.pwr.fatalOff)

theorem execSensorUpdate_keeps {s : State} {sensor : Nat} {temp : Int} {convErr : Bool} : s.leadsTo (execSensorUpdate sensor temp convErr s) :=
  .ite .ignored (.finish fun h => h.sensorUpdate)

theorem execForce_keeps {s : State} {fn src : Nat} {value : Word} : s.leadsTo (execForce fn src value s) :=
  .pf0Wr (fun _ h0 => h0.srcStatWrite)

theorem execLatchedClear_keeps {s : State} {fn src : Nat} {value : Word} : s.leadsTo (execLatchedClear fn src value s) :=
  .pf0Wr (fun _ h0 => h0.srcStatWrite)

theorem execOutClear_keeps {s : State} {fn src : Nat} {value : Word} : s.leadsTo (execOutClear fn src value s) :=
  .pf0Wr (fun _ h0 => h0.srcStatWrite)

theorem execQuietPeriodEnd_keeps {s : State} {src scope : Nat} : s.leadsTo (execQuietPeriodEnd src scope s) := by
  unfold execQuietPeriodEnd
  extract_lets
  split
  · exact .ignored
  · split
    · exact .ignored
    · exact .ite .ignored (.ite (.finish fun h => h.modSrc.settleFatal) (.finish fun h => h.recovered.settleFatal.pathFaults))

theorem execPpsIn_keeps {s : State} : s.leadsTo (execPpsIn s) := .ite .ignored (.finish fun h => h.count.setTim)

theorem execPtmExchange_keeps {s : State} : s.leadsTo (execPtmExchange s) := .ite .ignored (.finish fun h => h.setTim.send)

theorem execSourceLost_keeps {s : State} : s.leadsTo (execSourceLost s) :=
  .ite .ignored (.finish fun h => .ite h.setTim.condOn.enterHoldover h.setTim.condOn)

theorem execSrcChange_keeps {s : State} {fn : Nat} {value : Word} : s.leadsTo (execSrcChange fn value s) :=
  .pf0Wr (fun _ h0 => h0.timCtlWrite)

theorem execTimEpochReset_keeps {s : State} {fn : Nat} {value : Word} : s.leadsTo (execTimEpochReset fn value s) :=
  .pf0Wr (fun _ h0 => h0.epochReset)

theorem execPpsOut_keeps {s : State} : s.leadsTo (execPpsOut s) := .ite .ignored (.finish fun h => h.setTim.send)

theorem execTodTx_keeps {s : State} : s.leadsTo (execTodTx s) := .ite .ignored (.finish fun h => h.send.setTim)

theorem State.leadsTo.hostRead {s : State} {fn bar off nbytes : Nat} : s.leadsTo (hostRead fn bar off nbytes s) := by
  refine .ite (.ite (.finish fun h => h.send) .ignored) (.hostRd fun d h => ?_)
  exact .ite2 (.ite2 h.bar0Read h) (.ite2 (.ite2 h.bar2Read h) (.ite2 (.ite2 h h) h))

theorem execCaptureRead_keeps {s : State} {fn bar off nbytes : Nat} : s.leadsTo (execCaptureRead fn bar off nbytes s) := .hostRead

theorem execMrtValueRead_keeps {s : State} {fn mpa : Nat} : s.leadsTo (execMrtValueRead fn mpa s) := .hostRead

theorem execRcRead_keeps {s : State} {fn off nbytes : Nat} : s.leadsTo (execRcRead fn off nbytes s) := .hostRead

theorem execPmcLiveRead_keeps {s : State} {fn : Nat} : s.leadsTo (execPmcLiveRead fn s) := .hostRead

theorem execGlbCtlLock_keeps {s : State} {fn : Nat} {value : Word} : s.leadsTo (execGlbCtlLock fn value s) :=
  .pf0Wr (fun _ h0 => h0.glbWrite)


end Sys2Proof.Machine

/-! SUPPORT. What commits keep, and that each takes a new ESN. -/
namespace Sys2Proof.Machine
set_option Elab.async false

/-- The control side with another number of the last commit. -/
def Dev.atEsn (d : Dev) (x : Nat) : Dev := { d with cmt := { d.cmt with esn := x } }

theorem Dev.keeps.atEsn {d e : Dev} (h : d.keeps e) (x : Nat) : (d.atEsn x).keeps (e.atEsn x) := ⟨h.canonical, h.tim, h.sec, rfl⟩

/-- The tables of the map are in canonical form. -/
def Net.canonical (n : Net) : Prop := Tab.wf .bar n.sw = true ∧ Tab.wf 0 n.esnCell = true ∧ Tab.wf 0 n.esnOut = true

/-- Entries written one after another keep a table's canonical form. -/
theorem Tab.wf_foldl_set {α β : Type} [DecidableEq α] (d : α) (k : β → Nat) (v : β → α) (l : List β) :
    ∀ {t : Tab α}, Tab.wf d t = true → Tab.wf d (l.foldl (fun t p => t.set d (k p) (v p)) t) = true := by
  induction l with
  | nil => exact fun h => h
  | cons p l ih => exact fun h => ih (Tab.wf_set _ _ _ h)

theorem makeCommit_net {n : Net} {d : Dev} {c : Change} (h : n.canonical) : (makeCommit n d c).net.canonical :=
  ⟨Tab.wf_foldl_set _ _ _ _ h.1, Tab.wf_foldl_set _ _ _ _ h.2.1, Tab.wf_foldl_set _ _ _ _ h.2.2⟩

theorem makeCommit_dev {d₀ : Dev} {n : Net} {d : Dev} {c : Change} (h : d₀.keeps d) :
    (d₀.atEsn (d₀.cmt.esn + 1)).keeps (makeCommit n d c).dev := by
  unfold makeCommit
  extract_lets esn n1 was now d0 _ d1 tgts cons _ d2 d3 d4 swCells moved esnSw newly relight d5 steps d6 ins outs newOuts d7 d8 voas freedIn freedOut freed
    before lit bridged chg
  have hr : ∀ d ca, (d₀.atEsn (d₀.cmt.esn + 1)).keeps d → (d₀.atEsn (d₀.cmt.esn + 1)).keeps (relight d ca) := fun _ _ h => h.modCell
  have h1 : (d₀.atEsn (d₀.cmt.esn + 1)).keeps d1 := h.esn ▸ (h.atEsn (d.cmt.esn + 1)).cmt
  have h2 : (d₀.atEsn (d₀.cmt.esn + 1)).keeps d2 :=
    h1.fab (fun ⟨c, l, e, t, n, g⟩ => ⟨c, l, e, t, Tab.wf_foldl_set _ _ _ _ n, Tab.wf_foldl_set _ _ _ _ g⟩)
  have h3 : (d₀.atEsn (d₀.cmt.esn + 1)).keeps d3 := .ite (.foldl (fun _ _ h => h.modCell) h2) h2
  have h4 : (d₀.atEsn (d₀.cmt.esn + 1)).keeps d4 := .foldl (fun _ _ h => h.reconstrain) h3
  have h5 : (d₀.atEsn (d₀.cmt.esn + 1)).keeps d5 := .foldl (fun _ _ h => hr _ _ (hr _ _ h)) h4
  have h6 : (d₀.atEsn (d₀.cmt.esn + 1)).keeps d6 := .ite h5 (.foldl (fun _ _ h => h.stepSwitch.stepSwitch) h5)
  have h7 : (d₀.atEsn (d₀.cmt.esn + 1)).keeps d7 := .foldl (fun _ _ h => h.setBal) h6
  have h8 : (d₀.atEsn (d₀.cmt.esn + 1)).keeps d8 := .foldl (fun _ _ h => .foldl hr h) h7
  have h9 := Dev.keeps.foldl1 (a := (d8, ([] : List Nat))) (l := voas)
    (f := fun (d, l) ca => let (d, s) := d.voaAt n1 c ca; (d, if s then ca :: l else l)) (fun _ _ h => h.voaAt) h8
  exact .foldl (fun _ _ h => h.setRef) (Dev.keeps.attFinish (.supersede (.foldl (fun _ _ h => h.freeMet.freeMet) h9)))

/-! ## Commits of slots and of the device -/

/-- Where a pass over slots stands: some commits have been made, or none and the map is as it was. -/
def Dev.committed (n₀ : Net) (d₀ : Dev) (r : Net × Dev) : Prop :=
  ∃ x, d₀.cmt.esn ≤ x ∧ (d₀.atEsn x).keeps r.2 ∧ (n₀.canonical → r.1.canonical) ∧ (r.1 = n₀ ∨ d₀.cmt.esn < x)

theorem Dev.committed.refl (n : Net) (d : Dev) : Dev.committed n d (n, d) := ⟨d.cmt.esn, le_rfl, .refl _, id, .inl rfl⟩

/-- A part that does not commit. -/
theorem Dev.committed.part {n₀ : Net} {d₀ : Dev} {r : Net × Dev} (h : Dev.committed n₀ d₀ r) {d : Dev} (hd : r.2.keeps d) :
    Dev.committed n₀ d₀ (r.1, d) := by
  obtain ⟨x, hx, hk, hn, hc⟩ := h
  exact ⟨x, hx, hk.trans hd, hn, hc⟩

/-- One commit more. -/
theorem Dev.committed.commit {n₀ : Net} {d₀ : Dev} {r : Net × Dev} (h : Dev.committed n₀ d₀ r) {c : Change} {d e : Dev} (hd : r.2.keeps d)
    (he : (makeCommit r.1 d c).dev.keeps e) : Dev.committed n₀ d₀ ((makeCommit r.1 d c).net, e) := by
  obtain ⟨x, hx, hk, hn, -⟩ := h
  have hm := makeCommit_dev (n := r.1) (c := c) (hk.trans hd)
  exact ⟨x + 1, Nat.le_succ_of_le hx, hm.trans he, fun h => makeCommit_net (hn h), .inr (Nat.lt_succ_of_le hx)⟩

theorem commitSlot_commits {n₀ : Net} {d₀ : Dev} {k : Nat} {r : Net × Dev} (h : Dev.committed n₀ d₀ r) :
    Dev.committed n₀ d₀ (commitSlot k r) := by
  obtain ⟨n, d⟩ := r
  dsimp -zeta only [commitSlot]
  extract_lets x c undo _ m _ _ d1 ho d2 d3 d4 d5 d6 d7
  refine h.commit (c := c) (d := { d with drv := { d.drv with bank := x.bank, shapeSel := x.shapeSel } }) (Dev.keeps.refl d).drv ?_
  have h1 : m.dev.keeps d1 := (Dev.keeps.refl _).drv
  have h2 : m.dev.keeps d2 := h1.count.count
  have h3 : m.dev.keeps d3 := .ite h2.count h2
  have h4 : m.dev.keeps d4 := .ite h3.count.once h3
  exact h4.modQueue.modSlot.startVerify.planeMoved.advance

theorem slotMidnight_commits {n₀ : Net} {d₀ : Dev} {held : List Nat} {k : Nat} {r : Net × Dev} (h : Dev.committed n₀ d₀ r) :
    Dev.committed n₀ d₀ (slotMidnight held r k) := by
  have hr := Dev.keeps.refl r.2
  unfold slotMidnight
  dsimp only
  split
  · exact h
  · split
    · exact h.part hr.count.complete
    · split
      · exact h
      · split
        · exact h.part (.ite hr hr.modSlot.count)
        · split
          · exact h
          · exact commitSlot_commits h

/-- The outcome of a command that has made commits. -/
structure State.commits (s t : State) : Prop where
  pending : t.pending = s.pending
  net : s.net.canonical → t.net.canonical
  mem : s.memOk → t.memOk
  dev : ∃ x, s.d.cmt.esn < x ∧ (s.d.atEsn x).keeps t.d
  isl : s.isl.keeps t.isl
  pins : t.pinsFollow

/-- The strobe follows the commits of an instant. -/
theorem strobe_commits {s : State} {r : Net × Dev} {x : Nat} (hx : s.d.cmt.esn < x) (hn : s.net.canonical → r.1.canonical)
    (h : (s.d.atEsn x).keeps r.2) : s.commits (strobe s r) := by
  unfold strobe
  extract_lets d i
  have hd : (s.d.atEsn x).keeps d := h.midnightTriggers.count.pathFaults.singlesGone.snapMidnight
  clear_value d
  exact ⟨rfl, hn, id, ⟨x, hx, hd.notify⟩, (Isl.keeps.refl _).write, State.pinsFollow_notify { s with net := r.1, isl := i } d⟩

/-- The outcome is a state after commits, or one that keeps the map. -/
def State.mayCommitTo (s : State) (o : Host.Outcome State Fault Refusal) : Prop := ∃ t, o = .next t ∧ (s.keeps t ∨ s.commits t)

theorem State.leadsTo.mayCommitTo {s : State} {o : Host.Outcome State Fault Refusal} (h : s.leadsTo o) : s.mayCommitTo o := by
  obtain ⟨t, ht, hk⟩ := h
  exact ⟨t, ht, .inl hk⟩

/-- A commit that has been made in a state. -/
def Made.of (s : State) (m : Made) : Prop :=
  (s.net.canonical → m.net.canonical) ∧ (s.d.atEsn (s.d.cmt.esn + 1)).keeps m.dev

theorem makeCommit_of {s : State} {d : Dev} {c : Change} (h : s.d.keeps d) : (makeCommit s.net d c).of s := ⟨makeCommit_net, makeCommit_dev h⟩

/-- One commit, and what follows it. -/
theorem Made.of.strobe {s : State} {m : Made} {d : Dev} (h : m.of s) (hd : m.dev.keeps d) : s.mayCommitTo (.next (strobe s (m.net, d))) :=
  ⟨_, rfl, .inr (strobe_commits (Nat.lt_succ_self _) h.1 (h.2.trans hd))⟩

theorem execMidnight_commits {s : State} : s.mayCommitTo (execMidnight s) := by
  unfold execMidnight
  extract_lets ks r
  have hr : Dev.committed s.net s.d r := by
    have pass : ∀ (l held : List Nat) (r : Net × Dev), Dev.committed s.net s.d r → Dev.committed s.net s.d (l.foldl (slotMidnight held) r) := by
      intro l held
      induction l with
      | nil => exact fun _ h => h
      | cons k l ih => exact fun _ h => ih _ (slotMidnight_commits h)
    exact pass _ _ _ (.refl _ _)
  clear_value r
  obtain ⟨x, hx, hk, hn, hc⟩ := hr
  split
  · exact State.leadsTo.ignored.mayCommitTo
  · split
    · next he =>
      have hx' : x = s.d.cmt.esn := hk.esn.symm.trans he
      subst hx'
      exact (State.leadsTo.finish fun _ => hk).mayCommitTo
    · next he =>
      have hlt : s.d.cmt.esn < x := lt_of_le_of_ne hx fun e => he (hk.esn.trans e.symm)
      exact ⟨_, rfl, .inr (strobe_commits hlt hn hk)⟩

theorem execRollbackCommit_commits {s : State} {slot : Nat} : s.mayCommitTo (execRollbackCommit slot s) := by
  unfold execRollbackCommit
  extract_lets x d1 cons m d2 d3 lit d4 d5
  have h1 : s.d.keeps d1 := (Dev.keeps.refl _).closeLanes
  have hm : m.of s := makeCommit_of h1
  clear_value m
  have h2 : m.dev.keeps d2 := (Dev.keeps.refl _).count.count
  have h3 : m.dev.keeps d3 := h2.modSlot
  have h4 : m.dev.keeps d4 := .ite h3.modSlot h3.reserveLanes.startVerify
  have h5 : m.dev.keeps d5 := h4.planeMoved
  split
  · exact State.leadsTo.ignored.mayCommitTo
  · exact hm.strobe h5.advance

theorem execDevicePlaneCommit_commits {s : State} {inp : Nat} : s.mayCommitTo (execDevicePlaneCommit inp s) := by
  unfold execDevicePlaneCommit
  split
  · next j c _ _ =>
    extract_lets ca m d1 _ d2 d3
    have hm : m.of s := makeCommit_of (.refl _)
    clear_value m
    have h1 : m.dev.keeps d1 := (Dev.keeps.refl _).count.unwait
    clear_value d1
    have h2 : m.dev.keeps d2 := h1.cmt
    have h3 : m.dev.keeps d3 := h2.condOn
    split
    · exact State.leadsTo.ignored.mayCommitTo
    · exact hm.strobe h3.planeEvent
  · exact (State.leadsTo.finish fun h => h.cmt).mayCommitTo
  · exact State.leadsTo.ignored.mayCommitTo

theorem execPlaneRestoreCommit_commits {s : State} {inp : Nat} : s.mayCommitTo (execPlaneRestoreCommit inp s) := by
  unfold execPlaneRestoreCommit
  split
  · next j c _ _ =>
    extract_lets ca m d1 steps outs
    have hm : m.of s := makeCommit_of (.refl _)
    clear_value m
    have h1 : m.dev.keeps d1 := (Dev.keeps.refl _).count
    have h2 : m.dev.keeps (d1.pickLanes m.net.conns [] 0 (outs.map (fun o => (inp, o)))).1 := h1.pickLanes
    generalize d1.pickLanes m.net.conns [] 0 (outs.map (fun o => (inp, o))) = p at h2
    obtain ⟨d2, lanes⟩ := p
    dsimp -zeta only at h2 ⊢
    extract_lets d3 slow d4 _ d5
    have h3 : m.dev.keeps d3 := .foldl (fun _ _ h => h.modFl) h2
    have h4 : m.dev.keeps d4 := Dev.keeps.countN (.foldl (fun _ _ h => h.slowCheck.slowCheck) h3)
    clear_value d4
    have h5 : m.dev.keeps d5 := h4.cmt
    split
    · exact State.leadsTo.ignored.mayCommitTo
    · exact hm.strobe h5.restoreCheck
  · exact (State.leadsTo.finish fun h => h.cmt).mayCommitTo
  · exact State.leadsTo.ignored.mayCommitTo

theorem execReleaseCommit_commits {s : State} {slot : Nat} : s.mayCommitTo (execReleaseCommit slot s) := by
  unfold execReleaseCommit
  extract_lets x due cs sw conns m d1 d2 freed d3 d4
  have hm : m.of s := makeCommit_of (.refl _)
  clear_value m
  have h1 : m.dev.keeps d1 := .foldl (fun _ _ h => .foldl (fun _ _ h => h.modCell) h) (.refl _)
  have h2 : m.dev.keeps d2 := .foldl (fun _ _ h => h.ffStep.ffStep) h1
  have h3 : m.dev.keeps d3 := .foldl (fun _ _ h => h.modCell) h2
  have h4 : m.dev.keeps d4 := h3.modSlot
  split
  · exact State.leadsTo.ignored.mayCommitTo
  · exact hm.strobe h4.count.advance

end Sys2Proof.Machine

/-! SUPPORT. What the setting of a clock keeps: TB0 by a step (R345, R348), and what it leaves. -/
namespace Sys2Proof.Machine
set_option Elab.async false

/-- Kept but for the state of TB0: TB2 runs on, whatever a step has made of the rest (R341). -/
def Dev.retimed (d e : Dev) : Prop := ∃ x : Tim, x.tb2 = d.tim.tb2 ∧ ({ d with tim := x }).keeps e

theorem Dev.keeps.retimed {d e : Dev} (h : d.keeps e) : d.retimed e := ⟨d.tim, rfl, h⟩

theorem Dev.retimed.then {d e g : Dev} (h : d.retimed e) (h' : e.keeps g) : d.retimed g := by
  obtain ⟨x, hx, hk⟩ := h
  exact ⟨x, hx, hk.trans h'⟩

theorem Dev.keeps.thenRetimed {d e g : Dev} (h : d.keeps e) (h' : e.retimed g) : d.retimed g := by
  obtain ⟨x, hx, hk⟩ := h'
  refine ⟨x, hx.trans h.tim.2, Dev.keeps.trans ?_ hk⟩
  exact ⟨h.canonical, ⟨rfl, rfl⟩, h.sec, h.esn⟩

/-- Writes of TIM that leave TB2. -/
theorem Dev.setTim_retimed {d : Dev} {f : Tim → Tim} (h : (f d.tim).tb2 = d.tim.tb2) : d.retimed (d.setTim f) := by
  refine ⟨(d.setTim f).tim, ?_, .refl _⟩
  unfold Dev.setTim
  dsimp only
  split <;> exact h

theorem Dev.stepTo0_retimed (d : Dev) (new frac : Nat) : d.retimed (d.stepTo0 new frac) := by
  unfold Dev.stepTo0
  extract_lets old v items d1 d2 d3
  have h1 : d.keeps d1 := (Dev.keeps.refl d).discardScheduled
  have h2 : d.retimed d2 := h1.thenRetimed (Dev.setTim_retimed rfl)
  have h3 : d.retimed d3 := h2.then (Dev.keeps.refl d2).rebase.count.timeEvt
  exact h3.then (.ite (.refl d3) (Dev.keeps.refl d3).once.setLeaf.timeEvt)

/-- What a command sends, counts and reports leaves TIM. -/
theorem Dev.timeEvt_tim (d : Dev) (kind : Nat) (v : Int) (items : Nat) : (d.timeEvt kind v items).tim = d.tim :=
  ((Dev.setLeaf_same _ _ _ _) .tim (by simp)).trans ((Dev.evt_same _ _ _ _ _ _ _) .tim (by simp [faultParts]))

/-- A step uses up the epoch's (R345). -/
theorem Dev.stepTo0_stepUsed (d : Dev) (new frac : Nat) : (d.stepTo0 new frac).tim.stepUsed = true := by
  unfold Dev.stepTo0
  extract_lets old v items d1 d2 d3
  have h2 : d2.tim.stepUsed = true := by
    simp only [d2, Dev.setTim]
    split <;> rfl
  have h3 : d3.tim = d2.tim := Dev.timeEvt_tim _ _ _ _
  split
  · rw [h3, h2]
  · rw [Dev.timeEvt_tim, (Dev.setLeaf_same _ _ _ _) .tim (by simp), (Dev.once_same _ _ _) .tim (by simp [faultParts]), h3, h2]

/-- TB0 is kept, or stepped as its epoch allows. -/
def Dev.steps (d e : Dev) : Prop := d.keeps e ∨ d.retimed e ∧ e.tim.stepUsed = true

theorem Dev.steps.retimed {d e : Dev} (h : d.steps e) : d.retimed e := h.elim Dev.keeps.retimed And.left

theorem Dev.steps.ite {d : Dev} {c : Prop} {dec : Decidable c} {x y : Dev} (hx : d.steps x) (hy : d.steps y) : d.steps (if c then x else y) := by
  split <;> assumption

theorem Dev.keeps.steps {d e : Dev} (h : d.keeps e) : d.steps e := .inl h

theorem Dev.keeps.thenStep {d e : Dev} (h : d.keeps e) (new frac : Nat) : d.steps (e.stepTo0 new frac) :=
  .inr ⟨h.thenRetimed (e.stepTo0_retimed new frac), e.stepTo0_stepUsed new frac⟩

theorem Dev.keeps.stepMeas {d e : Dev} {off : Int} (h : d.keeps e) : d.steps (e.stepMeas off) := by
  unfold Dev.stepMeas
  extract_lets d1 d2 d3
  have h1 : d.keeps d1 := .ite h.setLeaf h
  have h2 : d.keeps d2 := h1.count.found.setTim
  have h3 : d.keeps d3 := h2.setTim
  exact .ite (Dev.keeps.steps (.ite h2 (Dev.keeps.timeEvt h2.setTim))) (h3.thenStep _ _)

theorem Dev.keeps.measureTime {d e : Dev} {off : Int} (h : d.keeps e) : d.steps (e.measureTime off) := by
  have h1 : d.keeps (e.setTim (fun t => { t with offset := clampI off (-2147483648) 2147483647 })) := h.setTim
  exact .ite h1.stepMeas (.ite h1.rejectMeas.steps h1.acceptMeas.steps)

theorem Dev.keeps.todFrame {d e : Dev} {bs : List Byte} {gap : Nat} (h : d.keeps e) : d.steps (e.todFrame bs gap) := by
  unfold Dev.todFrame
  extract_lets good seq next valid d1 d2
  have h1 : d.keeps d1 := .ite h.setTim h
  have h2 : d.keeps d2 := .ite h1.setTim h1
  have h3 : d.keeps (d2.setTim (fun t => { t with todDisc := (t.todDisc + 1) % 4096 })) := h2.setTim
  split
  · have h4 : ∀ f : Tim → Tim, Tim.keeps (d2.count 3037).tim (f (d2.count 3037).tim) → d.keeps ((d2.count 3037).setTim f) :=
      fun f hf => h2.count.setTim hf
    split
    · exact .ite (h4 _ ⟨rfl, rfl⟩).measureTime (h4 _ ⟨rfl, rfl⟩).steps
    · exact h3.steps
  · exact h3.steps

theorem Dev.keeps.timStepWrite {d e : Dev} {v : Nat} (h : d.keeps e) : d.steps (e.timStepWrite v) := by
  unfold Dev.timStepWrite
  extract_lets d1
  have h1 : d.keeps d1 := .ite h.setTim h
  exact .ite h1.steps (.ite (Dev.keeps.steps h1.setTim) (.ite (Dev.keeps.steps h1.setTim) (.ite (Dev.keeps.steps h1.setTim) (h1.thenStep _ _))))

/-! ## Register writes -/

theorem Dev.retimed.ite {d : Dev} {c : Prop} {dec : Decidable c} {x y : Dev} (hx : d.retimed x) (hy : d.retimed y) :
    d.retimed (if c then x else y) := by
  split <;> assumption

theorem Dev.timWrite_retimed {d : Dev} {off v : Nat} : d.retimed (d.timWrite off v) := by
  have h := Dev.keeps.refl d
  refine .ite h.timCtlWrite.retimed (.ite h.epochReset.retimed (.ite h.timStepWrite.retimed (Dev.setTim_retimed ?_)))
  repeat' split
  all_goals rfl

theorem devWrite_retimed {n : Net} {m : Mem} {d : Dev} {f off v : Nat} : d.retimed (devWrite n m d f off v) := by
  have h := Dev.keeps.refl d
  exact .ite h.glbWrite.retimed <| .ite h.hifWrite.retimed <| .ite h.modQueue.retimed <| .ite h.rteWrite.retimed <| .ite h.cmtWrite.retimed <|
    .ite h.drvWrite.retimed <| .ite h.seqWrite.retimed <| .ite h.monWrite.retimed <| .ite h.flWrite1.retimed <| .ite h.calWrite.retimed <|
    .ite Dev.timWrite_retimed <| .ite h.fltWrite.retimed <| .ite h.atnWrite.retimed <| .ite h.pmcWrite.retimed <| .ite h.bmxWrite.retimed <|
    .ite h.pwrWrite.retimed <| .ite h.thmWrite.retimed <| .ite h.miWrite.retimed <| .ite h.secWrite.retimed <| .ite h.leWrite.retimed h.retimed

end Sys2Proof.Machine

/-! SUPPORT. Writes of registers and tables, and the start of a Dawn. -/
namespace Sys2Proof.Machine
set_option Elab.async false

/-- What writes of registers leave of the state before, a Dawn that one of them starts included (R408, R443). -/
structure State.writes (s t : State) : Prop where
  pending : t.pending = s.pending
  net : t.net = s.net ∨ t.net = {}
  mem : s.memOk → t.memOk
  canonical : s.d.canonical → t.d.canonical
  tb2 : t.d.tb2 = s.d.tb2 ∨ t.d.tb2 = 0
  sec : Sec.keeps s.d.sec t.d.sec
  isl : t.isl = s.isl

theorem State.writes.refl (s : State) : s.writes s := ⟨rfl, .inl rfl, id, id, .inl rfl, .same rfl rfl, rfl⟩

theorem State.writes.trans {s t u : State} (h : s.writes t) (h' : t.writes u) : s.writes u := by
  refine ⟨h'.pending.trans h.pending, ?_, fun m => h'.mem (h.mem m), fun c => h'.canonical (h.canonical c), ?_, h.sec.trans h'.sec, h'.isl.trans h.isl⟩
  · exact h'.net.elim (fun e => h.net.imp e.trans e.trans) .inr
  · exact h'.tb2.elim (fun e => h.tb2.imp e.trans e.trans) .inr

theorem State.writes.ite {s : State} {c : Prop} {dec : Decidable c} {x y : State} (hx : s.writes x) (hy : s.writes y) :
    s.writes (if c then x else y) := by
  split <;> assumption

/-- A write of the control side and the addressed buffers. -/
theorem Dev.retimed.writes {s : State} {d : Dev} {m : Mem} (h : s.d.retimed d) (hm : s.memOk → State.memOk { s with mem := m } := by exact id) :
    s.writes { s with d := d, mem := m } := by
  obtain ⟨x, hx, hk⟩ := h
  exact ⟨rfl, .inl rfl, hm, hk.canonical, .inl (hk.tim.2.trans hx), hk.sec, rfl⟩

theorem Dev.keeps.writes {s : State} {d : Dev} (h : s.d.keeps d) : s.writes { s with d := d } := h.retimed.writes

/-- A Dawn starts from reset values: its tables are empty, TB2 stands at 0, and what the OTP holds stays (R384, R387, R408). -/
theorem newDawn_writes {s : State} {power refsel : Bool} {strap : BitVec 4} :
    s.writes (newDawn s power refsel strap) ∧ (newDawn s power refsel strap).net = {} ∧ (newDawn s power refsel strap).d.tb2 = 0 ∧
      (newDawn s power refsel strap).pinsFollow := by
  unfold newDawn
  extract_lets o d1 d2 d3
  have h2 : d1.keeps d2 := .ite (Dev.keeps.refl d1).condOn (.refl d1)
  have h3 : d1.keeps d3.notify := Dev.keeps.notify (.ite h2.condOn h2)
  have hc : d1.canonical := by
    refine ⟨?_, ?_, ?_, ?_, ?_, ?_, ?_, ?_, ?_, ?_, ?_, ?_, ?_, ?_, ?_, ?_, ?_⟩ <;> rfl
  have ht : d3.notify.tb2 = 0 := h3.tim.2
  refine ⟨⟨rfl, .inr rfl, fun h => ?_, fun _ => h3.canonical hc, .inr ht, h3.sec, rfl⟩, rfl, ht, State.pinsFollow_notify { s with net := {}, mem := if power then {} else s.mem } d3⟩
  change Mem.canonical (if power then {} else s.mem)
  split
  · exact ⟨rfl, rfl⟩
  · exact h

theorem regWrite_writes {s : State} {f off v : Nat} : s.writes (regWrite f off v s) := by
  have hm : ∀ (c : Bool) k, s.mem.canonical → Mem.canonical (if c then s.mem.clearLane k else s.mem) := by
    intro c k h
    split
    · exact Mem.clearLane_canonical h
    · exact h
  refine .ite ?_ (.ite newDawn_writes.1 devWrite_retimed.writes)
  exact Dev.retimed.writes (Dev.keeps.refl s.d).flCtlWrite.retimed (hm _ _)

theorem Dev.keeps.doorbellAt {d₀ d e : Dev} {f off nbytes : Nat} {v : Word} (h : d₀.keeps d) (he : d.doorbellAt f off nbytes v = some e) :
    d₀.keeps e := by
  unfold Dev.doorbellAt at he
  split at he
  · exact Option.some.inj he ▸ h.dbAqSqTail
  · split at he
    · exact Option.some.inj he ▸ h.dbAqCqHead
    · split at he
      · exact Option.some.inj he ▸ h.dbEvtHead
      · split at he
        · split at he
          · exact Option.some.inj he ▸ h.dbTelHead
          · exact absurd he (by simp)
        · split at he
          · exact Option.some.inj he ▸ h.dbIrqRearm
          · split at he
            · exact Option.some.inj he ▸ .ite h.dbSqTail h.dbCqHead
            · split at he
              · exact Option.some.inj he ▸ h.dbQctl
              · exact absurd he (by simp)

theorem wordWrite_writes {s : State} {f off v nbytes : Nat} : s.writes (wordWrite f off v nbytes s) := by
  have h := Dev.keeps.refl s.d
  unfold wordWrite
  refine .ite (.ite (.refl s) ?_) (.ite (.refl s) (.ite (.ite h.decodeError.writes (.refl s)) (.ite h.decodeError.writes regWrite_writes)))
  split
  · next d hd => exact Dev.keeps.writes (h.doorbellAt hd)
  · exact .ite h.decodeError.writes (.refl s)

theorem bar0Write_writes {s : State} {f off : Nat} {bs : List Byte} : s.writes (bar0Write f off bs s) := by
  have pass : ∀ (g : State → Nat → State), (∀ (t : State) k, t.writes (g t k)) → ∀ (l : List Nat) (t : State), s.writes t → s.writes (l.foldl g t) := by
    intro g hg l
    induction l with
    | nil => exact fun _ h => h
    | cons k l ih => exact fun t h => ih _ (h.trans (hg t k))
  exact pass _ (fun _ _ => wordWrite_writes) _ s (.refl s)

theorem bar2Write_writes {s : State} {f off : Nat} {bs : List Byte} : s.writes (bar2Write f off bs s) := by
  have h := Dev.keeps.refl s.d
  have pattern : ∀ a, s.writes { s with mem := (patternPut false s.mem s.d a bs).1, d := (patternPut false s.mem s.d a bs).2 } :=
    fun _ => Dev.retimed.writes h.patternPut.retimed patternPut_canonical
  exact .ite (.refl s) (.ite (pattern _) (.ite h.tableWrite.writes (.refl s)))

end Sys2Proof.Machine

/-! SUPPORT. What each command and each clock edge keeps, all commands together. -/
namespace Sys2Proof.Machine
set_option Elab.async false

/-! ## The commands that move the map or a clock -/

/-- What every command keeps, and how far each may move the map and the clocks. -/
structure State.ends (c : Instr) (s t : State) : Prop where
  pending : t.pending = s.pending
  canonical : s.canonical → t.canonical
  pins : s.pinsFollow → t.pinsFollow
  sec : Sec.keeps s.d.sec t.d.sec
  fuses : s.isl.sealF ≤ t.isl.sealF ∧ s.isl.unsealF ≤ t.isl.unsealF
  records : s.isl.next ≤ t.isl.next ∧ s.isl.ackNext ≤ t.isl.ackNext
  net : t.net = s.net ∨ Obl.mayCommit c ∧ s.d.cmt.esn < t.d.cmt.esn ∨ Obl.mayDawn c ∧ t.net = {}
  tb2 : t.d.tb2 = s.d.tb2 ∨ Obl.mayDawn c ∧ t.d.tb2 = 0
  tb0 : t.d.tb0 = s.d.tb0 ∨ Obl.mayDawn c ∨ Obl.maySetTime c ∧ t.d.tim.stepUsed = true ∧ t.d.tb2 = s.d.tb2
  tb1 : t.isl.tb1 = s.isl.tb1 ∨ c = .islandStart ∨ ∃ ns, c = .timeSet ns

theorem State.keeps.ends {s t : State} (h : s.keeps t) (c : Instr) : s.ends c t where
  pending := h.pending
  canonical := fun ⟨m, d, i, n⟩ => ⟨h.mem m, h.dev.canonical d, h.isl.canonical i, h.net ▸ n⟩
  pins := h.pins
  sec := h.dev.sec
  fuses := ⟨h.isl.sealF, h.isl.unsealF⟩
  records := ⟨h.isl.next, h.isl.ackNext⟩
  net := .inl h.net
  tb2 := .inl h.dev.tim.2
  tb0 := .inl h.dev.tim.1
  tb1 := .inl h.isl.tb1

theorem State.commits.ends {s t : State} (h : s.commits t) {c : Instr} (hc : Obl.mayCommit c) : s.ends c t := by
  obtain ⟨x, hx, hk⟩ := h.dev
  exact {
    pending := h.pending
    canonical := fun ⟨m, d, i, n⟩ => ⟨h.mem m, hk.canonical d, h.isl.canonical i, h.net n⟩
    pins := fun _ => h.pins
    sec := hk.sec
    fuses := ⟨h.isl.sealF, h.isl.unsealF⟩
    records := ⟨h.isl.next, h.isl.ackNext⟩
    net := .inr (.inl ⟨hc, hx.trans_eq hk.esn.symm⟩)
    tb2 := .inl hk.tim.2
    tb0 := .inl hk.tim.1
    tb1 := .inl h.isl.tb1 }

theorem State.writes.ends {s t : State} (h : s.writes t) (hp : t.pinsFollow) {c : Instr} (hc : Obl.mayDawn c) : s.ends c t where
  pending := h.pending
  canonical := fun ⟨m, d, i, n⟩ => ⟨h.mem m, h.canonical d, h.isl ▸ i, h.net.elim (fun e => e ▸ n) (fun e => e ▸ ⟨rfl, rfl, rfl⟩)⟩
  pins := fun _ => hp
  sec := h.sec
  fuses := h.isl ▸ ⟨le_rfl, le_rfl⟩
  records := h.isl ▸ ⟨le_rfl, le_rfl⟩
  net := h.net.imp id fun e => .inr ⟨hc, e⟩
  tb2 := h.tb2.imp id fun e => ⟨hc, e⟩
  tb0 := .inr (.inl hc)
  tb1 := .inl (by rw [h.isl])

/-- A step of TB0 ends notified. -/
theorem Dev.steps.ends {s : State} {d : Dev} (h : s.d.steps d) {c : Instr} (hc : Obl.maySetTime c) : s.ends c { s with d := d.notify } := by
  obtain h | ⟨⟨x, hx, hk⟩, hu⟩ := h
  · exact State.keeps.ends (.notified h) c
  · have hk' := hk.notify
    have ht : d.notify.tim = d.tim := (d.notify_same .tim (by simp))
    exact {
      pending := rfl
      canonical := fun ⟨m, d, i, n⟩ => ⟨m, hk'.canonical d, i, n⟩
      pins := fun _ => State.pinsFollow_notify s d
      sec := hk'.sec
      fuses := ⟨le_rfl, le_rfl⟩
      records := ⟨le_rfl, le_rfl⟩
      net := .inl rfl
      tb2 := .inl (hk'.tim.2.trans hx)
      tb0 := .inr (.inr ⟨hc, (congrArg Tim.stepUsed ht).trans hu, hk'.tim.2.trans hx⟩)
      tb1 := .inl rfl }

/-- The island with TB1 at another instant. -/
def Isl.atTb1 (i : Isl) (x : Nat) : Isl := { i with tb1 := x }

/-- A command of the island's ends notified, with TB1 set or started again. -/
theorem finishIsl_ends {s : State} {d : Dev} {i : Isl} {x : Nat} (hd : s.d.keeps d) (hi : (s.isl.atTb1 x).keeps i) {c : Instr}
    (hc : c = .islandStart ∨ ∃ ns, c = .timeSet ns) : ∃ t, finishIsl s d i = .next t ∧ s.ends c t := by
  have h := State.leadsTo.finishIsl (s := { s with isl := s.isl.atTb1 x }) (fun _ => hd) hi
  obtain ⟨t, ht, hk⟩ := h
  exact ⟨t, ht, { hk.ends c with tb1 := .inr hc }⟩

theorem execTimeSet_ends (ns : DWord) (s : State) : ∃ t, execTimeSet ns s = .next t ∧ s.ends (.timeSet ns) t := by
  unfold execTimeSet onIsl
  split
  · have h1 : (s.isl.atTb1 ns.toNat).keeps { s.isl with tb1 := ns.toNat, epoch := (s.isl.epoch + 1) % 65536, uncStart := false, splitAt := ns.toNat } :=
      ⟨id, rfl, le_rfl, le_rfl, le_rfl, le_rfl⟩
    exact finishIsl_ends (.refl _) h1.put.result.event (.inr ⟨ns, rfl⟩)
  · exact ⟨s, rfl, (State.keeps.refl s).ends _⟩

theorem execIslandStart_ends (s : State) : ∃ t, execIslandStart s = .next t ∧ s.ends .islandStart t := by
  unfold execIslandStart
  extract_lets o i0 outs un i1 i2 i3
  split
  · exact ⟨s, rfl, (State.keeps.refl s).ends _⟩
  · have h0 : (s.isl.atTb1 s.isl.ckpt).keeps i0 := ⟨fun ⟨_, _, _, v, u⟩ => ⟨rfl, v, u, v, u⟩, rfl, le_rfl, le_rfl, le_rfl, le_rfl⟩
    have h1 : (s.isl.atTb1 s.isl.ckpt).keeps i1 := h0.put
    have h2 : (s.isl.atTb1 s.isl.ckpt).keeps i2 := .foldl (fun _ _ h => h.closeIv) h1
    have h3 : (s.isl.atTb1 s.isl.ckpt).keeps i3 := .foldl (fun _ _ h => h.closeUncl) h2
    clear_value i3
    have h4 : (s.isl.atTb1 s.isl.ckpt).keeps { i3 with uncl := [], ckptIvs := [], ckptUncl := [], ckptGap := i3.gap } :=
      h3.write (fun ⟨m, v, _, _, _⟩ => ⟨m, v, rfl, rfl, rfl⟩)
    exact finishIsl_ends (Dev.keeps.refl _).condOff h4.event (.inl rfl)

/-! ## Dawns and register writes -/

theorem newDawn_ends {s : State} {power refsel : Bool} {strap : BitVec 4} {c : Instr} (hc : Obl.mayDawn c) :
    s.ends c (newDawn s power refsel strap) :=
  newDawn_writes.1.ends newDawn_writes.2.2.2 hc

theorem execVin48Good_ends (refsel : Bool) (strap : BitVec 4) (s : State) :
    ∃ t, execVin48Good refsel strap s = .next t ∧ s.ends (.vin48Good refsel strap) t := by
  unfold execVin48Good
  split
  · exact ⟨_, rfl, newDawn_ends trivial⟩
  · exact ⟨s, rfl, (State.keeps.refl s).ends _⟩

theorem State.leadsTo.ends {s : State} {o : Host.Outcome State Fault Refusal} (h : s.leadsTo o) (c : Instr) : ∃ t, o = .next t ∧ s.ends c t := by
  obtain ⟨t, ht, hk⟩ := h
  exact ⟨t, ht, hk.ends c⟩

theorem execDawnReq_ends (fn : Nat) (value : Word) (s : State) : ∃ t, execDawnReq fn value s = .next t ∧ s.ends (.dawnReq fn value) t := by
  unfold execDawnReq
  split
  · exact ⟨_, rfl, newDawn_ends trivial⟩
  · exact State.leadsTo.ends (.pf0Wr fun _ h => h.duskWrite) _

theorem execRegisterWrite_ends (fn bar off : Nat) (data : List Byte) (s : State) :
    ∃ t, execRegisterWrite fn bar off data s = .next t ∧ s.ends (.registerWrite fn bar off data) t := by
  have notified : ∀ t, s.writes t → s.ends (.registerWrite fn bar off data) { t with d := t.d.notify } := fun t h =>
    (h.trans (Dev.keeps.refl t.d).notify.writes).ends (State.pinsFollow_notify t t.d) trivial
  have h0 : s.writes { s with d := s.d.inbound true bar off data.length } := (Dev.keeps.refl s.d).inbound.writes
  unfold execRegisterWrite
  split
  · exact ⟨s, rfl, (State.keeps.refl s).ends _⟩
  · split
    · exact State.leadsTo.ends (.ite (.finish fun h => h.cfgWrite) .ignored) _
    · refine ⟨_, rfl, notified _ (h0.trans ?_)⟩
      exact .ite bar0Write_writes (.ite bar2Write_writes (.ite (Dev.keeps.refl _).bar4Write.writes (.refl _)))

/-! ## Steps of TB0 -/

theorem hostWr_ends {s : State} {f addr : Nat} {g : Dev → Dev} {c : Instr} (hc : Obl.maySetTime c) (h : ∀ d, s.d.keeps d → s.d.steps (g d)) :
    ∃ t, hostWr s f addr g = .next t ∧ s.ends c t := by
  unfold hostWr hostWrBar
  split
  · exact ⟨_, rfl, (h _ (Dev.keeps.refl _).inbound).ends hc⟩
  · exact ⟨s, rfl, (State.keeps.refl s).ends _⟩

theorem execTimStepForce_ends {fn : Nat} {value : Word} {s : State} {c : Instr} (hc : Obl.maySetTime c) :
    ∃ t, pf0Wr s fn 0x1A00C (fun d => d.timStepWrite value.toNat) = .next t ∧ s.ends c t :=
  hostWr_ends hc fun _ h => .ite h.timStepWrite h.steps

theorem execTodFrame_ends (bytes : List Byte) (gap : Nat) (s : State) :
    ∃ t, execTodFrame bytes gap s = .next t ∧ s.ends (.todFrame bytes gap) t := by
  unfold execTodFrame
  split
  · exact ⟨s, rfl, (State.keeps.refl s).ends _⟩
  · exact ⟨_, rfl, (Dev.keeps.refl s.d).todFrame.ends trivial⟩

theorem execPtmResponse_ends (ok : Bool) (master : Nat) (s : State) :
    ∃ t, execPtmResponse ok master s = .next t ∧ s.ends (.ptmResponse ok master) t := by
  unfold execPtmResponse
  extract_lets d d1
  have h1 : s.d.keeps d1 := (Dev.keeps.refl s.d).setTim
  split
  · exact ⟨s, rfl, (State.keeps.refl s).ends _⟩
  · split
    · exact State.leadsTo.ends (.finish fun _ => h1) _
    · split
      · exact State.leadsTo.ends (.finish fun _ => h1.setTim) _
      · exact ⟨_, rfl, h1.setTim.measureTime.ends trivial⟩

/-! ## Every command -/

theorem State.mayCommitTo.ends {s : State} {o : Host.Outcome State Fault Refusal} (h : s.mayCommitTo o) {c : Instr} (hc : Obl.mayCommit c) :
    ∃ t, o = .next t ∧ s.ends c t := by
  obtain ⟨t, ht, hk | hk⟩ := h
  · exact ⟨t, ht, hk.ends c⟩
  · exact ⟨t, ht, hk.ends hc⟩

/-- The outcome of a command, whichever it is. -/
theorem exec_ends {s : State} : ∀ c : Instr, ∃ t, exec c s = .next t ∧ s.ends c t
  | .sqTail .. => execSqTail_keeps.ends _
  | .cqHead .. => execCqHead_keeps.ends _
  | .aqSqTail .. => execAqSqTail_keeps.ends _
  | .aqCqHead .. => execAqCqHead_keeps.ends _
  | .evtHead .. => execEvtHead_keeps.ends _
  | .telHead .. => execTelHead_keeps.ends _
  | .irqRearm .. => execIrqRearm_keeps.ends _
  | .qctlEnable .. => execQctlEnable_keeps.ends _
  | .qctlDisable .. => execQctlDisable_keeps.ends _
  | .resume .. => execResume_keeps.ends _
  | .flush .. => execFlush_keeps.ends _
  | .commandFetch .. => execCommandFetch_keeps.ends _
  | .completionTimeout .. => execCompletionTimeout_keeps.ends _
  | .hostReadFailure .. => execHostReadFailure_keeps.ends _
  | .aggTime .. => execAggTime_keeps.ends _
  | .msixUnmask .. => execMsixUnmask_keeps.ends _
  | .telemetryRecord => execTelemetryRecord_keeps.ends _
  | .adminQueueEnable .. => execAdminQueueEnable_keeps.ends _
  | .adminQueueDisable .. => execAdminQueueDisable_keeps.ends _
  | .adminAbortEnd .. => execAdminAbortEnd_keeps.ends _
  | .eventRingEnable .. => execEventRingEnable_keeps.ends _
  | .eventRingDisable .. => execEventRingDisable_keeps.ends _
  | .telemetryEnable .. => execTelemetryEnable_keeps.ends _
  | .create .. => execCreate_keeps.ends _
  | .connectBatch .. => execConnectBatch_keeps.ends _
  | .attenSet .. => execAttenSet_keeps.ends _
  | .fence .. => execFence_keeps.ends _
  | .queryConn .. => execQueryConn_keeps.ends _
  | .calRun .. => execCalRun_keeps.ends _
  | .snapshot .. => execSnapshot_keeps.ends _
  | .cellDirect .. => execCellDirect_keeps.ends _
  | .loopMode .. => execLoopMode_keeps.ends _
  | .seqLoad .. => execSeqLoad_keeps.ends _
  | .nop .. => execNop_keeps.ends _
  | .queueCreate .. => execQueueCreate_keeps.ends _
  | .queueDelete .. => execQueueDelete_keeps.ends _
  | .abort .. => execAbort_keeps.ends _
  | .domainSet .. => execDomainSet_keeps.ends _
  | .fwActivate .. => execFwActivate_keeps.ends _
  | .islandRead .. => execIslandRead_keeps.ends _
  | .routeJobStart .. => execRouteJobStart_keeps.ends _
  | .routeJobComplete .. => execRouteJobComplete_keeps.ends _
  | .heldBatchRerun .. => execHeldBatchRerun_keeps.ends _
  | .stagingComplete .. => execStagingComplete_keeps.ends _
  | .laneReservation => execLaneReservation_keeps.ends _
  | .midnight => execMidnight_commits.ends trivial
  | .verificationWindowClose .. => execVerificationWindowClose_keeps.ends _
  | .rollbackCommit .. => execRollbackCommit_commits.ends trivial
  | .devicePlaneCommit .. => execDevicePlaneCommit_commits.ends trivial
  | .planeRestoreCommit .. => execPlaneRestoreCommit_commits.ends trivial
  | .rollRampStart .. => execRollRampStart_keeps.ends _
  | .releaseCommit .. => execReleaseCommit_commits.ends trivial
  | .settleWindowEnd .. => execSettleWindowEnd_keeps.ends _
  | .handoverEnd .. => execHandoverEnd_keeps.ends _
  | .demodulatorWindowFull .. => execDemodulatorWindowFull_keeps.ends _
  | .attenTargetApply => execAttenTargetApply_keeps.ends _
  | .loopModeApply => execLoopModeApply_keeps.ends _
  | .snapshotRecord => execSnapshotRecord_keeps.ends _
  | .abortCut => execAbortCut_keeps.ends _
  | .abortComplete .. => execAbortComplete_keeps.ends _
  | .flr .. => execFlr_keeps.ends _
  | .flrComplete .. => execFlrComplete_keeps.ends _
  | .perstN => execPerstN_keeps.ends _
  | .perstNRelease => execPerstNRelease_keeps.ends _
  | .linkDown => execLinkDown_keeps.ends _
  | .linkUp .. => execLinkUp_keeps.ends _
  | .vfRemoval .. => execVfRemoval_keeps.ends _
  | .vfEnable .. => execVfEnable_keeps.ends _
  | .vfTeardownComplete => execVfTeardownComplete_keeps.ends _
  | .supervisorRestart .. => execSupervisorRestart_keeps.ends _
  | .supervisorRestartEnd => execSupervisorRestartEnd_keeps.ends _
  | .tick .. => execTick_keeps.ends _
  | .fastPeriod => execFastPeriod_keeps.ends _
  | .leFailure .. => execLeFailure_keeps.ends _
  | .takeover .. => execTakeover_keeps.ends _
  | .takeoverComplete .. => execTakeoverComplete_keeps.ends _
  | .spareReq .. => execSpareReq_keeps.ends _
  | .returnReq .. => execReturnReq_keeps.ends _
  | .leRejoin .. => execLeRejoin_keeps.ends _
  | .lptWriteBack .. => execLptWriteBack_keeps.ends _
  | .lockDeclared .. => execLockDeclared_keeps.ends _
  | .lockLost .. => execLockLost_keeps.ends _
  | .regionChange .. => execRegionChange_keeps.ends _
  | .cellUnlit .. => execCellUnlit_keeps.ends _
  | .cellLit .. => execCellLit_keeps.ends _
  | .wrapTaken .. => execWrapTaken_keeps.ends _
  | .conversionResult .. => execConversionResult_keeps.ends _
  | .windowTransition .. => execWindowTransition_keeps.ends _
  | .go .. => execGo_keeps.ends _
  | .cancel .. => execCancel_keeps.ends _
  | .injectedResult .. => execInjectedResult_keeps.ends _
  | .claim .. => execClaim_keeps.ends _
  | .claimClear .. => execClaimClear_keeps.ends _
  | .arm .. => execArm_keeps.ends _
  | .captureComplete .. => execCaptureComplete_keeps.ends _
  | .metWrite .. => execMetWrite_keeps.ends _
  | .lptWrite .. => execLptWrite_keeps.ends _
  | .parameterLoad => execParameterLoad_keeps.ends _
  | .shapeLoad .. => execShapeLoad_keeps.ends _
  | .shapeLoadComplete => execShapeLoadComplete_keeps.ends _
  | .toneApply .. => execToneApply_keeps.ends _
  | .tonePlanChange => execTonePlanChange_keeps.ends _
  | .ditherAmplitudeChange .. => execDitherAmplitudeChange_keeps.ends _
  | .driveFault .. => execDriveFault_keeps.ends _
  | .run .. => execRun_keeps.ends _
  | .stop .. => execStop_keeps.ends _
  | .jump .. => execJump_keeps.ends _
  | .seqBind .. => execSeqBind_keeps.ends _
  | .unbind .. => execUnbind_keeps.ends _
  | .sampleBoundary => execSampleBoundary_keeps.ends _
  | .iterationBoundary => execIterationBoundary_keeps.ends _
  | .segmentReady => execSegmentReady_keeps.ends _
  | .refillEnable .. => execRefillEnable_keeps.ends _
  | .segmentFilled .. => execSegmentFilled_keeps.ends _
  | .patternWrite .. => execPatternWrite_keeps.ends _
  | .syncin => execSyncin_keeps.ends _
  | .syncPulseEnd .. => execSyncPulseEnd_keeps.ends _
  | .calTileStart .. => execCalTileStart_keeps.ends _
  | .calWindowEnd .. => execCalWindowEnd_keeps.ends _
  | .spareWaitTimeout .. => execSpareWaitTimeout_keeps.ends _
  | .store => execStore_keeps.ends _
  | .storeComplete .. => execStoreComplete_keeps.ends _
  | .calApply .. => execCalApply_keeps.ends _
  | .calReturn .. => execCalReturn_keeps.ends _
  | .storeRetry => execStoreRetry_keeps.ends _
  | .interpolation => execInterpolation_keeps.ends _
  | .force .. => execForce_keeps.ends _
  | .latchedClear .. => execLatchedClear_keeps.ends _
  | .outClear .. => execOutClear_keeps.ends _
  | .quietPeriodEnd .. => execQuietPeriodEnd_keeps.ends _
  | .fatalRecoveryTimeout => execFatalRecoveryTimeout_keeps.ends _
  | .blankNAssert .. => execBlankNAssert_keeps.ends _
  | .blankNDeassert => execBlankNDeassert_keeps.ends _
  | .swBlank .. => execSwBlank_keeps.ends _
  | .blankStage2 => execBlankStage2_keeps.ends _
  | .blankRelease => execBlankRelease_keeps.ends _
  | .errNPulseEnd => execErrNPulseEnd_keeps.ends _
  | .fltCtlLock .. => execFltCtlLock_keeps.ends _
  | .ppsIn => execPpsIn_keeps.ends _
  | .todFrame .. => execTodFrame_ends ..
  | .ptmExchange => execPtmExchange_keeps.ends _
  | .ptmResponse .. => execPtmResponse_ends ..
  | .sourceLost => execSourceLost_keeps.ends _
  | .srcChange .. => execSrcChange_keeps.ends _
  | .timEpochReset .. => execTimEpochReset_keeps.ends _
  | .step .. => execTimStepForce_ends trivial
  | .timStepForce .. => execTimStepForce_ends trivial
  | .ppsOut => execPpsOut_keeps.ends _
  | .todTx => execTodTx_keeps.ends _
  | .islandSample .. => execIslandSample_keeps.ends _
  | .snapshotLinkDelta .. => execSnapshotLinkDelta_keeps.ends _
  | .fullMap .. => execFullMap_keeps.ends _
  | .linkSilence => execLinkSilence_keeps.ends _
  | .split => execSplit_keeps.ends _
  | .unclaimedOpen .. => execUnclaimedOpen_keeps.ends _
  | .blockSigning => execBlockSigning_keeps.ends _
  | .checkpoint => execCheckpoint_keeps.ends _
  | .islandStart => execIslandStart_ends _
  | .clockCheck => execClockCheck_keeps.ends _
  | .islandHeartbeat => execIslandHeartbeat_keeps.ends _
  | .heartbeatLoss => execHeartbeatLoss_keeps.ends _
  | .islandReply => execIslandReply_keeps.ends _
  | .identify => execIdentify_keeps.ends _
  | .lastResult => execLastResult_keeps.ends _
  | .seek .. => execSeek_keeps.ends _
  | .read .. => execRead_keeps.ends _
  | .ack .. => execAck_keeps.ends _
  | .timeSet .. => execTimeSet_ends ..
  | .challenge => execChallenge_keeps.ends _
  | .token .. => execToken_keeps.ends _
  | .sealOp .. => execSealOp_keeps.ends _
  | .configWrite .. => execConfigWrite_keeps.ends _
  | .getVersion .. => execGetVersion_keeps.ends _
  | .getCapabilities .. => execGetCapabilities_keeps.ends _
  | .negotiateAlgorithms .. => execNegotiateAlgorithms_keeps.ends _
  | .getDigests .. => execGetDigests_keeps.ends _
  | .getCertificate .. => execGetCertificate_keeps.ends _
  | .spdmChallenge .. => execSpdmChallenge_keeps.ends _
  | .getMeasurements .. => execGetMeasurements_keeps.ends _
  | .keyExchange .. => execKeyExchange_keeps.ends _
  | .finish .. => execFinish_keeps.ends _
  | .heartbeat .. => execHeartbeat_keeps.ends _
  | .endSession .. => execEndSession_keeps.ends _
  | .heartbeatTimeout .. => execHeartbeatTimeout_keeps.ends _
  | .chalReq .. => execChalReq_keeps.ends _
  | .submit .. => execSubmit_keeps.ends _
  | .relock .. => execRelock_keeps.ends _
  | .dbgChal => execDbgChal_keeps.ends _
  | .dbgToken .. => execDbgToken_keeps.ends _
  | .jtagInstructionLoad .. => execJtagInstructionLoad_keeps.ends _
  | .vin48Good .. => execVin48Good_ends ..
  | .dawnReq .. => execDawnReq_ends ..
  | .dawnStepEnd .. => execDawnStepEnd_keeps.ends _
  | .duskReq .. => execDuskReq_keeps.ends _
  | .duskStepEnd => execDuskStepEnd_keeps.ends _
  | .vinWarn .. => execVinWarn_keeps.ends _
  | .vin48Low .. => execVin48Low_keeps.ends _
  | .uvlo .. => execUvlo_keeps.ends _
  | .vin48High .. => execVin48High_keeps.ends _
  | .railOutOfWindow .. => execRailOutOfWindow_keeps.ends _
  | .pllLockLoss => execPllLockLoss_keeps.ends _
  | .refinLoss => execRefinLoss_keeps.ends _
  | .sensorUpdate .. => execSensorUpdate_keeps.ends _
  | .powerMean .. => execPowerMean_keeps.ends _
  | .permitSense => execPermitSense_keeps.ends _
  | .masterStall .. => execMasterStall_keeps.ends _
  | .snap .. => execSnap_keeps.ends _
  | .clearAll .. => execClearAll_keeps.ends _
  | .pmcLiveWrite .. => execPmcLiveWrite_keeps.ends _
  | .pmcLiveRead .. => execPmcLiveRead_keeps.ends _
  | .dumpComplete => execDumpComplete_keeps.ends _
  | .glbCtlLock .. => execGlbCtlLock_keeps.ends _
  | .captureRead .. => execCaptureRead_keeps.ends _
  | .mrtValueRead .. => execMrtValueRead_keeps.ends _
  | .rcRead .. => execRcRead_keeps.ends _
  | .registerWrite .. => execRegisterWrite_ends ..
  | .pllLockRegained => execPllLockRegained_keeps.ends _
  | .refinRestored => execRefinRestored_keeps.ends _
  | .railInWindow .. => execRailInWindow_keeps.ends _
  | .vin48Return .. => execVin48Return_keeps.ends _
  | .iclkAgreement => execIclkAgreement_keeps.ends _
  | .pcieCorrectableError .. => execPcieCorrectableError_keeps.ends _

end Sys2Proof.Machine

/-! SUPPORT, and the proofs of O1, O2 and O4 to O8. The clock edge, and the statements about every command and every step. -/
namespace Sys2Proof.Machine
set_option Elab.async false

/-! ## A CCLK edge -/

/-- A bus edge moves bursts and the counters' values, nothing else (R418, R431). -/
def Dev.matrixMoves (d e : Dev) : Prop := ∃ m c, e = { d with mtx := m, pmc := { d.pmc with ctr := c } }

theorem Dev.matrixMoves.refl (d : Dev) : d.matrixMoves d := ⟨_, _, rfl⟩

theorem Dev.matrixMoves.trans {d e g : Dev} (h : d.matrixMoves e) (h' : e.matrixMoves g) : d.matrixMoves g := by
  obtain ⟨m, c, rfl⟩ := h
  obtain ⟨n, k, rfl⟩ := h'
  exact ⟨n, k, rfl⟩

theorem Dev.matrixMoves.ite {d x y : Dev} {c : Prop} {dec : Decidable c} (hx : d.matrixMoves x) (hy : d.matrixMoves y) :
    d.matrixMoves (if c then x else y) := by
  split <;> assumption

theorem Dev.matrixMoves.foldl {α : Type} {d : Dev} {f : Dev → α → Dev} (hf : ∀ (e : Dev) x, e.matrixMoves (f e x)) {l : List α} :
    ∀ {e : Dev}, d.matrixMoves e → d.matrixMoves (l.foldl f e) := by
  induction l with
  | nil => exact fun h => h
  | cons x l ih => exact fun h => ih (h.trans (hf _ x))

theorem Dev.matrixMoves_mtx (d : Dev) (m : Traffic) : d.matrixMoves { d with mtx := m } := ⟨m, d.pmc.ctr, rfl⟩

theorem Dev.matrixMoves_count (d : Dev) (n : Nat) : d.matrixMoves (d.count n) := by
  have hc : d.pmc.add n 1 = { d.pmc with ctr := (d.pmc.add n 1).ctr } := by
    unfold Pmc.add
    split <;> rfl
  exact ⟨d.mtx, (d.pmc.add n 1).ctr, congrArg (fun p => { d with pmc := p }) hc⟩

theorem Dev.matrixEdge_moves (d : Dev) : d.matrixMoves d.matrixEdge := by
  refine .ite (.refl d) (.foldl (fun e p => ?_) (d.matrixMoves_mtx _))
  exact .ite (.refl e) (.ite (e.matrixMoves_count _) (.ite (e.matrixMoves_count _) (.refl e)))

theorem Dev.startFetches_moves (n : Nat) : ∀ d : Dev, d.matrixMoves (d.startFetches n) := by
  induction n with
  | zero => exact .refl
  | succ n ih =>
    intro d
    unfold Dev.startFetches
    refine .ite (.refl d) ?_
    split
    · exact .refl d
    · exact (d.matrixMoves_mtx _).trans (ih _)

theorem Dev.busEdge_moves (d : Dev) : d.matrixMoves d.busEdge := .ite (d.matrixEdge_moves.trans (Dev.startFetches_moves _ _)) (.refl d)

/-- The island's copy of blank and its own clock touch no table, no fuse and no number (R361). -/
theorem Isl.edge_keeps (i : Isl) (f : Flt) :
    (i.canonical → (i.copyBlank f).edge1.canonical) ∧ (i.copyBlank f).edge1.sealF = i.sealF ∧ (i.copyBlank f).edge1.unsealF = i.unsealF ∧
      (i.copyBlank f).edge1.next = i.next ∧ (i.copyBlank f).edge1.ackNext = i.ackNext := by
  have hc : ∀ j : Isl, (j.canonical → j.edge1.canonical) ∧ j.edge1.sealF = j.sealF ∧ j.edge1.unsealF = j.unsealF ∧ j.edge1.next = j.next ∧
      j.edge1.ackNext = j.ackNext := by
    intro j
    unfold Isl.edge1
    split
    · exact ⟨id, rfl, rfl, rfl, rfl⟩
    · split <;> exact ⟨id, rfl, rfl, rfl, rfl⟩
  unfold Isl.copyBlank
  extract_lets b
  split
  · exact hc { i with blank := b, blankAt := i.tb1 }
  · exact hc i

/-- What a CCLK edge keeps. -/
structure State.ticks (s t : State) : Prop where
  canonical : s.canonical → t.canonical
  pins : s.pinsFollow → t.pinsFollow
  sec : Sec.keeps s.d.sec t.d.sec
  fuses : t.isl.sealF = s.isl.sealF ∧ t.isl.unsealF = s.isl.unsealF
  records : t.isl.next = s.isl.next ∧ t.isl.ackNext = s.isl.ackNext
  net : t.net = s.net

theorem clockEdge_ticks (s : State) : s.ticks (clockEdge s) := by
  obtain ⟨hc, hs, hu, hn, ha⟩ := s.isl.edge_keeps s.d.flt
  have hd : ∃ t : Tim, (clockEdge s).d = { s.d with tim := t } := by
    change ∃ t, (if s.d.clocked then { s.d with tim := s.d.tim.edge1 } else s.d) = { s.d with tim := t }
    split
    · exact ⟨_, rfl⟩
    · exact ⟨s.d.tim, rfl⟩
  obtain ⟨x, hx⟩ := hd
  refine ⟨fun ⟨m, d, i, n⟩ => ⟨m, ?_, hc i, n⟩, fun p => ?_, ?_, ⟨hs, hu⟩, ⟨hn, ha⟩, rfl⟩
  · rw [hx]
    exact d
  · unfold State.pinsFollow
    rw [hx]
    exact p
  · rw [hx]
    exact .same rfl rfl

theorem busEdge_ticks (s : State) : s.ticks { s with d := s.d.busEdge } := by
  have hk : s.d.keeps s.d.busEdge := (Dev.keeps.refl s.d).busEdge
  obtain ⟨m, c, hm⟩ := s.d.busEdge_moves
  refine ⟨fun ⟨m, d, i, n⟩ => ⟨m, hk.canonical d, i, n⟩, fun p => ?_, hk.sec, ⟨rfl, rfl⟩, ⟨rfl, rfl⟩, rfl⟩
  unfold State.pinsFollow
  dsimp only
  rw [hm]
  exact p

theorem State.ticks.trans {s t u : State} (h : s.ticks t) (h' : t.ticks u) : s.ticks u :=
  ⟨fun c => h'.canonical (h.canonical c), fun p => h'.pins (h.pins p), h.sec.trans h'.sec,
    ⟨h'.fuses.1.trans h.fuses.1, h'.fuses.2.trans h.fuses.2⟩, ⟨h'.records.1.trans h.records.1, h'.records.2.trans h.records.2⟩,
    h'.net.trans h.net⟩

theorem idleEdge_ticks (s : State) : s.ticks (idleEdge s) := (clockEdge_ticks s).trans (busEdge_ticks _)

/-! ## Steps -/

/-- A step of the machine is a clock edge, or a command that ends. -/
theorem step_cases {s t : State} (h : Machine.step s = .next t) :
    s.pending = [] ∧ s.ticks t ∨ ∃ c rest, s.pending = c :: rest ∧ State.ends c { s with pending := rest } t := by
  unfold Machine.step at h
  split at h
  · next hp =>
    cases h
    exact .inl ⟨hp, idleEdge_ticks s⟩
  · next c rest hp =>
    obtain ⟨u, hu, he⟩ := exec_ends (s := { s with pending := rest }) c
    cases hu.symm.trans h
    exact .inr ⟨c, rest, hp, he⟩

/-- The step of a command in front ends as that command does. -/
theorem step_ends {s t : State} {c : Instr} {rest : List Instr} (hp : s.pending = c :: rest) (h : Machine.step s = .next t) :
    State.ends c { s with pending := rest } t := by
  obtain ⟨hn, _⟩ | ⟨c', rest', hp', he⟩ := step_cases h
  · cases hp.symm.trans hn
  · cases hp.symm.trans hp'
    exact he

/-- Settles O1, by the step's two cases. -/
theorem stepRunsFrontCommand : Obligations.StepRunsFrontCommand := by
  refine ⟨fun c s rest h => ?_, fun s h => ?_⟩ <;> rw [Machine.step, h]

/-- Settles O2: every command ends. -/
theorem everyCommandIsAnswered : Obligations.EveryCommandIsAnswered := by
  intro c s
  obtain ⟨t, ht, he⟩ := exec_ends (s := s) c
  exact ⟨t, ht, he.pending⟩

/-- Settles O4, by the operations of each command: every table is written through operations that keep it canonical. -/
theorem everyStepKeepsCanonicalForms : Obligations.EveryStepKeepsCanonicalForms := by
  intro s t hs h
  obtain ⟨_, ht⟩ | ⟨c, rest, _, he⟩ := step_cases h
  · exact ht.canonical hs
  · exact he.canonical hs

/-- Settles O5: a command that changes what drives a pin ends notified. -/
theorem pinsFollowTheirSources : Obligations.PinsFollowTheirSources := by
  intro s t hs h
  obtain ⟨_, ht⟩ | ⟨c, rest, _, he⟩ := step_cases h
  · exact ht.pins hs
  · exact he.pins hs

/-- Settles O6: only the five commits and a Dawn write the map. -/
theorem mapChangesOnlyAtCommits : Obligations.MapChangesOnlyAtCommits := by
  intro s t h hn
  obtain ⟨_, ht⟩ | ⟨c, rest, hp, he⟩ := step_cases h
  · exact absurd ht.net hn
  · exact ⟨c, rest, hp, he.net.resolve_left hn⟩

/-- Settles O7: only measurements, software steps and Dawns set a time base of the control side, and only the island its own. -/
theorem timeBasesKeepApart : Obligations.TimeBasesKeepApart := by
  intro s t c rest hp h
  have he := step_ends hp h
  exact ⟨he.tb2.resolve_left, he.tb0.resolve_left, he.tb1.resolve_left⟩

/-- Settles O8: what counts is only counted up, and a fuse once blown stays blown. -/
theorem fusesAndNumbersNeverGoBack : Obligations.FusesAndNumbersNeverGoBack := by
  intro s t h
  obtain ⟨_, ht⟩ | ⟨c, rest, _, he⟩ := step_cases h
  · exact ⟨ht.sec.1, ht.sec.2, ht.fuses.1.ge, ht.fuses.2.ge, ht.records.1.ge, ht.records.2.ge⟩
  · exact ⟨he.sec.1, he.sec.2, he.fuses.1, he.fuses.2, he.records.1, he.records.2⟩

end Sys2Proof.Machine

/-! SUPPORT. Frames of a write of one record of the control side, and of the bursts that a bus edge moves. -/
namespace Sys2Proof.Machine
set_option Elab.async false

variable (d : Dev)

theorem Dev.withTel_same (x : Tel) : Dev.sameBut [.tel] d { d with io := { d.io with tel := x } } := by
  intro p hp; cases p <;> simp_all [Part.same, Io.sameLink, Dev.fn]
theorem Dev.withTim_same (x : Tim) : Dev.sameBut [.tim] d { d with tim := x } := by
  intro p hp; cases p <;> simp_all [Part.same, Io.sameLink, Dev.fn]
theorem Dev.withFab_same (x : Fab) : Dev.sameBut [.fab] d { d with fab := x } := by
  intro p hp; cases p <;> simp_all [Part.same, Io.sameLink, Dev.fn]
theorem Dev.withCmt_same (x : Cmt) : Dev.sameBut [.cmt] d { d with cmt := x } := by
  intro p hp; cases p <;> simp_all [Part.same, Io.sameLink, Dev.fn]
theorem Dev.withJobs_same (x : Jobs) : Dev.sameBut [.jobs] d { d with jobs := x } := by
  intro p hp; cases p <;> simp_all [Part.same, Io.sameLink, Dev.fn]
theorem Dev.withMon_same (x : Mon) : Dev.sameBut [.mon] d { d with mon := x } := by
  intro p hp; cases p <;> simp_all [Part.same, Io.sameLink, Dev.fn]
theorem Dev.withDrv_same (x : Drv) : Dev.sameBut [.drv] d { d with drv := x } := by
  intro p hp; cases p <;> simp_all [Part.same, Io.sameLink, Dev.fn]
theorem Dev.withSeq_same (x : Machine.Seq) : Dev.sameBut [.seq] d { d with seq := x } := by
  intro p hp; cases p <;> simp_all [Part.same, Io.sameLink, Dev.fn]
theorem Dev.withMi_same (x : Mi) : Dev.sameBut [.mi] d { d with mi := x } := by
  intro p hp; cases p <;> simp_all [Part.same, Io.sameLink, Dev.fn]
theorem Dev.withSec_same (x : Sec) : Dev.sameBut [.sec] d { d with sec := x } := by
  intro p hp; cases p <;> simp_all [Part.same, Io.sameLink, Dev.fn]
theorem Dev.withPwr_same (x : Pwr) : Dev.sameBut [.pwr] d { d with pwr := x } := by
  intro p hp; cases p <;> simp_all [Part.same, Io.sameLink, Dev.fn]
theorem Dev.withThm_same (x : Thm) : Dev.sameBut [.thm] d { d with thm := x } := by
  intro p hp; cases p <;> simp_all [Part.same, Io.sameLink, Dev.fn]
theorem Dev.withPmc_same (x : Pmc) : Dev.sameBut [.pmc] d { d with pmc := x } := by
  intro p hp; cases p <;> simp_all [Part.same, Io.sameLink, Dev.fn]
theorem Dev.withBmx_same (x : Bmx) : Dev.sameBut [.bmx] d { d with bmx := x } := by
  intro p hp; cases p <;> simp_all [Part.same, Io.sameLink, Dev.fn]
theorem Dev.withGlb_same (x : Glb) : Dev.sameBut [.glb] d { d with glb := x } := by
  intro p hp; cases p <;> simp_all [Part.same, Io.sameLink, Dev.fn]
theorem Dev.withFresh_same (x : Nat) : Dev.sameBut [.fresh] d { d with fresh := x } := by
  intro p hp; cases p <;> simp_all [Part.same, Io.sameLink, Dev.fn]
/-- A write of the fault registers that leaves the sources. -/
theorem Dev.withFlt_same {x : Flt} (h : x.src = d.flt.src := by rfl) : Dev.sameBut [.flt] d { d with flt := x } := by
  intro p hp; cases p <;> simp_all [Part.same, Io.sameLink, Dev.fn]

/-! ## The notification, part by part -/

theorem Dev.notify_tim : d.notify.tim = d.tim := d.notify_parts.1
theorem Dev.notify_fab : d.notify.fab = d.fab := d.notify_parts.2.1
theorem Dev.notify_cmt : d.notify.cmt = d.cmt := d.notify_parts.2.2.1
theorem Dev.notify_jobs : d.notify.jobs = d.jobs := d.notify_parts.2.2.2.1
theorem Dev.notify_mon : d.notify.mon = d.mon := d.notify_parts.2.2.2.2.1
theorem Dev.notify_drv : d.notify.drv = d.drv := d.notify_parts.2.2.2.2.2.1
theorem Dev.notify_seq : d.notify.seq = d.seq := d.notify_parts.2.2.2.2.2.2.1
theorem Dev.notify_cal : d.notify.cal = d.cal := d.notify_parts.2.2.2.2.2.2.2.1
theorem Dev.notify_mi : d.notify.mi = d.mi := d.notify_parts.2.2.2.2.2.2.2.2.1
theorem Dev.notify_sec : d.notify.sec = d.sec := d.notify_parts.2.2.2.2.2.2.2.2.2.1
theorem Dev.notify_pwr : d.notify.pwr = d.pwr := d.notify_parts.2.2.2.2.2.2.2.2.2.2.1
theorem Dev.notify_thm : d.notify.thm = d.thm := d.notify_parts.2.2.2.2.2.2.2.2.2.2.2.1
theorem Dev.notify_bmx : d.notify.bmx = d.bmx := d.notify_parts.2.2.2.2.2.2.2.2.2.2.2.2.1
theorem Dev.notify_glb : d.notify.glb = d.glb := d.notify_parts.2.2.2.2.2.2.2.2.2.2.2.2.2.1
theorem Dev.notify_fresh : d.notify.fresh = d.fresh := d.notify_parts.2.2.2.2.2.2.2.2.2.2.2.2.2.2
theorem Dev.notify_queue : d.notify.queue = d.queue := d.notify_entries.1
theorem Dev.notify_view : d.notify.view = d.view := d.notify_entries.2.1
theorem Dev.notify_cap : d.notify.cap = d.cap := d.notify_entries.2.2.1
theorem Dev.notify_cell : d.notify.cell = d.cell := d.notify_entries.2.2.2.1
theorem Dev.notify_loop : d.notify.loop = d.loop := d.notify_entries.2.2.2.2.1
theorem Dev.notify_tile : d.notify.tile = d.tile := d.notify_entries.2.2.2.2.2.1
theorem Dev.notify_le : d.notify.le = d.le := d.notify_entries.2.2.2.2.2.2.1
theorem Dev.notify_slot : d.notify.slot = d.slot := d.notify_entries.2.2.2.2.2.2.2.1
theorem Dev.notify_mrt : d.notify.mrt = d.mrt := d.notify_entries.2.2.2.2.2.2.2.2.1
theorem Dev.notify_met : d.notify.met = d.met := d.notify_entries.2.2.2.2.2.2.2.2.2.1
theorem Dev.notify_inj : d.notify.inj = d.inj := d.notify_entries.2.2.2.2.2.2.2.2.2.2.1
theorem Dev.notify_fl : d.notify.fl = d.fl := d.notify_entries.2.2.2.2.2.2.2.2.2.2.2.1
theorem Dev.notify_lane : d.notify.lane = d.lane := d.notify_entries.2.2.2.2.2.2.2.2.2.2.2.2.1
theorem Dev.notify_src : d.notify.src = d.src := d.notify_entries.2.2.2.2.2.2.2.2.2.2.2.2.2
theorem Dev.notify_pmc_dumping : d.notify.pmc.dumping = d.pmc.dumping := d.notify_pmc.2.2.1
theorem Dev.notify_fn_cmds (f : Nat) : (d.notify.fn f).cmds = (d.fn f).cmds := by simp

theorem Dev.matrixMoves.same {d e : Dev} (h : d.matrixMoves e) : Dev.sameBut [] d e := by
  obtain ⟨m, c, rfl⟩ := h
  intro p hp; cases p <;> simp_all [Part.same, Io.sameLink, Dev.fn]

end Sys2Proof.Machine

/-! The ring doorbells taken (R256 to R258, R274 to R276). -/
namespace Sys2Proof.Machine
set_option Elab.async false

theorem Ring.used_of_size {r : Ring} (h : 0 < r.size) : r.used = (r.tail + r.size - r.head) % r.size := by
  simp [Ring.used, Nat.ne_of_gt h]

theorem Ring.headOk_iff {r : Ring} {h : Nat} : r.headOk h = true ↔ h < r.size ∧ (h + r.size - r.head) % r.size ≤ r.used := by
  simp [Ring.headOk]

/-- A head below the ring's size, and no further than its tail, may be set (R257). -/
theorem Ring.headOk_of {r : Ring} {h : Nat} (hs : h < r.size)
    (hu : (h + r.size - r.head) % r.size ≤ (r.tail + r.size - r.head) % r.size) : r.headOk h = true :=
  Ring.headOk_iff.mpr ⟨hs, by rwa [Ring.used_of_size (Nat.zero_lt_of_lt hs)]⟩

/-! ## A good word, by doorbell -/

section
variable {d : Dev} {f : Nat} {v : Word} (hv : v.toNat < 65536)
include hv

theorem ringWordOk_of : ringWordOk 4 v = true := by simp [ringWordOk, hv]

theorem Dev.dbSqTail_good {q : Nat} (hq : d.ownQueue f q = true) (hs : v.toNat < (d.queue q).sqSize) :
    d.dbSqTail f q 4 v = ((d.count 3012).modQueue q (fun x => { x with tail := v.toNat })).startFetches 16 := by
  simp [Dev.dbSqTail, ringWordOk_of hv, hq, hs, Dev.doorbell_taken]

theorem Dev.dbCqHead_good {q : Nat} (hq : d.ownQueue f q = true) (hh : (d.queue q).cq.headOk v.toNat = true) :
    d.dbCqHead f q 4 v = (d.count 3012).modQueue q (fun x => { x with cq := x.cq.consumed v.toNat }) := by
  simp [Dev.dbCqHead, ringWordOk_of hv, hq, hh, Dev.doorbell_taken]

theorem Dev.dbAqSqTail_good (he : (d.fn f).aqEn = true) (hs : v.toNat < ringSize (d.fn f).aqSqs) :
    d.dbAqSqTail f 4 v = (d.count 3012).modFn f (fun x => { x with aqTail := v.toNat }) := by
  simp [Dev.dbAqSqTail, ringWordOk_of hv, he, hs, Dev.doorbell_taken]

theorem Dev.dbAqCqHead_good (he : (d.fn f).aqEn = true) (hh : (d.fn f).acq.headOk v.toNat = true) :
    d.dbAqCqHead f 4 v = (d.count 3012).modFn f (fun x => { x with acq := x.acq.consumed v.toNat }) := by
  simp [Dev.dbAqCqHead, ringWordOk_of hv, he, hh, Dev.doorbell_taken]

theorem Dev.dbEvtHead_good (he : (d.fn f).evtEn = true) (hh : (d.fn f).evt.headOk v.toNat = true) :
    d.dbEvtHead f 4 v = (d.count 3012).modFn f (fun x => { x with evt := x.evt.consumed v.toNat }) := by
  simp [Dev.dbEvtHead, ringWordOk_of hv, he, hh, Dev.doorbell_taken]

/-- The telemetry ring with its head moved on, the bulk space of the entries passed freed (R274). -/
def Tel.headAt (t : Tel) (h : Nat) : Tel :=
  { t with ring := t.ring.consumed h, bulk := t.bulk.drop ((h + t.ring.size - t.ring.head) % t.ring.size) }

theorem Dev.dbTelHead_good (hh : d.io.tel.ring.headOk v.toNat = true) :
    d.dbTelHead f 4 v = { d.count 3012 with io := { (d.count 3012).io with tel := (d.count 3012).io.tel.headAt v.toNat } } := by
  simp [Dev.dbTelHead, ringWordOk_of hv, hh, Dev.doorbell_taken, Tel.headAt]

end

/-! ## What a good doorbell leaves -/

/-- The write and its count change no part. -/
theorem Dev.counted_same (d : Dev) (a : Nat) : Dev.sameBut [] d ((d.inbound true 0 a 4).count 3012) :=
  (d.inbound_same _ _ _ _).trans (Dev.count_same _ _)

/-- Fetches are asked for in the bus matrix; no queue moves. -/
@[simp] theorem Dev.queue_startFetches (n : Nat) (d : Dev) : (d.startFetches n).queue = d.queue := by
  obtain ⟨m, c, h⟩ := Dev.startFetches_moves n d
  rw [h]
  rfl

section
variable {s : State} {f : Nat} {v : Word} (hr : s.d.reach f = true) (hv : v.toNat < 65536)
include hr hv

theorem exec_sqTail_taken {q : Nat} (hq : s.d.ownQueue f q = true) (hs : v.toNat < (s.d.queue q).sqSize) :
    ∃ t, exec (.sqTail f q 4 v) s = .next t ∧ State.queueBecomes s t q { s.d.queue q with tail := v.toNat } := by
  refine ⟨_, by rw [exec_sqTail, execSqTail, hostWr_next hr, Dev.dbSqTail_good hv (by exact hq) (by exact hs)], ?_⟩
  refine ⟨by simp, fun r h => by simp [Dev.queue_modQueue, h], finish_same ?_⟩
  exact ((s.d.counted_same _).up _).trans ((Dev.modQueue_same _ q _).trans ((Dev.startFetches_moves _ _).same.up _))

theorem exec_cqHead_taken {q : Nat} (hq : s.d.ownQueue f q = true) (hh : (s.d.queue q).cq.headOk v.toNat = true) :
    ∃ t, exec (.cqHead f q 4 v) s = .next t ∧ State.queueBecomes s t q { s.d.queue q with cq := (s.d.queue q).cq.consumed v.toNat } := by
  refine ⟨_, by rw [exec_cqHead, execCqHead, hostWr_next hr, Dev.dbCqHead_good hv (by exact hq) (by exact hh)],
    by simp, fun r h => by simp [Dev.queue_modQueue, h], finish_same ?_⟩
  exact ((s.d.counted_same _).up _).trans (Dev.modQueue_same _ q _)

theorem exec_aqSqTail_taken (he : (s.d.fn f).aqEn = true) (hs : v.toNat < ringSize (s.d.fn f).aqSqs) :
    ∃ t, exec (.aqSqTail f 4 v) s = .next t ∧ (t.d.fn f).aqTail = v.toNat ∧ (t.d.fn f).aqHead = (s.d.fn f).aqHead ∧
      (∀ g, g ≠ f → (t.d.fn g).aqTail = (s.d.fn g).aqTail) ∧ State.sameBut [.fns] s t := by
  refine ⟨_, by rw [exec_aqSqTail, execAqSqTail, hostWr_next hr, Dev.dbAqSqTail_good hv (by exact he) (by exact hs)],
    by simp, by simp, fun g h => by simp [Dev.fn_modFn, h], finish_same ?_⟩
  exact ((s.d.counted_same _).up _).trans (Dev.modFn_same _ f _)

theorem exec_aqCqHead_taken (he : (s.d.fn f).aqEn = true) (hh : (s.d.fn f).acq.headOk v.toNat = true) :
    ∃ t, exec (.aqCqHead f 4 v) s = .next t ∧ (t.d.fn f).acq = (s.d.fn f).acq.consumed v.toNat ∧ State.sameBut [.fns] s t := by
  refine ⟨_, by rw [exec_aqCqHead, execAqCqHead, hostWr_next hr, Dev.dbAqCqHead_good hv (by exact he) (by exact hh)], by simp, finish_same ?_⟩
  exact ((s.d.counted_same _).up _).trans (Dev.modFn_same _ f _)

theorem exec_evtHead_taken (he : (s.d.fn f).evtEn = true) (hh : (s.d.fn f).evt.headOk v.toNat = true) :
    ∃ t, exec (.evtHead f 4 v) s = .next t ∧ (t.d.fn f).evt = (s.d.fn f).evt.consumed v.toNat ∧ State.sameBut [.fns] s t := by
  refine ⟨_, by rw [exec_evtHead, execEvtHead, hostWr_next hr, Dev.dbEvtHead_good hv (by exact he) (by exact hh)], by simp, finish_same ?_⟩
  exact ((s.d.counted_same _).up _).trans (Dev.modFn_same _ f _)

end

theorem exec_telHead_taken {s : State} {v : Word} (hr : s.d.reach 0 = true) (hv : v.toNat < 65536)
    (hh : s.d.io.tel.ring.headOk v.toNat = true) :
    ∃ t, exec (.telHead 0 4 v) s = .next t ∧ t.d.io.tel = s.d.io.tel.headAt v.toNat ∧ State.sameBut [.tel] s t := by
  refine ⟨_, by rw [exec_telHead, execTelHead, pf0Wr, hostWr_next hr, if_pos rfl, Dev.dbTelHead_good hv (by exact hh)], by simp, finish_same ?_⟩
  exact ((s.d.counted_same _).up _).trans (Dev.withTel_same _ _)

/-- Settles O9, by one lemma a doorbell. -/
theorem ringDoorbellsAreTaken : Obligations.RingDoorbellsAreTaken := by
  refine ⟨?_, ?_, ?_, ?_, ?_, ?_⟩
  · intro s f q v hr hq hd hn hv hs
    exact exec_sqTail_taken hr hv (Dev.ownQueue_of hq hd hn) hs
  · intro s f v hr he hv hs
    exact exec_aqSqTail_taken hr hv he hs
  · intro s f q v hr hq hd hn hv hs hu
    obtain ⟨t, ht, hx, ho, hf⟩ := exec_cqHead_taken hr hv (Dev.ownQueue_of hq hd hn) (Ring.headOk_of hs hu)
    exact ⟨t, ht, by rw [hx]; rfl, by rw [hx]; rfl, by rw [hx]; rfl, ho, hf⟩
  · intro s f v hr he hv hs hu
    obtain ⟨t, ht, hx, hf⟩ := exec_aqCqHead_taken hr hv he (Ring.headOk_of hs hu)
    exact ⟨t, ht, by rw [hx]; rfl, by rw [hx]; rfl, by rw [hx]; rfl, hf⟩
  · intro s f v hr he hv hs hu
    obtain ⟨t, ht, hx, hf⟩ := exec_evtHead_taken hr hv he (Ring.headOk_of hs hu)
    exact ⟨t, ht, by rw [hx]; rfl, by rw [hx]; rfl, by rw [hx]; rfl, hf⟩
  · intro s v hr hv hs hu
    obtain ⟨t, ht, hx, hf⟩ := exec_telHead_taken hr hv (Ring.headOk_of hs hu)
    exact ⟨t, ht, by rw [hx]; rfl, by rw [hx]; rfl, hf⟩

end Sys2Proof.Machine

/-! SUPPORT. What events and fault occurrences leave: everything but their own records. -/
namespace Sys2Proof.Machine
set_option Elab.async false

/-! ## Functions and sources -/

/-- A function's registers but for what events written to it move, and its MSI-X pending bit. -/
def Fn.eventsOnly (x y : Fn) : Prop :=
  { y with evt := x.evt, evtSeq := x.evtSeq, evtLost := x.evtLost, lostFlag := x.lostFlag, msixPend := x.msixPend } = x ∧
  y.evt.head = x.evt.head ∧ y.evt.base = x.evt.base ∧ y.evt.size = x.evt.size

theorem Fn.eventsOnly.refl (x : Fn) : x.eventsOnly x := ⟨rfl, rfl, rfl, rfl⟩

theorem Fn.eventsOnly.trans {x y z : Fn} (h : x.eventsOnly y) (h' : y.eventsOnly z) : x.eventsOnly z := by
  obtain ⟨he, hh, hb, hs⟩ := h
  obtain ⟨he', hh', hb', hs'⟩ := h'
  refine ⟨?_, hh'.trans hh, hb'.trans hb, hs'.trans hs⟩
  rw [← he, ← he']

/-- What the registers of a function then still read as. -/
theorem Fn.eventsOnly.fields {x y : Fn} (h : x.eventsOnly y) :
    y.aqSqBase = x.aqSqBase ∧ y.aqCqBase = x.aqCqBase ∧ y.aqSqs = x.aqSqs ∧ y.aqCqs = x.aqCqs ∧ y.aqEn = x.aqEn ∧ y.aqActive = x.aqActive ∧
    y.aqHead = x.aqHead ∧ y.aqTail = x.aqTail ∧ y.acq = x.acq ∧ y.cmds = x.cmds ∧ y.orphans = x.orphans ∧ y.evtBase = x.evtBase ∧
    y.evtEs = x.evtEs ∧ y.evtEn = x.evtEn ∧ y.evtActive = x.evtActive ∧ y.evtAgg = x.evtAgg ∧ y.msixAddr = x.msixAddr ∧
    y.msixData = x.msixData ∧ y.msixMask = x.msixMask ∧ y.cfg = x.cfg ∧ y.scratch = x.scratch ∧ y.waits = x.waits ∧ y.covered = x.covered ∧
    y.flrAt = x.flrAt := by
  obtain ⟨he, -⟩ := h
  refine ⟨?_, ?_, ?_, ?_, ?_, ?_, ?_, ?_, ?_, ?_, ?_, ?_, ?_, ?_, ?_, ?_, ?_, ?_, ?_, ?_, ?_, ?_, ?_, ?_⟩ <;> rw [← he]

/-- A source as an occurrence marks it (R325, R328). -/
def Src.marked (s : Src) (n scope now : Nat) (inj full : Bool) : Src :=
  let s := { s with latched := true, real := s.real || !inj, inj := s.inj || inj, count := satAdd s.count 1 16,
                    first := if s.count = 0 then now else s.first, last := now }
  if srcRecovers n || srcClass n == 2 then s.noteInst scope now full else s

/-- Whichever its class, the occurrence is latched and counted, and no condition changes. -/
theorem Src.marked_fields (s : Src) (n scope now : Nat) (inj full : Bool) :
    (s.marked n scope now inj full).latched = true ∧ (s.marked n scope now inj full).count = min (s.count + 1) 65535 ∧
    (s.marked n scope now inj full).conds = s.conds ∧ (s.marked n scope now inj full).force = s.force ∧
    (s.marked n scope now inj full).real = (s.real || !inj) ∧ (s.marked n scope now inj full).inj = (s.inj || inj) ∧
    (s.marked n scope now inj full).last = now ∧ (s.marked n scope now inj full).forceScope = s.forceScope ∧
    (s.marked n scope now inj full).out = s.out ∧ (s.marked n scope now inj full).cfg = s.cfg := by
  unfold Src.marked
  extract_lets s'
  split <;> exact ⟨rfl, rfl, rfl, rfl, rfl, rfl, rfl, rfl, rfl, rfl⟩

/-! ## The relation -/

/-- Events were written and occurrences signalled, of the sources ns alone. -/
structure Dev.signals (ns : List Nat) (d e : Dev) : Prop where
  same : Dev.sameBut faultParts d e
  fn : ∀ f, (d.fn f).eventsOnly (e.fn f)
  src : ∀ m, m ∉ ns → e.src m = d.src m
  flt : { e.flt with src := d.flt.src, errEnd := d.flt.errEnd, errN := d.flt.errN, permit := d.flt.permit } = d.flt
  sent : Dev.sentOn d e
  causes : Dev.causesStay d e

variable {ns : List Nat} {d e : Dev}

theorem Dev.signals.refl (ns : List Nat) (d : Dev) : d.signals ns d := ⟨.refl _ d, fun _ => .refl _, fun _ _ => rfl, rfl, .refl d, .refl d⟩

theorem Dev.signals.trans {g : Dev} (h : d.signals ns e) (h' : e.signals ns g) : d.signals ns g := by
  refine ⟨h.same.trans h'.same, fun f => (h.fn f).trans (h'.fn f), fun m hm => (h'.src m hm).trans (h.src m hm), ?_, h.sent.trans h'.sent,
    h.causes.trans h'.causes⟩
  rw [← h.flt, ← h'.flt]

theorem Dev.signals.mono {ms : List Nat} (h : d.signals ns e) (hs : ∀ n ∈ ns, n ∈ ms) : d.signals ms e :=
  { h with src := fun m hm => h.src m (fun hn => hm (hs m hn)) }

theorem Dev.signals.foldl {α : Type} {g : Dev → α → Dev} (h : ∀ (d : Dev) x, d.signals ns (g d x)) (l : List α) :
    ∀ d : Dev, d.signals ns (l.foldl g d) := by
  induction l with
  | nil => exact .refl ns
  | cons x l ih => intro d; exact (h d x).trans (ih _)

/-- What changes neither a source nor a record of an event keeps everything else. -/
theorem Dev.signals.quiet (hs : Dev.sameBut [] d e) (hf : ∀ f, { e.fn f with msixPend := (d.fn f).msixPend } = d.fn f := by exact fun _ => rfl)
    (ho : Dev.sentOn d e := by exact ⟨[], rfl⟩) : d.signals ns e := by
  refine ⟨hs.up _, fun f => ?_, fun m _ => ?_, ?_, ho, .of_views (hs .views (by simp))⟩
  · rw [← hf f]
    exact ⟨rfl, rfl, rfl, rfl⟩
  · rw [Dev.src, hs .src (by simp), Dev.src]
  · have h : { e.flt with src := d.flt.src, errN := d.flt.errN, permit := d.flt.permit } = d.flt := hs .flt (by simp)
    rw [← h]

theorem Dev.signals.sent_to (h : Dev.sameBut [] d e) (hf : e.fn = d.fn) (ho : Dev.sentOn d e) : d.signals ns e :=
  .quiet h (fun f => by rw [hf]) ho

theorem Dev.setLeaf_signals (d : Dev) (f off bits : Nat) : d.signals ns (d.setLeaf f off bits) :=
  ⟨(d.setLeaf_same _ _ _).up _, fun _ => .refl _, fun _ _ => rfl, rfl, ⟨[], rfl⟩, d.setLeaf_causesStay _ _ _⟩

theorem Dev.count_signals (d : Dev) (n : Nat) : d.signals ns (d.count n) := .quiet (d.count_same n)

theorem Dev.toHost_signals (d : Dev) (a n : Nat) (x : Out) : d.signals ns (d.toHost a n x) := .quiet (d.toHost_same a n x) (fun _ => rfl) ⟨[x], rfl⟩

/-- A write of one function's event records. -/
theorem Dev.modFn_signals (d : Dev) (f : Nat) {g : Fn → Fn} (hg : (d.fn f).eventsOnly (g (d.fn f))) : d.signals ns (d.modFn f g) := by
  refine ⟨(d.modFn_same f g).up _, fun k => ?_, fun _ _ => rfl, rfl, ⟨[], rfl⟩, .of_views rfl⟩
  rw [Dev.fn_modFn]
  split
  · next h => subst h; exact hg
  · exact .refl _

theorem Dev.evtPush_signals (d : Dev) (f type a b c e : Nat) : d.signals ns (d.evtPush f type a b c e).2 := by
  unfold Dev.evtPush
  extract_lets fn seq r at_ d1 d2 d3
  split
  · have h1 : d.signals ns d1 := d.toHost_signals _ _ _
    have h2 : d1.signals ns d2 := d1.modFn_signals f ⟨rfl, rfl, rfl, rfl⟩
    exact h1.trans (h2.trans (d2.count_signals _))
  · have h3 : d.signals ns d3 := d.modFn_signals f ⟨rfl, rfl, rfl, rfl⟩
    exact h3.trans ((d3.setLeaf_signals _ _ _).trans (Dev.count_signals _ _))

theorem Dev.faultPush_signals (d : Dev) (f n scope : Nat) (cur inj : Bool) : d.signals ns (d.faultPush f n scope cur inj).2 := by
  have h : d.signals ns (d.evtPush f 4 (faultDw2 n cur inj) scope (d.src n).count 0).2 := d.evtPush_signals _ _ _ _ _ _
  simp only [Dev.faultPush]
  split
  · exact h.trans (Dev.setLeaf_signals _ f _ _)
  · exact h

theorem Dev.errPulse_signals (d : Dev) : d.signals ns d.errPulse := by
  have h : ∀ (x : Dev) o, x.signals ns { x with flt := { x.flt with errEnd := o } } := fun x o =>
    ⟨Dev.sameBut.up _ (x.withFlt_same rfl), fun _ => .refl _, fun _ _ => rfl, rfl, ⟨[], rfl⟩, .of_views rfl⟩
  unfold Dev.errPulse
  extract_lets d1
  have h1 : d.signals ns d1 := by
    unfold d1
    split
    · exact d.setLeaf_signals _ _ _
    · exact .refl _ d
  exact h1.trans (h d1 _)

/-- A write of a source that may change. -/
theorem Dev.modSrc_signals (d : Dev) {n : Nat} (g : Src → Src) (hn : n ∈ ns) : d.signals ns (d.modSrc n g) := by
  refine ⟨(d.modSrc_same n g).up _, fun _ => .refl _, fun m hm => ?_, rfl, ⟨[], rfl⟩, .of_views rfl⟩
  have hne : m ≠ n := fun h => hm (h ▸ hn)
  rw [Dev.src_modSrc, if_neg hne]

theorem Dev.mark_eq (d : Dev) (n scope : Nat) (inj : Bool) :
    d.mark n scope inj = if (srcClass n == 1 || srcClass n == 2) && (d.modSrc n (fun s => s.marked n scope d.tb2 inj (!inj || d.flt.injAct))).srcErrEn n
      then (d.modSrc n (fun s => s.marked n scope d.tb2 inj (!inj || d.flt.injAct))).errPulse
      else d.modSrc n (fun s => s.marked n scope d.tb2 inj (!inj || d.flt.injAct)) := rfl

theorem Dev.mark_signals (d : Dev) {n : Nat} (scope : Nat) (inj : Bool) (hn : n ∈ ns) : d.signals ns (d.mark n scope inj) := by
  have h := d.modSrc_signals (ns := ns) (fun s => s.marked n scope d.tb2 inj (!inj || d.flt.injAct)) hn
  rw [Dev.mark_eq]
  split
  · exact h.trans (Dev.errPulse_signals _)
  · exact h

/-- The source as marked. -/
theorem Dev.src_mark (d : Dev) (n scope : Nat) (inj : Bool) :
    (d.mark n scope inj).src n = (d.src n).marked n scope d.tb2 inj (!inj || d.flt.injAct) := by
  have h : ∀ x : Dev, x.errPulse.src = x.src := fun x => by
    funext m
    exact (x.errPulse_signals (ns := [])).src m (by simp)
  rw [Dev.mark_eq]
  split
  · rw [h, Dev.src_modSrc_self]
  · rw [Dev.src_modSrc_self]

theorem Dev.eventLost_signals (d : Dev) (f : Nat) (hn : 68 ∈ ns) : d.signals ns (d.eventLost f) := by
  have h := d.mark_signals (ns := ns) f false hn
  unfold Dev.eventLost
  extract_lets d1
  split
  · exact h.trans (.foldl (fun d g => d.faultPush_signals g 68 f _ false) _ d1)
  · exact h

theorem Dev.evt_signals (d : Dev) (f type a b c e : Nat) (hn : 68 ∈ ns) : d.signals ns (d.evt f type a b c e) := by
  have h := d.evtPush_signals (ns := ns) f type a b c e
  simp only [Dev.evt]
  split
  · exact h
  · exact h.trans (Dev.eventLost_signals _ f hn)

theorem Dev.faultEvents_signals (d : Dev) (n scope : Nat) (cur inj : Bool) (hn : 68 ∈ ns) : d.signals ns (d.faultEvents n scope cur inj) := by
  unfold Dev.faultEvents
  split
  · refine .foldl (fun d f => ?_) _ d
    have h := d.faultPush_signals (ns := ns) f n scope cur inj
    dsimp only
    split
    · exact h
    · exact h.trans (Dev.eventLost_signals _ f hn)
  · exact .refl _ d

/-- The mark of an occurrence, before its events. -/
def Dev.noted (d : Dev) (n scope : Nat) (inj : Bool) : Dev := if n = 90 then (d.mark n scope inj).setLeaf 0 0x1D0 4 else d.mark n scope inj

theorem Dev.signal_eq {n : Nat} (h : srcReserved n = false) (d : Dev) (scope : Nat) (inj : Bool) :
    d.signal n scope inj = (d.noted n scope inj).faultEvents n scope ((d.noted n scope inj).src n).current inj := by
  simp only [Dev.signal, h]
  rfl

theorem Dev.noted_signals (d : Dev) {n : Nat} (scope : Nat) (inj : Bool) (hn : n ∈ ns) : d.signals ns (d.noted n scope inj) := by
  unfold Dev.noted
  split
  · exact (d.mark_signals scope inj hn).trans (Dev.setLeaf_signals _ _ _ _)
  · exact d.mark_signals scope inj hn

theorem Dev.signal_signals (d : Dev) {n : Nat} (scope : Nat) (inj : Bool) (hn : n ∈ ns) (h68 : 68 ∈ ns) : d.signals ns (d.signal n scope inj) := by
  cases h : srcReserved n
  · rw [Dev.signal_eq h]
    exact (d.noted_signals scope inj hn).trans (Dev.faultEvents_signals _ _ _ _ _ h68)
  · have he : d.signal n scope inj = d := by simp [Dev.signal, h]
    rw [he]
    exact .refl _ d

/-- The source of an occurrence, FS68 aside. -/
theorem Dev.src_signal {n : Nat} (h : srcReserved n = false) (h68 : n ≠ 68) (d : Dev) (scope : Nat) (inj : Bool) :
    (d.signal n scope inj).src n = (d.src n).marked n scope d.tb2 inj (!inj || d.flt.injAct) := by
  have hn : (d.noted n scope inj).src n = (d.src n).marked n scope d.tb2 inj (!inj || d.flt.injAct) := by
    unfold Dev.noted
    split <;> exact d.src_mark n scope inj
  rw [Dev.signal_eq h, (Dev.faultEvents_signals (ns := [68]) _ _ _ _ _ (by simp)).src n (by simpa using h68), hn]

theorem Dev.once_signals (d : Dev) (n scope : Nat) : d.signals [n, 68] (d.once n scope) := d.signal_signals scope false (by simp) (by simp)

/-- An occurrence with no condition is latched and counted. -/
theorem Dev.src_once {n : Nat} (h : srcReserved n = false) (h68 : n ≠ 68) (d : Dev) (scope : Nat) :
    (d.once n scope).src n = (d.src n).marked n scope d.tb2 false true := by rw [Dev.once, Dev.src_signal h h68]; rfl

theorem Dev.condOn_signals (d : Dev) (n scope : Nat) : d.signals [n, 68] (d.condOn n scope) := by
  unfold Dev.condOn
  split
  · exact .refl _ d
  · exact (d.modSrc_signals _ (by simp)).trans (Dev.signal_signals _ _ _ (by simp) (by simp))

/-- A condition that comes is an occurrence; one that is there already changes nothing. -/
theorem Dev.src_condOn {n : Nat} (h : srcReserved n = false) (h68 : n ≠ 68) (d : Dev) (scope : Nat) :
    (d.condOn n scope).src n = if scope ∈ (d.src n).conds then d.src n
      else ({ d.src n with conds := scope :: (d.src n).conds } : Src).marked n scope d.tb2 false true := by
  unfold Dev.condOn
  by_cases hc : scope ∈ (d.src n).conds
  · simp [hc]
  · simp only [List.contains_eq_mem, hc, decide_false, Bool.false_eq_true, if_false, Dev.src_signal h h68, Dev.src_modSrc_self]
    rfl

/-- The condition then holds. -/
theorem Dev.mem_conds_condOn {n : Nat} (h : srcReserved n = false) (h68 : n ≠ 68) (d : Dev) (scope : Nat) :
    scope ∈ ((d.condOn n scope).src n).conds := by
  rw [Dev.src_condOn h h68]
  split
  · assumption
  · rw [(Src.marked_fields _ _ _ _ _ _).2.2.1]
    exact List.mem_cons_self

theorem Dev.condOff_signals (d : Dev) (n scope : Nat) : d.signals [n] (d.condOff n scope) := d.modSrc_signals _ (by simp)

/-- A condition that ends leaves the other conditions of its source. -/
theorem Dev.conds_condOff (d : Dev) (n scope : Nat) :
    ((d.condOff n scope).src n).conds = (d.src n).conds.filter (· != scope) := by simp [Dev.condOff]

theorem Dev.notify_signals (d : Dev) : d.signals ns d.notify := .quiet d.notify_same d.notify_fn_all d.notify_sentOn

end Sys2Proof.Machine

/-! The doorbells that are refused (R257, R268). -/
namespace Sys2Proof.Machine
set_option Elab.async false

/-- A word that is not 32 bits, or has a reserved bit set, is no ring index. -/
theorem ringWordOk_iff {n : Nat} {v : Word} : ringWordOk n v = true ↔ n = 4 ∧ v.toNat < 65536 := by simp [ringWordOk]

/-- A head that a doorbell may not set fails its checks. -/
theorem headOk_of_badHead {r : Ring} {n : Nat} {v : Word} (h : Obl.badHead r n v) : (ringWordOk n v && r.headOk v.toNat) = false := by
  rw [Bool.eq_false_iff, Ne, Bool.and_eq_true, ringWordOk_iff, Ring.headOk_iff]
  rintro ⟨⟨hn, hv⟩, hs, hu⟩
  obtain h | h | h | h := h
  · exact h hn
  · omega
  · omega
  · omega

theorem ownQueue_eq_false {d : Dev} {f q : Nat} (h : (d.queue q).domain ≠ f ∨ (d.queue q).state = .none) : d.ownQueue f q = false := by
  obtain h | h := h <;> simp [Dev.ownQueue, h]

@[simp] theorem Dev.inbound_ownQueue (d : Dev) (w : Bool) (b a n f q : Nat) : (d.inbound w b a n).ownQueue f q = d.ownQueue f q := rfl

/-- The doorbell write of command c ends as a refused doorbell. -/
def State.refusesDoorbell (s : State) (c : Instr) (f off : Nat) (v : Word) : Prop :=
  ∃ a g, exec c s = .next { s with d := ((s.d.inbound true 0 a 4).doorbell f off v false g).notify }

/-- A doorbell write whose checks fail is refused. -/
theorem refuses_of {s : State} {c : Instr} {f a off : Nat} {v : Word} {ok : Bool} {g w : Dev → Dev} (hr : s.d.reach f = true)
    (hc : exec c s = hostWr s f a w)
    (hw : w (s.d.inbound true 0 a 4) = (s.d.inbound true 0 a 4).doorbell f off v ok g) (hk : ok = false) :
    s.refusesDoorbell c f off v := ⟨a, g, by rw [hc, hostWr_next hr, hw, hk]⟩

section
variable {s : State} {f q n : Nat} {v : Word} (hr : s.d.reach f = true)
include hr

theorem refuses_sqTail (h : n ≠ 4 ∨ 65536 ≤ v.toNat ∨ (s.d.queue q).sqSize ≤ v.toNat ∨ (s.d.queue q).domain ≠ f ∨ (s.d.queue q).state = .none) :
    s.refusesDoorbell (.sqTail f q n v) f (0x100 + 8 * q) v := by
  have hk : (ringWordOk n v && s.d.ownQueue f q && decide (v.toNat < (s.d.queue q).sqSize)) = false := by
    rw [Bool.eq_false_iff, Ne, Bool.and_eq_true, Bool.and_eq_true, ringWordOk_iff, decide_eq_true_eq]
    rintro ⟨⟨⟨hn, hv⟩, ho⟩, hs⟩
    obtain h | h | h | h := h
    · exact h hn
    · omega
    · omega
    · rw [ownQueue_eq_false h] at ho
      cases ho
  exact refuses_of hr (exec_sqTail ..) rfl (by simpa using hk)

theorem refuses_cqHead (h : Obl.badHead (s.d.queue q).cq n v ∨ (s.d.queue q).domain ≠ f ∨ (s.d.queue q).state = .none) :
    s.refusesDoorbell (.cqHead f q n v) f (0x104 + 8 * q) v := by
  have hk : (ringWordOk n v && s.d.ownQueue f q && (s.d.queue q).cq.headOk v.toNat) = false := by
    obtain h | h := h
    · rw [Bool.and_right_comm, headOk_of_badHead h, Bool.false_and]
    · rw [ownQueue_eq_false h, Bool.and_false, Bool.false_and]
  exact refuses_of hr (exec_cqHead ..) rfl (by simpa using hk)

theorem refuses_aqSqTail (h : n ≠ 4 ∨ 65536 ≤ v.toNat ∨ 2 ^ ((s.d.fn f).aqSqs + 4) ≤ v.toNat ∨ (s.d.fn f).aqEn = false) :
    s.refusesDoorbell (.aqSqTail f n v) f 0x000 v := by
  have hk : (ringWordOk n v && (s.d.fn f).aqEn && decide (v.toNat < ringSize (s.d.fn f).aqSqs)) = false := by
    rw [Bool.eq_false_iff, Ne, Bool.and_eq_true, Bool.and_eq_true, ringWordOk_iff, decide_eq_true_eq, ringSize]
    rintro ⟨⟨⟨hn, hv⟩, he⟩, hs⟩
    obtain h | h | h | h := h
    · exact h hn
    · omega
    · omega
    · rw [h] at he
      cases he
  exact refuses_of hr (exec_aqSqTail ..) rfl (by simpa using hk)

theorem refuses_aqCqHead (h : Obl.badHead (s.d.fn f).acq n v ∨ (s.d.fn f).aqEn = false) : s.refusesDoorbell (.aqCqHead f n v) f 0x004 v := by
  have hk : (ringWordOk n v && (s.d.fn f).aqEn && (s.d.fn f).acq.headOk v.toNat) = false := by
    obtain h | h := h
    · rw [Bool.and_right_comm, headOk_of_badHead h, Bool.false_and]
    · rw [h, Bool.and_false, Bool.false_and]
  exact refuses_of hr (exec_aqCqHead ..) rfl (by simpa using hk)

theorem refuses_evtHead (h : Obl.badHead (s.d.fn f).evt n v ∨ (s.d.fn f).evtEn = false) : s.refusesDoorbell (.evtHead f n v) f 0x008 v := by
  have hk : (ringWordOk n v && (s.d.fn f).evtEn && (s.d.fn f).evt.headOk v.toNat) = false := by
    obtain h | h := h
    · rw [Bool.and_right_comm, headOk_of_badHead h, Bool.false_and]
    · rw [h, Bool.and_false, Bool.false_and]
  exact refuses_of hr (exec_evtHead ..) rfl (by simpa using hk)

theorem refuses_irqRearm (h : n ≠ 4 ∨ v ≠ 0) : s.refusesDoorbell (.irqRearm f n v) f 0x010 v := by
  have hk : (n == 4 && v == 0) = false := by
    rw [Bool.eq_false_iff, Ne, Bool.and_eq_true, beq_iff_eq, beq_iff_eq]
    exact fun ⟨hn, hv⟩ => h.elim (· hn) (· hv)
  exact refuses_of hr (exec_irqRearm ..) rfl (by simpa using hk)

end

theorem refuses_telHead {s : State} {n : Nat} {v : Word} (hr : s.d.reach 0 = true) (h : Obl.badHead s.d.io.tel.ring n v) :
    s.refusesDoorbell (.telHead 0 n v) 0 0x00C v :=
  refuses_of hr (exec_telHead ..) (if_pos rfl) (by simpa using headOk_of_badHead h)

theorem refusesDoorbell_of_bad {s : State} {f q n : Nat} {v : Word} {c : Instr} {off : Nat} (h : Obl.badDoorbell s f q n v c off)
    (hr : s.d.reach f = true) : s.refusesDoorbell c f off v := by
  obtain ⟨rfl, rfl, h⟩ | ⟨rfl, rfl, h⟩ | ⟨rfl, rfl, h⟩ | ⟨rfl, rfl, h⟩ | ⟨rfl, rfl, h⟩ | ⟨rfl, rfl, rfl, h⟩ | ⟨rfl, rfl, h⟩ := h
  · exact refuses_sqTail hr h
  · exact refuses_cqHead hr h
  · exact refuses_aqSqTail hr h
  · exact refuses_aqCqHead hr h
  · exact refuses_evtHead hr h
  · exact refuses_telHead hr h
  · exact refuses_irqRearm hr h

/-- A refused doorbell is counted and signalled; no ring but those of events moves. -/
theorem Dev.doorbell_refused_signals (d : Dev) (f off : Nat) (v : Word) (g : Dev → Dev) : d.signals [67, 68] (d.doorbell f off v false g) := by
  rw [Dev.doorbell_refused]
  exact (Dev.count_signals _ _).trans ((Dev.count_signals _ _).trans ((Dev.evt_signals _ _ _ _ _ _ _ (by simp)).trans (Dev.once_signals _ _ _)))

theorem Dev.mayWrite_of_reach {d : Dev} {f : Nat} (h : d.reach f = true) : d.mayWrite f = true := by
  simp only [Dev.reach, Bool.and_eq_true] at h
  obtain ⟨⟨⟨-, hw⟩, -⟩, -⟩ := h
  exact hw

/-- Settles O11: a doorbell that fails its checks only leaves its event and its fault occurrence. -/
theorem badDoorbellsAreReported : Obligations.BadDoorbellsAreReported := by
  intro s f q n v c off hr hq hv hm hb
  obtain ⟨a, g, he⟩ := refusesDoorbell_of_bad hb hr
  have hs : s.d.signals [67, 68] ((s.d.inbound true 0 a 4).doorbell f off v false g).notify :=
    (Dev.signals.quiet (s.d.inbound_same _ _ _ _)).trans ((Dev.doorbell_refused_signals _ _ _ _ _).trans (Dev.notify_signals _))
  have hw : (s.d.inbound true 0 a 4).evtWritten f = true := by
    change s.d.evtWritten f = true
    simp [Dev.evtWritten, hv, hm, Dev.mayWrite_of_reach hr]
  obtain ⟨l, hl⟩ := Dev.doorbell_refused_out hw off v g
  obtain ⟨m, hn⟩ := ((s.d.inbound true 0 a 4).doorbell f off v false g).notify_sentOn
  obtain ⟨-, -, -, -, -, -, -, htail, hacq, -⟩ := (hs.fn f).fields
  obtain ⟨-, hhead, -⟩ := hs.fn f
  refine ⟨_, m ++ l, he, hs.same .queues (by decide), htail, hacq, hhead, ?_, rfl, rfl, rfl, rfl, hs.same⟩
  rw [hn, hl, List.append_assoc]
  rfl

end Sys2Proof.Machine

/-! Commands that complete where they execute (R70, R261, R277, R279). -/
namespace Sys2Proof.Machine
set_option Elab.async false

/-! ## Blocks of equal length -/

/-- The k-th block of a list of blocks of equal length. -/
theorem take_drop_flatMap {α β : Type} {f : α → List β} {m : Nat} : ∀ {l : List α} {k : Nat} (hk : k < l.length),
    (∀ a ∈ l, (f a).length = m) → ((l.flatMap f).drop (m * k)).take m = f l[k] := by
  intro l
  induction l with
  | nil => intro k hk _; simp at hk
  | cons a l ih =>
    intro k hk h
    have ha : (f a).length = m := h a (by simp)
    cases k with
    | zero => simp [← ha]
    | succ k =>
      have hd : m * (k + 1) = (f a).length + m * k := by rw [ha, Nat.mul_succ, Nat.add_comm]
      rw [List.flatMap_cons, hd, List.drop_append, List.drop_eq_nil_of_le (Nat.le_add_right _ _), List.nil_append, Nat.add_sub_cancel_left]
      exact ih (by simpa using hk) (fun b hb => h b (by simp [hb]))

/-- The length of a list of blocks of equal length. -/
theorem length_flatMap_const {α β : Type} {f : α → List β} {m : Nat} {l : List α} (h : ∀ a ∈ l, (f a).length = m) :
    (l.flatMap f).length = m * l.length := by
  induction l with
  | nil => simp
  | cons a l ih =>
    rw [List.flatMap_cons, List.length_append, h a (by simp), ih (fun b hb => h b (by simp [hb])), List.length_cons, Nat.mul_succ, Nat.add_comm]

@[simp] theorem length_bytesLE (v n : Nat) : (bytesLE v n).length = n := by
  induction n generalizing v with
  | zero => rfl
  | succ n ih => simp [bytesLE, ih]

/-! ## A command alone in its queue -/

theorem front_op {s : State} {q op : Nat} {c : Cmd} (h : Obl.front s q op c) : sqeOp c.sqe = op := (Dev.ready_spec h.1).1

/-- The only command of its queue completes with comp, after what its execution has sent. -/
theorem front_completes {s : State} {q op : Nat} {c : Cmd} {d : Dev} {sent : List Out} (h : Obl.front s q op c) (hs : sqeStop c.sqe = false)
    (comp : Comp) (hd : Dev.sameBut [] s.d d := by exact .refl _ _) (ho : d.io.out = sent ++ s.d.io.out := by rfl) :
    State.answers s { s with d := (d.complete q c.idx comp).notify } q sent { comp with cid := sqeCid c.sqe } ∧
      State.sameBut [.queues, .cmt, .mon] s { s with d := (d.complete q c.idx comp).notify } := by
  obtain ⟨-, hc, ha⟩ := h
  have hq : d.queue q = s.d.queue q := by rw [Dev.queue, hd .queues (by simp), Dev.queue]
  refine ⟨State.answers_complete comp hq ho hc ha hs, finish_same ((hd.up _).trans (Dev.complete_only_same comp ?_ ?_ hs))⟩
  · rw [hq, hc]
  · rw [hq, ha]

/-! ## Reserved bits (R261) -/

/-- A command refused by its first check completes MALFORMED and has no effect. -/
def State.malformed (s : State) (q op : Nat) (c : Cmd) : State := { s with d := (s.d.complete q c.idx (baseComp op stMalformed)).notify }

section
variable {s : State} {q op : Nat} {c : Cmd} (h : Obl.front s q op c) (hx : sqeClean c.sqe = false)
include h hx

theorem exec_batch_unclean : finish s (s.d.runBatch q c) = .next (s.malformed q op c) := by
  simp [Dev.runBatch, batchFieldsOk, listFieldsOk, hx, front_op h, finish, State.malformed]

/-- A command of any opcode with a reserved bit set is refused. -/
theorem exec_unclean {n : Nat} {i : Instr} (hi : (op, i) ∈ [(1, Instr.connectBatch q), (2, .attenSet q), (3, .fence q), (4, .queryConn q), (5, .calRun q),
      (6, .snapshot q), (7, .cellDirect q), (8, .loopMode q), (9, .seqLoad ⟨q, n⟩), (10, .nop q)]) (hl : s.d.seq.loads = []) :
    exec i s = .next (s.malformed q op c) := by
  have hr : s.d.ready q op = some c := h.1
  simp only [List.mem_cons, List.not_mem_nil, or_false, Prod.mk.injEq] at hi
  obtain ⟨rfl, rfl⟩ | ⟨rfl, rfl⟩ | ⟨rfl, rfl⟩ | ⟨rfl, rfl⟩ | ⟨rfl, rfl⟩ | ⟨rfl, rfl⟩ | ⟨rfl, rfl⟩ | ⟨rfl, rfl⟩ | ⟨rfl, rfl⟩ | ⟨rfl, rfl⟩ := hi
  · rw [exec_connectBatch, execConnectBatch, onFront_of_ready hr, exec_batch_unclean h hx]
  · rw [exec_attenSet, execAttenSet, onFront_of_ready hr]
    simp [Dev.runAttenSet, listFieldsOk, hx, finish, State.malformed]
  · rw [exec_fence, execFence, onFront_of_ready hr]
    simp [hx, finish, State.malformed]
  · rw [exec_queryConn, execQueryConn, onFront_of_ready hr]
    simp [queryFieldsOk, hx, finish, State.malformed]
  · rw [exec_calRun, execCalRun, onFront_of_ready hr]
    simp [Dev.runCal, calFieldsOk, hx, finish, State.malformed]
  · rw [exec_snapshot, execSnapshot, onFront_of_ready hr]
    simp [Dev.runSnapshot, snapFieldsOk, hx, finish, State.malformed]
  · rw [exec_cellDirect, execCellDirect, onFront_of_ready hr, exec_batch_unclean h hx]
  · rw [exec_loopMode, execLoopMode, onFront_of_ready hr]
    simp [Dev.runLoopMode, listFieldsOk, hx, finish, State.malformed]
  · have hn : ∀ d : Dev, d.seq.loads = [] → d.loading q = none := fun d hd => by simp [Dev.loading, hd]
    have hb : s.d.beginLoad q c = s.d.complete q c.idx (baseComp 9 stMalformed) := by simp [Dev.beginLoad, loadFieldsOk, hx]
    have hc : (s.d.complete q c.idx (baseComp 9 stMalformed)).seq.loads = [] := by
      rw [s.d.complete_same q c.idx _ .seq (by simp), hl]
    rw [exec_seqLoad, execSeqLoad]
    simp only [hn s.d hl, Option.isSome_none, Bool.false_eq_true, if_false, onFront_of_ready hr, hb, hn _ hc]
    rfl
  · rw [exec_nop, execNop, onFront_of_ready hr]
    simp [hx, finish, State.malformed]

end

/-! ## FENCE and QUERY_CONN -/

/-- A FENCE of its own queue, alone in it, completes with CMT_ESN. -/
theorem exec_fence_front {s : State} {q : Nat} {c : Cmd} (h : Obl.front s q 3 c) (hx : sqeClean c.sqe = true) (hs : sqeField c.sqe 8 1 = 0)
    (he : c.executed = false) : exec (.fence q) s = .next { s with d := (s.d.complete q c.idx { esn := s.d.cmt.esn }).notify } := by
  rw [exec_fence, execFence, onFront_of_ready h.1]
  simp [hx, hs, Dev.fenceQueues, h.2.1, he, finish]

/-- The records that QUERY_CONN writes, 16 bytes a port. -/
def State.queryData (s : State) (q : Nat) (c : Cmd) : List Byte :=
  (List.range (sqeField c.sqe 18 2)).flatMap (fun k => (List.range 4).flatMap (fun w =>
    bytesLE (s.d.queryWord s.net (s.d.queue q).domain (sqeField c.sqe 16 2 + k) w) 4))

theorem State.length_queryRecord (s : State) (dom p : Nat) :
    ((List.range 4).flatMap (fun w => bytesLE (s.d.queryWord s.net dom p w) 4)).length = 16 := by
  rw [length_flatMap_const (m := 4) (fun _ _ => length_bytesLE _ _), List.length_range]

theorem State.length_queryData (s : State) (q : Nat) (c : Cmd) : (s.queryData q c).length = 16 * sqeField c.sqe 18 2 := by
  rw [State.queryData, length_flatMap_const (fun _ _ => s.length_queryRecord _ _), List.length_range]

/-- Word w of record k stands at its place. -/
theorem State.queryData_word (s : State) (q : Nat) (c : Cmd) {k w : Nat} (hk : k < sqeField c.sqe 18 2) (hw : w < 4) :
    ((s.queryData q c).drop (16 * k + 4 * w)).take 4 =
      bytesLE (s.d.queryWord s.net (s.d.queue q).domain (sqeField c.sqe 16 2 + k) w) 4 := by
  have hrec : ((s.queryData q c).drop (16 * k)).take 16 = _ :=
    take_drop_flatMap (m := 16) (k := k) (by simpa using hk) (fun _ _ => s.length_queryRecord _ _)
  have hword := take_drop_flatMap (f := fun w => bytesLE (s.d.queryWord s.net (s.d.queue q).domain (sqeField c.sqe 16 2 + k) w) 4) (m := 4)
    (l := List.range 4) (k := w) (by simpa using hw) (fun _ _ => length_bytesLE _ _)
  rw [List.getElem_range] at hrec hword
  rw [← hword, ← hrec, List.drop_take, List.take_take, List.drop_drop, Nat.min_eq_left (by omega)]

theorem exec_queryConn_front {s : State} {q : Nat} {c : Cmd} (h : Obl.front s q 4 c) (hf : queryFieldsOk c.sqe = true) :
    exec (.queryConn q) s = .next { s with d := ((s.d.toHost (sqeAddr c.sqe) (s.queryData q c).length (.hostBulk (sqeAddr c.sqe) (s.queryData q c))).complete
      q c.idx { esn := s.d.cmt.esn, dw2 := sqeField c.sqe 18 2 }).notify } := by
  rw [exec_queryConn, execQueryConn, onFront_of_ready h.1]
  simp only [hf]
  rfl

/-- Settles O13: each command's checks, and its completion alone in its queue. -/
theorem simpleCommandsComplete : Obligations.SimpleCommandsComplete := by
  refine ⟨?unclean, ?nop, ?fence, ?query⟩
  case unclean =>
    intro s q op n c i hi h hl hx hs
    exact ⟨_, exec_unclean h hx hi hl, front_completes h hs _⟩
  case nop =>
    intro s q c h hx
    have hn := exec_nop_front h
    simpa only [nopStatus, hx, if_true] using hn
  case fence =>
    intro s q c h hx hs he
    have hstop : sqeStop c.sqe = false := sqeStop_eq_false (by simp [front_op h]) (by simp [front_op h])
    exact ⟨_, exec_fence_front h hx hs he, front_completes h hstop _⟩
  case query =>
    intro s q c h hx ha h1 h2
    have hstop : sqeStop c.sqe = false := sqeStop_eq_false (by simp [front_op h]) (by simp [front_op h])
    have hf : queryFieldsOk c.sqe = true := by simp [queryFieldsOk, hx, ha, h1, h2]
    obtain ⟨hans, hsame⟩ := front_completes (sent := [.hostBulk (sqeAddr c.sqe) (s.queryData q c)]) h hstop { esn := s.d.cmt.esn, dw2 := sqeField c.sqe 18 2 }
      (s.d.toHost_same (sqeAddr c.sqe) (s.queryData q c).length (.hostBulk (sqeAddr c.sqe) (s.queryData q c)))
    exact ⟨_, s.queryData q c, exec_queryConn_front h hf, hans, s.length_queryData q c, fun k w hk hw => s.queryData_word q c hk hw, hsame⟩

end Sys2Proof.Machine

/-! Commands that wait for an instant of their own, and SEQ_LOAD (R38, R66, R164, R220, R278). -/
namespace Sys2Proof.Machine
set_option Elab.async false

/-! ## Bytes written one after another -/

theorem Memory.writeBytes_append (xs ys : List Byte) : ∀ (m : List (Nat × Byte)) (a : Nat),
    Memory.writeBytes m a (xs ++ ys) = Memory.writeBytes (Memory.writeBytes m a xs) (a + xs.length) ys := by
  induction xs with
  | nil => intro m a; rfl
  | cons x xs ih =>
    intro m a
    rw [List.cons_append, Memory.writeBytes, ih, Memory.writeBytes, List.length_cons, Nat.add_comm xs.length, Nat.add_assoc]

/-- A number read from the bytes of a number. -/
theorem Memory.readNat_of_bytes {m : List (Nat × Byte)} : ∀ (n a v : Nat),
    (∀ i (h : i < n), Memory.read m (a + i) = (bytesLE v n)[i]'(by simpa using h)) → Memory.readNat m a n = v % 256 ^ n := by
  intro n
  induction n with
  | zero => intro a v _; simp [Memory.readNat, Nat.mod_one]
  | succ n ih =>
    intro a v h
    have h0 : Memory.read m a = BitVec.ofNat 8 v := h 0 (Nat.succ_pos n)
    have hr : Memory.readNat m (a + 1) n = v / 256 % 256 ^ n := by
      refine ih _ _ (fun i hi => ?_)
      have := h (i + 1) (Nat.succ_lt_succ hi)
      rw [Nat.add_assoc, Nat.add_comm 1 i, this]
      rfl
    have hv : v % 256 ^ (n + 1) = v % 256 + 256 * (v / 256 % 256 ^ n) := by rw [Nat.pow_succ', Nat.mod_mul]
    rw [Memory.readNat, h0, hr, BitVec.toNat_ofNat, hv]

/-- May a sample be written: it exists, is not of an active segment, and not of a refill segment while refill is enabled (R209, R213, R218)? -/
def Dev.takesSample (dma : Bool) (d : Dev) (sample : Nat) : Prop :=
  sample < 131072 ∧ d.activeAt sample = false ∧ (dma = true ∨ d.refillOnly sample = false)

theorem sampleWrite_of_takes {dma : Bool} {m : Mem} {d : Dev} {a : Nat} (bs : List Byte) (h : d.takesSample dma (a / 8)) :
    sampleWrite dma m d a bs = ({ m with pattern := Memory.writeBytes m.pattern a bs }, d) := by
  obtain ⟨hl, ha, hr⟩ := h
  unfold sampleWrite
  rw [if_neg (Nat.not_le_of_lt hl), ha]
  obtain rfl | hr := hr
  · simp
  · simp [hr]

/-- Whole samples that may all be written are written, and nothing else happens. -/
theorem patternPut_of_takes {dma : Bool} {m : Mem} {d : Dev} {first n : Nat} {bs : List Byte} (hl : bs.length = 8 * n)
    (h : ∀ k, k < n → d.takesSample dma (first + k)) :
    patternPut dma m d (8 * first) bs = ({ m with pattern := Memory.writeBytes m.pattern (8 * first) bs }, d) := by
  have hfirst : 8 * first / 8 = first := by omega
  have hn : (8 * first + bs.length + 7) / 8 - first = n := by omega
  have key : ∀ j, j ≤ n → (List.range j).foldl (fun (a : Mem × Dev) k =>
      sampleWrite dma a.1 a.2 (max (8 * first) (8 * (first + k)))
        ((bs.drop (max (8 * first) (8 * (first + k)) - 8 * first)).take
          (min (8 * first + bs.length) (8 * (first + k) + 8) - max (8 * first) (8 * (first + k))))) (m, d) =
      ({ m with pattern := Memory.writeBytes m.pattern (8 * first) (bs.take (8 * j)) }, d) := by
    intro j
    induction j with
    | zero => intro _; simp [Memory.writeBytes]
    | succ j ih =>
      intro hj
      have hmax : max (8 * first) (8 * (first + j)) = 8 * first + 8 * j := by omega
      have hmin : min (8 * first + bs.length) (8 * (first + j) + 8) = 8 * first + 8 * j + 8 := by omega
      have hs : (8 * first + 8 * j) / 8 = first + j := by omega
      rw [List.range_succ, List.foldl_append, ih (by omega), List.foldl_cons, List.foldl_nil, hmax, hmin, Nat.add_sub_cancel_left,
        Nat.add_sub_cancel_left, sampleWrite_of_takes _ (by rw [hs]; exact h j hj), Nat.mul_succ, List.take_add, Memory.writeBytes_append]
      have ht : (bs.take (8 * j)).length = 8 * j := by rw [List.length_take]; omega
      rw [ht]
  unfold patternPut
  rw [hfirst]
  dsimp only
  rw [hn, key n le_rfl, ← hl, List.take_length]

/-- The bytes of samples, eight each. -/
def sampleBytes (ws : List DWord) : List Byte := ws.flatMap (fun w => bytesLE w.toNat 8)

theorem length_sampleBytes (ws : List DWord) : (sampleBytes ws).length = 8 * ws.length := length_flatMap_const (fun _ _ => length_bytesLE _ _)

/-- Each sample written reads back. -/
theorem Memory.readNat_writeBytes_sample (m : List (Nat × Byte)) (first : Nat) {ws : List DWord} {k : Nat} {w : DWord} (hk : ws[k]? = some w) :
    Memory.readNat (Memory.writeBytes m (8 * first) (sampleBytes ws)) (8 * (first + k)) 8 = w.toNat := by
  obtain ⟨hlt, hw⟩ := List.getElem?_eq_some_iff.mp hk
  have hb : ((sampleBytes ws).drop (8 * k)).take 8 = bytesLE w.toNat 8 := by
    rw [← hw]
    exact take_drop_flatMap hlt (fun _ _ => length_bytesLE _ _)
  have hlen := length_sampleBytes ws
  have hr : Memory.readNat (Memory.writeBytes m (8 * first) (sampleBytes ws)) (8 * (first + k)) 8 = w.toNat % 256 ^ 8 := by
    refine Memory.readNat_of_bytes 8 _ _ (fun i hi => ?_)
    have ha : 8 * (first + k) + i = 8 * first + (8 * k + i) := by omega
    rw [ha, Memory.read_writeBytes_in _ _ _ _ (by omega)]
    simp only [← hb, List.getElem_take, List.getElem_drop]
  rw [hr]
  exact Nat.mod_eq_of_lt (by have := w.isLt; omega)

/-! ## Commands that wait -/

/-- The only command of a queue, marked. -/
theorem modCmd_only {x : Queue} {c : Cmd} (h : x.cmds = [c]) (f : Cmd → Cmd) : (x.modCmd c.idx f).cmds = [f c] := by simp [Queue.modCmd, h]

/-- Executed, the only command of its queue is marked, and nothing else changes. -/
theorem setExecuted_only {s : State} {q op : Nat} {c : Cmd} (h : Obl.front s q op c) (effect : Bool) :
    ((s.d.setExecuted q c.idx effect).queue q).cmds = [{ c with executed := true, effect := effect }] := by
  rw [Dev.setExecuted, Dev.queue_modQueue_self, modCmd_only h.2.1]

theorem Dev.setExecuted_same (d : Dev) (q idx : Nat) (effect : Bool) : Dev.sameBut [.queues] d (d.setExecuted q idx effect) := d.modQueue_same q _

section
variable {s : State} {q : Nat} {c : Cmd}

/-- A batch whose fields pass waits for the route engine (R38, R40). -/
theorem runBatch_of_fields (d : Dev) (hf : listFieldsOk c.sqe = true) (h : sqeOp c.sqe = 1 ∨ (d.queue q).domain = 0) :
    d.runBatch q c = d.setExecuted q c.idx false := by
  have hb : batchFieldsOk c.sqe (d.queue q).domain = true := by
    obtain h | h := h <;> simp [batchFieldsOk, hf, h]
  rw [Dev.runBatch, hb]
  rfl

/-- Every entry of an ATTEN_SET passes (R48). -/
theorem attCheck_eq_none {d : Dev} {dom : Nat} : ∀ {i : Nat} {es : List AttEnt},
    (∀ e ∈ es, e.ok = true ∧ (dom = 0 ∨ d.owner e.side e.port = dom)) → attCheck d dom i es = none := by
  intro i es
  induction es generalizing i with
  | nil => intro _; rfl
  | cons e es ih =>
    intro h
    obtain ⟨hok, hown⟩ := h e (by simp)
    have hn : (dom != 0 && d.owner e.side e.port != dom) = false := by
      obtain h | h := hown <;> simp [h]
    rw [attCheck, hok, hn]
    exact ih (fun e' he => h e' (by simp [he]))

/-- The job that an ATTEN_SET leaves. -/
def attJobOf (d : Dev) (q : Nat) (c : Cmd) : AttJob :=
  { q := q, idx := c.idx, ents := c.payload.map (fun w => ((attEnt w).side * 512 + (attEnt w).port, (attEnt w).att)),
    wait := bitOf (sqeFlags c.sqe) 0, at2 := d.tb2 }

/-- The job that a SNAPSHOT leaves. -/
def snapJobOf (d : Dev) (q : Nat) (c : Cmd) : SnapJob :=
  { q := q, idx := c.idx, addr := sqeAddr c.sqe, len := sqeField c.sqe 16 4, trig := sqeField c.sqe 20 1, time := sqeField c.sqe 24 8,
    dom := (d.queue q).domain, at2 := d.tb2 }

theorem exec_attenSet_front (h : Obl.front s q 2 c) (hf : listFieldsOk c.sqe = true)
    (hp : ∀ w ∈ c.payload, (attEnt w).ok = true ∧ ((s.d.queue q).domain = 0 ∨ s.d.owner (attEnt w).side (attEnt w).port = (s.d.queue q).domain)) :
    exec (.attenSet q) s = finish s { s.d.setExecuted q c.idx false with jobs := { s.d.jobs with att := s.d.jobs.att ++ [attJobOf s.d q c] } } := by
  have hc : attCheck s.d (s.d.queue q).domain 0 (c.payload.map attEnt) = none := attCheck_eq_none (by simpa using hp)
  rw [exec_attenSet, execAttenSet, onFront_of_ready h.1]
  simp only [Dev.runAttenSet, hf, hc, List.map_map]
  rfl

theorem exec_loopMode_front (h : Obl.front s q 8 c) (hf : listFieldsOk c.sqe = true)
    (hc : loopCheck s.net s.d (s.d.queue q).domain 0 (c.payload.map loopEnt) = none) :
    exec (.loopMode q) s = finish s { s.d.setExecuted q c.idx false with jobs := { s.d.jobs with lm := s.d.jobs.lm ++ [{
      q := q, idx := c.idx, ents := c.payload, at2 := s.d.tb2 }] } } := by
  rw [exec_loopMode, execLoopMode, onFront_of_ready h.1]
  simp only [Dev.runLoopMode, hf, hc]
  rfl

theorem exec_snapshot_front (h : Obl.front s q 6 c) (hf : snapFieldsOk c.sqe (s.d.queue q).domain = true) :
    exec (.snapshot q) s = finish s { s.d.setExecuted q c.idx false with jobs := { s.d.jobs with snap := s.d.jobs.snap ++ [snapJobOf s.d q c] } } := by
  rw [exec_snapshot, execSnapshot, onFront_of_ready h.1]
  simp only [Dev.runSnapshot, hf]
  rfl

/-- The run that a CAL_RUN asks for. -/
def calRunOf (q : Nat) (c : Cmd) : CalRun :=
  { q := q, idx := c.idx, report := sqeAddr c.sqe, reportMax := sqeField c.sqe 16 2, clear := calAction c.sqe == 1,
    tiles := calTiles (calScope c.sqe) (calTarget c.sqe), kinds := calKinds c.sqe, flMask := calFlMask c.sqe,
    flTodo := if bitOf (calKinds c.sqe) 4 then (List.range 128).filter (bitOf (calFlMask c.sqe)) else [] }

/-- Behind a run, a CAL_RUN waits. -/
theorem exec_calRun_behind (h : Obl.front s q 5 c) (hd : (s.d.queue q).domain = 0) (hf : calFieldsOk c.sqe = true) (hr : s.d.cal.run.isSome = true) :
    exec (.calRun q) s = finish s { (s.d.setExecuted q c.idx true).count 3024 with
      cal := { s.d.cal with waiting := s.d.cal.waiting ++ [calRunOf q c] } } := by
  have hr' : ((s.d.setExecuted q c.idx true).count 3024).cal.run.isSome = true := hr
  rw [exec_calRun, execCalRun, onFront_of_ready h.1]
  simp only [Dev.runCal, hd, hf, hr']
  rfl

end

end Sys2Proof.Machine

/-! SEQ_LOAD (R213, R220, R297). -/
namespace Sys2Proof.Machine
set_option Elab.async false

/-- The completion of a queue's only command answers it, whatever of its entry has been marked. -/
theorem State.answers_marked {s t : State} {d : Dev} {q : Nat} {c : Cmd} {sent : List Out} (comp : Comp)
    (ht : t.d = (d.complete q c.idx comp).notify) (hcq : (d.queue q).cq = (s.d.queue q).cq) (hh : (d.queue q).head = (s.d.queue q).head)
    (ho : d.io.out = sent ++ s.d.io.out) (hc : (d.queue q).cmds = [c]) (ha : (d.queue q).abort = none) (hs : sqeStop c.sqe = false) :
    State.answers s t q sent { comp with cid := sqeCid c.sqe } := by
  obtain ⟨later, hl⟩ := (d.complete q c.idx comp).notify_sentOn
  unfold State.answers
  rw [ht]
  refine ⟨⟨later, ?_⟩, ?_, ?_⟩
  · rw [hl, Dev.complete_only comp hc ha hs]
    simp [Queue.modCmd, hcq, hh, ho]
  · simp [Dev.complete_only comp hc ha hs, Dev.cqPush_queue]
  · simp [Dev.complete_only comp hc ha hs, Dev.cqPush_queue, Queue.modCmd, hcq]

/-- The running copy of a SEQ_LOAD. -/
def segLoadOf (d : Dev) (q : Nat) (c : Cmd) : SegLoad :=
  { q := q, idx := c.idx, seg := sqeField c.sqe 16 1, first := (d.seq.desc (sqeField c.sqe 16 1)).base + sqeField c.sqe 20 4 }

/-- A command executed that has not yet taken effect. -/
def Cmd.begun (c : Cmd) : Cmd := { c with executed := true, effect := false }

/-- What a SEQ_LOAD that begins leaves. -/
def Dev.loadBegun (d : Dev) (q : Nat) (c : Cmd) : Dev :=
  { d.setExecuted q c.idx false with seq := { d.seq with loads := d.seq.loads ++ [segLoadOf d q c] } }

theorem Dev.beginLoad_of {d : Dev} {q : Nat} {c : Cmd} (hf : loadFieldsOk d.seq c.sqe (d.queue q).domain = true)
    (ha : d.segActive (sqeField c.sqe 16 1) = false) (hr : d.seq.rfEn = false) : d.beginLoad q c = d.loadBegun q c := by
  rw [Dev.beginLoad]
  dsimp only
  rw [if_neg (by simp [hf]), if_neg (by simp [ha]), if_neg (by simp [hr])]
  rfl

section
variable {s : State} {q n : Nat} {c : Cmd} (h : Obl.front s q 9 c) (hl : s.d.seq.loads = [])
include h hl

theorem loadBegun_loading : (s.d.loadBegun q c).loading q = some (segLoadOf s.d q c, c.begun) := by
  have hc : ((s.d.loadBegun q c).queue q).cmds = [c.begun] := setExecuted_only h false
  have hx : (s.d.loadBegun q c).seq.loads = [segLoadOf s.d q c] := congrArg (· ++ [segLoadOf s.d q c]) hl
  simp [Dev.loading, hc, hx, segLoadOf, Cmd.begun]

/-- A SEQ_LOAD that begins copies at once. -/
theorem exec_seqLoad_begins (hf : loadFieldsOk s.d.seq c.sqe (s.d.queue q).domain = true) (ha : s.d.segActive (sqeField c.sqe 16 1) = false)
    (hr : s.d.seq.rfEn = false) :
    exec (.seqLoad ⟨q, n⟩) s =
      .next { State.copyLoad { s with d := s.d.loadBegun q c } (segLoadOf s.d q c) c.begun n with
        d := (State.copyLoad { s with d := s.d.loadBegun q c } (segLoadOf s.d q c) c.begun n).d.notify } := by
  have hn : s.d.loading q = none := by simp [Dev.loading, hl]
  rw [exec_seqLoad, execSeqLoad]
  simp only [hn, Option.isSome_none, Bool.false_eq_true, if_false, onFront_of_ready h.1, Dev.beginLoad_of hf ha hr, loadBegun_loading h hl]

end

/-- The first n samples of a copy that no sequencer state refuses: all that came are written. -/
theorem copyLoad_put {d : Dev} {m : Mem} {first n : Nat} {ws : List DWord} (hlen : first + ws.length ≤ 131072)
    (ha : ∀ g, g < 64 → d.segActive g = false) (hr : d.seq.rfEn = false) :
    patternPut false m d (8 * first) (sampleBytes (ws.take n)) =
      ({ m with pattern := Memory.writeBytes m.pattern (8 * first) (sampleBytes (ws.take n)) }, d) := by
  refine patternPut_of_takes (length_sampleBytes _) (fun k hk => ?_)
  rw [List.length_take] at hk
  refine ⟨by omega, ?_, .inr (by simp [Dev.refillOnly, hr])⟩
  rw [Dev.activeAt, List.any_eq_false]
  intro g hg
  simp [ha g (List.mem_range.mp hg)]

/-- A copy that begins makes no segment active. -/
theorem segActive_loadBegun {d : Dev} {q g : Nat} {c : Cmd} (h : d.segActive g = false) : (d.loadBegun q c).segActive g = false := by
  have hr : (d.loadBegun q c).segReady g = (d.segReady g && !((segLoadOf d q c).seg == g)) := by
    simp only [Dev.segReady, Dev.loadBegun, List.any_append, List.any_cons, List.any_nil, Bool.or_false, Bool.not_or, ← Bool.and_assoc]
    rfl
  unfold Dev.segActive at h ⊢
  rw [hr]
  change ((d.seq.state == .running && (d.seq.seg == g || (d.seq.next == .go g && (d.segReady g && !((segLoadOf d q c).seg == g))))) ||
    (d.drv.shapeLoad && d.drv.copySeg == g)) = false
  cases (segLoadOf d q c).seg == g
  · simpa only [Bool.not_false, Bool.and_true] using h
  · simp only [Bool.or_eq_false_iff, Bool.and_eq_false_iff] at h ⊢
    tauto

/-- A queue's command marked, once a sample of it has been copied (R297). -/
def Dev.copying (d : Dev) (q idx : Nat) (b : Bool) : Dev := if b then d.setExecuted q idx true else d

/-- The copy of the first n samples, alone among the copies: their bytes are written, and the command goes on or completes. -/
theorem copyLoad_first {s : State} {x : SegLoad} {c : Cmd} {n : Nat} (hx : x.pos = 0) (hl : s.d.seq.loads = [x])
    (ha : ∀ g, g < 64 → s.d.segActive g = false) (hr : s.d.seq.rfEn = false) (hlen : x.first + c.payload.length ≤ 131072) :
    (s.copyLoad x c n).mem = { s.mem with pattern := Memory.writeBytes s.mem.pattern (8 * x.first) (sampleBytes (c.payload.take n)) } ∧
    (s.copyLoad x c n).net = s.net ∧ (s.copyLoad x c n).isl = s.isl ∧ (s.copyLoad x c n).pending = s.pending ∧
    (s.copyLoad x c n).d = if n < c.payload.length
      then { s.d.copying x.q x.idx (decide (0 < n)) with seq := { s.d.seq with loads := [{ x with pos := n }] } }
      else ({ s.d.copying x.q x.idx (decide (0 < c.payload.length)) with seq := { s.d.seq with loads := [], readyAt := s.d.tb2 } }).complete x.q
        x.idx (baseComp 9 (if c.short then stFetch else stOk)) := by
  have hput := copyLoad_put (m := s.mem) (n := n) hlen ha hr
  have hfilter : s.d.seq.loads.filter (fun z => z != x) = [] := by simp [hl]
  have hlt : (c.payload.take n).length = min n c.payload.length := List.length_take
  have hmark : ∀ k, (if 0 < k then s.d.setExecuted x.q x.idx true else s.d) = s.d.copying x.q x.idx (decide (0 < k)) := by
    intro k
    simp [Dev.copying]
  have hseq : ∀ b, (s.d.copying x.q x.idx b).seq = s.d.seq := fun b => by cases b <;> rfl
  have htb2 : ∀ b, (s.d.copying x.q x.idx b).tb2 = s.d.tb2 := fun b => by cases b <;> rfl
  unfold State.copyLoad
  rw [hx, List.drop_zero, Nat.add_zero]
  dsimp only
  rw [show (c.payload.take n).flatMap (fun w => bytesLE w.toNat 8) = sampleBytes (c.payload.take n) from rfl, hput, Nat.zero_add, hlt]
  dsimp only
  refine ⟨rfl, rfl, rfl, rfl, ?_⟩
  rw [hmark, hseq, htb2, hfilter, List.nil_append]
  obtain h | h := Nat.lt_or_ge n c.payload.length
  · rw [if_pos h, Nat.min_eq_left h.le, if_pos h]
  · rw [if_neg (Nat.not_lt_of_le h), Nat.min_eq_right h, if_neg (Nat.lt_irrefl _)]

/-- A load that begins, and marks its command with its first sample, leaves the queue's ring. -/
theorem loadBegun_copying {s : State} {q : Nat} {c : Cmd} (h : Obl.front s q 9 c) (b : Bool) :
    (((s.d.loadBegun q c).copying q c.idx b).queue q).cmds = [{ c with executed := true, effect := b }] ∧
    (((s.d.loadBegun q c).copying q c.idx b).queue q).cq = (s.d.queue q).cq ∧
    (((s.d.loadBegun q c).copying q c.idx b).queue q).head = (s.d.queue q).head ∧
    (((s.d.loadBegun q c).copying q c.idx b).queue q).abort = none ∧
    ((s.d.loadBegun q c).copying q c.idx b).io.out = s.d.io.out ∧
    Dev.sameBut [.queues, .cmt, .mon, .seq] s.d ((s.d.loadBegun q c).copying q c.idx b) := by
  have hc : ((s.d.loadBegun q c).queue q).cmds = [c.begun] := setExecuted_only h false
  have hq : (s.d.loadBegun q c).queue q = (s.d.queue q).modCmd c.idx Cmd.begun := Dev.queue_modQueue_self _ _ _
  have hcq : ((s.d.loadBegun q c).queue q).cq = (s.d.queue q).cq := by rw [hq]; rfl
  have hhead : ((s.d.loadBegun q c).queue q).head = (s.d.queue q).head := by rw [hq]; rfl
  have habort : ((s.d.loadBegun q c).queue q).abort = none := by rw [hq]; exact h.2.2
  have hs : Dev.sameBut [.queues, .cmt, .mon, .seq] s.d (s.d.loadBegun q c) :=
    ((Dev.setExecuted_same _ _ _ _).up _).trans (Dev.sameBut.up _ (Dev.withSeq_same (s.d.setExecuted q c.idx false) _))
  cases b with
  | false => exact ⟨hc, hcq, hhead, habort, rfl, hs⟩
  | true =>
    refine ⟨?_, ?_, ?_, ?_, rfl, hs.trans ((Dev.setExecuted_same _ _ _ _).up _)⟩ <;> unfold Dev.copying <;>
      rw [if_pos rfl, Dev.setExecuted, Dev.queue_modQueue_self]
    · exact modCmd_only hc _
    · exact hcq
    · exact hhead
    · exact habort

/-- A completion after a write of the sequencer's registers. -/
theorem Dev.complete_withSeq_same {d : Dev} {q : Nat} {c : Cmd} (x : Machine.Seq) (comp : Comp) (hc : (d.queue q).cmds = [c])
    (ha : (d.queue q).abort = none) (hs : sqeStop c.sqe = false) :
    Dev.sameBut [.queues, .cmt, .mon, .seq] d (({ d with seq := x }).complete q c.idx comp) :=
  ((d.withSeq_same x).up _).trans ((Dev.complete_only_same (d := { d with seq := x }) comp hc ha hs).up _)

/-- SEQ_LOAD's samples, its command and its completion (R213, R220, R297). -/
theorem exec_seqLoad_first {s : State} {q n : Nat} {c : Cmd} (h : Obl.front s q 9 c) (hf : loadFieldsOk s.d.seq c.sqe (s.d.queue q).domain = true)
    (hlen : (segLoadOf s.d q c).first + c.payload.length ≤ 131072) (ha : ∀ g, g < 64 → s.d.segActive g = false) (hr : s.d.seq.rfEn = false)
    (hl : s.d.seq.loads = []) (hn : 0 < n) :
    ∃ t, exec (.seqLoad ⟨q, n⟩) s = .next t ∧
      t.mem = { s.mem with pattern := Memory.writeBytes s.mem.pattern (8 * (segLoadOf s.d q c).first) (sampleBytes (c.payload.take n)) } ∧
      (c.payload.length ≤ n →
        t.d.seq.loads = [] ∧ State.answers s t q [] { status := if c.short then stFetch else stOk, cid := sqeCid c.sqe }) ∧
      (n < c.payload.length →
        t.d.seq.loads = [{ segLoadOf s.d q c with pos := n }] ∧
        (t.d.queue q).cmds = [{ c with executed := true, effect := true }] ∧ (t.d.queue q).cq = (s.d.queue q).cq) ∧
      t.net = s.net ∧ t.isl = s.isl ∧ t.pending = s.pending ∧ Dev.sameBut [.queues, .cmt, .mon, .seq] s.d t.d := by
  have hseg : sqeField c.sqe 16 1 < 64 := by
    simp only [loadFieldsOk, Bool.and_eq_true, decide_eq_true_eq] at hf
    omega
  have hstop : sqeStop c.sqe = false := sqeStop_eq_false (by simp [front_op h]) (by simp [front_op h])
  obtain ⟨hmem, hnet, hisl, hpend, hd⟩ := copyLoad_first (s := { s with d := s.d.loadBegun q c }) (x := segLoadOf s.d q c)
    (c := c.begun) (n := n) rfl (congrArg (· ++ [segLoadOf s.d q c]) hl) (fun g hg => segActive_loadBegun (ha g hg)) hr hlen
  refine ⟨_, exec_seqLoad_begins h hl hf (ha _ hseg) hr, hmem, ?last, ?goesOn, hnet, hisl, hpend, ?frame⟩
  case last =>
    intro hle
    obtain ⟨hc, hcq, hhead, habort, hout, -⟩ := loadBegun_copying h (decide (0 < c.payload.length))
    replace hd := hd.trans (if_neg (Nat.not_lt_of_le hle))
    refine ⟨?_,
      State.answers_marked (c := { c with executed := true, effect := decide (0 < c.payload.length) }) (baseComp 9 (if c.short then stFetch else stOk)) (congrArg Dev.notify hd) hcq hhead hout hc habort hstop⟩
    simp only [Dev.notify_parts]
    rw [hd, Dev.complete_same _ _ _ _ .seq (by simp)]
  case goesOn =>
    intro hlt
    obtain ⟨hc, hcq, -⟩ := loadBegun_copying h true
    replace hd := hd.trans (if_pos hlt)
    rw [decide_eq_true hn] at hd
    simp only [Dev.notify_parts, Dev.notify_entries, hd]
    exact ⟨trivial, hc, hcq⟩
  case frame =>
    refine Dev.sameBut.trans ?_ ((Dev.notify_same _).up _)
    rw [hd]
    split
    · obtain ⟨-, -, -, -, -, hs⟩ := loadBegun_copying h (decide (0 < n))
      exact hs.trans ((Dev.withSeq_same _ _).up _)
    · obtain ⟨hc, -, -, habort, -, hs⟩ := loadBegun_copying h (decide (0 < c.payload.length))
      exact hs.trans (Dev.complete_withSeq_same (c := { c with executed := true, effect := decide (0 < c.payload.length) }) _ _ hc habort hstop)

/-- Settles O14: the checks of each command, and the samples of a SEQ_LOAD. -/
theorem commandsTakeEffectOrWait : Obligations.CommandsTakeEffectOrWait := by
  refine ⟨?batch, ?atten, ?loops, ?snapshot, ?cal, ?load⟩
  case batch =>
    intro s q op c i h hi hf
    have he : exec i s = finish s (s.d.setExecuted q c.idx false) := by
      obtain ⟨rfl, rfl⟩ | ⟨rfl, rfl, hd⟩ := hi
      · rw [exec_connectBatch, execConnectBatch, onFront_of_ready h.1, runBatch_of_fields _ hf (.inl (front_op h))]
      · rw [exec_cellDirect, execCellDirect, onFront_of_ready h.1, runBatch_of_fields _ hf (.inr hd)]
    exact ⟨_, he, by simpa using setExecuted_only h false, finish_same (Dev.setExecuted_same _ _ _ _)⟩
  case atten =>
    intro s q c h hf hp
    exact ⟨_, attJobOf s.d q c, exec_attenSet_front h hf hp, by simp, rfl, rfl, rfl, rfl, rfl, rfl,
      finish_same (((Dev.setExecuted_same _ _ _ _).up _).trans ((Dev.withJobs_same _ _).up _))⟩
  case loops =>
    intro s q c h hf hc
    exact ⟨_, exec_loopMode_front h hf hc, by simp,
      finish_same (((Dev.setExecuted_same _ _ _ _).up _).trans ((Dev.withJobs_same _ _).up _))⟩
  case snapshot =>
    intro s q c h hf
    exact ⟨_, snapJobOf s.d q c, exec_snapshot_front h hf, by simp, rfl, rfl, rfl, rfl, rfl, rfl,
      finish_same (((Dev.setExecuted_same _ _ _ _).up _).trans ((Dev.withJobs_same _ _).up _))⟩
  case cal =>
    intro s q c h hd hf hr
    exact ⟨_, calRunOf q c, exec_calRun_behind h hd hf hr, by simp, by simp, rfl, rfl, rfl, rfl,
      finish_same (((Dev.setExecuted_same _ _ _ _).up _).trans (((Dev.count_same _ _).up _).trans ((Dev.withCal_same _ _).up _)))⟩
  case load =>
    intro s q n first c h hf hfirst hlen ha hr hl hn
    subst hfirst
    obtain ⟨t, ht, hmem, hlast, hgo, hnet, hisl, hpend, hs⟩ := exec_seqLoad_first h hf hlen ha hr hl hn
    refine ⟨t, ht, ?_, ?_, hlast, hgo, by rw [hmem], hnet, hisl, hpend, hs⟩
    · intro a hout
      rw [hmem]
      refine Memory.read_writeBytes_out _ _ _ _ ?_
      rw [length_sampleBytes, List.length_take]
      simp only [segLoadOf]
      omega
    · intro k w hk hw
      rw [hmem]
      exact Memory.readNat_writeBytes_sample _ _ (by rw [List.getElem?_take_of_lt hk]; exact hw)

end Sys2Proof.Machine

/-! ATTEN_SET and LOOP_MODE at their instants (R46, R66, R67, R163, R164). -/
namespace Sys2Proof.Machine
set_option Elab.async false

/-! ## Jobs through completions -/

/-- A completion may take jobs away, and adds none. -/
def Dev.jobsShrink (d e : Dev) : Prop := e.jobs.att ⊆ d.jobs.att ∧ e.jobs.lm ⊆ d.jobs.lm ∧ e.jobs.snap ⊆ d.jobs.snap

theorem Dev.jobsShrink.of_eq {d e : Dev} (h : e.jobs = d.jobs) : d.jobsShrink e := by
  rw [Dev.jobsShrink, h]
  exact ⟨List.Subset.refl _, List.Subset.refl _, List.Subset.refl _⟩

theorem Dev.jobsShrink.trans {d e g : Dev} (h : d.jobsShrink e) (h' : e.jobsShrink g) : d.jobsShrink g := by
  obtain ⟨a, l, n⟩ := h
  obtain ⟨a', l', n'⟩ := h'
  exact ⟨List.Subset.trans a' a, List.Subset.trans l' l, List.Subset.trans n' n⟩

theorem Dev.jobsShrink.of_same {ps : List Part} {d e : Dev} (h : Dev.sameBut ps d e) (hp : Part.jobs ∉ ps := by simp) : d.jobsShrink e :=
  .of_eq (h .jobs hp)

theorem Dev.dropCmds_jobsShrink (d : Dev) (q : Nat) (gone : Nat → Bool) : d.jobsShrink (d.dropCmds q gone) := by
  unfold Dev.dropCmds
  extract_lets mine d1 js d2
  have h1 : Dev.sameBut [.cmt, .mon] d d1 := .foldl (fun d k => by
    split
    · exact d.freeSlot_same k
    · exact .refl _ _) _ d
  have hj : js = d.jobs := h1 .jobs (by simp)
  clear_value d1
  rw [Dev.jobsShrink, ← hj]
  refine ⟨?_, ?_, ?_⟩
  · exact List.filter_subset_self (l := js.att)
  · exact List.filter_subset_self (l := js.lm)
  · exact List.filter_subset_self (l := js.snap)

theorem Dev.drain1_jobsShrink (d : Dev) (q : Nat) : d.jobsShrink (d.drain1 q) := by
  unfold Dev.drain1
  split
  · exact .of_eq rfl
  · split
    · exact .of_eq rfl
    · extract_lets st d1 d2 d3 d4
      have h2 : d.jobsShrink d2 := by
        unfold d2
        split
        · exact .of_eq ((d1.freeSlot_same _) .jobs (by simp))
        · exact .of_eq rfl
      have h3 : d2.jobsShrink d3 := by
        unfold d3
        split
        · exact (d2.dropCmds_jobsShrink q _).trans (.of_same (Dev.modQueue_same _ q _))
        · exact .of_eq rfl
      have h4 : d3.jobsShrink d4 := by
        unfold d4
        split
        · exact .of_eq rfl
        · exact .of_same (d3.cqPush_same _ _ _)
      refine h2.trans (h3.trans (h4.trans ?_))
      split
      · exact .of_same (d4.evt_same _ _ _ _ _ _)
      · exact .of_eq rfl

theorem Dev.complete_jobsShrink (d : Dev) (q idx : Nat) (comp : Comp) : d.jobsShrink (d.complete q idx comp) := by
  have h : ∀ (l : List Nat) (x : Dev), x.jobsShrink (l.foldl (fun d _ => d.drain1 q) x) := by
    intro l
    induction l with
    | nil => exact fun x => .of_eq rfl
    | cons k l ih => exact fun x => (x.drain1_jobsShrink q).trans (ih _)
  rw [Dev.complete_eq]
  exact (Dev.jobsShrink.of_eq (e := d.modQueue q _) rfl).trans (h _ _)

/-! ## ATTEN_TARGET_APPLY on a free port -/

theorem caIdx_outVoa {p o : Nat} (ho : o < 512) : caIdx (outVoa p o) = o := by
  simp only [caIdx, outVoa, mkCa]
  omega

theorem caPlane_outVoa {p o : Nat} (hp : p < 2) (ho : o < 512) : caPlane (outVoa p o) = p := by
  simp only [caPlane, outVoa, mkCa]
  omega

theorem caCol_outVoa {p o : Nat} (ho : o < 512) : caCol (outVoa p o) = 31 := by
  simp only [caCol, outVoa, mkCa]
  omega

theorem isInVoa_outVoa {p o : Nat} (ho : o < 512) : isInVoa (outVoa p o) = false := by simp [isInVoa, caCol_outVoa ho]

/-- The VOA of a free output is not driven by a new target (R67). -/
theorem attCell_of_free {d : Dev} {n : Net} {v p o : Nat} (ho : o < 512) (hn : n.ofOut o = none) : d.attCell n v (outVoa p o) = d := by
  have hv : n.voaConn (outVoa p o) = none := by rw [Net.voaConn, isInVoa_outVoa ho, caIdx_outVoa ho]; exact hn
  rw [Dev.attCell, hv]

theorem attEntry_of_free {d : Dev} {n : Net} {v o : Nat} (ho : o < 512) (hn : n.ofOut o = none) : d.attEntry n (512 + o, v) = d.setTgt 1 o v := by
  have h1 : (512 + o) % 512 = o := by omega
  have h2 : (512 + o) / 512 = 1 := by omega
  have h3 : ¬ 512 + o < 512 := by omega
  simp only [Dev.attEntry, h1, h2, h3, if_false, List.foldl_cons, List.foldl_nil, attCell_of_free ho hn]

/-- The one ATTEN_SET of the device, its targets stored. -/
theorem attApply_of_free {d : Dev} {n : Net} {j : AttJob} {v o : Nat} (hj : d.jobs.att = [j]) (ha : j.applied = false) (hw : j.wait = false)
    (ho : o < 512) (he : j.ents = [(512 + o, v)]) (hn : n.ofOut o = none) :
    (d.attApply n j).jobs.att = [] ∧ (d.attApply n j).fab = (d.setTgt 1 o v).fab := by
  have hs : (d.supersede (j.ents.map (·.1))).jobs.att = [j] := by simp [Dev.supersede, hj, ha]
  unfold Dev.attApply
  extract_lets keys d1 d2 j' d3 src d4
  have h2 : d2 = d1.setTgt 1 o v := by
    unfold d2
    rw [he, List.foldl_cons, List.foldl_nil, attEntry_of_free ho hn]
  have h4 : d4.jobs.att = [j'] := by
    have h3 : d3.jobs.att = [j] := by rw [← hs]; unfold d3; rw [h2]; rfl
    simp [d4, h3]
  have hf : d4.fab = (d.setTgt 1 o v).fab := by
    unfold d4 d3
    rw [h2]
    rfl
  have hx : j'.applied = true ∧ j'.left = [] ∧ j'.q = j.q ∧ j'.idx = j.idx := ⟨rfl, by simp [j', hw], rfl, rfl⟩
  clear_value d4 j'
  obtain ⟨hx1, hx2, hx3, hx4⟩ := hx
  unfold Dev.attFinish
  simp only [h4, List.filter_cons, hx1, hx2, List.isEmpty_nil, Bool.and_true, if_true, List.filter_nil, List.foldl_cons, List.foldl_nil, beq_self_eq_true,
    Bool.not_true, Bool.false_eq_true, if_false]
  have hc := Dev.complete_jobsShrink { d4 with jobs := { d4.jobs with att := [] } } j'.q j'.idx
    (baseComp 2 (if j'.blanked then stBlanked else if j'.superseded then stSuperseded else stOk))
  refine ⟨List.subset_nil.mp hc.1, ?_⟩
  rw [Dev.complete_same _ _ _ _ .fab (by simp)]
  exact hf

/-! ## LOOP_MODE_APPLY -/

theorem upFor_zero (p : Nat) : upFor p 0 = 0 := by unfold upFor; split <;> rfl

/-- A heater's mode once set, outside a fatal fault's HOLD. -/
theorem Loop.setMode_mode {l : Loop} (h : l.prevMode = none) (m : Nat) (keep : Bool) (code : Nat) : (l.setMode m keep code).mode = m := by
  unfold Loop.setMode
  extract_lets old l1 l2
  have h2 : l2.prevMode = none := by
    unfold l2 l1
    split <;> split <;> exact h
  rw [if_neg (by simp [h2])]

/-- Loops other than those named keep their state; those named take what is written to each. -/
theorem loop_foldl_modLoop (g : Loop → Loop) : ∀ (l : List Nat) (d : Dev) (aa : Nat), l.Nodup →
    (l.foldl (fun d aa => d.modLoop aa g) d).loop aa = if aa ∈ l then g (d.loop aa) else d.loop aa := by
  intro l
  induction l with
  | nil => intro d aa _; simp
  | cons x l ih =>
    intro d aa hn
    obtain ⟨hx, hl⟩ := List.nodup_cons.mp hn
    rw [List.foldl_cons, ih _ _ hl, Dev.loop_modLoop]
    by_cases h : aa = x
    · subst h
      simp [hx]
    · simp [h]

theorem LoopEnt.aas_nodup (e : LoopEnt) : e.aas.Nodup := by
  unfold LoopEnt.aas
  split
  · split
    · simp
    · simp only [List.nodup_cons, List.mem_singleton, List.not_mem_nil, not_false_eq_true, List.nodup_nil, and_true]; omega
  · simp

theorem foldl_modLoop_fab (g : Loop → Loop) (l : List Nat) (d : Dev) :
    (l.foldl (fun d aa => d.modLoop aa g) d).fab.cells = d.fab.cells ∧ (l.foldl (fun d aa => d.modLoop aa g) d).fab.balOff = d.fab.balOff := by
  induction l generalizing d with
  | nil => exact ⟨rfl, rfl⟩
  | cons x l ih => exact ih (d.modLoop x g)

/-- Nothing that a VOA follows moves where its effective attenuation stays. -/
theorem Dev.follow_of_attEff {d x : Dev} {ca : Nat} (h : x.attEff ca = d.attEff ca) : (x.followEff d ca).followRef d ca = x := by
  have he : x.followEff d ca = x := by rw [Dev.followEff, if_pos (.inl h)]
  rw [he, Dev.followRef, h, Int.sub_self]
  rfl

/-- The balance registers of an output once its candidate is taken into what is left of it. -/
def Fab.balRested (b : Fab) (o : Nat) : Fab :=
  { b with beta := b.beta.set 0 o 0,
           balRest := (b.balRest.set 0 (2 * o) (b.balRest.get 0 (2 * o) + upFor 0 (b.beta.get 0 o))).set 0 (2 * o + 1)
             (b.balRest.get 0 (2 * o + 1) + upFor 1 (b.beta.get 0 o)) }

/-- Balancing ends with every effective attenuation as it was (R159). -/
theorem attEff_balRested {d : Dev} {o p : Nat} (ho : o < 512) (hp : p < 2) :
    ({ d with fab := d.fab.balRested o } : Dev).attEff (outVoa p o) = d.attEff (outVoa p o) := by
  have hc : ({ d with fab := d.fab.balRested o } : Dev).cell (outVoa p o) = d.cell (outVoa p o) := rfl
  have hb : (d.fab.balRested o).balRest.get 0 (2 * o + p) = d.fab.balRest.get 0 (2 * o + p) + upFor p (d.fab.beta.get 0 o) := by
    obtain rfl | rfl : p = 0 ∨ p = 1 := by omega
    · simp only [Fab.balRested, Nat.add_zero]
      rw [Tab.get_set_ne _ _ _ (by omega), Tab.get_set_self]
    · simp [Fab.balRested]
  have hz : (d.fab.balRested o).beta.get 0 o = 0 := by simp [Fab.balRested]
  unfold Dev.attEff
  dsimp only
  rw [hc, caIdx_outVoa ho, caPlane_outVoa hp ho, hb, hz, upFor_zero]
  split
  · congr 1
    omega
  · rfl

theorem Dev.balDisable_eq {d : Dev} {o : Nat} (ho : o < 512) : d.balDisable o = { d with fab := d.fab.balRested o } := by
  have h : ∀ p, p < 2 → (({ d with fab := d.fab.balRested o } : Dev).followEff d (outVoa p o)).followRef d (outVoa p o) =
      { d with fab := d.fab.balRested o } := fun p hp => Dev.follow_of_attEff (attEff_balRested ho hp)
  change [outVoa 0 o, outVoa 1 o].foldl (fun x ca => (x.followEff d ca).followRef d ca) { d with fab := d.fab.balRested o } = _
  rw [List.foldl_cons, h 0 (by omega), List.foldl_cons, h 1 (by omega), List.foldl_nil]

/-- What one entry of a LOOP_MODE leaves (R159, R160, R163). -/
theorem loopEntry_spec (d : Dev) (e : LoopEnt) : (d.loopEntry e).fab.cells = d.fab.cells ∧ (d.loopEntry e).jobs = d.jobs ∧
    (e.op = 1 → (∀ aa ∈ e.aas, (d.loop aa).prevMode = none → ((d.loopEntry e).loop aa).mode = e.mode) ∧
      (∀ aa, aa ∉ e.aas → (d.loopEntry e).loop aa = d.loop aa) ∧ (d.loopEntry e).fab.balOff = d.fab.balOff) ∧
    (e.op = 3 → (e.out ∈ (d.loopEntry e).fab.balOff ↔ e.flag = false) ∧ (d.loopEntry e).fab.loops = d.fab.loops) := by
  have hout : e.out < 512 := Nat.mod_lt _ (by omega)
  have hjobs : ∀ (g : Loop → Loop) (l : List Nat), (l.foldl (fun d aa => d.modLoop aa g) d).jobs = d.jobs := fun g l =>
    Dev.sameBut.foldl (ps := [.fab]) (fun d aa => d.modLoop_same aa g) l d .jobs (by simp)
  unfold Dev.loopEntry
  split
  · next h1 =>
    refine ⟨(foldl_modLoop_fab _ _ _).1, hjobs _ _, fun _ => ⟨fun aa ha hp => ?_, fun aa ha => ?_, (foldl_modLoop_fab _ _ _).2⟩, fun h => by omega⟩
    · rw [loop_foldl_modLoop _ _ _ _ e.aas_nodup, if_pos ha, Loop.setMode_mode hp]
    · rw [loop_foldl_modLoop _ _ _ _ e.aas_nodup, if_neg ha]
  · split
    · next h1 h2 => exact ⟨(foldl_modLoop_fab _ _ _).1, hjobs _ _, fun h => absurd h h1, fun h => by omega⟩
    · next h1 h2 =>
      extract_lets off src d1
      have hd : (if e.flag then d1 else d1.balDisable e.out).fab.cells = d.fab.cells ∧ (if e.flag then d1 else d1.balDisable e.out).jobs = d.jobs ∧
          (if e.flag then d1 else d1.balDisable e.out).fab.balOff = (if e.flag then off else e.out :: off) ∧
          (if e.flag then d1 else d1.balDisable e.out).fab.loops = d.fab.loops := by
        rw [Dev.balDisable_eq hout]
        have hb : (if e.flag then d1 else { d1 with fab := d1.fab.balRested e.out }).fab.balOff = d1.fab.balOff := by split <;> rfl
        refine ⟨?_, ?_, hb, ?_⟩ <;> split <;> rfl
      obtain ⟨hc, hj, hb, hl⟩ := hd
      refine ⟨hc, hj, fun h => absurd h h1, fun _ => ⟨?_, hl⟩⟩
      rw [hb]
      cases e.flag <;> simp [off]

theorem Dev.calTouch_foldl_same (l : List Nat) (d : Dev) : Dev.sameBut [.cal] d (l.foldl Dev.calTouch d) :=
  .foldl (fun d _ => d.withCal_same _) l d

/-- Settles O15: the job of an ATTEN_SET and that of a LOOP_MODE, each alone at its instant. -/
theorem waitingCommandsAreApplied : Obligations.WaitingCommandsAreApplied := by
  refine ⟨?atten, ?loops⟩
  case atten =>
    intro s j port v hclk htick hatt ha hat hw hp he hn
    obtain ⟨hjobs, hfab⟩ := attApply_of_free hatt ha hw hp he hn
    have hdue : s.d.jobs.att.filter (fun j => !j.applied && decide (j.at2 < s.d.tb2)) = [j] := by simp [hatt, ha, hat]
    refine ⟨{ s with d := (s.d.attApply s.net j).notify }, ?_, ?_, ?_, ?_, ?_, ?_, rfl, rfl, rfl, rfl⟩
    · rw [exec_attenTargetApply, execAttenTargetApply]
      rw [hdue, if_neg (by simp [htick, hclk])]
      rfl
    · simp [Dev.tgt, hfab, Dev.setTgt]
    · simpa using hjobs
    · intro side p hs hp' hne
      have hk : side * 512 + p ≠ 1 * 512 + port := by
        intro hk
        exact hne (by rw [Prod.mk.injEq]; omega)
      simp only [Dev.tgt, Dev.notify_parts, hfab, Dev.setTgt]
      exact Tab.get_set_ne _ _ _ hk
    · simp [hfab, Dev.setTgt]
    · simp [hfab, Dev.setTgt]
  case loops =>
    intro s j w hclk htick hlm hat he
    have hdue : s.d.jobs.lm.filter (fun j => decide (j.at2 + 1000 ≤ s.d.tb2)) = [j] := by simp [hlm, hat]
    have hleft : s.d.jobs.lm.filter (fun j => !decide (j.at2 + 1000 ≤ s.d.tb2)) = [] := by simp [hlm, hat]
    have htouch := Dev.calTouch_foldl_same (loopEnt w).aas { s.d with jobs := { s.d.jobs with lm := [] } }
    generalize hd : (loopEnt w).aas.foldl Dev.calTouch { s.d with jobs := { s.d.jobs with lm := [] } } = d at htouch
    obtain ⟨hcells, hjobs, hmode, hbal⟩ := loopEntry_spec d (loopEnt w)
    have hfab : d.fab = s.d.fab := htouch .fab (by simp)
    have hlm' : (d.loopEntry (loopEnt w)).jobs.lm = [] := by rw [hjobs, htouch .jobs (by simp)]
    have hc := (d.loopEntry (loopEnt w)).complete_jobsShrink j.q j.idx (baseComp 8 stOk)
    have hf : ((d.loopEntry (loopEnt w)).complete j.q j.idx (baseComp 8 stOk)).fab = (d.loopEntry (loopEnt w)).fab :=
      Dev.complete_same _ _ _ _ .fab (by simp)
    have hloop : d.loop = s.d.loop := by funext aa; rw [Dev.loop, hfab, Dev.loop]
    refine ⟨{ s with d := ((d.loopEntry (loopEnt w)).complete j.q j.idx (baseComp 8 stOk)).notify }, ?_, ?_, ?_, ?_, ?_, rfl, rfl, rfl, rfl⟩
    · rw [exec_loopModeApply, execLoopModeApply]
      dsimp only
      rw [hdue, if_neg (by simp [htick, hclk]), hleft]
      simp only [List.flatMap_cons, List.flatMap_nil, he, List.map_cons, List.map_nil, List.append_nil, hd, List.foldl_cons, List.foldl_nil]
      rfl
    · have hs := hc.2.1
      rw [hlm'] at hs
      simpa using List.subset_nil.mp hs
    · intro h1
      obtain ⟨hm, ho, hb⟩ := hmode h1
      rw [hloop] at hm ho
      refine ⟨fun aa ha hp => ?_, fun aa ha => ?_, ?_⟩
      · simpa [Dev.loop, hf] using hm aa ha hp
      · simpa [Dev.loop, hf] using ho aa ha
      · simp [hf, hb, hfab]
    · intro h3
      obtain ⟨hb, hl⟩ := hbal h3
      simp [hf, hb, hl, hfab]
    · simp [hf, hcells, hfab]

end Sys2Proof.Machine

/-! ## A read failure in an enabled queue that still holds a flush (O16) -/
namespace Sys2Proof.Machine
set_option Elab.async false

/-- Queue 3 is ENABLED with its head at 15 of 16, its next entry has been read, and a flush to index 0 stands. -/
def enabledFlush : State := Tests.qNew .enabled (fun x => { x with flushTo := some 0 })

/-- The fetch of an entry of queue 3 whose read ends poisoned. -/
def poisonedFetch : Instr := .commandFetch false 3 0 [] .poisoned .ok

/-- The state of queue 3 after the poisoned fetch, if there is one. -/
def afterPoisonedFetch : Option QState :=
  match exec poisonedFetch enabledFlush with
  | .next t => some (t.d.queue 3).state
  | _ => none

theorem enabledFlush_fetchIn : Obl.fetchIn enabledFlush 3 := by
  unfold Obl.fetchIn
  and_intros <;> decide +kernel

theorem enabledFlush_queue : (enabledFlush.d.queue 3).state = .enabled ∧ (enabledFlush.d.queue 3).cmds = [] ∧ (enabledFlush.d.queue 3).abort = none ∧
    bitOf (enabledFlush.d.fn (enabledFlush.d.queue 3).domain).cfg.devCtl2 4 = false := by
  and_intros <;> decide +kernel

/-- The stall moves the head to the flush tail, and the flush that stands there enables the queue again. -/
theorem afterPoisonedFetch_enabled : afterPoisonedFetch = some .enabled := by decide +kernel

/-- Refutes O16: the clause on an entry that cannot be read does not ask that no flush stands (R304). With the flush tail right behind the entry
the end of the flush enables the queue that the failed read has stalled. -/
theorem not_fetchesEndAsTheyMust : ¬ Obligations.FetchesEndAsTheyMust := by
  unfold Obligations.FetchesEndAsTheyMust
  rintro ⟨-, hread, -⟩
  obtain ⟨hen, hcmds, habort, hcfg⟩ := enabledFlush_queue
  obtain ⟨t, -, -, ht, -, -, -, hst, -⟩ :=
    hread enabledFlush 3 0 [] .poisoned poisonedFetch enabledFlush_fetchIn hen hcmds habort (by decide) hcfg (.head _)
  have h : afterPoisonedFetch = some .stalled := by
    unfold afterPoisonedFetch
    rw [show exec poisonedFetch enabledFlush = .next t from ht]
    exact congrArg some hst
  rw [afterPoisonedFetch_enabled] at h
  cases h

end Sys2Proof.Machine

/-! SUPPORT. An admin command that completes (R263, R280). -/
namespace Sys2Proof.Machine
set_option Elab.async false

/-- The admin command that is ready is its pair's first, has the opcode asked for, and its pair runs with nothing of an earlier one. -/
theorem Dev.adminReady_spec {d : Dev} {f op : Nat} {c : Cmd} (h : d.adminReady f op = some c) :
    sqeOp c.sqe = op ∧ (d.fn f).orphans = [] ∧ (d.fn f).aqActive = true ∧ c.executed = false ∧ d.sec.restart = none := by
  unfold Dev.adminReady at h
  extract_lets x at h
  split at h
  · next c' _ _ =>
    simp only [Option.ite_none_right_eq_some, Bool.and_eq_true, Bool.not_eq_true', beq_iff_eq, List.isEmpty_iff, Option.isNone_iff_eq_none,
      Option.some.injEq] at h
    obtain ⟨⟨⟨⟨⟨hx, hop⟩, ho⟩, ha⟩, hr⟩, rfl⟩ := h
    exact ⟨hop, ho, ha, hx, hr⟩
  · cases h

/-- What a function's ready admin command does is what its execution does. -/
theorem onAdmin_of_front {s : State} {f op : Nat} {c : Cmd} {g : Cmd → Host.Outcome State Fault Refusal} (h : Obl.adminFront s f op c) :
    onAdmin s f op g = g c := by
  obtain ⟨hr, -, hi, -⟩ := h
  simp [onAdmin, hr, hi]

/-- A function's admin pair writes completions: it runs, and no FLR holds its traffic back (R263, R313). -/
def Dev.acqRuns (d : Dev) (f : Nat) : Prop := (d.fn f).aqActive = true ∧ (d.fn f).flrAt = none

/-- The admin completion goes to the ring's tail. -/
theorem Dev.acqPush_of {d : Dev} {f : Nat} (h : d.acqRuns f) (comp : Comp) :
    d.acqPush f comp = ((d.toHost ((d.fn f).acq.base + 32 * (d.fn f).acq.tail) 32
      (.hostWrite ((d.fn f).acq.base + 32 * (d.fn f).acq.tail) (comp.dws (d.fn f).aqHead 0 true (d.fn f).acq.phase))).modFn f
        (fun x => { x with acq := { (d.fn f).acq.pushed d.tb2 0 with cause := true } })).count 3014 := by
  obtain ⟨ha, hm⟩ := h
  unfold Dev.acqPush
  exact if_pos (by simp [ha, Dev.mayWrite, hm])

/-- The only admin command leaves its pair as it completes. -/
theorem Dev.adminDone_only {d : Dev} {f : Nat} {c : Cmd} (comp : Comp) (hc : (d.fn f).cmds = [c]) (ho : (d.fn f).orphans = []) :
    d.adminDone f c.idx comp = (d.modFn f (fun x => { x with cmds := [] })).acqPush f { comp with cid := sqeCid c.sqe } := by
  have hf : d.modFn f (fun x => { x with cmds := x.cmds.filter (fun y => y.idx != c.idx) }) = d.modFn f (fun x => { x with cmds := [] }) := by
    simp [Dev.modFn, Tab.mod, Dev.fn] at hc ⊢
    simp [hc]
  simp [Dev.adminDone, ho, hc, hf]

theorem State.adminAnswers_done {s : State} {d : Dev} {f : Nat} {c : Cmd} (comp : Comp) (hf : d.fn f = s.d.fn f) (hout : d.io.out = s.d.io.out)
    (hc : (s.d.fn f).cmds = [c]) (ho : (s.d.fn f).orphans = []) (hr : s.d.acqRuns f) :
    State.adminAnswers s { s with d := (d.adminDone f c.idx comp).notify } f { comp with cid := sqeCid c.sqe } := by
  obtain ⟨later, hl⟩ := (d.adminDone f c.idx comp).notify_sentOn
  obtain ⟨ha, hm⟩ := hr
  have hr' : (d.modFn f (fun x => { x with cmds := [] })).acqRuns f := by simp [Dev.acqRuns, hf, ha, hm]
  have he := Dev.adminDone_only comp (hf ▸ hc) (hf ▸ ho)
  rw [Dev.acqPush_of hr'] at he
  refine ⟨⟨later, ?_⟩, ?_, ?_⟩
  · rw [hl, he]; simp [hf, hout]
  · simp [he]
  · simp [he, hf, Ring.pushed]

/-- Such an admin command is answered where its effect leaves its function and what is sent. -/
theorem adminFront_answers {s : State} {f op : Nat} {c : Cmd} (h : Obl.adminFront s f op c) {d : Dev} (comp : Comp)
    (hf : d.fn f = s.d.fn f) (hout : d.io.out = s.d.io.out) :
    State.adminAnswers s { s with d := (d.adminDone f c.idx comp).notify } f { comp with cid := sqeCid c.sqe } := by
  obtain ⟨hr, hc, -, hm⟩ := h
  obtain ⟨-, ho, ha, -⟩ := Dev.adminReady_spec hr
  exact State.adminAnswers_done comp hf hout hc ho ⟨ha, hm⟩

end Sys2Proof.Machine

/-! QUEUE_CREATE and DOMAIN_SET (R35, R280, R281, R284, R288). -/
namespace Sys2Proof.Machine
set_option Elab.async false

/-! ## QUEUE_CREATE -/

section
variable {s : State} {f : Nat} {c : Cmd}

theorem Dev.namesQueue_of {d : Dev} {f q : Nat} (hq : q < 64) (hd : (d.queue q).domain = f) : d.namesQueue f q = true := by
  simp [Dev.namesQueue, okQueue, hq, hd]

/-- The queue that the entry creates. -/
def Queue.createdBy (x : Queue) (e : Sqe) : Queue := (x.fill e).created

theorem exec_queueCreate_good (h : Obl.adminFront s f 0x40 c) (hq : sqeField c.sqe 24 1 < 64) (hd : (s.d.queue (sqeField c.sqe 24 1)).domain = f)
    (hx : sqeClean c.sqe = true) (hf : createFieldsOk (sqeField c.sqe 8 8) (sqeField c.sqe 16 8) (sqeField c.sqe 25 1) (sqeField c.sqe 26 1)
      (sqeField c.sqe 27 1) = true) (hs : (s.d.queue (sqeField c.sqe 24 1)).state = .none) :
    exec (.queueCreate f) s = .next { s with d := ((s.d.modQueue (sqeField c.sqe 24 1)
      (fun _ => (s.d.queue (sqeField c.sqe 24 1)).createdBy c.sqe)).adminDone f c.idx (statusComp stOk)).notify } := by
  rw [exec_queueCreate, execQueueCreate, onAdmin_of_front h, finish_next]
  simp [Dev.queueCreate, Dev.namesQueue_of hq hd, hx, hf, hs, Queue.fill, Queue.createdBy]

theorem exec_queueCreate_bad (h : Obl.adminFront s f 0x40 c) (hq : sqeField c.sqe 24 1 < 64) (hd : (s.d.queue (sqeField c.sqe 24 1)).domain = f)
    (hb : (sqeClean c.sqe && createFieldsOk (sqeField c.sqe 8 8) (sqeField c.sqe 16 8) (sqeField c.sqe 25 1) (sqeField c.sqe 26 1)
      (sqeField c.sqe 27 1)) = false) :
    exec (.queueCreate f) s = .next { s with d := ((s.d.modQueue (sqeField c.sqe 24 1)
      (fun x => { x with createErr := true })).adminDone f c.idx (statusComp stMalformed)).notify } := by
  rw [exec_queueCreate, execQueueCreate, onAdmin_of_front h, finish_next]
  simp [Dev.queueCreate, Dev.namesQueue_of hq hd, hb, Queue.fill]

/-- A queue in NONE takes the entry's registers. -/
theorem Queue.createdBy_fields {x : Queue} {e : Sqe} (hs : x.state = .none) (hf : createFieldsOk (sqeField e 8 8) (sqeField e 16 8) (sqeField e 25 1)
      (sqeField e 26 1) (sqeField e 27 1) = true) :
    (x.createdBy e).state = (if sqeField e 31 1 = 1 then .enabled else .disabled) ∧ (x.createdBy e).head = 0 ∧ (x.createdBy e).tail = 0 ∧
    (x.createdBy e).cq = { base := sqeField e 16 8, size := 2 ^ (sqeField e 26 1 + 4) } ∧ (x.createdBy e).sqBase = sqeField e 8 8 ∧
    (x.createdBy e).sqs = sqeField e 25 1 ∧ (x.createdBy e).domain = x.domain := by
  simp [Queue.createdBy, Queue.created, Queue.fill, hs, hf, Ring.start, ringSize]

/-- The frame of an effect on queues alone, with its admin completion. -/
theorem modQueue_adminDone_same (d : Dev) (q f idx : Nat) (g : Queue → Queue) (comp : Comp) :
    Dev.sameBut [.queues, .fns] d ((d.modQueue q g).adminDone f idx comp) :=
  ((d.modQueue_same q g).up _).trans ((Dev.adminDone_same _ f idx comp).up _)

/-- An admin completion leaves every queue. -/
@[simp] theorem Dev.queue_adminDone (d : Dev) (f idx : Nat) (comp : Comp) : (d.adminDone f idx comp).queue = d.queue := by
  have h : (d.adminDone f idx comp).io.queues = d.io.queues := d.adminDone_same f idx comp .queues (by simp)
  funext q
  rw [Dev.queue, h, Dev.queue]

@[simp] theorem Dev.owner_adminDone (d : Dev) (f idx : Nat) (comp : Comp) : (d.adminDone f idx comp).io.owner = d.io.owner :=
  (d.adminDone_same f idx comp .owner (by simp)).1

@[simp] theorem Dev.disturb_adminDone (d : Dev) (f idx : Nat) (comp : Comp) : (d.adminDone f idx comp).io.disturb = d.io.disturb :=
  (d.adminDone_same f idx comp .owner (by simp)).2

end

/-! ## DOMAIN_SET -/

/-- The entries set are the values; the others stay. -/
theorem Tab.get_setAll {α : Type} [DecidableEq α] (d : α) (f : Nat → α) : ∀ (ks : List Nat) (t : Tab α) (j : Nat),
    (t.setAll d ks f).get d j = if j ∈ ks then f j else t.get d j := by
  intro ks
  induction ks with
  | nil => intro t j; rfl
  | cons k ks ih =>
    intro t j
    rw [Tab.setAll, List.foldl_cons, ← Tab.setAll, ih, Tab.get_set]
    by_cases hk : j = k
    · subst hk; simp
    · simp [hk]

/-- A change of some queues, each its own, reads as that change. -/
theorem queue_foldl_modQueue {g : Queue → Queue} (hg : ∀ x, g (g x) = g x) : ∀ (l : List Nat) (d : Dev) (j : Nat),
    (l.foldl (fun d q => d.modQueue q g) d).queue j = if j ∈ l then g (d.queue j) else d.queue j := by
  intro l
  induction l with
  | nil => intro d j; rfl
  | cons k l ih =>
    intro d j
    rw [List.foldl_cons, ih, Dev.queue_modQueue]
    by_cases hk : j = k
    · subst hk; simp [hg]
    · simp [hk]

/-- A change of queues keeps every function and what is sent. -/
theorem foldl_modQueue_fn_out {g : Queue → Queue} (l : List Nat) : ∀ d : Dev,
    (l.foldl (fun d q => d.modQueue q g) d).io.fns = d.io.fns ∧ (l.foldl (fun d q => d.modQueue q g) d).io.out = d.io.out := by
  induction l with
  | nil => intro d; exact ⟨rfl, rfl⟩
  | cons k l ih => intro d; exact ih _

/-- A range of ports given to a domain. -/
def Dev.portsGiven (d : Dev) (side first cnt dom : Nat) : Dev :=
  { d with io := { d.io with owner := d.io.owner.setAll 0 ((List.range cnt).map (fun k => side * 512 + first + k)) (fun _ => dom) } }

/-- The disturbance mask of a domain replaced. -/
def Dev.disturbSet (d : Dev) (dom mask : Nat) : Dev := { d with io := { d.io with disturb := d.io.disturb.set 0 dom mask } }

/-- A range of queues given to a domain. -/
def Dev.queuesGiven (d : Dev) (first cnt dom : Nat) : Dev :=
  ((List.range cnt).map (first + ·)).foldl (fun d q => d.modQueue q (fun x => { x with domain := dom })) d

theorem Dev.withOwner_same (d : Dev) (x y : Tab Nat) : Dev.sameBut [.owner] d { d with io := { d.io with owner := x, disturb := y } } := by
  intro p hp; cases p <;> simp_all [Part.same, Io.sameLink, Dev.fn]

section
variable {s : State} {c : Cmd} (h : Obl.adminFront s 0 0x43 c) (hx : sqeClean c.sqe = true) (hv : sqeField c.sqe 14 1 ≤ s.d.io.numVfs)
include h hx hv

theorem exec_domainSet_ports (ho : sqeField c.sqe 8 1 = 0) (hs : sqeField c.sqe 9 1 ≤ 1) (h1 : 1 ≤ sqeField c.sqe 12 2)
    (hr : sqeField c.sqe 10 2 + sqeField c.sqe 12 2 ≤ 512) :
    exec (.domainSet 0) s = .next { s with d := ((s.d.portsGiven (sqeField c.sqe 9 1) (sqeField c.sqe 10 2) (sqeField c.sqe 12 2)
      (sqeField c.sqe 14 1)).adminDone 0 c.idx (statusComp stOk)).notify } := by
  rw [exec_domainSet, execDomainSet, onAdmin_of_front h, finish_next]
  simp [Dev.domainSet, hx, Nat.not_lt.mpr hv, ho, hs, h1, hr, Dev.portsGiven]

theorem exec_domainSet_disturb (ho : sqeField c.sqe 8 1 = 1) :
    exec (.domainSet 0) s = .next { s with d := ((s.d.disturbSet (sqeField c.sqe 14 1) (sqeField c.sqe 16 2)).adminDone 0 c.idx
      (statusComp stOk)).notify } := by
  rw [exec_domainSet, execDomainSet, onAdmin_of_front h, finish_next]
  simp [Dev.domainSet, hx, Nat.not_lt.mpr hv, ho, Dev.disturbSet]

theorem exec_domainSet_queues (ho : sqeField c.sqe 8 1 = 2) (h1 : 1 ≤ sqeField c.sqe 12 2) (hr : sqeField c.sqe 10 2 + sqeField c.sqe 12 2 ≤ 64)
    (hn : ∀ k, sqeField c.sqe 10 2 ≤ k → k < sqeField c.sqe 10 2 + sqeField c.sqe 12 2 → (s.d.queue k).state = .none) :
    exec (.domainSet 0) s = .next { s with d := ((s.d.queuesGiven (sqeField c.sqe 10 2) (sqeField c.sqe 12 2) (sqeField c.sqe 14 1)).adminDone 0
      c.idx (statusComp stOk)).notify } := by
  have hq : ((List.range (sqeField c.sqe 12 2)).map (sqeField c.sqe 10 2 + ·)).any (fun q => (s.d.queue q).state != .none) = false := by
    simp only [List.any_map, List.any_eq_false, List.mem_range, Function.comp_apply, bne_iff_ne, ne_eq, not_not]
    exact fun k hk => hn _ (by omega) (by omega)
  rw [exec_domainSet, execDomainSet, onAdmin_of_front h, finish_next]
  simp only [Dev.domainSet, hx, ho, h1, hr, hq, Nat.not_lt.mpr hv, Dev.queuesGiven, Bool.not_true, bne_self_eq_false, decide_true, decide_false,
    Bool.or_self, Bool.and_self, Bool.false_eq_true, if_false]

end

theorem mem_range_shift {first cnt j : Nat} : j ∈ (List.range cnt).map (first + ·) ↔ first ≤ j ∧ j < first + cnt := by
  simp only [List.mem_map, List.mem_range]
  constructor
  · rintro ⟨k, hk, rfl⟩; omega
  · rintro ⟨hl, hu⟩; exact ⟨j - first, by omega, by omega⟩

theorem owner_portsGiven {d : Dev} {side first cnt dom : Nat} (hr : first + cnt ≤ 512) {x p : Nat} (hp : p < 512) :
    (d.portsGiven side first cnt dom).owner x p = if x = side ∧ first ≤ p ∧ p < first + cnt then dom else d.owner x p := by
  have hm : x * 512 + p ∈ (List.range cnt).map (fun k => side * 512 + first + k) ↔ x = side ∧ first ≤ p ∧ p < first + cnt := by
    rw [mem_range_shift]; omega
  simp [Dev.owner, Dev.portsGiven, Tab.get_setAll, hm]

/-- Settles O17, by what each form of the two commands makes of the state. -/
theorem queuesAndPortsAreGiven : Obligations.QueuesAndPortsAreGiven := by
  refine ⟨fun s f c h hq hd => ⟨?_, fun hb => ?_⟩, fun s c h hx hv => ⟨?_, ?_, ?_⟩⟩
  · rintro ⟨hx, h1, h2, h3, h4, h5, h6, hs⟩
    have hf : createFieldsOk (sqeField c.sqe 8 8) (sqeField c.sqe 16 8) (sqeField c.sqe 25 1) (sqeField c.sqe 26 1) (sqeField c.sqe 27 1) = true := by
      simp [createFieldsOk, h1, h2, h3, h4, h5, h6]
    obtain ⟨g1, g2, g3, g4, g5, g6, g7⟩ := Queue.createdBy_fields (x := s.d.queue (sqeField c.sqe 24 1)) hs hf
    refine ⟨_, exec_queueCreate_good h hq hd hx hf hs, adminFront_answers h _ rfl rfl, ?_, ?_, ?_, ?_, ?_, ?_, ?_, fun r hr => ?_,
      finish_same (modQueue_adminDone_same _ _ _ _ _ _)⟩
    · simpa using g1
    · simpa using g2
    · simpa using g3
    · simpa using g4
    · simpa using g5
    · simpa using g6
    · simpa [hd] using g7
    · simp [Dev.queue_modQueue, hr]
  · have hbad : (sqeClean c.sqe && createFieldsOk (sqeField c.sqe 8 8) (sqeField c.sqe 16 8) (sqeField c.sqe 25 1) (sqeField c.sqe 26 1)
        (sqeField c.sqe 27 1)) = false := by
      rcases hb with hb | hb | hb | hb | hb | hb <;> simp [createFieldsOk, hb]
    exact ⟨_, exec_queueCreate_bad h hq hd hbad, adminFront_answers h _ rfl rfl, by simp, finish_same (modQueue_adminDone_same _ _ _ _ _ _)⟩
  · intro ho hs h1 hr
    refine ⟨_, exec_domainSet_ports h hx hv ho hs h1 hr, adminFront_answers h _ rfl rfl, fun side p hp => ?_, finish_same ?_⟩
    · rw [← owner_portsGiven (d := s.d) hr hp]
      simp [Dev.owner]
    · exact ((Dev.withOwner_same s.d _ _).up _).trans ((Dev.adminDone_same _ _ _ _).up _)
  · intro ho
    refine ⟨_, exec_domainSet_disturb h hx hv ho, adminFront_answers h _ rfl rfl, fun e => ?_, ?_, finish_same ?_⟩
    · simp [Dev.disturb, Dev.disturbSet, Tab.get_set]
    · simp [Dev.disturbSet]
    · exact ((Dev.withOwner_same s.d _ _).up _).trans ((Dev.adminDone_same _ _ _ _).up _)
  · intro ho h1 hr hn
    have hk := foldl_modQueue_fn_out (g := fun x => { x with domain := sqeField c.sqe 14 1 })
      ((List.range (sqeField c.sqe 12 2)).map (sqeField c.sqe 10 2 + ·)) s.d
    refine ⟨_, exec_domainSet_queues h hx hv ho h1 hr hn, adminFront_answers h _ ?_ hk.2, fun k => ?_, finish_same ?_⟩
    · simp only [Dev.fn, Dev.queuesGiven, hk.1]
    · rw [Dev.notify_queue, Dev.queue_adminDone, Dev.queuesGiven, queue_foldl_modQueue (g := fun x => { x with domain := sqeField c.sqe 14 1 })
        (fun _ => rfl)]
      simp only [mem_range_shift]
    · exact ((Dev.sameBut.foldl (fun d q => d.modQueue_same q _) _ s.d).up _).trans ((Dev.adminDone_same _ _ _ _).up _)

end Sys2Proof.Machine

/-! ## The end of an abort with a full completion queue (O18) -/
namespace Sys2Proof.Machine
set_option Elab.async false

/-- Queue 3 is at the end of its abort, three commands discarded, and its CQ is full: 15 of 16 entries wait for the host. -/
def fullCq : State :=
  Tests.withQ 3 0 Tests.ready .aborting (fun x => { x with head := 5, cq := { x.cq with head := 1, tail := 0 }, abort := some Tests.cutDone })

theorem fullCq_queue : (fullCq.d.queue 3).abort = some Tests.cutDone ∧ (fullCq.d.queue 3).cmds = [] ∧
    (Tests.cutDone.tail + (fullCq.d.queue 3).sqSize - 2) % (fullCq.d.queue 3).sqSize ≠ 0 := by
  and_intros <;> decide +kernel

/-- The number of commands covered by function 0's ABORT after the step, if there is one. -/
def coveredAfter (i : Instr) (s : State) : Option Nat :=
  match exec i s with
  | .next t => some (t.d.fn 0).covered
  | _ => none

/-- ABORTED_RANGE waits for a free entry (R254, R260): nothing is covered yet. -/
theorem coveredAfter_fullCq : coveredAfter (.abortComplete false 3) fullCq = some 0 := by decide +kernel

theorem covered_fullCq : (fullCq.d.fn 0).covered + (Tests.cutDone.tail + (fullCq.d.queue 3).sqSize - 2) % (fullCq.d.queue 3).sqSize = 3 := by
  decide +kernel

/-- Refutes O18: its clause on ABORTED_RANGE does not ask that the CQ has a free entry, and a completion is never written into a full CQ (R254). -/
theorem not_abortsBeginCutAndEnd : ¬ Obligations.AbortsBeginCutAndEnd := by
  unfold Obligations.AbortsBeginCutAndEnd
  rintro ⟨-, -, -, hrange, -⟩
  obtain ⟨ha, hc, hn⟩ := fullCq_queue
  obtain ⟨t, -, ht, -, hcov, -⟩ := hrange fullCq 3 2 0 Tests.cutDone ha rfl rfl hc rfl hn
  have h : coveredAfter (.abortComplete false 3) fullCq = some 3 := by
    unfold coveredAfter
    rw [ht]
    exact congrArg some (hcov.trans covered_fullCq)
  rw [coveredAfter_fullCq] at h
  cases h

end Sys2Proof.Machine

/-! SUPPORT. What the start of an abort and the reset of a function do to queues and functions (R306, R308, R313). -/
namespace Sys2Proof.Machine
set_option Elab.async false

/-! ## Reading entries through a frame -/

section
variable {ps : List Part} {d e : Dev}

theorem Dev.sameBut.queue (h : Dev.sameBut ps d e) (hp : Part.queues ∉ ps := by decide) : e.queue = d.queue := by
  have hq : e.io.queues = d.io.queues := h .queues hp
  funext q
  rw [Dev.queue, hq, Dev.queue]

theorem Dev.sameBut.tim (h : Dev.sameBut ps d e) (hp : Part.tim ∉ ps := by decide) : e.tim = d.tim := h .tim hp

theorem Dev.sameBut.tb2 (h : Dev.sameBut ps d e) (hp : Part.tim ∉ ps := by decide) : e.tb2 = d.tb2 := congrArg Tim.tb2 (h.tim hp)

theorem Dev.sameBut.link (h : Dev.sameBut ps d e) (hp : Part.link ∉ ps := by decide) : Io.sameLink d.io e.io := h .link hp

theorem Dev.sameBut.owners (h : Dev.sameBut ps d e) (hp : Part.owner ∉ ps := by decide) :
    e.io.owner = d.io.owner ∧ e.io.disturb = d.io.disturb := h .owner hp

end

/-! ## Abort start -/

/-- A queue as the start of an abort leaves it (R306, R308). -/
def Queue.abortStarts (x : Queue) (kind : AbortKind) (now : Nat) : Queue :=
  if x.state = .none then x
  else if x.aborting then
    if kind = .reset then { x with state := .aborting, abort := x.abort.map (fun a => { a with kind := .reset, ranged := false }) } else x
  else { x with state := .aborting, flushTo := none, abort := some { kind := kind, start := now, tail := x.tail } }

theorem Queue.abortStarts_domain (x : Queue) (kind : AbortKind) (now : Nat) : (x.abortStarts kind now).domain = x.domain := by
  unfold Queue.abortStarts
  split
  · rfl
  · split
    · split <;> rfl
    · rfl

/-- The states in which a queue holds commands and nothing aborts it. -/
abbrev runStates : List QState := [.disabled, .enabled, .stalled]

theorem Queue.abortStarts_of_run {x : Queue} (h : x.state ∈ runStates) (kind : AbortKind) (now : Nat) :
    x.abortStarts kind now = { x with state := .aborting, flushTo := none, abort := some { kind := kind, start := now, tail := x.tail } } := by
  unfold Queue.abortStarts Queue.aborting
  simp only [List.mem_cons, List.not_mem_nil, or_false] at h
  rcases h with h | h | h <;> simp [h]

theorem Queue.abortStarts_of_aborting {x : Queue} (h : x.state = .aborting) (kind : AbortKind) (now : Nat) :
    (x.abortStarts kind now).state = .aborting := by
  unfold Queue.abortStarts Queue.aborting
  split
  · exact h
  · split
    · split
      · rfl
      · exact h
    · rfl

/-- The start of an abort changes its queue alone. -/
theorem Dev.queue_startAbort (d : Dev) (kind : AbortKind) (q j : Nat) :
    (d.startAbort kind q).queue j = if j = q then (d.queue q).abortStarts kind d.tb2 else d.queue j := by
  unfold Dev.startAbort
  extract_lets x d1 d2
  have h1 : Dev.sameBut [] d d1 := d.resetBursts_same _
  have h2 : Dev.sameBut [.cmt, .mon] d1 d2 := by
    refine .foldl (fun d k => ?_) _ d1
    split
    · exact d.freeSlot_same k
    · exact .refl _ d
  have hq : d2.queue = d.queue := h2.queue.trans h1.queue
  have ht : d2.tb2 = d.tb2 := h2.tb2.trans h1.tb2
  unfold Queue.abortStarts
  by_cases hn : x.state = .none
  · rw [if_pos hn, if_pos hn]
    split
    · next h => rw [h]
    · rfl
  · rw [if_neg hn, if_neg hn]
    by_cases ha : x.aborting = true
    · rw [if_pos ha, if_pos ha]
      split
      · exact d.queue_modQueue q _ j
      · split
        · next h => rw [h]
        · rfl
    · rw [if_neg ha, if_neg ha, Dev.queue_modQueue, hq, ht]

theorem Dev.queue_foldl_startAbort (kind : AbortKind) : ∀ (qs : List Nat) (d : Dev) (j : Nat), qs.Nodup →
    (qs.foldl (fun d q => d.startAbort kind q) d).queue j = if j ∈ qs then (d.queue j).abortStarts kind d.tb2 else d.queue j := by
  intro qs
  induction qs with
  | nil => intro d j _; rfl
  | cons q qs ih =>
    intro d j hn
    obtain ⟨hq, hn⟩ := List.nodup_cons.mp hn
    rw [List.foldl_cons, ih _ _ hn, Dev.queue_startAbort, (d.startAbort_same kind q).tb2]
    by_cases hj : j = q
    · subst hj; simp [hq]
    · simp [hj]

/-! ## The reset of a function -/

theorem Dev.mem_queuesOf {d : Dev} {f q : Nat} : q ∈ d.queuesOf f ↔ q < 64 ∧ (d.queue q).domain = f ∧ (d.queue q).state ≠ .none := by
  simp [Dev.queuesOf]

theorem Dev.queuesOf_nodup (d : Dev) (f : Nat) : (d.queuesOf f).Nodup := List.nodup_range.filter _

theorem Dev.startAborts_tb2 (d : Dev) (qs : List Nat) (kind : AbortKind) : (qs.foldl (fun d q => d.startAbort kind q) d).tb2 = d.tb2 :=
  (Dev.sameBut.foldl (fun d q => d.startAbort_same kind q) qs d).tb2

theorem Dev.queue_resetFn (d : Dev) (f j : Nat) :
    (d.resetFn f).queue j = if j ∈ d.queuesOf f then (d.queue j).abortStarts .reset d.tb2 else d.queue j :=
  Dev.queue_foldl_startAbort .reset (d.queuesOf f) d j (d.queuesOf_nodup f)

/-- The reset of a function aborts its queues, discards its requests to the island and the supervisor, and stops its rings. -/
abbrev resetParts : List Part := [.queues, .fns, .cmt, .mon, .mi, .sec]

theorem Dev.withMiSec_same (d : Dev) (x : Mi) (y : Sec) : Dev.sameBut [.mi, .sec] d { d with mi := x, sec := y } := by
  intro p hp; cases p <;> simp_all [Part.same, Io.sameLink, Dev.fn]

theorem Dev.resetFn_same (d : Dev) (f : Nat) : Dev.sameBut resetParts d (d.resetFn f) := by
  unfold Dev.resetFn
  extract_lets qs d1 now mi sec d2
  have h1 : Dev.sameBut resetParts d d1 := (d.startAborts_same qs).up _
  have h2 : Dev.sameBut resetParts d1 d2 := (d1.withMiSec_same _ _).up _
  exact h1.trans (h2.trans ((d2.modFn_same f _).up _))

theorem Dev.fn_resetFn_self (d : Dev) (f : Nat) :
    ((d.resetFn f).fn f).flrAt = some d.tb2 ∧ ((d.resetFn f).fn f).aqActive = false ∧ ((d.resetFn f).fn f).cmds = [] := by
  unfold Dev.resetFn
  extract_lets qs d1 now mi sec d2
  have ht : now = d.tb2 := d.startAborts_tb2 qs .reset
  simp [ht]

/-- The queues of a function that resets abort; those of another stay. -/
theorem Dev.resetFn_domain (d : Dev) (f q : Nat) : ((d.resetFn f).queue q).domain = (d.queue q).domain := by
  rw [Dev.queue_resetFn]
  split
  · exact Queue.abortStarts_domain _ _ _
  · rfl

theorem Dev.resetFn_other {d : Dev} {f q : Nat} (h : (d.queue q).domain ≠ f) : (d.resetFn f).queue q = d.queue q := by
  rw [Dev.queue_resetFn, if_neg (fun hm => h (Dev.mem_queuesOf.mp hm).2.1)]

theorem Dev.resetFn_aborts {d : Dev} {f q : Nat} (hq : q < 64) (hd : (d.queue q).domain = f) (hs : (d.queue q).state ∈ runStates) :
    ((d.resetFn f).queue q).state = .aborting := by
  have hn : (d.queue q).state ≠ .none := fun h => by simp [h] at hs
  rw [Dev.queue_resetFn, if_pos (Dev.mem_queuesOf.mpr ⟨hq, hd, hn⟩), Queue.abortStarts_of_run hs]

theorem Dev.resetFn_aborting {d : Dev} {q : Nat} (f : Nat) (h : (d.queue q).state = .aborting) : ((d.resetFn f).queue q).state = .aborting := by
  rw [Dev.queue_resetFn]
  split
  · exact Queue.abortStarts_of_aborting h _ _
  · exact h

/-! ## The reset of several functions -/

/-- Functions that reset one after another. -/
def Dev.resetFns (d : Dev) (l : List Nat) : Dev := l.foldl (fun d f => d.resetFn f) d

theorem Dev.resetFns_same (d : Dev) (l : List Nat) : Dev.sameBut resetParts d (d.resetFns l) := .foldl (fun d f => d.resetFn_same f) l d

theorem Dev.resetFns_keeps (d : Dev) (l : List Nat) : d.keeps (d.resetFns l) := .foldl (fun _ _ h => h.resetFn) (.refl d)

theorem Dev.resetFns_aborting {q : Nat} : ∀ (l : List Nat) {d : Dev}, (d.queue q).state = .aborting → ((d.resetFns l).queue q).state = .aborting := by
  intro l
  induction l with
  | nil => intro d h; exact h
  | cons f l ih => intro d h; exact ih (Dev.resetFn_aborting f h)

theorem Dev.resetFns_other {q : Nat} : ∀ (l : List Nat) {d : Dev}, (d.queue q).domain ∉ l → (d.resetFns l).queue q = d.queue q := by
  intro l
  induction l with
  | nil => intro d _; rfl
  | cons f l ih =>
    intro d h
    obtain ⟨hf, hl⟩ : (d.queue q).domain ≠ f ∧ (d.queue q).domain ∉ l := by simpa using h
    exact (ih (by rwa [Dev.resetFn_domain])).trans (Dev.resetFn_other hf)

theorem Dev.resetFns_aborts {q f : Nat} (hq : q < 64) : ∀ (l : List Nat) {d : Dev}, f ∈ l → (d.queue q).domain = f → (d.queue q).state ∈ runStates →
    ((d.resetFns l).queue q).state = .aborting := by
  intro l
  induction l with
  | nil => intro d h; cases h
  | cons g l ih =>
    intro d h hd hs
    by_cases hg : f = g
    · exact Dev.resetFns_aborting l (Dev.resetFn_aborts hq (hd.trans hg) hs)
    · have ho : (d.resetFn g).queue q = d.queue q := Dev.resetFn_other (by rwa [hd])
      exact ih ((List.mem_cons.mp h).resolve_left hg) (by rwa [ho]) (by rwa [ho])

/-- The functions that a removal of VFs resets. -/
def Dev.vfsAbove (d : Dev) (n : Nat) : List Nat := (List.range 16).filter (fun f => decide (n < f) && decide (f ≤ d.io.numVfs))

theorem Dev.mem_vfsAbove {d : Dev} {n f : Nat} : f ∈ d.vfsAbove n ↔ f < 16 ∧ n < f ∧ f ≤ d.io.numVfs := by simp [Dev.vfsAbove]

theorem Dev.removeVfs_eq (d : Dev) (n : Nat) : d.removeVfs n = if (d.vfsAbove n).isEmpty then d else
    { d.resetFns (d.vfsAbove n) with io := { (d.resetFns (d.vfsAbove n)).io with numVfs := n, vfHeld := none, teardown := some (d.resetFns (d.vfsAbove n)).tb2 } } := rfl

/-! ## Changing every entry of a table -/

variable {α : Type} [DecidableEq α]

theorem Tab.get_of_above {d : α} : ∀ {t : Tab α} {b j : Nat}, Tab.wf d t = true → Tab.above b t → j ≤ b → t.get d j = d := by
  intro t
  induction t with
  | nil => intro b j _ _ _; rfl
  | cons p t ih =>
    obtain ⟨k, v⟩ := p
    intro b j hw ha hj
    have hk : b < k := ha
    rw [Tab.wf_cons] at hw
    have hne : k ≠ j := by omega
    simpa [Tab.get, hne] using ih hw.2.2 hw.2.1 (by omega)

/-- In canonical form each entry reads as its own change, where the default stays. -/
theorem Tab.get_mapVals {d : α} {f : Nat → α → α} (hf : ∀ k, f k d = d) : ∀ {t : Tab α} (j : Nat), Tab.wf d t = true →
    (t.mapVals d f).get d j = f j (Tab.get d t j) := by
  intro t
  induction t with
  | nil => intro j _; exact (hf j).symm
  | cons p t ih =>
    obtain ⟨k, v⟩ := p
    intro j hw
    rw [Tab.wf_cons] at hw
    obtain ⟨-, ha, hw⟩ := hw
    have hc : Tab.mapVals d f ((k, v) :: t) = if f k v = d then Tab.mapVals d f t else (k, f k v) :: Tab.mapVals d f t := by
      by_cases hv : f k v = d <;> simp [Tab.mapVals, hv]
    rw [hc]
    by_cases hj : k = j
    · subst hj
      have hr : Tab.get d ((k, v) :: t) k = v := by simp [Tab.get]
      rw [hr]
      split
      · next hv => rw [ih k hw, Tab.get_of_above hw ha le_rfl, hf, hv]
      · simp [Tab.get]
    · have hr : Tab.get d ((k, v) :: t) j = Tab.get d t j := by simp [Tab.get, hj]
      rw [hr, ← ih j hw]
      split
      · rfl
      · simp [Tab.get, hj]

end Sys2Proof.Machine

/-! FLR, PERST_N, link loss and VF removal (R252, R313, R314, R316). -/
namespace Sys2Proof.Machine
set_option Elab.async false

/-! ## FLR -/

section
variable {s : State} {f : Nat}

theorem exec_flr_vf (hr : s.d.reach f = true) (hf : f ≠ 0) : exec (.flr f) s = .next { s with d := ((s.d.resetFn f).once 66 f).notify } := by
  rw [exec_flr, execFlr, if_neg (by simp [hr]), if_neg hf, finish_next]

theorem flr_vf_same (s : State) (f : Nat) : State.sameBut (resetParts ++ faultParts) s { s with d := ((s.d.resetFn f).once 66 f).notify } :=
  finish_same (((s.d.resetFn_same f).up _).trans ((Dev.once_same _ 66 f).up _))

/-- The queues through a fault occurrence and the notification. -/
theorem Dev.signals.queue {ns : List Nat} {d e : Dev} (h : d.signals ns e) : e.queue = d.queue := h.same.queue

theorem exec_flrComplete_vf (hx : (s.d.fn f).flrAt.isSome = true) (hn : f ≤ s.d.io.numVfs) (hf : f ≠ 0)
    (hq : ∀ q, q < 64 → (s.d.queue q).domain = f → (s.d.queue q).state = .none) :
    exec (.flrComplete f) s = .next { s with d := (s.d.modFn f (fun _ => {})).notify } := by
  have he : s.d.queuesOf f = [] := List.eq_nil_iff_forall_not_mem.mpr fun q hm => by
    obtain ⟨h1, h2, h3⟩ := Dev.mem_queuesOf.mp hm
    exact h3 (hq q h1 h2)
  rw [exec_flrComplete, execFlrComplete, if_neg (by simp [he, hn, Option.isNone_eq_false_iff.mpr hx]), finish_next,
    Dev.clearFn, if_neg hf]

end

/-! ## PF0: PERST_N and link loss -/

/-- The removal of VFs, through which the device's part of the link and its VFs change. -/
theorem Dev.withIo_same (d : Dev) {n : Nat} {x y : Option Nat} :
    Dev.sameBut [.link] d { d with io := { d.io with numVfs := n, vfHeld := x, teardown := y } } := by
  intro p hp; cases p <;> simp_all [Part.same, Dev.fn]

theorem Dev.removeVfs_same (d : Dev) (n : Nat) : Dev.sameBut (.link :: resetParts) d (d.removeVfs n) := by
  rw [Dev.removeVfs_eq]
  split
  · exact .refl _ _
  · exact ((d.resetFns_same _).up _).trans (Dev.sameBut.up _ (Dev.withIo_same _))

theorem Dev.removeVfs_queue (d : Dev) (n : Nat) : (d.removeVfs n).queue = (d.resetFns (d.vfsAbove n)).queue := by
  rw [Dev.removeVfs_eq]
  split
  · next h => rw [List.isEmpty_iff.mp h]; rfl
  · rfl

/-- With VFs to remove, they are gone at once and their teardown runs (R252). -/
theorem Dev.removeVfs_of_lt {d : Dev} {n : Nat} (h : n < d.io.numVfs) (hv : d.io.numVfs ≤ 15) :
    (d.removeVfs n).io.numVfs = n ∧ (d.removeVfs n).io.teardown = some d.tb2 := by
  have hm : n + 1 ∈ d.vfsAbove n := Dev.mem_vfsAbove.mpr ⟨by omega, by omega, by omega⟩
  rw [Dev.removeVfs_eq, if_neg (by simp [List.isEmpty_iff, List.ne_nil_of_mem hm])]
  exact ⟨rfl, congrArg some (d.resetFns_same _).tb2⟩

theorem Dev.removeVfs_zero_numVfs (d : Dev) : (d.removeVfs 0).io.numVfs = 0 := by
  rw [Dev.removeVfs_eq]
  split
  · next h =>
    rw [List.isEmpty_iff] at h
    by_contra hn
    have hm : 1 ∈ d.vfsAbove 0 := Dev.mem_vfsAbove.mpr ⟨by omega, by omega, by omega⟩
    simp [h] at hm
  · rfl

theorem Dev.endSession_same (d : Dev) (doe : Bool) : Dev.sameBut [.sec, .views] d (d.endSession doe) := by
  have h : Dev.sameBut [.sec, .views] d (d.setSession doe {}) := by
    cases doe <;> exact (d.withSec_same _).up _
  rw [Dev.endSession_eq]
  split
  · exact .refl _ _
  · exact h.trans ((Dev.setLeaf_same _ 0 _ _).up _)

theorem Dev.withDisturb_same (d : Dev) (x : Tab Nat) (y : Option Nat) :
    Dev.sameBut [.owner, .link] d { d with io := { d.io with disturb := x, vfHeld := y } } := by
  intro p hp; cases p <;> simp_all [Part.same, Dev.fn]

/-- What a reset of PF0 may change. -/
abbrev pf0Parts : List Part := [.queues, .fns, .cmt, .mon, .mi, .sec, .views, .owner, .link]

theorem Dev.resetPf0_same (d : Dev) : Dev.sameBut pf0Parts d d.resetPf0 := by
  unfold Dev.resetPf0
  extract_lets d1 d2 io
  have h1 : Dev.sameBut pf0Parts d d1 := ((d.removeVfs_same 0).up _).trans ((Dev.endSession_same _ true).up _)
  have h2 : Dev.sameBut pf0Parts d1 d2 := (d1.resetFn_same 0).up _
  exact h1.trans (h2.trans ((d2.withDisturb_same _ _).up _))

/-- DOM_DISTURB cleared, and no VFs held back. -/
def Dev.disturbCleared (d : Dev) : Dev := { d with io := { d.io with disturb := [], vfHeld := none } }

theorem Dev.resetPf0_eq (d : Dev) : d.resetPf0 = (((d.removeVfs 0).endSession true).resetFn 0).disturbCleared := rfl

/-- A reset of PF0 removes the VFs, clears DOM_DISTURB and resets PF0 itself (R314). -/
theorem Dev.resetPf0_fields (d : Dev) : d.resetPf0.io.numVfs = 0 ∧ d.resetPf0.io.disturb = [] ∧ (d.resetPf0.fn 0).flrAt = some d.tb2 ∧
    d.resetPf0.io.linkUp = d.io.linkUp ∧ d.resetPf0.io.linkGen = d.io.linkGen ∧ d.resetPf0.io.perst = d.io.perst := by
  have he := Dev.endSession_same (d.removeVfs 0) true
  have hr : Dev.sameBut [.queues, .fns, .cmt, .mon, .mi, .sec, .views] (d.removeVfs 0) (((d.removeVfs 0).endSession true).resetFn 0) :=
    (he.up _).trans ((Dev.resetFn_same _ 0).up _)
  have hg := Dev.resetFns_same d (d.vfsAbove 0)
  obtain ⟨-, hu, hw, -, -, hn, -, -, hp⟩ := hr.link
  obtain ⟨-, gu, gw, -, -, -, -, -, gp⟩ := hg.link
  have hv : (d.removeVfs 0).io.linkUp = d.io.linkUp ∧ (d.removeVfs 0).io.linkGen = d.io.linkGen ∧ (d.removeVfs 0).io.perst = d.io.perst := by
    rw [Dev.removeVfs_eq]
    split
    · exact ⟨rfl, rfl, rfl⟩
    · exact ⟨gu, gw, gp⟩
  have ht : ((d.removeVfs 0).endSession true).tb2 = d.tb2 := he.tb2.trans (d.removeVfs_same 0).tb2
  have hf : ((((d.removeVfs 0).endSession true).resetFn 0).fn 0).flrAt = some d.tb2 := (Dev.fn_resetFn_self _ 0).1.trans (congrArg some ht)
  rw [Dev.resetPf0_eq]
  generalize ((d.removeVfs 0).endSession true).resetFn 0 = e at *
  exact ⟨hn.trans d.removeVfs_zero_numVfs, rfl, hf, hu.trans hv.1, hw.trans hv.2.1, hp.trans hv.2.2⟩

theorem Dev.resetPf0_aborts {d : Dev} {q : Nat} (hq : q < 64) (hd : (d.queue q).domain = 0) (hs : (d.queue q).state ∈ runStates) :
    (d.resetPf0.queue q).state = .aborting := by
  have ho : ((d.removeVfs 0).endSession true).queue q = d.queue q := by
    rw [(Dev.endSession_same _ true).queue, Dev.removeVfs_queue]
    exact Dev.resetFns_other _ (fun h => by rw [hd] at h; exact absurd (Dev.mem_vfsAbove.mp h).2.1 (Nat.lt_irrefl 0))
  exact Dev.resetFn_aborts hq (by rw [ho]; exact hd) (by rw [ho]; exact hs)

/-- The link is down: as PERST_N or its loss leaves the link's registers. -/
def Dev.linkOff (d : Dev) (perst : Bool) : Dev :=
  { d with io := { d.io with perst := perst, linkUp := false, linkGen := 0, linkWidth := 0, linkFlit := false } }

/-- The link is lost: PF0 resets, bursts to the host are dropped, the sessions end, FS65 is current (R314). -/
def Dev.linkLost (d : Dev) (perst : Bool) : Dev := (((d.linkOff perst).resetPf0.dropHostBursts).endSession false).condOn 65 0

theorem Dev.linkOff_same (d : Dev) (perst : Bool) : Dev.sameBut [.link] d (d.linkOff perst) := by
  intro p hp; cases p <;> simp_all [Part.same, Dev.fn, Dev.linkOff]

theorem exec_linkLost {s : State} {i : Instr} (h : i = .perstN ∧ s.d.io.perst = false ∨ i = .linkDown ∧ s.d.io.linkUp = true) :
    ∃ perst, exec i s = .next { s with d := (s.d.linkLost perst).notify } ∧ (i = .perstN → perst = true) := by
  obtain ⟨rfl, h⟩ | ⟨rfl, h⟩ := h
  · exact ⟨true, by rw [exec_perstN, execPerstN, if_neg (by simp [h]), finish_next]; rfl, fun _ => rfl⟩
  · exact ⟨s.d.io.perst, by rw [exec_linkDown, execLinkDown, if_neg (by simp [h]), finish_next]; rfl, by simp⟩

theorem Dev.linkLost_same (d : Dev) (perst : Bool) : Dev.sameBut (pf0Parts ++ faultParts) d (d.linkLost perst) :=
  ((d.linkOff_same perst).up _).trans (((Dev.resetPf0_same _).up _).trans (((Dev.dropHostBursts_same _).up _).trans
    (((Dev.endSession_same _ false).up _).trans ((Dev.condOn_same _ 65 0).up _))))

/-- What the end of the sessions and FS65 leave of a reset of PF0. -/
theorem Dev.linkLost_tail (d : Dev) (perst : Bool) : Dev.sameBut (.sec :: faultParts) (d.linkOff perst).resetPf0 (d.linkLost perst) :=
  ((Dev.dropHostBursts_same _).up _).trans (((Dev.endSession_same _ false).up _).trans ((Dev.condOn_same _ 65 0).up _))

theorem Src.current_of_mem {x : Src} {scope : Nat} (h : scope ∈ x.conds) : x.current = true := by
  cases hc : x.conds with
  | nil => simp [hc] at h
  | cons a l => simp [Src.current, hc]

theorem Dev.endSession_fn (d : Dev) (doe : Bool) : (d.endSession doe).fn = d.fn := by
  rw [Dev.endSession_eq]
  split
  · rfl
  · cases doe <;> rfl

theorem Dev.linkLost_fields (d : Dev) (perst : Bool) : (d.linkLost perst).io.linkUp = false ∧ (d.linkLost perst).io.linkGen = 0 ∧
    (d.linkLost perst).io.numVfs = 0 ∧ (d.linkLost perst).io.disturb = [] ∧ (d.linkLost perst).io.perst = perst ∧
    ((d.linkLost perst).fn 0).flrAt = some d.tb2 ∧ ((d.linkLost perst).src 65).current = true ∧ (d.linkLost perst).cmt.esn = d.cmt.esn := by
  have ht := d.linkLost_tail perst
  obtain ⟨-, hu, hw, -, -, hn, -, -, hp⟩ := ht.link
  obtain ⟨rn, rd, rf, ru, rw', rp⟩ := (d.linkOff perst).resetPf0_fields
  refine ⟨hu.trans ru, hw.trans rw', hn.trans rn, ht.owners.2.trans rd, hp.trans rp, ?_, ?_, ?_⟩
  · have hf := (Dev.condOn_signals ((d.linkOff perst).resetPf0.dropHostBursts.endSession false) 65 0).fn 0
    obtain ⟨-, -, -, -, -, -, -, -, -, -, -, -, -, -, -, -, -, -, -, -, -, -, -, hf⟩ := hf.fields
    rw [Dev.linkLost, hf, Dev.endSession_fn]
    exact rf
  · exact Src.current_of_mem (Dev.mem_conds_condOn (by decide) (by decide) _ 0)
  · have hk : d.keeps (d.linkLost perst) := Dev.keeps.condOn (.endSession (.dropHostBursts (.resetPf0 (.io (.refl d)))))
    exact hk.esn

theorem Dev.linkLost_aborts {d : Dev} {q : Nat} (perst : Bool) (hq : q < 64) (hd : (d.queue q).domain = 0) (hs : (d.queue q).state ∈ runStates) :
    ((d.linkLost perst).queue q).state = .aborting := by
  rw [(d.linkLost_tail perst).queue]
  exact Dev.resetPf0_aborts hq hd hs

end Sys2Proof.Machine

/-! The link's return and the removal of VFs (R252, R314, R316), and O19. -/
namespace Sys2Proof.Machine
set_option Elab.async false

/-! ## The link's return, and VFs enabled -/

/-- The link's registers, the number of VFs and PERST_N replaced. -/
def Io.withLinkOf (x y : Io) : Io :=
  { x with linkUp := y.linkUp, linkGen := y.linkGen, linkWidth := y.linkWidth, linkFlit := y.linkFlit, numVfs := y.numVfs, vfHeld := y.vfHeld,
           perst := y.perst }

theorem Dev.withLink_same (d : Dev) (x : Io) : Dev.sameBut [.link] d { d with io := d.io.withLinkOf x } := by
  intro p hp; cases p <;> simp_all [Part.same, Dev.fn, Io.withLinkOf]

theorem exec_perstNRelease_eq {s : State} (h : s.d.io.perst = true) :
    exec .perstNRelease s = .next { s with d := Dev.notify { s.d with io := { s.d.io with perst := false } } } := by
  rw [exec_perstNRelease, execPerstNRelease, if_pos h, finish_next]

/-- The link up at a generation, a width and a mode. -/
def Dev.linkOn (d : Dev) (g w : Nat) (fl : Bool) : Dev := { d with io := { d.io with linkUp := true, linkGen := g, linkWidth := w, linkFlit := fl } }

theorem exec_linkUp_eq {s : State} {g w : Nat} {fl : Bool} (hl : s.d.io.linkUp = false) (hp : s.d.io.perst = false) (h1 : 1 ≤ g) (h6 : g ≤ 6)
    (hw : w ∈ [1, 2, 4, 8]) (hc : s.d.clocked = true) (hd : ¬(s.d.pwr.phase = .dawn ∧ s.d.pwr.step = 0)) :
    exec (.linkUp g w fl) s = .next { s with d := ((s.d.linkOn g w fl).condOff 65 0).notify } := by
  have hd' : (s.d.pwr.phase == .dawn && s.d.pwr.step == 0) = false := by simpa using hd
  have hw' : [1, 2, 4, 8].contains w = true := List.contains_iff_mem.mpr hw
  rw [exec_linkUp, execLinkUp, if_neg (by simp only [hl, hp, h1, h6, hw', hc, hd', decide_true]; decide), finish_next]
  rfl

theorem exec_vfRemoval_eq {s : State} {n : Nat} (hr : s.d.reach 0 = true) (hn : n < s.d.io.numVfs) :
    exec (.vfRemoval n) s = .next { s with d := (s.d.removeVfs n).notify } := by
  rw [exec_vfRemoval, execVfRemoval, if_neg (by simp [hr, hn]), finish_next]

theorem Dev.removeVfs_aborts {d : Dev} {n q f : Nat} (hq : q < 64) (hn : n < f) (hf : f ≤ d.io.numVfs) (hv : d.io.numVfs ≤ 15)
    (hd : (d.queue q).domain = f) (hs : (d.queue q).state ∈ runStates) : ((d.removeVfs n).queue q).state = .aborting := by
  rw [Dev.removeVfs_queue]
  exact Dev.resetFns_aborts hq _ (Dev.mem_vfsAbove.mpr ⟨by omega, hn, hf⟩) hd hs

theorem exec_vfEnable_eq {s : State} {n : Nat} (hr : s.d.reach 0 = true) (hn : s.d.io.numVfs < n) (h15 : n ≤ 15) :
    exec (.vfEnable n) s = .next { s with d := Dev.notify (if s.d.io.teardown.isSome then { s.d with io := { s.d.io with vfHeld := some n } }
      else { s.d with io := { s.d.io with numVfs := n } }) } := by
  rw [exec_vfEnable, execVfEnable, if_neg (by simp [hr, hn, h15])]
  split <;> rfl

/-! ## The end of a teardown -/

/-- A queue of a function that is no more goes to domain 0. -/
def Queue.backTo0 (n : Nat) (x : Queue) : Queue := if n < x.domain then { x with domain := 0 } else x

theorem Queue.backTo0_default (n : Nat) : Queue.backTo0 n {} = {} := if_neg (Nat.not_lt_zero n)

/-- Queues, ports and the number of VFs as the end of a teardown leaves them. -/
def Dev.tornDown (d : Dev) : Dev :=
  { d with io := { d.io with queues := d.io.queues.mapVals {} (fun _ q => q.backTo0 d.io.numVfs),
                             owner := d.io.owner.mapVals 0 (fun _ o => if d.io.numVfs < o then 0 else o),
                             numVfs := d.io.vfHeld.getD d.io.numVfs, vfHeld := none, teardown := none } }

/-- The functions that are not there. -/
def Dev.goneFns (d : Dev) : List Nat := (List.range 16).filter (fun f => decide (d.io.numVfs < f))

/-- A function cleared with nothing of PF0. -/
theorem Dev.clearFns_eq : ∀ (l : List Nat) (d : Dev), 0 ∉ l → l.foldl (fun d f => d.clearFn f) d = l.foldl (fun d f => d.modFn f (fun _ => {})) d := by
  intro l
  induction l with
  | nil => intro d _; rfl
  | cons f l ih =>
    intro d h
    have hf : f ≠ 0 := fun e => h (by simp [e])
    rw [List.foldl_cons, List.foldl_cons, Dev.clearFn, if_neg hf]
    exact ih _ (fun hm => h (List.mem_cons_of_mem _ hm))

theorem exec_vfTeardownComplete_eq {s : State} (ht : s.d.io.teardown.isSome = true)
    (hq : ∀ q, q < 64 → s.d.io.numVfs < (s.d.queue q).domain → (s.d.queue q).state = .none) :
    exec .vfTeardownComplete s = .next { s with d := (s.d.goneFns.foldl (fun d f => d.modFn f (fun _ => {})) s.d).tornDown.notify } := by
  have ha : s.d.goneFns.any (fun f => !(s.d.queuesOf f).isEmpty) = false := by
    simp only [List.any_eq_false, Bool.not_eq_true', Bool.not_eq_false, List.isEmpty_iff]
    intro f hf
    refine List.eq_nil_iff_forall_not_mem.mpr fun q hm => ?_
    obtain ⟨h1, h2, h3⟩ := Dev.mem_queuesOf.mp hm
    have hn : s.d.io.numVfs < f := by simpa [Dev.goneFns] using (List.mem_filter.mp hf).2
    exact h3 (hq q h1 (by rwa [h2]))
  have h0 : 0 ∉ s.d.goneFns := by simp [Dev.goneFns]
  have he : execVfTeardownComplete s = if s.d.io.teardown.isNone || s.d.goneFns.any (fun f => !(s.d.queuesOf f).isEmpty) then ignored s
      else finish s (s.d.goneFns.foldl (fun d f => d.clearFn f) s.d).tornDown := rfl
  rw [exec_vfTeardownComplete, he, ha, Dev.clearFns_eq _ _ h0, if_neg (by simp [Option.isNone_eq_false_iff.mpr ht]), finish_next]

theorem Dev.clearedFns_same (d : Dev) (l : List Nat) : Dev.sameBut [.fns] d (l.foldl (fun d f => d.modFn f (fun _ => {})) d) :=
  .foldl (fun d f => d.modFn_same f _) l d

theorem Dev.tornDown_fields {d : Dev} (ho : Tab.wf 0 d.io.owner = true) (hq : Tab.wf {} d.io.queues = true) :
    d.tornDown.io.teardown = none ∧ d.tornDown.io.numVfs = d.io.vfHeld.getD d.io.numVfs ∧
    (∀ side p, d.tornDown.owner side p = if d.io.numVfs < d.owner side p then 0 else d.owner side p) ∧
    (∀ q, (d.tornDown.queue q).domain = if d.io.numVfs < (d.queue q).domain then 0 else (d.queue q).domain) ∧ d.tornDown.fab = d.fab := by
  refine ⟨rfl, rfl, fun side p => ?_, fun q => ?_, rfl⟩
  · exact Tab.get_mapVals (f := fun _ o => if d.io.numVfs < o then 0 else o) (fun _ => by split <;> rfl) (side * 512 + p) ho
  · have h : d.tornDown.queue q = (d.queue q).backTo0 d.io.numVfs := Tab.get_mapVals (f := fun _ (x : Queue) => x.backTo0 d.io.numVfs)
      (fun _ => Queue.backTo0_default _) q hq
    rw [h, Queue.backTo0]
    split <;> rfl

/-- Settles O19, by what each reset, removal and return makes of the device. -/
theorem resetsAndFunctionsComeAndGo : Obligations.ResetsAndFunctionsComeAndGo := by
  refine ⟨?_, ?_, ?_, ?_, ?_, ?_, ?_, ?_⟩
  · intro s f hr hf h16
    have ho := Dev.once_signals (s.d.resetFn f) 66 f
    obtain ⟨hn, hm, hi, hp, hs⟩ := flr_vf_same s f
    obtain ⟨h1, h2, h3⟩ := Dev.fn_resetFn_self s.d f
    obtain ⟨-, -, -, -, -, g2, -, -, -, g3, -, -, -, -, -, -, -, -, -, -, -, -, -, g1⟩ := (ho.fn f).fields
    refine ⟨_, exec_flr_vf hr hf, by simpa [g1] using h1, by simpa [g2] using h2, by simpa [g3] using h3, fun q hq hd hs => ?_, fun q hd => ?_,
      fun q => ?_, ?_, hs .fab (by decide), (hs.owners (by decide)).1, (hs.owners (by decide)).2, ?_, hn, hm, hi, hp⟩
    · simpa [ho.queue] using Dev.resetFn_aborts hq hd hs
    · simpa [ho.queue] using Dev.resetFn_other hd
    · simpa [ho.queue] using s.d.resetFn_domain f q
    · rw [Dev.notify_src, Dev.src_once (by decide) (by decide)]
      exact (Src.marked_fields _ _ _ _ _ _).1
    · have hk : s.d.keeps ((s.d.resetFn f).once 66 f) := .once (.resetFn (.refl _))
      simpa using hk.esn
  · intro s f hx hn hf hq
    have hs := finish_same (s := s) (s.d.modFn_same f (fun _ => {}))
    have hfn := (s.d.modFn f (fun _ => {})).notify_fn_all f
    refine ⟨_, exec_flrComplete_vf hx hn hf hq, ?_, hs.2.2.2.2 .queues (by decide), hs⟩
    simp
  · intro s i h
    obtain ⟨perst, he, hp⟩ := exec_linkLost h
    obtain ⟨f1, f2, f3, f4, f5, f6, f7, f8⟩ := s.d.linkLost_fields perst
    obtain ⟨hn, hm, hi, hpe, hs⟩ := finish_same (s := s) (s.d.linkLost_same perst)
    refine ⟨_, he, by simpa using f1, by simpa using f2, by simpa using f3, fun e => by simp [Dev.disturb, f4, Tab.get], by simpa using f6,
      by simpa using f7, fun hi => by simpa [hp hi] using f5, fun q hq hd hs => ?_, hs .fab (by decide), hs .tim (by decide), hs .cal (by decide),
      by simpa using f8, hn, hm, hi, hpe⟩
    simpa using Dev.linkLost_aborts perst hq hd hs
  · intro s h
    exact ⟨_, exec_perstNRelease_eq h, by simp, finish_same (s.d.withLink_same { s.d.io with perst := false })⟩
  · intro s g w fl hl hp h1 h6 hw hc hd
    refine ⟨_, exec_linkUp_eq hl hp h1 h6 hw hc hd, ?_, ?_, ?_, ?_, ?_, finish_same ?_⟩
    · simp [Dev.condOff, Dev.linkOn]
    · simp [Dev.condOff, Dev.linkOn]
    · simp [Dev.condOff, Dev.linkOn]
    · simp [Dev.condOff, Dev.linkOn]
    · simp [Dev.condOff]
    · exact ((s.d.withLink_same { s.d.io with linkUp := true, linkGen := g, linkWidth := w, linkFlit := fl }).up _).trans ((Dev.condOff_same _ 65 0).up _)
  · intro s n hr hn hv
    obtain ⟨h1, h2⟩ := Dev.removeVfs_of_lt hn hv
    obtain ⟨hnet, hm, hi, hpe, hs⟩ := finish_same (s := s) (s.d.removeVfs_same n)
    refine ⟨_, exec_vfRemoval_eq hr hn, by simpa using h1, by simpa using h2, fun q f hq hf hf' hd hs => ?_, hs .fab (by decide), hnet, hm, hi, hpe⟩
    simpa using Dev.removeVfs_aborts hq hf hf' hv hd hs
  · intro s n hr hn h15
    refine ⟨_, exec_vfEnable_eq hr hn h15, ?_, finish_same ?_⟩
    · split <;> simp
    · split
      · exact s.d.withLink_same { s.d.io with vfHeld := some n }
      · exact s.d.withLink_same { s.d.io with numVfs := n }
  · intro s ht hq ho hqs
    have hc := s.d.clearedFns_same s.d.goneFns
    have e1 : (s.d.goneFns.foldl (fun d f => d.modFn f (fun _ => {})) s.d).io.queues = s.d.io.queues := hc .queues (by decide)
    obtain ⟨e2, e3⟩ := hc.owners
    obtain ⟨-, -, -, -, -, e4, e5, -, -⟩ := hc.link
    have e6 : (s.d.goneFns.foldl (fun d f => d.modFn f (fun _ => {})) s.d).fab = s.d.fab := hc .fab (by decide)
    obtain ⟨g1, g2, g3, g4, g5⟩ := Dev.tornDown_fields (d := s.d.goneFns.foldl (fun d f => d.modFn f (fun _ => {})) s.d) (by rwa [e2]) (by rwa [e1])
    refine ⟨_, exec_vfTeardownComplete_eq ht hq, by simpa using g1, by simpa [e4, e5] using g2, fun side p => ?_, fun q => ?_, by simpa [e6] using g5,
      rfl, rfl, rfl, rfl⟩
    · have e7 : (s.d.goneFns.foldl (fun d f => d.modFn f (fun _ => {})) s.d).owner side p = s.d.owner side p := by rw [Dev.owner, e2, Dev.owner]
      rw [← e7, ← e4, ← g3 side p]
      simp [Dev.owner]
    · simpa [hc.queue, e4] using g4 q

end Sys2Proof.Machine

/-! Rings that start and stop (R274, R287, R316, R469, R470). -/
namespace Sys2Proof.Machine
set_option Elab.async false

/-! ## A write of a function's registers -/

theorem Dev.modFn_notify_eq (d : Dev) (g : Nat) (w : Fn → Fn) : Obl.fnEq ((d.modFn g w).notify.fn g) (w (d.fn g)) := by
  have h := (d.modFn g w).notify_fn_all g
  rw [Dev.fn_modFn_self] at h
  exact h

theorem Dev.modFn_notify_ne (d : Dev) {g h : Nat} (w : Fn → Fn) (hg : h ≠ g) : Obl.fnEq ((d.modFn g w).notify.fn h) (d.fn h) := by
  have he := (d.modFn g w).notify_fn_all h
  rw [Dev.fn_modFn, if_neg hg] at he
  exact he

/-- A host write that changes a function's registers: that change, and nothing else. -/
theorem hostWr_modFn {s : State} {f addr g : Nat} {w : Fn → Fn} {act : Dev → Dev} (hr : s.d.reach f = true)
    (ha : act (s.d.inbound true 0 addr 4) = (s.d.inbound true 0 addr 4).modFn g w) :
    ∃ t, hostWr s f addr act = .next t ∧ Obl.fnEq (t.d.fn g) (w (s.d.fn g)) ∧ (∀ h, h ≠ g → Obl.fnEq (t.d.fn h) (s.d.fn h)) ∧
      State.sameBut [.fns] s t := by
  refine ⟨_, by rw [hostWr_next hr, ha], ?_, fun h hh => ?_, finish_same ?_⟩
  · exact Dev.modFn_notify_eq (s.d.inbound true 0 addr 4) g w
  · exact Dev.modFn_notify_ne (s.d.inbound true 0 addr 4) w hh
  · exact ((s.d.inbound_same _ _ _ _).up _).trans (Dev.modFn_same _ g w)

theorem hifVisible_of {f g : Nat} (hg : g < 16) (h : f = 0 ∨ f = g) : hifVisible f g = true := by
  obtain rfl | rfl := h <;> simp [hifVisible, okFn, hg]

/-! ## What each write of a configuration register makes of a function -/

theorem Fn.aqCfgWrite_enable {x : Fn} {v : Nat} (hb : bitOf v 8 = true) (he : x.aqEn = false) (hs : fieldOf v 0 4 ≤ 12) (hc : fieldOf v 4 4 ≤ 12) :
    x.aqCfgWrite v = if x.orphans = [] then
        { x with aqSqs := fieldOf v 0 4, aqCqs := fieldOf v 4 4, aqEn := true, aqActive := true, aqHead := 0, aqTail := 0,
                 acq := { base := x.aqCqBase, size := 2 ^ (fieldOf v 4 4 + 4) } }
      else { x with aqSqs := fieldOf v 0 4, aqCqs := fieldOf v 4 4, aqEn := true } := by
  have hm : v % 16 = fieldOf v 0 4 := by simp [fieldOf]
  unfold Fn.aqCfgWrite
  rw [if_pos hb, if_neg (by simp [he]), hm]
  dsimp only
  rw [if_neg (by omega)]
  by_cases ho : x.orphans = []
  · rw [if_pos ho, if_pos (by simp [ho])]; rfl
  · rw [if_neg ho, if_neg (by simpa using ho)]

theorem Fn.aqCfgWrite_disable {x : Fn} {v : Nat} (hb : bitOf v 8 = false) (he : x.aqEn = true) : x.aqCfgWrite v =
      { x with aqEn := false, aqActive := false, acq := {}, cmds := [], orphans := x.orphans ++ x.cmds.filter (·.executed) } := by
  unfold Fn.aqCfgWrite
  rw [if_neg (by simp [hb]), if_pos he]

theorem Fn.evtCfgWrite_enable {x : Fn} {v : Nat} (hb : bitOf v 8 = true) (he : x.evtEn = false) (hs : fieldOf v 0 4 ≤ 12) :
    x.evtCfgWrite v = { x with evtAgg := fieldOf v 16 16, evtEs := fieldOf v 0 4, evtEn := true, evtActive := true,
                               evt := { base := x.evtBase, size := 2 ^ (fieldOf v 0 4 + 4) } } := by
  have hm : v % 16 = fieldOf v 0 4 := by simp [fieldOf]
  unfold Fn.evtCfgWrite
  dsimp only
  rw [if_pos hb, if_neg (by simp [he]), hm, if_neg (by omega)]
  rfl

theorem Fn.evtCfgWrite_disable {x : Fn} {v : Nat} (hb : bitOf v 8 = false) (he : x.evtEn = true) :
    x.evtCfgWrite v = { x with evtAgg := fieldOf v 16 16, evtEn := false, evtActive := false, evt := {} } := by
  unfold Fn.evtCfgWrite
  dsimp only
  rw [if_neg (by simp [hb]), if_pos he]

theorem Tel.cfgWrite_enable {x : Tel} {v : Nat} (hb : bitOf v 9 = true) (he : x.en = false) (hs : fieldOf v 0 4 ≤ 12) :
    x.cfgWrite v = { x with content := fieldOf v 10 3, hs := fieldOf v 0 4, bs := max 16 (min (fieldOf v 4 5) 26), en := true,
                            ring := { base := x.hdrBase, size := 2 ^ (fieldOf v 0 4 + 4) }, bulk := [], bulkNext := 0 } := by
  have hm : v % 16 = fieldOf v 0 4 := by simp [fieldOf]
  unfold Tel.cfgWrite
  dsimp only
  rw [if_pos hb, if_neg (by simp [he]), hm, if_neg (by omega)]
  rfl

/-- Settles O20, by what each configuration write makes of its ring. -/
theorem ringsStartAndStop : Obligations.RingsStartAndStop := by
  refine ⟨?_, ?_, ?_, ?_, ?_, ?_⟩
  · intro s f g v hr hg hfg hb he hs hc
    obtain ⟨t, ht, h1, h2, h3⟩ := hostWr_modFn (addr := 0x2110 + 0x40 * g) (g := g) (w := fun x => x.aqCfgWrite v.toNat)
      (act := fun d => if hifVisible f g && bitOf v.toNat 8 then d.modFn g (fun x => x.aqCfgWrite v.toNat) else d) hr
      (if_pos (by simp [hifVisible_of hg hfg, hb]))
    rw [Fn.aqCfgWrite_enable hb he hs hc] at h1
    exact ⟨t, (exec_adminQueueEnable ..).trans ht, fun ho => by rwa [if_pos ho] at h1, fun ho => by rwa [if_neg ho] at h1, h2, h3⟩
  · intro s f g v hr hg hfg hb he
    obtain ⟨t, ht, h1, h2, h3⟩ := hostWr_modFn (addr := 0x2110 + 0x40 * g) (g := g) (w := fun x => x.aqCfgWrite v.toNat)
      (act := fun d => if hifVisible f g && !bitOf v.toNat 8 then d.modFn g (fun x => x.aqCfgWrite v.toNat) else d) hr
      (if_pos (by simp [hifVisible_of hg hfg, hb]))
    rw [Fn.aqCfgWrite_disable hb he] at h1
    exact ⟨t, (exec_adminQueueDisable ..).trans ht, h1, h2, h3⟩
  · intro s g he ha ho
    refine ⟨_, by rw [exec_adminAbortEnd, execAdminAbortEnd, if_pos (by simp [he, ha, ho]), finish_next], s.d.modFn_notify_eq g Fn.aqStart,
      fun h hh => s.d.modFn_notify_ne Fn.aqStart hh, finish_same (s.d.modFn_same g _)⟩
  · intro s f g v hr hg hfg hb he hs
    obtain ⟨t, ht, h1, h2, h3⟩ := hostWr_modFn (addr := 0x211C + 0x40 * g) (g := g) (w := fun x => x.evtCfgWrite v.toNat)
      (act := fun d => if hifVisible f g && bitOf v.toNat 8 then d.modFn g (fun x => x.evtCfgWrite v.toNat) else d) hr
      (if_pos (by simp [hifVisible_of hg hfg, hb]))
    rw [Fn.evtCfgWrite_enable hb he hs] at h1
    exact ⟨t, (exec_eventRingEnable ..).trans ht, h1, h2, h3⟩
  · intro s f g v hr hg hfg hb he
    obtain ⟨t, ht, h1, h2, h3⟩ := hostWr_modFn (addr := 0x211C + 0x40 * g) (g := g) (w := fun x => x.evtCfgWrite v.toNat)
      (act := fun d => if hifVisible f g && !bitOf v.toNat 8 then d.modFn g (fun x => x.evtCfgWrite v.toNat) else d) hr
      (if_pos (by simp [hifVisible_of hg hfg, hb]))
    rw [Fn.evtCfgWrite_disable hb he] at h1
    exact ⟨t, (exec_eventRingDisable ..).trans ht, h1, h2, h3⟩
  · intro s v hr hb he hs
    refine ⟨_, by rw [exec_telemetryEnable, execTelemetryEnable, pf0Wr, hostWr_next hr, if_pos rfl], ?_, finish_same ?_⟩
    · rw [← Tel.cfgWrite_enable hb he hs]
      simp [Dev.telCfgWrite]
    · exact ((s.d.inbound_same _ _ _ _).up _).trans (Dev.withTel_same _ _)

end Sys2Proof.Machine

/-! Causes, messages and CREATE (R275, R276, R281, R288). -/
namespace Sys2Proof.Machine
set_option Elab.async false

/-! ## Messages -/

theorem Dev.message_sends {d : Dev} {f : Nat} (hm : (d.fn f).msixMask = false) (hc : (d.fn f).cfg.fnMask = false) (hw : (d.fn f).flrAt = none) :
    d.message f = (d.send (.msix f)).count 3017 := by
  rw [Dev.message, if_neg (by simp [hm, hc]), if_pos (by simp [Dev.mayWrite, hw])]

theorem Dev.message_pends {d : Dev} {f : Nat} (h : (d.fn f).msixMask = true ∨ (d.fn f).cfg.fnMask = true) :
    d.message f = d.modFn f (fun x => { x with msixPend := true }) := by
  rw [Dev.message, if_pos (by simpa using h)]

/-- No message takes a pending bit back. -/
theorem Dev.message_pend (d : Dev) (g f : Nat) (h : (d.fn f).msixPend = true) : ((d.message g).fn f).msixPend = true := by
  unfold Dev.message
  split
  · rw [Dev.fn_modFn]
    split
    · rfl
    · exact h
  · split <;> exact h

theorem Dev.pinTo_fn (d : Dev) (n : String) (o w : Bool) : (d.pinTo n o w).fn = d.fn := by
  unfold Dev.pinTo
  split <;> rfl

/-- A message that waits, waits on through the notification. -/
theorem Dev.notify_pend (d : Dev) (f : Nat) (h : (d.fn f).msixPend = true) : (d.notify.fn f).msixPend = true := by
  have hl : ∀ (l : List Nat) (e : Dev), (e.fn f).msixPend = true → ((l.foldl Dev.message e).fn f).msixPend = true := by
    intro l
    induction l with
    | nil => intro e he; exact he
    | cons g l ih => intro e he; exact ih _ (e.message_pend g f he)
  unfold Dev.notify
  extract_lets on d1 attn err permit d2 d3 d4
  have h1 : (d1.fn f).msixPend = true := hl _ d h
  have h4 : d4.fn = d1.fn := (d3.pinTo_fn _ _ _).trans ((d2.pinTo_fn _ _ _).trans (d1.pinTo_fn _ _ _))
  have h5 : (d4.fn f).msixPend = true := by rw [h4]; exact h1
  exact h5

/-! ## IRQ_REARM -/

section
variable {s : State} {f : Nat} (hr : s.d.reach f = true) (ha : s.d.atnSum f ≠ 0)
include hr ha

/-- IRQ_REARM with a cause that stands sends the message, or leaves it pending. -/
theorem exec_irqRearm_eq : ∃ a, exec (.irqRearm f 4 0) s = .next { s with d := (((s.d.inbound true 0 a 4).count 3012).message f).notify } := by
  refine ⟨_, by rw [exec_irqRearm, execIrqRearm, hostWr_next hr, Dev.dbIrqRearm]; rw [show ((4 == 4 && (0 : Word) == 0)) = true from rfl,
    Dev.doorbell_taken, if_neg]; exact ha⟩

end

/-! ## CREATE -/

theorem createFieldsOk_iff {a b c e w : Nat} : createFieldsOk a b c e w = true ↔ a % 4096 = 0 ∧ b % 4096 = 0 ∧ c ≤ 12 ∧ e ≤ 12 ∧ 1 ≤ w ∧ w ≤ 15 := by
  simp [createFieldsOk, and_assoc]

/-- The registers of a queue in NONE, as QM_Q_CFG writes them. -/
theorem Queue.cfgWrite_of_none {x : Queue} (h : x.state = .none) (v : Nat) : x.cfgWrite v =
    { x with sqs := fieldOf v 0 4, cqs := fieldOf v 4 4, qosW := max 1 (fieldOf v 12 4), startEn := bitOf v 17 } := by
  have hm : v % 16 = fieldOf v 0 4 := by simp [fieldOf]
  rw [Queue.cfgWrite, if_neg (by simp [h]), hm]

theorem qosW_ok (v : Nat) : 1 ≤ max 1 (fieldOf v 12 4) ∧ max 1 (fieldOf v 12 4) ≤ 15 := by
  have h : fieldOf v 12 4 < 2 ^ 4 := Nat.mod_lt _ (by decide)
  omega

theorem Queue.cfgAll_good {x : Queue} {v : Nat} (h : x.state = .none) (hb : bitOf v 16 = true) (h1 : x.sqBase % 4096 = 0) (h2 : x.cqBase % 4096 = 0)
    (h3 : fieldOf v 0 4 ≤ 12) (h4 : fieldOf v 4 4 ≤ 12) :
    (x.cfgAll v).state = (if bitOf v 17 then .enabled else .disabled) ∧ (x.cfgAll v).createErr = false ∧
      (x.cfgAll v).qosW = max 1 (fieldOf v 12 4) ∧ (x.cfgAll v).sqs = fieldOf v 0 4 ∧ (x.cfgAll v).head = 0 ∧ (x.cfgAll v).tail = 0 ∧
      (x.cfgAll v).cq = { base := x.cqBase, size := 2 ^ (fieldOf v 4 4 + 4) } := by
  have hf : createFieldsOk x.sqBase x.cqBase (fieldOf v 0 4) (fieldOf v 4 4) (max 1 (fieldOf v 12 4)) = true :=
    createFieldsOk_iff.mpr ⟨h1, h2, h3, h4, (qosW_ok v).1, (qosW_ok v).2⟩
  rw [Queue.cfgAll, if_pos hb, Queue.cfgWrite_of_none h, Queue.created, if_neg (by simp [hf, h])]
  exact ⟨rfl, rfl, rfl, rfl, rfl, rfl, rfl⟩

theorem Queue.cfgAll_bad {x : Queue} {v : Nat} (h : x.state = .none) (hb : bitOf v 16 = true)
    (hx : x.sqBase % 4096 ≠ 0 ∨ x.cqBase % 4096 ≠ 0 ∨ 12 < fieldOf v 0 4 ∨ 12 < fieldOf v 4 4) :
    (x.cfgAll v).state = .none ∧ (x.cfgAll v).createErr = true := by
  have hf : ¬ createFieldsOk x.sqBase x.cqBase (fieldOf v 0 4) (fieldOf v 4 4) (max 1 (fieldOf v 12 4)) = true := by
    rw [createFieldsOk_iff]; omega
  rw [Queue.cfgAll, if_pos hb, Queue.cfgWrite_of_none h, Queue.created, if_pos (by simp [hf])]
  exact ⟨h, rfl⟩

theorem Ring.aged_of {r : Ring} {now a own : Nat} {as : List (Nat × Nat)} {agg : Nat → Nat} (h : r.ages = (a, own) :: as) (hn : agg own ≠ 0)
    (ht : a + agg own * 1000 ≤ now) : r.aged now agg = true := by simp [Ring.aged, h, hn, ht]

/-- One of the two masks of a function's vector cleared. -/
def Fn.unmasked (x : Fn) (whole : Bool) : Fn := if whole then { x with cfg := { x.cfg with fnMask := false } } else { x with msixMask := false }

theorem exec_msixUnmask_eq (f : Nat) (whole : Bool) (s : State) :
    exec (.msixUnmask ⟨f, whole⟩) s = .next { s with d := ((s.d.modFn f (fun x => x.unmasked whole)).sendPending f).notify } := rfl

theorem Dev.sendPending_same (d : Dev) (f : Nat) : Dev.sameBut [.fns] d (d.sendPending f) := by
  unfold Dev.sendPending
  extract_lets x
  split
  · exact (d.modFn_same f _).trans ((Dev.message_same _ f).up _)
  · exact .refl _ _

theorem msixUnmask_same (s : State) (f : Nat) (whole : Bool) :
    State.sameBut [.fns] s { s with d := ((s.d.modFn f (fun x => x.unmasked whole)).sendPending f).notify } :=
  finish_same ((s.d.modFn_same f _).trans (Dev.sendPending_same _ f))

/-- With one mask clear, the other's end clears both; with a mask left nothing is sent. -/
theorem Fn.unmasked_both {x : Fn} {whole : Bool} (h : (if whole then x.msixMask else x.cfg.fnMask) = false) :
    (x.unmasked whole).msixMask = false ∧ (x.unmasked whole).cfg.fnMask = false ∧ (x.unmasked whole).msixPend = x.msixPend ∧
    (x.unmasked whole).flrAt = x.flrAt := by
  cases whole <;> simp_all [Fn.unmasked]

theorem Fn.unmasked_one {x : Fn} {whole : Bool} (h : (if whole then x.msixMask else x.cfg.fnMask) = true) :
    ((x.unmasked whole).msixMask = true ∨ (x.unmasked whole).cfg.fnMask = true) ∧
    (if whole then (x.unmasked whole).cfg.fnMask else (x.unmasked whole).msixMask) = false ∧ (x.unmasked whole).msixPend = x.msixPend := by
  cases whole <;> simp_all [Fn.unmasked]

theorem Dev.sendPending_sends {d : Dev} {f : Nat} (hp : (d.fn f).msixPend = true) (hm : (d.fn f).msixMask = false) (hc : (d.fn f).cfg.fnMask = false)
    (hw : (d.fn f).flrAt = none) :
    d.sendPending f = ((d.modFn f (fun x => { x with msixPend := false })).send (.msix f)).count 3017 := by
  unfold Dev.sendPending
  extract_lets x
  rw [if_pos (by simp [x, hp, hm, hc]), Dev.message_sends (by simpa using hm) (by simpa using hc) (by simpa using hw)]

theorem Dev.sendPending_masked {d : Dev} {f : Nat} (h : (d.fn f).msixMask = true ∨ (d.fn f).cfg.fnMask = true) : d.sendPending f = d := by
  unfold Dev.sendPending
  extract_lets x
  rw [if_neg (by rcases h with h | h <;> simp [x, h])]

/-- Settles O21, by each cause and its message, and CREATE. -/
theorem causesSendMessages : Obligations.CausesSendMessages := by
  refine ⟨?_, ?_, ?_, ?_, ?_, ?_, ?_⟩
  · intro s f hr ha hm hc
    obtain ⟨a, he⟩ := exec_irqRearm_eq hr ha
    have hw : (s.d.fn f).flrAt = none := by
      have h := hr
      simp only [Dev.reach, Bool.and_eq_true, Option.isNone_iff_eq_none] at h
      exact h.1.1.2
    have hs := Dev.message_sends (d := (s.d.inbound true 0 a 4).count 3012) (f := f) hm hc hw
    obtain ⟨later, hl⟩ := (((s.d.inbound true 0 a 4).count 3012).message f).notify_sentOn
    exact ⟨_, later, he, by rw [hl, hs]; rfl, finish_same ((s.d.counted_same a).trans (Dev.message_same _ f))⟩
  · intro s f hr ha hm
    obtain ⟨a, he⟩ := exec_irqRearm_eq hr ha
    refine ⟨_, he, Dev.notify_pend _ f ?_, finish_same ((s.d.counted_same a).trans (Dev.message_same _ f))⟩
    rw [Dev.message_pends (by exact hm), Dev.fn_modFn_self]
  · intro s f whole hp hw hm
    obtain ⟨u1, u2, u3, u4⟩ := Fn.unmasked_both hm
    have hs := Dev.sendPending_sends (d := s.d.modFn f (fun x => x.unmasked whole)) (f := f) (by simpa [u3] using hp) (by simpa using u1)
      (by simpa using u2) (by simpa [u4] using hw)
    obtain ⟨later, hl⟩ := ((s.d.modFn f (fun x => x.unmasked whole)).sendPending f).notify_sentOn
    refine ⟨_, later, exec_msixUnmask_eq f whole s, by rw [hl, hs]; rfl, ?_, ?_, msixUnmask_same s f whole⟩
    · simpa [hs] using u1
    · simpa [hs] using u2
  · intro s f whole hm
    obtain ⟨u1, u2, u3⟩ := Fn.unmasked_one hm
    have hs := Dev.sendPending_masked (d := s.d.modFn f (fun x => x.unmasked whole)) (f := f) (by simpa using u1)
    refine ⟨_, exec_msixUnmask_eq f whole s, ?_, fun hp => ?_, msixUnmask_same s f whole⟩
    · rw [hs]; simpa using u2
    · rw [hs]; exact Dev.notify_pend _ f (by simpa [u3] using hp)
  · intro s q a own as h hn ht
    have ha : (s.d.queue q).cq.aged s.d.tb2 id = true := Ring.aged_of h hn ht
    refine ⟨_, by rw [exec_aggTime, execAggTime, if_pos rfl, if_pos ha, finish_next], by simp, fun r hr => ?_,
      finish_same (s.d.modQueue_same q _)⟩
    simp [Dev.queue_modQueue, hr]
  · intro s f a own as h hn ht
    have ha : (s.d.fn f).evt.aged s.d.tb2 (fun _ => (s.d.fn f).evtAgg) = true := Ring.aged_of h hn ht
    exact ⟨_, by rw [exec_aggTime, execAggTime, if_neg (by decide), if_pos ha, finish_next], s.d.modFn_notify_eq f _,
      finish_same (s.d.modFn_same f _)⟩
  · intro s q v hr hq hb hs
    have ho : okQueue q = true := by simp [okQueue, hq]
    refine ⟨_, by rw [exec_create, execCreate, pf0Wr, hostWr_next hr, if_pos rfl, if_pos ho], fun r hrq => by simp [Dev.queue_modQueue, hrq],
      fun h1 h2 h3 h4 => ?_, fun hx => ?_, finish_same ?_⟩
    · simpa using Queue.cfgAll_good hs hb h1 h2 h3 h4
    · simpa using Queue.cfgAll_bad hs hb hx
    · exact ((s.d.inbound_same _ _ _ _).up _).trans (Dev.modQueue_same _ q _)

end Sys2Proof.Machine

/-! Telemetry and SNAPSHOT records (R271 to R274, R278, R437, R438). -/
namespace Sys2Proof.Machine
set_option Elab.async false

/-! ## A command whose completion does not stall its queue -/

section
variable {d : Dev} {q : Nat} {c : Cmd} {comp : Comp}

theorem Cmd.completed_ok (hk : comp.status = stOk) : (c.completed comp).stalls = false := by simp [Cmd.completed, hk]

theorem Dev.complete_single (hc : (d.queue q).cmds = [c]) (ha : (d.queue q).abort = none) (hs : (c.completed comp).stalls = false) :
    d.complete q c.idx comp = (((d.modQueue q (fun x => x.modCmd c.idx (Cmd.completed comp))).modQueue q (fun x => { x with cmds := [] })).freeSlotOf
      q c.idx).cqPush q { comp with cid := sqeCid c.sqe } (sqeImm c.sqe) := by
  have hm : ((d.modQueue q (fun x => x.modCmd c.idx (Cmd.completed comp))).queue q).cmds = [c.completed comp] := by
    simp [Queue.modCmd, hc]
  have hw : ((d.modQueue q (fun x => x.modCmd c.idx (Cmd.completed comp))).queue q).silent = false :=
    Queue.silent_of_no_abort (by simpa [Queue.modCmd] using ha)
  have h1 := Dev.drain1_of_done hm rfl hs hw
  rw [Dev.complete_eq, Dev.drain, hm]
  exact h1

theorem Dev.complete_single_same (hc : (d.queue q).cmds = [c]) (ha : (d.queue q).abort = none) (hs : (c.completed comp).stalls = false) :
    Dev.sameBut [.queues, .cmt, .mon] d (d.complete q c.idx comp) := by
  rw [Dev.complete_single hc ha hs]
  exact ((d.modQueue_same q _).up _).trans (((Dev.modQueue_same _ q _).up _).trans
    (((Dev.freeSlotOf_same _ _ _).up _).trans ((Dev.cqPush_same _ _ _ _).up _)))

theorem State.answers_single {s t : State} {sent : List Out} (ht : t.d = (d.complete q c.idx comp).notify) (hq : d.queue q = s.d.queue q)
    (ho : d.io.out = sent ++ s.d.io.out) (hc : (s.d.queue q).cmds = [c]) (ha : (s.d.queue q).abort = none)
    (hs : (c.completed comp).stalls = false) : State.answers s t q sent { comp with cid := sqeCid c.sqe } := by
  rw [← hq] at hc ha
  obtain ⟨later, hl⟩ := (d.complete q c.idx comp).notify_sentOn
  have he := Dev.complete_single hc ha hs
  unfold State.answers
  rw [ht]
  refine ⟨⟨later, ?_⟩, ?_, ?_⟩
  · rw [hl, he]
    simp [Queue.modCmd, hq, ho]
  · simp [he, Dev.cqPush_queue]
  · simp [he, Dev.cqPush_queue, Queue.modCmd, hq]

end

/-! ## Taking a record -/

theorem Dev.snapNow_same (d : Dev) : Dev.sameBut [.pmc] d d.snapNow := d.withPmc_same _

/-- While no reader copies, a record's SNAP is taken and the reader starts (R436 to R438). -/
theorem Dev.recordSnap_idle {d : Dev} (h : d.pmc.dumping = false) :
    d.recordSnap.1 = true ∧ d.recordSnap.2.pmc.dumping = true ∧ d.recordSnap.2.jobs = d.jobs ∧ d.recordSnap.2.queue = d.queue ∧
    Dev.sameBut [.pmc] d d.recordSnap.2 := by
  unfold Dev.recordSnap
  rw [if_neg (by simp [h])]
  exact ⟨rfl, rfl, rfl, rfl, d.snapNow_same.trans ((Dev.withPmc_same _ _).trans ((Dev.bus_same _ _ _ _ _ _ _).up _))⟩

/-- The record that a boundary latches (R273). -/
def Dev.newRec (d : Dev) (n : Net) (cmd : Option (Nat × Nat × Nat × Nat)) (counters powers lock : Bool) : Rec :=
  { t := d.tb2, time := d.tb0, esn := d.cmt.esn, holdover := d.holdover, cmd := cmd, counters := counters,
    lock := if lock then some (d.lockMaps n) else none, powers := powers, words := if powers then none else some [] }

/-- The device with the SNAP of a record taken, where it carries counters. -/
def Dev.snapped (d : Dev) (counters : Bool) : Dev := if counters then d.recordSnap.2 else d

theorem Dev.snapped_idle {d : Dev} (h : d.pmc.dumping = false) (counters : Bool) :
    (d.snapped counters).pmc.dumping = counters ∧ (d.snapped counters).jobs = d.jobs ∧ (d.snapped counters).queue = d.queue ∧
    Dev.sameBut [.pmc] d (d.snapped counters) := by
  cases counters
  · exact ⟨h, rfl, rfl, .refl _ _⟩
  · exact (Dev.recordSnap_idle h).2

theorem Dev.takeRec_idle {d : Dev} (h : d.pmc.dumping = false) (n : Net) (cmd : Option (Nat × Nat × Nat × Nat)) (counters powers lock : Bool) :
    d.takeRec n cmd counters powers lock = { d.snapped counters with jobs := { (d.snapped counters).jobs with
      recs := (d.snapped counters).jobs.recs ++ [(d.snapped counters).newRec n cmd counters powers lock] } } := by
  cases counters
  · rfl
  · unfold Dev.takeRec
    rw [if_pos rfl]
    have h1 := (Dev.recordSnap_idle h).1
    unfold Dev.snapped
    rw [if_pos rfl]
    generalize d.recordSnap = p at *
    obtain ⟨b, e⟩ := p
    dsimp only at h1
    subst h1
    rfl

/-- Records that wait for POWERS or for the reader stay. -/
theorem Dev.writeRecs_waits {d : Dev} {dumped : Bool} (h : ∀ r ∈ d.jobs.recs, r.words = none) : d.writeRecs dumped = d := by
  have hn : d.jobs.recs.filter (fun (r : Rec) => r.words.isSome && (!r.counters || dumped)) = [] :=
    List.filter_eq_nil_iff.mpr fun r hr => by simp [h r hr]
  have ha : d.jobs.recs.filter (fun (r : Rec) => !(r.words.isSome && (!r.counters || dumped))) = d.jobs.recs :=
    List.filter_eq_self.mpr fun r hr => by simp [h r hr]
  unfold Dev.writeRecs
  dsimp only
  rw [hn, ha]
  rfl

/-- A record that waits for nothing more is written and leaves. -/
theorem Dev.writeRecs_one {d : Dev} {dumped : Bool} {r : Rec} (h : d.jobs.recs = [r]) (hw : r.words.isSome = true)
    (hc : (!r.counters || dumped) = true) : d.writeRecs dumped = Dev.writeRec { d with jobs := { d.jobs with recs := [] } } r := by
  unfold Dev.writeRecs
  dsimp only
  have hg : (r.words.isSome && (!r.counters || dumped)) = true := by rw [hw, hc]; rfl
  simp only [h, List.filter_cons, hg, Bool.not_true, if_true, List.filter_nil, Bool.false_eq_true, if_false, List.foldl_cons, List.foldl_nil]

/-! ## The lock bitmaps -/

theorem Dev.length_lockSection (d : Dev) (n : Net) :
    ((d.lockMaps n).flatMap (fun (e : Nat × Nat) => bytesLE e.1 4 ++ bytesLE e.2 4)).length = 2688 := by
  rw [length_flatMap_const (m := 8) (fun e _ => by simp)]
  simp [Dev.lockMaps]

/-- A record of the lock bitmaps alone is 64 bytes of directory and 336 tiles of 8 bytes (R273). -/
theorem Rec.length_bytes_lock {r : Rec} {d : Dev} {n : Net} (hc : r.counters = false) (hw : r.words = some []) (hl : r.lock = some (d.lockMaps n))
    (p : Pmc) : (r.bytes p).length = 2752 := by
  unfold Rec.bytes
  simp only [hc, hw, hl, Option.getD_some, List.length_append, length_bytesLE, Dev.length_lockSection]
  simp

end Sys2Proof.Machine

/-! O22: telemetry and SNAPSHOT records. -/
namespace Sys2Proof.Machine
set_option Elab.async false

/-! ## A record of the telemetry ring -/

/-- Where a record of the telemetry ring goes, with the bulk buffer empty (R274). -/
theorem Tel.room_of_empty {t : Tel} {len : Nat} (hb : t.bulk = []) (h : t.bulkNext + len ≤ 2 ^ t.bs) : t.room len = some t.bulkNext := by
  unfold Tel.room
  dsimp only
  rw [if_pos h, hb]
  simp only [List.all_nil, Bool.and_true, decide_eq_true_eq]
  exact if_pos (by omega)

/-- The header of a record (R274). -/
def Dev.recHeader (d : Dev) (r : Rec) (off len : Nat) : List Word :=
  [w32 r.time, w32 (r.time / 2 ^ 32), w32 r.esn, w32 (r.esn / 2 ^ 32), w32 off, w32 len,
   w32 (pack [(d.io.tel.dropNow, 0), (b2n r.holdover, 16), (b2n r.cmd.isSome, 17)]),
   w32 (pack [(b2n d.io.tel.ring.phase, 0), ((d.io.tel.seq + 1) % 65536, 16)])]

/-- The write of a record's data, in the order asked for (R274). -/
def Dev.recWrite (d : Dev) (off : Nat) (data : List Byte) : Out :=
  if d.io.telRo && bitOf (d.fn 0).cfg.devCtl 4 then .hostRelaxed (d.io.tel.bulkBase + off) data else .hostBulk (d.io.tel.bulkBase + off) data

/-- The telemetry ring after a record's header (R274). -/
def Tel.recorded (t : Tel) (now off len : Nat) : Tel :=
  { t with ring := { t.ring.pushed now 0 with cause := true }, seq := (t.seq + 1) % 65536, dropNow := 0, bulk := t.bulk ++ [{ off := off, len := len }],
           bulkNext := off + len }

theorem Dev.ringRecord_written {d : Dev} {r : Rec} {off : Nat} (hr : d.io.tel.ring.hasRoom = true) (hm : (d.fn 0).flrAt = none)
    (hl : d.io.linkUp = true) (ho : d.io.tel.room (r.bytes d.pmc).length = some off) :
    ∃ e : Dev, (d.ringRecord r).2 = e ∧ e.io.tel = d.io.tel.recorded d.tb2 off (r.bytes d.pmc).length ∧
      e.io.out = .hostWrite (d.io.tel.hdrBase + 32 * d.io.tel.ring.tail) (d.recHeader r off (r.bytes d.pmc).length) ::
        d.recWrite off (r.bytes d.pmc) :: d.io.out ∧ Dev.sameBut [.tel] d e := by
  refine ⟨_, rfl, ?_⟩
  unfold Dev.ringRecord
  dsimp only
  rw [if_pos (by simp [hr, hm, hl, Dev.mayWrite]), ho]
  refine ⟨rfl, rfl, ?_⟩
  exact ((d.toHost_same _ _ _).up _).trans (((Dev.toHost_same _ _ _ _).up _).trans ((Dev.withTel_same _ _).trans ((Dev.count_same _ _).up _)))

section
variable {s : State} (he : s.d.io.tel.en = true) (ht : s.d.tb2 % (s.d.io.tel.period * 1000000) = 0) (hk : s.d.clocked = true)
  (hd : s.d.pwr.done = true) (hn : s.d.jobs.recs = [])
include he ht hk hd hn

theorem exec_telemetryRecord_eq : exec .telemetryRecord s = .next { s with d := ((s.d.takeRec s.net none (bitOf s.d.io.tel.content 0)
    (bitOf s.d.io.tel.content 1) (bitOf s.d.io.tel.content 2)).writeRecs false).notify } := by
  rw [exec_telemetryRecord, execTelemetryRecord, if_neg (by simp [he, ht, hk, hd, hn]), finish_next]

end

/-- A record that waits for its POWERS is taken and not yet written. -/
theorem takeRec_waits {d : Dev} {n : Net} {cmd : Option (Nat × Nat × Nat × Nat)} {counters lock : Bool} (h : d.pmc.dumping = false)
    (hn : d.jobs.recs = []) :
    ∃ e : Dev, (d.takeRec n cmd counters true lock).writeRecs false = e ∧ e.jobs.recs = [(d.snapped counters).newRec n cmd counters true lock] ∧
      e.jobs.snap = d.jobs.snap ∧ e.pmc.dumping = counters ∧ e.queue = d.queue ∧ Dev.sameBut [.jobs, .pmc] d e := by
  obtain ⟨h1, h2, h3, h4⟩ := Dev.snapped_idle h counters
  rw [Dev.takeRec_idle h, h2, hn, List.nil_append, Dev.writeRecs_waits (by simp [Dev.newRec])]
  exact ⟨_, rfl, rfl, rfl, h1, h3, (h4.up _).trans ((Dev.withJobs_same _ _).up _)⟩

theorem Dev.snapped_reads {d : Dev} (h : d.pmc.dumping = false) (counters : Bool) : (d.snapped counters).tb2 = d.tb2 ∧
    (d.snapped counters).tb0 = d.tb0 ∧ (d.snapped counters).cmt = d.cmt ∧ (d.snapped counters).holdover = d.holdover := by
  have hs := (Dev.snapped_idle h counters).2.2.2
  exact ⟨hs.tb2, congrArg Tim.tb0 hs.tim, hs .cmt (by decide), by rw [Dev.holdover, hs.tim, Dev.holdover]⟩

/-! ## The records of a SNAPSHOT -/

theorem modCmd_cmds (x : Queue) (idx : Nat) (f : Cmd → Cmd) : (x.modCmd idx f).cmds = x.cmds.map (fun c => if c.idx = idx then f c else c) := rfl

/-- The completion of a SNAPSHOT whose record has been written (R278). -/
def Rec.comp (r : Rec) (len : Nat) : Comp :=
  { status := stOk, holdover := r.holdover, esn := r.esn, dw2 := r.time, dw3 := r.time / 2 ^ 32, dw4 := len }

theorem Dev.writeRec_result {d : Dev} {r : Rec} {q idx addr dom : Nat} {c : Cmd} (hc : r.cmd = some (q, idx, addr, dom)) (ha : addr ≠ 0)
    (hq : (d.queue q).cmd idx = some c) (hs : (d.queue q).silent = false) :
    d.writeRec r = (d.toHost addr (r.bytes d.pmc).length (.hostBulk addr (r.bytes d.pmc))).complete q idx (r.comp (r.bytes d.pmc).length) := by
  unfold Dev.writeRec
  rw [hc]
  dsimp only
  rw [if_neg (by simp [hq]), if_neg ha]
  dsimp only
  rw [if_neg (by simp [hs]), if_pos rfl]
  rfl

/-- The device with the reader at rest and no record waiting. -/
def Dev.dumped (d : Dev) : Dev := { d with pmc := { d.pmc with dumping := false }, jobs := { d.jobs with recs := [] } }

theorem Dev.dumped_same (d : Dev) : Dev.sameBut [.jobs, .pmc] d d.dumped := by
  intro p hp; cases p <;> simp_all [Part.same, Io.sameLink, Dev.fn, Dev.dumped]

/-- Settles O22, by taking and writing records. -/
theorem recordsAreTaken : Obligations.RecordsAreTaken := by
  refine ⟨?_, ?_, ?_, ?_⟩
  · intro s he ht hk hd hn hp hc
    obtain ⟨e, h1, h2, -, h3, -, h4⟩ := takeRec_waits (n := s.net) (cmd := none) (counters := bitOf s.d.io.tel.content 0)
      (lock := bitOf s.d.io.tel.content 2) hp hn
    obtain ⟨r1, r2, r3, r4⟩ := Dev.snapped_reads hp (bitOf s.d.io.tel.content 0)
    refine ⟨_, _, exec_telemetryRecord_eq he ht hk hd hn, by rw [hc, h1]; simpa using h2, r1, r2, congrArg Cmt.esn r3, r4, rfl, rfl, rfl,
      by rw [hc, h1]; simpa using h3, ?_⟩
    rw [hc, h1]
    exact finish_same h4
  · intro s he ht hk hd hn hc hr hm hl hb hs
    have hx : s.d.takeRec s.net none (bitOf 4 0) (bitOf 4 1) (bitOf 4 2) =
        { s.d with jobs := { s.d.jobs with recs := [s.d.newRec s.net none false false true] } } := by
      simp [Dev.takeRec, hn, Dev.newRec, bitOf]
    have hlen : ((s.d.newRec s.net none false false true).bytes s.d.pmc).length = 2752 := Rec.length_bytes_lock (d := s.d) (n := s.net) rfl rfl rfl _
    have hj : ({ s.d.jobs with recs := [] } : Jobs) = s.d.jobs := by rw [← hn]
    have hw : (s.d.takeRec s.net none (bitOf 4 0) (bitOf 4 1) (bitOf 4 2)).writeRecs false =
        (s.d.ringRecord (s.d.newRec s.net none false false true)).2 := by
      rw [hx, Dev.writeRecs_one rfl rfl rfl]
      exact congrArg (fun j => (Dev.ringRecord { s.d with jobs := j } (s.d.newRec s.net none false false true)).2) hj
    obtain ⟨e, g1, g2, g3, g4⟩ := Dev.ringRecord_written (r := s.d.newRec s.net none false false true) hr hm hl
      (by rw [hlen]; exact Tel.room_of_empty hb hs)
    rw [hlen] at g2 g3
    obtain ⟨later, hlat⟩ := e.notify_sentOn
    refine ⟨_, later, (s.d.newRec s.net none false false true).bytes s.d.pmc, exec_telemetryRecord_eq he ht hk hd hn, hlen, ?_, ?_, ?_, ?_, ?_, ?_⟩
    · rw [hc, hw, g1, hlat, g3]
      simp [Dev.recHeader, Dev.recWrite, Dev.newRec, pack, b2n]
    · rw [hc, hw, g1]; simp [g2, Tel.recorded]
    · rw [hc, hw, g1]; simp [g2, Tel.recorded, hb]
    · rw [hc, hw, g1]; simp [g2, Tel.recorded]
    · rw [hc, hw, g1]; simp [g2, Tel.recorded]
    · rw [hc, hw, g1]; exact finish_same g4
  · intro s j hk h10 hj hn hat htrig haddr hp
    have hdue : j.due s.d.tb2 s.d.tb0 = true := by
      rcases htrig with h | ⟨h, h'⟩ <;> simp [SnapJob.due, *]
    have hg : (j.addr != 0) = true := by simp [haddr]
    obtain ⟨e, h1, h2, h3, h4, h5, h6⟩ := takeRec_waits (n := s.net) (cmd := some (j.q, j.idx, j.addr, j.dom)) (counters := j.dom == 0)
      (lock := j.dom == 0) (d := ({ s.d with jobs := { s.d.jobs with snap := [] } } : Dev).modQueue j.q
        (fun x => x.modCmd j.idx (fun c => { c with effect := true }))) hp hn
    have hpre : Dev.sameBut [.queues, .jobs] s.d (({ s.d with jobs := { s.d.jobs with snap := [] } } : Dev).modQueue j.q
        (fun x => x.modCmd j.idx (fun c => { c with effect := true }))) := ((s.d.withJobs_same _).up _).trans ((Dev.modQueue_same _ _ _).up _)
    obtain ⟨r1, r2, r3, r4⟩ := Dev.snapped_reads (d := ({ s.d with jobs := { s.d.jobs with snap := [] } } : Dev).modQueue j.q
        (fun x => x.modCmd j.idx (fun c => { c with effect := true }))) hp (j.dom == 0)
    have hx : exec .snapshotRecord s = .next { s with d := e.notify } := by
      rw [exec_snapshotRecord, execSnapshotRecord, if_neg (by simp [h10, hk]), hj]
      simp only [List.find?_cons, hdue, hg, Bool.or_true, Bool.true_or, Bool.and_true, beq_self_eq_true, Bool.not_true, List.filter_cons,
        Bool.false_eq_true, if_false, List.filter_nil]
      rw [h1, finish_next]
    refine ⟨_, _, hx, by simpa using h3, by simpa using h2, rfl, r2, congrArg Cmt.esn r3, rfl, ?_, rfl, ?_,
      finish_same ((hpre.up _).trans (h6.up _))⟩
    · cases hdom : (j.dom == 0) <;> simp [Dev.newRec]
    · simp [h5, modCmd_cmds]
      rfl
  · intro s r c ws q addr dom hp hq hn hcn hw hc ha hcm hab
    have hcmd : (s.d.dumped.queue q).cmd c.idx = some c := by
      rw [show s.d.dumped.queue q = s.d.queue q from rfl, Queue.cmd, hcm]
      simp
    have hab' : (s.d.dumped.queue q).abort = none := hab
    have hf := Dev.complete_single_same (d := s.d.dumped.toHost addr (r.bytes s.d.pmc).length (.hostBulk addr (r.bytes s.d.pmc)))
      (comp := r.comp (r.bytes s.d.pmc).length) hcm hab (Cmd.completed_ok rfl)
    have ha' := State.answers_single (s := s) (t := { s with d := ((s.d.dumped.toHost addr (r.bytes s.d.pmc).length (.hostBulk addr
      (r.bytes s.d.pmc))).complete q c.idx (r.comp (r.bytes s.d.pmc).length)).notify }) (comp := r.comp (r.bytes s.d.pmc).length)
      (sent := [.hostBulk addr (r.bytes s.d.pmc)]) rfl rfl rfl hcm hab (Cmd.completed_ok rfl)
    have hw' : ({ s.d with pmc := { s.d.pmc with dumping := false } } : Dev).writeRecs true =
        (s.d.dumped.toHost addr (r.bytes s.d.pmc).length (.hostBulk addr (r.bytes s.d.pmc))).complete q c.idx (r.comp (r.bytes s.d.pmc).length) := by
      exact (Dev.writeRecs_one (d := { s.d with pmc := { s.d.pmc with dumping := false } }) (r := r) hn (by simp [hw]) (by simp)).trans
        (Dev.writeRec_result (d := s.d.dumped) hc ha hcmd (Queue.silent_of_no_abort hab'))
    have hx : exec .dumpComplete s = finish s (if (({ s.d with pmc := { s.d.pmc with dumping := false } } : Dev).writeRecs true).pmc.snapReq then
        (({ s.d with pmc := { s.d.pmc with dumping := false } } : Dev).writeRecs true).snapNow
        else ({ s.d with pmc := { s.d.pmc with dumping := false } } : Dev).writeRecs true) := by
      rw [exec_dumpComplete, execDumpComplete, if_neg (by simp [hp, hn, hw])]
    rw [hw'] at hx
    generalize (s.d.dumped.toHost addr (r.bytes s.d.pmc).length (.hostBulk addr (r.bytes s.d.pmc))).complete q c.idx
      (r.comp (r.bytes s.d.pmc).length) = e at *
    have hs : e.pmc.snapReq = false := (congrArg Pmc.snapReq (hf .pmc (by decide))).trans hq
    rw [if_neg (by simp [hs])] at hx
    refine ⟨_, hx, ha', ?_, ?_, finish_same ?_⟩
    · rw [Dev.notify_pmc_dumping]
      exact congrArg Pmc.dumping (hf .pmc (by decide))
    · rw [Dev.notify_jobs]
      exact congrArg Jobs.recs (hf .jobs (by decide))
    · exact (s.d.dumped_same.up _).trans (((Dev.toHost_same _ _ _ _).up _).trans (hf.up _))

end Sys2Proof.Machine

/-! FW_ACTIVATE and supervisor restarts (R285, R315, R384, R387, R388). -/
namespace Sys2Proof.Machine
set_option Elab.async false

/-! ## An admin completion behind events -/

/-- An admin command that completes after events and occurrences: its completion lies behind them. -/
theorem adminDone_after {s : State} {d : Dev} {f : Nat} {c : Cmd} {ns : List Nat} (comp : Comp) (hd : s.d.signals ns d) (hc : (s.d.fn f).cmds = [c])
    (ho : (s.d.fn f).orphans = []) (hr : s.d.acqRuns f) :
    (∃ later mid, (d.adminDone f c.idx comp).notify.io.out = later ++ Out.hostWrite ((s.d.fn f).acq.base + 32 * (s.d.fn f).acq.tail)
      (({ comp with cid := sqeCid c.sqe } : Comp).dws (s.d.fn f).aqHead 0 true (s.d.fn f).acq.phase) :: (mid ++ s.d.io.out)) := by
  obtain ⟨-, -, -, -, -, h1, h2, -, h3, h4, h5, -, -, -, -, -, -, -, -, -, -, -, -, h6⟩ := (hd.fn f).fields
  obtain ⟨ha, hm⟩ := hr
  have hr' : (d.modFn f (fun x => { x with cmds := [] })).acqRuns f := by simp [Dev.acqRuns, h1, h6, ha, hm]
  have he := Dev.adminDone_only comp (h4.trans hc) (h5.trans ho)
  rw [Dev.acqPush_of hr'] at he
  obtain ⟨later, hl⟩ := (d.adminDone f c.idx comp).notify_sentOn
  obtain ⟨mid, hmid⟩ := hd.sent
  refine ⟨later, mid, ?_⟩
  rw [hl, he]
  simp [h2, h3, hmid]

/-! ## Reading fields through an admin completion -/

section
variable (d : Dev) (f idx : Nat) (comp : Comp)

theorem Dev.adminDone_src : (d.adminDone f idx comp).src = d.src := by
  have h : (d.adminDone f idx comp).flt.src = d.flt.src := d.adminDone_same f idx comp .src (by decide)
  funext n
  rw [Dev.src, h, Dev.src]

theorem Dev.adminDone_view : (d.adminDone f idx comp).view = d.view := by
  have h : (d.adminDone f idx comp).io.views = d.io.views := d.adminDone_same f idx comp .views (by decide)
  funext n
  rw [Dev.view, h, Dev.view]

theorem Dev.adminDone_sec : (d.adminDone f idx comp).sec = d.sec := d.adminDone_same f idx comp .sec (by decide)

end

/-! ## A bundle rejected -/

theorem fwReject_rejected {s : State} {c : Cmd} (h : Obl.adminFront s 0 0x44 c) (reason : Nat) :
    Obl.fwRejected s { s with d := (s.d.fwReject c.idx reason).notify } c reason := by
  obtain ⟨hr, hc, -, hm⟩ := h
  obtain ⟨-, ho, ha, -⟩ := Dev.adminReady_spec hr
  have hsig : s.d.signals [80, 68] ((s.d.once 80 0).setLeaf 0 0x1D4 4) := (s.d.once_signals 80 0).trans (Dev.setLeaf_signals _ _ _ _)
  have hsrc : (s.d.fwReject c.idx reason).notify.src 80 = (s.d.once 80 0).src 80 := by
    rw [Dev.notify_src, Dev.fwReject, Dev.adminDone_src]
    rfl
  have hmk := Src.marked_fields (s.d.src 80) 80 0 s.d.tb2 false (!false || s.d.flt.injAct)
  rw [Dev.src_once (by decide) (by decide)] at hsrc
  refine ⟨?_, ?_, ?_, ?_, ?_⟩
  · exact adminDone_after { status := stMalformed, dw2 := reason * 65536 } hsig hc ho ⟨ha, hm⟩
  · rw [hsrc]; exact hmk.1
  · rw [hsrc]; exact hmk.2.1
  · rw [Dev.notify_view, Dev.fwReject, Dev.adminDone_view, Dev.leaf_setLeaf_self, bitOf_or]
    exact Bool.or_true _
  · exact finish_same ((hsig.same.up _).trans ((Dev.adminDone_same _ _ _ _).up _))

/-! ## FW_ACTIVATE -/

section
variable {s : State} {c : Cmd} (h : Obl.adminFront s 0 0x44 c) (hx : sqeClean c.sqe = true) (ha : sqeAddr c.sqe % 8 = 0)
include h hx ha

/-- The bundle that a Stage brings is checked, and staged if it is good. -/
theorem exec_fwActivate_stage (h0 : sqeField c.sqe 20 1 = 0) :
    exec (.fwActivate 0) s = .next { s with d := (if s.d.sec.reason c.bundle (sqeField c.sqe 16 4) false ≠ 0 then
      s.d.fwReject c.idx (s.d.sec.reason c.bundle (sqeField c.sqe 16 4) false)
      else (s.d.stage c.bundle).adminDone 0 c.idx (statusComp stOk)).notify } := by
  rw [exec_fwActivate, execFwActivate, onAdmin_of_front h]
  have hi : s.d.inRecovery = false := h.2.2.1
  dsimp only
  rw [if_neg (by simp [hx, ha, h0, hi]), if_neg (by simp [h0])]
  simp only [h0, if_neg (show ¬ (0 : Nat) = 1 by decide), if_true]
  split <;> rfl

theorem exec_fwActivate_unstaged (h1 : sqeField c.sqe 20 1 = 1) (hs : s.d.sec.staged = false) :
    exec (.fwActivate 0) s = .next { s with d := (s.d.fwReject c.idx 7).notify } := by
  rw [exec_fwActivate, execFwActivate, onAdmin_of_front h]
  have hi : s.d.inRecovery = false := h.2.2.1
  dsimp only
  rw [if_neg (by simp [hx, ha, h1, hi]), if_pos (by simp [h1, hs]), finish_next]

theorem exec_fwActivate_staged (h1 : sqeField c.sqe 20 1 = 1) (hs : s.d.sec.staged = true) {bs : List Byte}
    (hb : bs = s.d.sec.image (!s.d.sec.preferred)) (h3 : bundleComp bs 3 = none) :
    exec (.fwActivate 0) s = .next { s with d := (if s.d.sec.reason bs bs.length false ≠ 0 then s.d.fwReject c.idx (s.d.sec.reason bs bs.length false)
      else s.d.activate s.d.beforeAct c.idx bs).notify } := by
  rw [exec_fwActivate, execFwActivate, onAdmin_of_front h]
  have hi : s.d.inRecovery = false := h.2.2.1
  dsimp only
  rw [if_neg (by simp [hx, ha, h1, hi]), if_neg (by simp [h1, hs])]
  simp only [h1, if_true, ← hb, h3, if_neg (show ¬ (1 : Nat) = 0 by decide), Option.isSome_none, Bool.false_and, Bool.false_eq_true, if_false]
  split <;> rfl

end

/-- A staged bundle stands in the slot that is not preferred (R387). -/
theorem Dev.stage_fields (d : Dev) (bs : List Byte) : (d.stage bs).sec.staged = true ∧ (d.stage bs).sec.fwStaged = bundleSec bs ∧
    (d.stage bs).sec.image (!d.sec.preferred) = bs ∧ (d.stage bs).sec.image d.sec.preferred = d.sec.image d.sec.preferred ∧
    (d.stage bs).sec.preferred = d.sec.preferred ∧ (d.stage bs).sec.counter = d.sec.counter := by
  cases hp : d.sec.preferred <;> simp [Dev.stage, Dev.setLeaf, Sec.image, hp]

theorem Dev.stage_same (d : Dev) (bs : List Byte) : Dev.sameBut [.views, .sec] d (d.stage bs) :=
  ((d.withSec_same _).up _).trans ((Dev.setLeaf_same _ _ _ _).up _)

theorem Dev.stage_fn_out (d : Dev) (bs : List Byte) : (d.stage bs).fn = d.fn ∧ (d.stage bs).io.out = d.io.out := ⟨rfl, rfl⟩

/-! ## The restart that an activation causes -/

/-- With no CAL_RUN, a restart of the supervisor ends the sessions and clears the mailbox, and keeps an activation that caused it (R315). -/
def Dev.sessionsEnded (d : Dev) : Dev := (d.endSession true).endSession false

theorem Dev.sessionsEnded_same (d : Dev) : Dev.sameBut [.sec, .views] d d.sessionsEnded := (d.endSession_same true).trans (Dev.endSession_same _ false)

theorem Dev.endSession_sec (d : Dev) (doe : Bool) : (d.endSession doe).sec = if (d.session doe).state = 0 then d.sec else (d.setSession doe {}).sec := by
  rw [Dev.endSession_eq]
  split <;> rfl

theorem Dev.session_ended (d : Dev) (doe : Bool) : ((d.endSession doe).session doe).state = 0 := by
  rw [Dev.endSession_eq]
  split
  · next h => exact h
  · cases doe <;> rfl

theorem Dev.endSession_other (d : Dev) (doe : Bool) : ((d.endSession doe).session !doe) = d.session !doe :=
  d.endSession_session_ne (by cases doe <;> decide)

theorem Dev.sessionsEnded_states (d : Dev) : d.sessionsEnded.sec.doe.state = 0 ∧ d.sessionsEnded.sec.mctp.state = 0 := by
  refine ⟨?_, Dev.session_ended (d.endSession true) false⟩
  have h : d.sessionsEnded.sec.doe = (d.endSession true).sec.doe := Dev.endSession_other (d.endSession true) false
  rw [h]
  exact d.session_ended true

/-- Ending sessions leaves everything else of identity and security. -/
theorem Dev.endSession_rest (d : Dev) (doe : Bool) : { (d.endSession doe).sec with doe := d.sec.doe, mctp := d.sec.mctp } = d.sec := by
  rw [Dev.endSession_sec]
  split
  · rfl
  · cases doe <;> rfl

theorem Dev.sessionsEnded_rest (d : Dev) : { d.sessionsEnded.sec with doe := d.sec.doe, mctp := d.sec.mctp } = d.sec := by
  have h1 := d.endSession_rest true
  have h2 := (d.endSession true).endSession_rest false
  rw [← h1, ← h2]
  rfl

/-- The supervisor restarts: sessions ended, the mailbox cleared, what it held to be completed BLOCKED. -/
def Dev.supRestarting (d : Dev) : Dev :=
  { d.sessionsEnded with
    mi := { d.sessionsEnded.mi with reqs := [] }
    sec := { d.sessionsEnded.sec with
      restart := some d.sessionsEnded.tb2
      blocked := d.sessionsEnded.sec.blocked ++ (d.sessionsEnded.mi.reqs.filter (fun r => decide (r.1 < 16))).map (fun r => (r.1, r.2.1)) } }

theorem Dev.supRestarting_same (d : Dev) : Dev.sameBut [.sec, .views, .mi] d d.supRestarting :=
  (d.sessionsEnded_same.up _).trans ((Dev.withMiSec_same _ _ _).up _)

theorem Dev.restartSup_of {d : Dev} (hr : d.cal.run = none) (ha : d.sec.act = none ∨ ∃ a, d.sec.act = some a ∧ a.restarting = true) :
    d.restartSup = d.supRestarting := by
  have hc : d.calEnd = d := by simp [Dev.calEnd, hr]
  have hrest := congrArg Sec.act d.sessionsEnded_rest
  have hact : d.supRestarting.sec.act = d.sec.act := hrest
  unfold Dev.restartSup
  extract_lets d1 held mi sec d2
  have h1 : d1 = d.sessionsEnded := by unfold d1; rw [hc]; rfl
  have h2 : d2 = d.supRestarting := by unfold d2 sec mi held; rw [h1]; rfl
  rw [h2, hact]
  rcases ha with ha | ⟨a, ha, hb⟩
  · rw [ha]
  · rw [ha]; exact if_pos hb

/-- The command as an activation leaves it: begun (R469). -/
theorem adminBegin_only {d : Dev} {c : Cmd} (hc : (d.fn 0).cmds = [c]) : ((d.adminBegin 0 c.idx).fn 0).cmds = [{ c with executed := true }] := by
  simp [Dev.adminBegin, hc]

/-- An activation of supervisor firmware alone: the slot is preferred, the counter raised, and the restart begins (R387, R388). -/
def Dev.swapped (d : Dev) (a : Activation) (bs : List Byte) : Dev :=
  { d with sec := { (({ d.sec with preferred := !d.sec.preferred, staged := false, fwStaged := 0 } : Sec).raise bs) with
    act := some { a with restarting := true } } }

/-- With no tile to lend, a roll ends at once. -/
theorem Dev.rollGo_done {d : Dev} {a : Activation} (n : Nat) (h : d.sec.act = some a) (hr : a.restarting = false) (hc : a.cur = none)
    (ht : a.todo = []) : d.rollGo (n + 1) = d.actFinish a := by
  unfold Dev.rollGo
  simp [h, hr, hc, ht]

theorem Dev.actFinish_firmware {d : Dev} {a : Activation} {bs : List Byte} (hi : d.inRecovery = false) (hb : d.sec.image (!d.sec.preferred) = bs)
    (h1 : (bundleComp bs 1).isSome = true) (hr : d.cal.run = none) : d.actFinish a = (d.swapped a bs).supRestarting := by
  unfold Dev.actFinish
  extract_lets slot bs' base raised d1
  have hbs : bs' = bs := hb
  rw [if_neg (by rw [show d1.inRecovery = d.inRecovery from rfl, hi]; decide), hbs, if_pos h1]
  have hm : d1.modAct (fun a => { a with restarting := true }) = d.swapped a bs := by
    unfold d1 raised base
    rw [hbs]
    rfl
  rw [hm]
  exact Dev.restartSup_of hr (.inr ⟨_, rfl, rfl⟩)

theorem activate_firmware {d : Dev} {idx : Nat} {was : ActBefore} {bs : List Byte} (hi : d.inRecovery = false)
    (hb : bs = d.sec.image (!d.sec.preferred)) (h1 : (bundleComp bs 1).isSome = true) (h2 : bundleComp bs 2 = none) (h3 : bundleComp bs 3 = none)
    (hr : d.cal.run = none) :
    d.activate was idx bs = ((d.adminBegin 0 idx).swapped { idx := idx, was := was } bs).supRestarting := by
  have hgo : d.activate was idx bs = Dev.rollGo (699 + 1)
      { d.adminBegin 0 idx with sec := { (d.adminBegin 0 idx).sec with act := some { idx := idx, was := was } } } := by
    rw [Dev.activate, h3, h2]
  rw [hgo, Dev.rollGo_done 699 rfl rfl rfl rfl, Dev.actFinish_firmware (by exact hi) (by exact hb.symm) h1 (by exact hr)]
  rfl

/-- What a restart leaves of the device's security (R315). -/
theorem Dev.supRestarting_sec (d : Dev) : d.supRestarting.sec.preferred = d.sec.preferred ∧ d.supRestarting.sec.staged = d.sec.staged ∧
    d.supRestarting.sec.counter = d.sec.counter ∧ d.supRestarting.sec.act = d.sec.act ∧ d.supRestarting.sec.restart = some d.tb2 := by
  have hr := d.sessionsEnded_rest
  have h1 := congrArg Sec.preferred hr
  have h2 := congrArg Sec.staged hr
  have h3 := congrArg Sec.counter hr
  have h4 := congrArg Sec.act hr
  exact ⟨h1, h2, h3, h4, congrArg some d.sessionsEnded_same.tb2⟩

theorem Dev.supRestarting_fn (d : Dev) : d.supRestarting.fn = d.fn := (Dev.endSession_fn (d.endSession true) false).trans (d.endSession_fn true)

theorem Dev.swapped_same (d : Dev) (a : Activation) (bs : List Byte) : Dev.sameBut [.sec] d (d.swapped a bs) := d.withSec_same _

theorem adminBegin_same (d : Dev) (f idx : Nat) : Dev.sameBut [.fns] d (d.adminBegin f idx) := d.modFn_same f _

end Sys2Proof.Machine

/-! O23: firmware and the restarts of the supervisor. -/
namespace Sys2Proof.Machine
set_option Elab.async false

/-! ## The end of a restart -/

/-- No restart runs any more, and no command waits to be completed BLOCKED. -/
def Dev.restartOver (d : Dev) : Dev := { d with sec := { d.sec with restart := none, blocked := [] } }

theorem Dev.restartOver_same (d : Dev) : Dev.sameBut [.sec] d d.restartOver := d.withSec_same _

/-- The new firmware runs from the slot that is preferred, and the activation is over. -/
def Dev.rebooted (d : Dev) : Dev :=
  { d with sec := { d.sec with fwActive := imageVer (d.sec.image d.sec.preferred) 1, bootSlot := d.sec.preferred, act := none } }

section
variable {s : State} (hr : s.d.sec.restart.isSome = true) (hk : s.d.clocked = true)
include hr hk

theorem exec_supervisorRestartEnd_activation {a : Activation} (hb : s.d.sec.blocked = []) (ha : s.d.sec.act = some a) (har : a.restarting = true) :
    exec .supervisorRestartEnd s = .next { s with d := ((s.d.restartOver.rebooted.adminDone 0 a.idx { dw2 := a.deferred }).setLeaf 0 0x1D4 2).notify } := by
  have hn : (s.d.sec.restart.isNone || !s.d.clocked) = false := by rw [hk, Option.isNone_eq_false_iff.mpr hr]; rfl
  rw [exec_supervisorRestartEnd, execSupervisorRestartEnd]
  simp only [hn, hb, ha, har, Bool.false_eq_true, if_false, if_true, List.foldl_nil]
  rfl

theorem exec_supervisorRestartEnd_blocked {f idx : Nat} (hb : s.d.sec.blocked = [(f, idx)]) (ha : s.d.sec.act = none) :
    exec .supervisorRestartEnd s = .next { s with d := (s.d.restartOver.adminDone f idx (statusComp stBlocked)).notify } := by
  have hn : (s.d.sec.restart.isNone || !s.d.clocked) = false := by rw [hk, Option.isNone_eq_false_iff.mpr hr]; rfl
  have hd : (s.d.restartOver.adminDone f idx (statusComp stBlocked)).sec.act = none := by rw [Dev.adminDone_sec]; exact ha
  have he : execSupervisorRestartEnd s = match (s.d.restartOver.adminDone f idx (statusComp stBlocked)).sec.act with
      | some a => if a.restarting then finish s (({ s.d.restartOver.adminDone f idx (statusComp stBlocked) with
          sec := { (s.d.restartOver.adminDone f idx (statusComp stBlocked)).sec with
            fwActive := imageVer ((s.d.restartOver.adminDone f idx (statusComp stBlocked)).sec.image
              (s.d.restartOver.adminDone f idx (statusComp stBlocked)).sec.preferred) 1
            bootSlot := (s.d.restartOver.adminDone f idx (statusComp stBlocked)).sec.preferred } } : Dev).actDone a)
        else finish s (s.d.restartOver.adminDone f idx (statusComp stBlocked))
      | none => finish s (s.d.restartOver.adminDone f idx (statusComp stBlocked)) := by
    unfold execSupervisorRestartEnd
    simp only [hn, hb, Bool.false_eq_true, if_false, List.foldl_cons, List.foldl_nil]
    rfl
  rw [exec_supervisorRestartEnd, he, hd, finish_next]

end

/-- A leaf set behind an admin completion: the completion still answers. -/
theorem State.adminAnswers_leaf {s : State} {d : Dev} {f : Nat} {c : Cmd} (g off bits : Nat) (comp : Comp) (hf : d.fn f = s.d.fn f)
    (hout : d.io.out = s.d.io.out) (hc : (s.d.fn f).cmds = [c]) (ho : (s.d.fn f).orphans = []) (hr : s.d.acqRuns f) :
    State.adminAnswers s { s with d := ((d.adminDone f c.idx comp).setLeaf g off bits).notify } f { comp with cid := sqeCid c.sqe } := by
  obtain ⟨later, hl⟩ := ((d.adminDone f c.idx comp).setLeaf g off bits).notify_sentOn
  obtain ⟨ha, hm⟩ := hr
  have hr' : (d.modFn f (fun x => { x with cmds := [] })).acqRuns f := by simp [Dev.acqRuns, hf, ha, hm]
  have he := Dev.adminDone_only comp (hf ▸ hc) (hf ▸ ho)
  rw [Dev.acqPush_of hr'] at he
  refine ⟨⟨later, ?_⟩, ?_, ?_⟩
  · rw [hl, he]; simp [hf, hout, Dev.setLeaf]
  · simp [he, Dev.setLeaf]
  · simp [he, hf, Ring.pushed, Dev.setLeaf]

/-! ## A restart by the watchdog or a memory error -/

theorem exec_supervisorRestart_eq {s : State} {m : Bool} (hu : s.d.pwr.supUp = true) (hr : s.d.sec.restart = none) (hk : s.d.clocked = true)
    (hc : s.d.cal.run = none) (ha : s.d.sec.act = none) :
    exec (.supervisorRestart m) s = .next { s with d := (s.d.once (if m then 79 else 78) 0).supRestarting.notify } := by
  have hs := s.d.once_same (if m then 79 else 78) 0
  have hc' : (s.d.once (if m then 79 else 78) 0).cal.run = none := (congrArg Cal.run (hs .cal (by decide))).trans hc
  have ha' : (s.d.once (if m then 79 else 78) 0).sec.act = none := (congrArg Sec.act (hs .sec (by decide))).trans ha
  rw [exec_supervisorRestart, execSupervisorRestart, if_neg (by simp [hu, hr, hk]), Dev.restartSup_of hc' (.inl ha'), finish_next]

theorem Dev.supRestarting_mi (d : Dev) : d.supRestarting.mi = { d.mi with reqs := [] } := by
  have h : d.sessionsEnded.mi = d.mi := d.sessionsEnded_same .mi (by decide)
  rw [← h]
  rfl

theorem Dev.supRestarting_src (d : Dev) : d.supRestarting.src = d.src := by
  have h : d.supRestarting.flt.src = d.flt.src := d.supRestarting_same .src (by decide)
  funext n
  rw [Dev.src, h, Dev.src]

/-- Settles O23, by what FW_ACTIVATE and each restart make of the device. -/
theorem firmwareAndItsRestarts : Obligations.FirmwareAndItsRestarts := by
  refine ⟨?_, ?_, ?_, ?_, ?_, ?_⟩
  · intro s c h hx ha h0
    obtain ⟨f1, f2, f3, f4, f5, f6⟩ := s.d.stage_fields c.bundle
    refine ⟨_, exec_fwActivate_stage h hx ha h0, fun hn => ?_, fun hz => ?_⟩
    · rw [if_pos hn]; exact fwReject_rejected h _
    · rw [if_neg (by simp [hz])]
      refine ⟨adminFront_answers h _ rfl rfl, ?_, ?_, ?_, ?_, ?_, ?_, finish_same (((s.d.stage_same _).up _).trans ((Dev.adminDone_same _ _ _ _).up _))⟩
      · simpa [Dev.adminDone_sec] using f1
      · simpa [Dev.adminDone_sec] using f2
      · simpa [Dev.adminDone_sec] using f3
      · simpa [Dev.adminDone_sec] using f4
      · simpa [Dev.adminDone_sec] using f5
      · simpa [Dev.adminDone_sec] using f6
  · intro s c h hx ha h1 hs
    exact ⟨_, exec_fwActivate_unstaged h hx ha h1 hs, fwReject_rejected h 7⟩
  · intro s c bs h hx ha h1 hs hb b1 b2 b3 hr
    refine ⟨_, exec_fwActivate_staged h hx ha h1 hs hb b3, fun hn => ?_, fun hz => ?_⟩
    · rw [if_pos hn]; exact fwReject_rejected h _
    · rw [if_neg (by simp [hz]), activate_firmware h.2.2.1 hb b1 b2 b3 hr]
      obtain ⟨e1, e2, e3, e4, e5⟩ := ((s.d.adminBegin 0 c.idx).swapped { idx := c.idx, was := s.d.beforeAct } bs).supRestarting_sec
      refine ⟨?_, ?_, ?_, ?_, ?_, ?_, finish_same ?_⟩
      · rw [Dev.notify_sec]; exact e1
      · rw [Dev.notify_sec]; exact e2
      · rw [Dev.notify_sec]; exact e3
      · rw [Dev.notify_sec]; exact e5
      · rw [Dev.notify_sec]; exact e4
      · rw [Dev.notify_fn_cmds, Dev.supRestarting_fn]
        exact adminBegin_only h.2.1
      · exact ((adminBegin_same _ _ _).up _).trans (((Dev.swapped_same _ _ _).up _).trans ((Dev.supRestarting_same _).up _))
  · intro s m hu hr hk hc ha
    obtain ⟨-, -, -, -, e5⟩ := (s.d.once (if m then 79 else 78) 0).supRestarting_sec
    have hs := s.d.once_same (if m then 79 else 78) 0
    have hsrc : (s.d.once (if m then 79 else 78) 0).supRestarting.src (if m then 79 else 78) =
        (s.d.src (if m then 79 else 78)).marked (if m then 79 else 78) 0 s.d.tb2 false (!false || s.d.flt.injAct) := by
      rw [Dev.supRestarting_src]
      cases m
      · exact Dev.src_once (by decide) (by decide) _ _
      · exact Dev.src_once (by decide) (by decide) _ _
    have hmk := Src.marked_fields (s.d.src (if m then 79 else 78)) (if m then 79 else 78) 0 s.d.tb2 false (!false || s.d.flt.injAct)
    have hses := (s.d.once (if m then 79 else 78) 0).sessionsEnded_states
    have hmi : (s.d.once (if m then 79 else 78) 0).mi = s.d.mi := hs .mi (by decide)
    refine ⟨_, exec_supervisorRestart_eq hu hr hk hc ha, ?_, ?_, ?_, ?_, ?_, ?_, finish_same ((hs.up _).trans ((Dev.supRestarting_same _).up _))⟩
    · simpa [hs.tb2] using e5
    · rw [Dev.notify_sec]; exact hses.1
    · rw [Dev.notify_sec]; exact hses.2
    · rw [Dev.notify_mi, Dev.supRestarting_mi, hmi]
    · rw [Dev.notify_src, hsrc]; exact hmk.1
    · rw [Dev.notify_src, hsrc]; exact hmk.2.1
  · intro s a c hr hk hb ha har hc hci ho haq hm
    have hx := exec_supervisorRestartEnd_activation hr hk hb ha har
    rw [← hci] at hx
    refine ⟨_, hx, State.adminAnswers_leaf 0 0x1D4 2 { dw2 := a.deferred } rfl rfl hc ho ⟨haq, hm⟩, ?_, ?_, ?_, finish_same ?_⟩
    · simp [Dev.setLeaf, Dev.adminDone_sec, Dev.rebooted, Dev.restartOver]
    · simp [Dev.setLeaf, Dev.adminDone_sec, Dev.rebooted]
    · simp [Dev.setLeaf, Dev.adminDone_sec, Dev.rebooted, Dev.restartOver]
    · exact (s.d.restartOver_same.up _).trans (((Dev.withSec_same _ _).up _).trans (((Dev.adminDone_same _ _ _ _).up _).trans
        ((Dev.setLeaf_same _ _ _ _).up _)))
  · intro s f c hr hk hb ha hc ho haq hm
    refine ⟨_, exec_supervisorRestartEnd_blocked hr hk hb ha, State.adminAnswers_done (statusComp stBlocked) rfl rfl hc ho ⟨haq, hm⟩, ?_,
      finish_same ((s.d.restartOver_same.up _).trans ((Dev.adminDone_same _ _ _ _).up _))⟩
    simp [Dev.adminDone_sec, Dev.restartOver]

end Sys2Proof.Machine

/-! Route jobs (R36, R38, R48, R53, R56, R77, R79, R95). -/
namespace Sys2Proof.Machine
set_option Elab.async false

/-! ## Slots and commands -/

section
variable {d : Dev}

/-- A filter that nothing of the list meets. -/
theorem filter_eq_nil_of {α : Type} {l : List α} {p : α → Bool} (h : ∀ a ∈ l, p a = false) : l.filter p = [] :=
  List.filter_eq_nil_iff.mpr fun a ha => by simp [h a ha]

/-- With no slot staged or staging, no batch waits for a Midnight. -/
theorem Dev.stagedSlots_nil (h : ∀ k, k < 16 → (d.slot k).state ≠ .staged ∧ (d.slot k).state ≠ .staging) : d.stagedSlots = [] := by
  have hf : (List.range 16).filter (fun k => ((d.slot k).state == .staged || (d.slot k).state == .staging) && !d.slotDone k) = [] :=
    filter_eq_nil_of fun k hk => by
      obtain ⟨h1, h2⟩ := h k (List.mem_range.mp hk)
      simp [h1, h2]
  rw [Dev.stagedSlots, hf]
  rfl

theorem Dev.expectedMidnight_alone (h : d.stagedSlots = []) (q ct : Nat) :
    d.expectedMidnight q ct = d.edgeAt (max (if ct = 0 then d.tb0 + 6000 else ct) (d.queue q).prevMidnight) := by
  simp [Dev.expectedMidnight, h]

/-- With no batch staged, a job's base is the map as it stands. -/
theorem Dev.base_alone (h : d.stagedSlots = []) (n : Net) (t : Nat) :
    d.base n t = { conns := n.conns, sw := n.sw, cons := d.fab.cons, late := [], early := [] } := by
  simp [Dev.base, h]

/-- The slot's command is still to be completed. -/
theorem Dev.slotDone_of_front {s : State} {k : Nat} {c : Cmd} (h : Obl.slotFront s k c) : s.d.slotDone k = false := by
  obtain ⟨-, hc, hi, hd, -⟩ := h
  simp [Dev.slotDone, Queue.cmd, hc, hi, hd]

/-- No batch goes before the only command of a queue. -/
theorem slotFront_before {s : State} {k : Nat} {c : Cmd} (h : Obl.slotFront s k c) :
    (s.d.queue (s.d.slot k).queue).cmds.takeWhile (fun c => c.idx != (s.d.slot k).idx) = [] := by
  obtain ⟨-, hc, hi, -⟩ := h
  rw [hc]
  simp [hi]

end

/-! ## The entry of a job -/

theorem Walk.entry_connect {w : Walk} {e : BatchEnt} (ht : e.typ = 1) (hi : inFree w.conns e.inp = true) (ho : outFree w.conns e.out = true)
    (idx : Nat) (later : List BatchEnt) : ∃ w', w.entry idx e later = .ok w' := by
  simp only [Walk.entry, ht, hi, ho, Bool.and_self, if_true]
  exact ⟨_, rfl⟩

/-- Which of the three a job's checks find. -/
def Job.runs : Job → Prop
  | .entryFail _ => False
  | _ => True

/-- A CONNECT whose ports are free and its domain's own passes its checks: the job goes on to route it. -/
theorem Dev.routeJob_runs {d : Dev} {n : Net} {q : Nat} {x : Slot} {w : DWord} (hs : d.stagedSlots = []) (hd : x.direct = false) (he : x.entries = [w])
    (ho : (batchEnt w).ok = true) (ht : (batchEnt w).typ = 1) (hi : inFree n.conns (batchEnt w).inp = true)
    (hf : outFree n.conns (batchEnt w).out = true) (hown : (batchEnt w).owned d (d.queue q).domain = true) : (d.routeJob n q x).runs := by
  obtain ⟨w', hw⟩ := Walk.entry_connect (w := { conns := n.conns }) ht hi hf 0 []
  have hwalk : walkBatch d (d.queue q).domain 0 [batchEnt w] { conns := n.conns } = .ok w' := by
    simp only [walkBatch, ho, hown, hw, Bool.not_true, Bool.false_eq_true, if_false]
  unfold Dev.routeJob
  rw [Dev.base_alone hs]
  dsimp only
  rw [if_neg (by simp [hd]), he, List.map_cons, List.map_nil, hwalk]
  dsimp only
  split <;> exact trivial

/-- The batches that a job counts as before its own. -/
def Dev.jobAfter (d : Dev) (n : Net) (k : Nat) : List (Nat × Nat) :=
  (d.base n (d.expectedMidnight (d.slot k).queue (d.slot k).commitTime)).early.map (fun j => ((d.slot j).queue, (d.slot j).idx))

/-- The device in which a job's checks are made. -/
def Dev.jobDev (d : Dev) (n : Net) (k : Nat) : Dev := (d.count 2880).modSlot k (fun s => { s with after := d.jobAfter n k })

theorem Dev.jobDev_same (d : Dev) (n : Net) (k : Nat) : Dev.sameBut [.cmt] d (d.jobDev n k) :=
  ((d.count_same _).up _).trans (Dev.modSlot_same _ k _)

theorem Dev.startJob_eq (d : Dev) (n : Net) (k : Nat) : d.startJob n k =
    match (d.jobDev n k).routeJob n (d.slot k).queue (d.slot k) with
    | .entryFail c => ((d.jobDev n k).modSlot k (fun s => { s with state := .routing })).complete (d.slot k).queue (d.slot k).idx c
    | .routeFail c => (d.jobDev n k).modSlot k (fun s => { s with state := .routing, delta := {}, bad := some c, t0 := d.tb2 })
    | .done x ph => (d.jobDev n k).modSlot k (fun s => { s with state := .routing, delta := x, bad := none, phase1 := ph, t0 := d.tb2 }) := rfl

/-- A slot with a job running: its result waits for the job's end. -/
def Slot.jobRuns (x y : Slot) (now : Nat) : Prop :=
  y.state = .routing ∧ y.t0 = now ∧
  { y with state := x.state, t0 := x.t0, after := x.after, delta := x.delta, bad := x.bad, phase1 := x.phase1 } = x

/-- The slot of a job that goes on shows ROUTING from now on. -/
theorem Dev.startJob_runs {d : Dev} {n : Net} {k : Nat} (h : ((d.jobDev n k).routeJob n (d.slot k).queue (d.slot k)).runs) :
    (d.slot k).jobRuns ((d.startJob n k).slot k) d.tb2 ∧ (∀ j, j ≠ k → (d.startJob n k).slot j = d.slot j) ∧
    Dev.sameBut [.cmt] d (d.startJob n k) := by
  rw [Dev.startJob_eq]
  cases hj : (d.jobDev n k).routeJob n (d.slot k).queue (d.slot k) with
  | entryFail c => rw [hj] at h; exact h.elim
  | routeFail c =>
    refine ⟨?_, fun j hk => ?_, (d.jobDev_same n k).trans (Dev.modSlot_same _ k _)⟩
    · simp [Slot.jobRuns, Dev.jobDev]
    · simp [Dev.slot_modSlot, Dev.jobDev, hk]
  | done x ph =>
    refine ⟨?_, fun j hk => ?_, (d.jobDev_same n k).trans (Dev.modSlot_same _ k _)⟩
    · simp [Slot.jobRuns, Dev.jobDev]
    · simp [Dev.slot_modSlot, Dev.jobDev, hk]

/-! ## Whose turn it is -/

/-- A key that is not listed reads as the default. -/
theorem Tab.get_of_not_mem {α : Type} [DecidableEq α] {d : α} {k : Nat} : ∀ {t : Tab α}, k ∉ t.map (·.1) → t.get d k = d := by
  intro t
  induction t with
  | nil => intro _; rfl
  | cons p t ih =>
    obtain ⟨k', v⟩ := p
    intro h
    have hk : k' ≠ k := fun e => h (by simp [e])
    simpa [Tab.get, hk] using ih (fun hm => h (List.mem_cons_of_mem _ hm))

/-- With one queue ready, the round-robin serves it (R258). -/
theorem Wrr.next_of_all {w : Wrr} {weight : Nat → Nat} {ready : List Nat} {q : Nat} (hall : ∀ r ∈ ready, r = q) (hq : q ∈ ready) :
    ∃ v, w.next weight ready = some (q, v) := by
  unfold Wrr.next
  extract_lets share pool pick
  have hp : ∀ r ∈ pool, r = q := by
    intro r hr
    unfold pool at hr
    split at hr
    · exact hall r hr
    · exact hall r (List.mem_of_mem_filter hr)
  have hn : pool ≠ [] := by
    unfold pool
    split
    · exact List.ne_nil_of_mem hq
    · next h => simpa using h
  have hpick : pick = some q := by
    unfold pick
    cases hf : pool.find? (fun q => decide (w.last < q)) with
    | some r => exact congrArg some (hp r (List.mem_of_find?_eq_some hf))
    | none =>
      obtain ⟨r, l, hl⟩ := List.exists_cons_of_ne_nil hn
      rw [hl]
      exact congrArg some (hp r (by rw [hl]; exact List.mem_cons_self))
  rw [hpick]
  exact ⟨_, rfl⟩

/-! ## The first batch of the only queue that has one -/

section
variable {s : State} {q : Nat} {c : Cmd} {w : DWord} (h : Obl.batchWaits s q c w)
include h

theorem batchWaits_slots (k : Nat) (hk : k < 16) : (s.d.slot k).state = .free := by
  obtain ⟨-, -, -, -, -, -, hs, -⟩ := h
  exact hs k hk

theorem batchWaits_freeSlots : s.d.freeSlots = List.range 16 :=
  List.filter_eq_self.mpr fun k hk => by simp [batchWaits_slots h k (List.mem_range.mp hk)]

theorem batchWaits_slotOf (r idx : Nat) : s.d.slotOf r idx = none := by
  refine List.find?_eq_none.mpr fun k hk => ?_
  simp [batchWaits_slots h k (List.mem_range.mp hk)]

theorem batchWaits_routable : s.d.routable q = some c := by
  have hr : s.d.routing = false := List.any_eq_false.mpr fun k hk => by simp [batchWaits_slots h k (List.mem_range.mp hk)]
  have hf := batchWaits_freeSlots h
  have hso := batchWaits_slotOf h q c.idx
  obtain ⟨hq, hc, hop, hx, hd, hp, -, ha, -⟩ := h
  have hm : s.d.mayStart c = true := by simp [Dev.mayStart, hf, hr, ha]
  simp [Dev.routable, hq, hc, Dev.nextBatch, isBatch, hop, hx, hd, hso, hm]

/-- Of the queues with a batch to route there is this one alone, and it is served next. -/
theorem batchWaits_turn : ∃ v, s.d.mtx.rte.next (fun k => (s.d.queue k).qosW) ((s.d.io.queues.map (·.1)).filter (fun k => (s.d.routable k).isSome)) =
    some (q, v) := by
  have hr := batchWaits_routable h
  obtain ⟨hq, hc, -, -, -, -, -, -, hone⟩ := h
  have hmem : q ∈ s.d.io.queues.map (·.1) := by
    by_contra hn
    have h0 : s.d.queue q = {} := Tab.get_of_not_mem hn
    rw [h0] at hc
    cases hc
  have hall : ∀ r ∈ (s.d.io.queues.map (·.1)).filter (fun k => (s.d.routable k).isSome), r = q := by
    intro r hr'
    obtain ⟨h1, h2⟩ := List.mem_filter.mp hr'
    by_contra hn
    rw [hone r h1 hn] at h2
    cases h2
  have hin : q ∈ (s.d.io.queues.map (·.1)).filter (fun k => (s.d.routable k).isSome) := List.mem_filter.mpr ⟨hmem, by rw [hr]; rfl⟩
  exact Wrr.next_of_all hall hin

end

end Sys2Proof.Machine

/-! O24: route jobs start and end. -/
namespace Sys2Proof.Machine
set_option Elab.async false

/-! ## The start -/

/-- The device with the batch in slot 0, its turn taken. -/
def Dev.taken (d : Dev) (v : Wrr) (c : Cmd) (q : Nat) : Dev :=
  ({ d with mtx := { d.mtx with rte := v } } : Dev).modSlot 0 (fun _ => Slot.take c q (d.queue q).domain)

theorem Dev.taken_same (d : Dev) (v : Wrr) (c : Cmd) (q : Nat) : Dev.sameBut [.cmt] d (d.taken v c q) :=
  ((d.withMtx_same _).up _).trans (Dev.modSlot_same _ 0 _)

theorem Dev.taken_slot (d : Dev) (v : Wrr) (c : Cmd) (q k : Nat) :
    (d.taken v c q).slot k = if k = 0 then Slot.take c q (d.queue q).domain else d.slot k := Dev.slot_modSlot _ _ _ _

section
variable {s : State} {q : Nat} {c : Cmd} {w : DWord} (h : Obl.batchWaits s q c w)
include h

theorem exec_routeJobStart_eq : ∃ v, exec (.routeJobStart q) s = .next { s with d := ((s.d.taken v c q).startJob s.net 0).notify } := by
  obtain ⟨v, hv⟩ := batchWaits_turn h
  refine ⟨v, ?_⟩
  have hr : List.range 16 = 0 :: (List.range 15).map (· + 1) := rfl
  rw [exec_routeJobStart, execRouteJobStart]
  simp only [batchWaits_routable h, hv, batchWaits_freeSlots h, hr]
  rw [if_neg (by simp), finish_next]
  rfl

end

/-- The entry of a CONNECT belongs to its batch's domain. -/
theorem oneConnect_owned {s : State} {q : Nat} {w : DWord} (h : Obl.oneConnect s q w) {d : Dev} (ho : d.io.owner = s.d.io.owner) :
    (batchEnt w).owned d (s.d.queue q).domain = true := by
  obtain ⟨-, ht, -, -, h⟩ := h
  have howner : ∀ x p, d.owner x p = s.d.owner x p := fun x p => by rw [Dev.owner, ho, Dev.owner]
  rcases h with h | ⟨h1, h2⟩
  · simp [BatchEnt.owned, h]
  · simp [BatchEnt.owned, howner, h1, h2, ht]

/-- The frame of a job's start keeps what its checks read of queues and owners. -/
theorem oneConnect_runs {s : State} {d : Dev} {q k : Nat} {w : DWord} (h : Obl.oneConnect s q w)
    (hd : Dev.sameBut [.cmt] s.d d) (hq : (d.slot k).queue = q) (hx : (d.slot k).direct = false) (he : (d.slot k).entries = [w])
    (hj : (d.jobDev s.net k).stagedSlots = []) : ((d.jobDev s.net k).routeJob s.net (d.slot k).queue (d.slot k)).runs := by
  have hsame := hd.trans (d.jobDev_same s.net k)
  have hown := oneConnect_owned h (d := d.jobDev s.net k) hsame.owners.1
  obtain ⟨ho, ht, hi, hf, -⟩ := h
  refine Dev.routeJob_runs hj hx he ho ht hi hf ?_
  rwa [hsame.queue, hq]

/-- The job's own mark leaves which slots are staged. -/
theorem Dev.jobDev_slot (d : Dev) (n : Net) (k j : Nat) : ((d.jobDev n k).slot j).state = (d.slot j).state := by
  simp only [Dev.jobDev, Dev.slot_modSlot]
  split
  · next h => subst h; rfl
  · rfl

theorem Dev.jobDev_stagedSlots {d : Dev} (n : Net) (k : Nat) (h : ∀ k, k < 16 → (d.slot k).state ≠ .staged ∧ (d.slot k).state ≠ .staging) :
    (d.jobDev n k).stagedSlots = [] :=
  Dev.stagedSlots_nil fun j hj => by rw [Dev.jobDev_slot]; exact h j hj

/-! ## A batch that names another domain's port -/

theorem routeJob_notOwned {d : Dev} {n : Net} {q : Nat} {x : Slot} {w : DWord} (hd : x.direct = false) (he : x.entries = [w])
    (ho : (batchEnt w).ok = true) (hown : (batchEnt w).owned d (d.queue q).domain = false) :
    d.routeJob n q x = .entryFail (failComp true stNotOwned 0 0 0 0 0) := by
  unfold Dev.routeJob
  extract_lets b
  rw [if_neg (by simp [hd]), he]
  simp [walkBatch, ho, hown]

/-! ## The slot of a completed batch -/

/-- A slot that is freed. -/
theorem Dev.freeSlot_state (d : Dev) (k : Nat) : ((d.freeSlot k).slot k).state = .free := by
  simp [Dev.freeSlot]

/-- The completion of a queue's only command frees the slot that it holds, where no other slot does. -/
theorem Dev.complete_frees {d : Dev} {q k : Nat} {c : Cmd} {comp : Comp} (hc : (d.queue q).cmds = [c]) (ha : (d.queue q).abort = none)
    (hs : (c.completed comp).stalls = false) (hk : d.slotOf q c.idx = some k) : ((d.complete q c.idx comp).slot k).state = .free := by
  rw [Dev.complete_single hc ha hs]
  have hk' : ((d.modQueue q (fun x => x.modCmd c.idx (Cmd.completed comp))).modQueue q (fun x => { x with cmds := [] })).slotOf q c.idx = some k := hk
  unfold Dev.freeSlotOf
  rw [hk']
  exact Dev.freeSlot_state _ k

theorem Dev.slotOf_only {d : Dev} {q idx k : Nat} (hk : k < 16) (hs : (d.slot k).state ≠ .free) (hq : (d.slot k).queue = q) (hi : (d.slot k).idx = idx)
    (ho : ∀ j, j < 16 → j ≠ k → (d.slot j).state = .free) : d.slotOf q idx = some k := by
  have hp : ∀ j ∈ List.range 16, ((d.slot j).state != .free && (d.slot j).queue == q && (d.slot j).idx == idx) = true ↔ j = k := by
    intro j hj
    by_cases hjk : j = k
    · subst hjk; simp [hs, hq, hi]
    · simp [ho j (List.mem_range.mp hj) hjk, hjk]
  cases hf : d.slotOf q idx with
  | none => exact absurd ((hp k (List.mem_range.mpr hk)).mpr rfl) (List.find?_eq_none.mp hf k (List.mem_range.mpr hk))
  | some j =>
    unfold Dev.slotOf at hf
    have h1 := List.find?_some hf
    exact congrArg some ((hp j (List.mem_of_find?_eq_some hf)).mp h1)

/-! ## Clause by clause -/

theorem routeJobStart_runs {s : State} {q : Nat} {c : Cmd} {w : DWord} (h : Obl.batchWaits s q c w) (hw : Obl.oneConnect s q w) :
    ∃ t, exec (.routeJobStart q) s = .next t ∧ (Slot.take c q (s.d.queue q).domain).jobRuns (t.d.slot 0) s.d.tb2 ∧
      (∀ k, k ≠ 0 → t.d.slot k = s.d.slot k) ∧ State.sameBut [.cmt] s t := by
  obtain ⟨v, hx⟩ := exec_routeJobStart_eq h
  have hfree := batchWaits_slots h
  obtain ⟨-, -, hop, -, -, hp, -⟩ := h
  have hst : ∀ k, k < 16 → ((s.d.taken v c q).slot k).state ≠ .staged ∧ ((s.d.taken v c q).slot k).state ≠ .staging := by
    intro k hk
    rw [Dev.taken_slot]
    split
    · exact ⟨by simp [Slot.take], by simp [Slot.take]⟩
    · simp [hfree k hk]
  have h0 : (s.d.taken v c q).slot 0 = Slot.take c q (s.d.queue q).domain := (Dev.taken_slot _ _ _ _ _).trans (if_pos rfl)
  have hrun := oneConnect_runs (k := 0) hw (s.d.taken_same v c q) (by rw [h0]; rfl) (by rw [h0]; simp [Slot.take, hop])
    (by rw [h0]; exact hp) (Dev.jobDev_stagedSlots _ _ hst)
  obtain ⟨g1, g2, g3⟩ := Dev.startJob_runs hrun
  rw [h0] at g1
  refine ⟨_, hx, by rw [Dev.notify_slot]; exact g1, fun k hk => ?_, finish_same ((s.d.taken_same v c q).trans g3)⟩
  rw [Dev.notify_slot, g2 k hk, Dev.taken_slot, if_neg hk]

theorem routeJobStart_notOwned {s : State} {q : Nat} {c : Cmd} {w : DWord} (h : Obl.batchWaits s q c w) (ha : (s.d.queue q).abort = none)
    (hs : sqeStop c.sqe = false) (ho : (batchEnt w).ok = true) (hd : (s.d.queue q).domain ≠ 0)
    (hown : s.d.owner 0 (batchEnt w).inp ≠ (s.d.queue q).domain) :
    ∃ t, exec (.routeJobStart q) s = .next t ∧ State.answers s t q [] { status := stNotOwned, dw5 := 0x3FF0000, cid := sqeCid c.sqe } ∧
      (t.d.slot 0).state = .free ∧ State.sameBut [.queues, .cmt, .mon] s t := by
  obtain ⟨v, hx⟩ := exec_routeJobStart_eq h
  have hfree := batchWaits_slots h
  obtain ⟨-, hc, hop, -, -, hp, -⟩ := h
  have h0 : (s.d.taken v c q).slot 0 = Slot.take c q (s.d.queue q).domain := (Dev.taken_slot _ _ _ _ _).trans (if_pos rfl)
  have hsame := (s.d.taken_same v c q).trans ((s.d.taken v c q).jobDev_same s.net 0)
  have howned : (batchEnt w).owned ((s.d.taken v c q).jobDev s.net 0) (((s.d.taken v c q).jobDev s.net 0).queue q).domain = false := by
    have h1 : ((s.d.taken v c q).jobDev s.net 0).owner 0 (batchEnt w).inp = s.d.owner 0 (batchEnt w).inp := by
      rw [Dev.owner, hsame.owners.1, Dev.owner]
    rw [hsame.queue]
    simp [BatchEnt.owned, hd, h1, hown]
  have hjob := routeJob_notOwned (d := (s.d.taken v c q).jobDev s.net 0) (n := s.net) (q := q) (x := Slot.take c q (s.d.queue q).domain)
    (by simp [Slot.take, hop]) (show _ = [w] from hp) ho howned
  rw [Dev.startJob_eq, h0, show (Slot.take c q (s.d.queue q).domain).queue = q from rfl, hjob] at hx
  have hslot : ∀ j, (((s.d.taken v c q).jobDev s.net 0).modSlot 0 (fun s => { s with state := .routing })).slot j = if j = 0 then
      { Slot.take c q (s.d.queue q).domain with after := (s.d.taken v c q).jobAfter s.net 0 } else s.d.slot j := by
    intro j
    by_cases hj : j = 0
    · subst hj; simp [Dev.jobDev, h0, Slot.take]
    · simp [Dev.jobDev, Dev.slot_modSlot, Dev.taken_slot, hj]
  have hof : (((s.d.taken v c q).jobDev s.net 0).modSlot 0 (fun s => { s with state := .routing })).slotOf q c.idx = some 0 := by
    refine Dev.slotOf_only (by decide) ?_ ?_ ?_ (fun j hj hne => ?_)
    · rw [hslot, if_pos rfl]; simp [Slot.take]
    · rw [hslot, if_pos rfl]; rfl
    · rw [hslot, if_pos rfl]; rfl
    · rw [hslot, if_neg hne]; exact hfree j hj
  have hst : (c.completed (failComp true stNotOwned 0 0 0 0 0)).stalls = false := by simp [Cmd.completed, hs]
  rw [show (Slot.take c q (s.d.queue q).domain).idx = c.idx from rfl] at hx
  have he := hsame.trans (Dev.modSlot_same _ 0 (fun s => { s with state := .routing }))
  have hout : (((s.d.taken v c q).jobDev s.net 0).modSlot 0 (fun s => { s with state := .routing })).io.out = [] ++ s.d.io.out := rfl
  clear hslot howned hjob hsame h0
  generalize ((s.d.taken v c q).jobDev s.net 0).modSlot 0 (fun s => { s with state := .routing }) = e at *
  have hcmds : (e.queue q).cmds = [c] := by rw [he.queue]; exact hc
  have hab : (e.queue q).abort = none := by rw [he.queue]; exact ha
  refine ⟨_, hx, State.answers_single (d := e) (comp := failComp true stNotOwned 0 0 0 0 0) rfl (by rw [he.queue]) hout hc ha hst, ?_,
    finish_same ((he.up _).trans (Dev.complete_single_same hcmds hab hst))⟩
  rw [Dev.notify_slot]
  exact Dev.complete_frees hcmds hab hst hof

theorem heldBatchRerun_runs {s : State} {k : Nat} {h : Nat × Nat} {w : DWord} (hk : k < 16) (hs : (s.d.slot k).state = .held)
    (hb : (s.d.slot k).heldBy = some h) (hc : (s.d.queue h.1).cmd h.2 = none) (ho : ∀ j, j < 16 → j ≠ k → (s.d.slot j).state = .free)
    (hd : (s.d.slot k).direct = false) (he : (s.d.slot k).entries = [w]) (hw : Obl.oneConnect s (s.d.slot k).queue w) :
    ∃ t, exec (.heldBatchRerun k) s = .next t ∧ (t.d.slot k).state = .routing ∧ (t.d.slot k).heldBy = none ∧ (t.d.slot k).t0 = s.d.tb2 ∧
      (∀ j, j ≠ k → t.d.slot j = s.d.slot j) ∧ State.sameBut [.cmt] s t := by
  have hr : s.d.routing = false := List.any_eq_false.mpr fun j hj => by
    by_cases hjk : j = k
    · subst hjk; simp [hs]
    · simp [ho j (List.mem_range.mp hj) hjk]
  have hx : exec (.heldBatchRerun k) s = .next { s with d := ((s.d.modSlot k (fun x => { x with heldBy := none })).startJob s.net k).notify } := by
    have ho' : s.d.isOpen h.1 h.2 = false := by rw [Dev.isOpen, hc]; rfl
    rw [exec_heldBatchRerun, execHeldBatchRerun]
    simp only [hs, hb, ho', hr, Bool.or_self, Bool.false_eq_true, if_false]
    rfl
  have hsame := s.d.modSlot_same k (fun x => { x with heldBy := none })
  have hk0 : (s.d.modSlot k (fun x => { x with heldBy := none })).slot k = { s.d.slot k with heldBy := none } := Dev.slot_modSlot_self _ _ _
  have hst : ∀ j, j < 16 → ((s.d.modSlot k (fun x => { x with heldBy := none })).slot j).state ≠ .staged ∧
      ((s.d.modSlot k (fun x => { x with heldBy := none })).slot j).state ≠ .staging := by
    intro j hj
    by_cases hjk : j = k
    · subst hjk; simp [hk0, hs]
    · simp [Dev.slot_modSlot, hjk, ho j hj hjk]
  have hrun := oneConnect_runs (k := k) hw hsame (by rw [hk0]) (by rw [hk0]; exact hd) (by rw [hk0]; exact he)
    (Dev.jobDev_stagedSlots _ _ hst)
  obtain ⟨⟨g1, g2, g3⟩, g4, g5⟩ := Dev.startJob_runs hrun
  have g6 := congrArg Slot.heldBy g3
  rw [hk0] at g6
  refine ⟨_, hx, by rw [Dev.notify_slot]; exact g1, by rw [Dev.notify_slot]; exact g6, by rw [Dev.notify_slot]; exact g2, fun j hj => ?_,
    finish_same (hsame.trans g5)⟩
  rw [Dev.notify_slot, g4 j hj, Dev.slot_modSlot, if_neg hj]

end Sys2Proof.Machine

/-! O24: the end of a route job. -/
namespace Sys2Proof.Machine
set_option Elab.async false

/-- Reads and writes of the cells' states, over the matrix. -/
theorem foldl_bus_same {β : Type} (m : Nat) (w : Bool) (t : Nat) (a : β → Nat) (l : List β) (d : Dev) :
    Dev.sameBut [] d (l.foldl (fun d e => d.bus m w t (a e) 32) d) := .foldl (fun d _ => d.bus_same m w t _ 32 none) l d

theorem foldl_bus_slot {β : Type} (m : Nat) (w : Bool) (t : Nat) (a : β → Nat) (l : List β) : ∀ d : Dev,
    (l.foldl (fun d e => d.bus m w t (a e) 32) d).cmt = d.cmt ∧ (l.foldl (fun d e => d.bus m w t (a e) 32) d).io = d.io ∧
    (l.foldl (fun d e => d.bus m w t (a e) 32) d).tim = d.tim ∧ (l.foldl (fun d e => d.bus m w t (a e) 32) d).drv = d.drv := by
  induction l with
  | nil => intro d; exact ⟨rfl, rfl, rfl, rfl⟩
  | cons e l ih => intro d; exact ih _

/-- The route engine's counts and reads at the end of a job with a result. -/
def Dev.jobRead (d : Dev) (k : Nat) : Dev :=
  (((d.slot k).delta.sw.foldl (fun d e => d.bus 3 true 0 (32 * e.1) 32)
    ((d.countN 2887 (d.tb2 - (d.slot k).t0)).count (if (d.slot k).phase1 then 2881 else 2882)))).countN 2886 (d.slot k).delta.moved.length

theorem Dev.jobRead_parts (d : Dev) (k : Nat) : (d.jobRead k).cmt = d.cmt ∧ (d.jobRead k).io = d.io ∧ (d.jobRead k).tim = d.tim :=
  have h := foldl_bus_slot 3 true 0 (fun e : Nat × Sw => 32 * e.1) (d.slot k).delta.sw
    ((d.countN 2887 (d.tb2 - (d.slot k).t0)).count (if (d.slot k).phase1 then 2881 else 2882))
  ⟨h.1, h.2.1, h.2.2.1⟩

theorem Dev.jobRead_same (d : Dev) (k : Nat) : Dev.sameBut [] d (d.jobRead k) :=
  ((d.countN_same _ _).trans (Dev.count_same _ _)).trans ((foldl_bus_same 3 true 0 (fun e : Nat × Sw => 32 * e.1) _ _).trans (Dev.countN_same _ _ _))

theorem Dev.jobRead_slot (d : Dev) (k : Nat) : (d.jobRead k).slot = d.slot := by
  funext j
  rw [Dev.slot, (d.jobRead_parts k).1, Dev.slot]

theorem Dev.jobRead_queue (d : Dev) (k : Nat) : (d.jobRead k).queue = d.queue := (d.jobRead_same k).queue

section
variable {s : State} {k : Nat} {c : Cmd} (h : Obl.slotFront s k c) (hr : (s.d.slot k).state = .routing)
include h hr

theorem exec_routeJobComplete_result (hb : (s.d.slot k).bad = none) :
    exec (.routeJobComplete k) s = .next { s with d := ((s.d.jobRead k).holdOrStage k).notify } := by
  have hd := Dev.slotDone_of_front h
  rw [exec_routeJobComplete, execRouteJobComplete]
  dsimp only
  rw [if_neg (by simp [hr, hd]), hb]
  rfl

theorem exec_routeJobComplete_bad {b : Comp} (hb : (s.d.slot k).bad = some b) :
    exec (.routeJobComplete k) s = .next { s with d := (((s.d.countN 2887 (s.d.tb2 - (s.d.slot k).t0)).countBad b.status).complete
      (s.d.slot k).queue (s.d.slot k).idx b).notify } := by
  have hd := Dev.slotDone_of_front h
  rw [exec_routeJobComplete, execRouteJobComplete]
  dsimp only
  rw [if_neg (by simp [hr, hd]), hb]
  rfl

end

theorem Dev.countBad_same (d : Dev) (st : Nat) : Dev.sameBut [] d (d.countBad st) := by
  unfold Dev.countBad
  split
  · exact d.count_same _
  · split
    · exact d.count_same _
    · split
      · exact d.count_same _
      · exact .refl _ _

theorem Dev.countBad_parts (d : Dev) (st : Nat) : (d.countBad st).io = d.io ∧ (d.countBad st).cmt = d.cmt := by
  unfold Dev.countBad
  split
  · exact ⟨rfl, rfl⟩
  · split
    · exact ⟨rfl, rfl⟩
    · split <;> exact ⟨rfl, rfl⟩

/-- A job with a result is staged where no other batch holds it (R79, R95). -/
theorem routeJobComplete_stages {s : State} {k : Nat} {c : Cmd} (h : Obl.slotFront s k c) (hr : (s.d.slot k).state = .routing)
    (hb : (s.d.slot k).bad = none) (ho : ∀ j, j < 16 → j ≠ k → (s.d.slot j).state = .free) :
    ∃ t, exec (.routeJobComplete k) s = .next t ∧
      t.d.slot k = { s.d.slot k with
        state := .staging, heldBy := none,
        due := s.d.edgeAt (max (if (s.d.slot k).commitTime = 0 then s.d.tb0 + 6000 else (s.d.slot k).commitTime)
          (s.d.queue (s.d.slot k).queue).prevMidnight) } ∧
      (∀ j, j ≠ k → t.d.slot j = s.d.slot j) ∧ State.sameBut [.cmt] s t := by
  have hslot := s.d.jobRead_slot k
  have hqueue := s.d.jobRead_queue k
  have htim := (s.d.jobRead_parts k).2.2
  have hst : (s.d.jobRead k).stagedSlots = [] := Dev.stagedSlots_nil fun j hj => by
    rw [hslot]
    by_cases hjk : j = k
    · subst hjk; simp [hr]
    · simp [ho j hj hjk]
  have hrb : (List.range 16).filter (fun j => j != k && ((s.d.jobRead k).slot j).state != .free && ((s.d.jobRead k).slot j).state != .routing &&
      ((s.d.jobRead k).slot j).state != .held && ((s.d.jobRead k).slot j).rbOnFail &&
      meets ((s.d.jobRead k).slot j).delta.foot ((s.d.jobRead k).slot k).delta.foot) = [] := filter_eq_nil_of fun j hj => by
    by_cases hjk : j = k
    · simp [hjk]
    · simp [hslot, ho j (List.mem_range.mp hj) hjk]
  have hh : (s.d.jobRead k).holder k = none := by
    unfold Dev.holder
    dsimp only
    rw [hrb, hslot, hqueue, slotFront_before h]
    rfl
  have hm : (s.d.jobRead k).expectedMidnight (s.d.slot k).queue (s.d.slot k).commitTime =
      s.d.edgeAt (max (if (s.d.slot k).commitTime = 0 then s.d.tb0 + 6000 else (s.d.slot k).commitTime)
        (s.d.queue (s.d.slot k).queue).prevMidnight) := by
    rw [Dev.expectedMidnight_alone hst, hqueue, Dev.edgeAt, Dev.edgeAt, Dev.tb0, Dev.tb2, htim]
    rfl
  have hd : (s.d.jobRead k).holdOrStage k = (s.d.jobRead k).modSlot k (fun x => { x with
      state := .staging, heldBy := none, due := (s.d.jobRead k).expectedMidnight x.queue x.commitTime }) := by
    rw [Dev.holdOrStage, hh]
  refine ⟨_, exec_routeJobComplete_result h hr hb, ?_, fun j hj => ?_, finish_same ?_⟩
  · rw [Dev.notify_slot, hd, Dev.slot_modSlot_self, hslot, hm]
  · rw [Dev.notify_slot, hd, Dev.slot_modSlot, if_neg hj, hslot]
  · rw [hd]
    exact ((s.d.jobRead_same k).up _).trans (Dev.modSlot_same _ k _)

/-- A job whose footprint meets that of a ROLLBACK_ON_FAIL batch not completed is held (R95). -/
theorem routeJobComplete_holds {s : State} {k j : Nat} {c : Cmd} (h : Obl.slotFront s k c) (hr : (s.d.slot k).state = .routing)
    (hb : (s.d.slot k).bad = none) (hj : j < 16) (hjk : j ≠ k)
    (hs : (s.d.slot j).state ∈ [SlotSt.staging, .staged, .verifying, .settling, .rolling, .rollback]) (hrb : (s.d.slot j).rbOnFail = true)
    (hm : ∃ ca, ca ∈ (s.d.slot j).delta.foot ∧ ca ∈ (s.d.slot k).delta.foot) :
    ∃ t, exec (.routeJobComplete k) s = .next t ∧ (t.d.slot k).state = .held ∧ (t.d.slot k).heldBy.isSome = true ∧
      (∀ i, i ≠ k → t.d.slot i = s.d.slot i) ∧ State.sameBut [.cmt] s t := by
  have hslot := s.d.jobRead_slot k
  have hmeet : meets (s.d.slot j).delta.foot (s.d.slot k).delta.foot = true := by
    obtain ⟨ca, h1, h2⟩ := hm
    exact List.any_eq_true.mpr ⟨ca, h1, List.contains_iff_mem.mpr h2⟩
  have hsj : (s.d.slot j).state ≠ .free ∧ (s.d.slot j).state ≠ .routing ∧ (s.d.slot j).state ≠ .held := by
    refine ⟨?_, ?_, ?_⟩ <;> intro he <;> simp [he] at hs
  have hmem : j ∈ (List.range 16).filter (fun j => j != k && ((s.d.jobRead k).slot j).state != .free && ((s.d.jobRead k).slot j).state != .routing &&
      ((s.d.jobRead k).slot j).state != .held && ((s.d.jobRead k).slot j).rbOnFail &&
      meets ((s.d.jobRead k).slot j).delta.foot ((s.d.jobRead k).slot k).delta.foot) :=
    List.mem_filter.mpr ⟨List.mem_range.mpr hj, by simp [hslot, hjk, hsj, hrb, hmeet]⟩
  have hh : ∃ x, (s.d.jobRead k).holder k = some x := by
    unfold Dev.holder
    dsimp only
    generalize (List.range 16).filter _ = l at hmem ⊢
    obtain ⟨a, l', rfl⟩ := List.exists_cons_of_ne_nil (List.ne_nil_of_mem hmem)
    exact ⟨_, rfl⟩
  obtain ⟨x, hx⟩ := hh
  have hd : (s.d.jobRead k).holdOrStage k = ((s.d.jobRead k).modSlot k (fun s => { s with state := .held, heldBy := some x })).count 2905 := by
    rw [Dev.holdOrStage, hx]
  refine ⟨_, exec_routeJobComplete_result h hr hb, ?_, ?_, fun i hi => ?_, finish_same ?_⟩
  · simp [hd]
  · simp [hd]
  · rw [Dev.notify_slot, hd]
    simp [Dev.slot_modSlot, hi, hslot]
  · rw [hd]
    exact ((s.d.jobRead_same k).up _).trans ((Dev.modSlot_same _ k _).trans ((Dev.count_same _ _).up _))

/-- A job without a result completes with the conflict found, and its slot is free (R56). -/
theorem routeJobComplete_fails {s : State} {k : Nat} {c : Cmd} {b : Comp} (h : Obl.slotFront s k c) (hr : (s.d.slot k).state = .routing)
    (hb : (s.d.slot k).bad = some b) (ho : ∀ j, j < 16 → j ≠ k → (s.d.slot j).state = .free) :
    ∃ t, exec (.routeJobComplete k) s = .next t ∧ State.answers s t (s.d.slot k).queue [] { b with cid := sqeCid c.sqe } ∧
      (t.d.slot k).state = .free ∧ State.sameBut [.queues, .cmt, .mon] s t := by
  have hx := exec_routeJobComplete_bad h hr hb
  obtain ⟨hk, hc, hi, -, hs, ha⟩ := h
  have he := (s.d.countN_same 2887 (s.d.tb2 - (s.d.slot k).t0)).trans (Dev.countBad_same _ b.status)
  obtain ⟨p1, p2⟩ := (s.d.countN 2887 (s.d.tb2 - (s.d.slot k).t0)).countBad_parts b.status
  have hof : ((s.d.countN 2887 (s.d.tb2 - (s.d.slot k).t0)).countBad b.status).slotOf (s.d.slot k).queue c.idx = some k := by
    have hsl : ((s.d.countN 2887 (s.d.tb2 - (s.d.slot k).t0)).countBad b.status).slot = s.d.slot := by
      funext j
      rw [Dev.slot, p2]
      rfl
    exact Dev.slotOf_only hk (by rw [hsl, hr]; decide) (by rw [hsl]) (by rw [hsl, hi]) (fun j hj hne => by rw [hsl]; exact ho j hj hne)
  have hout : ((s.d.countN 2887 (s.d.tb2 - (s.d.slot k).t0)).countBad b.status).io.out = [] ++ s.d.io.out := congrArg Io.out p1
  generalize (s.d.countN 2887 (s.d.tb2 - (s.d.slot k).t0)).countBad b.status = e at *
  rw [← hi] at hx
  have hst : (c.completed b).stalls = false := by simp [Cmd.completed, hs]
  have hcmds : (e.queue (s.d.slot k).queue).cmds = [c] := by rw [he.queue]; exact hc
  have hab : (e.queue (s.d.slot k).queue).abort = none := by rw [he.queue]; exact ha
  refine ⟨_, hx, State.answers_single (d := e) (comp := b) rfl (by rw [he.queue]) hout hc ha hst, ?_,
    finish_same ((he.up _).trans (Dev.complete_single_same hcmds hab hst))⟩
  rw [Dev.notify_slot]
  exact Dev.complete_frees hcmds hab hst hof

/-- Settles O24, by the start and the end of a route job. -/
theorem routeJobsStartAndEnd : Obligations.RouteJobsStartAndEnd := by
  refine ⟨?_, ?_, ?_, ?_, ?_, ?_⟩
  · intro s q c w h hw
    obtain ⟨t, ht, ⟨g1, g2, g3⟩, g4, g5⟩ := routeJobStart_runs h hw
    have hz : ∀ {α : Type} (f : Slot → α), f { t.d.slot 0 with
        state := (Slot.take c q (s.d.queue q).domain).state, t0 := (Slot.take c q (s.d.queue q).domain).t0,
        after := (Slot.take c q (s.d.queue q).domain).after, delta := (Slot.take c q (s.d.queue q).domain).delta,
        bad := (Slot.take c q (s.d.queue q).domain).bad, phase1 := (Slot.take c q (s.d.queue q).domain).phase1 } =
        f (Slot.take c q (s.d.queue q).domain) := fun f => congrArg f g3
    exact ⟨t, ht, g1, hz Slot.queue, hz Slot.idx, hz Slot.domain, hz Slot.cid, hz Slot.commitTime, hz Slot.rbOnFail, hz Slot.lateOk, g2, g4, g5⟩
  · intro s q c w h ha hs ho hd hown
    exact routeJobStart_notOwned h ha hs ho hd hown
  · intro s k h w hk hs hb hc ho hd he hw
    exact heldBatchRerun_runs hk hs hb hc ho hd he hw
  · intro s k c h hr hb ho
    exact routeJobComplete_stages h hr hb ho
  · intro s k j c h hr hb hj hjk hs hrb hm
    exact routeJobComplete_holds h hr hb hj hjk hs hrb hm
  · intro s k c b h hr hb ho
    exact routeJobComplete_fails h hr hb ho

end Sys2Proof.Machine

/-! From the end of staging to the strobe mask (R42, R48, R83, R88, R188, R306). -/
namespace Sys2Proof.Machine
set_option Elab.async false

/-! ## The end of staging -/

/-- The states are read from the matrix as staging ends. -/
def Dev.stageRead (d : Dev) (k : Nat) : Dev := (d.slot k).delta.sw.foldl (fun d e => d.bus 4 false 0 (32 * e.1) 32) d

theorem Dev.stageRead_parts (d : Dev) (k : Nat) :
    (d.stageRead k).cmt = d.cmt ∧ (d.stageRead k).io = d.io ∧ (d.stageRead k).tim = d.tim ∧ (d.stageRead k).drv = d.drv :=
  foldl_bus_slot 4 false 0 (fun e : Nat × Sw => 32 * e.1) _ d

theorem Dev.stageRead_same (d : Dev) (k : Nat) : Dev.sameBut [] d (d.stageRead k) := foldl_bus_same 4 false 0 (fun e : Nat × Sw => 32 * e.1) _ d

/-- The earliest Midnight of slot k's batch, where no other batch of its queue goes before it (R83). -/
def Dev.readyAt (d : Dev) (k : Nat) : Nat := max (d.tb0 + 1000) (d.queue (d.slot k).queue).prevMidnight

/-- A slot with its delta staged (R48 step 5, R83). -/
def Slot.stagedAt (x : Slot) (d : Dev) (due ready time : Nat) (late : Bool) : Slot :=
  { x with state := .staged, bank := d.drv.bank, shapeSel := d.drv.shapeSel, ready := ready, due := due, time := time, late := late }

section
variable {s : State} {k : Nat} {c : Cmd} (h : Obl.slotFront s k c)
include h

theorem prevMidnight_front : s.d.prevMidnight k = (s.d.queue (s.d.slot k).queue).prevMidnight := by
  unfold Dev.prevMidnight
  dsimp only
  rw [slotFront_before h]
  simp

variable (hs : (s.d.slot k).state = .staging)
include hs

theorem exec_stagingComplete_late (hl : (s.d.slot k).lateOk = false) (hz : (s.d.slot k).commitTime ≠ 0)
    (hb : (s.d.slot k).commitTime < s.d.readyAt k) : exec (.stagingComplete k) s =
    .next { s with d := ((s.d.count 2902).complete (s.d.slot k).queue (s.d.slot k).idx (baseComp 1 stLate)).notify } := by
  have hd := Dev.slotDone_of_front h
  have hm := prevMidnight_front h
  unfold Dev.readyAt at hb
  rw [exec_stagingComplete, execStagingComplete]
  dsimp only
  rw [if_neg (by simp [hs, hd]), hm, if_pos (by simp [hl, hz, tLead]; omega), finish_next]

theorem exec_stagingComplete_staged (hl : (s.d.slot k).commitTime = 0 ∨ (s.d.slot k).lateOk = true ∨ s.d.readyAt k ≤ (s.d.slot k).commitTime) :
    exec (.stagingComplete k) s = .next { s with d := ((s.d.stageRead k).modSlot k (fun y => y.stagedAt (s.d.stageRead k)
      (max (s.d.slot k).commitTime (s.d.readyAt k)) (s.d.stageRead k).tb2 ((s.d.stageRead k).edgeAt (max (s.d.slot k).commitTime (s.d.readyAt k)))
      ((s.d.slot k).commitTime != 0 && decide ((s.d.slot k).commitTime < s.d.readyAt k)))).notify } := by
  have hd := Dev.slotDone_of_front h
  have hm := prevMidnight_front h
  have hmax : max (max (s.d.slot k).commitTime (s.d.tb0 + tLead)) (s.d.queue (s.d.slot k).queue).prevMidnight =
      max (s.d.slot k).commitTime (s.d.readyAt k) := by rw [max_assoc]; rfl
  have hlate : ((s.d.slot k).commitTime != 0 && decide ((s.d.slot k).commitTime < max (s.d.tb0 + tLead) (s.d.queue (s.d.slot k).queue).prevMidnight) &&
      !(s.d.slot k).lateOk) = false := by
    change ((s.d.slot k).commitTime != 0 && decide ((s.d.slot k).commitTime < s.d.readyAt k) && !(s.d.slot k).lateOk) = false
    rcases hl with hl | hl | hl
    · simp [hl]
    · simp [hl]
    · simp [Nat.not_lt.mpr hl]
  rw [exec_stagingComplete, execStagingComplete]
  dsimp only
  rw [if_neg (by simp [hs, hd]), hm, hlate, if_neg Bool.false_ne_true, hmax, finish_next]
  rfl

end

/-- The first edge of the data clock at or after an instant (R83). -/
theorem Dev.edgeAt_spec (d : Dev) (t : Nat) : t ≤ d.edgeAt t ∧ d.edgeAt t ≤ t + 1 ∧ (d.edgeAt t + d.tb0 + d.tb2) % 2 = 0 := by
  unfold Dev.edgeAt
  omega

/-! ## Lanes for a batch -/

/-- A lane reserved for a slot, its tap frozen in a range (R188). -/
def Fl.reservedFor (x : Fl) (mpa k range : Nat) : Fl := { x with state := .reserved, att := some mpa, slot := k, range := range }

/-- The range of a checked output's tap in a plane (R88). -/
def Dev.checkRange (d : Dev) (conns : List Conn) (oatt : List (Nat × Nat)) (i o : Nat) (p : Bool) : Nat :=
  laneRange (levelOf i o p (d.inputPower i p) (((oatt.find? (fun x => x.1 == o)).map (·.2)).getD (d.tgt 1 o)) (conns.any (fun c => c.uses o && c.isBridge)))

/-- With every lane free, the one checked output takes lanes 0 and 1. -/
theorem Dev.pickLanes_one {d : Dev} {conns : List Conn} {oatt : List (Nat × Nat)} {k i o : Nat}
    (hf : ∀ l, l < 128 → (d.fl l).state = .free ∧ (d.fl l).bad = false) :
    d.pickLanes conns oatt k [(i, o)] = ((((d.modFl 0 (fun x => x.reservedFor (mkMpa (outVoa 0 o) 0) k (d.checkRange conns oatt i o false))).modFl 1
      (fun x => x.reservedFor (mkMpa (outVoa 1 o) 0) k (d.checkRange conns oatt i o true))).countN 2944 2), [0, 1]) := by
  have hall : (List.range 128).filter (fun l => (d.fl l).state == .free && !(d.fl l).bad) = 0 :: 1 :: (List.range 126).map (· + 2) := by
    rw [List.filter_eq_self.mpr fun l hl => by obtain ⟨h1, h2⟩ := hf l (List.mem_range.mp hl); simp [h1, h2]]
    rfl
  have htaken : (List.range 128).any (fun l => match (d.fl l).att with
      | some m => [mkMpa (outVoa 0 o) 0, mkMpa (outVoa 1 o) 0].contains m && (d.fl l).state != .free
      | none => false) = false := List.any_eq_false.mpr fun l hl => by
    obtain ⟨h1, -⟩ := hf l (List.mem_range.mp hl)
    cases (d.fl l).att <;> simp [h1]
  simp only [Dev.pickLanes, List.foldl_cons, List.foldl_nil, hall, List.nil_append]
  exact if_neg (fun h => Bool.false_ne_true (htaken.symm.trans h))

/-- The slot in the strobe mask. -/
def Dev.maskedIn (d : Dev) (k : Nat) : Dev := d.modSlot k (fun x => { x with masked := true })

theorem exec_laneReservation_one {s : State} {k : Nat} (hk : k < 16) (hs : (s.d.slot k).state = .staged) (hd : s.d.slotDone k = false)
    (hm : (s.d.slot k).masked = false) (ht : (s.d.slot k).due ≤ s.d.tb0 + 500) (ho : ∀ j, j < 16 → j ≠ k → (s.d.slot j).state ≠ .staged) :
    exec .laneReservation s = .next { s with d := ((s.d.maskedIn k).reserveFor s.net k).notify } := by
  have hdue : (List.range 16).filter (fun k => (s.d.slot k).state == .staged && !s.d.slotDone k && !(s.d.slot k).masked &&
      decide ((s.d.slot k).due ≤ s.d.tb0 + 500)) = [k] := by
    have hp : ∀ j ∈ List.range 16, ((s.d.slot j).state == .staged && !s.d.slotDone j && !(s.d.slot j).masked &&
        decide ((s.d.slot j).due ≤ s.d.tb0 + 500)) = decide (j = k) := by
      intro j hj
      by_cases hjk : j = k
      · subst hjk; simp [hs, hd, hm, ht]
      · simp [ho j (List.mem_range.mp hj) hjk, hjk]
    rw [List.filter_congr hp, List.filter_eq, List.count_eq_one_of_mem List.nodup_range (List.mem_range.mpr hk)]
    rfl
  rw [exec_laneReservation, execLaneReservation]
  rw [hdue]
  rfl

theorem fl_two (d : Dev) (A B : Fl → Fl) (k : Nat) (f : Slot → Slot) (l : Nat) :
    ((((d.modFl 0 A).modFl 1 B).countN 2944 2).modSlot k f).fl l = if l = 1 then B (d.fl 1) else if l = 0 then A (d.fl 0) else d.fl l := by
  change ((d.modFl 0 A).modFl 1 B).fl l = _
  rw [Dev.fl_modFl, Dev.fl_modFl, Dev.fl_modFl]
  by_cases h : l = 1 <;> simp [h]

/-- A batch of one checked output gets both its lanes. -/
theorem reserveFor_one {d : Dev} {n : Net} {k i o : Nat} (hl : (d.slot k).lanes = []) (hp : d.checkedPairs n k = [(i, o)])
    (hf : ∀ l, l < 128 → (d.fl l).state = .free ∧ (d.fl l).bad = false) :
    ((d.maskedIn k).reserveFor n k).slot k = { d.slot k with masked := true, lanes := [0, 1] } ∧
    (∀ j, j ≠ k → ((d.maskedIn k).reserveFor n k).slot j = d.slot j) ∧
    ((d.maskedIn k).reserveFor n k).fl 0 = (d.fl 0).reservedFor (mkMpa (outVoa 0 o) 0) k
      (d.checkRange ((d.slot k).connsOn n) (d.slot k).delta.oatt i o false) ∧
    ((d.maskedIn k).reserveFor n k).fl 1 = (d.fl 1).reservedFor (mkMpa (outVoa 1 o) 0) k
      (d.checkRange ((d.slot k).connsOn n) (d.slot k).delta.oatt i o true) ∧
    (∀ l, 2 ≤ l → ((d.maskedIn k).reserveFor n k).fl l = d.fl l) ∧ Dev.sameBut [.cmt, .mon] d ((d.maskedIn k).reserveFor n k) := by
  have hs : (d.maskedIn k).slot k = { d.slot k with masked := true } := Dev.slot_modSlot_self _ _ _
  have hpairs : (d.maskedIn k).checkedPairs n k = [(i, o)] := by
    rw [← hp]
    unfold Dev.checkedPairs
    rw [hs]
    rfl
  have hfl : (d.maskedIn k).fl = d.fl := rfl
  have hr : (d.maskedIn k).reserveFor n k = (((((d.maskedIn k).modFl 0 (fun x => x.reservedFor (mkMpa (outVoa 0 o) 0) k
      (d.checkRange ((d.slot k).connsOn n) (d.slot k).delta.oatt i o false))).modFl 1 (fun x => x.reservedFor (mkMpa (outVoa 1 o) 0) k
      (d.checkRange ((d.slot k).connsOn n) (d.slot k).delta.oatt i o true))).countN 2944 2).modSlot k (fun s => { s with lanes := s.lanes ++ [0, 1] })) := by
    rw [Dev.reserveFor, Dev.reserveLanes, hpairs, hs, Dev.pickLanes_one (by rwa [hfl])]
    rfl
  rw [hr]
  refine ⟨?_, fun j hj => ?_, ?_, ?_, fun l hl => ?_, ?_⟩
  · rw [Dev.slot_modSlot_self]
    have he : (((((d.maskedIn k).modFl 0 (fun x => x.reservedFor (mkMpa (outVoa 0 o) 0) k
      (d.checkRange ((d.slot k).connsOn n) (d.slot k).delta.oatt i o false))).modFl 1 (fun x => x.reservedFor (mkMpa (outVoa 1 o) 0) k
      (d.checkRange ((d.slot k).connsOn n) (d.slot k).delta.oatt i o true))).countN 2944 2)).slot k = { d.slot k with masked := true } := hs
    rw [he, hl]
    rfl
  · rw [Dev.slot_modSlot, if_neg hj]
    exact (Dev.slot_modSlot d k _ j).trans (if_neg hj)
  · rw [fl_two]; rfl
  · rw [fl_two]; rfl
  · rw [fl_two, if_neg (by omega), if_neg (by omega)]; rfl
  · exact ((Dev.modSlot_same d k _).up _).trans (((Dev.modFl_same _ 0 _).up _).trans (((Dev.modFl_same _ 1 _).up _).trans
      (((Dev.countN_same _ _ _).up _).trans ((Dev.modSlot_same _ k _).up _))))

/-- Settles O25, by the end of staging and the reservation of lanes. -/
theorem stagedBatchesWaitForMidnight : Obligations.StagedBatchesWaitForMidnight := by
  refine ⟨?_, ?_, ?_⟩
  · intro s k c h hs hl
    obtain ⟨p1, p2, p3, p4⟩ := s.d.stageRead_parts k
    have hslot : (s.d.stageRead k).slot = s.d.slot := by
      funext j
      rw [Dev.slot, p1, Dev.slot]
    have he : (s.d.stageRead k).edgeAt (max (s.d.slot k).commitTime (s.d.readyAt k)) = s.d.edgeAt (max (s.d.slot k).commitTime (s.d.readyAt k)) := by
      simp only [Dev.edgeAt, Dev.tb0, Dev.tb2, p3]
    have ht : (s.d.stageRead k).tb2 = s.d.tb2 := congrArg Tim.tb2 p3
    obtain ⟨e1, e2, e3⟩ := s.d.edgeAt_spec (max (s.d.slot k).commitTime (s.d.readyAt k))
    have hx := exec_stagingComplete_staged h hs hl
    have hmax : max (max (s.d.slot k).commitTime (s.d.tb0 + 1000)) (s.d.queue (s.d.slot k).queue).prevMidnight =
      max (s.d.slot k).commitTime (s.d.readyAt k) := max_assoc _ _ _
    rw [hmax]
    refine ⟨_, s.d.edgeAt (max (s.d.slot k).commitTime (s.d.readyAt k)), hx, ?_, e1, e2, e3, fun j hj => ?_,
      finish_same (((s.d.stageRead_same k).up _).trans (Dev.modSlot_same _ k _))⟩
    · rw [Dev.notify_slot, Dev.slot_modSlot_self, he, ht, hslot, Slot.stagedAt, p4]
      rfl
    · rw [Dev.notify_slot, Dev.slot_modSlot, if_neg hj, hslot]
  · intro s k c h hs hl hz hb
    have hx := exec_stagingComplete_late h hs hl hz hb
    obtain ⟨-, hc, hi, -, hst, ha⟩ := h
    have hstall : (c.completed (baseComp 1 stLate)).stalls = false := by simp [Cmd.completed, hst]
    rw [← hi] at hx
    exact ⟨_, hx, State.answers_single (d := s.d.count 2902) (comp := baseComp 1 stLate) rfl rfl rfl hc ha hstall,
      finish_same (((s.d.count_same _).up _).trans (Dev.complete_single_same (c := c) hc ha hstall))⟩
  · intro s k i o hk hs hd hm ht ho hl hp hf
    obtain ⟨g1, g2, g3, g4, g5, g6⟩ := reserveFor_one hl hp hf
    refine ⟨_, exec_laneReservation_one hk hs hd hm ht ho, by rw [Dev.notify_slot]; exact g1, fun p hp2 => ?_, fun l hl2 => by rw [Dev.notify_fl]; exact g5 l hl2,
      fun j hj => by rw [Dev.notify_slot]; exact g2 j hj, finish_same g6⟩
    rw [Dev.notify_fl]
    interval_cases p
    · exact g3
    · exact g4

end Sys2Proof.Machine

/-! ## A plane restore in Dusk (O29) -/
namespace Sys2Proof.Machine
set_option Elab.async false

/-- A plane restore falls due while Dusk holds every VOA on its blank code (its step 2 has come), with no cause of blank. -/
def restoreInDusk : State :=
  Tests.on (fun d => { d with pwr := { d.pwr with phase := .dusk, step := 2 } }) Tests.onePlaneT

theorem restoreInDusk_due :
    (restoreInDusk.d.cmt.planes = [Tests.backJob]) ∧ (restoreInDusk.d.jobs.att = []) ∧ (Tests.backJob.restore = true) ∧
    (restoreInDusk.net.ofIn Tests.backJob.inp = some Tests.conn5B) ∧ (Tests.conn5B.dark = some Tests.backJob.plane) ∧ (Tests.backJob.inp < 512) ∧
    (restoreInDusk.d.tgt 0 Tests.backJob.inp ≠ 511) ∧ ((restoreInDusk.d.cell (inVoa (b2n Tests.backJob.plane) Tests.backJob.inp)).dark = true) ∧
    (restoreInDusk.d.tb2 % 2 = 0) ∧ (Tests.backJob.at2 < restoreInDusk.d.tb2) ∧ (restoreInDusk.d.blankOn = false) ∧
    ((restoreInDusk.d.cell (inVoa (b2n Tests.backJob.plane) Tests.backJob.inp)).settling = false) ∧ (restoreInDusk.d.clocked = true) := by
  and_intros <;> decide +kernel

/-- Whether every restore under verification after the step counts as locked, if the step makes a state. -/
def locksAfter (i : Instr) (s : State) : Option Bool :=
  match exec i s with
  | .next t => some (t.d.cmt.restoring.all (·.locked))
  | _ => none

/-- The VOA stays on its blank code and does not step: there is no lock to wait for. -/
theorem locksAfter_restoreInDusk : locksAfter (.planeRestoreCommit Tests.backJob.inp) restoreInDusk = some true := by decide +kernel

/-- Refutes O29: its clause on the restore does not exclude Dusk, in which the VOA does not step and the restore has no lock to wait for. -/
theorem not_planesAreLostAndRestored : ¬ Obligations.PlanesAreLostAndRestored := by
  unfold Obligations.PlanesAreLostAndRestored
  rintro ⟨-, hrestore, -⟩
  obtain ⟨hp, ha, hr, hc, hd, hi, ht, hk, h2, hat, hb, hs, hclk⟩ := restoreInDusk_due
  obtain ⟨t, hx, -, -, -, -, -, ⟨r, hmem, -, -, -, hl, -⟩, -⟩ := hrestore restoreInDusk Tests.backJob Tests.conn5B hp ha hr hc hd hi ht hk h2 hat hb hs hclk
  have h : locksAfter (.planeRestoreCommit Tests.backJob.inp) restoreInDusk = some (t.d.cmt.restoring.all (·.locked)) := by
    unfold locksAfter
    rw [hx]
  rw [locksAfter_restoreInDusk] at h
  have hall := List.all_eq_true.mp (Option.some.inj h).symm r hmem
  rw [hl] at hall
  cases hall

end Sys2Proof.Machine

/-! ## A completion frees the first slot of its command (O26, O28) -/
namespace Sys2Proof.Machine
set_option Elab.async false

/-- Slot 7's batch falls due during blank, and slot 3, in ROUTING, names the same command. -/
def twoSlotsAtMidnight : State := Tests.withSlot 3 { Tests.dueBlank.d.slot 7 with state := .routing } Tests.dueBlank

theorem twoSlotsAtMidnight_due : Obl.edgeOf twoSlotsAtMidnight 7 ∧ twoSlotsAtMidnight.d.blankOn = true ∧ Obl.slotFront twoSlotsAtMidnight 7 Tests.cOne := by
  unfold Obl.edgeOf Obl.slotFront
  and_intros <;> decide +kernel

/-- The state of slot 7 after the step, if the step makes a state. -/
def slot7After (i : Instr) (s : State) : Option SlotSt :=
  match exec i s with
  | .next t => some (t.d.slot 7).state
  | _ => none

/-- The completion frees slot 3. -/
theorem slot7After_midnight : slot7After .midnight twoSlotsAtMidnight = some .staged := by decide +kernel

/-- Refutes O26: its clause on blank does not ask that slot k alone holds the command, and a completion frees the first slot that does. -/
theorem not_midnightCommitsOrDoesNot : ¬ Obligations.MidnightCommitsOrDoesNot := by
  unfold Obligations.MidnightCommitsOrDoesNot
  rintro ⟨-, -, hblank⟩
  obtain ⟨he, hb, hf⟩ := twoSlotsAtMidnight_due
  obtain ⟨t, hx, -, hfree, -⟩ := hblank twoSlotsAtMidnight 7 Tests.cOne he hb hf
  have h : slot7After .midnight twoSlotsAtMidnight = some .free := by
    unfold slot7After
    rw [hx]
    exact congrArg some hfree
  rw [slot7After_midnight] at h
  cases h

/-- Slot 7's batch waits for the settle window of cell 2 alone, and slot 3, in ROUTING, names the same command. -/
def twoSlotsSettling : State := Tests.withSlot 3 { Tests.settlingBatch.d.slot 7 with state := .routing, wait := [] } Tests.settlingBatch

theorem twoSlotsSettling_due : (twoSlotsSettling.d.cell 2).settling = true ∧ (twoSlotsSettling.d.cell 2).settleEnd ≤ twoSlotsSettling.d.tb2 ∧
    Obl.slotFront twoSlotsSettling 7 Tests.cOne5 ∧ (twoSlotsSettling.d.slot 7).state = .settling ∧ (twoSlotsSettling.d.slot 7).wait = [2] ∧
    (twoSlotsSettling.d.slot 7).rolls = [] ∧ (twoSlotsSettling.d.slot 7).rolledBack = false ∧ (twoSlotsSettling.d.slot 7).kept = false ∧
    (twoSlotsSettling.d.slot 7).blankedKept = false ∧ (twoSlotsSettling.d.slot 7).failFirst = none ∧ 2 ∉ (twoSlotsSettling.d.slot 7).locks ∧
    (∀ j, j < 16 → j ≠ 7 → 2 ∉ (twoSlotsSettling.d.slot j).locks ∧ 2 ∉ (twoSlotsSettling.d.slot j).wait) ∧
    twoSlotsSettling.d.cmt.restoring = [] ∧ twoSlotsSettling.d.flt.releasing = false := by
  unfold Obl.slotFront
  and_intros <;> decide +kernel

/-- The completion frees slot 3. -/
theorem slot7After_settleWindowEnd : slot7After (.settleWindowEnd 2) twoSlotsSettling = some .settling := by decide +kernel

/-- Refutes O28: its clause on the last settle window does not ask that slot k alone holds the command, and a completion frees the first slot that
does. -/
theorem not_failureAndSettling : ¬ Obligations.FailureAndSettling := by
  unfold Obligations.FailureAndSettling
  rintro ⟨-, -, -, hlast⟩
  obtain ⟨h1, h2, h3, h4, h5, h6, h7, h8, h9, h10, h11, h12, h13, h14⟩ := twoSlotsSettling_due
  obtain ⟨t, hx, -, hfree, -⟩ := hlast twoSlotsSettling 2 7 Tests.cOne5 h1 h2 h3 h4 h5 h6 h7 h8 h9 h10 h11 h12 h13 h14
  have h : slot7After (.settleWindowEnd 2) twoSlotsSettling = some .free := by
    unfold slot7After
    rw [hx]
    exact congrArg some hfree
  rw [slot7After_settleWindowEnd] at h
  cases h

end Sys2Proof.Machine

/-! ## The verification window (O27) -/
namespace Sys2Proof.Machine
set_option Elab.async false

section
variable {s : State} {k o : Nat} {a b : Meas} {c : Conn}

theorem Dev.slotDone_modSlot {d : Dev} {f : Slot → Slot} (hq : (f (d.slot k)).queue = (d.slot k).queue) (hi : (f (d.slot k)).idx = (d.slot k).idx) :
    (d.modSlot k f).slotDone k = d.slotDone k := by
  unfold Dev.slotDone
  rw [Dev.slot_modSlot_self, hq, hi]
  rfl

/-- Each plane of one output measured adds its failure. -/
theorem windowChecks_one {n : Net} {d : Dev} {v : VerLimits} {ins : List (Nat × Int × Int)} {ls : List Nat} (ha : a.out = o) (hap : a.plane = false) (hb : b.out = o) (hbp : b.plane = true) :
    d.windowChecks n v ins ls [o] [a, b] = if o ∈ v.unjudged ins [o] then [] else
      if d.passes n v ins ls b then (if d.passes n v ins ls a then [] else [(o, 1)])
      else if d.passes n v ins ls a then [(o, 2)] else [(o, 3)] := by
  have h0 : measOf [a, b] o false = some a := by simp [measOf, ha, hap]
  have h1 : measOf [a, b] o true = some b := by simp [measOf, ha, hap, hb, hbp]
  by_cases hu : o ∈ v.unjudged ins [o]
  · rw [if_pos hu]
    simp [Dev.windowChecks, hu]
  · rw [if_neg hu]
    have hf : [o].filter (fun o' => !(v.unjudged ins [o]).contains o') = [o] := by simp [hu]
    rw [Dev.windowChecks, hf]
    simp only [List.foldl_cons, List.foldl_nil, h0, h1]
    cases d.passes n v ins ls a <;> cases d.passes n v ins ls b <;> simp [addFail, planeBit, b2n]

/-- Without lanes a check is one of level. -/
theorem passes_level {n : Net} {d : Dev} {v : VerLimits} {ins : List (Nat × Int × Int)} {m : Meas} (hc : n.ofOut m.out = some c) :
    d.passes n v ins [] m = decide ((m.level - d.expected n c.inp m.out m.plane (inputAt ins m.out m.plane)).natAbs ≤ v.tol.natAbs) := by
  unfold Dev.passes
  rw [hc]
  simp

/-- The slot with its window closed and some failures. -/
def Slot.shut (x : Slot) (fails : List (Nat × Nat)) : Slot :=
  { x with window := true, lanes := [], fails := fails.foldl (fun fs p => addFail fs p.1 p.2) x.fails, unver := (if x.rolledBack then x.unver else x.skip) }

theorem exec_windowClose (hk : k < 16) (hs : (s.d.slot k).state = .verifying) (hw : (s.d.slot k).window = false)
    (ht : (s.d.slot k).mn + 4000 ≤ s.d.tb2) (hl : (s.d.slot k).lanes = []) (hm : Obl.measures s k o a b) :
    exec (.verificationWindowClose k [a, b]) s =
      .next { s with d := ((s.d.modSlot k (fun x => x.shut (s.d.windowChecks s.net (s.d.slot k).ver (s.d.slot k).inputs [] [o] [a, b]))).advance s.net k).notify } := by
  obtain ⟨hc, ha, hap, hb, hbp⟩ := hm
  have hall : measured [o] [a, b] = true := by simp [measured, measOf, ha, hap, hb, hbp]
  rw [exec_verificationWindowClose, execVerificationWindowClose, if_pos hk]
  dsimp only
  rw [if_neg (by simp [hs, hw, hc, hall]; omega), finish_next, hl, hc]
  rfl

/-! ### What follows a window by its failures -/

variable {d : Dev} (hd : d.slotDone k = false) (hs : (d.slot k).state = .verifying)
include hd hs

theorem advance_open (hf : (d.slot k).fails = []) (hl : (d.slot k).locks ≠ []) : d.advance s.net k = d.modSlot k (fun x => { x with acted := x.acted ++ [] }) := by
  have hcs : d.failedConns s.net k = [] := by simp [Dev.failedConns, hf]
  have hdec : (d.slot k).decided = false := by simp [Slot.decided, hl]
  unfold Dev.advance
  simp only [hd, Bool.false_eq_true, if_false, hs, hf, hcs, hdec, List.isEmpty_nil, Bool.not_true, Bool.false_and, Bool.not_false, if_true, List.foldl_nil, List.map_nil]

theorem advance_rollback {p : Nat} (hf : (d.slot k).fails = [(o, p)]) (hr : (d.slot k).rbOnFail = true) :
    d.advance s.net k = d.modSlot k (fun x => { x with state := .rollback, failed := true, failFirst := some (o, p), knownAt := d.tb2 }) := by
  unfold Dev.advance
  simp only [hd, Bool.false_eq_true, if_false, hs, hf, hr, List.isEmpty_cons, Bool.not_false, Bool.true_and, if_true]
  simp [sorted, sortBy, insertBy]

end

/-! ### A failure in both planes -/

theorem keepFailed_both {d : Dev} {n : Net} {x : Slot} {o : Nat} {c : Conn} (hf : x.fails = [(o, 3)]) (hu : c.uses o = true) :
    d.keepFailed n x c = d.once 41 (pathScope c.inp o 3) := by
  have hm : x.fails.filter (fun p => c.uses p.1) = [(o, 3)] := by simp [hf, hu]
  have hone : onePlane c x.fails = none := by
    simp [onePlane, hm]
  unfold Dev.keepFailed
  rw [hone, hm]
  rfl

theorem foldl_keepFailed_both {n : Net} {x : Slot} {o : Nat} (hf : x.fails = [(o, 3)]) {cs : List Conn} (hu : ∀ c ∈ cs, c.uses o = true) (d : Dev) :
    cs.foldl (fun d c => d.keepFailed n x c) d = cs.foldl (fun d c => d.once 41 (pathScope c.inp o 3)) d := by
  induction cs generalizing d with
  | nil => rfl
  | cons c cs ih => rw [List.foldl_cons, List.foldl_cons, keepFailed_both hf (hu c List.mem_cons_self), ih fun c hc => hu c (List.mem_cons_of_mem _ hc)]

theorem latched_foldl_once {α : Type} {n : Nat} (h : srcReserved n = false) (h68 : n ≠ 68) (f : α → Nat) (l : List α) (d : Dev)
    (hl : (d.src n).latched = true ∨ l ≠ []) : ((l.foldl (fun d x => d.once n (f x)) d).src n).latched = true := by
  induction l generalizing d with
  | nil => exact hl.resolve_right (fun h => h rfl)
  | cons x l ih =>
    refine ih _ (.inl ?_)
    obtain ⟨hm, -⟩ := Src.marked_fields (d.src n) n (f x) d.tb2 false true
    rw [Dev.src_once h h68]
    exact hm

/-- The slot has acted on the failures of some inputs. -/
def Slot.actedOn (x : Slot) (inps : List Nat) : Slot := { x with acted := x.acted ++ inps }

/-- The slot of a kept batch whose checks are decided, a failure among them. -/
def Slot.keptWith (x : Slot) (first : Nat × Nat) (now : Nat) : Slot :=
  { x with state := .settling, kept := true, failed := true, failFirst := some first, rolls := [], knownAt := now }

/-- FS41 of every connection that uses an output, in both planes. -/
def Dev.pathsFailed (d : Dev) (n : Net) (o : Nat) : Dev :=
  (n.conns.filter (fun c => c.uses o)).foldl (fun d c => d.once 41 (pathScope c.inp o 3)) d

theorem Dev.pathsFailed_signals (d : Dev) (n : Net) (o : Nat) : d.signals [41, 68] (d.pathsFailed n o) := .foldl (fun d _ => d.once_signals _ _) _ d

theorem Dev.pathsFailed_latched (d : Dev) {n : Net} {o : Nat} {c : Conn} (hc : n.ofOut o = some c) : ((d.pathsFailed n o).src 41).latched = true := by
  have hmem : c ∈ n.conns.filter (fun c => c.uses o) :=
    List.mem_filter.mpr ⟨List.mem_of_find?_eq_some hc, List.find?_some (p := fun c : Conn => c.uses o) hc⟩
  exact latched_foldl_once (by decide) (by decide) (fun c : Conn => pathScope c.inp o 3) _ d (.inr (List.ne_nil_of_mem hmem))

/-- A kept batch whose only output failed in both planes: FS41 of each connection that uses it, and the slot goes on settling. -/
theorem advance_kept {n : Net} {k o : Nat} {d : Dev} (hd : d.slotDone k = false) (hs : (d.slot k).state = .verifying)
    (hf : (d.slot k).fails = [(o, 3)]) (hr : (d.slot k).rbOnFail = false) (hl : (d.slot k).locks = []) (hw : (d.slot k).window = true)
    (ha : (d.slot k).acted = []) (hwait : (d.slot k).wait ≠ []) :
    d.advance n k = (((d.pathsFailed n o).modSlot k (fun x => x.actedOn ((n.conns.filter (fun c => c.uses o)).map (·.inp)))).count 2903).modSlot k
      (fun x => x.keptWith (o, 3) d.tb2) := by
  have hcs : d.failedConns n k = n.conns.filter (fun c => c.uses o) := by simp [Dev.failedConns, hf, hl, hw, ha]
  have hfold := foldl_keepFailed_both (n := n) hf (cs := n.conns.filter (fun c => c.uses o)) (fun c h => (List.mem_filter.mp h).2) d
  have hdec : (d.slot k).decided = true := by simp [Slot.decided, hl, hw]
  have hsig := d.pathsFailed_signals n o
  have hslot : (d.pathsFailed n o).slot k = d.slot k := by rw [Dev.slot, hsig.same .cmt (by decide), Dev.slot]
  have ht : (d.pathsFailed n o).tb2 = d.tb2 := hsig.same.tb2
  have hfirst : ((sorted (([(o, 3)] : List (Nat × Nat)).map (·.1))).head?.bind (fun p => ([(o, 3)] : List (Nat × Nat)).find? (fun q => q.1 == p))) = some (o, 3) := by
    simp [sorted, sortBy, insertBy]
  rw [← Dev.pathsFailed] at hfold
  generalize d.pathsFailed n o = e at hfold hsig hslot ht ⊢
  unfold Dev.advance
  simp only [hd, Bool.false_eq_true, if_false, hs, hr, Bool.and_false, hcs, hfold, hdec, Bool.not_true]
  simp only [hf, hfirst, List.isEmpty_cons, Bool.not_false, Bool.true_or, if_true, if_false, Bool.or_true, Bool.false_eq_true]
  rw [if_neg]
  · rw [← ht]
    rfl
  · rw [Dev.slot_modSlot_self, show ∀ x : Dev, (x.count 2903).slot k = x.slot k from fun _ => rfl, Dev.slot_modSlot_self, hslot]
    simp [hwait]

/-- The tolerance of one measurement, as the statement has it and as the model checks it. -/
theorem passes_iff {s : State} {k i : Nat} {m : Meas} {c : Conn} (hc : s.net.ofOut m.out = some c) (hi : c.inp = i) :
    s.d.passes s.net (s.d.slot k).ver (s.d.slot k).inputs [] m = true ↔ Obl.levelOk s k i m := by
  rw [passes_level hc, hi, decide_eq_true_eq, Obl.levelOk]

/-- The control side at the close of a slot's window. -/
def Dev.shutWindow (d : Dev) (k : Nat) (fails : List (Nat × Nat)) : Dev := d.modSlot k (fun x => x.shut fails)

theorem Dev.shutWindow_slot (d : Dev) (k : Nat) (fails : List (Nat × Nat)) : (d.shutWindow k fails).slot k = (d.slot k).shut fails := Dev.slot_modSlot_self _ _ _

theorem Dev.shutWindow_done {d : Dev} {k : Nat} (fails : List (Nat × Nat)) (h : d.slotDone k = false) : (d.shutWindow k fails).slotDone k = false :=
  (Dev.slotDone_modSlot rfl rfl).trans h

theorem Dev.shutWindow_same (d : Dev) (k : Nat) (fails : List (Nat × Nat)) : Dev.sameBut [.cmt] d (d.shutWindow k fails) := d.modSlot_same k _

theorem Slot.shut_fails {x : Slot} (h : x.fails = []) (p : Nat × Nat) : (x.shut [p]).fails = [p] := by
  simp [Slot.shut, h, addFail]

/-- A window without a failure leaves the slot to its locks. -/
theorem shut_open {s : State} {k : Nat} (hs : (s.d.slot k).state = .verifying) (hf : (s.d.slot k).fails = []) (hr : (s.d.slot k).rolledBack = false)
    (hd : s.d.slotDone k = false) (hl : (s.d.slot k).lanes = []) (hlk : (s.d.slot k).locks ≠ []) :
    (((s.d.shutWindow k []).advance s.net k).notify).slot k = { s.d.slot k with window := true, unver := (s.d.slot k).skip } ∧
    Dev.sameBut [.cmt] s.d ((s.d.shutWindow k []).advance s.net k) := by
  have hslot := s.d.shutWindow_slot k []
  have hadv := advance_open (s := s) (s.d.shutWindow_done [] hd) (by rw [hslot]; exact hs) (by rw [hslot]; exact hf) (by rw [hslot]; exact hlk)
  rw [hadv]
  refine ⟨?_, (s.d.shutWindow_same k []).trans (Dev.modSlot_same _ k _)⟩
  rw [Dev.notify_slot, Dev.slot_modSlot_self, hslot]
  simp [Slot.shut, hl, hr]

/-- Settles O27, by the failures of the window and what follows them. -/
theorem verificationDecides : Obligations.VerificationDecides := by
  intro s k o a b c hk hs hw hf hr ht hd hm hc hl hwait hskip
  obtain ⟨hck, ha, hap, hb, hbp⟩ := id hm
  have hchecks := windowChecks_one (n := s.net) (d := s.d) (v := (s.d.slot k).ver) (ins := (s.d.slot k).inputs) (ls := []) ha hap hb hbp
  have hpa := passes_iff (k := k) (m := a) (ha ▸ hc) rfl
  have hpb := passes_iff (k := k) (m := b) (hb ▸ hc) rfl
  have hx := exec_windowClose hk hs hw ht hl hm
  rw [hchecks] at hx
  have hjudged : Obl.judged s k o ↔ o ∉ (s.d.slot k).ver.unjudged (s.d.slot k).inputs [o] := by
    simp [Obl.judged, VerLimits.unjudged]
  refine ⟨fun hj hla hlb hlk => ?_, fun hj hlk => ?_, fun hj hla hlb hrb => ?_, fun hj hla hlb hrb hac hlk => ?_⟩
  · rw [if_neg (hjudged.mp hj), if_pos (hpb.mpr hlb), if_pos (hpa.mpr hla)] at hx
    obtain ⟨h1, h2⟩ := shut_open hs hf hr hd hl hlk
    have hun : (s.d.slot k).skip = [] := by
      rw [hskip]
      simpa [VerLimits.unjudged, Obl.judged] using hj
    exact ⟨_, hx, hun ▸ h1, finish_same h2⟩
  · have hu : o ∈ (s.d.slot k).ver.unjudged (s.d.slot k).inputs [o] := by
      by_contra h
      exact hj (hjudged.mpr h)
    rw [if_pos hu] at hx
    obtain ⟨h1, h2⟩ := shut_open hs hf hr hd hl hlk
    have hun : (s.d.slot k).skip = [o] := by
      rw [hskip]
      simpa [VerLimits.unjudged] using hu
    exact ⟨_, hx, hun ▸ h1, finish_same h2⟩
  · rw [if_neg (hjudged.mp hj), if_pos (hpb.mpr hlb), if_neg (fun h => hla (hpa.mp h))] at hx
    have hslot := s.d.shutWindow_slot k [(o, 1)]
    have hadv := advance_rollback (s := s) (s.d.shutWindow_done [(o, 1)] hd) (by rw [hslot]; exact hs) (by rw [hslot]; exact Slot.shut_fails hf _)
      (by rw [hslot]; exact hrb)
    rw [Dev.shutWindow] at hadv
    rw [hadv] at hx
    refine ⟨_, hx, ?_, ?_, ?_, finish_same ((s.d.shutWindow_same k _).trans (Dev.modSlot_same _ k _))⟩
    all_goals rw [Dev.notify_slot, Dev.slot_modSlot_self]
    rfl
  · rw [if_neg (hjudged.mp hj), if_neg (fun h => hlb (hpb.mp h)), if_neg (fun h => hla (hpa.mp h))] at hx
    have hslot := s.d.shutWindow_slot k [(o, 3)]
    have hadv := advance_kept (n := s.net) (s.d.shutWindow_done [(o, 3)] hd) (by rw [hslot]; exact hs) (by rw [hslot]; exact Slot.shut_fails hf _)
      (by rw [hslot]; exact hrb) (by rw [hslot]; exact hlk) (by rw [hslot]; rfl) (by rw [hslot]; exact hac) (by rw [hslot]; exact hwait)
    have hsig := (s.d.shutWindow k [(o, 3)]).pathsFailed_signals s.net o
    have hlat := (s.d.shutWindow k [(o, 3)]).pathsFailed_latched hc
    have hshut := s.d.shutWindow_same k [(o, 3)]
    rw [← Dev.shutWindow, hadv] at hx
    generalize (s.d.shutWindow k [(o, 3)]).pathsFailed s.net o = e at hx hsig hlat
    have hsame : Dev.sameBut [.cmt, .src, .flt, .fns, .views] s.d e := (hshut.up _).trans (hsig.same.up _)
    have hplanes : e.cmt.planes = s.d.cmt.planes := by
      have h : e.cmt = (s.d.shutWindow k [(o, 3)]).cmt := hsig.same .cmt (by decide)
      rw [h]
      rfl
    refine ⟨_, hx, ?_, ?_, ?_, ?_, ?_, ?_, finish_same (hsame.trans (((Dev.modSlot_same _ k _).up _).trans
      (((Dev.count_same _ _).up _).trans ((Dev.modSlot_same _ k _).up _))))⟩
    iterate 4 · rw [Dev.notify_slot, Dev.slot_modSlot_self]; rfl
    · rw [Dev.notify_src]
      exact hlat
    · rw [Dev.notify_cmt]
      exact hplanes

end Sys2Proof.Machine

/-! ## Handover, lock and regions of a cell (O31) -/
namespace Sys2Proof.Machine
set_option Elab.async false

theorem Dev.sameBut.ite {ps : List Part} {c : Prop} {dec : Decidable c} {d x y : Dev} (hx : Dev.sameBut ps d x) (hy : Dev.sameBut ps d y) :
    Dev.sameBut ps d (if c then x else y) := by
  split <;> assumption

/-! ### The loops of a cell -/

theorem heatersOf_nodup (ca : Nat) : (heatersOf ca).Nodup := by
  unfold heatersOf
  split <;> simp [hpAa, hcAa]

theorem hpAa_mem_heatersOf (ca : Nat) : hpAa ca ∈ heatersOf ca := by
  unfold heatersOf
  split <;> simp

theorem fAa_not_mem_heatersOf (ca : Nat) : fAa ca ∉ heatersOf ca := by
  unfold heatersOf
  split <;> simp [hpAa, hcAa, fAa]

theorem fAa_ne_hpAa (ca : Nat) : fAa ca ≠ hpAa ca := by simp [fAa, hpAa]

theorem Dev.ffStep_same (d : Dev) (ca : Nat) : Dev.sameBut [.fab] d (d.ffStep ca) := .ite (.refl _ _) (d.modLoop_same _ _)

theorem Dev.cell_ffStep (d : Dev) (ca : Nat) : (d.ffStep ca).cell = d.cell := by
  unfold Dev.ffStep
  dsimp only
  split <;> rfl

theorem Dev.loop_ffStep_ne (d : Dev) {ca aa : Nat} (h : aa ≠ hpAa ca) : (d.ffStep ca).loop aa = d.loop aa := by
  unfold Dev.ffStep
  dsimp only
  split
  · rfl
  · rw [Dev.loop_modLoop, if_neg h]

theorem Dev.modHeaters_cell (d : Dev) (ca : Nat) (f : Loop → Loop) : (d.modHeaters ca f).cell = d.cell := by
  unfold Dev.modHeaters heatersOf
  split <;> rfl

theorem Dev.loop_modHeaters (d : Dev) (ca : Nat) (f : Loop → Loop) (aa : Nat) :
    (d.modHeaters ca f).loop aa = if aa ∈ heatersOf ca then f (d.loop aa) else d.loop aa := by
  unfold Dev.modHeaters heatersOf
  split
  · simp only [List.foldl_cons, List.foldl_nil, Dev.loop_modLoop, hpAa, hcAa]
    by_cases h1 : aa = 4 * ca + 1 <;> by_cases h0 : aa = 4 * ca <;> simp [h0, h1]
  · simp only [List.foldl_cons, List.foldl_nil, Dev.loop_modLoop, hpAa]
    by_cases h0 : aa = 4 * ca <;> simp [h0]

theorem Loop.toAuto_mode {l : Loop} (hp : l.prevMode = none) (hm : l.mode = 5) : l.toAuto.mode = 2 := by simp [Loop.toAuto, hp, hm]

theorem Loop.toAcquire_mode {l : Loop} (hp : l.prevMode = none) (hm : l.mode = 2) : l.toAcquire.mode = 5 := by simp [Loop.toAcquire, hp, hm]

/-! ### The end of handover -/

/-- The cell once handover has ended. -/
def Cell.handedOver (c : Cell) (n : Net) (ca now : Nat) : Cell :=
  { c.foldTrim with
    handover := false
    fWait := none
    region := if isSwitchCa ca then Dev.restRegion n ca c else c.region
    demodAt := if isSwitchCa ca && n.swOf ca != .split then some (now + 1000000) else none
    demod := [] }

/-- The control side once handover has ended, before a loop falls to ACQUIRE. -/
def Dev.handedOver (d : Dev) (n : Net) (ca : Nat) : Dev := ((d.modCell ca (fun c => c.handedOver n ca d.tb2)).clearTrim ca).ffStep ca

theorem Dev.handedOver_same (d : Dev) (n : Net) (ca : Nat) : Dev.sameBut [.fab] d (d.handedOver n ca) :=
  (d.modCell_same ca _).trans ((Dev.modLoop_same _ _ _).trans (Dev.ffStep_same _ ca))

theorem Dev.cell_handedOver (d : Dev) (n : Net) (ca x : Nat) :
    (d.handedOver n ca).cell x = if x = ca then (d.cell ca).handedOver n ca d.tb2 else d.cell x := by
  rw [Dev.handedOver, Dev.cell_ffStep]
  exact Dev.cell_modCell d ca (fun c => c.handedOver n ca d.tb2) x

theorem Dev.loop_handedOver_trim (d : Dev) (n : Net) (ca : Nat) : ((d.handedOver n ca).loop (fAa ca)).u = 0 ∧ ((d.handedOver n ca).loop (fAa ca)).integ = 0 := by
  rw [Dev.handedOver, Dev.loop_ffStep_ne _ (fAa_ne_hpAa ca), Dev.clearTrim, Dev.loop_modLoop, if_pos rfl]
  exact ⟨rfl, rfl⟩

theorem Dev.loop_handedOver_other (d : Dev) (n : Net) {ca aa : Nat} (h : aa ∉ fAa ca :: heatersOf ca) : (d.handedOver n ca).loop aa = d.loop aa := by
  rw [List.mem_cons, not_or] at h
  obtain ⟨hf, hh⟩ := h
  have hp : aa ≠ hpAa ca := fun he => hh (by rw [he]; exact hpAa_mem_heatersOf ca)
  rw [Dev.handedOver, Dev.loop_ffStep_ne _ hp, Dev.clearTrim, Dev.loop_modLoop, if_neg hf]
  rfl

theorem exec_handoverEnd_next {s : State} {ca : Nat} (hh : (s.d.cell ca).handover = true) (hs : (s.d.cell ca).settling = false)
    (hf : (s.d.cell ca).f.natAbs ≤ 184549) : exec (.handoverEnd ca) s = .next { s with d :=
      (if isSwitchCa ca && lit s.net s.d ca && ((s.d.handedOver s.net ca).cell ca).region == 0 then (s.d.handedOver s.net ca).modHeaters ca Loop.toAcquire
       else s.d.handedOver s.net ca).notify } := by
  rw [exec_handoverEnd, execHandoverEnd, if_neg (by simp [hh, hs]; omega), finish_next]
  rfl

/-! ### The demodulator's window -/

/-- The demodulators of a tone-plan change have restarted, once their time has come. -/
def Dev.demodRestarted (d : Dev) : Dev := if d.drv.demodAt ≤ d.tb2 then { d with drv := { d.drv with demodAt := 0 } } else d

theorem Dev.demodRestarted_same (d : Dev) : Dev.sameBut [.fab, .drv] d d.demodRestarted := .ite ((d.withDrv_same _).up _) (.refl _ _)

theorem Dev.demodRestarted_fab (d : Dev) : d.demodRestarted.fab = d.fab := by
  unfold Dev.demodRestarted
  split <;> rfl

theorem Dev.demodRestarted_cell (d : Dev) : d.demodRestarted.cell = d.cell := by
  funext x
  rw [Dev.cell, Dev.demodRestarted_fab, Dev.cell]

/-- The cell whose window is full by now. -/
def Cell.windowFull (c : Cell) (now : Nat) : Cell :=
  match c.demodAt with
  | some t => if t ≤ now then { c with demodAt := none } else c
  | none => c

theorem exec_demodulatorWindowFull_next (s : State) (ca : Nat) :
    exec (.demodulatorWindowFull ca) s = .next { s with d := (s.d.demodRestarted.modCell ca (fun c => c.windowFull s.d.tb2)).notify } := rfl

/-! ### Lock -/

theorem Dev.relockCheck_of {d : Dev} {n : Net} (h : d.flt.relock = none) : d.relockCheck n = d := by simp [Dev.relockCheck, h]

theorem Dev.blankSync_of {d : Dev} {n : Net} (hc : d.blankCause = false) (hb : d.flt.blank = false) : d.blankSync n = d := by
  simp [Dev.blankSync, hc, Dev.blankOn, hb]

/-- The cell at its lock declaration; a switch cell outside SPLIT has tones. -/
def Cell.declared (c : Cell) (tones : Bool) : Cell := { c with locked := true, nLoss := 0, region := if tones && !c.settling then 2 else c.region }

/-- A cell that has declared lock, with its loops. -/
def Dev.declaresLock (d : Dev) (tones : Bool) (ca : Nat) : Dev :=
  (((d.modCell ca (fun c => c.declared tones)).count (8 * d.serving (tileOf ca) + 4)).modHeaters ca Loop.toAuto).condOff 28 ca

theorem Dev.declaresLock_same (d : Dev) (tones : Bool) (ca : Nat) : Dev.sameBut [.fab, .src] d (d.declaresLock tones ca) :=
  ((d.modCell_same ca _).up _).trans (((Dev.count_same _ _).up _).trans (((Dev.modHeaters_same _ _ _).up _).trans ((Dev.condOff_same _ _ _).up _)))

theorem Dev.cell_declaresLock (d : Dev) (tones : Bool) (ca x : Nat) :
    (d.declaresLock tones ca).cell x = if x = ca then (d.cell ca).declared tones else d.cell x := by
  change ((((d.modCell ca (fun c => c.declared tones)).count _).modHeaters ca Loop.toAuto)).cell x = _
  rw [Dev.modHeaters_cell]
  exact Dev.cell_modCell d ca (fun c => c.declared tones) x

theorem Dev.loop_declaresLock (d : Dev) (tones : Bool) {ca aa : Nat} (h : aa ∈ heatersOf ca) :
    (d.declaresLock tones ca).loop aa = (d.loop aa).toAuto := by
  change ((((d.modCell ca (fun c => c.declared tones)).count _).modHeaters ca Loop.toAuto)).loop aa = _
  rw [Dev.loop_modHeaters, if_pos h]
  rfl

theorem Dev.declaresLock_clears (d : Dev) (tones : Bool) (ca : Nat) : ca ∉ ((d.declaresLock tones ca).src 28).conds := by
  rw [Dev.declaresLock, Dev.conds_condOff]
  simp

theorem exec_lockDeclared_next {s : State} {ca : Nat} (hl : (s.d.cell ca).locked = false) (hlit : lit s.net s.d ca = true)
    (hs : (s.d.cell ca).settling = false) (hh : (s.d.cell ca).handover = false) (hn : (s.d.cell ca).nLock = 10) (hsw : isSwitchCa ca = true)
    (hsp : s.net.swOf ca ≠ .split) (hr : (s.d.cell ca).region = 1) (hrl : s.d.flt.relock = none) (hb : s.d.flt.blank = false)
    (hbc : s.d.blankCause = false) : exec (.lockDeclared ca) s = .next { s with d := (s.d.declaresLock true ca).notify } := by
  have hflt : { (s.d.declaresLock true ca).flt with src := s.d.flt.src, errN := s.d.flt.errN, permit := s.d.flt.permit } = s.d.flt :=
    s.d.declaresLock_same true ca .flt (by decide)
  have hr' := Dev.relockCheck_of (n := s.net) ((congrArg Flt.relock hflt).trans hrl)
  have hcause : (s.d.declaresLock true ca).blankCause = false := by
    have h := congrArg (fun x : Flt => x.blankN || x.swBlank || x.fatal || x.extest) hflt
    exact h.trans hbc
  have hb' := Dev.blankSync_of (n := s.net) hcause ((congrArg Flt.blank hflt).trans hb)
  have htones : (isSwitchCa ca && s.net.swOf ca != .split) = true := by simp [hsw, hsp]
  rw [exec_lockDeclared, execLockDeclared, if_neg (by simp [hl, hlit, hs, hh, hn, hsw, hr]), finish_next, htones]
  simp only [hs, Bool.false_eq_true, if_false]
  change Host.Outcome.next { s with d := (((s.d.declaresLock true ca).relockCheck s.net).blankSync s.net).notify } = _
  rw [hr', hb']

/-- The cell at the loss of its lock. -/
def Cell.lost (c : Cell) (sw : Bool) : Cell := { c with locked := false, nLoss := 0, nLock := 0, region := unlockedRegion sw c.region }

/-- A lit cell that has lost lock, before FS28. -/
def Dev.losesLock (d : Dev) (ca : Nat) : Dev :=
  ((d.modCell ca (fun c => c.lost (isSwitchCa ca))).count (8 * d.serving (tileOf ca) + 5)).setTileLeaf 0x140 (tileOf ca)

theorem Dev.losesLock_same (d : Dev) (ca : Nat) : Dev.sameBut [.fab, .views] d (d.losesLock ca) :=
  ((d.modCell_same ca _).up _).trans (((Dev.count_same _ _).up _).trans ((Dev.setLeaf_same _ _ _ _).up _))

theorem Dev.cell_losesLock (d : Dev) (ca x : Nat) : (d.losesLock ca).cell x = if x = ca then (d.cell ca).lost (isSwitchCa ca) else d.cell x :=
  Dev.cell_modCell d ca (fun c => c.lost (isSwitchCa ca)) x

theorem exec_lockLost_next {s : State} {ca : Nat} (hl : (s.d.cell ca).locked = true) (hlit : lit s.net s.d ca = true)
    (hs : (s.d.cell ca).settling = false) (hh : (s.d.cell ca).handover = false) (hn : (s.d.cell ca).nLoss = 10) :
    exec (.lockLost ca) s = .next { s with d := ((s.d.losesLock ca).condOn 28 ca).notify } := by
  rw [exec_lockLost, execLockLost, if_neg (by simp [hl, hlit, hs, hh, hn]), finish_next]
  rfl

/-- A bit of a tile leaf is set. -/
theorem Dev.bit_setTileLeaf (d : Dev) (off tn : Nat) :
    bitOf (((d.setTileLeaf off tn).view 0).leaf.get 0 (off + 4 * (tn / 32))) (tn % 32) = true := by
  rw [Dev.setTileLeaf, Dev.leaf_setLeaf_self, bitOf_or]
  simp [bitOf, Nat.div_self (Nat.two_pow_pos _)]

/-! ### Regions -/

/-- The change of region between ACQUIRE and NEAR. -/
def Dev.changesRegion (d : Dev) (ca : Nat) : Dev :=
  if (d.cell ca).region = 0 then d.modCell ca (fun c => { c with region := 1, nMove := 0, nLock := 0 })
  else (d.modCell ca (fun c => { c with region := 0, nMove := 0 })).modHeaters ca Loop.toAcquire

theorem Dev.changesRegion_same (d : Dev) (ca : Nat) : Dev.sameBut [.fab] d (d.changesRegion ca) :=
  .ite (d.modCell_same ca _) ((d.modCell_same ca _).trans (Dev.modHeaters_same _ _ _))

theorem exec_regionChange_next {s : State} {ca : Nat} (hsw : isSwitchCa ca = true) (hlit : lit s.net s.d ca = true)
    (hs : (s.d.cell ca).settling = false) (hh : (s.d.cell ca).handover = false) (hsp : s.net.swOf ca ≠ .split) (hn : 3 ≤ (s.d.cell ca).nMove)
    (hr : (s.d.cell ca).region ≤ 1) : exec (.regionChange ca) s = .next { s with d := (s.d.changesRegion ca).notify } := by
  rw [exec_regionChange, execRegionChange]
  rw [if_neg (by simp [hsw, hlit, hs, hh, hsp]; omega), Dev.changesRegion]
  by_cases h : (s.d.cell ca).region = 0
  · rw [if_pos h, if_pos h, finish_next]
  · rw [if_neg h, if_neg h, if_pos (by omega), finish_next]

theorem Dev.cell_changesRegion (d : Dev) {ca : Nat} (hr : (d.cell ca).region ≤ 1) :
    ((d.changesRegion ca).cell ca).region = 1 - (d.cell ca).region ∧ ∀ x, x ≠ ca → (d.changesRegion ca).cell x = d.cell x := by
  unfold Dev.changesRegion
  split
  · next h =>
    refine ⟨?_, fun x hx => by rw [Dev.cell_modCell, if_neg hx]⟩
    rw [Dev.cell_modCell, if_pos rfl, h]
  · refine ⟨?_, fun x hx => by rw [Dev.modHeaters_cell, Dev.cell_modCell, if_neg hx]⟩
    rw [Dev.modHeaters_cell, Dev.cell_modCell, if_pos rfl]
    change 0 = 1 - (d.cell ca).region
    omega

theorem Dev.loop_changesRegion (d : Dev) {ca aa : Nat} (hr : (d.cell ca).region = 1) (ha : aa ∈ heatersOf ca) :
    (d.changesRegion ca).loop aa = (d.loop aa).toAcquire := by
  rw [Dev.changesRegion, if_neg (by omega), Dev.loop_modHeaters, if_pos ha]
  rfl

/-- Settles O31, event by event. -/
theorem handoverAndLock : Obligations.HandoverAndLock := by
  refine ⟨?_, ?_, ?_, ?_, ?_⟩
  · intro s ca hh hs hf
    have hx := exec_handoverEnd_next hh hs hf
    have hcell := s.d.cell_handedOver s.net ca
    obtain ⟨hu, hi⟩ := s.d.loop_handedOver_trim s.net ca
    have hsame := s.d.handedOver_same s.net ca
    have hother := fun aa h => s.d.loop_handedOver_other s.net (ca := ca) (aa := aa) h
    generalize s.d.handedOver s.net ca = e at *
    split at hx
    · refine ⟨_, hx, ?_, ?_, ?_, fun aa ha => ?_, fun x hxn => ?_, finish_same (hsame.trans (e.modHeaters_same ca _))⟩
      · rw [Dev.notify_cell, Dev.modHeaters_cell, hcell, if_pos rfl]
        rfl
      · rw [Dev.notify_loop, Dev.loop_modHeaters, if_neg (fAa_not_mem_heatersOf ca), hu]
      · rw [Dev.notify_loop, Dev.loop_modHeaters, if_neg (fAa_not_mem_heatersOf ca), hi]
      · rw [Dev.notify_loop, Dev.loop_modHeaters, if_neg (fun h => ha (List.mem_cons_of_mem _ h)), hother aa ha]
      · rw [Dev.notify_cell, Dev.modHeaters_cell, hcell, if_neg hxn]
    · refine ⟨_, hx, ?_, ?_, ?_, fun aa ha => ?_, fun x hxn => ?_, finish_same hsame⟩
      · rw [Dev.notify_cell, hcell, if_pos rfl]
        rfl
      · rw [Dev.notify_loop, hu]
      · rw [Dev.notify_loop, hi]
      · rw [Dev.notify_loop, hother aa ha]
      · rw [Dev.notify_cell, hcell, if_neg hxn]
  · intro s ca e he ht
    have hx := exec_demodulatorWindowFull_next s ca
    refine ⟨_, hx, ?_, fun x hxn => ?_, ?_, finish_same ((Dev.demodRestarted_same s.d).trans ((Dev.modCell_same _ ca _).up _))⟩
    · rw [Dev.notify_cell, Dev.cell_modCell, if_pos rfl, Dev.demodRestarted_cell]
      simp [Cell.windowFull, he, ht]
    · rw [Dev.notify_cell, Dev.cell_modCell, if_neg hxn, Dev.demodRestarted_cell]
    · rw [Dev.notify_fab]
      change s.d.demodRestarted.fab.loops = _
      rw [Dev.demodRestarted_fab]
  · intro s ca hl hlit hs hh hn hsw hsp hr hrl hb hbc
    have hx := exec_lockDeclared_next hl hlit hs hh hn hsw hsp hr hrl hb hbc
    refine ⟨_, hx, ?_, fun aa ha hp hm => ?_, ?_, fun x hxn => ?_, finish_same (s.d.declaresLock_same true ca)⟩
    · rw [Dev.notify_cell, Dev.cell_declaresLock, if_pos rfl]
      simp [Cell.declared, hs]
    · rw [Dev.notify_loop, Dev.loop_declaresLock _ _ ha]
      exact Loop.toAuto_mode hp hm
    · rw [Dev.notify_src]
      exact s.d.declaresLock_clears true ca
    · rw [Dev.notify_cell, Dev.cell_declaresLock, if_neg hxn]
  · intro s ca hl hlit hs hh hn
    have hx := exec_lockLost_next hl hlit hs hh hn
    have hsig := (s.d.losesLock ca).condOn_signals 28 ca
    have hfab : ((s.d.losesLock ca).condOn 28 ca).fab = (s.d.losesLock ca).fab := hsig.same .fab (by decide)
    have hcell : ∀ x, ((s.d.losesLock ca).condOn 28 ca).cell x = (s.d.losesLock ca).cell x := by
      intro x
      rw [Dev.cell, hfab, Dev.cell]
    refine ⟨_, hx, ?_, ?_, ?_, ?_, fun x hxn => ?_, finish_same (((s.d.losesLock_same ca).up _).trans (hsig.same.up _))⟩
    · rw [Dev.notify_cell, hcell, Dev.cell_losesLock, if_pos rfl]
      rfl
    · rw [Dev.notify_src]
      exact Dev.mem_conds_condOn (by decide) (by decide) _ ca
    · rw [Dev.notify_fab, hfab]
      rfl
    · rw [Dev.notify_view]
      exact hsig.causes 0 _ _ (Dev.bit_setTileLeaf _ _ _)
    · rw [Dev.notify_cell, hcell, Dev.cell_losesLock, if_neg hxn]
  · intro s ca hsw hlit hs hh hsp hn hr
    obtain ⟨hreg, hother⟩ := s.d.cell_changesRegion hr
    refine ⟨_, exec_regionChange_next hsw hlit hs hh hsp hn hr, by rw [Dev.notify_cell]; exact hreg, fun aa ha hp h1 hm => ?_,
      fun x hxn => by rw [Dev.notify_cell]; exact hother x hxn, finish_same (s.d.changesRegion_same ca)⟩
    rw [Dev.notify_loop, s.d.loop_changesRegion h1 ha]
    exact Loop.toAcquire_mode hp hm

end Sys2Proof.Machine

/-! ## Loop engines: errors, takeovers and requests (O33) -/
namespace Sys2Proof.Machine
set_option Elab.async false

/-- What an error of a loop engine can change. -/
abbrev leParts : List Part := [.fab, .src, .flt, .fns, .views]

theorem Dev.sameBut.sec {ps : List Part} {d e : Dev} (h : Dev.sameBut ps d e) (hp : Part.sec ∉ ps := by decide) : e.sec = d.sec := h .sec hp

theorem Dev.sameBut.fab {ps : List Part} {d e : Dev} (h : Dev.sameBut ps d e) (hp : Part.fab ∉ ps := by decide) : e.fab = d.fab := h .fab hp

/-- Loop engines are read from the fabric alone. -/
theorem Dev.le_of_fab {d e : Dev} (h : e.fab = d.fab) (j : Nat) : e.le j = d.le j := by rw [Dev.le, h, Dev.le]

theorem Dev.leState_of_fab {d e : Dev} (h : e.fab = d.fab) (j : Nat) : e.leState j = d.leState j := by rw [Dev.leState, Dev.le_of_fab h, Dev.leState]

/-- Without an activation the microcode roll does nothing. -/
theorem Dev.rollGo_idle {d : Dev} (h : d.sec.act = none) : d.rollGo 700 = d := by
  change Dev.rollGo (699 + 1) d = d
  unfold Dev.rollGo
  rw [h]

theorem Dev.calAbandon_idle {d : Dev} (h : d.cal.run = none) (tn : Nat) (flag : Bool) : d.calAbandon tn flag = d := by
  unfold Dev.calAbandon
  rw [h]
  rfl

theorem isSpare_tile {k : Nat} (h : k < 336) : isSpare k = false := by simp [isSpare]; omega

theorem Dev.leState_tile (d : Dev) {k : Nat} (h : k < 336) : d.leState k = ((d.le k).state).getD .own := by rw [Dev.leState, isSpare_tile h]; rfl

theorem isSpare_of_mem {k p : Nat} (hp : p < 2) (h : k ∈ sparesOf p) : isSpare k = true ∧ 336 ≤ k := by
  obtain ⟨i, hi, rfl⟩ := List.mem_map.mp h
  rw [List.mem_range] at hi
  simp [isSpare]
  omega

theorem tilePlane_lt {tn : Nat} (h : tn < 336) : tilePlane tn < 2 := by unfold tilePlane; omega

/-- A bit that is set reads back. -/
theorem bitOf_or_two_pow (x b : Nat) : bitOf (x ||| 2 ^ b) b = true := by
  rw [bitOf_or]
  simp [bitOf, Nat.div_self (Nat.two_pow_pos _)]

/-! ### Errors -/

section
variable {s : State} {k b : Nat}

theorem exec_leFailure_corrected (hk : k < 352) (hc : s.d.clocked = true) :
    exec (.leFailure k 0) s = .next { s with d := ((s.d.leErr k 0).once 20 (s.d.leScope k)).notify } := by
  rw [exec_leFailure, execLeFailure, if_neg (by simp [okLe, hk, hc]), if_pos rfl, finish_next]

/-- A tile's own LE that stops. -/
def Dev.ownStops (d : Dev) (k b : Nat) : Dev :=
  ((d.leErr k b).modLe k (fun l => { l with state := some .failed, cause := some .permanent, spareReq := false, returnReq := false, calActive := false })).askMove
    k false true

theorem Dev.ownStops_same (d : Dev) (k b : Nat) : Dev.sameBut [.fab] d (d.ownStops k b) :=
  (d.modLe_same k _).trans ((Dev.modLe_same _ k _).trans (Dev.modLe_same _ k _))

theorem Dev.le_ownStops (d : Dev) (k b j : Nat) : (d.ownStops k b).le j = if j = k then
    { d.le k with err := (d.le k).err ||| 2 ^ b, state := some .failed, cause := some .permanent, spareReq := false, returnReq := false, calActive := false,
                  pend := some d.tb2, back := false, presetDue := (d.le k).presetDue || true } else d.le j := by
  unfold Dev.ownStops Dev.askMove Dev.leErr
  simp only [Dev.le_modLe]
  split <;> rfl

theorem exec_leFailure_own (hk : k < 336) (hc : s.d.clocked = true) (hs : s.d.leState k = .own) (ha : s.d.sec.act = none) (hr : s.d.cal.run = none)
    (hb : b = 1 ∨ b = 2 ∨ b = 6) : exec (.leFailure k b) s = .next { s with d :=
      ((s.d.ownStops k b).once (if b = 1 then 21 else if b = 2 then 22 else 26) (s.d.leScope k)).notify } := by
  have hown : (s.d.leErr k b).ownFails k = s.d.ownStops k b := by
    have hst : (s.d.leErr k b).leState k = .own := by
      rw [Dev.leState_tile _ hk, Dev.leErr, Dev.le_modLe, if_pos rfl]
      rwa [Dev.leState_tile _ hk] at hs
    unfold Dev.ownFails
    rw [hst]
    exact Dev.calAbandon_idle (d := s.d.ownStops k b) hr k false
  have hf : s.d.leFails k b = (s.d.ownStops k b).once (if b = 1 then 21 else if b = 2 then 22 else 26) (s.d.leScope k) := by
    unfold Dev.leFails
    rw [isSpare_tile hk]
    simp only [Bool.false_eq_true, if_false, hown]
  have hact := (congrArg Sec.act ((s.d.ownStops k b).once_same (if b = 1 then 21 else if b = 2 then 22 else 26) (s.d.leScope k)).sec).trans ha
  rw [exec_leFailure, execLeFailure, if_neg (by simp [okLe, hc]; omega), if_neg (by omega), if_pos ⟨hb, by rw [hs]; decide⟩, finish_next, hf, Dev.rollGo_idle hact]

/-! ### Self-tests -/

variable (hk : k < 336) (hs : s.d.leState k = .failed) (h21 : (s.d.src 21).insts = []) (h22 : (s.d.src 22).insts = [])
  (h26 : (s.d.src 26).insts = []) (hp : (s.d.le k).pend = none) (hm : (s.d.le k).moveAt = none)
include hk hs h21 h22 h26 hp hm

theorem exec_leRejoin_pass : exec (.leRejoin k true) s =
    .next { s with d := ((s.d.modLe k (fun l => { l with oldUcode := false })).askMove k true false).notify } := by
  rw [exec_leRejoin, execLeRejoin]
  simp only [isSpare_tile hk, Bool.false_eq_true, if_false, hs]
  rw [if_neg (by simp [okLe, h21, h22, h26, hp, hm]; omega), if_neg (by simp), finish_next]
  rfl

theorem exec_leRejoin_fail : exec (.leRejoin k false) s = .next { s with d := ((s.d.leErr k 6).once 26 k).notify } := by
  rw [exec_leRejoin, execLeRejoin]
  simp only [isSpare_tile hk, Bool.false_eq_true, if_false, hs]
  rw [if_neg (by simp [okLe, h21, h22, h26, hp, hm]; omega), if_pos (by simp), finish_next]

end

end Sys2Proof.Machine

/-! ## Takeovers (O33) -/
namespace Sys2Proof.Machine
set_option Elab.async false

theorem Dev.loop_modLoop_eq (d : Dev) (k : Nat) (f : Loop → Loop) (j : Nat) : (d.modLoop k f).loop j = if j = k then f (d.loop k) else d.loop j :=
  Dev.loop_modLoop _ _ _ _

/-! ### The presets of a tile -/

/-- A loop preset to a command. -/
def Loop.presetTo (l : Loop) (p : Int) : Loop := { l with preset := 1, u := p, v := p }

/-- The trim of a cell is set to the one in force. -/
def Cell.trimSet (c : Cell) : Cell := { c with fTrim := Obl.trimInForce c, fDue := none }

/-- The presets of one cell's loops, its fast trim among them. -/
def Dev.presetCell (d : Dev) (ca : Nat) : Dev :=
  ((d.modHeaters ca (fun l => l.presetTo (codePower (l.drvAt d.tb2)))).modCell ca (fun c => { c with fTrim := Obl.trimInForce (d.cell ca), fDue := none })).modLoop
    (fAa ca) (fun l => l.presetTo (Obl.trimInForce (d.cell ca)))

theorem Dev.presetTile_eq (d : Dev) (tn : Nat) :
    d.presetTile tn = ((tileCells tn).foldl Dev.presetCell d).modLe tn (fun l => { l with trimsFrom := ((tileCells tn).foldl Dev.presetCell d).tb2 + 5000 }) := rfl

theorem Dev.presetCell_same (d : Dev) (ca : Nat) : Dev.sameBut [.fab] d (d.presetCell ca) :=
  (d.modHeaters_same _ _).trans ((Dev.modCell_same _ _ _).trans (Dev.modLoop_same _ _ _))

/-- What a preset makes of a loop of its cell. -/
def Dev.presetLoop (d : Dev) (aa : Nat) : Loop :=
  if aa ∈ heatersOf (aaCell aa) then (d.loop aa).presetTo (codePower ((d.loop aa).drvAt d.tb2))
  else if aa = fAa (aaCell aa) then (d.loop aa).presetTo (Obl.trimInForce (d.cell (aaCell aa)))
  else d.loop aa

theorem aaCell_of_heater {aa ca : Nat} (h : aa ∈ heatersOf ca) : aaCell aa = ca := by
  unfold heatersOf at h
  unfold aaCell
  split at h
  · rcases List.mem_cons.mp h with h | h
    · simp [h, hpAa]
    · simp only [List.mem_singleton, hcAa] at h
      omega
  · simp only [List.mem_singleton, hpAa] at h
    omega

theorem aaCell_fAa (ca : Nat) : aaCell (fAa ca) = ca := by simp only [aaCell, fAa]; omega

theorem Dev.cell_presetCell (d : Dev) (ca x : Nat) : (d.presetCell ca).cell x = if x = ca then (d.cell ca).trimSet else d.cell x := by
  unfold Dev.presetCell
  rw [Dev.cell_modLoop, Dev.cell_modCell, Dev.modHeaters_cell]
  rfl

theorem Dev.loop_presetCell (d : Dev) (ca aa : Nat) : (d.presetCell ca).loop aa = if aaCell aa = ca then d.presetLoop aa else d.loop aa := by
  unfold Dev.presetCell
  rw [Dev.loop_modLoop]
  by_cases hf : aa = fAa ca
  · subst hf
    rw [if_pos rfl, Dev.loop_modCell, Dev.loop_modHeaters, if_neg (fAa_not_mem_heatersOf ca), if_pos (aaCell_fAa ca), Dev.presetLoop, aaCell_fAa,
      if_neg (fAa_not_mem_heatersOf ca), if_pos rfl]
  · rw [if_neg hf, Dev.loop_modCell, Dev.loop_modHeaters]
    by_cases hh : aa ∈ heatersOf ca
    · rw [if_pos hh, if_pos (aaCell_of_heater hh), Dev.presetLoop, aaCell_of_heater hh, if_pos hh]
    · rw [if_neg hh]
      split
      · next h => rw [Dev.presetLoop, h, if_neg hh, if_neg hf]
      · rfl

theorem Dev.foldl_presetCell_same (cs : List Nat) (d : Dev) : Dev.sameBut [.fab] d (cs.foldl Dev.presetCell d) := .foldl (fun d ca => d.presetCell_same ca) cs d

theorem Dev.cell_foldl_presetCell {cs : List Nat} (hn : cs.Nodup) (d : Dev) (ca : Nat) :
    (cs.foldl Dev.presetCell d).cell ca = if ca ∈ cs then (d.cell ca).trimSet else d.cell ca := by
  induction cs generalizing d with
  | nil => rfl
  | cons c cs ih =>
    obtain ⟨hc, hn⟩ := List.nodup_cons.mp hn
    rw [List.foldl_cons, ih hn, Dev.cell_presetCell]
    by_cases h : ca = c
    · subst h
      simp [hc]
    · simp [h]

theorem Dev.loop_foldl_presetCell {cs : List Nat} (hn : cs.Nodup) (d : Dev) (aa : Nat) :
    (cs.foldl Dev.presetCell d).loop aa = if aaCell aa ∈ cs then d.presetLoop aa else d.loop aa := by
  induction cs generalizing d with
  | nil => rfl
  | cons c cs ih =>
    obtain ⟨hc, hn⟩ := List.nodup_cons.mp hn
    rw [List.foldl_cons, ih hn]
    by_cases h : aaCell aa = c
    · rw [if_neg (h ▸ hc), Dev.loop_presetCell, if_pos h, if_pos (by simp [h])]
    · have hp : (d.presetCell c).presetLoop aa = d.presetLoop aa := by
        unfold Dev.presetLoop
        rw [Dev.loop_presetCell, if_neg h, Dev.cell_presetCell, if_neg h, (d.presetCell_same c).tb2]
      rw [hp, Dev.loop_presetCell, if_neg h]
      simp [h]

theorem tileCells_nodup (tn : Nat) : (tileCells tn).Nodup := List.nodup_range.map fun _ _ h => Nat.add_left_cancel h

/-- What a takeover presets, aa by aa. -/
theorem Dev.presetLoop_eq (d : Dev) (tn aa : Nat) : (if aaCell aa ∈ tileCells tn then d.presetLoop aa else d.loop aa) =
    if ∃ ca ∈ tileCells tn, aa ∈ heatersOf ca then (d.loop aa).presetTo (codePower ((d.loop aa).drvAt d.tb2))
    else if ∃ ca ∈ tileCells tn, aa = fAa ca then (d.loop aa).presetTo (Obl.trimInForce (d.cell (aaCell aa))) else d.loop aa := by
  have hh : (∃ ca ∈ tileCells tn, aa ∈ heatersOf ca) ↔ aaCell aa ∈ tileCells tn ∧ aa ∈ heatersOf (aaCell aa) := by
    refine ⟨fun ⟨ca, hc, ha⟩ => ?_, fun ⟨hc, ha⟩ => ⟨_, hc, ha⟩⟩
    rw [aaCell_of_heater ha]
    exact ⟨hc, ha⟩
  have hf : (∃ ca ∈ tileCells tn, aa = fAa ca) ↔ aaCell aa ∈ tileCells tn ∧ aa = fAa (aaCell aa) := by
    refine ⟨fun ⟨ca, hc, ha⟩ => ?_, fun ⟨hc, ha⟩ => ⟨_, hc, ha⟩⟩
    rw [ha, aaCell_fAa]
    exact ⟨hc, rfl⟩
  simp only [hh, hf]
  unfold Dev.presetLoop
  by_cases hc : aaCell aa ∈ tileCells tn <;> simp [hc]

/-! ### The start of a move -/

/-- The presets that a tile still needs are made. -/
def Dev.unpreset (d : Dev) (tn : Nat) : Dev :=
  if (d.le tn).presetDue then (d.modLe tn (fun x => { x with presetDue := false })).presetTile tn else d

theorem Dev.presetTile_same (d : Dev) (tn : Nat) : Dev.sameBut [.fab] d (d.presetTile tn) := by
  rw [Dev.presetTile_eq]
  exact (Dev.foldl_presetCell_same _ d).trans (Dev.modLe_same _ _ _)

theorem Dev.unpreset_same (d : Dev) (tn : Nat) : Dev.sameBut [.fab] d (d.unpreset tn) :=
  .ite ((d.modLe_same _ _).trans (Dev.presetTile_same _ tn)) (.refl _ _)

theorem Dev.le_presetCell (d : Dev) (ca : Nat) : (d.presetCell ca).fab.les = d.fab.les := by
  unfold Dev.presetCell Dev.modHeaters heatersOf
  split <;> rfl

theorem Dev.le_foldl_presetCell (cs : List Nat) (d : Dev) : (cs.foldl Dev.presetCell d).fab.les = d.fab.les := by
  induction cs generalizing d with
  | nil => rfl
  | cons c cs ih => rw [List.foldl_cons, ih, Dev.le_presetCell]

theorem Dev.le_presetTile (d : Dev) (tn j : Nat) : (d.presetTile tn).le j = if j = tn then { d.le tn with trimsFrom := d.tb2 + 5000 } else d.le j := by
  have hle : ∀ x, ((tileCells tn).foldl Dev.presetCell d).le x = d.le x := by
    intro x
    rw [Dev.le, Dev.le_foldl_presetCell, Dev.le]
  rw [Dev.presetTile_eq, Dev.le_modLe, (Dev.foldl_presetCell_same (tileCells tn) d).tb2, hle, hle]

theorem Dev.le_unpreset (d : Dev) (tn j : Nat) : (d.unpreset tn).le j = if (d.le tn).presetDue = true ∧ j = tn then
    { d.le tn with presetDue := false, trimsFrom := d.tb2 + 5000 } else d.le j := by
  unfold Dev.unpreset
  split
  · next h =>
    rw [Dev.le_presetTile, Dev.le_modLe, if_pos rfl, Dev.le_modLe]
    by_cases hj : j = tn
    · simp only [hj, h, and_self, if_true]
      rfl
    · simp only [hj, and_false, if_false]
  · next h => rw [if_neg fun hc => h hc.1]

theorem Dev.loop_unpreset (d : Dev) (tn aa : Nat) : (d.unpreset tn).loop aa =
    if (d.le tn).presetDue = true ∧ (∃ ca ∈ tileCells tn, aa ∈ heatersOf ca) then (d.loop aa).presetTo (codePower ((d.loop aa).drvAt d.tb2))
    else if (d.le tn).presetDue = true ∧ (∃ ca ∈ tileCells tn, aa = fAa ca) then (d.loop aa).presetTo (Obl.trimInForce (d.cell (aaCell aa))) else d.loop aa := by
  unfold Dev.unpreset
  by_cases h : (d.le tn).presetDue = true
  · rw [if_pos h, Dev.presetTile_eq, Dev.loop_modLe, Dev.loop_foldl_presetCell (tileCells_nodup tn)]
    simp only [h, true_and]
    exact d.presetLoop_eq tn aa
  · simp only [h, false_and, if_false, Bool.false_eq_true]

theorem Dev.cell_unpreset (d : Dev) (tn ca : Nat) : (d.unpreset tn).cell ca =
    if (d.le tn).presetDue = true ∧ ca ∈ tileCells tn then (d.cell ca).trimSet else d.cell ca := by
  unfold Dev.unpreset
  by_cases h : (d.le tn).presetDue = true
  · rw [if_pos h, Dev.presetTile_eq, Dev.cell_modLe, Dev.cell_foldl_presetCell (tileCells_nodup tn)]
    simp only [h, true_and]
    rfl
  · simp only [h, false_and, if_false, Bool.false_eq_true]

/-- Spare k takes tile tn. -/
def Dev.takes (d : Dev) (k tn : Nat) : Dev :=
  ((d.unpreset tn).modLe k (fun x => { x with state := some .moving, partner := tn })).modLe tn (fun x =>
    { x with partner := k, pend := none, moveAt := some ((d.unpreset tn).modLe k (fun x => { x with state := some .moving, partner := tn })).tb2,
             state := if x.state = some .failed then x.state else some .moving })

theorem Dev.takes_same (d : Dev) (k tn : Nat) : Dev.sameBut [.fab] d (d.takes k tn) :=
  (d.unpreset_same tn).trans ((Dev.modLe_same _ _ _).trans (Dev.modLe_same _ _ _))

section
variable {s : State} {tn at2 : Nat} (hn : tn < 336) (hp : (s.d.le tn).pend = some at2) (ht : at2 < s.d.tb2) (h10 : s.d.tb2 % 10000 = 0)
  (hc : s.d.clocked = true) (ha : s.d.sec.act = none)
include hn hp ht h10 hc ha

theorem exec_takeover_starts (hact : (s.d.startMove tn).sec = s.d.sec) : exec (.takeover tn) s = .next { s with d := (s.d.startMove tn).notify } := by
  rw [exec_takeover, execTakeover, hp]
  dsimp only
  rw [if_pos (by simp [okTile, hn, hc, h10, ht]), finish_next, Dev.rollGo_idle ((congrArg Sec.act hact).trans ha)]

end

section
variable {s : State} {tn : Nat} (hb : (s.d.le tn).back = false)
include hb

theorem startMove_takes {k : Nat} (hk : s.d.idleSpare (tilePlane tn) = some k) : s.d.startMove tn = s.d.takes k tn := by
  unfold Dev.startMove
  simp only [hb, Bool.false_eq_true, if_false]
  rw [hk]
  rfl

theorem startMove_unavailable (hk : s.d.idleSpare (tilePlane tn) = none) (hcause : (s.d.le tn).cause = some .permanent)
    (hv : s.d.victim (tilePlane tn) = none) (hm : ∀ k ∈ sparesOf (tilePlane tn), s.d.leState k ≠ .moving) :
    s.d.startMove tn = ((s.d.modLe tn (fun x => { x with state := some .unavailable, pend := none })).leErr tn 5).condOn 25 tn := by
  have hany : (sparesOf (tilePlane tn)).any (fun k => s.d.leState k == .moving) = false := by
    rw [List.any_eq_false]
    intro k hk
    simpa using hm k hk
  unfold Dev.startMove
  simp only [hb, Bool.false_eq_true, if_false]
  rw [hk]
  simp only [hcause, if_true]
  rw [hv]
  simp only [hany, Bool.false_eq_true, if_false]

end

theorem Dev.spare_idle {d : Dev} {tn k : Nat} (hn : tn < 336) (hk : d.idleSpare (tilePlane tn) = some k) : k ≠ tn := by
  obtain ⟨-, h⟩ := isSpare_of_mem (tilePlane_lt hn) (List.mem_of_find?_eq_some hk)
  omega

theorem Dev.spare_of {d : Dev} {tn k : Nat} (hn : tn < 336) (hk : d.spareOf tn = some k) : k ≠ tn ∧ isSpare k = true := by
  obtain ⟨hs, h⟩ := isSpare_of_mem (tilePlane_lt hn) (List.mem_of_find?_eq_some hk)
  exact ⟨by omega, hs⟩

end Sys2Proof.Machine

/-! ## Takeovers that are complete, requests, and O33 -/
namespace Sys2Proof.Machine
set_option Elab.async false

/-! ### The end of a move -/

/-- Spare k serves tile tn, lent to it. -/
def Dev.lentTo (d : Dev) (tn k : Nat) (cal : Bool) : Dev :=
  ((d.condOff 25 tn).modLe k (fun x => { x with state := some .spareServing })).modLe tn (fun x =>
    { x with moveAt := none, spareReq := false, calActive := cal, state := if x.state = some .failed then x.state else some .lent })

/-- Tile tn is with its own LE again, and spare k idle. -/
def Dev.ownAgain (d : Dev) (tn k : Nat) : Dev :=
  ((d.condOff 25 tn).modLe tn (fun x => { x with
    state := none, partner := 0, cause := none, moveAt := none, back := false, spareReq := false, returnReq := false, calActive := false })).modLe k
    (fun x => { x with state := none, partner := 0, calActive := false })

theorem Dev.lentTo_same (d : Dev) (tn k : Nat) (cal : Bool) : Dev.sameBut [.fab, .src] d (d.lentTo tn k cal) :=
  ((d.condOff_same _ _).up _).trans (((Dev.modLe_same _ _ _).up _).trans ((Dev.modLe_same _ _ _).up _))

theorem Dev.ownAgain_same (d : Dev) (tn k : Nat) : Dev.sameBut [.fab, .src] d (d.ownAgain tn k) :=
  ((d.condOff_same _ _).up _).trans (((Dev.modLe_same _ _ _).up _).trans ((Dev.modLe_same _ _ _).up _))

theorem Dev.le_lentTo (d : Dev) {tn k : Nat} (h : k ≠ tn) (cal : Bool) (j : Nat) : (d.lentTo tn k cal).le j =
    if j = tn then { d.le tn with
      moveAt := none, spareReq := false, calActive := cal, state := if (d.le tn).state = some .failed then (d.le tn).state else some .lent }
    else if j = k then { d.le k with state := some .spareServing } else d.le j := by
  have hf : (d.condOff 25 tn).le = d.le := rfl
  unfold Dev.lentTo
  rw [Dev.le_modLe, Dev.le_modLe, Dev.le_modLe, if_neg h.symm, hf]

theorem Dev.le_ownAgain (d : Dev) {tn k : Nat} (h : k ≠ tn) (j : Nat) : (d.ownAgain tn k).le j =
    if j = k then { d.le k with state := none, partner := 0, calActive := false }
    else if j = tn then { d.le tn with
      state := none, partner := 0, cause := none, moveAt := none, back := false, spareReq := false, returnReq := false, calActive := false }
    else d.le j := by
  have hf : (d.condOff 25 tn).le = d.le := rfl
  unfold Dev.ownAgain
  rw [Dev.le_modLe, Dev.le_modLe, Dev.le_modLe, if_neg h, hf]

theorem Dev.spareOf_of_les {d e : Dev} (h : e.fab = d.fab) (tn : Nat) : e.spareOf tn = d.spareOf tn := by
  unfold Dev.spareOf
  simp only [Dev.leState_of_fab h, Dev.le_of_fab h]

section
variable {s : State} {tn t0 k : Nat} (hm : (s.d.le tn).moveAt = some t0) (ht : t0 + 5000 ≤ s.d.tb2) (hc : s.d.clocked = true)
  (hk : s.d.spareOf tn = some k) (ha : s.d.sec.act = none)
include hm ht hc hk ha

theorem exec_takeoverComplete_lent (hb : (s.d.le tn).back = false) (hcal : (s.d.le tn).cause ≠ some .cal) (hmc : (s.d.le tn).cause ≠ some .microcode) :
    exec (.takeoverComplete tn) s = .next { s with d := (s.d.lentTo tn k false).notify } := by
  have hcal' : ((s.d.le tn).cause == some .cal) = false := by simpa using hcal
  have hmc' : ((s.d.le tn).cause == some .microcode) = false := by simpa using hmc
  have hend : s.d.endMove tn = s.d.lentTo tn k false := by
    unfold Dev.endMove
    simp only [hb, Bool.false_eq_true, if_false, Dev.spareOf_of_les (show (s.d.condOff 25 tn).fab = s.d.fab from rfl), hk, hcal', Bool.not_false, if_true]
    rfl
  rw [exec_takeoverComplete, execTakeoverComplete]
  simp only [hm]
  rw [if_neg (by simp [hc]; omega)]
  simp only [hb, hmc', Bool.not_false, Bool.true_and, Bool.false_and, Bool.false_eq_true, if_false, hend]
  rw [finish_next, Dev.rollGo_idle ((congrArg Sec.act (s.d.lentTo_same tn k false).sec).trans ha)]

theorem exec_takeoverComplete_back (hn : tn < 336) (hr : s.d.cal.run = none) (hb : (s.d.le tn).back = true) (hu : ∀ j, j < 336 → s.d.leState j ≠ .unavailable) :
    exec (.takeoverComplete tn) s = .next { s with d := ((s.d.ownAgain tn k).modLe k (fun x => { x with oldUcode := false })).notify } := by
  have hkt := (Dev.spare_of hn hk).1
  have hfreed : (s.d.ownAgain tn k).spareFreed (tilePlane tn) = s.d.ownAgain tn k := by
    have hnone : (List.range 168).find? (fun j => (s.d.ownAgain tn k).leState (168 * tilePlane tn + j) == .unavailable &&
        ((s.d.ownAgain tn k).le (168 * tilePlane tn + j)).pend.isNone) = none := by
      rw [List.find?_eq_none]
      intro j hj
      have hlt := tilePlane_lt hn
      rw [List.mem_range] at hj
      have hk2 := (isSpare_of_mem hlt (List.mem_of_find?_eq_some hk)).2
      have hst : (s.d.ownAgain tn k).leState (168 * tilePlane tn + j) ≠ .unavailable := by
        rw [Dev.leState_tile _ (by omega), Dev.le_ownAgain _ hkt, if_neg (by omega)]
        split
        · simp
        · rw [← Dev.leState_tile _ (by omega)]
          exact hu _ (by omega)
      simp [hst]
    unfold Dev.spareFreed
    rw [hnone]
  have hret : (s.d.ownAgain tn k).calReturned tn = s.d.ownAgain tn k := by
    have hrun : (s.d.ownAgain tn k).cal.run = none := hr
    simp [Dev.calReturned, Dev.calStep, hrun]
  have hend : s.d.endMove tn = s.d.ownAgain tn k := by
    unfold Dev.endMove
    simp only [hb, if_true, Dev.spareOf_of_les (show (s.d.condOff 25 tn).fab = s.d.fab from rfl), hk]
    change ((s.d.ownAgain tn k).spareFreed (tilePlane tn)).calReturned tn = _
    rw [hfreed, hret]
  rw [exec_takeoverComplete, execTakeoverComplete]
  simp only [hm]
  rw [if_neg (by simp [hc]; omega)]
  simp only [hb, hk, Bool.not_true, Bool.false_and, Bool.false_eq_true, if_false, hend]
  rw [finish_next, Dev.rollGo_idle]
  exact (congrArg Sec.act (s.d.ownAgain_same tn k).sec).trans ha

end

/-! ### LE_CTL -/

/-- TILE_BUDGET is written. -/
def Dev.budgetSet (d : Dev) (k v : Nat) : Dev := d.modLe k (fun l => { l with budget := fieldOf v 8 8 })

theorem Dev.le_budgetSet (d : Dev) (k v j : Nat) : (d.budgetSet k v).le j = if j = k then { d.le k with budget := fieldOf v 8 8 } else d.le j :=
  Dev.le_modLe _ _ _ _

/-- A budget is no part of an engine's state. -/
theorem Dev.leState_budgetSet (d : Dev) (k v j : Nat) : (d.budgetSet k v).leState j = d.leState j := by
  unfold Dev.leState
  rw [Dev.le_budgetSet]
  split
  · next h => rw [h]
  · rfl

theorem Dev.idleSpare_budgetSet (d : Dev) (k v p : Nat) : (d.budgetSet k v).idleSpare p = d.idleSpare p := by
  unfold Dev.idleSpare
  simp only [Dev.leState_budgetSet]

section
variable {d : Dev} {k v : Nat} (hk : k < 336)
include hk

theorem leCtlWrite_asks (h0 : bitOf v 0 = true) (h1 : bitOf v 1 = false) (hs : d.leState k = .own) (hr : (d.le k).spareReq = false)
    (hp : (d.le k).pend = none) (hi : (d.idleSpare (tilePlane k)).isSome = true) :
    d.leCtlWrite k v = ((d.budgetSet k v).modLe k (fun l => { l with spareReq := true, cause := some .request })).askMove k false false := by
  have hl := (d.le_budgetSet k v k).trans (if_pos rfl)
  have hi' : (d.idleSpare (tilePlane k)).isNone = false := by rw [Option.isNone_eq_false_iff]; exact hi
  rw [Dev.leCtlWrite, if_neg (by omega), ← Dev.budgetSet]
  simp only [h0, h1, Dev.leState_budgetSet, Dev.idleSpare_budgetSet, hs, hl, hr, hp, hi', Bool.not_true, Bool.false_eq_true, if_false,
    bne_self_eq_false, Option.isSome_none, Bool.or_self, Bool.false_and]

theorem leCtlWrite_drops (h0 : bitOf v 0 = true) (h1 : bitOf v 1 = false)
    (h : d.leState k ≠ .own ∨ (d.le k).spareReq = false ∧ (d.idleSpare (tilePlane k) = none ∨ (d.le k).pend.isSome = true)) :
    d.leCtlWrite k v = (d.budgetSet k v).dropReq k := by
  have hl := (d.le_budgetSet k v k).trans (if_pos rfl)
  rw [Dev.leCtlWrite, if_neg (by omega), ← Dev.budgetSet]
  by_cases hs : d.leState k = .own
  · obtain ⟨hr, hi⟩ := h.resolve_left (fun h => h hs)
    have hi' : ((d.le k).pend.isSome || (d.idleSpare (tilePlane k)).isNone) = true := by
      rcases hi with hi | hi <;> simp [hi]
    simp only [h0, h1, Dev.leState_budgetSet, Dev.idleSpare_budgetSet, hs, hl, hr, hi', Bool.not_true, Bool.false_eq_true, if_false, if_true,
      bne_self_eq_false, Bool.false_and]
  · have hs' : (d.leState k != .own) = true := by simpa using hs
    simp only [h0, h1, Dev.leState_budgetSet, hs', Bool.not_true, Bool.false_eq_true, if_false, if_true, Bool.false_and]

theorem leCtlWrite_returns (h0 : bitOf v 0 = false) (h1 : bitOf v 1 = true) (hs : d.leState k = .lent) (hc : (d.le k).cause = some .request)
    (hp : (d.le k).pend = none) :
    d.leCtlWrite k v = ((d.budgetSet k v).modLe k (fun l => { l with returnReq := true })).askMove k true false := by
  have hl := (d.le_budgetSet k v k).trans (if_pos rfl)
  rw [Dev.leCtlWrite, if_neg (by omega), ← Dev.budgetSet]
  simp only [h0, h1, Dev.leState_budgetSet, hs, hl, hc, hp, Bool.not_false, if_true, beq_self_eq_true, Option.isNone_none, Bool.and_self]

end

/-! ### The obligation -/

theorem Dev.inbound_fab (d : Dev) (w : Bool) (bar addr len : Nat) : (d.inbound w bar addr len).fab = d.fab := (d.inbound_same w bar addr len) .fab (by decide)

theorem Dev.inbound_tb2 (d : Dev) (w : Bool) (bar addr len : Nat) : (d.inbound w bar addr len).tb2 = d.tb2 := (d.inbound_same w bar addr len).tb2

theorem Dev.idleSpare_of_fab {d e : Dev} (h : e.fab = d.fab) (p : Nat) : e.idleSpare p = d.idleSpare p := by
  unfold Dev.idleSpare
  simp only [Dev.leState_of_fab h]

/-- A write by PF0 to a block that only its BAR0 shows. -/
theorem pf0Wr_next {s : State} {addr : Nat} {g : Dev → Dev} (h : s.d.reach 0 = true) :
    pf0Wr s 0 addr g = .next { s with d := (g (s.d.inbound true 0 addr 4)).notify } := by
  rw [pf0Wr, hostWr_next h]
  rfl

/-- Settles O33, by the errors, the moves and LE_CTL. -/
theorem loopEnginesAndSpares : Obligations.LoopEnginesAndSpares := by
  refine ⟨?_, ?_, ?_, ?_, ?_, ?_, ?_⟩
  · intro s k hk hc
    have hfab : ((s.d.leErr k 0).once 20 (s.d.leScope k)).fab = (s.d.leErr k 0).fab := (Dev.once_same _ _ _).fab
    have hsrc := Dev.src_once (n := 20) (by decide) (by decide) (s.d.leErr k 0) (s.d.leScope k)
    obtain ⟨hlat, hcnt, -⟩ := Src.marked_fields (s.d.src 20) 20 (s.d.leScope k) s.d.tb2 false true
    refine ⟨_, exec_leFailure_corrected hk hc, ?_, fun j hj => ?_, ?_, ?_, ?_, finish_same (((s.d.modLe_same k _).up _).trans ((Dev.once_same _ _ _).up leParts))⟩
    · rw [Dev.notify_le, Dev.le_of_fab hfab, Dev.leErr, Dev.le_modLe, if_pos rfl]
      rfl
    · rw [Dev.notify_le, Dev.le_of_fab hfab, Dev.leErr, Dev.le_modLe, if_neg hj]
    · rw [Dev.notify_src, hsrc]
      exact hlat
    · rw [Dev.notify_src, hsrc]
      exact hcnt
    · rw [Dev.notify_fab, hfab]
      rfl
  · intro s k b hk hc hs ha hr hb
    have h68 : ∀ n, n = (if b = 1 then 21 else if b = 2 then 22 else 26) → srcReserved n = false ∧ n ≠ 68 := by
      rintro n rfl
      rcases hb with rfl | rfl | rfl <;> decide
    have hx := exec_leFailure_own hk hc hs ha hr hb
    generalize (if b = 1 then 21 else if b = 2 then 22 else 26) = n at h68 hx ⊢
    obtain ⟨hres, h68⟩ := h68 n rfl
    have hfab : ((s.d.ownStops k b).once n (s.d.leScope k)).fab = (s.d.ownStops k b).fab := (Dev.once_same _ _ _).fab
    have hle : ∀ j, ((s.d.ownStops k b).once n (s.d.leScope k)).notify.le j = (s.d.ownStops k b).le j := by
      intro j
      rw [Dev.notify_le, Dev.le_of_fab hfab]
    have hk' := (s.d.le_ownStops k b k).trans (if_pos rfl)
    obtain ⟨hlat, -⟩ := Src.marked_fields ((s.d.ownStops k b).src n) n (s.d.leScope k) (s.d.ownStops k b).tb2 false true
    refine ⟨_, hx, ?_, ?_, ?_, ?_, ?_, fun j hj => ?_, ?_, ?_, ?_, finish_same (((s.d.ownStops_same k b).up _).trans ((Dev.once_same _ _ _).up leParts))⟩
    · rw [Dev.leState_tile _ hk, hle, hk']
      rfl
    · rw [hle, hk']
    · rw [hle, hk']
    · rw [hle, hk']
    · rw [hle, hk']
      exact bitOf_or_two_pow _ _
    · rw [hle, Dev.le_ownStops, if_neg hj]
    · rw [Dev.notify_src, Dev.src_once hres h68]
      exact hlat
    · rw [Dev.notify_fab, hfab]
      rfl
    · rw [Dev.notify_fab, hfab]
      rfl
  · intro s k hk hs h21 h22 h26 hp hm
    refine ⟨⟨_, exec_leRejoin_pass hk hs h21 h22 h26 hp hm, ?_⟩, ⟨_, exec_leRejoin_fail hk hs h21 h22 h26 hp hm, ?_⟩⟩
    · have hle : ∀ j, ((s.d.modLe k (fun l => { l with oldUcode := false })).askMove k true false).notify.le j =
          if j = k then { s.d.le k with oldUcode := false, pend := some s.d.tb2, back := true, presetDue := (s.d.le k).presetDue || false } else s.d.le j := by
        intro j
        rw [Dev.notify_le, Dev.askMove, Dev.le_modLe, Dev.le_modLe, if_pos rfl, Dev.le_modLe]
        split <;> rfl
      have hk' := (hle k).trans (if_pos rfl)
      refine ⟨by rw [hk'], by rw [hk'], ?_, fun j hj => by rw [hle, if_neg hj], finish_same ((s.d.modLe_same k _).trans (Dev.modLe_same _ k _))⟩
      rw [Dev.leState_tile _ hk, hk', ← hs, Dev.leState_tile _ hk]
    · have hfab : ((s.d.leErr k 6).once 26 k).fab = (s.d.leErr k 6).fab := (Dev.once_same _ _ _).fab
      have hle : ∀ j, ((s.d.leErr k 6).once 26 k).notify.le j = if j = k then { s.d.le k with err := (s.d.le k).err ||| 2 ^ 6 } else s.d.le j := by
        intro j
        rw [Dev.notify_le, Dev.le_of_fab hfab, Dev.leErr, Dev.le_modLe]
      have hk' := (hle k).trans (if_pos rfl)
      obtain ⟨hlat, -⟩ := Src.marked_fields ((s.d.leErr k 6).src 26) 26 k (s.d.leErr k 6).tb2 false true
      refine ⟨by rw [hk', hp], by rw [hk']; exact bitOf_or_two_pow _ _, ?_, fun j hj => by rw [hle, if_neg hj],
        finish_same (((s.d.modLe_same k _).up _).trans ((Dev.once_same _ _ _).up leParts))⟩
      rw [Dev.notify_src, Dev.src_once (by decide) (by decide)]
      exact hlat
  · intro s tn at2 k hn hp ht h10 hc hb hk ha
    have hkt := Dev.spare_idle hn hk
    have hst := startMove_takes hb hk
    have hx := exec_takeover_starts hn hp ht h10 hc ha (by rw [hst]; exact (s.d.takes_same k tn).sec)
    have hnow : ((s.d.unpreset tn).modLe k (fun x => { x with state := some .moving, partner := tn })).tb2 = s.d.tb2 := (s.d.unpreset_same tn).tb2
    have hlt := Dev.le_unpreset s.d tn tn
    have hstate : ((s.d.unpreset tn).le tn).state = (s.d.le tn).state := by rw [hlt]; split <;> rfl
    have hle : ∀ j, (s.d.takes k tn).notify.le j = if j = tn then { (s.d.unpreset tn).le tn with
        partner := k, pend := none, moveAt := some s.d.tb2, state := if (s.d.le tn).state = some .failed then (s.d.le tn).state else some .moving }
        else if j = k then { s.d.le k with state := some .moving, partner := tn } else s.d.le j := by
      intro j
      rw [Dev.notify_le, Dev.takes, Dev.le_modLe, Dev.le_modLe, if_neg hkt.symm, Dev.le_modLe, hnow, hstate]
      by_cases hj : j = tn
      · rw [if_pos hj, if_pos hj]
      · rw [if_neg hj, if_neg hj]
        by_cases hjk : j = k
        · rw [if_pos hjk, if_pos hjk, Dev.le_unpreset, if_neg fun h => hkt h.2]
        · rw [if_neg hjk, if_neg hjk, Dev.le_unpreset, if_neg fun h => hj h.2]
    have htn := (hle tn).trans (if_pos rfl)
    rw [hst] at hx
    refine ⟨_, hx, ?_, by rw [htn], by rw [htn], by rw [htn], ?_, fun aa => ?_, fun ca => ?_, fun hpd => ?_, fun j hj hjk => ?_, finish_same (s.d.takes_same k tn)⟩
    · rw [hle, if_neg hkt, if_pos rfl]
    · rw [Dev.leState_tile _ hn, htn]
      dsimp only
      split
      · next h => rw [h]; rfl
      · rfl
    · rw [Dev.notify_loop, Dev.takes, Dev.loop_modLe, Dev.loop_modLe]
      exact s.d.loop_unpreset tn aa
    · rw [Dev.notify_cell, Dev.takes, Dev.cell_modLe, Dev.cell_modLe]
      exact s.d.cell_unpreset tn ca
    · rw [htn, hlt, if_pos ⟨hpd, rfl⟩]
    · rw [hle, if_neg hj, if_neg hjk]
  · intro s tn at2 hn hp ht h10 hc hb hk hcause hv hm ha
    have hst := startMove_unavailable hb hk hcause hv hm
    have hsame : Dev.sameBut leParts s.d (s.d.startMove tn) := by
      rw [hst]
      exact ((s.d.modLe_same _ _).up _).trans (((Dev.modLe_same _ _ _).up _).trans ((Dev.condOn_same _ _ _).up _))
    have hfab : (s.d.startMove tn).fab = ((s.d.modLe tn (fun x => { x with state := some .unavailable, pend := none })).leErr tn 5).fab := by
      rw [hst]
      exact (Dev.condOn_same _ _ _).fab
    have hle : ∀ j, (s.d.startMove tn).notify.le j =
        if j = tn then { s.d.le tn with state := some .unavailable, pend := none, err := (s.d.le tn).err ||| 2 ^ 5 } else s.d.le j := by
      intro j
      rw [Dev.notify_le, Dev.le_of_fab hfab, Dev.leErr, Dev.le_modLe, Dev.le_modLe, if_pos rfl, Dev.le_modLe]
      split <;> rfl
    have htn := (hle tn).trans (if_pos rfl)
    refine ⟨_, exec_takeover_starts hn hp ht h10 hc ha hsame.sec, ?_, ?_, ?_, ?_, fun j hj => by rw [hle, if_neg hj], finish_same hsame⟩
    · rw [Dev.leState_tile _ hn, htn]
      rfl
    · rw [htn]
      exact bitOf_or_two_pow _ _
    · rw [Dev.notify_src, hst]
      exact Dev.mem_conds_condOn (by decide) (by decide) _ tn
    · rw [Dev.notify_fab, hfab]
      rfl
  · intro s tn t0 k hn hm ht hc hk ha hr
    obtain ⟨hkt, hspare⟩ := Dev.spare_of hn hk
    refine ⟨fun hb hcal hmc => ?_, fun hb hu => ?_⟩
    · have hle := fun j => (congrFun (Dev.notify_le (s.d.lentTo tn k false)) j).trans (s.d.le_lentTo hkt false j)
      have htn := (hle tn).trans (if_pos rfl)
      refine ⟨_, exec_takeoverComplete_lent hm ht hc hk ha hb hcal hmc, ?_, ?_, by rw [htn], ?_, ?_, fun j hj hjk => by rw [hle, if_neg hj, if_neg hjk],
        finish_same (s.d.lentTo_same tn k false)⟩
      · rw [Dev.leState, hle, if_neg hkt, if_pos rfl]
        rfl
      · rw [Dev.leState_tile _ hn, htn]
        dsimp only
        split
        · next h => rw [h]; rfl
        · rfl
      · rw [Dev.notify_src, show (s.d.lentTo tn k false).src = (s.d.condOff 25 tn).src from rfl, Dev.conds_condOff]
        simp
      · rw [Dev.notify_fab]
        rfl
    · have hle : ∀ j, ((s.d.ownAgain tn k).modLe k (fun x => { x with oldUcode := false })).notify.le j = if j = k then
          { s.d.le k with state := none, partner := 0, calActive := false, oldUcode := false } else (s.d.ownAgain tn k).le j := by
        intro j
        rw [Dev.notify_le, Dev.le_modLe, Dev.le_ownAgain _ hkt k, if_pos rfl]
      have htn := (hle tn).trans ((if_neg hkt.symm).trans ((s.d.le_ownAgain hkt tn).trans ((if_neg hkt.symm).trans (if_pos rfl))))
      refine ⟨_, exec_takeoverComplete_back hm ht hc hk ha hn hr hb hu, ?_, ?_, by rw [htn], by rw [htn], ?_, fun j hj hjk => ?_,
        finish_same ((s.d.ownAgain_same tn k).trans ((Dev.modLe_same _ k _).up _))⟩
      · rw [Dev.leState, hle, if_pos rfl, hspare]
        rfl
      · rw [Dev.leState_tile _ hn, htn]
        rfl
      · rw [Dev.notify_fab]
        rfl
      · rw [hle, if_neg hjk, Dev.le_ownAgain _ hkt, if_neg hjk, if_neg hj]
  · intro s k v hreach hk
    have hfab := s.d.inbound_fab true 0 (0x40000 + 0x100 * k) 4
    have hin := s.d.inbound_same true 0 (0x40000 + 0x100 * k) 4
    have hls := fun j => Dev.leState_of_fab hfab j
    have hles := fun j => Dev.le_of_fab hfab j
    have his := Dev.idleSpare_of_fab hfab (tilePlane k)
    have htb := s.d.inbound_tb2 true 0 (0x40000 + 0x100 * k) 4
    have hw := fun g => pf0Wr_next (s := s) (addr := 0x40000 + 0x100 * k) (g := g) hreach
    generalize s.d.inbound true 0 (0x40000 + 0x100 * k) 4 = e at hfab hin hls hles his htb hw
    have hx := hw (fun d => d.leCtlWrite k v.toNat)
    refine ⟨fun h0 h1 hs hr hp hi => ?_, fun h0 h1 h => ?_, fun h0 h1 hs hc hp => ?_⟩
    · rw [leCtlWrite_asks hk h0 h1 (by rw [hls, hs]) (by rw [hles, hr]) (by rw [hles, hp]) (by rw [his, hi])] at hx
      refine ⟨_, hx, ?_, fun j hj => ?_, finish_same ((hin.up _).trans ((e.modLe_same k _).trans
        ((Dev.modLe_same _ k _).trans (Dev.modLe_same _ k _))))⟩
      · rw [Dev.notify_le, Dev.askMove, Dev.le_modLe, if_pos rfl, Dev.le_modLe, if_pos rfl, Dev.le_budgetSet, if_pos rfl, hles, ← htb]
        simp only [Bool.or_false]
        rfl
      · rw [Dev.notify_le, Dev.askMove, Dev.le_modLe, if_neg hj, Dev.le_modLe, if_neg hj, Dev.le_budgetSet, if_neg hj, hles]
    · rw [leCtlWrite_drops hk h0 h1 (by rw [hls, hles, his]; exact h)] at hx
      have hf : ((e.budgetSet k v.toNat).dropReq k).fab = (((e.budgetSet k v.toNat).modLe k (fun l => { l with spareReq := false })).leErr k 7).fab :=
        (Dev.once_same _ _ _).fab
      obtain ⟨hlat, -⟩ := Src.marked_fields (e.src 42) 42 k e.tb2 false true
      refine ⟨_, hx, ?_, ?_, fun j hj => ?_, finish_same ((hin.up _).trans (((e.modLe_same k _).up _).trans
        (((Dev.modLe_same _ k _).up _).trans (((Dev.modLe_same _ k _).up _).trans ((Dev.once_same _ _ _).up leParts)))))⟩
      · rw [Dev.notify_le, Dev.le_of_fab hf, Dev.leErr, Dev.le_modLe, if_pos rfl, Dev.le_modLe, if_pos rfl, Dev.le_budgetSet, if_pos rfl, hles]
        rfl
      · rw [Dev.notify_src, Dev.dropReq, Dev.src_once (by decide) (by decide)]
        exact hlat
      · rw [Dev.notify_le, Dev.le_of_fab hf, Dev.leErr, Dev.le_modLe, if_neg hj, Dev.le_modLe, if_neg hj, Dev.le_budgetSet, if_neg hj, hles]
    · rw [leCtlWrite_returns hk h0 h1 (by rw [hls, hs]) (by rw [hles, hc]) (by rw [hles, hp])] at hx
      refine ⟨_, hx, ?_, fun j hj => ?_, finish_same ((hin.up _).trans ((e.modLe_same k _).trans
        ((Dev.modLe_same _ k _).trans (Dev.modLe_same _ k _))))⟩
      · rw [Dev.notify_le, Dev.askMove, Dev.le_modLe, if_pos rfl, Dev.le_modLe, if_pos rfl, Dev.le_budgetSet, if_pos rfl, hles, ← htb]
        simp only [Bool.or_false]
        rfl
      · rw [Dev.notify_le, Dev.askMove, Dev.le_modLe, if_neg hj, Dev.le_modLe, if_neg hj, Dev.le_budgetSet, if_neg hj, hles]

end Sys2Proof.Machine

/-! ## The loop parameter table (O34) -/
namespace Sys2Proof.Machine
set_option Elab.async false

theorem hostWrBar_next {s : State} {f bar addr len : Nat} {g : Dev → Dev} (h : s.d.reach f = true) :
    hostWrBar s f bar addr len g = .next { s with d := (g (s.d.inbound true bar addr len)).notify } := by
  rw [hostWrBar, if_pos h, finish_next]

/-- A word that waits for its load. -/
def Dev.loadAsked (d : Dev) (aa x : Nat) : Dev :=
  { d with fab := { d.fab with loads := d.fab.loads ++ [(d.tb2, .lpt aa 2 x)], lptW := d.fab.lptW.set none (16 * aa + 2) (some x) } }

/-- The slew word that a write of word 2 leaves. -/
def slewWord (aa v : Nat) : Nat := v % 65536 + (if aaKind aa = 0 && isVoaCa (aaCell aa) then v / 65536 % 65536 * 65536 else 0)

theorem loopTableWrite_slew {d : Dev} {aa : Nat} {v : Word} (hph : d.pwr.phase ≠ .parked) (ha : aa < 131072) (hh : aaHole aa = false) (hk : aaKind aa ≤ 1) :
    d.loopTableWrite 0 (0x100000 + 64 * aa + 8) [v] = d.loadAsked aa (slewWord aa v.toNat) := by
  have hopen : d.tablesOpen = true := by simp [Dev.tablesOpen, hph]
  have hf : lptField aa 2 v.toNat = some (slewWord aa v.toNat) := by
    have hk2 : (aaKind aa == 2) = false := by simp; omega
    simp [lptField, hh, hk2, slewWord]
  have hw : d.loopWordWrite (0x100000 + 64 * aa + 8) v.toNat = d.loadAsked aa (slewWord aa v.toNat) := by
    unfold Dev.loopWordWrite
    rw [if_pos (by omega)]
    have h1 : (0x100000 + 64 * aa + 8 - 0x100000) / 64 = aa := by omega
    have h2 : (0x100000 + 64 * aa + 8) % 64 / 4 = 2 := by omega
    simp only [h1, h2, hf]
    rfl
  have hr : ∀ e : Dev, e.rewritten (0x100000 + 64 * aa + 8) 1 = e := by
    intro e
    have h0 : (0x100000 + 64 * aa + 8 + 4 * 1) / 64 - (0x100000 + 64 * aa + 8 + 63) / 64 = 0 := by omega
    simp [Dev.rewritten, h0]
  unfold Dev.loopTableWrite
  rw [if_neg (by simp [hopen]; omega)]
  simp only [List.length_singleton, List.range_one, List.foldl_cons, List.foldl_nil, Nat.mul_zero, Nat.add_zero, List.getD_cons_zero]
  rw [hw, hr]

/-- The only word that waits, a slew word, is taken into use. -/
def Dev.slewTaken (d : Dev) (aa x : Nat) : Dev :=
  ({ d with fab := { d.fab with loads := [], lptW := d.fab.lptW.set none (16 * aa + 2) none } } : Dev).modLoop aa (fun l =>
    { l with slewPh := x % 65536, slewDb := if isVoaCa (aaCell aa) then x / 65536 else l.slewDb })

/-- The write-back of one loop's entry. -/
def Dev.wroteBack (s : State) (d : Dev) (aa : Nat) : Dev := (d.modLoop aa (fun l => { l with wb := s.d.lptNow s.net aa })).bus 8 true 0 (0x100000 + 64 * aa) 64

theorem Dev.wroteBack_same (s : State) (d : Dev) (aa : Nat) : Dev.sameBut [.fab] d (d.wroteBack s aa) :=
  (d.modLoop_same _ _).trans ((Dev.bus_same _ _ _ _ _ _ _).up _)

theorem foldl_wroteBack (s : State) (aas : List Nat) (d : Dev) :
    (∀ aa, (aas.foldl (Dev.wroteBack s) d).loop aa = if aa ∈ aas then { d.loop aa with wb := s.d.lptNow s.net aa } else d.loop aa) ∧
    (aas.foldl (Dev.wroteBack s) d).fab.cells = d.fab.cells ∧ (aas.foldl (Dev.wroteBack s) d).fab.les = d.fab.les := by
  induction aas generalizing d with
  | nil => exact ⟨fun _ => rfl, rfl, rfl⟩
  | cons b bs ih =>
    have hf : (d.wroteBack s b).fab = (d.modLoop b (fun l => { l with wb := s.d.lptNow s.net b })).fab :=
      (Dev.bus_same _ _ _ _ _ _ _).fab
    have hl : ∀ aa, (d.wroteBack s b).loop aa = if aa = b then { d.loop b with wb := s.d.lptNow s.net b } else d.loop aa := by
      intro aa
      rw [Dev.loop, hf]
      exact Dev.loop_modLoop _ _ _ _
    obtain ⟨h1, h2, h3⟩ := ih (d.wroteBack s b)
    refine ⟨fun aa => ?_, h2.trans (by rw [hf]; rfl), h3.trans (by rw [hf]; rfl)⟩
    rw [List.foldl_cons, h1, hl]
    by_cases hb : aa = b
    · subst hb
      by_cases hm : aa ∈ bs <;> simp [hm]
    · simp [hb]

/-- Settles O34, write by write. -/
theorem parametersAreLoaded : Obligations.ParametersAreLoaded := by
  refine ⟨?_, ?_, ?_, ?_⟩
  · intro s aa v hr hph ha hh hk
    have hin := s.d.inbound_same true (if 0x100000 + 64 * aa + 8 < 0x100000 then 0 else 2) (0x100000 + 64 * aa + 8) (4 * [v].length)
    have hx := hostWrBar_next (bar := if 0x100000 + 64 * aa + 8 < 0x100000 then 0 else 2) (addr := 0x100000 + 64 * aa + 8) (len := 4 * [v].length)
      (g := fun d => d.loopTableWrite 0 (0x100000 + 64 * aa + 8) [v]) hr
    generalize s.d.inbound true (if 0x100000 + 64 * aa + 8 < 0x100000 then 0 else 2) (0x100000 + 64 * aa + 8) (4 * [v].length) = e at hin hx
    have hpwr : e.pwr = s.d.pwr := hin .pwr (by decide)
    have hfab := hin.fab
    have hv := v.isLt
    rw [loopTableWrite_slew (by rwa [hpwr]) ha hh hk] at hx
    refine ⟨_, slewWord aa v.toNat, hx, ?_, ?_, ?_, ?_, ?_, finish_same ((hin.up _).trans (e.withFab_same _))⟩
    · rw [Dev.notify_fab, Dev.loadAsked, hfab, hin.tb2]
    · unfold slewWord
      split <;> omega
    · unfold slewWord
      by_cases hc : aaKind aa = 0 ∧ isVoaCa (aaCell aa) = true
      · rw [if_pos hc, if_pos (by simp [hc])]
        omega
      · rw [if_neg hc, if_neg (by simpa using hc)]
        omega
    · rw [Dev.notify_fab, Dev.loadAsked, hfab]
    · rw [Dev.notify_fab, Dev.loadAsked, hfab]
  · intro s f addr ws hr hf
    have hx := hostWrBar_next (bar := if addr < 0x100000 then 0 else 2) (addr := addr) (len := 4 * ws.length)
      (g := fun d => d.loopTableWrite f addr ws) hr
    have hin := s.d.inbound_same true (if addr < 0x100000 then 0 else 2) addr (4 * ws.length)
    generalize s.d.inbound true (if addr < 0x100000 then 0 else 2) addr (4 * ws.length) = e at hx hin
    rw [show e.loopTableWrite f addr ws = e by rw [Dev.loopTableWrite, if_pos (.inl hf)]] at hx
    exact ⟨_, hx, finish_same hin⟩
  · intro s aa x at2 hc ht hl hat
    have hdue : s.d.fab.loads.filter (fun p => decide (p.1 + 1000 ≤ s.d.tb2)) = [(at2, .lpt aa 2 x)] := by simp [hl, hat]
    have hrest : s.d.fab.loads.filter (fun p => !decide (p.1 + 1000 ≤ s.d.tb2)) = [] := by simp [hl, hat]
    have hx : exec .parameterLoad s = .next { s with d := (s.d.slewTaken aa x).notify } := by
      rw [exec_parameterLoad, execParameterLoad]
      simp only [hdue, hrest]
      rw [if_neg (by simp [ht, hc]), finish_next]
      rfl
    refine ⟨_, hx, ?_, ?_, fun b hb => ?_, ?_, finish_same ((s.d.withFab_same _).trans (Dev.modLoop_same _ _ _))⟩
    · rw [Dev.notify_fab]
      rfl
    · rw [Dev.notify_loop, Dev.slewTaken, Dev.loop_modLoop, if_pos rfl]
      rfl
    · rw [Dev.notify_loop, Dev.slewTaken, Dev.loop_modLoop, if_neg hb]
      rfl
    · rw [Dev.notify_fab]
      rfl
  · intro s tn hn ht hc hs hph
    have hon : s.d.loopsOn = true := by simp [Dev.loopsOn, hph]
    obtain ⟨h1, h2, h3⟩ := foldl_wroteBack s ((tileCells tn).flatMap (fun ca => heatersOf ca ++ [fAa ca])) s.d
    have hx : exec (.lptWriteBack tn) s =
        .next { s with d := (((tileCells tn).flatMap (fun ca => heatersOf ca ++ [fAa ca])).foldl (Dev.wroteBack s) s.d).notify } := by
      rw [exec_lptWriteBack, execLptWriteBack]
      rw [if_neg (by simp [okTile, hn, ht, hc, hs, hon]), finish_next]
      rfl
    refine ⟨_, hx, fun aa => ?_, ?_, ?_, finish_same (.foldl (fun d aa => Dev.wroteBack_same s d aa) _ s.d)⟩
    · rw [Dev.notify_loop, h1]
      simp only [List.mem_flatMap]
    · rw [Dev.notify_fab, h2]
    · rw [Dev.notify_fab, h3]

end Sys2Proof.Machine

/-! ## Results of conversions (O35) -/
namespace Sys2Proof.Machine
set_option Elab.async false

variable {s : State} {d : Dev} {n : Net} {m code t : Nat} {fast clip : Bool}

/-! ### The range for the next window -/

/-- The range and the count of low results that the lane takes, but for the counter of range changes. -/
def Dev.rangeTaken (d : Dev) (m code : Nat) (clip bad : Bool) : Dev :=
  d.modMrt m (fun x => { x with range := (d.nextRange m code clip bad (d.mrt m)).1, low := (d.nextRange m code clip bad (d.mrt m)).2 })

theorem Dev.rerange_eq (d : Dev) (m code : Nat) (clip bad : Bool) :
    d.rerange m code clip bad = d.rangeTaken m code clip bad ∨ d.rerange m code clip bad = (d.rangeTaken m code clip bad).count 2931 := by
  unfold Dev.rerange
  by_cases h : (d.nextRange m code clip bad (d.mrt m)).1 = (d.mrt m).range
  · exact .inl (if_pos h)
  · exact .inr (if_neg h)

theorem Dev.rerange_mrt (d : Dev) (m code : Nat) (clip bad : Bool) (x : Nat) : (d.rerange m code clip bad).mrt x = if x = m then
    { d.mrt m with range := (d.nextRange m code clip bad (d.mrt m)).1, low := (d.nextRange m code clip bad (d.mrt m)).2 } else d.mrt x := by
  rcases d.rerange_eq m code clip bad with h | h <;> rw [h] <;> exact d.mrt_modMrt m _ x

/-- A new range moves nothing of the monitor but its tap's row. -/
theorem Dev.rerange_mon (d : Dev) (m code : Nat) (clip bad : Bool) :
    (d.rerange m code clip bad).met = d.met ∧ (d.rerange m code clip bad).inj = d.inj ∧ (d.rerange m code clip bad).mon.met = d.mon.met ∧
    (d.rerange m code clip bad).view = d.view ∧ (d.rerange m code clip bad).waiting = d.waiting ∧
    (d.rerange m code clip bad).metHeld n m = d.metHeld n m := by
  rcases d.rerange_eq m code clip bad with h | h <;> rw [h] <;> exact ⟨rfl, rfl, rfl, rfl, rfl, rfl⟩

theorem Dev.rerange_same (d : Dev) (m code : Nat) (clip bad : Bool) : Dev.sameBut [.mon] d (d.rerange m code clip bad) := by
  rcases d.rerange_eq m code clip bad with h | h <;> rw [h]
  · exact d.modMrt_same m _
  · exact (d.modMrt_same m _).trans ((Dev.count_same _ _).up _)

section
variable {x : Mrt} (hr : (d.met m).rng = 0) (hf : d.frozen m = none)
include hr hf

theorem Dev.nextRange_clip : d.nextRange m code true false x = (2, 0) := by simp [Dev.nextRange, hr, hf]

theorem Dev.nextRange_high (hc : 58982 < code) : (d.nextRange m code false false x).1 =
    if x.range < 2 then x.range + 1 else if d.mon.dnCount = 0 then x.range - 1 else x.range := by
  have h9 : 589824 ≤ code * 10 := by omega
  have hlow : ¬ (0 < x.range ∧ code * 1000 ≤ 65536) := by omega
  by_cases h2 : x.range < 2
  · simp [Dev.nextRange, hr, hf, h9, h2]
  · by_cases h0 : d.mon.dnCount = 0 <;> simp [Dev.nextRange, hr, hf, h2, hlow, h0]

theorem Dev.nextRange_low (hc : code ≤ 65) (h0 : 0 < x.range) :
    d.nextRange m code false false x = if d.mon.dnCount ≤ x.low + 1 then (x.range - 1, 0) else (x.range, x.low + 1) := by
  have h9 : ¬ 589824 ≤ code * 10 := by omega
  have hlow : code * 1000 ≤ 65536 := by omega
  simp [Dev.nextRange, hr, hf, h9, h0, hlow]

end

/-! ### A result -/

/-- The row of a result in force: corrected with the one set of coefficients, its TAG the next. -/
def Dev.resultRow (d : Dev) (m code t : Nat) (fast clip : Bool) : Mrt :=
  { d.mrt m with value := codeValue (d.coeffs m) (d.mrt m).range code, tag := ((d.mrt m).tag + 1) % 64,
                 flags := if clip && (d.mrt m).range == 2 then 2 else if fast then 1 else 0, time := t % 2 ^ 32, old := none, oldCo := [],
                 tick := if fast then (d.mrt m).tick else some (t, codeValue (d.coeffs m) (d.mrt m).range code, clip && (d.mrt m).range == 2) }

/-- The device with that row. -/
def Dev.resultStands (d : Dev) (m code t : Nat) (fast clip : Bool) : Dev :=
  (d.modMrt m (fun x => { x with
    value := codeValue (d.coeffs m) (d.mrt m).range code, tag := (x.tag + 1) % 64,
    flags := if clip && (d.mrt m).range == 2 then 2 else if fast then 1 else 0, time := t % 2 ^ 32, old := none,
    tick := if fast then x.tick else some (t, codeValue (d.coeffs m) (d.mrt m).range code, clip && (d.mrt m).range == 2) })).modMrt m
    (fun x => { x with oldCo := [] })

theorem Dev.mrt_resultStands (d : Dev) (m code t : Nat) (fast clip : Bool) (x : Nat) :
    (d.resultStands m code t fast clip).mrt x = if x = m then d.resultRow m code t fast clip else d.mrt x := by
  rw [Dev.resultStands, Dev.mrt_modMrt, Dev.mrt_modMrt, if_pos rfl, Dev.mrt_modMrt]
  split <;> rfl

/-- A result without a fault, its tap's one set of coefficients in force: its row stands, and range and comparator follow. -/
theorem Dev.result_eq (hr : d.reacting 44 (mpaCell m) = false) (ho : (d.mrt m).oldCo = []) : d.result n m code t fast clip false false =
    if (((d.resultStands m code t fast clip).metLoad m).rerange m code clip false).metHeld n m then
      (((d.resultStands m code t fast clip).metLoad m).rerange m code clip false).restartMet m
    else if fast then ((d.resultStands m code t fast clip).metLoad m).rerange m code clip false
    else (((d.resultStands m code t fast clip).metLoad m).rerange m code clip false).modMet m (fun x =>
      x.judge (codeValue (d.coeffs m) (d.mrt m).range code) (clip && (d.mrt m).range == 2)
        ((((d.resultStands m code t fast clip).metLoad m).rerange m code clip false).mrt m).word (t % 2 ^ 32)) := by
  unfold Dev.result
  simp only [hr, ho, Bool.or_false, Bool.false_eq_true, if_false, List.isEmpty_nil, Bool.not_true, Bool.false_and]
  rfl

theorem Dev.metLoad_idle (h : (d.met m).next = []) : d.metLoad m = d := by simp [Dev.metLoad, h]

/-- With no write of its comparator's entry waiting, the result has this in its place. -/
def Dev.resultTaken (d : Dev) (m code t : Nat) (fast clip : Bool) : Dev := (d.resultStands m code t fast clip).rerange m code clip false

theorem Dev.result_plain (hr : d.reacting 44 (mpaCell m) = false) (ho : (d.mrt m).oldCo = []) (hn : (d.met m).next = []) :
    d.result n m code t fast clip false false =
      if d.metHeld n m then (d.resultTaken m code t fast clip).restartMet m
      else if fast then d.resultTaken m code t fast clip
      else (d.resultTaken m code t fast clip).modMet m (fun x => x.judge (codeValue (d.coeffs m) (d.mrt m).range code) (clip && (d.mrt m).range == 2)
        (((d.resultTaken m code t fast clip).mrt m).word) (t % 2 ^ 32)) := by
  rw [Dev.result_eq hr ho, Dev.metLoad_idle (d := d.resultStands m code t fast clip) hn]
  have hh : (d.resultTaken m code t fast clip).metHeld n m = d.metHeld n m := (Dev.rerange_mon _ _ _ _ _).2.2.2.2.2.trans rfl
  rw [show (d.resultStands m code t fast clip).rerange m code clip false = d.resultTaken m code t fast clip from rfl, hh]

theorem Dev.mrt_resultTaken (d : Dev) (m code t : Nat) (fast clip : Bool) (x : Nat) : (d.resultTaken m code t fast clip).mrt x =
    if x = m then { d.resultRow m code t fast clip with
      range := (d.nextRange m code clip false (d.mrt m)).1, low := (d.nextRange m code clip false (d.mrt m)).2 }
    else d.mrt x := by
  rw [Dev.resultTaken, Dev.rerange_mrt, Dev.mrt_resultStands, Dev.mrt_resultStands, if_pos rfl]
  by_cases h : x = m
  · rw [if_pos h, if_pos h]
    rfl
  · rw [if_neg h, if_neg h, if_neg h]

theorem Dev.resultTaken_same (d : Dev) (m code t : Nat) (fast clip : Bool) : Dev.sameBut [.mon] d (d.resultTaken m code t fast clip) :=
  ((Dev.modMrt_same _ _ _).trans (Dev.modMrt_same _ _ _)).trans (Dev.rerange_same _ _ _ _ _)

theorem Dev.met_resultTaken (d : Dev) (m code t : Nat) (fast clip : Bool) : (d.resultTaken m code t fast clip).met = d.met :=
  (Dev.rerange_mon (n := { conns := [] }) _ _ _ _ _).1

/-- Whatever the comparator makes of it, a result moves only the monitor; it leaves the rows of the other taps, and their comparators. -/
theorem Dev.result_plain_frame (hr : d.reacting 44 (mpaCell m) = false) (ho : (d.mrt m).oldCo = []) (hn : (d.met m).next = []) :
    (∀ x, (d.result n m code t fast clip false false).mrt x = (d.resultTaken m code t fast clip).mrt x) ∧
    (∀ x, x ≠ m → (d.result n m code t fast clip false false).met x = d.met x) ∧
    Dev.sameBut [.mon] d (d.result n m code t fast clip false false) := by
  rw [Dev.result_plain hr ho hn]
  have hs := d.resultTaken_same m code t fast clip
  have hm := d.met_resultTaken m code t fast clip
  split
  · exact ⟨fun _ => rfl, fun x hx => by rw [Dev.restartMet, Dev.met_modMet, if_neg hx, hm], hs.trans (Dev.modMet_same _ _ _)⟩
  · split
    · exact ⟨fun _ => rfl, fun x _ => by rw [hm], hs⟩
    · exact ⟨fun _ => rfl, fun x hx => by rw [Dev.met_modMet, if_neg hx, hm], hs.trans (Dev.modMet_same _ _ _)⟩

/-! ### The commands -/

/-- The tick whose window it was is marked as answered. -/
def Dev.atTick (d : Dev) (m : Nat) : Dev := d.modMrt m (fun x => { x with nAt := d.tb2 / 10000 * 10000 + 1 })

theorem exec_tickResult {err : Bool} (h : Obl.tickResult s m code) : exec (.conversionResult m code false clip err) s =
    .next { s with d := ((s.d.atTick m).result s.net m code (s.d.tb2 / 10000 * 10000) false clip err false).notify } := by
  obtain ⟨hh, hc, hp, hT, hcode, hfi, hn, -, hr, hcal⟩ := h
  have hf : s.d.forceRange m (s.d.tb2 / 10000 * 10000) = s.d := by rw [Dev.forceRange, hcal]
  have hdk : (s.d.atTick m).darkCode m (s.d.tb2 / 10000 * 10000) code = s.d.atTick m := by
    have : (s.d.atTick m).calRange m (s.d.tb2 / 10000 * 10000) = none := hcal
    rw [Dev.darkCode, this]
  rw [exec_conversionResult, execConversionResult]
  simp only [Bool.false_eq_true, if_false, hf]
  rw [if_neg (by simp [hh, hc, hp, hfi]; omega), finish_next]
  rw [show s.d.modMrt m (fun x => { x with nAt := s.d.tb2 / 10000 * 10000 + 1 }) = s.d.atTick m from rfl, hdk, ite_self]

theorem Dev.atTick_tap (d : Dev) (m : Nat) : (d.atTick m).mrt m = { d.mrt m with nAt := d.tb2 / 10000 * 10000 + 1 } := d.mrt_modMrt_self m _

theorem Dev.atTick_ne (d : Dev) {m x : Nat} (h : x ≠ m) : (d.atTick m).mrt x = d.mrt x := by rw [Dev.atTick, Dev.mrt_modMrt, if_neg h]

/-- A result in error: FS44 occurs, and the row is marked INVALID. -/
def Dev.resultFails (d : Dev) (m code t : Nat) : Dev :=
  (((d.once 44 (mpaCell m)).invalid m t).modMrt m (fun x => { x with oldCo := [] })).rerange m code false true

theorem Dev.result_err (ho : (d.mrt m).oldCo = []) (hn : (d.met m).next = []) : d.result n m code t false false true false =
    if (d.resultFails m code t).metHeld n m then (d.resultFails m code t).restartMet m else d.resultFails m code t := by
  have hmon : (d.once 44 (mpaCell m)).mon = d.mon := (d.once_signals 44 (mpaCell m)).same .mon (by decide)
  have hmrt : ((d.once 44 (mpaCell m)).mrt m).oldCo = [] := by rw [Dev.mrt, hmon]; exact ho
  have hmet : ((d.once 44 (mpaCell m)).met m).next = [] := by rw [Dev.met, hmon]; exact hn
  have hload : (((d.once 44 (mpaCell m)).invalid m t).modMrt m (fun x => { x with oldCo := [] })).metLoad m = _ := Dev.metLoad_idle hmet
  unfold Dev.result
  simp only [if_true, Bool.true_or, hmrt, Bool.or_true, List.isEmpty_nil, Bool.not_true, Bool.false_and, Bool.false_eq_true, if_false, hload]
  rfl

theorem Dev.resultFails_same (d : Dev) (m code t : Nat) : Dev.sameBut [.mon, .src, .flt, .fns, .views] d (d.resultFails m code t) :=
  ((((d.once_signals 44 (mpaCell m)).same.mono (by decide)).trans ((Dev.modMrt_same _ _ _).up _)).trans ((Dev.count_same _ _).up _)).trans
    (((Dev.modMrt_same _ _ _).trans (Dev.rerange_same _ _ _ _ _)).up _)

theorem Dev.resultFails_fields (d : Dev) (m code t : Nat) :
    ((d.resultFails m code t).mrt m).value = (d.mrt m).value ∧ ((d.resultFails m code t).mrt m).flags = 3 ∧
    ((d.resultFails m code t).mrt m).tag = ((d.mrt m).tag + 1) % 64 ∧ (d.resultFails m code t).met = d.met ∧
    (d.resultFails m code t).src 44 = (d.once 44 (mpaCell m)).src 44 := by
  have hmon : (d.once 44 (mpaCell m)).mon = d.mon := (d.once_signals 44 (mpaCell m)).same .mon (by decide)
  have hrow : (((d.once 44 (mpaCell m)).invalid m t).modMrt m (fun x => { x with oldCo := [] })).mrt m =
      { d.mrt m with tag := ((d.mrt m).tag + 1) % 64, flags := 3, time := t % 2 ^ 32, oldCo := [] } := by
    rw [Dev.mrt_modMrt_self, Dev.invalid]
    show ({ ((d.once 44 (mpaCell m)).modMrt m _).mrt m with oldCo := [] } : Mrt) = _
    rw [Dev.mrt_modMrt_self, Dev.mrt, hmon]
    rfl
  refine ⟨?_, ?_, ?_, ?_, ?_⟩
  · rw [Dev.resultFails, Dev.rerange_mrt, if_pos rfl, hrow]
  · rw [Dev.resultFails, Dev.rerange_mrt, if_pos rfl, hrow]
  · rw [Dev.resultFails, Dev.rerange_mrt, if_pos rfl, hrow]
  · rw [Dev.resultFails, (Dev.rerange_mon (n := { conns := [] }) _ _ _ _ _).1]
    show (d.once 44 (mpaCell m)).met = d.met
    funext x
    rw [Dev.met, hmon, Dev.met]
  · exact congrArg (fun (x : Tab Src) => x.get {} 44)
      ((Dev.modMrt_same _ _ _).trans (Dev.rerange_same (((d.once 44 (mpaCell m)).invalid m t).modMrt m _) m code false true) .src (by decide))

/-! ### The fast windows -/

/-- The device as a fast window of the period that began at p finds it. -/
def Dev.atPeriod (d : Dev) (m p : Nat) : Dev := d.modMrt m (fun x => { x with fAt := p + 1 })

theorem exec_fastResult {p : Nat} (hh : mpaHole m = false) (hc : s.d.clocked = true) (hp : s.d.pwr.phase = .run) (h1 : 1000 ≤ s.d.tb2)
    (hcode : code < 4096) (hpe : p = (s.d.tb2 / 1000 - 1) * 1000) (hfi : s.d.fastIn m p 960 = true) (hfa : (s.d.mrt m).fAt ≤ p)
    (hr : s.d.reacting 44 (mpaCell m) = false) (ho : (s.d.mrt m).oldCo = []) (hn : (s.d.met m).next = []) (hs : s.d.fastStart m p + 512 ≤ p + 960)
    (hw : s.d.waiting m = []) : exec (.conversionResult m code true clip false) s =
      .next { s with d := ((s.d.atPeriod m p).result s.net m (16 * code) (s.d.fastStart m p) true clip false false).notify } := by
  subst hpe
  have hshort : decide ((s.d.tb2 / 1000 - 1) * 1000 + 960 < s.d.fastStart m ((s.d.tb2 / 1000 - 1) * 1000) + 512) = false := by simpa using hs
  have hwait : ((s.d.atPeriod m ((s.d.tb2 / 1000 - 1) * 1000)).result s.net m (16 * code) (s.d.fastStart m ((s.d.tb2 / 1000 - 1) * 1000)) true clip
      false false).waiting m = [] := by
    rw [Dev.result_plain (d := s.d.atPeriod m _) hr ((congrArg Mrt.oldCo (Dev.mrt_modMrt_self _ m _)).trans ho) hn]
    have ht : ∀ d' : Dev, (d'.resultTaken m (16 * code) (s.d.fastStart m ((s.d.tb2 / 1000 - 1) * 1000)) true clip).waiting = d'.waiting := fun d' =>
      (Dev.rerange_mon (n := s.net) _ _ _ _ _).2.2.2.2.1.trans rfl
    split
    · exact (congrFun (ht _) m).trans hw
    · exact (congrFun (ht _) m).trans hw
  rw [exec_conversionResult, execConversionResult]
  simp only [if_true]
  rw [if_neg (by simp [hh, hc, hp, hfi]; omega), finish_next]
  rw [show s.d.modMrt m (fun x => { x with fAt := (s.d.tb2 / 1000 - 1) * 1000 + 1 }) = s.d.atPeriod m ((s.d.tb2 / 1000 - 1) * 1000) from rfl, hshort,
    hwait]
  rfl

/-- Settles O35, window by window. -/
theorem resultsAreCorrected : Obligations.ResultsAreCorrected := by
  refine ⟨?_, ?_, ?_⟩
  · intro s m code clip h hn
    have hx := exec_tickResult (clip := clip) (err := false) h
    obtain ⟨-, -, -, -, -, -, -, ho, hr, -⟩ := h
    have ho' : ((s.d.atTick m).mrt m).oldCo = [] := by rw [Dev.atTick_tap]; exact ho
    obtain ⟨hmrt, hmet, hsame⟩ := Dev.result_plain_frame (d := s.d.atTick m) (n := s.net) (code := code) (t := s.d.tb2 / 10000 * 10000)
      (fast := false) (clip := clip) hr ho' hn
    have hrow := (hmrt m).trans ((Dev.mrt_resultTaken _ _ _ _ _ _ _).trans (if_pos rfl))
    have hpl := Dev.result_plain (d := s.d.atTick m) (n := s.net) (code := code) (t := s.d.tb2 / 10000 * 10000)
      (fast := false) (clip := clip) hr ho' hn
    rw [Dev.atTick_tap] at hrow
    refine ⟨_, hx, ?_, fun hrng hfz => ⟨?_, ?_, ?_, ?_⟩, fun hheld => ?_, fun x hxm => ⟨?_, ?_⟩, finish_same ((s.d.modMrt_same m _).trans hsame)⟩
    · rw [Dev.notify_mrt, hrow, Dev.resultRow, Dev.atTick_tap]
      have hc : (s.d.atTick m).coeffs m = s.d.coeffs m := rfl
      simp [hc, ho]
    · intro hcl
      subst hcl
      rw [Dev.notify_mrt, hrow, Dev.nextRange_clip (d := s.d.atTick m) hrng hfz]
    · intro hcl hcode
      subst hcl
      rw [Dev.notify_mrt, hrow, Dev.nextRange_high (d := s.d.atTick m) hrng hfz hcode]
      rfl
    · intro hcl hcode h0 hlow
      subst hcl
      rw [Dev.notify_mrt, hrow, Dev.nextRange_low (d := s.d.atTick m) hrng hfz hcode]
      · have hd : ¬ (s.d.atTick m).mon.dnCount ≤ (s.d.mrt m).low + 1 := Nat.not_le.mpr hlow
        rw [if_neg hd]
        exact ⟨rfl, rfl⟩
      · exact h0
    · intro hcl hcode h0 hlow
      subst hcl
      rw [Dev.notify_mrt, hrow, Dev.nextRange_low (d := s.d.atTick m) hrng hfz hcode]
      · have hd : (s.d.atTick m).mon.dnCount ≤ (s.d.mrt m).low + 1 := hlow
        rw [if_pos hd]
        exact ⟨rfl, rfl⟩
      · exact h0
    · have hheld' : (s.d.atTick m).metHeld s.net m = true := hheld
      rw [Dev.notify_met, hpl, if_pos hheld', Dev.restartMet, Dev.met_modMet_self, Dev.met_resultTaken]
      rfl
    · rw [Dev.notify_mrt, hmrt, Dev.mrt_resultTaken, if_neg hxm, Dev.atTick_ne _ hxm]
    · rw [Dev.notify_met, hmet x hxm]
      rfl
  · intro s m code h hn
    have hx := exec_tickResult (clip := false) (err := true) h
    obtain ⟨-, -, -, -, -, -, -, ho, -, -⟩ := h
    rw [Dev.result_err (d := s.d.atTick m) (by rw [Dev.atTick_tap]; exact ho) hn] at hx
    obtain ⟨hv, hf, htag, hmet, hsrc⟩ := (s.d.atTick m).resultFails_fields m code (s.d.tb2 / 10000 * 10000)
    have hsame := (s.d.atTick m).resultFails_same m code (s.d.tb2 / 10000 * 10000)
    rw [Dev.atTick_tap] at hv htag
    rw [Dev.src_once (by decide) (by decide)] at hsrc
    obtain ⟨hl, hc, -⟩ := Src.marked_fields ((s.d.atTick m).src 44) 44 (mpaCell m) (s.d.atTick m).tb2 false true
    rw [← hsrc] at hl hc
    generalize (s.d.atTick m).resultFails m code (s.d.tb2 / 10000 * 10000) = e at *
    have hsame' := ((s.d.modMrt_same m _).mono (by decide)).trans hsame
    split at hx
    · refine ⟨_, hx, ?_, ?_, ?_, ?_, ?_, ?_, ?_, finish_same (hsame'.trans ((Dev.modMet_same _ _ _).up _))⟩
      · rw [Dev.notify_mrt]; exact hv
      · rw [Dev.notify_mrt]; exact hf
      · rw [Dev.notify_mrt]; exact htag
      · rw [Dev.notify_met, Dev.restartMet, Dev.met_modMet_self, hmet]
        rfl
      · rw [Dev.notify_met, Dev.restartMet, Dev.met_modMet_self, hmet]
        rfl
      · rw [Dev.notify_src]; exact hl
      · rw [Dev.notify_src]; exact hc
    · refine ⟨_, hx, ?_, ?_, ?_, ?_, ?_, ?_, ?_, finish_same hsame'⟩
      · rw [Dev.notify_mrt]; exact hv
      · rw [Dev.notify_mrt]; exact hf
      · rw [Dev.notify_mrt]; exact htag
      · rw [Dev.notify_met, hmet]
        rfl
      · rw [Dev.notify_met, hmet]
        rfl
      · rw [Dev.notify_src]; exact hl
      · rw [Dev.notify_src]; exact hc
  · intro s m code p clip hh hc hp h1 hcode hpe hfi hfa ho hr hn hs hw
    have hx := exec_fastResult (clip := clip) hh hc hp h1 hcode hpe hfi hfa hr ho hn hs hw
    have hrow0 : (s.d.atPeriod m p).mrt m = { s.d.mrt m with fAt := p + 1 } := Dev.mrt_modMrt_self _ m _
    have ho' : ((s.d.atPeriod m p).mrt m).oldCo = [] := by rw [hrow0]; exact ho
    obtain ⟨hmrt, -, hsame⟩ := Dev.result_plain_frame (d := s.d.atPeriod m p) (n := s.net) (code := 16 * code) (t := s.d.fastStart m p)
      (fast := true) (clip := clip) hr ho' hn
    have hpl := Dev.result_plain (d := s.d.atPeriod m p) (n := s.net) (code := 16 * code) (t := s.d.fastStart m p)
      (fast := true) (clip := clip) hr ho' hn
    have hmet : (((s.d.atPeriod m p).result s.net m (16 * code) (s.d.fastStart m p) true clip false false).met m).state = (s.d.met m).state ∧
        (((s.d.atPeriod m p).result s.net m (16 * code) (s.d.fastStart m p) true clip false false).met m).due = (s.d.met m).due := by
      rw [hpl]
      split
      · rw [Dev.restartMet, Dev.met_modMet_self, Dev.met_resultTaken]
        exact ⟨rfl, rfl⟩
      · rw [if_pos rfl, Dev.met_resultTaken]
        exact ⟨rfl, rfl⟩
    refine ⟨_, hx, ?_, ?_, ?_, finish_same ((s.d.modMrt_same m _).trans hsame)⟩
    · rw [Dev.notify_mrt, (hmrt m).trans ((Dev.mrt_resultTaken _ _ _ _ _ _ _).trans (if_pos rfl)), Dev.resultRow, hrow0]
      have hco : (s.d.atPeriod m p).coeffs m = s.d.coeffs m := rfl
      simp [hco, ho]
    · rw [Dev.notify_met]; exact hmet.1
    · rw [Dev.notify_met]; exact hmet.2

end Sys2Proof.Machine

/-! ## Window comparators and injected conversions (O36) -/
namespace Sys2Proof.Machine
set_option Elab.async false

variable {s : State} {d : Dev} {m code : Nat}

/-! ### Comparators that stand at IN -/

section
variable {x : Met} {v : Int} {value time : Nat} (he : x.en = true) (hb : x.broken = false) (hd : x.due = none) (hs : x.state = 0)
include he hb hd hs

theorem Met.judge_low (hv : v < x.limit x.low) (hside : x.side = 1) : x.judge v false value time =
    if x.nq ≤ x.count then { x with count := 0, due := some (1, value, time) } else { x with count := x.count + 1 } := by
  have hw : x.wants v false = some 1 := by simp [Met.wants, hs, hv]
  unfold Met.judge
  rw [if_neg (by simp [he, hb, hd]), hw]
  simp only [hside, if_true, Nat.add_le_add_iff_right]

theorem Met.judge_high (hv : x.limit x.high < v) (hl : x.limit x.low ≤ x.limit x.high) (hf : floorDbm < v ∨ floorDbm < x.limit x.low)
    (hside : x.side = 2) : x.judge v false value time =
    if x.nq ≤ x.count then { x with count := 0, due := some (2, value, time) } else { x with count := x.count + 1 } := by
  have h1 : ¬ v < x.limit x.low := by omega
  have h2 : ¬ v ≤ floorDbm := by omega
  have hw : x.wants v false = some 2 := by simp [Met.wants, hs, hv, h1, h2]
  unfold Met.judge
  rw [if_neg (by simp [he, hb, hd]), hw]
  simp only [hside, if_true, Nat.add_le_add_iff_right]

theorem Met.judge_inside (hl : x.limit x.low ≤ v) (hh : v ≤ x.limit x.high) (hf : floorDbm < v ∨ floorDbm < x.limit x.low) :
    x.judge v false value time = { x with count := 0 } := by
  have h1 : ¬ v < x.limit x.low := by omega
  have h2 : ¬ v ≤ floorDbm := by omega
  have h3 : ¬ x.limit x.high < v := by omega
  have hw : x.wants v false = none := by simp [Met.wants, hs, h1, h2, h3]
  unfold Met.judge
  rw [if_neg (by simp [he, hb, hd]), hw]

end

theorem windowsAndInjections_judged (s : State) (m code : Nat) (h : Obl.tickResult s m code) (hn : (s.d.met m).next = [])
    (hh : s.d.metHeld s.net m = false) : ∃ t, exec (.conversionResult m code false false false) s = .next t ∧
      t.d.met m = (s.d.met m).judge (codeValue (s.d.coeffs m) (s.d.mrt m).range code) false (t.d.mrt m).word (s.d.tb2 / 10000 * 10000 % 2 ^ 32) ∧
      State.sameBut [.mon] s t := by
  have hx := exec_tickResult (clip := false) (err := false) h
  obtain ⟨-, -, -, -, -, -, -, ho, hr, -⟩ := h
  have ho' : ((s.d.atTick m).mrt m).oldCo = [] := by rw [Dev.atTick_tap]; exact ho
  obtain ⟨hmrt, -, hsame⟩ := Dev.result_plain_frame (d := s.d.atTick m) (n := s.net) (code := code) (t := s.d.tb2 / 10000 * 10000)
    (fast := false) (clip := false) hr ho' hn
  have hpl := Dev.result_plain (d := s.d.atTick m) (n := s.net) (code := code) (t := s.d.tb2 / 10000 * 10000)
    (fast := false) (clip := false) hr ho' hn
  have hh' : ¬ (s.d.atTick m).metHeld s.net m = true := fun hc => Bool.false_ne_true (hh.symm.trans hc)
  refine ⟨_, hx, ?_, finish_same ((s.d.modMrt_same m _).trans hsame)⟩
  rw [Dev.notify_met, Dev.notify_mrt, hmrt, hpl, if_neg hh', if_neg (by simp), Dev.met_modMet_self, Dev.met_resultTaken, Dev.atTick_tap]
  rfl

/-! ### Events of a comparator -/

theorem pack_cons (p : Nat × Nat) (ps : List (Nat × Nat)) : pack (p :: ps) = p.1 * 2 ^ p.2 + pack ps := by
  rw [pack, List.map_cons, List.sum_cons, pack]

theorem pack_nil : pack [] = 0 := rfl

theorem pack_transition (m a b : Nat) : pack [(m, 0), (a, 16), (b, 18)] = m + a * 65536 + b * 262144 := by
  rw [pack_cons, pack_cons, pack_cons, pack_nil]
  dsimp only
  omega

theorem Dev.evtPush_written {f type a b c e : Nat} (ha : (d.fn f).evtActive = true) (hf : (d.fn f).flrAt = none) (hr : (d.fn f).evt.hasRoom = true) :
    (d.evtPush f type a b c e).1 = true ∧ (d.evtPush f type a b c e).2.io.out = Out.hostWrite ((d.fn f).evt.base + 32 * (d.fn f).evt.tail)
      (eventDws d.tb0 a b c e type (d.fn f).evt.phase (d.fn f).lostFlag (((d.fn f).evtSeq + 1) % 65536)) :: d.io.out ∧
    (d.evtPush f type a b c e).2.mon = d.mon := by
  unfold Dev.evtPush
  extract_lets fn seq r at_ d1 d2 d3
  rw [if_pos (by simp [fn, ha, hr, Dev.mayWrite, hf])]
  exact ⟨rfl, rfl, rfl⟩

/-- A change of state has been told to PF0 alone. -/
def Dev.windowTold (d : Dev) (m old new value time : Nat) : Dev :=
  (((d.evtPush 0 1 (pack [(m, 0), (old, 16), (new, 18)]) value time 0).2.setLeaf 0 0x1AC 0x100).setTileLeaf 0x180 (tileOf (mpaCell m))).count
    (if new = 0 then 2933 else 2932)

theorem Dev.windowEvent_own {old new value time : Nat} (hv : isVoaCa (mpaCell m) = false)
    (h : (d.evtPush 0 1 (pack [(m, 0), (old, 16), (new, 18)]) value time 0).1 = true) :
    d.windowEvent m old new value time = d.windowTold m old new value time := by
  unfold Dev.windowEvent
  simp [hv, h, Dev.windowTold]

theorem Dev.windowTold_same (d : Dev) (m old new value time : Nat) : Dev.sameBut [.mon, .fns, .views] d (d.windowTold m old new value time) := by
  exact ((((d.evtPush_same _ _ _ _ _ _).trans ((Dev.setLeaf_same _ _ _ _).up _)).trans ((Dev.setLeaf_same _ _ _ _).up _)).trans
    ((Dev.count_same _ _).up _)).mono (by decide)

/-- STATE changes, and the count starts again. -/
def Dev.windowMoved (d : Dev) (m new : Nat) : Dev := d.modMet m (fun x => { x with state := new, due := none, count := 0 })

theorem exec_windowTransition_one {new value time : Nat} (hd : (s.d.met m).due = some (new, value, time)) (hz : (s.d.met m).state = 0 ∨ new = 0) :
    exec (.windowTransition m) s =
      .next { s with d := ((s.d.windowMoved m new).windowEvent m (s.d.met m).state new value time).notify } := by
  rw [exec_windowTransition, execWindowTransition]
  simp only [hd]
  rw [if_neg (by omega), finish_next]
  rfl

/-! ### Writes of an entry -/

theorem metWhole_clean {w0 w1 : Nat} (hh : mpaHole m = false) (hp : d.pwr.phase ≠ .parked) (hn : (d.tile (tileOf (mpaCell m))).holdErr = false) :
    d.metWhole m w0 w1 true = d.modMet m (fun x => { x with next := x.next ++ [(d.tb2, w0 % 2 ^ 32, w1 % 2 ^ 32)] }) := by
  have hs : d.metStore m w0 w1 = d.modMet m (fun x => { x with next := x.next ++ [(d.tb2, w0 % 2 ^ 32, w1 % 2 ^ 32)] }) := by
    rw [Dev.metStore, if_neg (by simp [hh])]
  unfold Dev.metWhole
  rw [if_neg (by simp [hh, hp])]
  simp only [hs]
  exact if_neg (by simpa using hn)

/-! ### Writes of an injection slot -/

/-- A slot with the done bits that a write clears. -/
def Inj.acked (x : Inj) (v : Nat) : Inj :=
  { x with done := x.done && !bitOf v 22, displaced := x.displaced && !bitOf v 23, notDone := x.notDone && !bitOf v 24 }

/-- A slot with the fields that a write gives it. -/
def Inj.asked (x : Inj) (v : Nat) : Inj := { x.acked v with mpa := v % 65536, trig := fieldOf v 16 2, fast := bitOf v 18 }

theorem injWrite_next {k : Nat} {v : Word} (hr : s.d.reach 0 = true) (hk : k < 8) :
    (pf0Wr s 0 (0x10100 + 16 * k) fun d => if k < 8 then d.injWrite k v.toNat else d) =
      .next { s with d := ((s.d.inbound true 0 (0x10100 + 16 * k) 4).injWrite k v.toNat).notify } := by
  rw [pf0Wr_next hr, if_pos hk]

theorem injWrite_go {k v : Nat} (hg : (d.inj k).go = false) (hb : bitOf v 20 = true) (hh : mpaHole (v % 65536) = false) :
    d.injWrite k v = d.modInj k (fun _ => { (d.inj k).asked v with go := true, triggered := fieldOf v 16 2 == 0, trigAt := d.tb2 }) := by
  unfold Dev.injWrite
  simp [hg, hb, hh]
  rfl

theorem injWrite_hole {k v : Nat} (hg : (d.inj k).go = false) (hb : bitOf v 20 = true) (hh : mpaHole (v % 65536) = true) :
    d.injWrite k v = (d.modInj k (fun _ => { (d.inj k).asked v with go := false, notDone := true })).setLeaf 0 0x1AC (2 ^ k) := by
  unfold Dev.injWrite
  simp [hg, hb, hh]
  rfl

theorem injWrite_cancel {k v : Nat} (hg : (d.inj k).go = true) (hb : bitOf v 21 = true) (ht : (d.inj k).triggered = false) : d.injWrite k v =
    (d.modInj k (fun _ => { (d.inj k).acked v with go := false, triggered := false, notDone := true })).setLeaf 0 0x1AC (2 ^ k) := by
  have hs : d.injStarted k = false := by simp [Dev.injStarted, ht]
  unfold Dev.injWrite
  simp [hg, hb, hs]
  rfl

theorem Dev.bit_injLeaf (d : Dev) (k : Nat) : bitOf (((d.setLeaf 0 0x1AC (2 ^ k)).view 0).leaf.get 0 0x1AC) k = true := by
  rw [Dev.leaf_setLeaf_self, bitOf_or]
  simp [bitOf, Nat.div_self (Nat.two_pow_pos _)]

/-! ### The conversion of a slot -/

/-- A slot once its conversion has ended with a value word's fields. -/
def Inj.answered (x : Inj) (value flags t : Nat) : Inj :=
  { x with go := false, triggered := false, done := true, time := t % 2 ^ 32,
           val := pack [(value, 0), ((x.val / 2 ^ 24 + 1) % 64, 24), (flags, 30)] }

theorem pack_value (a b c : Nat) : pack [(a, 0), (b, 24), (c, 30)] = a + b * 2 ^ 24 + c * 2 ^ 30 := by
  rw [pack_cons, pack_cons, pack_cons, pack_nil, pow_zero, mul_one, add_zero, ← add_assoc]

theorem Dev.injDone_one (d : Dev) (k value flags t : Nat) :
    d.injDone [k] value flags t = (d.modInj k (fun x => x.answered value flags t)).setLeaf 0 0x1AC (2 ^ k) := rfl

/-- The point's lane, once the conversion that ran there has ended. -/
def Dev.injEnded (d : Dev) (m at_ : Nat) : Dev := ({ d with mon := { d.mon with injEnd := d.mon.injEnd.set 0 m at_ } }).count 2928

theorem exec_injectedResult_one {k t0 : Nat} {clip : Bool} {x : Inj} (hk : s.d.inj k = x) (hw : s.d.waiting x.mpa = [k])
    (hn : s.d.injNext x.mpa = some (k, t0)) (hf : s.d.fastIn x.mpa s.d.tb2 1 = false) (hc : code ≤ (if x.fast then 4095 else 65535))
    (ht : t0 + (if x.fast then 1000 else 4000) ≤ s.d.tb2) (ho : (s.d.mrt x.mpa).oldCo = [] ∨ (s.d.mrt x.mpa).coAt ≤ t0)
    (hr : s.d.reacting 44 (mpaCell x.mpa) = false) : exec (.injectedResult k code clip) s = .next { s with d := (((s.d.injDone [k]
      (twos (codeValue (s.d.coeffs x.mpa) (s.d.mrt x.mpa).range (if x.fast then 16 * code else code)) 24)
      (if clip && (s.d.mrt x.mpa).range == 2 then 2 else if x.fast then 1 else 0) t0).rerange x.mpa (if x.fast then 16 * code else code) clip
      false).injEnded x.mpa (t0 + x.window)).notify } := by
  have hks : [k].filter (fun j => (s.d.inj j).same x) = [k] := by simp [hk, Inj.same]
  have hco : (!(s.d.mrt x.mpa).oldCo.isEmpty && decide (t0 < (s.d.mrt x.mpa).coAt)) = false := by
    rcases ho with ho | ho
    · simp [ho]
    · simp [Nat.not_lt.mpr ho]
  have hdel : ¬ s.d.tb2 < t0 + x.delay := Nat.not_lt.mpr ht
  rw [exec_injectedResult, execInjectedResult]
  simp only [hk, hn, Option.map_some, Option.getD_some, hr, hco, Bool.false_eq_true, if_false, hw, hks]
  rw [if_neg (by simp [hf, hdel]; omega), finish_next]
  rfl

/-! ### An entry that takes effect -/

/-- Nothing of an entry but the comparator's own count, side and transition differs. -/
def Met.sameEntry (x y : Met) : Prop := { y with state := x.state, side := x.side, count := x.count, due := x.due } = x

theorem Met.judge_sameEntry (x : Met) (v : Int) (o : Bool) (value time : Nat) : x.sameEntry (x.judge v o value time) := by
  unfold Met.judge Met.sameEntry
  split
  · rfl
  · split
    · rfl
    · extract_lets c
      split <;> rfl

/-- The entry with the two words of a write in its place. -/
def Met.written (x : Met) (ref : Bool) (w0 w1 : Nat) : Met :=
  { x with low := w0 % 65536, high := fieldOf w0 16 16, ref := if ref then x.ref else w1 % 65536, hyst := fieldOf w1 16 4, nq := fieldOf w1 20 4,
           en := bitOf w1 24, rel := bitOf w1 25, rng := fieldOf w1 26 2, next := [] }

theorem Met.load_cases (x : Met) (ref : Bool) (w0 w1 : Nat) : x.load ref w0 w1 = { x.written ref w0 w1 with next := x.next } ∨
    x.load ref w0 w1 = { x.written ref w0 w1 with next := x.next, state := 0, count := 0, due := none } := by
  unfold Met.load
  extract_lets en m'
  by_cases h : en = true ∧ (!x.en) = true
  · rw [if_pos h]
    exact .inr rfl
  · rw [if_neg h]
    exact .inl rfl

theorem Met.load_sameEntry (x : Met) (ref : Bool) (w0 w1 : Nat) : (x.written ref w0 w1).sameEntry { x.load ref w0 w1 with next := [] } := by
  rcases x.load_cases ref w0 w1 with h | h <;> rw [h] <;> rfl

/-- The device in which the one write that waits has taken effect. -/
def Dev.entryLoaded (d : Dev) (m w0 w1 : Nat) : Dev := d.modMet m (fun x => { x.load (deviceRef m) w0 w1 with next := [] })

theorem Dev.modMet_congr {f g : Met → Met} (h : f (d.met m) = g (d.met m)) : d.modMet m f = d.modMet m g := by
  unfold Dev.modMet Tab.mod
  rw [show f (d.mon.met.get {} m) = g (d.mon.met.get {} m) from h]

/-- Once the one write that waits has taken effect, FS49 may come or go, and nothing else changes. -/
theorem Dev.metLoad_one {at2 w0 w1 : Nat} (hn : (d.met m).next = [(at2, w0, w1)]) (ha : at2 + 1000 ≤ d.tb2) :
    d.metLoad m = d.entryLoaded m w0 w1 ∨ d.metLoad m = (d.entryLoaded m w0 w1).condOn 49 (mpaCell m) ∨
    d.metLoad m = (d.entryLoaded m w0 w1).condOff 49 (mpaCell m) := by
  have he : d.modMet m (fun x => { x.load (deviceRef m) w0 w1 with next := x.next.drop 1 }) = d.entryLoaded m w0 w1 := by
    refine Dev.modMet_congr ?_
    rw [hn]
    rfl
  unfold Dev.metLoad
  simp only [hn, ha, List.takeWhile_cons, List.takeWhile_nil, decide_true, if_true, List.isEmpty_cons, Bool.false_eq_true, if_false, List.foldl_cons,
    List.foldl_nil, List.length_singleton, he]
  split
  · exact .inr (.inl rfl)
  · split
    · exact .inr (.inr rfl)
    · exact .inl rfl

theorem Dev.metLoad_frame {at2 w0 w1 : Nat} (hn : (d.met m).next = [(at2, w0, w1)]) (ha : at2 + 1000 ≤ d.tb2) :
    (d.metLoad m).mon = (d.entryLoaded m w0 w1).mon ∧ Dev.sameBut [.mon, .src, .flt, .fns, .views] d (d.metLoad m) := by
  have hs : Dev.sameBut [.mon] d (d.entryLoaded m w0 w1) := d.modMet_same m _
  have h0 : Dev.sameBut [.mon, .src, .flt, .fns, .views] d (d.entryLoaded m w0 w1) := hs.mono (by decide)
  rcases Dev.metLoad_one hn ha with h | h | h <;> rw [h]
  · exact ⟨rfl, h0⟩
  · have hc := ((d.entryLoaded m w0 w1).condOn_signals 49 (mpaCell m)).same
    exact ⟨hc .mon (by decide), h0.trans (hc.mono (by decide))⟩
  · have hc := ((d.entryLoaded m w0 w1).condOff_signals 49 (mpaCell m)).same
    exact ⟨hc .mon (by decide), h0.trans (hc.mono (by decide))⟩

theorem windowsAndInjections_loaded {at2 w0 w1 : Nat} (h : Obl.tickResult s m code) (hn : (s.d.met m).next = [(at2, w0, w1)])
    (ha : at2 + 1000 ≤ s.d.tb2) : ∃ t, exec (.conversionResult m code false false false) s = .next t ∧
      ((s.d.met m).written (deviceRef m) w0 w1).sameEntry (t.d.met m) ∧ State.sameBut [.mon, .src, .flt, .fns, .views] s t := by
  have hx := exec_tickResult (clip := false) (err := false) h
  obtain ⟨-, -, -, -, -, -, -, ho, hr, -⟩ := h
  rw [Dev.result_eq (d := s.d.atTick m) hr (by rw [Dev.atTick_tap]; exact ho)] at hx
  have hst : ((s.d.atTick m).resultStands m code (s.d.tb2 / 10000 * 10000) false false).met = s.d.met := rfl
  have hs0 : Dev.sameBut [.mon] s.d ((s.d.atTick m).resultStands m code (s.d.tb2 / 10000 * 10000) false false) :=
    (Dev.modMrt_same _ _ _).trans ((Dev.modMrt_same _ _ _).trans (Dev.modMrt_same _ _ _))
  have htb : ((s.d.atTick m).resultStands m code (s.d.tb2 / 10000 * 10000) false false).tb2 = s.d.tb2 := rfl
  generalize (s.d.atTick m).resultStands m code (s.d.tb2 / 10000 * 10000) false false = e at hx hst hs0 htb
  obtain ⟨hmon, hs1⟩ := Dev.metLoad_frame (d := e) (m := m) (at2 := at2) (w0 := w0) (w1 := w1) (by rw [hst]; exact hn) (by rw [htb]; exact ha)
  have hmet : (e.metLoad m).met m = { (s.d.met m).load (deviceRef m) w0 w1 with next := [] } := by
    rw [Dev.met, hmon, ← Dev.met, Dev.entryLoaded, Dev.met_modMet_self, hst]
  have hload := (s.d.met m).load_sameEntry (deviceRef m) w0 w1
  rw [← hmet, ← congrFun (Dev.rerange_mon (n := s.net) (e.metLoad m) m code false false).1 m] at hload
  have hs2 : Dev.sameBut [.mon, .src, .flt, .fns, .views] s.d ((e.metLoad m).rerange m code false false) :=
    ((hs0.mono (by decide)).trans hs1).trans ((Dev.rerange_same _ _ _ _ _).up _)
  generalize (e.metLoad m).rerange m code false false = g at hx hload hs2
  split at hx
  · refine ⟨_, hx, ?_, finish_same (hs2.trans ((Dev.modMet_same _ _ _).up _))⟩
    rw [Dev.notify_met, Dev.restartMet, Dev.met_modMet_self]
    exact hload
  · rw [if_neg Bool.false_ne_true] at hx
    refine ⟨_, hx, ?_, finish_same (hs2.trans ((Dev.modMet_same _ _ _).up _))⟩
    rw [Dev.notify_met, Dev.met_modMet_self]
    have hj := (g.met m).judge_sameEntry (codeValue ((s.d.atTick m).coeffs m) ((s.d.atTick m).mrt m).range code)
      (false && ((s.d.atTick m).mrt m).range == 2) (g.mrt m).word (s.d.tb2 / 10000 * 10000 % 2 ^ 32)
    unfold Met.sameEntry at hj hload ⊢
    rw [← hload]
    exact congrArg (fun x : Met => { x with
      state := ((s.d.met m).written (deviceRef m) w0 w1).state, side := ((s.d.met m).written (deviceRef m) w0 w1).side,
      count := ((s.d.met m).written (deviceRef m) w0 w1).count, due := ((s.d.met m).written (deviceRef m) w0 w1).due }) hj

/-- Settles O36, command by command. -/
theorem windowsAndInjections : Obligations.WindowsAndInjections := by
  refine ⟨?_, ?_, ?_, ?_, ?_, ?_, ?_, ?_⟩
  · intro s m code v h hn hh he hb hd hs hv hf hl
    obtain ⟨t, hx, hm, hsame⟩ := windowsAndInjections_judged s m code h hn hh
    rw [← hv] at hm
    refine ⟨t, hx, fun hlt hside => ?_, fun hlt hside => ?_, fun h1 h2 => ?_, hsame⟩
    · rw [hm, Met.judge_low he hb hd hs hlt hside]
    · rw [hm, Met.judge_high he hb hd hs hlt hl hf hside]
    · rw [hm, Met.judge_inside he hb hd hs h1 h2 hf]
  · intro s m new value time hd hz hv ha hf hr
    have hx := exec_windowTransition_one hd hz
    obtain ⟨hok, hout, hmon⟩ := Dev.evtPush_written (d := s.d.windowMoved m new) (f := 0) (type := 1)
      (a := pack [(m, 0), ((s.d.met m).state, 16), (new, 18)]) (b := value) (c := time) (e := 0) ha hf hr
    rw [Dev.windowEvent_own hv hok] at hx
    have hsame := (s.d.windowMoved m new).windowTold_same m (s.d.met m).state new value time
    have hmon' : ((s.d.windowMoved m new).windowTold m (s.d.met m).state new value time).mon = (s.d.windowMoved m new).mon := hmon
    have hout' : ((s.d.windowMoved m new).windowTold m (s.d.met m).state new value time).io.out = _ := hout
    have hbit : bitOf ((((s.d.windowMoved m new).windowTold m (s.d.met m).state new value time).view 0).leaf.get 0
        (0x180 + 4 * (tileOf (mpaCell m) / 32))) (tileOf (mpaCell m) % 32) = true := Dev.bit_setTileLeaf _ _ _
    generalize (s.d.windowMoved m new).windowTold m (s.d.met m).state new value time = g at hx hsame hmon' hout' hbit
    obtain ⟨l, hl⟩ := g.notify_sentOn
    refine ⟨_, l, hx, ?_, ?_, ?_, fun x hxm => ?_, ?_, finish_same (((s.d.modMet_same m _).mono (by decide)).trans hsame)⟩
    · rw [Dev.notify_met, Dev.met, hmon']
      exact Dev.met_modMet_self _ _ _
    · rw [hl, hout', pack_transition]
      rfl
    · rw [Dev.notify_view]
      exact hbit
    · rw [Dev.notify_met, Dev.met, hmon']
      exact (Dev.met_modMet _ _ _ _).trans (if_neg hxm)
    · rw [Dev.notify_mon, hmon']
      rfl
  · intro s m v hr hh hp hn
    have hx := hostWrBar_next (bar := 2) (addr := 0x980000 + 8 * m) (len := 8)
      (g := fun d => d.metWhole m (v.toNat % 2 ^ 32) (v.toNat / 2 ^ 32) true) hr
    have hin := s.d.inbound_same true 2 (0x980000 + 8 * m) 8
    generalize s.d.inbound true 2 (0x980000 + 8 * m) 8 = e at hx hin
    have hmon : e.mon = s.d.mon := hin .mon (by decide)
    have hmrt : e.mon.mrt = s.d.mon.mrt := congrArg Mon.mrt hmon
    have hpwr : e.pwr = s.d.pwr := hin .pwr (by decide)
    have hv := v.isLt
    rw [metWhole_clean hh (by rwa [hpwr]) (by rw [Dev.tile, hin.fab]; exact hn)] at hx
    refine ⟨_, hx, ?_, fun x hxm => ?_, ?_, finish_same ((hin.up _).trans (e.modMet_same m _))⟩
    · rw [Dev.notify_met, Dev.met_modMet_self, Dev.met, hmon, hin.tb2, Nat.mod_mod, Nat.mod_eq_of_lt (by omega : v.toNat / 2 ^ 32 < 2 ^ 32)]
      rfl
    · rw [Dev.notify_met, Dev.met_modMet, if_neg hxm, Dev.met, hmon]
      rfl
    · rw [Dev.notify_mon]
      exact hmrt
  · intro s f m v hr hf
    have hx := hostWrBar_next (bar := 2) (addr := 0x980000 + 8 * m) (len := 8)
      (g := fun d => if f = 0 then d.metWhole m (v.toNat % 2 ^ 32) (v.toNat / 2 ^ 32) true else d) hr
    simp only [if_neg hf] at hx
    refine ⟨_, ?_, finish_same (s.d.inbound_same true 2 (0x980000 + 8 * m) 8)⟩
    rw [← hx, exec_metWrite, execMetWrite]
    simp only [if_neg hf]
  · intro s m code at2 w0 w1 h hn ha
    obtain ⟨t, hx, he, hs⟩ := windowsAndInjections_loaded h hn ha
    exact ⟨t, hx, congrArg Met.next he, congrArg Met.low he, by simpa [Met.written, fieldOf] using congrArg Met.high he, by simpa [Met.written, fieldOf] using congrArg Met.hyst he,
      by simpa [Met.written, fieldOf] using congrArg Met.nq he, congrArg Met.en he, congrArg Met.rel he,
      by simpa [Met.written, fieldOf] using congrArg Met.rng he, hs⟩
  · intro s k v hr hk hb hg
    have hx := injWrite_next (v := v) hr hk
    have hin := s.d.inbound_same true 0 (0x10100 + 16 * k) 4
    generalize s.d.inbound true 0 (0x10100 + 16 * k) 4 = e at hx hin
    have hmon : e.mon = s.d.mon := hin .mon (by decide)
    have hmrt : e.mon.mrt = s.d.mon.mrt := congrArg Mon.mrt hmon
    have hinj : e.inj = s.d.inj := by funext j; rw [Dev.inj, hmon, ← Dev.inj]
    have hg' : (e.inj k).go = false := by rw [hinj]; exact hg
    cases hh : mpaHole (v.toNat % 65536) with
    | false =>
      rw [injWrite_go hg' hb hh] at hx
      refine ⟨_, hx, fun j hj => ?_, ?_, fun _ => ⟨?_, finish_same ((hin.up _).trans (e.modInj_same k _))⟩, nofun⟩
      · rw [Dev.notify_inj, Dev.inj_modInj, if_neg hj, hinj]
      · rw [Dev.notify_mon]
        exact hmrt
      · rw [Dev.notify_inj, Dev.inj_modInj_self, hinj, hin.tb2]
        rfl
    | true =>
      rw [injWrite_hole hg' hb hh] at hx
      refine ⟨_, hx, fun j hj => ?_, ?_, nofun, fun _ => ⟨?_, ?_, ?_, finish_same (((hin.up _).trans ((e.modInj_same k _).up _)).trans
        ((Dev.setLeaf_same _ _ _ _).up _))⟩⟩
      · rw [Dev.notify_inj]
        exact ((Dev.inj_modInj _ _ _ _).trans (if_neg hj)).trans (congrFun hinj j)
      · rw [Dev.notify_mon]
        exact hmrt
      · rw [Dev.notify_inj]
        exact congrArg Inj.go (Dev.inj_modInj_self e k _)
      · rw [Dev.notify_inj]
        exact congrArg Inj.notDone (Dev.inj_modInj_self e k _)
      · rw [Dev.notify_view]
        exact Dev.bit_injLeaf _ k
  · intro s k v hr hk hb hg ht
    have hx := injWrite_next (v := v) hr hk
    have hin := s.d.inbound_same true 0 (0x10100 + 16 * k) 4
    generalize s.d.inbound true 0 (0x10100 + 16 * k) 4 = e at hx hin
    have hmon : e.mon = s.d.mon := hin .mon (by decide)
    have hmrt : e.mon.mrt = s.d.mon.mrt := congrArg Mon.mrt hmon
    have hinj : e.inj = s.d.inj := by funext j; rw [Dev.inj, hmon, ← Dev.inj]
    rw [injWrite_cancel (by rw [hinj]; exact hg) hb (by rw [hinj]; exact ht)] at hx
    have hself := Dev.inj_modInj_self e k (fun _ => { (e.inj k).acked v.toNat with go := false, triggered := false, notDone := true })
    refine ⟨_, hx, ?_, ?_, ?_, ?_, fun j hj => ?_, ?_, finish_same (((hin.up _).trans ((e.modInj_same k _).up _)).trans
        ((Dev.setLeaf_same _ _ _ _).up _))⟩
    · rw [Dev.notify_inj]
      exact congrArg Inj.go hself
    · rw [Dev.notify_inj]
      exact congrArg Inj.notDone hself
    · rw [Dev.notify_inj]
      exact (congrArg Inj.val hself).trans (show (e.inj k).val = _ by rw [hinj])
    · rw [Dev.notify_view]
      exact Dev.bit_injLeaf _ k
    · rw [Dev.notify_inj]
      exact ((Dev.inj_modInj _ _ _ _).trans (if_neg hj)).trans (congrFun hinj j)
    · rw [Dev.notify_mon]
      exact hmrt
  · intro s k code t0 clip x hk hw hn hf hc ht ho hr
    have hx := exec_injectedResult_one (clip := clip) hk hw hn hf hc ht ho hr
    rw [Dev.injDone_one] at hx
    generalize hv : twos (codeValue (s.d.coeffs x.mpa) (s.d.mrt x.mpa).range (if x.fast then 16 * code else code)) 24 = value at hx
    generalize hfl : (if clip && (s.d.mrt x.mpa).range == 2 then 2 else if x.fast then 1 else 0) = flags at hx
    obtain ⟨hmet, hinj, hmets, hview, -, -⟩ := Dev.rerange_mon (n := s.net)
      ((s.d.modInj k (fun x => x.answered value flags t0)).setLeaf 0 0x1AC (2 ^ k)) x.mpa (if x.fast then 16 * code else code) clip false
    have hmrt := Dev.rerange_mrt ((s.d.modInj k (fun x => x.answered value flags t0)).setLeaf 0 0x1AC (2 ^ k)) x.mpa
      (if x.fast then 16 * code else code) clip false
    have hsame := Dev.rerange_same ((s.d.modInj k (fun x => x.answered value flags t0)).setLeaf 0 0x1AC (2 ^ k)) x.mpa
      (if x.fast then 16 * code else code) clip false
    have hbit := (s.d.modInj k (fun x => x.answered value flags t0)).bit_injLeaf k
    have hs0 : Dev.sameBut [.mon, .views] s.d ((s.d.modInj k (fun x => x.answered value flags t0)).setLeaf 0 0x1AC (2 ^ k)) :=
      ((s.d.modInj_same k _).up _).trans ((Dev.setLeaf_same _ _ _ _).up _)
    have hi0 := fun j => s.d.inj_modInj k (fun x => x.answered value flags t0) j
    rw [← hview] at hbit
    generalize ((s.d.modInj k (fun x => x.answered value flags t0)).setLeaf 0 0x1AC (2 ^ k)).rerange x.mpa
      (if x.fast then 16 * code else code) clip false = g at *
    refine ⟨_, hx, ?_, fun j hj => ?_, fun m => ?_, ?_, ?_, finish_same ((hs0.trans (hsame.up _)).trans
      (((Dev.withMon_same _ _).trans ((Dev.count_same _ _).up _)).up _))⟩
    · rw [Dev.notify_inj]
      refine ((congrFun hinj k).trans ((hi0 k).trans (if_pos rfl))).trans ?_
      rw [hk, Inj.answered, pack_value, ← hv, ← hfl]
      simp only [Bool.and_eq_true, beq_iff_eq]
    · rw [Dev.notify_inj]
      exact (congrFun hinj j).trans ((hi0 j).trans (if_neg hj))
    · rw [Dev.notify_mrt]
      show ({ g.mrt m with range := _, low := _ } : Mrt) = _
      rw [hmrt]
      split
      · rename_i h
        subst h
        rfl
      · rfl
    · rw [Dev.notify_mon]
      exact hmets
    · rw [Dev.notify_view]
      exact hbit

end Sys2Proof.Machine

/-! ## Claimed fast lanes (O37) -/
namespace Sys2Proof.Machine
set_option Elab.async false

variable {s : State} {d : Dev} {k : Nat} {l : Fl} {v : Nat}

/-! ### Numbers in a buffer -/

/-- Each number of a list written n bytes at a time reads back. -/
theorem Memory.readNat_writeBytes_of (m : List (Nat × Byte)) (a n : Nat) {vs : List Nat} {j : Nat} (hj : j < vs.length) :
    Memory.readNat (Memory.writeBytes m a (vs.flatMap fun x => bytesLE x n)) (a + n * j) n = vs[j] % 256 ^ n := by
  have hlen : (vs.flatMap fun x => bytesLE x n).length = n * vs.length := length_flatMap_const (fun _ _ => length_bytesLE _ _)
  have hb : ((vs.flatMap fun x => bytesLE x n).drop (n * j)).take n = bytesLE vs[j] n := take_drop_flatMap hj (fun _ _ => length_bytesLE _ _)
  have hle : n * j + n ≤ n * vs.length := by
    have := Nat.mul_le_mul_left n hj
    rwa [Nat.succ_eq_add_one, Nat.mul_add_one] at this
  refine Memory.readNat_of_bytes n _ _ (fun i hi => ?_)
  rw [Nat.add_assoc, Memory.read_writeBytes_in _ _ _ _ (by omega)]
  simp only [← hb, List.getElem_take, List.getElem_drop]

/-- A buffer whose lane is cleared reads 0 there, and as before everywhere else. -/
theorem Memory.read_filter (p : Nat → Bool) (m : List (Nat × Byte)) (a : Nat) :
    Memory.read (m.filter fun x => p x.1) a = if p a then Memory.read m a else 0 := by
  induction m with
  | nil => simp [Memory.read, Tab.get, blankByte]
  | cons e m ih =>
    obtain ⟨b, x⟩ := e
    simp only [Memory.read] at ih ⊢
    by_cases hb : b = a
    · subst hb
      by_cases hp : p b = true <;> simp [hp, Tab.get, ih]
    · by_cases hp : p b = true <;> simp [hp, Tab.get, ih, hb]

/-! ### Writes of FL_CTL -/

/-- A lane that is not armed takes the fields of the write. -/
def Fl.set (l : Fl) (v : Nat) : Fl := { l with tap := v % 2048, rangeSel := fieldOf v 11 2, trig := fieldOf v 14 2, pre := fieldOf v 17 7,
                                               len := fieldOf v 24 4, seqTrig := fieldOf v 28 2 }

theorem flWrite_next (hr : s.d.reach 0 = true) (hk : k < 128) : flWrite s 0 k v =
    .next { s with d := ((s.d.count 3021).flCtlWrite k v).2.notify,
                   mem := if ((s.d.count 3021).flCtlWrite k v).1 then s.mem.clearLane k else s.mem } := by
  unfold flWrite
  rw [if_neg (by simp [hr]), if_neg (by omega)]

theorem flCtlWrite_claim (ha : (d.fl k).arm = false) (h13 : bitOf v 13 = true) (h16 : bitOf v 16 = false) (hc : (d.fl k).claim = false) :
    d.flCtlWrite k v = (false, d.modFl k (fun _ => ((d.fl k).set v).claimed)) := by
  unfold Dev.flCtlWrite
  extract_lets l cut l1 on l2 d1
  have h1 : l1 = (d.fl k).set v := if_neg (by simp [l, ha])
  have h2 : l2 = ((d.fl k).set v).claimed := by
    rw [← h1]
    exact if_pos (by simp [on, h13, h1, Fl.set, hc])
  have hd : d1 = d := if_neg (by simp [on, h13])
  rw [if_neg (by simp [h16]), h2, hd]

/-- A free lane becomes claimed, one that the commit unit uses has its claim wait; nothing else of its row changes. -/
theorem Fl.claimed_of {l : Fl} (hb : l.bad = false) : l.claimed.claim = true ∧
    (l.state = .free → l.claimed.state = .claimed ∧ l.claimed.claimPend = l.claimPend) ∧
    (l.state ∈ [FlSt.reserved, .verify] → l.claimed.state = l.state ∧ l.claimed.claimPend = true ∧ l.claimed.att = l.att) ∧
    { l.claimed with claim := l.claim, state := l.state, claimPend := l.claimPend } = l := by
  by_cases hf : l.state = .free
  · rw [show l.claimed = { l with claim := true, state := .claimed } from if_pos ⟨hf, by simp [hb]⟩]
    exact ⟨rfl, fun _ => ⟨rfl, rfl⟩, fun h => by rw [hf] at h; simp at h, rfl⟩
  · rw [show l.claimed = { l with claim := true, claimPend := true } from if_neg (fun h => hf h.1)]
    exact ⟨rfl, fun h => absurd h hf, fun _ => ⟨rfl, rfl, rfl⟩, rfl⟩

/-- The lane's row once the fields of a write of FL_CTL have been taken, which an armed lane does not. -/
def Fl.taken (l : Fl) (v : Nat) : Fl := if l.arm then l else l.set v

theorem Fl.taken_keeps (l : Fl) (v : Nat) :
    (l.taken v).claim = l.claim ∧ (l.taken v).state = l.state ∧ (l.taken v).flags = l.flags ∧ (l.taken v).bad = l.bad := by
  unfold Fl.taken
  split <;> exact ⟨rfl, rfl, rfl, rfl⟩

theorem flCtlWrite_unclaim (h13 : bitOf v 13 = false) (h16 : bitOf v 16 = false) (hc : (d.fl k).claim = true) : d.flCtlWrite k v =
    (false, (if (d.fl k).state == .armed || (d.fl k).state == .capturing then d.count 2947 else d).modFl k (fun _ =>
      ((d.fl k).taken v).unclaimed (d.flPtr ((d.fl k).taken v)))) := by
  have hcl := ((d.fl k).taken_keeps v).1.trans hc
  unfold Dev.flCtlWrite
  extract_lets l cut l1 on l2 d1
  have h1 : l1 = (d.fl k).taken v := rfl
  have h2 : l2 = ((d.fl k).taken v).unclaimed (d.flPtr ((d.fl k).taken v)) := by
    rw [← h1]
    exact (if_neg (by simp [on, h13])).trans (if_pos (by simp [on, h13, h1, hcl]))
  have hd : d1 = if (d.fl k).state == .armed || (d.fl k).state == .capturing then d.count 2947 else d := by
    simp only [d1, on, h13, h1, hcl, Bool.not_false, Bool.true_and]
    rfl
  rw [if_neg (by simp [h16]), h2, hd]

/-- Giving up a lane that software had. -/
theorem Fl.unclaimed_of {l : Fl} {p : Nat} (hs : l.state ∈ [FlSt.claimed, .armed, .capturing, .done]) :
    l.unclaimed p = { l with claim := false, claimPend := false, state := .free, att := none, arm := false, aborted := true,
                             flags := if l.state ∈ [FlSt.armed, .capturing] then 3 else l.flags, wrPtr := p } := by
  unfold Fl.unclaimed
  rw [if_neg (by rintro (h | h | h) <;> simp only at h <;> rw [h] at hs <;> simp at hs)]
  simp

/-! ### ARM -/

theorem tapMpa_set (l : Fl) (v : Nat) : tapMpa (l.set v).tap = mkMpa (outVoa (v / 1024 % 2) (v / 2 % 512)) (v % 2) := by
  have h1 : v % 2048 / 1024 % 2 = v / 1024 % 2 := by omega
  have h2 : v % 2048 / 2 % 512 = v / 2 % 512 := by omega
  have h3 : v % 2048 % 2 = v % 2 := by omega
  rw [tapMpa, Fl.set, h1, h2, h3]

theorem flCtlWrite_arm (ha : (d.fl k).arm = false) (h13 : bitOf v 13 = true) (h16 : bitOf v 16 = true) (hc : (d.fl k).claim = true)
    (hs : (d.fl k).state ∈ [FlSt.claimed, .done]) (hp : 16 * fieldOf v 17 7 < 256 * (fieldOf v 24 4 + 1)) : d.flCtlWrite k v =
    if d.tapBusy k ((d.fl k).set v) then (false, d.modFl k (fun _ => { (d.fl k).set v with tapBusy := true }))
    else (true, d.modFl k (fun _ => d.armed k ((d.fl k).set v))) := by
  have hs' : ((d.fl k).set v).state = (d.fl k).state := rfl
  have hpl : ((d.fl k).set v).preN < ((d.fl k).set v).length := hp
  have hcl : ((d.fl k).set v).claim = true := hc
  unfold Dev.flCtlWrite
  extract_lets l cut l1 on l2 d1
  have h1 : l1 = (d.fl k).set v := if_neg (by simp [l, ha])
  have h2 : l2 = (d.fl k).set v := by
    rw [← h1]
    exact (if_neg (by simp [on, h13, h1, hcl])).trans (if_neg (by simp [on, h13]))
  have hd : d1 = d := if_neg (by simp [on, h13])
  rw [h2, hd, if_pos (by simp [h16, on, h13, hpl, hs'] ; simpa using hs)]

theorem Dev.tapBusy_iff {l : Fl} : d.tapBusy k l = true ↔ ∃ j, j < 128 ∧ j ≠ k ∧ (d.fl j).att = some (tapMpa l.tap) ∧ (d.fl j).state ≠ .free := by
  simp [Dev.tapBusy, and_assoc]

/-- An armed lane records at once, or waits for its trigger. -/
theorem Dev.armed_fields (d : Dev) (k : Nat) (l : Fl) : (d.armed k l).state = (if l.trig = 0 then .capturing else .armed) ∧
    (d.armed k l).arm = true ∧ (d.armed k l).armAt = d.tb2 ∧ (l.trig = 0 → (d.armed k l).trigTime = d.tb2) ∧
    (d.armed k l).att = some (tapMpa l.tap) ∧ (d.armed k l).flags = 3 := by
  unfold Dev.armed
  extract_lets m l1
  by_cases h : l.trig = 0
  · rw [if_pos (show l1.trig = 0 from h), if_pos h]
    exact ⟨rfl, rfl, rfl, fun _ => rfl, rfl, rfl⟩
  · rw [if_neg (show ¬ l1.trig = 0 from h), if_neg h]
    exact ⟨rfl, rfl, rfl, fun h0 => absurd h0 h, rfl, rfl⟩

theorem Mem.read_clearLane (m : Mem) (k a : Nat) : Memory.read (m.clearLane k).fcb a = if a / 0x2000 = k then 0 else Memory.read m.fcb a := by
  rw [Mem.clearLane]
  refine (Memory.read_filter (fun b => b / 0x2000 != k) m.fcb a).trans ?_
  by_cases h : a / 0x2000 = k <;> simp [h]

/-! ### The end of a capture -/

/-- The word of a sample as the lane stores it. -/
def Fl.word (l : Fl) (ws : List (BitVec 12)) (j : Nat) : Nat :=
  pack [((ws.getD j 0).toNat, 0), (l.range, 12), (b2n ((ws.getD j 0).toNat == 4095), 14)] + if j = l.preN then 32768 else 0

theorem Fl.buffer_whole (l : Fl) (ws : List (BitVec 12)) :
    l.buffer (ws.map (·.toNat)) 0 = ((List.range ws.length).map (l.word ws)).flatMap fun x => bytesLE x 2 := by
  have h0 : ∀ j, (ws.map (·.toNat)).getD j 0 = (ws.getD j 0).toNat := by
    intro j
    simp only [List.getD_eq_getElem?_getD, List.getElem?_map]
    cases ws[j]? <;> rfl
  rw [Fl.buffer, List.flatMap_map, List.length_map]
  simp only [h0, Nat.not_lt_zero, if_false]
  rfl

theorem Fl.word_eq (l : Fl) (ws : List (BitVec 12)) (j : Nat) : l.word ws j = (ws.getD j 0).toNat + l.range * 4096 +
    (if ws.getD j 0 = 4095 then 16384 else 0) + (if j = l.preN then 32768 else 0) := by
  have hc : (ws.getD j 0).toNat = 4095 ↔ ws.getD j 0 = 4095 := by
    rw [← BitVec.toNat_inj]
    rfl
  rw [Fl.word, pack_cons, pack_cons, pack_cons, pack_nil]
  dsimp only
  by_cases h : ws.getD j 0 = 4095
  · rw [if_pos h, show b2n ((ws.getD j 0).toNat == 4095) = 1 by rw [hc.mpr h]; rfl]
    omega
  · rw [if_neg h, show b2n ((ws.getD j 0).toNat == 4095) = 0 by rw [beq_eq_false_iff_ne.mpr (mt hc.mp h)]; rfl]
    omega

theorem Fl.word_lt (l : Fl) (ws : List (BitVec 12)) (j : Nat) (hr : l.range < 4) : l.word ws j < 65536 := by
  have hw := (ws.getD j 0).isLt
  rw [Fl.word_eq]
  split <;> split <;> omega

/-- The row of a lane whose capture has ended, its summary aside. -/
def Fl.done (l r : Fl) (clip : Bool) : Fl :=
  { r with state := .done, arm := false, tag := (l.tag + 1) % 64, flags := if clip then 2 else 0, wrPtr := l.length - 1 }

/-- The device once a capture has ended. -/
def Dev.captured (d : Dev) (k : Nat) (r : Fl) (clip : Bool) : Dev :=
  ((if clip then (d.modFl k (fun _ => (d.fl k).done r clip)).count 2948 else d.modFl k (fun _ => (d.fl k).done r clip)).count 2946).setLeaf 0
    (0x1B0 + 4 * (k / 32)) (2 ^ (k % 32))

theorem Dev.captured_parts (d : Dev) (k : Nat) (r : Fl) (clip : Bool) : (d.captured k r clip).fl = (d.modFl k (fun _ => (d.fl k).done r clip)).fl ∧
    Dev.sameBut [.mon, .views] d (d.captured k r clip) := by
  have hs : Dev.sameBut [.mon, .views] d (d.modFl k (fun _ => (d.fl k).done r clip)) := (d.modFl_same k _).mono (by decide)
  cases clip
  · exact ⟨rfl, (hs.trans ((Dev.count_same _ _).up _)).trans ((Dev.setLeaf_same _ _ _ _).up _)⟩
  · exact ⟨rfl, ((hs.trans ((Dev.count_same _ _).up _)).trans ((Dev.count_same _ _).up _)).trans ((Dev.setLeaf_same _ _ _ _).up _)⟩

theorem exec_captureComplete_whole {m e : Nat} {ws : List (BitVec 12)} (ha : (s.d.fl k).att = some m) (hs : (s.d.fl k).state = .capturing)
    (hc : s.d.clocked = true) (ht : (s.d.fl k).trigTime + 4 * ((s.d.fl k).length - (s.d.fl k).preN) ≤ s.d.tb2)
    (hp : (s.d.fl k).preN ≤ (s.d.fl k).length) (hg : (s.d.fl k).preGot = (s.d.fl k).preN) (hw : ws.length = (s.d.fl k).length) :
    ∃ r, exec (.captureComplete k ws e) s = .next { s with
      d := (s.d.captured k r (ws.any fun c => c.toNat == 4095)).notify,
      mem := { s.mem with fcb := Memory.writeBytes s.mem.fcb (0x2000 * k) ((s.d.fl k).buffer (ws.map (·.toNat)) 0) } } := by
  rw [exec_captureComplete, execCaptureComplete]
  simp only [ha]
  rw [if_neg (by simp [hs, hc, hg, hw]; omega)]
  simp only [hg, Nat.sub_self, List.replicate_zero, List.nil_append]
  exact ⟨_, rfl⟩

theorem any_clip (ws : List (BitVec 12)) : (ws.any fun c => c.toNat == 4095) = true ↔ ∃ c ∈ ws, c = 4095 := by
  have hc : ∀ c : BitVec 12, c.toNat = 4095 ↔ c = 4095 := fun c => by rw [← BitVec.toNat_inj]; rfl
  simp only [List.any_eq_true, beq_iff_eq, hc]

/-- Settles O37, write by write. -/
theorem lanesAreClaimed : Obligations.LanesAreClaimed := by
  refine ⟨?_, ?_, ?_, ?_⟩
  · intro s k v hr hk h13 h16 hc ha hb
    have hx : exec (.claim 0 k v) s = _ := flWrite_next (v := v.toNat) hr hk
    rw [flCtlWrite_claim (d := s.d.count 3021) ha h13 h16 hc] at hx
    have hself := Dev.fl_modFl_self (s.d.count 3021) k (fun _ => ((s.d.fl k).set v.toNat).claimed)
    obtain ⟨hclaim, hfree, hused, hrest⟩ := Fl.claimed_of (l := (s.d.fl k).set v.toNat) hb
    rw [← hself] at hclaim hfree hused hrest
    refine ⟨_, hx, fun j hj => ?_, ?_, ?_, ?_, ?_, ?_, ?_, ?_, ?_, ?_, finish_same (((Dev.count_same _ _).up _).trans (Dev.modFl_same _ _ _))⟩
    all_goals rw [Dev.notify_fl]
    · exact (Dev.fl_modFl _ _ _ _).trans (if_neg hj)
    · exact hclaim
    · exact hfree
    · exact hused
    · exact congrArg Fl.tap hrest
    · exact congrArg Fl.rangeSel hrest
    · exact congrArg Fl.trig hrest
    · exact congrArg Fl.pre hrest
    · exact congrArg Fl.len hrest
    · exact congrArg Fl.seqTrig hrest
  · intro s k v hr hk h13 hc hs h16
    have hx : exec (.claimClear 0 k v) s = _ := flWrite_next (v := v.toNat) hr hk
    rw [flCtlWrite_unclaim (d := s.d.count 3021) h13 h16 hc] at hx
    obtain ⟨-, hst, hfl, -⟩ := (s.d.fl k).taken_keeps v.toNat
    have hcut : (if ((s.d.count 3021).fl k).state == .armed || ((s.d.count 3021).fl k).state == .capturing then (s.d.count 3021).count 2947
        else s.d.count 3021).fl = s.d.fl := by split <;> rfl
    have hsame : Dev.sameBut [] s.d (if ((s.d.count 3021).fl k).state == .armed || ((s.d.count 3021).fl k).state == .capturing
        then (s.d.count 3021).count 2947 else s.d.count 3021) := by
      split
      · exact (Dev.count_same _ _).trans (Dev.count_same _ _)
      · exact Dev.count_same _ _
    generalize (if ((s.d.count 3021).fl k).state == .armed || ((s.d.count 3021).fl k).state == .capturing then (s.d.count 3021).count 2947
        else s.d.count 3021) = e at hx hcut hsame
    have hself := (Dev.fl_modFl_self e k (fun _ => ((s.d.fl k).taken v.toNat).unclaimed ((s.d.count 3021).flPtr ((s.d.fl k).taken v.toNat)))).trans
      (Fl.unclaimed_of (by rw [hst]; exact hs))
    refine ⟨_, hx, ?_, ?_, ?_, ?_, ?_, ?_, fun j hj => ?_, finish_same ((hsame.up _).trans (Dev.modFl_same _ _ _))⟩
    all_goals rw [Dev.notify_fl]
    · exact congrArg Fl.claim hself
    · exact congrArg Fl.state hself
    · exact congrArg Fl.att hself
    · exact congrArg Fl.aborted hself
    · exact congrArg Fl.arm hself
    · refine (congrArg Fl.flags hself).trans ?_
      simp only [hst, hfl]
    · rw [Dev.fl_modFl, if_neg hj, hcut]
  · intro s k v hr hk h13 h16 hc ha hs hp
    have hx : exec (.arm 0 k v) s = _ := flWrite_next (v := v.toNat) hr hk
    rw [flCtlWrite_arm (d := s.d.count 3021) ha h13 h16 hc hs hp, show (s.d.count 3021).fl k = s.d.fl k from rfl] at hx
    have hbusy := Dev.tapBusy_iff (d := s.d.count 3021) (k := k) (l := (s.d.fl k).set v.toNat)
    rw [tapMpa_set] at hbusy
    refine ⟨fun hfree => ?_, fun hex => ?_⟩
    · have hb : ¬ (s.d.count 3021).tapBusy k ((s.d.fl k).set v.toNat) = true := by
        rw [hbusy]
        rintro ⟨j, hj, hjk, -, hne⟩
        exact hne (hfree j hj hjk)
      rw [if_neg hb] at hx
      obtain ⟨h1, h2, h3, h4, h5, h6⟩ := (s.d.count 3021).armed_fields k ((s.d.fl k).set v.toNat)
      rw [tapMpa_set] at h5
      have hself := Dev.fl_modFl_self (s.d.count 3021) k (fun _ => (s.d.count 3021).armed k ((s.d.fl k).set v.toNat))
      refine ⟨_, hx, ?_, ?_, ?_, fun h0 => ?_, ?_, ?_, fun j hj => ?_, fun a => Mem.read_clearLane s.mem k a, rfl, rfl, rfl, rfl, ?_⟩
      · rw [Dev.notify_fl]; exact (congrArg Fl.state hself).trans h1
      · rw [Dev.notify_fl]; exact (congrArg Fl.arm hself).trans h2
      · rw [Dev.notify_fl]; exact (congrArg Fl.armAt hself).trans h3
      · rw [Dev.notify_fl]; exact (congrArg Fl.trigTime hself).trans (h4 h0)
      · rw [Dev.notify_fl]; exact (congrArg Fl.att hself).trans h5
      · rw [Dev.notify_fl]; exact (congrArg Fl.flags hself).trans h6
      · rw [Dev.notify_fl]
        exact (Dev.fl_modFl _ _ _ _).trans (if_neg hj)
      · exact (((Dev.count_same _ _).up _).trans (Dev.modFl_same _ _ _)).trans ((Dev.notify_same _).up _)
    · have hb : (s.d.count 3021).tapBusy k ((s.d.fl k).set v.toNat) = true := by
        rw [hbusy]
        obtain ⟨j, hj, hjk, hne, hatt⟩ := hex
        exact ⟨j, hj, hjk, hatt, hne⟩
      rw [if_pos hb] at hx
      dsimp only at hx
      have hself := Dev.fl_modFl_self (s.d.count 3021) k (fun _ => { (s.d.fl k).set v.toNat with tapBusy := true })
      refine ⟨_, hx, ?_, ?_, ?_, fun j hj => ?_, finish_same (((Dev.count_same _ _).up _).trans (Dev.modFl_same _ _ _))⟩
      · rw [Dev.notify_fl]; exact (congrArg Fl.state hself).trans rfl
      · rw [Dev.notify_fl]; exact congrArg Fl.tapBusy hself
      · rw [Dev.notify_fl]; exact (congrArg Fl.arm hself).trans ha
      · rw [Dev.notify_fl]
        exact (Dev.fl_modFl _ _ _ _).trans (if_neg hj)
  · intro s k m e ws ha hs hc ht hp hg hw hr
    obtain ⟨r, hx⟩ := exec_captureComplete_whole (e := e) ha hs hc ht hp hg hw
    rw [Fl.buffer_whole] at hx
    obtain ⟨hfl, hsame⟩ := s.d.captured_parts k r (ws.any fun c => c.toNat == 4095)
    have hself := (congrFun hfl k).trans (Dev.fl_modFl_self s.d k _)
    have hlen : (((List.range ws.length).map ((s.d.fl k).word ws)).flatMap fun x => bytesLE x 2).length = 2 * (s.d.fl k).length := by
      rw [length_flatMap_const (m := 2) (fun _ _ => length_bytesLE _ _), List.length_map, List.length_range, hw]
    refine ⟨_, hx, ?_, ?_, ?_, ?_, ?_, fun j hj => ?_, ?_, fun j hj => ?_, fun a ha => ?_, rfl, rfl, rfl, rfl, hsame.trans ((Dev.notify_same _).up _)⟩
    · rw [Dev.notify_fl]; exact congrArg Fl.state hself
    · rw [Dev.notify_fl]; exact congrArg Fl.arm hself
    · rw [Dev.notify_fl]; exact congrArg Fl.tag hself
    · rw [Dev.notify_fl]
      refine (congrArg Fl.flags hself).trans ?_
      simp only [Fl.done, any_clip]
    · rw [Dev.notify_fl]; exact congrArg Fl.wrPtr hself
    · rw [Dev.notify_fl, hfl, Dev.fl_modFl, if_neg hj]
    · rw [Dev.notify_view, Dev.captured, Dev.leaf_setLeaf_self, bitOf_or]
      simp [bitOf, Nat.div_self (Nat.two_pow_pos _)]
    · have hj' : j < ((List.range ws.length).map ((s.d.fl k).word ws)).length := by rw [List.length_map, List.length_range, hw]; exact hj
      refine (Memory.readNat_writeBytes_of s.mem.fcb (0x2000 * k) 2 hj').trans ?_
      rw [List.getElem_map, List.getElem_range, Nat.mod_eq_of_lt (show _ < 256 ^ 2 from Fl.word_lt _ _ _ hr), Fl.word_eq]
    · exact Memory.read_writeBytes_out _ _ _ _ (by rw [hlen]; exact ha)

end Sys2Proof.Machine

/-! ## Shapes, tones and drive faults (O38) -/
namespace Sys2Proof.Machine
set_option Elab.async false

variable {s : State} {d : Dev}

/-! ### Distinct entries of a list -/

theorem length_eraseDups_le {α : Type} [DecidableEq α] (l : List α) : l.eraseDups.length ≤ l.length := by
  induction h : l.length using Nat.strong_induction_on generalizing l with
  | _ n ih =>
    cases l with
    | nil => simp
    | cons a l =>
      have hf := List.length_filter_le (fun b => !b == a) l
      rw [List.length_cons] at h
      have := ih _ (by omega) (l.filter fun b => !b == a) rfl
      rw [List.eraseDups_cons, List.length_cons]
      omega

/-- Removing duplicates shortens a list exactly where there are some. -/
theorem length_eraseDups_iff {α : Type} [DecidableEq α] (l : List α) : l.eraseDups.length = l.length ↔ l.Nodup := by
  induction l with
  | nil => simp
  | cons a l ih =>
    have hf := List.length_filter_le (fun b => !b == a) l
    have hd := length_eraseDups_le (l.filter fun b => !b == a)
    rw [List.eraseDups_cons, List.length_cons, List.length_cons, List.nodup_cons]
    by_cases ha : a ∈ l
    · have hlt : (l.filter fun b => !b == a).length < l.length := by
        rw [List.length_filter_lt_length_iff_exists]
        exact ⟨a, ha, by simp⟩
      simp only [ha, not_true_eq_false, false_and, iff_false]
      omega
    · have he : l.filter (fun b => !b == a) = l := by
        rw [List.filter_eq_self]
        intro b hb
        have : b ≠ a := fun h => ha (h ▸ hb)
        simpa using this
      rw [he]
      simpa [ha] using ih

/-! ### Tables changed entry by entry -/

theorem Tab.mapVals_cons {α : Type} [DecidableEq α] {d : α} {f : Nat → α → α} (k : Nat) (v : α) (t : Tab α) :
    Tab.mapVals d f ((k, v) :: t) = if f k v = d then Tab.mapVals d f t else (k, f k v) :: Tab.mapVals d f t := by
  by_cases hv : f k v = d <;> simp [Tab.mapVals, hv]

theorem Tab.get_mapVals_of_above {α : Type} [DecidableEq α] {d : α} {f : Nat → α → α} : ∀ {t : Tab α} {b j : Nat}, Tab.wf d t = true →
    Tab.above b t → j ≤ b → (t.mapVals d f).get d j = d := by
  intro t
  induction t with
  | nil => intro _ _ _ _ _; rfl
  | cons p t ih =>
    obtain ⟨k, v⟩ := p
    intro b j hw ha hj
    have hk : b < k := ha
    rw [Tab.wf_cons] at hw
    obtain ⟨-, ha', hw⟩ := hw
    have hr := ih hw ha' (show j ≤ k by omega)
    rw [Tab.mapVals_cons]
    split
    · exact hr
    · have hne : k ≠ j := by omega
      simpa [Tab.get, hne] using hr

/-- In canonical form each entry reads as its own change, or as it was, where it was the default. -/
theorem Tab.get_mapVals_or {α : Type} [DecidableEq α] {d : α} {f : Nat → α → α} : ∀ {t : Tab α} (j : Nat), Tab.wf d t = true →
    (t.mapVals d f).get d j = f j (Tab.get d t j) ∨ (t.mapVals d f).get d j = Tab.get d t j := by
  intro t
  induction t with
  | nil => exact fun _ _ => .inr rfl
  | cons p t ih =>
    obtain ⟨k, v⟩ := p
    intro j hw
    rw [Tab.wf_cons] at hw
    obtain ⟨-, ha, hw⟩ := hw
    rw [Tab.mapVals_cons]
    by_cases hj : k = j
    · subst hj
      have hr : Tab.get d ((k, v) :: t) k = v := by simp [Tab.get]
      rw [hr]
      split
      · next hv => exact .inl ((Tab.get_mapVals_of_above hw ha le_rfl).trans hv.symm)
      · left; simp [Tab.get]
    · have hr : Tab.get d ((k, v) :: t) j = Tab.get d t j := by simp [Tab.get, hj]
      rw [hr]
      split
      · exact ih j hw
      · have : Tab.get d ((k, f k v) :: Tab.mapVals d f t) j = (Tab.mapVals d f t).get d j := by simp [Tab.get, hj]
        rw [this]
        exact ih j hw

/-! ### Shape loads -/

/-- A request for a shape load names its segment. -/
def Dev.shapeNamed (d : Dev) (g : Nat) : Dev := { d with drv := { d.drv with shapeSeg := g } }

theorem drvCtl_shape {v : Nat} (h0 : bitOf v 0 = true) (h7 : bitOf v 7 = false) :
    d.drvCtl v = (d.shapeNamed (fieldOf v 1 6)).shapeLoadReq (fieldOf v 1 6) := by
  unfold Dev.drvCtl
  simp only [h0, h7, if_true, Bool.false_eq_true, if_false]
  rfl

theorem shapeLoadReq_taken {g : Nat} (hs : d.drv.shapeLoad = false) (ha : d.segActive g = false) (hl : (d.seq.desc g).len = 63) :
    d.shapeLoadReq g = { d with drv := { d.drv with shapeLoad := true, copySeg := g } } := by
  rw [Dev.shapeLoadReq]
  exact if_neg (by simp [hs, ha, hl])

theorem shapeLoadReq_dropped {g : Nat} (h : d.drv.shapeLoad = true ∨ d.segActive g = true ∨ (d.seq.desc g).len ≠ 63) :
    d.shapeLoadReq g = ({ d with drv := { d.drv with err := d.drv.err ||| 16 } } : Dev).once 54 0 := by
  rw [Dev.shapeLoadReq]
  exact if_pos (by simpa [or_assoc] using h)

/-! ### Tone plans -/

theorem drvCtl_tone {v : Nat} (h0 : bitOf v 0 = false) (h7 : bitOf v 7 = true) : d.drvCtl v = (d.shapeNamed (fieldOf v 1 6)).toneApplyReq := by
  unfold Dev.drvCtl
  simp only [h0, h7, if_true, Bool.false_eq_true, if_false]
  rfl

/-- A plan that may be applied: 32 distinct tones of 20 to 60 kHz. -/
def Dev.tonesOk (d : Dev) : Prop := ∀ k, k < 32 → 20 ≤ d.toneSet k ∧ d.toneSet k ≤ 60 ∧ ∀ j, j < k → d.toneSet j ≠ d.toneSet k

theorem Dev.tonesOk_iff : (((List.range 32).map d.toneSet).all (fun f => decide (20 ≤ f) && decide (f ≤ 60)) &&
    decide (((List.range 32).map d.toneSet).eraseDups.length = 32)) = true ↔ d.tonesOk := by
  have hlen : ((List.range 32).map d.toneSet).length = 32 := by simp
  have hnd : ((List.range 32).map d.toneSet).eraseDups.length = 32 ↔ ∀ k, k < 32 → ∀ j, j < k → d.toneSet j ≠ d.toneSet k := by
    have h := length_eraseDups_iff ((List.range 32).map d.toneSet)
    rw [hlen] at h
    rw [h, List.Nodup, List.pairwise_map, List.pairwise_iff_getElem]
    simp only [List.getElem_range, List.length_range]
    exact ⟨fun h k hk j hj => h j k (by omega) hk hj, fun h i j _ hj hij => h j hj i hij⟩
  simp only [Bool.and_eq_true, decide_eq_true_eq, hnd, List.all_eq_true, List.mem_map, List.mem_range, forall_exists_index, and_imp,
    forall_apply_eq_imp_iff₂, Dev.tonesOk]
  exact ⟨fun h k hk => ⟨(h.1 k hk).1, (h.1 k hk).2, h.2 k hk⟩, fun h => ⟨fun k hk => ⟨(h k hk).1, (h k hk).2.1⟩, fun k hk => (h k hk).2.2⟩⟩

theorem toneApplyReq_taken (h : d.tonesOk) : d.toneApplyReq =
    { d with drv := { d.drv with toneApply := true, toneNew := d.drv.tone, toneAt := (d.tb2 + 1000 + 999999) / 1000000 * 1000000 } } := by
  rw [Dev.toneApplyReq]
  exact if_pos (Dev.tonesOk_iff.mpr h)

theorem toneApplyReq_rejected (h : ¬ d.tonesOk) : d.toneApplyReq = ({ d with drv := { d.drv with err := d.drv.err ||| 32 } } : Dev).once 55 0 := by
  rw [Dev.toneApplyReq]
  exact if_neg (fun hc => h (Dev.tonesOk_iff.mp hc))

/-! ### A plan that comes into force -/

/-- The plan in force once its millisecond has come. -/
def Dev.planTaken (d : Dev) : Dev :=
  { d with drv := { d.drv with toneApply := false, toneOn := d.drv.toneNew, toneNew := [], demodAt := d.drv.toneAt + 1000000 } }

/-- A loop's dither follows the new plan. -/
def Dev.retoned (d : Dev) (aa : Nat) (l : Loop) : Loop := if l.dither then { l with ap := d.ditherPower aa l.ampl } else l

/-- Demodulators and dithers start anew. -/
def Dev.replanned (d : Dev) : Dev :=
  { d.planTaken with fab := { d.fab with
    cells := d.fab.cells.mapVals {} (fun _ c => { c with demod := [] }), loops := d.fab.loops.mapVals {} d.planTaken.retoned } }

theorem exec_tonePlanChange_next (h : s.d.drv.toneApply = true) (ht : s.d.drv.toneAt ≤ s.d.tb2) :
    exec .tonePlanChange s = .next { s with d := s.d.replanned.notify } := by
  rw [exec_tonePlanChange, execTonePlanChange, if_neg (by simp [h]; omega), finish_next]
  rfl

theorem Dev.ditherPower_of {d e : Dev} (hd : e.drv = d.drv) (hc : e.cal = d.cal) (ht : e.fab.tiles = d.fab.tiles) : e.ditherPower = d.ditherPower := by
  have h1 : e.cellCoeff = d.cellCoeff := by
    unfold Dev.cellCoeff Dev.cellTemp Dev.tile
    rw [hc, ht]
  have h2 : e.toneOf = d.toneOf := by
    unfold Dev.toneOf Dev.toneNow
    rw [hd]
  unfold Dev.ditherPower Dev.pTurn
  rw [h1, h2]

/-! ### Drive faults -/

theorem planeACa_planeACa (ca : Nat) : planeACa (planeACa ca) = planeACa ca := by
  unfold planeACa
  omega

theorem Dev.pathFaults_signals (d : Dev) (n : Net) : d.signals [40, 68] (d.pathFaults n) := by
  unfold Dev.pathFaults
  extract_lets bad want d1
  have h1 : d.signals [40, 68] d1 := .foldl (fun d x => (d.condOff_signals 40 x).mono (by simp)) _ d
  exact h1.trans (.foldl (fun d x => d.condOn_signals 40 x) _ d1)

theorem Dev.cons_setCons (d : Dev) (ca x : Nat) (c : Cons) : (d.setCons ca c).cons x = if planeACa x = planeACa ca then c else d.cons x := by
  unfold Dev.cons Dev.setCons
  exact Tab.get_set _ _ _ _ _

theorem Dev.setCons_same (d : Dev) (ca : Nat) (c : Cons) : Dev.sameBut [.fab] d (d.setCons ca c) := d.withFab_same _

/-- What a constraint leaves of cells and constraints. -/
theorem Dev.constrain_frame (d : Dev) (n : Net) (ca src : Nat) :
    (∀ x, ((d.constrain n ca src).cell x).hzH = (d.cell x).hzH ∧ ((d.constrain n ca src).cell x).hzF = (d.cell x).hzF) ∧
    (∀ x, planeACa x ≠ planeACa ca → (d.constrain n ca src).cell x = d.cell x ∧ (d.constrain n ca src).cons x = d.cons x) ∧
    (d.constrain n ca src).fab.loops = d.fab.loops ∧ Dev.sameBut [.fab] d (d.constrain n ca src) := by
  have hcell : ∀ (e : Dev) (k : Nat) (f : Cell → Cell), (∀ c, (f c).hzH = c.hzH ∧ (f c).hzF = c.hzF) →
      ∀ x, ((e.modCell k f).cell x).hzH = (e.cell x).hzH ∧ ((e.modCell k f).cell x).hzF = (e.cell x).hzF := by
    intro e k f hf x
    rw [Dev.cell_modCell]
    split
    · next h => rw [h]; exact hf _
    · exact ⟨rfl, rfl⟩
  have hforce : ∀ c : Cons,
      (∀ x, (((d.setCons ca c).modCell (planeACa ca) (fun x => { x with devCons := true })).cell x).hzH = (d.cell x).hzH ∧
        (((d.setCons ca c).modCell (planeACa ca) (fun x => { x with devCons := true })).cell x).hzF = (d.cell x).hzF) ∧
      (∀ x, planeACa x ≠ planeACa ca → ((d.setCons ca c).modCell (planeACa ca) (fun x => { x with devCons := true })).cell x = d.cell x ∧
        ((d.setCons ca c).modCell (planeACa ca) (fun x => { x with devCons := true })).cons x = d.cons x) ∧
      ((d.setCons ca c).modCell (planeACa ca) (fun x => { x with devCons := true })).fab.loops = d.fab.loops ∧
      Dev.sameBut [.fab] d ((d.setCons ca c).modCell (planeACa ca) (fun x => { x with devCons := true })) := by
    intro c
    refine ⟨fun x => hcell (d.setCons ca c) _ (fun x => { x with devCons := true }) (fun _ => ⟨rfl, rfl⟩) x, fun x hx => ⟨?_, ?_⟩, rfl, (d.setCons_same ca c).trans (Dev.modCell_same _ _ _)⟩
    · exact (Dev.cell_modCell _ _ _ _).trans (if_neg (fun h => hx (by rw [h, planeACa_planeACa])))
    · exact (d.cons_setCons ca x c).trans (if_neg hx)
  unfold Dev.constrain
  split
  · exact ⟨fun _ => ⟨rfl, rfl⟩, fun _ _ => ⟨rfl, rfl⟩, rfl, .refl _ d⟩
  · split
    · refine ⟨fun x => hcell d _ _ (by intro c; exact ⟨rfl, rfl⟩) x, fun x hx => ⟨?_, rfl⟩, rfl, d.modCell_same _ _⟩
      exact (Dev.cell_modCell _ _ _ _).trans (if_neg (fun h => hx (by rw [h])))
    · exact hforce _
    · exact hforce _

theorem Dev.cons_constrain {n : Net} {ca src : Nat} (hs : isSwitchCa ca = true) :
    (n.swOf ca = .bar → (d.constrain n ca src).cons ca = .forcedBar) ∧ (n.swOf ca = .cross → (d.constrain n ca src).cons ca = .forcedCross) := by
  unfold Dev.constrain
  rw [if_neg (by simp [hs])]
  constructor <;> intro h <;> rw [h] <;> exact (d.cons_setCons ca ca _).trans (if_pos rfl)

/-- A cell whose heater driver (0, 1) or fast driver (2) goes high-impedance. -/
def Cell.floated (k : Nat) (c : Cell) : Cell := if k ≤ 1 then { c with hzH := true } else { c with hzF := true }

theorem Dev.driveReact_eq (d : Dev) (n : Net) {k : Nat} (ca : Nat) (hk : k ≤ 2) :
    d.driveReact n (30 + k) ca = (d.modCell ca (Cell.floated k)).constrain n ca (30 + k) := by
  have h33 : ¬ 30 + k = 33 := by omega
  have hf : (if 30 + k = 30 ∨ 30 + k = 31 then d.modCell ca (fun c => { c with hzH := true })
      else if 30 + k = 32 then d.modCell ca (fun c => { c with hzF := true }) else d) = d.modCell ca (Cell.floated k) := by
    by_cases h1 : k ≤ 1
    · rw [if_pos (by omega), show Cell.floated k = fun c => { c with hzH := true } from funext fun c => if_pos h1]
    · rw [if_neg (by omega), if_pos (by omega), show Cell.floated k = fun c => { c with hzF := true } from funext fun c => if_neg h1]
  unfold Dev.driveReact
  rw [if_neg h33, hf]

/-- What the reaction leaves: the driver is high-impedance, the cell and its twin are constrained, and nothing else of the fabric moves. -/
theorem Dev.driveReact_frame (d : Dev) (n : Net) {k ca : Nat} (hk : k ≤ 2) :
    (k ≤ 1 → ((d.driveReact n (30 + k) ca).cell ca).hzH = true) ∧ (k = 2 → ((d.driveReact n (30 + k) ca).cell ca).hzF = true) ∧
    (isSwitchCa ca = true → n.swOf ca = .bar → (d.driveReact n (30 + k) ca).cons ca = .forcedBar) ∧
    (isSwitchCa ca = true → n.swOf ca = .cross → (d.driveReact n (30 + k) ca).cons ca = .forcedCross) ∧
    (∀ x, planeACa x ≠ planeACa ca → (d.driveReact n (30 + k) ca).cell x = d.cell x ∧ (d.driveReact n (30 + k) ca).cons x = d.cons x) ∧
    (d.driveReact n (30 + k) ca).fab.loops = d.fab.loops ∧ Dev.sameBut [.fab] d (d.driveReact n (30 + k) ca) := by
  rw [Dev.driveReact_eq d n ca hk]
  obtain ⟨hhz, hother, hloops, hsame⟩ := (d.modCell ca (Cell.floated k)).constrain_frame n ca (30 + k)
  have hself : (d.modCell ca (Cell.floated k)).cell ca = (d.cell ca).floated k := (Dev.cell_modCell _ _ _ _).trans (if_pos rfl)
  refine ⟨fun h1 => ?_, fun h2 => ?_, fun hs => (Dev.cons_constrain hs).1, fun hs => (Dev.cons_constrain hs).2, fun x hx => ⟨?_, (hother x hx).2⟩, hloops,
    (d.modCell_same ca _).trans hsame⟩
  · rw [(hhz ca).1, hself, Cell.floated, if_pos h1]
  · rw [(hhz ca).2, hself, Cell.floated, if_neg (by omega)]
  · rw [(hother x hx).1, Dev.cell_modCell, if_neg (fun h => hx (by rw [h]))]

/-- The device in which a drive fault has come, and been reacted to. -/
def Dev.driveFaulted (d : Dev) (n : Net) (k ca : Nat) : Dev :=
  ((({ d with drv := { d.drv with err := d.drv.err ||| 2 ^ k } } : Dev).condOn (30 + k) ca).driveReact n (30 + k) ca).pathFaults n

theorem exec_driveFault_next {k aa : Nat} (ha : s.d.drv.armed = true) (hh : aaHole aa = false)
    (hf : k ≤ 1 ∧ aaKind aa ≤ 1 ∨ k = 2 ∧ aaKind aa = 2) : exec (.driveFault k aa) s =
      .next { s with d := (((s.d.driveFaulted s.net k (aaCell aa)).condOff (30 + k) (aaCell aa)).pathFaults s.net).notify } := by
  have hk3 : ¬ k = 3 := by omega
  have hfit : (if k ≤ 1 then decide (aaKind aa ≤ 1) else if k = 2 then aaKind aa == 2 else k == 3) = true := by
    rcases hf with ⟨h1, h2⟩ | ⟨h1, h2⟩
    · simp [h1, h2]
    · subst h1
      simp [h2]
  rw [exec_driveFault, execDriveFault]
  simp only [if_neg hk3, hfit]
  rw [if_neg (by simp [hh, ha]), finish_next]
  rfl

theorem drive_sources {k : Nat} (hk : k ≤ 2) : srcReserved (30 + k) = false ∧ 30 + k ≠ 68 ∧ 30 + k ∉ [40, 68] := by
  obtain rfl | rfl | rfl : k = 0 ∨ k = 1 ∨ k = 2 := by omega
  all_goals decide

theorem Dev.segActive_of {d e : Dev} (hq : e.seq = d.seq) (hl : e.drv.shapeLoad = d.drv.shapeLoad) (hc : e.drv.copySeg = d.drv.copySeg) :
    e.segActive = d.segActive := by
  unfold Dev.segActive Dev.segReady
  rw [hq, hl, hc]

theorem exec_shapeLoad_next {v : Word} (hr : s.d.reach 0 = true) (h0 : bitOf v.toNat 0 = true) (h7 : bitOf v.toNat 7 = false) :
    exec (.shapeLoad 0 v) s = .next { s with
      d := (((s.d.inbound true 0 0xA000 4).shapeNamed (fieldOf v.toNat 1 6)).shapeLoadReq (fieldOf v.toNat 1 6)).notify } := by
  rw [exec_shapeLoad, execShapeLoad, pf0Wr_next hr, if_pos h0, drvCtl_shape h0 h7]

theorem exec_toneApply_next {v : Word} (hr : s.d.reach 0 = true) (h0 : bitOf v.toNat 0 = false) (h7 : bitOf v.toNat 7 = true) :
    exec (.toneApply 0 v) s = .next { s with
      d := ((s.d.inbound true 0 0xA000 4).shapeNamed (fieldOf v.toNat 1 6)).toneApplyReq.notify } := by
  rw [exec_toneApply, execToneApply, pf0Wr_next hr, if_pos (by simp [h0, h7]), drvCtl_tone h0 h7]

/-- A request that is refused marks its error bit, and FS54 or FS55 occurs. -/
theorem Dev.refusal_frame (d : Dev) {n b g : Nat} (hn : n = 54 ∨ n = 55) :
    ((({ d.shapeNamed g with drv := { (d.shapeNamed g).drv with err := d.drv.err ||| b } } : Dev).once n 0).drv =
      { d.drv with shapeSeg := g, err := d.drv.err ||| b }) ∧
    ((({ d.shapeNamed g with drv := { (d.shapeNamed g).drv with err := d.drv.err ||| b } } : Dev).once n 0).src n).latched = true ∧
    Dev.sameBut [.drv, .src, .flt, .fns, .views] d
      (({ d.shapeNamed g with drv := { (d.shapeNamed g).drv with err := d.drv.err ||| b } } : Dev).once n 0) := by
  have h := ({ d.shapeNamed g with drv := { (d.shapeNamed g).drv with err := d.drv.err ||| b } } : Dev).once_signals n 0
  have h2 : srcReserved n = false ∧ n ≠ 68 := by rcases hn with rfl | rfl <;> decide
  refine ⟨h.same .drv (by decide), ?_, ?_⟩
  · rw [Dev.src_once h2.1 h2.2]
    exact (Src.marked_fields _ _ _ _ _ _).1
  · exact (((d.withDrv_same _).trans (Dev.withDrv_same _ _)).mono (by decide)).trans (h.same.mono (by decide))

/-- Settles O38, command by command. -/
theorem driversAndTheirFaults : Obligations.DriversAndTheirFaults := by
  refine ⟨?_, ?_, ?_, ?_, ?_, ?_⟩
  · intro s v hr h0 h7
    have hx := exec_shapeLoad_next hr h0 h7
    have hin := s.d.inbound_same true 0 0xA000 4
    generalize s.d.inbound true 0 0xA000 4 = e at hx hin
    have hdrv : e.drv = s.d.drv := hin .drv (by decide)
    have hseq : e.seq = s.d.seq := hin .seq (by decide)
    have hact : (e.shapeNamed (fieldOf v.toNat 1 6)).segActive = s.d.segActive :=
      Dev.segActive_of hseq (by rw [Dev.shapeNamed, hdrv]) (by rw [Dev.shapeNamed, hdrv])
    have hload : (e.shapeNamed (fieldOf v.toNat 1 6)).drv.shapeLoad = s.d.drv.shapeLoad := by rw [Dev.shapeNamed, hdrv]
    have hlen : ((e.shapeNamed (fieldOf v.toNat 1 6)).seq.desc (fieldOf v.toNat 1 6)).len = (s.d.seq.desc (fieldOf v.toNat 1 6)).len := by
      rw [Dev.shapeNamed, hseq]
    refine ⟨fun hs ha hl => ?_, fun h => ?_⟩
    · rw [shapeLoadReq_taken (hload.trans hs) (by rw [hact]; exact ha) (hlen.trans hl)] at hx
      refine ⟨_, hx, ?_, finish_same ((hin.up _).trans ((Dev.withDrv_same _ _).trans (Dev.withDrv_same _ _)))⟩
      rw [Dev.notify_drv, Dev.shapeNamed, hdrv]
    · rw [shapeLoadReq_dropped (by rw [hload, hact, hlen]; exact h)] at hx
      obtain ⟨hd, hl, hsame⟩ := e.refusal_frame (n := 54) (b := 16) (g := fieldOf v.toNat 1 6) (.inl rfl)
      refine ⟨_, hx, ?_, ?_, finish_same ((hin.up _).trans hsame)⟩
      · rw [Dev.notify_drv, ← hdrv]
        exact hd
      · rw [Dev.notify_src]
        exact hl
  · intro s h
    have hx := exec_shapeLoadComplete s
    rw [execShapeLoadComplete, if_neg (by simp [h]), finish_next] at hx
    refine ⟨_, (List.range 512).map (fun k => signedOf (Memory.read s.mem.pattern (8 * (s.d.seq.desc s.d.drv.copySeg).base + k)).toNat 8), hx, by simp,
      fun k hk => ?_, ?_, finish_same (Dev.withDrv_same _ _)⟩
    · rw [List.getD_eq_getElem _ _ (by simpa using hk), List.getElem_map, List.getElem_range]
    · rw [Dev.notify_drv]
      cases hb : s.d.drv.bank <;> rfl
  · intro s v hr h7 h0
    have hx := exec_toneApply_next hr h0 h7
    have hin := s.d.inbound_same true 0 0xA000 4
    generalize s.d.inbound true 0 0xA000 4 = e at hx hin
    have hdrv : e.drv = s.d.drv := hin .drv (by decide)
    have htone : (e.shapeNamed (fieldOf v.toNat 1 6)).toneSet = s.d.toneSet := by
      unfold Dev.toneSet
      rw [Dev.shapeNamed, hdrv]
    have hok : (e.shapeNamed (fieldOf v.toNat 1 6)).tonesOk ↔ s.d.tonesOk := by
      unfold Dev.tonesOk
      rw [htone]
    refine ⟨fun h => ?_, fun h => ?_⟩
    · rw [toneApplyReq_taken (hok.mpr h)] at hx
      refine ⟨_, ((e.shapeNamed (fieldOf v.toNat 1 6)).tb2 + 1000 + 999999) / 1000000 * 1000000, hx, ?_, ?_, ?_, ?_, finish_same ((hin.up _).trans ((Dev.withDrv_same _ _).trans (Dev.withDrv_same _ _)))⟩
      · rw [Dev.notify_drv, Dev.shapeNamed, hdrv]
      · exact Nat.mul_mod_left _ _
      all_goals
        have htb : (e.shapeNamed (fieldOf v.toNat 1 6)).tb2 = s.d.tb2 := hin.tb2
        rw [htb]
        omega
    · rw [toneApplyReq_rejected (fun hc => by
        obtain ⟨k, hk, hbad⟩ := h
        obtain ⟨h1, h2, h3⟩ := hok.mp hc k hk
        rcases hbad with hb | hb | ⟨j, hj, hb⟩
        · omega
        · omega
        · exact h3 j hj hb)] at hx
      obtain ⟨hd, hl, hsame⟩ := e.refusal_frame (n := 55) (b := 32) (g := fieldOf v.toNat 1 6) (.inr rfl)
      refine ⟨_, hx, ?_, ?_, finish_same ((hin.up _).trans hsame)⟩
      · rw [Dev.notify_drv, ← hdrv]
        exact hd
      · rw [Dev.notify_src]
        exact hl
  · intro s h ht hc hl
    have hx := exec_tonePlanChange_next h ht
    have hpow : s.d.replanned.notify.ditherPower = s.d.planTaken.ditherPower :=
      Dev.ditherPower_of (by rw [Dev.notify_drv]; rfl) (by rw [Dev.notify_cal]; rfl) (by rw [Dev.notify_fab]; rfl)
    refine ⟨_, hx, ?_, fun ca => ?_, fun aa => ?_, finish_same (((Dev.withDrv_same _ _).mono (by decide)).trans ((Dev.withFab_same _ _).up _))⟩
    · rw [Dev.notify_drv]
      rfl
    · rw [Dev.notify_cell]
      exact Tab.get_mapVals (f := fun _ (c : Cell) => { c with demod := [] }) (fun _ => rfl) ca hc
    · rw [Dev.notify_loop, hpow]
      refine (Tab.get_mapVals (f := s.d.planTaken.retoned) (fun _ => rfl) aa hl).trans ?_
      unfold Dev.retoned
      rw [← Dev.loop]
      split <;> rfl
  · intro s aa a ha hc ht hl hz
    have hx : exec (.ditherAmplitudeChange aa) s = .next { s with d := (s.d.clampScan.modLoop aa (fun l => { l with
        amplNext := none, dither := a != 0, ampl := if a = 0 then l.ampl else a, ap := s.d.ditherPower aa a })).notify } := by
      have hz' : s.d.toneOf aa * (s.d.tb2 % 1000000 / 8) % 62500 < s.d.toneOf aa := hz
      rw [exec_ditherAmplitudeChange, execDitherAmplitudeChange]
      simp only [ha]
      rw [if_pos (by simp [ht, hc, hz']), finish_next]
    have hscan : Dev.sameBut [.fab, .drv] s.d s.d.clampScan :=
      ((Dev.withFab_same s.d s.d.clampScan.fab).mono (qs := [.fab, .drv]) (by decide)).trans
        ((Dev.withDrv_same { s.d with fab := s.d.clampScan.fab } s.d.clampScan.drv).mono (by decide))
    have hclamp : ∀ b, ∃ c, s.d.clampScan.loop b = { s.d.loop b with clamped := c } := by
      intro b
      unfold Dev.clampScan
      extract_lets x ts hit
      obtain h | h := Tab.get_mapVals_or (d := {}) (f := fun aa (l : Loop) => if aaKind aa < 2 && !l.clamped && hit aa then
        { l with clamped := true } else l) b hl
      · split at h
        · exact ⟨true, h⟩
        · exact ⟨_, h⟩
      · exact ⟨_, h⟩
    refine ⟨_, hx, ?_, fun b hb => ?_, ?_, finish_same (hscan.trans ((Dev.modLoop_same _ _ _).up _))⟩
    · obtain ⟨c, hcl⟩ := hclamp aa
      rw [Dev.notify_loop, Dev.loop_modLoop, if_pos rfl, hcl]
    · obtain ⟨c, hcl⟩ := hclamp b
      rw [Dev.notify_loop, Dev.loop_modLoop, if_neg hb, hcl]
    · rw [Dev.notify_fab]
      rfl
  · intro s k aa ha hh hf hn
    have hk : k ≤ 2 := by omega
    have hx := exec_driveFault_next ha hh hf
    generalize hca : aaCell aa = ca at *
    obtain ⟨hr, h68, hno⟩ := drive_sources hk
    have hd1 : Dev.sameBut [.drv] s.d { s.d with drv := { s.d.drv with err := s.d.drv.err ||| 2 ^ k } } := Dev.withDrv_same _ _
    have hcon := Dev.condOn_signals { s.d with drv := { s.d.drv with err := s.d.drv.err ||| 2 ^ k } } (30 + k) ca
    have hsrc := Dev.src_condOn hr h68 { s.d with drv := { s.d.drv with err := s.d.drv.err ||| 2 ^ k } } ca
    have hsrc' := hsrc.trans (if_neg hn)
    rw [Dev.driveFaulted] at hx
    generalize ({ s.d with drv := { s.d.drv with err := s.d.drv.err ||| 2 ^ k } } : Dev).condOn (30 + k) ca = e at hx hcon hsrc'
    obtain ⟨hH, hF, hbar, hcross, hother, hloops, hrs⟩ := e.driveReact_frame s.net (ca := ca) hk
    have hfabE : e.fab = s.d.fab := hcon.same.fab
    have hloopsE : e.fab.loops = s.d.fab.loops := by rw [hfabE]
    generalize e.driveReact s.net (30 + k) ca = g at hx hH hF hbar hcross hother hloops hrs
    have h1 := g.pathFaults_signals s.net
    have h2 := (g.pathFaults s.net).condOff_signals (30 + k) ca
    have h3 := ((g.pathFaults s.net).condOff (30 + k) ca).pathFaults_signals s.net
    have hfab := h3.same.fab.trans (h2.same.fab.trans h1.same.fab)
    have hdrv : _ = { s.d.drv with err := s.d.drv.err ||| 2 ^ k } := (h3.same .drv (by decide)).trans ((h2.same .drv (by decide)).trans ((h1.same .drv (by decide)).trans
      ((hrs .drv (by decide)).trans (hcon.same .drv (by decide)))))
    have hsame : Dev.sameBut [.drv, .src, .flt, .fns, .views, .fab] s.d (((g.pathFaults s.net).condOff (30 + k) ca).pathFaults s.net) :=
      (((hd1.mono (by decide)).trans (hcon.same.mono (by decide))).trans (hrs.mono (by decide))).trans
        ((h1.same.mono (by decide)).trans ((h2.same.mono (by decide)).trans (h3.same.mono (by decide))))
    have hsrcEnd := (h3.src (30 + k) hno).trans (Dev.src_modSrc_self _ _ _)
    have hsrcMid : (g.pathFaults s.net).src (30 + k) = e.src (30 + k) :=
      (h1.src (30 + k) hno).trans (congrArg (fun (x : Tab Src) => x.get {} (30 + k)) (hrs .src (by decide)))
    rw [hsrcMid, hsrc'] at hsrcEnd
    obtain ⟨hl, hc, -⟩ := Src.marked_fields ({ s.d.src (30 + k) with conds := ca :: (s.d.src (30 + k)).conds } : Src) (30 + k) ca s.d.tb2 false true
    generalize ((g.pathFaults s.net).condOff (30 + k) ca).pathFaults s.net = z at *
    have hcell : z.cell = g.cell := by funext x; rw [Dev.cell, hfab, ← Dev.cell]
    have hcons : z.cons = g.cons := by funext x; rw [Dev.cons, hfab, ← Dev.cons]
    have hncons : z.notify.cons = z.cons := by funext x; rw [Dev.cons, Dev.notify_fab, ← Dev.cons]
    refine ⟨_, hx, ?_, ?_, ?_, ?_, ?_, ?_, ?_, fun x hxa => ?_, ?_, finish_same hsame⟩
    · rw [Dev.notify_drv]; exact hdrv
    · rw [Dev.notify_src]
      exact (congrArg Src.latched hsrcEnd).trans hl
    · rw [Dev.notify_src]
      exact (congrArg Src.count hsrcEnd).trans hc
    · rw [Dev.notify_cell, hcell]; exact hH
    · rw [Dev.notify_cell, hcell]; exact hF
    · rw [hncons, hcons]; exact hbar
    · rw [hncons, hcons]; exact hcross
    · rw [Dev.notify_cell, hcell, hncons, hcons, (hother x hxa).1, (hother x hxa).2, Dev.cell, hfabE, ← Dev.cell, Dev.cons, hfabE, ← Dev.cons]
      exact ⟨rfl, rfl⟩
    · rw [Dev.notify_fab, hfab, hloops, hloopsE]

end Sys2Proof.Machine

/-! ## Playback (O39) -/
namespace Sys2Proof.Machine
set_option Elab.async false

variable {s : State} {d : Dev} {m : Mem}

/-! ### Lanes and samples -/

/-- A table in canonical form is the same with each entry as it was. -/
theorem Tab.mapVals_same {α : Type} [DecidableEq α] {d : α} {f : Nat → α → α} (hf : ∀ k x, f k x = x) : ∀ {t : Tab α}, Tab.wf d t = true → t.mapVals d f = t := by
  intro t
  induction t with
  | nil => intro _; rfl
  | cons p t ih =>
    obtain ⟨k, v⟩ := p
    intro hw
    rw [Tab.wf_cons] at hw
    obtain ⟨hv, -, hw⟩ := hw
    rw [Tab.mapVals_cons, hf, if_neg hv, ih hw]

/-- The half words of a sample. -/
theorem readNat_half (b : List (Nat × Byte)) (a l : Nat) (hl : l < 4) : fieldOf (Memory.readNat b a 8) (16 * l) 16 = Memory.readNat b (a + 2 * l) 2 := by
  have h := fun i => (Memory.read b i).isLt
  have h0 := h a
  have h1 := h (a + 1)
  have h2 := h (a + 1 + 1)
  have h3 := h (a + 1 + 1 + 1)
  have h4 := h (a + 1 + 1 + 1 + 1)
  have h5 := h (a + 1 + 1 + 1 + 1 + 1)
  have h6 := h (a + 1 + 1 + 1 + 1 + 1 + 1)
  have h7 := h (a + 1 + 1 + 1 + 1 + 1 + 1 + 1)
  obtain rfl | rfl | rfl | rfl : l = 0 ∨ l = 1 ∨ l = 2 ∨ l = 3 := by omega
  all_goals
    simp only [fieldOf, Memory.readNat]
    norm_num [Nat.add_assoc] at *
    omega

theorem foldl_modLane (f : Nat → Lane → Lane) (ls : List Nat) : ∀ d : Dev, ∃ lanes,
    ls.foldl (fun d l => d.modLane l (f l)) d = { d with seq := { d.seq with lanes := lanes } } := by
  induction ls with
  | nil => exact fun d => ⟨d.seq.lanes, rfl⟩
  | cons l ls ih => exact fun d => ih (d.modLane l (f l))

/-- Loading a sample changes the lanes alone, each by its half word. -/
theorem Dev.loadSample_eq (d : Dev) (m : Mem) (x t : Nat) : ∃ ls, d.loadSample m x t = { d with seq := { d.seq with lanes := ls } } ∧
    ∀ l, l < 4 → (d.loadSample m x t).lane l = loadLane (Memory.readNat m.pattern (8 * x + 2 * l) 2) t (d.lane l) := by
  obtain ⟨ls, h⟩ := foldl_modLane (fun l => loadLane (fieldOf (Memory.readNat m.pattern (8 * x) 8) (16 * l) 16) t) (List.range 4) d
  refine ⟨ls, h, fun l hl => ?_⟩
  rw [← readNat_half _ _ _ hl]
  unfold Dev.loadSample
  simp only [List.range_succ, List.range_zero, List.nil_append, List.cons_append, List.foldl_cons, List.foldl_nil, Dev.lane_modLane]
  obtain rfl | rfl | rfl | rfl : l = 0 ∨ l = 1 ∨ l = 2 ∨ l = 3 := by omega
  all_goals simp

/-- No line, nothing triggered. -/
theorem Dev.trigLines_zero (hw : Tab.wf {} d.mon.fl = true) : d.trigLines 0 = d := by
  have h0 : ∀ k, bitOf 0 k = false := fun k => by simp [bitOf]
  have hf : d.flTrigger (fun l => l.trig == 2 && bitOf 0 l.seqTrig) = d := by
    unfold Dev.flTrigger
    rw [Tab.mapVals_same (fun _ l => by simp [h0]) hw]
  unfold Dev.trigLines
  rw [hf]
  simp [h0]

theorem Seq.decide_eq (q : Seq) : ∃ n j, q.decide = { q with next := n, jumpTaken := j } ∧ (q.jumpPend = true ∨ j = q.jumpTaken) := by
  unfold Seq.decide
  extract_lets x
  split
  · next h => exact ⟨_, _, rfl, .inl h⟩
  · split
    · exact ⟨_, q.jumpTaken, rfl, .inr rfl⟩
    · split <;> exact ⟨_, q.jumpTaken, rfl, .inr rfl⟩

/-- What playback stands at when an iteration begins. -/
def Dev.iterationAt (d : Dev) (t : Nat) : Dev :=
  { d with seq := { d.seq with sample := 0, sampleAt := t, next := .undecided,
                               tsAct := if (d.seq.desc d.seq.seg).tsEn then (d.seq.desc d.seq.seg).ts else d.seq.tsAct } }

/-- An iteration that triggers nothing begins: its sample is loaded, and what playback stands at is set. -/
theorem Dev.startIteration_quiet (d : Dev) (m : Mem) (t : Nat) (hz : (d.seq.desc d.seq.seg).trig = 0) (hw : Tab.wf {} d.mon.fl = true) :
    ∃ ls n j, d.startIteration m t = { d with seq := { (d.iterationAt t).seq with next := n, lanes := ls, jumpTaken := j } } ∧
      (0 < (d.seq.desc d.seq.seg).len → n = .undecided) ∧ (d.seq.jumpPend = true ∨ j = d.seq.jumpTaken) ∧
      ∀ l, l < 4 → (d.startIteration m t).lane l = loadLane (Memory.readNat m.pattern (8 * (d.seq.desc d.seq.seg).base + 2 * l) 2) t (d.lane l) := by
  obtain ⟨ls, he, hl⟩ := (d.iterationAt t).loadSample_eq m (d.seq.desc d.seq.seg).base t
  have ht : ((d.iterationAt t).loadSample m (d.seq.desc d.seq.seg).base t).trigLines (d.seq.desc d.seq.seg).trig =
      (d.iterationAt t).loadSample m (d.seq.desc d.seq.seg).base t := by
    rw [hz]
    exact Dev.trigLines_zero (by rw [he]; exact hw)
  have hs : d.startIteration m t = if (d.seq.desc d.seq.seg).len = 0 then
      { (d.iterationAt t).loadSample m (d.seq.desc d.seq.seg).base t with
        seq := ((d.iterationAt t).loadSample m (d.seq.desc d.seq.seg).base t).seq.decide }
      else (d.iterationAt t).loadSample m (d.seq.desc d.seq.seg).base t := by
    unfold Dev.startIteration
    rw [← ht]
    rfl
  rw [hs]
  generalize (d.iterationAt t).loadSample m (d.seq.desc d.seq.seg).base t = e at he hl
  by_cases h0 : (d.seq.desc d.seq.seg).len = 0
  · rw [if_pos h0]
    obtain ⟨n, j, hn, hj⟩ := Seq.decide_eq e.seq
    refine ⟨ls, n, j, ?_, fun h => absurd h0 (Nat.ne_of_gt h), ?_, fun l h4 => ?_⟩
    · rw [hn, he]
      rfl
    · rw [he] at hj
      exact hj
    · refine Eq.trans ?_ (hl l h4)
      rw [hn]
      rfl
  · rw [if_neg h0]
    exact ⟨ls, .undecided, d.seq.jumpTaken, he, fun _ => rfl, .inr rfl, hl⟩

/-! ### Where playback goes -/

theorem Dev.reachSeg_ready {g t : Nat} (hv : (d.seq.desc g).valid = true) (hr : d.segReady g = true) :
    d.reachSeg m g t = ({ d with seq := { d.seq with state := .running, seg := g, iter := 0 } } : Dev).startIteration m t := by
  unfold Dev.reachSeg
  simp only [hv, hr, Bool.not_true, Bool.false_eq_true, if_false]

/-- A segment that can be played, and that triggers nothing, plays from its first sample on. -/
theorem Dev.reachSeg_plays {g t : Nat} (hv : (d.seq.desc g).valid = true) (hr : d.segReady g = true) (hz : (d.seq.desc g).trig = 0)
    (hw : Tab.wf {} d.mon.fl = true) : ∃ ls n j, d.reachSeg m g t = { d with seq := { d.seq with
        state := .running, seg := g, iter := 0, sample := 0, sampleAt := t, next := n,
        tsAct := if (d.seq.desc g).tsEn then (d.seq.desc g).ts else d.seq.tsAct, lanes := ls, jumpTaken := j } } ∧
      (0 < (d.seq.desc g).len → n = .undecided) ∧
      ∀ l, l < 4 → (d.reachSeg m g t).lane l = loadLane (Memory.readNat m.pattern (8 * (d.seq.desc g).base + 2 * l) 2) t (d.lane l) := by
  rw [Dev.reachSeg_ready hv hr]
  obtain ⟨ls, n, j, he, hn, -, hl⟩ := Dev.startIteration_quiet { d with seq := { d.seq with state := .running, seg := g, iter := 0 } } m t hz hw
  exact ⟨ls, n, j, he, hn, hl⟩

/-- An error of the sequencer that a leaf shows. -/
theorem Dev.seqErr_leaf {b : Nat} (h5 : b ≠ 5) (h7 : b ≠ 7) :
    d.seqErr b = ({ d with seq := { d.seq with err := d.seq.err ||| 2 ^ b } } : Dev).setLeaf 0 0x1C8 (2 ^ b) := by
  unfold Dev.seqErr
  rw [if_neg h5, if_neg h7]

theorem Dev.seqErr_seq (d : Dev) (b : Nat) : (d.seqErr b).seq = { d.seq with err := d.seq.err ||| 2 ^ b } := by
  unfold Dev.seqErr
  split
  · exact (Dev.once_signals _ 52 0).same .seq (by decide)
  · split
    · exact (Dev.once_signals _ 53 0).same .seq (by decide)
    · rfl

theorem Dev.seqErr_leaf_same {b : Nat} (h5 : b ≠ 5) (h7 : b ≠ 7) : Dev.sameBut [.seq, .views] d (d.seqErr b) := by
  rw [Dev.seqErr_leaf h5 h7]
  exact ((Dev.withSeq_same _ _).mono (by decide)).trans ((Dev.setLeaf_same _ _ _ _).up _)

theorem Dev.bit_seqErr {b : Nat} (h5 : b ≠ 5) (h7 : b ≠ 7) : bitOf (((d.seqErr b).view 0).leaf.get 0 0x1C8) b = true := by
  rw [Dev.seqErr_leaf h5 h7, Dev.leaf_setLeaf_self, bitOf_or]
  simp [bitOf, Nat.div_self (Nat.two_pow_pos _)]

theorem bit_err (e b : Nat) : bitOf (e ||| 2 ^ b) b = true := by
  rw [bitOf_or]
  simp [bitOf, Nat.div_self (Nat.two_pow_pos _)]

theorem Dev.seqStop_seq (d : Dev) : d.seqStop.seq = { d.seq with state := .stopped, stopPend := false, next := .undecided } := rfl

/-- A segment that is not ready, where the refill has not stopped, makes playback wait. -/
def Dev.starved (d : Dev) (g : Nat) : Dev :=
  { d with seq := { d.seq with state := .underrun, seg := g, iter := 0, next := .undecided, under := satAdd d.seq.under 1 32 } }

theorem Dev.reachSeg_starved {g t : Nat} (hv : (d.seq.desc g).valid = true) (hr : d.segReady g = false)
    (hs : (d.seq.desc g).refill = false ∨ d.seq.rfStop = false) : d.reachSeg m g t = ((d.starved g).seqErr 2).seqErr 3 := by
  unfold Dev.reachSeg
  simp only [hv, hr, Bool.not_true, Bool.not_false, Bool.false_eq_true, if_false, if_true]
  rw [if_neg (by rcases hs with h | h <;> simp [h])]
  rfl

theorem Dev.reachSeg_invalid {g t : Nat} (hv : (d.seq.desc g).valid = false) : d.reachSeg m g t = (d.seqErr 5).seqStop := by
  unfold Dev.reachSeg
  simp only [hv, Bool.not_false, if_true]

/-- An invalid descriptor is an occurrence of FS52. -/
theorem Dev.seqErr_invalid (d : Dev) : ((d.seqErr 5).src 52).latched = true := by
  unfold Dev.seqErr
  rw [if_pos rfl, Dev.src_once (by decide) (by decide)]
  exact (Src.marked_fields _ _ _ _ _ _).1

theorem Dev.seqErr_same (d : Dev) (b : Nat) : Dev.sameBut [.seq, .src, .flt, .fns, .views] d (d.seqErr b) := by
  have hw : Dev.sameBut [.seq, .src, .flt, .fns, .views] d { d with seq := { d.seq with err := d.seq.err ||| 2 ^ b } } :=
    (Dev.withSeq_same _ _).mono (by decide)
  unfold Dev.seqErr
  split
  · exact hw.trans ((Dev.once_signals _ 52 0).same.mono (by decide))
  · split
    · exact hw.trans ((Dev.once_signals _ 53 0).same.mono (by decide))
    · exact hw.trans ((Dev.setLeaf_same _ _ _ _).up _)

/-- Playback starts over: the counts of a run begin again. -/
def Dev.runCleared (d : Dev) : Dev := { d with seq := { d.seq with under := 0, err := d.seq.err &&& (0xFFFFFFFF ^^^ 0xA), stopPend := false } }

/-- The fields of a write of SEQ_CTL. -/
def Dev.seqSet (d : Dev) (v : Nat) : Dev := { d with seq := d.seq.ctlWrite v }

theorem exec_run_next {v : Word} (hr : s.d.reach 0 = true) (h0 : bitOf v.toNat 0 = true) (h1 : bitOf v.toNat 1 = false) (ho : s.d.seq.ownerCal = false)
    (hs : s.d.seq.state = .stopped) : ∃ e, Dev.sameBut [] s.d e ∧ exec (.run 0 v) s = .next { s with d :=
      (if fieldOf v.toNat 10 2 = 0 then (e.seqSet v.toNat).runCleared.reachSeg s.mem (fieldOf v.toNat 4 6) e.nextDclk
       else { (e.seqSet v.toNat).runCleared with seq := { (e.seqSet v.toNat).runCleared.seq with
         state := .waitTrig, seg := fieldOf v.toNat 4 6, iter := 0 } }).notify } := by
  have hin := s.d.inbound_same true 0 0xC000 4
  refine ⟨s.d.inbound true 0 0xC000 4, hin, ?_⟩
  rw [exec_run, execRun, pf0Wr_next hr, if_pos h0]
  generalize s.d.inbound true 0 0xC000 4 = e at hin
  have hq : e.seq = s.d.seq := hin .seq (by decide)
  unfold Dev.seqCtl
  simp only [h0, h1, if_true, Bool.false_eq_true, if_false]
  rw [if_neg (by simp [Seq.ctlWrite, hq, ho]), Dev.seqRun, if_neg (by simp [Seq.ctlWrite, hq, hs])]
  rfl

theorem exec_stop_next {v : Word} (hr : s.d.reach 0 = true) (h1 : bitOf v.toNat 1 = true) (h0 : bitOf v.toNat 0 = false) :
    exec (.stop 0 v) s = .next { s with d := (((s.d.inbound true 0 0xC000 4).seqSet v.toNat).seqStopReq).notify } := by
  rw [exec_stop, execStop, pf0Wr_next hr, if_pos (by simp [h0, h1])]
  unfold Dev.seqCtl
  simp only [h0, h1, if_true, Bool.false_eq_true, if_false]
  rfl

theorem exec_jump_next {v : Word} (hr : s.d.reach 0 = true) (h8 : bitOf v.toNat 8 = true) :
    exec (.jump 0 v) s = .next { s with d := ((s.d.inbound true 0 0xC008 4).seqJumpWrite v.toNat).notify } := by
  rw [exec_jump, execJump, pf0Wr_next hr, if_pos h8]

/-- A jump is asked for, to the target that the write names. -/
def Dev.jumpAsked (d : Dev) (v : Nat) : Dev := { d with seq := { d.seq with target := v % 64, jumpPend := true, jumpTaken := false } }

theorem seqJumpWrite_request {v : Nat} (h8 : bitOf v 8 = true) (ho : d.seq.ownerCal = false) : d.seqJumpWrite v =
    if d.seq.state = .running ∧ d.seq.next ≠ .undecided then (d.jumpAsked v).seqErr 1 else d.jumpAsked v := by
  unfold Dev.seqJumpWrite
  rw [if_neg (by simp [ho])]
  simp only [h8, if_true]
  unfold Dev.seqJump
  simp only [Bool.and_eq_true, beq_iff_eq, bne_iff_ne]
  rfl

/-! ### Playback goes on -/

theorem Seq.decide_next (q : Seq) : (q.jumpPend = true → q.decide.next = .go q.target) ∧
    (q.jumpPend = false → q.decide.next = if (q.desc q.seg).loop = 255 ∨ q.iter < (q.desc q.seg).loop then .again
      else if (q.desc q.seg).endB then .stop else .go (q.desc q.seg).next) := by
  unfold Seq.decide
  extract_lets x
  constructor
  · intro h
    rw [if_pos h]
  · intro h
    rw [if_neg (by simp [h])]
    split
    · rfl
    · split <;> rfl

/-- A sample that is not an iteration's last ends, and the next begins. -/
theorem Dev.sampleNext_eq (hs : d.seq.stopPend = false) : ∃ ls n j, d.sampleNext m = { d with seq := { d.seq with
      sample := d.seq.sample + 1, sampleAt := d.seq.sampleAt + (d.seq.desc d.seq.seg).dur, lanes := ls, next := n, jumpTaken := j } } ∧
    (∀ l, l < 4 → (d.sampleNext m).lane l = loadLane (Memory.readNat m.pattern (8 * ((d.seq.desc d.seq.seg).base + d.seq.sample + 1) + 2 * l) 2)
      (d.seq.sampleAt + (d.seq.desc d.seq.seg).dur) (d.lane l)) ∧
    (d.seq.sample + 1 = (d.seq.desc d.seq.seg).len → (d.seq.jumpPend = true → n = .go d.seq.target) ∧
      (d.seq.jumpPend = false → n = if (d.seq.desc d.seq.seg).loop = 255 ∨ d.seq.iter < (d.seq.desc d.seq.seg).loop then .again
        else if (d.seq.desc d.seq.seg).endB then .stop else .go (d.seq.desc d.seq.seg).next)) := by
  obtain ⟨ls, he, hl⟩ := ({ d with seq := { d.seq with
    sample := d.seq.sample + 1, sampleAt := d.seq.sampleAt + (d.seq.desc d.seq.seg).dur } } : Dev).loadSample_eq m
      ((d.seq.desc d.seq.seg).base + d.seq.sample + 1) (d.seq.sampleAt + (d.seq.desc d.seq.seg).dur)
  unfold Dev.sampleNext
  extract_lets q x d1 d2
  have hd1 : ¬ (q.stopPend && !q.stopMode) = true := by simp [q, hs]
  rw [if_neg hd1]
  have he' : d2 = _ := he
  have hl' : ∀ l, l < 4 → d2.lane l = _ := hl
  clear_value d2
  by_cases hlen : q.sample + 1 = x.len
  · rw [if_pos hlen]
    obtain ⟨n, j, hn, -⟩ := Seq.decide_eq d2.seq
    obtain ⟨hgo, helse⟩ := Seq.decide_next d2.seq
    rw [hn, he'] at hgo helse
    refine ⟨ls, n, j, ?_, fun l h4 => ?_, fun _ => ⟨hgo, helse⟩⟩
    · rw [hn, he']
    · refine Eq.trans ?_ (hl' l h4)
      rw [hn]
      rfl
  · rw [if_neg hlen]
    exact ⟨ls, d.seq.next, d.seq.jumpTaken, he', hl', fun h => absurd h hlen⟩

/-- The end of an iteration: its count, the fill it used up and the jump it took. -/
def Dev.iterated (d : Dev) : Dev :=
  { d with seq := { d.seq with
    iter := satAdd d.seq.iter 1 8,
    fill := if (d.seq.desc d.seq.seg).refill then d.seq.fill.filter (· != d.seq.seg) else d.seq.fill,
    jumpPend := d.seq.jumpPend && !d.seq.jumpTaken, jumpTaken := false } }

theorem Dev.iterationNext_stop (hs : d.seq.stopPend = true) : d.iterationNext m =
    ({ d.iterated with seq := { d.iterated.seq with jumpPend := d.seq.jumpPend, jumpTaken := false } } : Dev).seqStop := by
  unfold Dev.iterationNext
  exact if_pos hs

theorem Dev.iterationNext_on (hs : d.seq.stopPend = false) : d.iterationNext m = match d.seq.next with
    | .again => d.iterated.startIteration m (d.seq.sampleAt + (d.seq.desc d.seq.seg).dur)
    | .go g => d.iterated.reachSeg m g (d.seq.sampleAt + (d.seq.desc d.seq.seg).dur)
    | _ => d.iterated.seqStop := by
  unfold Dev.iterationNext
  exact if_neg (by simp [hs])

theorem exec_sampleBoundary_next {x : Desc} (hr : s.d.seq.state = .running) (hx : x = s.d.seq.desc s.d.seq.seg) (hs : s.d.seq.sample < x.len)
    (ht : s.d.seq.sampleAt + x.dur ≤ s.d.tb2) : exec .sampleBoundary s = .next { s with d := (s.d.sampleNext s.mem).notify } := by
  subst hx
  rw [exec_sampleBoundary, execSampleBoundary]
  exact (if_neg (by simp [hr]; omega)).trans (finish_next _ _)

theorem exec_iterationBoundary_next {x : Desc} (hr : s.d.seq.state = .running) (hx : x = s.d.seq.desc s.d.seq.seg) (hs : x.len ≤ s.d.seq.sample)
    (ht : s.d.seq.sampleAt + x.dur ≤ s.d.tb2) : exec .iterationBoundary s = .next { s with d := (s.d.iterationNext s.mem).notify } := by
  subst hx
  rw [exec_iterationBoundary, execIterationBoundary]
  exact (if_neg (by simp [hr]; omega)).trans (finish_next _ _)

/-- Settles O39, command by command. -/
theorem sequencerPlays : Obligations.SequencerPlays := by
  refine ⟨?_, ?_, ?_, ?_, ?_, ?_⟩
  · intro s v x hr h0 h1 ho hs hx
    obtain ⟨e, hin, hexec⟩ := exec_run_next hr h0 h1 ho hs
    have hq : e.seq = s.d.seq := hin .seq (by decide)
    have hfl : e.mon = s.d.mon := hin .mon (by decide)
    have hdclk : e.nextDclk = s.d.tb2 + s.d.tb2 % 2 := by rw [Dev.nextDclk, hin.tb2]
    have hset : Dev.sameBut [.seq] s.d (e.seqSet v.toNat).runCleared := (hin.up _).trans ((Dev.withSeq_same _ _).trans (Dev.withSeq_same _ _))
    have hseq : (e.seqSet v.toNat).runCleared.seq = { s.d.seq.ctlWrite v.toNat with
        under := 0, err := s.d.seq.err &&& (0xFFFFFFFF ^^^ 0xA), stopPend := false } := by
      rw [Dev.runCleared, Dev.seqSet, hq]
      rfl
    have hmon : (e.seqSet v.toNat).runCleared.mon = s.d.mon := hfl
    generalize (e.seqSet v.toNat).runCleared = c at *
    have hdesc : c.seq.desc (fieldOf v.toNat 4 6) = x := by rw [hseq, hx]; rfl
    have hrdy' : c.segReady = s.d.segReady := by
      unfold Dev.segReady
      rw [hseq]
      rfl
    have hlane : c.lane = s.d.lane := by
      unfold Dev.lane
      rw [hseq]
      rfl
    refine ⟨fun ht hv hrdy htr hlen hw => ?_, fun ht => ?_, fun ht hv => ?_⟩
    · obtain ⟨ls, n, j, he, hn, hl⟩ := Dev.reachSeg_plays (d := c) (m := s.mem) (g := fieldOf v.toNat 4 6) (t := s.d.tb2 + s.d.tb2 % 2)
        (by rw [hdesc]; exact hv) (by rw [hrdy']; exact hrdy) (by rw [hdesc]; exact htr) (by rw [hmon]; exact hw)
      rw [hdesc] at he hn hl
      rw [if_pos ht, hdclk] at hexec
      have hsame : Dev.sameBut [.seq] s.d (c.reachSeg s.mem (fieldOf v.toNat 4 6) (s.d.tb2 + s.d.tb2 % 2)) := by
        rw [he]
        exact hset.trans (Dev.withSeq_same _ _)
      have hfields := congrArg Dev.seq he
      rw [hseq] at hfields
      generalize c.reachSeg s.mem (fieldOf v.toNat 4 6) (s.d.tb2 + s.d.tb2 % 2) = z at hexec hl hsame hfields
      refine ⟨_, hexec, ?_, ?_, ?_, ?_, ?_, ?_, ?_, ?_, ?_, fun l h4 => ?_, finish_same hsame⟩
      · rw [Dev.notify_seq]; exact congrArg Seq.state hfields
      · rw [Dev.notify_seq]; exact congrArg Seq.seg hfields
      · rw [Dev.notify_seq]; exact congrArg Seq.iter hfields
      · rw [Dev.notify_seq]; exact congrArg Seq.sample hfields
      · rw [Dev.notify_seq]; exact congrArg Seq.sampleAt hfields
      · rw [Dev.notify_seq]; exact (congrArg Seq.next hfields).trans (hn hlen)
      · rw [Dev.notify_seq]; exact congrArg Seq.under hfields
      · rw [Dev.notify_seq]; exact congrArg Seq.err hfields
      · rw [Dev.notify_seq]; exact congrArg Seq.tsAct hfields
      · rw [Dev.notify_lane, hl l h4, hlane]
    · rw [if_neg (by omega)] at hexec
      refine ⟨_, hexec, ?_, ?_, ?_, ?_, finish_same (hset.trans (Dev.withSeq_same _ _))⟩
      all_goals rw [Dev.notify_seq]
      rw [hseq]
      rfl
    · rw [if_pos ht, Dev.reachSeg_invalid (by rw [hdesc]; exact hv)] at hexec
      have he5 := c.seqErr_seq 5
      have hsrc := c.seqErr_invalid
      have hs5 := c.seqErr_same 5
      generalize c.seqErr 5 = z at hexec he5 hsrc hs5
      refine ⟨_, hexec, ?_, ?_, ?_, ?_, finish_same (((hset.mono (by decide)).trans hs5).trans (z.seqStop_same.mono (by decide)))⟩
      · rw [Dev.notify_seq]
        rfl
      · rw [Dev.notify_seq, Dev.seqStop_seq, he5]
        exact bit_err _ 5
      · rw [Dev.notify_src]
        exact hsrc
      · rw [Dev.notify_seq, Dev.seqStop_seq, he5, hseq]
        rfl
  · intro s v hr h1 h0
    have hx := exec_stop_next hr h1 h0
    have hin := s.d.inbound_same true 0 0xC000 4
    generalize s.d.inbound true 0 0xC000 4 = e at hx hin
    have hq : e.seq = s.d.seq := hin .seq (by decide)
    have hset : Dev.sameBut [.seq] s.d (e.seqSet v.toNat) := (hin.up _).trans (Dev.withSeq_same _ _)
    have hseq : (e.seqSet v.toNat).seq = s.d.seq.ctlWrite v.toNat := by rw [Dev.seqSet, hq]
    generalize e.seqSet v.toNat = c at *
    have hst : c.seq.state = s.d.seq.state := by rw [hseq]; rfl
    refine ⟨fun hrun => ?_, fun hwait => ?_⟩
    · rw [show c.seqStopReq = { c with seq := { c.seq with stopPend := true } } by unfold Dev.seqStopReq; rw [hst, hrun]] at hx
      refine ⟨_, hx, ?_, finish_same (hset.trans (Dev.withSeq_same _ _))⟩
      rw [Dev.notify_seq, hseq]
      rfl
    · rw [show c.seqStopReq = c.seqStop by
        unfold Dev.seqStopReq
        rw [hst]
        rcases List.mem_cons.mp hwait with h | h
        · rw [h]
        · rw [List.mem_singleton.mp h]] at hx
      refine ⟨_, hx, ?_, ?_, ?_, finish_same ((hset.mono (by decide)).trans c.seqStop_same)⟩
      · rw [Dev.notify_seq]
        rfl
      · rw [Dev.notify_seq, Dev.seqStop_seq, hseq]
        rfl
      · rw [Dev.notify_view, Dev.seqStop, Dev.leaf_setLeaf_self]
        exact bit_err _ 8
  · intro s v hr h8
    have hx := exec_jump_next hr h8
    have hin := s.d.inbound_same true 0 0xC008 4
    generalize s.d.inbound true 0 0xC008 4 = e at hx hin
    have hq : e.seq = s.d.seq := hin .seq (by decide)
    refine ⟨fun ho hn => ?_, fun ho hrun hn => ?_, fun ho => ?_⟩
    · rw [seqJumpWrite_request h8 (by rw [hq]; exact ho), if_neg (by rw [hq]; simpa [or_iff_not_imp_left] using hn)] at hx
      refine ⟨_, hx, ?_, finish_same ((hin.up _).trans (Dev.withSeq_same _ _))⟩
      rw [Dev.notify_seq, Dev.jumpAsked, hq]
    · rw [seqJumpWrite_request h8 (by rw [hq]; exact ho), if_pos (by rw [hq]; exact ⟨hrun, hn⟩)] at hx
      refine ⟨_, hx, ?_, ?_, finish_same ((hin.up _).trans (((Dev.withSeq_same _ _).mono (by decide)).trans
        (Dev.seqErr_leaf_same (by decide) (by decide))))⟩
      · rw [Dev.notify_seq, Dev.seqErr_seq, Dev.jumpAsked, hq]
        rfl
      · rw [Dev.notify_view]
        exact Dev.bit_seqErr (by decide) (by decide)
    · rw [show e.seqJumpWrite v.toNat = e.seqErr 6 from if_pos (by rw [hq]; exact ho)] at hx
      refine ⟨_, hx, ?_, finish_same ((hin.up _).trans (Dev.seqErr_leaf_same (by decide) (by decide)))⟩
      rw [Dev.notify_seq, Dev.seqErr_seq, hq]
      rfl
  · intro s x hr hx hlt ht
    have hexec := exec_sampleBoundary_next hr hx hlt ht
    subst hx
    refine ⟨fun hs => ?_, fun hs hm => ?_⟩
    · obtain ⟨ls, n, j, he, hl, hdec⟩ := Dev.sampleNext_eq (m := s.mem) hs
      have hsame : Dev.sameBut [.seq] s.d (s.d.sampleNext s.mem) := by
        rw [he]
        exact Dev.withSeq_same _ _
      have hfields := congrArg Dev.seq he
      generalize s.d.sampleNext s.mem = z at hexec hl hsame hfields
      refine ⟨_, hexec, ?_, ?_, fun l h4 => ?_, fun h hj => ?_, fun h hj => ?_, finish_same hsame⟩
      · rw [Dev.notify_seq]; exact congrArg Seq.sample hfields
      · rw [Dev.notify_seq]; exact congrArg Seq.sampleAt hfields
      · rw [Dev.notify_lane]; exact hl l h4
      · rw [Dev.notify_seq]; exact (congrArg Seq.next hfields).trans ((hdec h).1 hj)
      · rw [Dev.notify_seq]; exact (congrArg Seq.next hfields).trans ((hdec h).2 hj)
    · rw [show s.d.sampleNext s.mem = s.d.seqStop from if_pos (by simp [hs, hm])] at hexec
      refine ⟨_, hexec, ?_, ?_, finish_same s.d.seqStop_same⟩
      all_goals
        rw [Dev.notify_seq]
        rfl
  · intro s x hr hx hle ht
    have hexec := exec_iterationBoundary_next hr hx hle ht
    subst hx
    have hit : Dev.sameBut [.seq] s.d s.d.iterated := Dev.withSeq_same _ _
    refine ⟨fun hs => ?_, fun hs hn hz hw => ?_, fun g y hs hn hy hv => ⟨fun hrf hld hz hw => ?_, fun hstarve => ?_⟩, fun hs hn => ?_⟩
    · rw [Dev.iterationNext_stop hs] at hexec
      refine ⟨_, hexec, ?_, ?_, ?_, finish_same (((hit.trans (Dev.withSeq_same _ _)).mono (by decide)).trans (Dev.seqStop_same _))⟩
      all_goals
        rw [Dev.notify_seq]
        rfl
    · rw [Dev.iterationNext_on hs, hn] at hexec
      obtain ⟨ls, n, j, he, -, -, -⟩ := s.d.iterated.startIteration_quiet s.mem (s.d.seq.sampleAt + (s.d.seq.desc s.d.seq.seg).dur) hz hw
      rw [he] at hexec
      refine ⟨_, hexec, ?_, ?_, ?_, ?_, ?_, finish_same (hit.trans (Dev.withSeq_same _ _))⟩
      all_goals rw [Dev.notify_seq]
      · exact hr
      · rfl
      · rfl
      · rfl
      · rfl
    · subst hy
      rw [Dev.iterationNext_on hs, hn] at hexec
      have hrdy : s.d.iterated.segReady g = true := by
        have hany : s.d.seq.loads.any (fun l => l.seg == g) = false := by simpa using hld
        show ((!(s.d.seq.desc g).refill || _) && !s.d.seq.loads.any (fun l => l.seg == g)) = true
        rw [hrf, hany]
        rfl
      obtain ⟨ls, n, j, he, -, hl⟩ := s.d.iterated.reachSeg_plays (m := s.mem) (g := g) (t := s.d.seq.sampleAt + (s.d.seq.desc s.d.seq.seg).dur)
        hv hrdy hz hw
      have hfields := congrArg Dev.seq he
      have hsame : Dev.sameBut [.seq] s.d (s.d.iterated.reachSeg s.mem g (s.d.seq.sampleAt + (s.d.seq.desc s.d.seq.seg).dur)) := by
        rw [he]
        exact hit.trans (Dev.withSeq_same _ _)
      dsimp only at hexec
      generalize s.d.iterated.reachSeg s.mem g (s.d.seq.sampleAt + (s.d.seq.desc s.d.seq.seg).dur) = z at hexec hl hsame hfields
      refine ⟨_, hexec, ?_, ?_, ?_, ?_, ?_, fun hj => ?_, fun l h4 => ?_, finish_same hsame⟩
      · rw [Dev.notify_seq]; exact congrArg Seq.state hfields
      · rw [Dev.notify_seq]; exact congrArg Seq.seg hfields
      · rw [Dev.notify_seq]; exact congrArg Seq.iter hfields
      · rw [Dev.notify_seq]; exact congrArg Seq.sample hfields
      · rw [Dev.notify_seq]; exact congrArg Seq.sampleAt hfields
      · rw [Dev.notify_seq]
        refine (congrArg Seq.jumpPend hfields).trans ?_
        simp [Dev.iterated, hj]
      · rw [Dev.notify_lane]; exact hl l h4
    · subst hy
      rw [Dev.iterationNext_on hs, hn] at hexec
      have hrdy : s.d.iterated.segReady g = false := by
        show ((!(s.d.seq.desc g).refill || s.d.iterated.seq.fill.contains g) && !s.d.seq.loads.any (fun l => l.seg == g)) = false
        rcases hstarve with ⟨hrf, hfill, -⟩ | ⟨-, z, hz, hzg⟩
        · have hf : g ∉ s.d.iterated.seq.fill := by
            show g ∉ (if (s.d.seq.desc s.d.seq.seg).refill then s.d.seq.fill.filter (· != s.d.seq.seg) else s.d.seq.fill)
            split
            · exact fun h => hfill (List.mem_of_mem_filter h)
            · exact hfill
          simp [hrf, hf]
        · have hany : s.d.seq.loads.any (fun l => l.seg == g) = true := List.any_eq_true.mpr ⟨z, hz, by simp [hzg]⟩
          simp [hany]
      dsimp only at hexec
      rw [Dev.reachSeg_starved (d := s.d.iterated) hv hrdy (by rcases hstarve with h | h; exacts [.inr h.2.2, .inl h.1])] at hexec
      have hseq := (((s.d.iterated.starved g).seqErr 2).seqErr_seq 3).trans
        (congrArg (fun q : Machine.Seq => { q with err := q.err ||| 2 ^ 3 }) ((s.d.iterated.starved g).seqErr_seq 2))
      have hsame : Dev.sameBut [.seq, .views] s.d (((s.d.iterated.starved g).seqErr 2).seqErr 3) :=
        ((hit.trans (Dev.withSeq_same _ _)).mono (by decide)).trans ((Dev.seqErr_leaf_same (by decide) (by decide)).trans
          (Dev.seqErr_leaf_same (by decide) (by decide)))
      generalize ((s.d.iterated.starved g).seqErr 2).seqErr 3 = z at hexec hseq hsame
      refine ⟨_, hexec, ?_, ?_, ?_, ?_, ?_, ?_, ?_, finish_same hsame⟩
      all_goals rw [Dev.notify_seq, hseq]
      · rfl
      · rfl
      · rfl
      · rw [bitOf_or]
        exact (Bool.or_eq_true _ _).mpr (.inl (bit_err _ 2))
      · exact bit_err _ 3
      · rfl
      · rfl
    · rw [Dev.iterationNext_on hs, hn] at hexec
      refine ⟨_, hexec, ?_, ?_, finish_same ((hit.mono (by decide)).trans (Dev.seqStop_same _))⟩
      all_goals
        rw [Dev.notify_seq]
        rfl
  · intro s x hu hx hrdy ht hz hw
    subst hx
    have hexec : exec .segmentReady s = .next { s with d := (({ s.d with seq := { s.d.seq with state := .running } } : Dev).startIteration s.mem
        s.d.nextDclk).notify } := by
      rw [exec_segmentReady, execSegmentReady]
      exact (if_pos (by simp [hu, hrdy, ht])).trans (finish_next _ _)
    obtain ⟨ls, n, j, he, -, -, -⟩ := Dev.startIteration_quiet { s.d with seq := { s.d.seq with state := .running } } s.mem s.d.nextDclk hz hw
    rw [he] at hexec
    refine ⟨_, hexec, ?_, ?_, ?_, ?_, ?_, finish_same ((Dev.withSeq_same _ _).trans (Dev.withSeq_same _ _))⟩
    all_goals
      rw [Dev.notify_seq]
      rfl

end Sys2Proof.Machine

/-! ## Lanes bound, segments filled, triggers taken (O40) -/
namespace Sys2Proof.Machine
set_option Elab.async false

variable {s : State} {d : Dev}

/-! ### Bindings -/

theorem lit_of {n : Net} {e : Dev} (h : e.fab = d.fab) : lit n e = lit n d := by
  funext ca
  rw [lit, Dev.cell, h]
  rfl

/-- A binding that the write makes. -/
theorem seqBindWrite_bound {n : Net} {l v : Nat} (ho : d.seq.ownerCal = false) (he : (d.lane l).en = false) (hb : (d.lane l).bound = false)
    (h17 : bitOf v 17 = true) : d.seqBindWrite n l v =
      if d.bindOk n l (v % 2 ^ 17) then d.modLane l (fun _ => { aa := v % 2 ^ 17, en := true, bound := true, at2 := d.tb2 })
      else (d.modLane l (fun x => { x with aa := v % 2 ^ 17 })).seqErr 4 := by
  unfold Dev.seqBindWrite
  rw [if_neg (by simp [ho]), if_neg (by simp [he]), if_neg (by simp [h17]), if_neg (by simp [hb])]

theorem bindOk_free {n : Net} {l aa : Nat} (hh : aaHole aa = false) (hl : lit n d (aaCell aa) = false) (hu : n.used (aaCell aa) = false)
    (hs : ∀ k, k < 16 → (d.slot k).state = .free) (hj : ∀ j, j < 4 → j ≠ l → (d.lane j).bound = false ∨ (d.lane j).aa ≠ aa) : d.bindOk n l aa = true := by
  have hf : d.inFootprint (aaCell aa) = false := by
    rw [Dev.inFootprint, List.any_eq_false]
    intro k hk
    simp [hs k (List.mem_range.mp hk)]
  have ha : (List.range 4).any (fun j => j != l && (d.lane j).bound && (d.lane j).aa == aa) = false := by
    rw [List.any_eq_false]
    intro j hj4
    by_cases hjl : j = l
    · simp [hjl]
    · rcases hj j (List.mem_range.mp hj4) hjl with h | h <;> simp [h]
  rw [Dev.bindOk, hh, hl, hu, hf, ha]
  rfl

theorem bindOk_refused {n : Net} {l aa : Nat} (h : aaHole aa = true ∨ lit n d (aaCell aa) = true ∨ n.used (aaCell aa) = true ∨
    ∃ j, j < 4 ∧ j ≠ l ∧ (d.lane j).bound = true ∧ (d.lane j).aa = aa) : d.bindOk n l aa = false := by
  rw [Dev.bindOk]
  rcases h with h | h | h | ⟨j, h4, hjl, hb, ha⟩
  · simp [h]
  · simp [h]
  · simp [h]
  · have hany : (List.range 4).any (fun j => j != l && (d.lane j).bound && (d.lane j).aa == aa) = true :=
      List.any_eq_true.mpr ⟨j, List.mem_range.mpr h4, by simp [hjl, hb, ha]⟩
    simp [hany]

theorem exec_seqBind_next {l : Nat} {v : Word} (hr : s.d.reach 0 = true) (hl : l < 4) :
    exec (.seqBind 0 l v) s = .next { s with d := ((s.d.inbound true 0 (0xC040 + 4 * l) 4).seqBindWrite s.net l v.toNat).notify } := by
  rw [exec_seqBind, execSeqBind, pf0Wr_next hr, if_pos hl]

/-! ### Bindings that end -/

/-- A lane's actuator as it leaves it, before its loops follow. -/
def Dev.released (d : Dev) (l : Nat) : Dev :=
  if aaKind (d.lane l).aa = 2 then (d.modLane l (fun x => { x with bound := false, en := false })).modCell (aaCell (d.lane l).aa) (fun c =>
    { c with f := 0, fDue := none, wave := none, heldI := some (d.tb2, laneCode (d.lane l).value) })
  else (d.modLane l (fun x => { x with bound := false, en := false })).modLoop (d.lane l).aa (fun x =>
    { x with u := lanePower (d.lane l).value, drv := d.drvOf (d.lane l).aa, drvNext := none })

theorem unbindLane_only {l : Nat} (hb : (d.lane l).bound = true) (ho : ∀ j, j < 4 → j ≠ l → (d.lane j).bound = false) :
    d.unbindLane l = (d.released l).modHeaters (aaCell (d.lane l).aa) (fun x => { x with preset := 1 }) := by
  have hlane : (d.released l).lane = (d.modLane l (fun x => { x with bound := false, en := false })).lane := by
    unfold Dev.released
    split <;> rfl
  have hnb : (d.released l).seqBound (aaCell (d.lane l).aa) = false := by
    rw [Dev.seqBound, List.any_eq_false]
    intro j hj
    rw [hlane, Dev.lane_modLane]
    by_cases hjl : j = l
    · simp [hjl]
    · simp [hjl, ho j (List.mem_range.mp hj) hjl]
  unfold Dev.unbindLane
  extract_lets x ca code d1 d2
  rw [if_neg (by simp [x, hb])]
  exact if_neg (by
    show ¬ (d.released l).seqBound (aaCell (d.lane l).aa) = true
    simp [hnb])

theorem exec_unbind_next {l : Nat} (hb : (s.d.lane l).bound = true) (he : (s.d.lane l).en = false) (ha : (s.d.lane l).offAt < s.d.tb2)
    (ht : s.d.tb2 % 10000 = 0) : exec (.unbind l) s = .next { s with d := (s.d.unbindLane l).notify } := by
  rw [exec_unbind, execUnbind]
  exact (if_pos (by simp [hb, he, ha, ht])).trans (finish_next _ _)

theorem Dev.released_same (d : Dev) (l : Nat) : Dev.sameBut [.seq, .fab] d (d.released l) := by
  have h1 : Dev.sameBut [.seq, .fab] d (d.modLane l (fun x => { x with bound := false, en := false })) := (d.modLane_same l _).mono (by decide)
  unfold Dev.released
  split
  · exact h1.trans ((Dev.modCell_same _ _ _).mono (by decide))
  · exact h1.trans ((Dev.modLoop_same _ _ _).mono (by decide))

theorem Dev.released_lane (d : Dev) (l j : Nat) :
    (d.released l).lane j = if j = l then { d.lane l with bound := false, en := false } else d.lane j := by
  unfold Dev.released
  split <;> exact Dev.lane_modLane _ _ _ _

theorem Dev.modHeaters_cells (d : Dev) (ca : Nat) (f : Loop → Loop) : (d.modHeaters ca f).fab.cells = d.fab.cells := by
  unfold Dev.modHeaters heatersOf
  split <;> rfl

/-! ### Refill -/

/-- The numbers of the samples of a segment, each eight bytes. -/
theorem Memory.readNat_samples (m : List (Nat × Byte)) (base : Nat) (ws : List DWord) {j : Nat} (hj : j < ws.length) :
    Memory.readNat (Memory.writeBytes m (8 * base) (sampleBytes ws)) (8 * (base + j)) 8 = (ws.getD j 0).toNat := by
  rw [List.getD_eq_getElem _ _ hj]
  exact Memory.readNat_writeBytes_sample m base (List.getElem?_eq_getElem hj)

/-- The device once the segment that the DMA fills has its samples. -/
def Dev.filled (d : Dev) (g n : Nat) : Dev := { d with seq := { d.seq with fill := g :: d.seq.fill, readyAt := d.tb2, rfPos := d.seq.rfPos + n } }

theorem exec_segmentFilled_whole {g : Nat} {ws : List DWord} {x : Desc} (hx : x = s.d.seq.desc g) (hn : s.d.refillNext = some g)
    (ha : ∀ j, j ≤ x.len → s.d.activeAt (x.base + j) = false) (hw : ws.length = x.len + 1) (hp : s.d.seq.rfPos + x.len + 1 < s.d.seq.rfLen) :
    ∃ e, Dev.sameBut [] s.d e ∧ exec (.segmentFilled g ws) s = .next { s with
      d := (e.filled g (x.len + 1)).notify, mem := { s.mem with pattern := Memory.writeBytes s.mem.pattern (8 * x.base) (sampleBytes ws) } } := by
  subst hx
  have hvalid : (s.d.seq.desc g).valid = true := by
    unfold Dev.refillNext at hn
    simp only [] at hn
    split at hn
    · have := List.find?_some hn
      simp only [Bool.and_eq_true] at this
      exact this.1.1.2
    · exact nomatch hn
  have hroom : (if s.d.seq.rfWrap then (s.d.seq.desc g).len + 1 else min ((s.d.seq.desc g).len + 1) (s.d.seq.rfLen - s.d.seq.rfPos)) =
      (s.d.seq.desc g).len + 1 := by
    split
    · rfl
    · omega
  have hin : Dev.sameBut [] s.d ((s.d.bus 6 false 3 (s.d.seq.rfAddr + 8 * s.d.seq.rfPos) (8 * ((s.d.seq.desc g).len + 1))).bus 6 true 5
      (8 * (s.d.seq.desc g).base) (8 * ((s.d.seq.desc g).len + 1))) := (Dev.bus_same _ _ _ _ _ _ _).trans (Dev.bus_same _ _ _ _ _ _ _)
  rw [exec_segmentFilled, execSegmentFilled]
  simp only [hroom]
  rw [if_neg (by simp [hn, hw])]
  refine ⟨_, hin, ?_⟩
  generalize (s.d.bus 6 false 3 (s.d.seq.rfAddr + 8 * s.d.seq.rfPos) (8 * ((s.d.seq.desc g).len + 1))).bus 6 true 5
      (8 * (s.d.seq.desc g).base) (8 * ((s.d.seq.desc g).len + 1)) = e at hin
  have hq : e.seq = s.d.seq := hin .seq (by decide)
  have hdrv : e.drv = s.d.drv := hin .drv (by decide)
  have hact : e.activeAt = s.d.activeAt := by
    unfold Dev.activeAt
    rw [Dev.segActive_of hq (by rw [hdrv]) (by rw [hdrv]), hq]
  have hput : patternPut true s.mem e (8 * (s.d.seq.desc g).base) (ws.flatMap fun w => bytesLE w.toNat 8) =
      ({ s.mem with pattern := Memory.writeBytes s.mem.pattern (8 * (s.d.seq.desc g).base) (sampleBytes ws) }, e) := by
    refine patternPut_of_takes (length_sampleBytes ws) (fun k hk => ⟨?_, ?_, .inl rfl⟩)
    · have hb : (s.d.seq.desc g).base + (s.d.seq.desc g).len ≤ 131071 := by
        simp only [Desc.valid, Bool.and_eq_true, decide_eq_true_eq] at hvalid
        exact hvalid.1
      omega
    · rw [hact]
      exact ha k (by omega)
  simp only [hput, hq, if_true]
  have hpos : (if s.d.seq.rfWrap = true then (s.d.seq.rfPos + ((s.d.seq.desc g).len + 1)) % s.d.seq.rfLen
      else s.d.seq.rfPos + ((s.d.seq.desc g).len + 1)) = s.d.seq.rfPos + ((s.d.seq.desc g).len + 1) := by
    split
    · exact Nat.mod_eq_of_lt (by omega)
    · rfl
  rw [hpos, if_neg (by simp; omega), Dev.filled, hq]

/-! ### Pattern memory -/

theorem patternPut_one {dma : Bool} {m : Mem} {x : Nat} {bs : List Byte} (hl : bs.length = 8) :
    patternPut dma m d (8 * x) bs = sampleWrite dma m d (8 * x) bs := by
  have h1 : 8 * x / 8 = x := by omega
  have h2 : (8 * x + bs.length + 7) / 8 - x = 1 := by omega
  unfold patternPut
  rw [h1]
  dsimp only
  rw [h2, List.range_one, List.foldl_cons, List.foldl_nil]
  have h3 : max (8 * x) (8 * (x + 0)) = 8 * x := by omega
  have h4 : min (8 * x + bs.length) (8 * (x + 0) + 8) - 8 * x = bs.length := by omega
  rw [h3, h4, Nat.sub_self, List.drop_zero, List.take_length]

theorem exec_patternWrite_sample {x : Nat} {v : DWord} (hr : s.d.reach 0 = true) (hx : x < 131072) :
    exec (.patternWrite 0 false (8 * x) 8 v) s = .next { s with
      mem := (sampleWrite false s.mem (s.d.inbound true 2 (0x2000000 + 8 * x) 8) (8 * x) (bytesLE v.toNat 8)).1,
      d := (sampleWrite false s.mem (s.d.inbound true 2 (0x2000000 + 8 * x) 8) (8 * x) (bytesLE v.toNat 8)).2.notify } := by
  rw [exec_patternWrite, execPatternWrite, if_neg (by simp [hr])]
  dsimp only
  rw [if_neg (by simp), if_neg (by simp), if_neg (by omega), ← patternPut_one (length_bytesLE _ _)]
  rfl

/-! ### Triggers -/

/-- A slot that waits for a trigger, once it has come. -/
def Inj.atTrigger (x : Inj) (t now : Nat) : Inj := if x.go && !x.triggered && x.trig == t then { x with triggered := true, trigAt := now } else x

theorem Dev.inj_injTrigger (t k : Nat) (hw : Tab.wf {} d.mon.inj = true) : (d.injTrigger t).inj k = (d.inj k).atTrigger t d.tb2 :=
  Tab.get_mapVals (f := fun _ (x : Inj) => x.atTrigger t d.tb2) (fun _ => rfl) k hw

theorem Dev.fl_flTrigger (p : Fl → Bool) (k : Nat) (hw : Tab.wf {} d.mon.fl = true) :
    (d.flTrigger p).fl k = if (d.fl k).state == .armed && p (d.fl k) then (d.fl k).trigger d.tb2 else d.fl k :=
  Tab.get_mapVals (f := fun _ (l : Fl) => if l.state == .armed && p l then l.trigger d.tb2 else l) (fun _ => rfl) k hw

/-- A rise of SYNCIN asks for the jump in force, and triggers slots and lanes. -/
def Dev.syncedIn (d : Dev) : Dev :=
  (({ d with seq := { d.seq with jumpPend := true, jumpTaken := false } } : Dev).injTrigger 1).flTrigger (fun l => l.trig == 1)

theorem exec_syncin_running (hc : s.d.clocked = true) (hj : s.d.seq.jumpSyncin = true) (ho : s.d.seq.ownerCal = false)
    (hr : s.d.seq.state = .running) (hn : s.d.seq.next = .undecided) : exec .syncin s = .next { s with d := s.d.syncedIn.notify } := by
  have hjump : s.d.seqJump = { s.d with seq := { s.d.seq with jumpPend := true, jumpTaken := false } } := by
    unfold Dev.seqJump
    exact if_neg (by simp [hn])
  rw [exec_syncin, execSyncin, if_neg (by simp [hc])]
  dsimp only
  rw [if_pos hj, if_neg (by simp [ho]), finish_next, hjump, Dev.seqTrigger, if_neg (by simp [hr])]
  rfl

/-- The end of a pulse of a SYNC output. -/
def Dev.pulseEnded (d : Dev) (x : Nat) : Dev :=
  { d.send (.pin ("SYNC" ++ toString x) (d.seq.sync.get {} x).inv) with
    seq := { d.seq with sync := d.seq.sync.set {} x { d.seq.sync.get {} x with endAt := none } } }

theorem exec_syncPulseEnd_next {x e : Nat} (he : (s.d.seq.sync.get {} x).endAt = some e) (ht : e ≤ s.d.tb2) :
    exec (.syncPulseEnd x) s = .next { s with d := (s.d.pulseEnded x).notify } := by
  rw [exec_syncPulseEnd, execSyncPulseEnd]
  simp only [he]
  rw [if_neg (by omega), finish_next]
  rfl

/-- Settles O40, command by command. -/
theorem sequencerIsFedAndBound : Obligations.SequencerIsFedAndBound := by
  refine ⟨?_, ?_, ?_, ?_, ?_, ?_, ?_⟩
  · intro s l v hr hl ho he hb h17
    have hx := exec_seqBind_next (v := v) hr hl
    have hin := s.d.inbound_same true 0 (0xC040 + 4 * l) 4
    generalize s.d.inbound true 0 (0xC040 + 4 * l) 4 = e at hx hin
    have hq : e.seq = s.d.seq := hin .seq (by decide)
    have hlane : e.lane = s.d.lane := by
      unfold Dev.lane
      rw [hq]
    have hslot : e.slot = s.d.slot := by
      unfold Dev.slot
      rw [show e.cmt = s.d.cmt from hin .cmt (by decide)]
    have hlit := lit_of (n := s.net) hin.fab
    rw [seqBindWrite_bound (by rw [hq]; exact ho) (by rw [hlane]; exact he) (by rw [hlane]; exact hb) h17] at hx
    refine ⟨fun hh hlt hu hs hj => ?_, fun hbad => ?_⟩
    · rw [if_pos (bindOk_free hh (by rw [hlit]; exact hlt) hu (by rw [hslot]; exact hs) (by rw [hlane]; exact hj))] at hx
      refine ⟨_, hx, ?_, fun j hjl => ?_, ?_, finish_same ((hin.up _).trans (Dev.modLane_same _ _ _))⟩
      · rw [Dev.notify_lane, Dev.lane_modLane, if_pos rfl, hin.tb2]
      · rw [Dev.notify_lane, Dev.lane_modLane, if_neg hjl, hlane]
      · rw [Dev.notify_seq]
        show e.seq.err = _
        rw [hq]
    · rw [if_neg (by rw [bindOk_refused (by rw [hlit, hlane]; exact hbad)]; exact Bool.false_ne_true)] at hx
      have hseq := (e.modLane l (fun x => { x with aa := v.toNat % 2 ^ 17 })).seqErr_seq 4
      have hlaneEnd : ((e.modLane l (fun x => { x with aa := v.toNat % 2 ^ 17 })).seqErr 4).lane l = { s.d.lane l with aa := v.toNat % 2 ^ 17 } := by
        rw [Dev.lane, hseq]
        refine (Dev.lane_modLane e l (fun x => { x with aa := v.toNat % 2 ^ 17 }) l).trans ?_
        rw [if_pos rfl, hlane]
      refine ⟨_, hx, ?_, ?_, ?_, ?_, finish_same ((hin.up _).trans (((Dev.modLane_same _ _ _).mono (by decide)).trans
        (Dev.seqErr_leaf_same (by decide) (by decide))))⟩
      · rw [Dev.notify_lane, hlaneEnd]
        exact hb
      · rw [Dev.notify_lane, hlaneEnd]
        exact he
      · rw [Dev.notify_seq, hseq]
        show e.seq.err ||| 2 ^ 4 = s.d.seq.err ||| 16
        rw [hq]
        rfl
      · rw [Dev.notify_view]
        exact Dev.bit_seqErr (by decide) (by decide)
  · intro s l hl hb he ha ht ho
    have hx := exec_unbind_next hb he ha ht
    rw [unbindLane_only hb ho] at hx
    have hrl := s.d.released_lane l
    have hseq : ((s.d.released l).modHeaters (aaCell (s.d.lane l).aa) (fun x => { x with preset := 1 })).seq = (s.d.released l).seq :=
      (Dev.modHeaters_same _ _ _) .seq (by decide)
    have hlane : ((s.d.released l).modHeaters (aaCell (s.d.lane l).aa) (fun x => { x with preset := 1 })).lane = (s.d.released l).lane :=
      congrArg (fun (q : Machine.Seq) (j : Nat) => q.lanes.get ({} : Lane) j) hseq
    refine ⟨_, hx, ?_, fun j hj => ?_, fun hk => ?_, fun hk hm => ⟨?_, ?_⟩, fun aa hm => ?_, fun aa hne => ?_,
      finish_same ((s.d.released_same l).trans ((Dev.modHeaters_same _ _ _).mono (by decide)))⟩
    · rw [Dev.notify_lane, hlane, hrl, if_pos rfl, ← he]
    · rw [Dev.notify_lane, hlane, hrl, if_neg hj]
    · rw [Dev.notify_cell, Dev.modHeaters_cell, Dev.released, if_pos hk, Dev.cell_modCell, if_pos rfl]
    · rw [Dev.notify_loop, Dev.loop_modHeaters, if_pos hm, Dev.released, if_neg hk, Dev.loop_modLoop, if_pos rfl]
    · rw [Dev.notify_fab, Dev.modHeaters_cells, Dev.released, if_neg hk]
      rfl
    · rw [Dev.notify_loop, Dev.loop_modHeaters, if_pos hm]
    · rw [Dev.notify_loop, Dev.loop_modHeaters, if_neg (fun h => hne (aaCell_of_heater h)), Dev.released]
      split
      · rfl
      · rw [Dev.loop_modLoop, if_neg (fun h => hne (by rw [h]))]
        rfl
  · intro s v hr h0 hf
    have hin := s.d.inbound_same true 0 0xC018 4
    have hx : exec (.refillEnable 0 v) s = _ := pf0Wr_next (addr := 0xC018)
      (g := fun d => if bitOf v.toNat 0 then { d with seq := d.seq.rfWrite v.toNat } else d) hr
    rw [if_pos h0] at hx
    have hq : (s.d.inbound true 0 0xC018 4).seq = s.d.seq := hin .seq (by decide)
    refine ⟨_, hx, ?_, finish_same ((hin.up _).trans (Dev.withSeq_same _ _))⟩
    rw [Dev.notify_seq, hq, Seq.rfWrite, if_pos (by simp [h0, hf]), h0]
  · intro s g ws x hx hn ha hw hp
    obtain ⟨e, hin, hexec⟩ := exec_segmentFilled_whole hx hn ha hw hp
    have hlen := length_sampleBytes ws
    refine ⟨_, hexec, ?_, fun j hj => Memory.readNat_samples _ _ _ (by omega), fun a h => Memory.read_writeBytes_out _ _ _ _ (by omega), rfl, rfl, rfl,
      rfl, ((hin.up _).trans (Dev.withSeq_same _ _)).trans ((Dev.notify_same _).up _)⟩
    rw [Dev.notify_seq, Dev.filled, hin.tb2, show e.seq = s.d.seq from hin .seq (by decide)]
    rfl
  · intro s x v hr hx
    have hexec := exec_patternWrite_sample (v := v) hr hx
    have hin := s.d.inbound_same true 2 (0x2000000 + 8 * x) 8
    generalize s.d.inbound true 2 (0x2000000 + 8 * x) 8 = e at hexec hin
    have hq : e.seq = s.d.seq := hin .seq (by decide)
    have hdrv : e.drv = s.d.drv := hin .drv (by decide)
    have hact : e.activeAt = s.d.activeAt := by
      unfold Dev.activeAt
      rw [Dev.segActive_of hq (by rw [hdrv]) (by rw [hdrv]), hq]
    have hro : e.refillOnly = s.d.refillOnly := by
      unfold Dev.refillOnly
      rw [hq]
    have h8 : 8 * x / 8 = x := by omega
    have hw : sampleWrite false s.mem e (8 * x) (bytesLE v.toNat 8) =
        if s.d.activeAt x then (s.mem, e.droppedWrite ((0x2000000 + 8 * x) / 8)) else if s.d.refillOnly x then (s.mem, e)
        else ({ s.mem with pattern := Memory.writeBytes s.mem.pattern (8 * x) (bytesLE v.toNat 8) }, e) := by
      unfold sampleWrite
      rw [h8, if_neg (by omega), hact, hro]
      rfl
    rw [hw] at hexec
    refine ⟨fun ha hf => ?_, fun ha hf => ?_, fun ha => ?_⟩
    · rw [if_neg (by simp [ha]), if_pos hf] at hexec
      exact ⟨_, hexec, finish_same hin⟩
    · rw [if_neg (by simp [ha]), if_neg (by simp [hf])] at hexec
      refine ⟨_, hexec, ?_, fun a h => Memory.read_writeBytes_out _ _ _ _ (by rw [length_bytesLE]; exact h), rfl, rfl, rfl, rfl,
        hin.trans (Dev.notify_same _)⟩
      have h1 : sampleBytes [v] = bytesLE v.toNat 8 := List.append_nil _
      have h2 := Memory.readNat_samples s.mem.pattern x [v] (j := 0) (by simp)
      rw [h1] at h2
      exact h2
    · rw [if_pos ha] at hexec
      have ha8 : (0x2000000 + 8 * x) / 8 = 0x400000 + x := by omega
      rw [ha8] at hexec
      refine ⟨_, hexec, ?_, ?_, finish_same ((hin.up _).trans (((Dev.withSeq_same _ _).mono (by decide)).trans
        (Dev.seqErr_leaf_same (by decide) (by decide))))⟩
      · rw [Dev.notify_seq, Dev.droppedWrite, Dev.seqErr_seq, hq]
        rfl
      · rw [Dev.notify_view]
        exact Dev.bit_seqErr (by decide) (by decide)
  · intro s hc hj ho hr hn hi hf
    have hx := exec_syncin_running hc hj ho hr hn
    refine ⟨_, hx, ?_, fun k => ?_, fun k => ?_, finish_same (((Dev.withSeq_same _ _).mono (by decide)).trans
      (((Dev.withMon_same _ _).trans (Dev.withMon_same _ _)).mono (by decide)))⟩
    · rw [Dev.notify_seq]
      rfl
    · rw [Dev.notify_inj]
      refine (Dev.inj_injTrigger (d := { s.d with seq := { s.d.seq with jumpPend := true, jumpTaken := false } }) 1 k hi).trans ?_
      unfold Inj.atTrigger
      simp only [Bool.and_eq_true, Bool.not_eq_true', beq_iff_eq, and_assoc]
      rfl
    · have hfl : s.d.syncedIn.fl k = if (s.d.fl k).state == .armed && (s.d.fl k).trig == 1 then (s.d.fl k).trigger s.d.tb2 else s.d.fl k :=
        Dev.fl_flTrigger (d := ({ s.d with seq := { s.d.seq with jumpPend := true, jumpTaken := false } } : Dev).injTrigger 1) (fun l => l.trig == 1) k hf
      rw [Dev.notify_fl, hfl]
      refine ⟨fun h => ?_, fun h => ?_⟩
      · rw [if_pos (by simp [h])]
        exact ⟨rfl, rfl⟩
      · rw [if_neg (by simpa using h)]
  · intro s x e he ht
    have hx := exec_syncPulseEnd_next he ht
    obtain ⟨l, hl⟩ := (s.d.pulseEnded x).notify_sentOn
    refine ⟨_, l, hx, hl, ?_, finish_same (((Dev.send_same _ _).up _).trans (Dev.withSeq_same _ _))⟩
    rw [Dev.notify_seq]
    exact Tab.get_set_self _ _ _ _

end Sys2Proof.Machine

/-! ## The release of blank in Dusk (O44) -/
namespace Sys2Proof.Machine
set_option Elab.async false

/-- Blank falls due for its release while Dusk holds every VOA on its blank code (its step 2 has come). -/
def releaseInDusk : State :=
  Tests.on (fun d => { d with
    pwr := { d.pwr with phase := .dusk, step := 2 }, flt := { d.flt with blank := true, stage2 := true, causeEnd := some 0 } }) Tests.ready

theorem releaseInDusk_due : releaseInDusk.d.blankOn = true ∧ releaseInDusk.d.flt.stage2 = true ∧ releaseInDusk.d.flt.causeEnd = some 0 ∧
    0 + 10000 < releaseInDusk.d.tb2 ∧ releaseInDusk.d.tb2 % 10000 = 0 ∧ Tab.wf {} releaseInDusk.d.fab.cells = true ∧ isVoaCa (inVoa 0 0) = true := by
  and_intros <;> decide +kernel

/-- Refutes O44: its clause on the release does not exclude Dusk, in which every VOA is BLANKED from step 2 on, released or not. -/
theorem not_blankAndRelease : ¬ Obligations.BlankAndRelease := by
  unfold Obligations.BlankAndRelease
  rintro ⟨-, -, -, -, hrelease⟩
  obtain ⟨hon, hs, he, ht, hm, hw, hv⟩ := releaseInDusk_due
  obtain ⟨t, -, -, hvoas, -, -, -, -, -, -, hsame⟩ := hrelease releaseInDusk 0 hon hs he ht hm hw
  have hpwr : t.d.pwr = releaseInDusk.d.pwr := hsame .pwr (by decide)
  have hb : t.d.blanked (inVoa 0 0) = true := by
    unfold Dev.blanked
    rw [hpwr]
    have hin : isInVoa (inVoa 0 0) = true := by decide
    simp [hin, releaseInDusk, Tests.on]
  rw [(hvoas _ hv).1] at hb
  cases hb

end Sys2Proof.Machine

/-! ## What the drivers put out, and the state after reset (O60, O3) -/
namespace Sys2Proof.Machine
set_option Elab.async false

variable {d : Dev} {ca : Nat}

/-! ### Codes and currents -/

theorem clampI_bounds {x lo hi : Int} (h : lo ≤ hi) : lo ≤ clampI x lo hi ∧ clampI x lo hi ≤ hi := by
  unfold clampI
  omega

/-- With no shape to play the driver puts out its code. -/
theorem Dev.driveNow_settled (hf : (d.cell ca).hzF = false) (ha : d.drv.armed = true) (hp : (d.cell ca).playing d.tb2 = false) :
    d.driveNow ca = d.codeNow ca * 65536 := by
  unfold Dev.driveNow Dev.driveAt
  simp only [hf, ha, Bool.not_true, Bool.or_false, Bool.false_eq_true, if_false]
  split
  · next w _ hw =>
    have hend : 16 * w.edge + w.delay + 1024 ≤ 16 * d.tb2 := by
      unfold Cell.playing at hp
      rw [hw] at hp
      simpa using hp
    unfold Wave.currentAt
    extract_lets edge
    rw [if_neg (by omega), if_neg (by omega)]
  · rfl

theorem Dev.laneDrive_none (h : d.blanked ca = true ∨ d.laneOf (fAa ca) = none ∧ (d.cell ca).heldI = none) : d.laneDrive ca = none := by
  unfold Dev.laneDrive
  rcases h with h | ⟨hl, hh⟩
  · rw [if_pos h]
  · rw [hl, hh]
    exact ite_self _

theorem Dev.laneDrive_lane {l : Nat} (hb : d.blanked ca = false) (hl : d.laneOf (fAa ca) = some l) : d.laneDrive ca = some (laneCode (d.lane l).value) := by
  unfold Dev.laneDrive
  rw [if_neg (by simp [hb]), hl]

theorem Dev.cell_of_modLoop (d : Dev) (k : Nat) (f : Loop → Loop) : (d.modLoop k f).cell = d.cell := rfl

/-- A step leaves its cell with the output it was given, and the shape that goes there. -/
theorem Dev.cell_stepTo (d : Dev) (ca kind : Nat) (f : Int) : ((d.stepTo ca f kind).cell ca).wave =
      some { edge := d.tb2, delay := d.edgeDelay ca, old := d.driveAt ca (16 * d.tb2 + d.edgeDelay ca), bank := d.drv.bank } ∧
    ((d.stepTo ca f kind).cell ca).f = f ∧ ((d.stepTo ca f kind).cell ca).fDue = none := by
  unfold Dev.stepTo
  simp only [Dev.cell_ffStep, Dev.modHeaters_cell, Dev.clearTrim, Dev.cell_of_modLoop, Dev.cell_modCell_self, and_self]

/-- Settles O60: each figure by its formula. -/
theorem driversPutOutWaveforms : Obligations.DriversPutOutWaveforms := by
  refine ⟨fun old new s => clampI_bounds (by decide), fun d ca => ⟨fun h => ?_, fun hf ha hp => Dev.driveNow_settled hf ha hp, fun h => ?_, fun l hb hl => ?_⟩,
    fun d ca kind f => d.cell_stepTo ca kind f, fun p r mv high => Nat.min_le_right _ _, fun aa tz p => min_le_right _ _, fun f k => ?_⟩
  · unfold Dev.driveNow Dev.driveAt
    exact if_pos (by simpa using h)
  · rw [Dev.codeNow, Dev.laneDrive_none h]
    rfl
  · rw [Dev.codeNow, Dev.laneDrive_lane hb hl]
    rfl
  · simp [ncoAt]

/-! ### Reset -/

theorem State.reset_canonical : State.reset.canonical := by
  refine ⟨⟨rfl, rfl⟩, ?_, ?_, rfl, rfl, rfl⟩
  · unfold Dev.canonical
    and_intros <;> rfl
  · unfold Isl.canonical
    and_intros <;> rfl

theorem State.reset_pinsFollow : State.reset.pinsFollow := by
  unfold State.pinsFollow
  decide +kernel

/-- Settles O3: each part of the reset state by its definition. -/
theorem resetLeavesAnEmptyMap : Obligations.ResetLeavesAnEmptyMap := by
  refine ⟨rfl, State.reset_canonical, State.reset_pinsFollow, rfl, rfl, rfl, rfl, rfl, rfl, rfl, rfl, rfl, fun _ => ⟨rfl, rfl⟩, fun _ _ => rfl, fun _ => rfl,
    fun _ => ⟨rfl, rfl⟩, rfl, fun p hp => ?_⟩
  unfold State.drive
  rw [if_neg hp]
  exact if_pos rfl

end Sys2Proof.Machine

/-! ## Passes over rising keys, and the calm device -/
namespace Sys2Proof.Machine
set_option Elab.async false

section Passes
variable {α : Type}

theorem Tab.get_append (d : α) (pre rest : Tab α) (j : Nat) :
    Tab.get d (pre ++ rest) j = if j ∈ pre.map (·.1) then Tab.get d pre j else Tab.get d rest j := by
  induction pre with
  | nil => rfl
  | cons p pre ih =>
    obtain ⟨k, v⟩ := p
    by_cases hk : k = j
    · simp [Tab.get, hk]
    · have hm : j ∈ ((k, v) :: pre).map (·.1) ↔ j ∈ pre.map (·.1) := by simp [Ne.symm hk]
      rw [List.cons_append, Tab.get, if_neg hk, ih, if_congr hm rfl rfl, Tab.get, if_neg hk]

variable [DecidableEq α]

/-- One key of a pass: it takes its change, and every other key reads as before from the entries below it and those above. -/
theorem Tab.modMany_at (d : α) (f : Nat → α → α) (k : Nat) (ks : List Nat) {t : Tab α} (h : t.Pairwise (fun p q => p.1 < q.1)) :
    ∃ pre rest, Tab.modMany d f (k :: ks) t =
        pre ++ ((if f k (t.get d k) = d then [] else [(k, f k (t.get d k))]) ++ Tab.modMany d f ks rest) ∧
      rest.Pairwise (fun p q => p.1 < q.1) ∧ (∀ p ∈ pre, p.1 < k) ∧ (∀ p ∈ rest, k < p.1) ∧ ∀ j, j ≠ k → t.get d j = Tab.get d (pre ++ rest) j := by
  have heq : ∀ (pre rest : Tab α) (old v : α), v = f k old → (if v = d then pre ++ Tab.modMany d f ks rest else
      pre ++ (k, v) :: Tab.modMany d f ks rest) = pre ++ ((if f k old = d then [] else [(k, f k old)]) ++ Tab.modMany d f ks rest) := by
    rintro pre rest old v rfl
    split <;> simp
  have hpre : ∀ p ∈ t.takeWhile (fun e => decide (e.1 < k)), p.1 < k := fun p hp => by simpa using List.mem_takeWhile_imp hp
  have hs := h.sublist (List.dropWhile_sublist (fun e : Nat × α => decide (e.1 < k)))
  have ht : t = t.takeWhile (fun e => decide (e.1 < k)) ++ t.dropWhile (fun e => decide (e.1 < k)) := (List.takeWhile_append_dropWhile).symm
  have hd : ∀ p r, t.dropWhile (fun e => decide (e.1 < k)) = p :: r → k ≤ p.1 := fun p r hr => by
    simpa [hr] using List.head_dropWhile_not (fun e : Nat × α => decide (e.1 < k)) (l := t) (by simp [hr])
  rw [Tab.modMany, List.span_eq_takeWhile_dropWhile]
  dsimp only
  generalize t.takeWhile (fun e => decide (e.1 < k)) = pre at *
  generalize t.dropWhile (fun e => decide (e.1 < k)) = rest at *
  have hk : Tab.get d t k = Tab.get d rest k := by
    rw [ht, Tab.get_append, if_neg]
    intro hm
    obtain ⟨p, hp, he⟩ := List.mem_map.mp hm
    exact absurd (hpre p hp) (by omega)
  match rest with
  | [] => exact ⟨pre, [], by rw [hk]; exact heq _ _ _ _ rfl, .nil, hpre, by simp, fun j _ => by rw [ht]⟩
  | (k', v) :: r =>
    have hr := List.pairwise_cons.mp hs
    by_cases hkk : k' = k
    · subst hkk
      simp only [if_true]
      refine ⟨pre, r, ?_, hr.2, hpre, hr.1, fun j hj => ?_⟩
      · rw [hk, Tab.get, if_pos rfl]
        exact heq _ _ _ _ rfl
      · rw [ht, Tab.get_append, Tab.get_append, Tab.get, if_neg (Ne.symm hj)]
    · have hlt : k < k' := lt_of_le_of_ne (hd _ _ rfl) (Ne.symm hkk)
      have hab : ∀ p ∈ (k', v) :: r, k < p.1 := by simpa using ⟨hlt, fun a b hb => hlt.trans (hr.1 _ hb)⟩
      have hg : Tab.get d ((k', v) :: r) k = d := Tab.get_of_not_mem (fun hm => by
        obtain ⟨p, hp, he⟩ := List.mem_map.mp hm
        exact absurd (hab p hp) (by omega))
      simp only [hkk, if_false]
      refine ⟨pre, (k', v) :: r, ?_, hs, hpre, hab, fun j _ => by rw [ht]⟩
      rw [hk, hg]
      exact heq _ _ _ _ rfl

/-- A pass over rising keys changes the entries of its keys alone. -/
theorem Tab.get_modMany (d : α) (f : Nat → α → α) : ∀ (ks : List Nat) {t : Tab α} (j : Nat), ks.Pairwise (· < ·) →
    t.Pairwise (fun p q => p.1 < q.1) → (Tab.modMany d f ks t).get d j = if j ∈ ks then f j (t.get d j) else t.get d j := by
  intro ks
  induction ks with
  | nil => intro t j _ _; simp [Tab.modMany]
  | cons k ks ih =>
    intro t j hks h
    obtain ⟨hk1, hks⟩ := List.pairwise_cons.mp hks
    obtain ⟨pre, rest, heq, hr, hpre, hrest, hget⟩ := Tab.modMany_at d f k ks h
    have hnone : Tab.get d rest k = d := Tab.get_of_not_mem (fun hm => by
      obtain ⟨p, hp, he⟩ := List.mem_map.mp hm
      exact absurd (hrest p hp) (by omega))
    have hbelow : ∀ j, k ≤ j → j ∉ pre.map (·.1) := fun j hj hm => by
      obtain ⟨p, hp, he⟩ := List.mem_map.mp hm
      exact absurd (hpre p hp) (by omega)
    have hkn : k ∉ ks := fun hm => absurd (hk1 k hm) (by omega)
    rw [heq, Tab.get_append, Tab.get_append, ih j hks hr]
    by_cases hj : j = k
    · subst hj
      rw [if_neg (hbelow j (le_refl j)), if_neg hkn, hnone, if_pos List.mem_cons_self]
      by_cases hv : f j (t.get d j) = d
      · simp [hv]
      · simp [hv, Tab.get]
    · have hm : j ∉ (if f k (t.get d k) = d then [] else [(k, f k (t.get d k))]).map (·.1) := by split <;> simp [hj]
      rw [if_neg hm, hget j hj, Tab.get_append]
      by_cases hp : j ∈ pre.map (·.1)
      · have hjk : j ∉ k :: ks := fun hm => by
          rcases List.mem_cons.mp hm with hm | hm
          · exact hj hm
          · exact hbelow j (le_of_lt (hk1 j hm)) hp
        rw [if_pos hp, if_neg hjk, if_pos hp]
      · simp [hp, hj]

end Passes

/-- A pass over the heaters, in a canonical table. -/
theorem Tab.get_modMany_heaters {t : Tab Loop} (f : Nat → Loop → Loop) (h : Tab.wf {} t = true) {ca aa : Nat} (hc : ca ∈ allCells)
    (ha : aa ∈ heatersOf ca) : (Tab.modMany {} f allHeaters t).get {} aa = f aa (t.get {} aa) := by
  rw [Tab.get_modMany _ _ _ _ allHeaters_rise ((Tab.wf_iff {} t).mp h).1, if_pos (show aa ∈ allHeaters from List.mem_flatMap.mpr ⟨ca, hc, ha⟩)]

/-- The loop held, its mode remembered (R329). -/
def Loop.toHold (l : Loop) : Loop := { l with prevMode := some (l.prevMode.getD l.mode), mode := 3 }

theorem Dev.loop_holdLoops {d : Dev} (h : Tab.wf {} d.fab.loops = true) {ca aa : Nat} (hc : ca ∈ allCells) (ha : aa ∈ heatersOf ca) :
    d.holdLoops.loop aa = (d.loop aa).toHold := Tab.get_modMany_heaters (fun _ => Loop.toHold) h hc ha

theorem Dev.holdLoops_same (d : Dev) : Dev.sameBut [.fab] d d.holdLoops := d.withFab_same _

/-! ### The calm device -/

/-- No fatal source holds and nothing blanks the device: what settles the fatal state finds nothing to do. -/
theorem Dev.settleFatal_calm {d : Dev} (n : Net) (k : Nat) (hc : d.fatalCause = false) (hf : d.flt.fatal = false) (hb : d.flt.blank = false)
    (hbc : d.blankCause = false) : d.settleFatal n k = d := by
  have h1 : d.fatalSync k = d := by simp [Dev.fatalSync, hc, hf]
  have h2 : d.relockCheck n = d := by simp [Dev.relockCheck, hf]
  rw [Dev.settleFatal, h1, h2, Dev.blankSync_of hbc hb]

theorem Dev.fatalCause_false_iff (d : Dev) : d.fatalCause = false ↔ ∀ n, n < 13 → (d.src n).fatalHold d.flt.injAct = false := by
  simp [Dev.fatalCause]

end Sys2Proof.Machine

/-! ## Fault sources under software (O43) -/
namespace Sys2Proof.Machine
set_option Elab.async false

/-! ### What occurrences leave of a source -/

/-- What an occurrence never takes back: its force and scope, and, at the time now, that it is latched, injected and dated. -/
structure Src.stays (now : Nat) (x y : Src) : Prop where
  force : y.force = x.force
  scope : y.forceScope = x.forceScope
  latched : x.latched = true → y.latched = true
  inj : x.inj = true → y.inj = true
  last : x.last = now → y.last = now

theorem Src.stays.refl (now : Nat) (x : Src) : x.stays now x := ⟨rfl, rfl, id, id, id⟩

theorem Src.stays.trans {now : Nat} {x y z : Src} (h : x.stays now y) (h' : y.stays now z) : x.stays now z :=
  ⟨h'.force.trans h.force, h'.scope.trans h.scope, fun k => h'.latched (h.latched k), fun k => h'.inj (h.inj k), fun k => h'.last (h.last k)⟩

theorem Src.marked_stays (s : Src) (n scope now : Nat) (inj full : Bool) : s.stays now (s.marked n scope now inj full) := by
  obtain ⟨h1, -, -, h4, -, h6, h7, h8, -⟩ := Src.marked_fields s n scope now inj full
  exact ⟨h4, h8, fun _ => h1, fun h => by rw [h6, h]; rfl, fun _ => h7⟩

/-- Every source stays so, at the device's own time. -/
def Dev.srcsStay (d e : Dev) : Prop := e.tb2 = d.tb2 ∧ ∀ m, (d.src m).stays d.tb2 (e.src m)

variable {d e g : Dev}

theorem Dev.srcsStay.refl (d : Dev) : d.srcsStay d := ⟨rfl, fun _ => .refl _ _⟩

theorem Dev.srcsStay.trans (h : d.srcsStay e) (h' : e.srcsStay g) : d.srcsStay g :=
  ⟨h'.1.trans h.1, fun m => (h.2 m).trans (by have := h'.2 m; rwa [h.1] at this)⟩

theorem Dev.srcsStay.foldl {α : Type} {g : Dev → α → Dev} (h : ∀ (d : Dev) x, d.srcsStay (g d x)) (l : List α) :
    ∀ d : Dev, d.srcsStay (l.foldl g d) := by
  induction l with
  | nil => exact .refl
  | cons x l ih => exact fun d => (h d x).trans (ih _)

/-- Events alone change no source. -/
theorem Dev.signals.stays (h : d.signals [] e) : d.srcsStay e := ⟨h.same.tb2, fun m => by rw [h.src m (by simp)]; exact .refl _ _⟩

theorem Dev.modSrc_stays (d : Dev) (n : Nat) {f : Src → Src} (h : (d.src n).stays d.tb2 (f (d.src n))) : d.srcsStay (d.modSrc n f) := by
  refine ⟨rfl, fun m => ?_⟩
  rw [Dev.src_modSrc]
  split
  · next hm => rw [hm]; exact h
  · exact .refl _ _

theorem Dev.mark_stays (d : Dev) (n scope : Nat) (inj : Bool) : d.srcsStay (d.mark n scope inj) := by
  have h := d.modSrc_stays n (f := fun s => s.marked n scope d.tb2 inj (!inj || d.flt.injAct)) (Src.marked_stays _ _ _ _ _ _)
  rw [Dev.mark_eq]
  split
  · exact h.trans (Dev.errPulse_signals _).stays
  · exact h

theorem Dev.eventLost_stays (d : Dev) (f : Nat) : d.srcsStay (d.eventLost f) := by
  have h := d.mark_stays 68 f false
  unfold Dev.eventLost
  extract_lets d1
  split
  · exact h.trans (.foldl (fun d g => (d.faultPush_signals g 68 f _ false).stays) _ d1)
  · exact h

theorem Dev.faultEvents_stays (d : Dev) (n scope : Nat) (cur inj : Bool) : d.srcsStay (d.faultEvents n scope cur inj) := by
  unfold Dev.faultEvents
  split
  · refine .foldl (fun d f => ?_) _ d
    have h := (d.faultPush_signals (ns := []) f n scope cur inj).stays
    generalize d.faultPush f n scope cur inj = p at h ⊢
    obtain ⟨ok, x⟩ := p
    dsimp only at h ⊢
    split
    · exact h
    · exact h.trans (Dev.eventLost_stays _ f)
  · exact .refl d

theorem Dev.noted_stays (d : Dev) (n scope : Nat) (inj : Bool) : d.srcsStay (d.noted n scope inj) := by
  unfold Dev.noted
  split
  · exact (d.mark_stays n scope inj).trans (Dev.setLeaf_signals _ _ _ _).stays
  · exact d.mark_stays n scope inj

theorem Dev.signal_stays (d : Dev) (n scope : Nat) (inj : Bool) : d.srcsStay (d.signal n scope inj) := by
  cases h : srcReserved n
  · rw [Dev.signal_eq h]
    exact (d.noted_stays n scope inj).trans (Dev.faultEvents_stays _ _ _ _ _)
  · have he : d.signal n scope inj = d := by simp [Dev.signal, h]
    rw [he]
    exact .refl d

theorem Dev.condOn_stays (d : Dev) (n scope : Nat) : d.srcsStay (d.condOn n scope) := by
  unfold Dev.condOn
  split
  · exact .refl d
  · exact (d.modSrc_stays n (by exact ⟨rfl, rfl, id, id, id⟩)).trans (Dev.signal_stays _ n scope false)

theorem Dev.condOff_stays (d : Dev) (n scope : Nat) : d.srcsStay (d.condOff n scope) := d.modSrc_stays n (by exact ⟨rfl, rfl, id, id, id⟩)

theorem Dev.pathFaults_stays (d : Dev) (n : Net) : d.srcsStay (d.pathFaults n) := by
  unfold Dev.pathFaults
  extract_lets bad want d1
  have h1 : d.srcsStay d1 := .foldl (fun d x => d.condOff_stays 40 x) _ d
  exact h1.trans (.foldl (fun d x => d.condOn_stays 40 x) _ d1)

/-! ### FORCE, LATCHED, OUT and FLT_CTL -/

/-- Nothing but the sources, the faults and their events. -/
abbrev fltParts : List Part := [.src, .flt, .fns, .views]

/-- A calm device, in the words of the model's functions. -/
structure Dev.calm (d : Dev) : Prop where
  cause : d.fatalCause = false
  fatal : d.flt.fatal = false
  blank : d.flt.blank = false
  blankCause : d.blankCause = false

theorem Dev.calm.settles (h : d.calm) (n : Net) (k : Nat) : d.settleFatal n k = d :=
  d.settleFatal_calm n k h.cause h.fatal h.blank h.blankCause

/-- Calm looks at the fatal sources and at four flags. -/
theorem Dev.calm.of (h : d.calm) (hs : ∀ m, m < 13 → (e.src m).fatalHold e.flt.injAct = (d.src m).fatalHold d.flt.injAct)
    (hf : e.flt.fatal = d.flt.fatal) (hb : e.flt.blank = d.flt.blank) (hc : e.blankCause = d.blankCause) : e.calm :=
  ⟨e.fatalCause_false_iff.mpr fun m hm => (hs m hm).trans (d.fatalCause_false_iff.mp h.cause m hm), hf.trans h.fatal, hb.trans h.blank,
    hc.trans h.blankCause⟩

/-- Occurrences leave the flags. -/
theorem Dev.signals.flags {ns : List Nat} (h : d.signals ns e) : e.flt.fatal = d.flt.fatal ∧ e.flt.blank = d.flt.blank ∧
    e.blankCause = d.blankCause ∧ e.flt.injAct = d.flt.injAct ∧ e.flt.injEn = d.flt.injEn ∧ e.flt.lock = d.flt.lock := by
  have hf := h.flt
  refine ⟨?_, ?_, ?_, ?_, ?_, ?_⟩
  · rw [← hf]
  · rw [← hf]
  · unfold Dev.blankCause; rw [← hf]
  · rw [← hf]
  · rw [← hf]
  · rw [← hf]

/-- Occurrences of sources that are not fatal leave a calm device calm. -/
theorem Dev.signals.calm {ns : List Nat} (h : d.signals ns e) (hc : d.calm) (hn : ∀ n ∈ ns, 13 ≤ n) : e.calm := by
  obtain ⟨h1, h2, h3, h4, -⟩ := h.flags
  exact hc.of (fun m hm => by rw [h.src m (fun hm' => absurd (hn m hm') (by omega)), h4]) h1 h2 h3

/-- An occurrence that only signals takes a source into no fatal state. -/
theorem Src.fatalHold_marked {s : Src} (n scope now : Nat) (h : s.fatalHold false = false) :
    (s.marked n scope now true false).fatalHold false = false := by
  obtain ⟨-, -, hc, hf, -, -, -, -, ho, -⟩ := Src.marked_fields s n scope now true false
  simp only [Src.fatalHold, Bool.and_false, Bool.or_false, Bool.or_eq_false_iff] at h ⊢
  obtain ⟨⟨h1, h2⟩, h3⟩ := h
  rw [List.any_eq_false] at h2
  refine ⟨⟨by rw [hc]; exact h1, ?_⟩, ho.trans h3⟩
  unfold Src.marked
  extract_lets s'
  split
  · have hold : ((s.insts.find? (fun i => i.scope == scope)).getD {}).full = false := by
      cases hi : s.insts.find? (fun i => i.scope == scope) with
      | none => rfl
      | some i => simpa using h2 i (List.mem_of_find?_eq_some hi)
    have hrest : (s.insts.filter (fun x => x.scope != scope)).any (·.full) = false :=
      List.any_eq_false.mpr fun x hx => h2 x (List.mem_of_mem_filter hx)
    change ((((s.insts.find? (fun i => i.scope == scope)).getD {}).full || false) || _) = false
    rw [hold]
    exact hrest
  · exact List.any_eq_false.mpr h2

theorem Dev.srcStatWrite_eq {d : Dev} (n : Net) {k : Nat} (v : Nat) (h : k < 96) : d.srcStatWrite n k v =
      (let now := d.tb2
       let d1 := if bitOf v 1 && !(d.src k).current then d.modSrc k (fun s => { s with latched := false, real := false, inj := false }) else d
       let d2 := if bitOf v 4 && (d1.src k).out then
          d1.modSrc k (fun s => { s with out := false, recs := [], insts := s.insts.map (fun (i : Inst) => { i with since := i.since.map (fun _ => now) }) })
         else d1
       let want := bitOf v 5 && d2.flt.injEn && !srcReserved k
       let d3 := if want && !(d2.src k).force then d2.inject n k else if want then d2 else d2.unforce k
       (d3.settleFatal n k).pathFaults n) := by
  unfold Dev.srcStatWrite
  rw [if_neg (by omega)]

theorem Dev.unforce_of {d : Dev} {k : Nat} (h : (d.src k).force = false) : d.unforce k = d := by
  rw [Dev.unforce, h]
  rfl

/-- An injected occurrence that only signals (R326). -/
def Dev.injects (d : Dev) (k : Nat) : Dev :=
  (d.modSrc k (fun s => { s with force := true, forceScope := d.flt.injScope })).signal k d.flt.injScope true

theorem Dev.inject_of {d : Dev} (n : Net) (k : Nat) (h : d.flt.injAct = false) : d.inject n k = d.injects k := by
  have hs : (d.injects k).flt.injAct = false :=
    ((d.modSrc k _).signal_signals (ns := [k, 68]) d.flt.injScope true (by simp) (by simp)).flags.2.2.2.1.trans h
  unfold Dev.inject
  extract_lets scope e
  change e.flt.injAct = false at hs
  simp only [hs, Bool.not_false, Bool.true_or, if_true]
  rfl

theorem Dev.injects_signals (d : Dev) (k : Nat) : d.signals [k, 68] (d.injects k) :=
  (d.modSrc_signals _ (by simp)).trans (Dev.signal_signals _ _ _ (by simp) (by simp))

theorem Dev.injects_calm {d : Dev} (h : d.calm) (ha : d.flt.injAct = false) {k : Nat} (hk : srcReserved k = false) : (d.injects k).calm := by
  obtain ⟨h1, h2, h3, h4, -⟩ := (d.injects_signals k).flags
  refine ⟨(Dev.fatalCause_false_iff _).mpr fun m hm => ?_, h1.trans h.fatal, h2.trans h.blank, h3.trans h.blankCause⟩
  have h0 := d.fatalCause_false_iff.mp h.cause m hm
  rw [h4, ha]
  rw [ha] at h0
  by_cases hmk : m = k
  · subst hmk
    rw [Dev.injects, Dev.src_signal hk (by omega), Dev.src_modSrc_self]
    change (Src.marked _ m _ _ true (!true || d.flt.injAct)).fatalHold false = false
    rw [ha]
    exact Src.fatalHold_marked m _ _ (by simpa [Src.fatalHold] using h0)
  · rw [(d.injects_signals k).src m (by simp; omega)]
    exact h0

/-- What the source of an injected occurrence then shows. -/
theorem Dev.injects_shows {d e : Dev} {k : Nat} (hk : srcReserved k = false) (h : (d.injects k).srcsStay e) :
    (e.src k).force = true ∧ (e.src k).latched = true ∧ (e.src k).inj = true ∧ (e.src k).forceScope = d.flt.injScope ∧ (e.src k).last = d.tb2 := by
  let s := { d.src k with force := true, forceScope := d.flt.injScope }
  have hn : (Dev.noted (d.modSrc k (fun s => { s with force := true, forceScope := d.flt.injScope })) k d.flt.injScope true).src k =
      s.marked k d.flt.injScope d.tb2 true (!true || d.flt.injAct) := by
    unfold Dev.noted
    have hm := Dev.src_mark (d.modSrc k (fun s => { s with force := true, forceScope := d.flt.injScope })) k d.flt.injScope true
    rw [Dev.src_modSrc_self] at hm
    split <;> exact hm
  have hst := (Dev.faultEvents_stays (Dev.noted (d.modSrc k (fun s => { s with force := true, forceScope := d.flt.injScope })) k d.flt.injScope true)
    k d.flt.injScope ((Dev.noted (d.modSrc k (fun s => { s with force := true, forceScope := d.flt.injScope })) k d.flt.injScope true).src k).current
    true)
  rw [← Dev.signal_eq hk] at hst
  have htb : (Dev.noted (d.modSrc k (fun s => { s with force := true, forceScope := d.flt.injScope })) k d.flt.injScope true).tb2 = d.tb2 :=
    ((d.modSrc k _).noted_stays k d.flt.injScope true).1
  have hall := (hst.trans h).2 k
  rw [hn, htb] at hall
  obtain ⟨m1, -, -, m4, -, m6, m7, m8, -⟩ := Src.marked_fields s k d.flt.injScope d.tb2 true (!true || d.flt.injAct)
  exact ⟨hall.force.trans m4, hall.latched m1, hall.inj (m6.trans (Bool.or_true _)), hall.scope.trans m8, hall.last m7⟩


theorem Dev.inbound_flt (d : Dev) (w : Bool) (b a n : Nat) : (d.inbound w b a n).flt = d.flt := rfl

theorem Dev.calm.inbound (h : d.calm) (w : Bool) (b a n : Nat) : (d.inbound w b a n).calm := ⟨h.cause, h.fatal, h.blank, h.blankCause⟩

/-- FORCE on a calm device. -/
theorem Dev.srcStatWrite_force {d : Dev} (n : Net) {k : Nat} (hk : k < 96) (hr : srcReserved k = false) (hc : d.calm) (ha : d.flt.injAct = false)
    (hf : (d.src k).force = false) :
    d.srcStatWrite n k 32 = if d.flt.injEn = true then (d.injects k).pathFaults n else d.pathFaults n := by
  rw [Dev.srcStatWrite_eq n 32 hk]
  have h1 : bitOf 32 1 = false := by decide
  have h4 : bitOf 32 4 = false := by decide
  have h5 : bitOf 32 5 = true := by decide
  simp only [h1, h4, h5, Bool.false_and, Bool.false_eq_true, if_false, hr, Bool.not_false, Bool.and_true, Bool.true_and, hf, Dev.unforce_of hf,
    Dev.inject_of n k ha]
  split
  · rw [(Dev.injects_calm hc ha hr).settles]
  · rw [hc.settles]

/-- LATCHED written on a calm device. -/
theorem Dev.srcStatWrite_latched {d : Dev} (n : Net) {k : Nat} (hk : k < 96) (hc : d.calm) (hf : (d.src k).force = false) :
    d.srcStatWrite n k 2 = (if (d.src k).conds.isEmpty then d.modSrc k (fun s => { s with latched := false, real := false, inj := false })
      else d).pathFaults n := by
  have h1 : bitOf 2 1 = true := by decide
  have h4 : bitOf 2 4 = false := by decide
  have h5 : bitOf 2 5 = false := by decide
  have hcur : (!(d.src k).current) = (d.src k).conds.isEmpty := by rw [Src.current, hf]; cases (d.src k).conds <;> rfl
  rw [Dev.srcStatWrite_eq n 2 hk]
  simp only [h1, h4, h5, Bool.false_and, Bool.false_eq_true, if_false, Bool.true_and, hcur]
  by_cases he : (d.src k).conds.isEmpty = true
  · have hf' : ((d.modSrc k (fun s => { s with latched := false, real := false, inj := false })).src k).force = false := by
      rw [Dev.src_modSrc_self]; exact hf
    have hcalm : (d.modSrc k (fun s => { s with latched := false, real := false, inj := false })).calm := by
      refine hc.of (fun m _ => ?_) rfl rfl rfl
      rw [Dev.src_modSrc]
      split
      · next hm => rw [hm]; rfl
      · rfl
    rw [if_pos he, Dev.unforce_of hf', hcalm.settles]
  · rw [if_neg he, Dev.unforce_of hf, hc.settles]

/-- The source with OUT cleared: its window is empty, and a new quiet time starts (R329). -/
def Src.outCleared (s : Src) (now : Nat) : Src :=
  { s with out := false, recs := [], insts := s.insts.map (fun i => { i with since := i.since.map (fun _ => now) }) }

theorem Dev.srcStatWrite_out {d : Dev} (n : Net) {k : Nat} (hk : k < 96) (h13 : 12 < k) (hc : d.calm) (hf : (d.src k).force = false)
    (ho : (d.src k).out = true) : d.srcStatWrite n k 16 = (d.modSrc k (fun s => s.outCleared d.tb2)).pathFaults n := by
  have h1 : bitOf 16 1 = false := by decide
  have h4 : bitOf 16 4 = true := by decide
  have h5 : bitOf 16 5 = false := by decide
  rw [Dev.srcStatWrite_eq n 16 hk]
  simp only [h1, h4, h5, Bool.false_and, Bool.false_eq_true, if_false, Bool.true_and, ho, if_true]
  have hf' : ((d.modSrc k (fun s => s.outCleared d.tb2)).src k).force = false := by rw [Dev.src_modSrc_self]; exact hf
  have hcalm : (d.modSrc k (fun s => s.outCleared d.tb2)).calm :=
    ((d.modSrc_signals (ns := [k]) (fun s => s.outCleared d.tb2) (by simp))).calm hc (by simp; omega)
  change ((Dev.unforce (d.modSrc k (fun s => s.outCleared d.tb2)) k).settleFatal n k).pathFaults n = _
  rw [Dev.unforce_of hf', hcalm.settles]

/-- FLT_CTL's fields (R326). -/
def Flt.controlled (f : Flt) (v : Nat) : Flt :=
  { f with swBlank := bitOf v 0, injEn := if f.lock then f.injEn else bitOf v 1, injAct := if f.lock then f.injAct else bitOf v 2,
           lock := f.lock || bitOf v 3 }

theorem Dev.foldl_unforce {d : Dev} (h : ∀ n, n < 96 → (d.src n).force = false) : (List.range 96).foldl Dev.unforce d = d := by
  have hl : ∀ l : List Nat, (∀ n ∈ l, n < 96) → l.foldl Dev.unforce d = d := by
    intro l
    induction l with
    | nil => exact fun _ => rfl
    | cons n l ih =>
      intro hn
      rw [List.foldl_cons, Dev.unforce_of (h n (hn n List.mem_cons_self))]
      exact ih fun m hm => hn m (List.mem_cons_of_mem _ hm)
  exact hl _ fun n hn => List.mem_range.mp hn

theorem Dev.fltCtlWrite_of {d : Dev} (n : Net) {v : Nat} (hc : d.calm) (h0 : bitOf v 0 = false) (hs : d.flt.swBlank = false)
    (hf : ∀ n, n < 96 → (d.src n).force = false) :
    d.fltCtlWrite n v = ({ d with flt := d.flt.controlled v } : Dev).pathFaults n := by
  have hcalm : ({ d with flt := d.flt.controlled v } : Dev).calm := by
    refine hc.of (fun m hm => ?_) rfl rfl ?_
    · change (d.src m).fatalHold _ = _
      simp [Src.fatalHold, hf m (by omega)]
    · change (d.flt.blankN || bitOf v 0 || d.flt.fatal || d.flt.extest) = (d.flt.blankN || d.flt.swBlank || d.flt.fatal || d.flt.extest)
      rw [h0, hs]
  have hfold : (List.range 96).foldl Dev.unforce { d with flt := d.flt.controlled v } = { d with flt := d.flt.controlled v } := Dev.foldl_unforce hf
  unfold Dev.fltCtlWrite
  extract_lets f f' d1 d2 last
  have hd2 : d2 = { d with flt := d.flt.controlled v } := by
    change (if f'.injEn = true then d1 else (List.range 96).foldl Dev.unforce d1) = _
    split
    · rfl
    · exact hfold
  rw [hd2, hcalm.settles]

end Sys2Proof.Machine

/-! ## Recovery of fault sources (O43) -/
namespace Sys2Proof.Machine
set_option Elab.async false

theorem Dev.sameBut.flt {ps : List Part} {d e : Dev} (h : Dev.sameBut ps d e) (hp : Part.flt ∉ ps := by decide) :
    { e.flt with src := d.flt.src, errN := d.flt.errN, permit := d.flt.permit } = d.flt := h .flt hp

theorem Dev.sameBut.src {ps : List Part} {d e : Dev} (h : Dev.sameBut ps d e) (hp : Part.src ∉ ps := by decide) : e.src = d.src := by
  have hs : e.flt.src = d.flt.src := h .src hp
  funext m
  rw [Dev.src, hs, Dev.src]

/-- What leaves sources and faults leaves a calm device calm. -/
theorem Dev.sameBut.calm {ps : List Part} {d e : Dev} (h : Dev.sameBut ps d e) (hc : d.calm) (hs : Part.src ∉ ps := by decide)
    (hf : Part.flt ∉ ps := by decide) : e.calm := by
  have hflt := h.flt hf
  refine hc.of (fun m _ => ?_) ?_ ?_ ?_
  · rw [h.src hs, ← hflt]
  · rw [← hflt]
  · rw [← hflt]
  · unfold Dev.blankCause
    rw [← hflt]

variable {d e g : Dev}

/-! ### What recovers with a source -/

theorem Dev.rearm_same (d : Dev) (ca : Nat) : Dev.sameBut [.fab] d (d.rearm ca) := by
  unfold Dev.rearm
  extract_lets held c d1
  have h1 : Dev.sameBut [.fab] d d1 := .ite (d.modCell_same ca _) (.refl _ d)
  exact .ite (h1.trans ((Dev.modCell_same _ ca _).trans (Dev.modHeaters_same _ ca _))) h1

theorem Dev.unconstrain_same (d : Dev) (ca : Nat) : Dev.sameBut [.fab] d (d.unconstrain ca) :=
  .ite (.refl _ d) ((d.setCons_same ca .free).trans (Dev.modCell_same _ _ _))

theorem Dev.unlose_same (d : Dev) (ca : Nat) : Dev.sameBut [.cmt] d (d.unlose ca) :=
  .ite (.refl _ d) (.foldl (fun d _ => .ite (.refl _ d) (d.withCmt_same _)) _ d)

theorem Dev.driveRecover_same (d : Dev) (k scope : Nat) : Dev.sameBut [.fab, .cmt, .mon] d (d.driveRecover k scope) := by
  unfold Dev.driveRecover
  extract_lets cas
  refine .foldl (fun d ca => ?_) _ d
  exact ((d.modCell_same ca _).up _).trans (((Dev.rearm_same _ ca).up _).trans (((Dev.unconstrain_same _ ca).up _).trans ((Dev.unlose_same _ ca).up _)))

theorem Dev.recoverAct_same (d : Dev) (k scope : Nat) : Dev.sameBut [.fab, .cmt, .mon] d (d.recoverAct k scope) := by
  unfold Dev.recoverAct
  refine .ite (d.driveRecover_same k scope) (.ite (.ite (.refl _ d) ?_) (.refl _ d))
  exact .ite (.refl _ d) ((d.modFl_same scope _).up _)

/-- The source after the recovery of the one scope it has. -/
def Src.recovers (s : Src) (scope now : Nat) : Src :=
  { s with recCnt := satAdd s.recCnt 1 8, recs := now :: s.recs, insts := s.insts.filter (fun x => x.scope != scope) }

/-- The recovery before its events. -/
def Dev.recovers (d : Dev) (k : Nat) (i : Inst) : Dev :=
  if i.full then (d.modSrc k (fun s => s.recovers i.scope d.tb2)).recoverAct k i.scope else d.modSrc k (fun s => s.recovers i.scope d.tb2)

theorem Dev.recovered_eq (d : Dev) (k : Nat) (i : Inst) :
    d.recovered k i = (d.recovers k i).faultEvents k i.scope false (((d.recovers k i).src k).inj && !((d.recovers k i).src k).real) := rfl

theorem Dev.recovers_acts (d : Dev) (k : Nat) (i : Inst) :
    Dev.sameBut [.fab, .cmt, .mon] (d.modSrc k (fun s => s.recovers i.scope d.tb2)) (d.recovers k i) := .ite (Dev.recoverAct_same _ k _) (.refl _ _)

theorem Dev.src_recovered (d : Dev) {k : Nat} (i : Inst) (h68 : k ≠ 68) : (d.recovered k i).src k = (d.src k).recovers i.scope d.tb2 := by
  rw [Dev.recovered_eq, (Dev.faultEvents_signals (ns := [68]) _ _ _ _ _ (by simp)).src k (by simpa using h68), (d.recovers_acts k i).src,
    Dev.src_modSrc_self]

theorem Dev.recovered_calm {d : Dev} (h : d.calm) {k : Nat} (hk : 12 < k) (i : Inst) : (d.recovered k i).calm := by
  have h1 := (d.modSrc_signals (n := k) (ns := [k]) (fun s => s.recovers i.scope d.tb2) (by simp)).calm h (by simp; omega)
  have h2 := (d.recovers_acts k i).calm h1
  rw [Dev.recovered_eq]
  exact (Dev.faultEvents_signals (ns := [68]) (d.recovers k i) k i.scope false _ (by simp)).calm h2 (by simp)

theorem Dev.recovered_same (d : Dev) (k : Nat) (i : Inst) : Dev.sameBut [.src, .flt, .fns, .views, .fab, .cmt, .mon] d (d.recovered k i) := by
  rw [Dev.recovered_eq]
  have h := (Dev.faultEvents_signals (ns := [68]) (d.recovers k i) k i.scope false (((d.recovers k i).src k).inj && !((d.recovers k i).src k).real)
    (by simp)).same
  exact (((d.modSrc_same k _).up _).trans ((d.recovers_acts k i).up _)).trans (h.mono (by decide))

/-! ### The fatal source that does not come back -/

theorem Dev.fatalCause_of {d : Dev} {n : Nat} (hn : n < 13) (ho : (d.src n).out = true) : d.fatalCause = true :=
  List.any_eq_true.mpr ⟨n, List.mem_range.mpr hn, by simp [Src.fatalHold, ho]⟩

/-- The fatal state is taken up again: every loop is held. -/
def Dev.heldAgain (d : Dev) : Dev := ({ d with flt := { d.flt with relock := none } } : Dev).holdLoops

theorem Dev.settleFatal_again {d : Dev} (n : Net) (k : Nat) (hc : d.fatalCause = true) (hf : d.flt.fatal = true) (hr : d.flt.relock.isSome = true)
    (ha : d.drv.armed = true) (hb : d.blankOn = true) :
    d.settleFatal n k = { d.heldAgain with flt := { d.heldAgain.flt with causeEnd := none } } := by
  have h1 : d.fatalSync k = d.heldAgain := by
    unfold Dev.fatalSync
    rw [if_pos hc, if_neg (by simp [hf]), if_pos hr]
    rfl
  have h2 : d.heldAgain.relockCheck n = d.heldAgain := Dev.relockCheck_of rfl
  have hcause : d.heldAgain.blankCause = true := by
    change (d.flt.blankN || d.flt.swBlank || d.flt.fatal || d.flt.extest) = true
    simp [hf]
  rw [Dev.settleFatal, h1, h2, Dev.blankSync]
  rw [if_neg (by rw [show d.heldAgain.drv.armed = true from ha]; simp), if_pos hcause, if_pos (show d.heldAgain.blankOn = true from hb)]


theorem Dev.calm.of_obl {s : State} (h : Obl.calm s) : s.d.calm := ⟨h.1, h.2.1, h.2.2.1, h.2.2.2⟩

theorem Dev.signals.mono_same {ns : List Nat} {ps : List Part} (h : d.signals ns e) (hp : ∀ p ∈ faultParts, p ∈ ps := by decide) : Dev.sameBut ps d e :=
  h.same.mono hp

/-- The end of an ERR_N pulse. -/
theorem Dev.errN_ended (s : State) (hw : s.d.flt.errSw = false) :
    (({ s.d with flt := { s.d.flt with errEnd := none } } : Dev).notify).flt.errN = false := by
  obtain ⟨-, he, -⟩ := State.pinsFollow_notify s { s.d with flt := { s.d.flt with errEnd := none } }
  refine he.trans ((Dev.sameBut.pins (Dev.notify_same _)).2.2.1.trans ?_)
  unfold Dev.errLow
  simp [hw]

/-- The recovery of a scope, or OUT in its place. -/
theorem exec_quietPeriodEnd_next {s : State} {n scope since : Nat} {i : Inst} (hi : (s.d.src n).insts = [i]) (hs : i.scope = scope)
    (ht : i.since = some since) (hc : scope ∉ (s.d.src n).conds) (hf : (s.d.src n).force = false) (hr : s.d.srcRecEn n = true)
    (ho : (s.d.src n).out = false) (hq : since + s.d.srcQuiet n * 1000000 ≤ s.d.tb2) (hck : s.d.clocked = true) :
    exec (.quietPeriodEnd n scope) s =
      if s.d.srcLimit n < ((s.d.src n).recs.filter (fun r => decide (s.d.tb2 < r + s.d.srcSpan n))).length + 1
      then .next { s with d := ((s.d.modSrc n (fun x => { x with out := true })).settleFatal s.net n).notify }
      else .next { s with d := (((s.d.recovered n i).settleFatal s.net n).pathFaults s.net).notify } := by
  have hfind : (s.d.src n).insts.find? (fun i => i.scope == scope) = some i := by simp [hi, hs]
  have hcur : (s.d.src n).currentAt scope = false := by simp [Src.currentAt, hc, hf]
  rw [exec_quietPeriodEnd, execQuietPeriodEnd]
  simp only [hfind, ht]
  rw [if_neg (by simp [hcur, hr, ho, hck]; omega)]
  rfl

/-- Settles O43: FORCE, LATCHED and OUT; FLT_CTL and the pulse; recovery; the fatal source that does not come back. -/
theorem faultSourcesAndRecovery : Obligations.FaultSourcesAndRecovery := by
  refine ⟨?_, ?_, ?_, ?_, ?_, ?_⟩
  · intro s n v hreach hn hr hcalm ha hf hv
    have hc := (Dev.calm.of_obl hcalm).inbound true 0 (0x1C100 + 8 * n) 4
    have hx : exec (.force 0 n v) s = .next { s with d := ((s.d.inbound true 0 (0x1C100 + 8 * n) 4).srcStatWrite s.net n v.toNat).notify } := by
      rw [exec_force, execForce, pf0Wr_next hreach]
    rw [show v.toNat = 32 from congrArg BitVec.toNat hv] at hx
    have hin := s.d.inbound_same true 0 (0x1C100 + 8 * n) 4
    have hsrc : ∀ m, (s.d.inbound true 0 (0x1C100 + 8 * n) 4).src m = s.d.src m := fun _ => rfl
    have hflt := s.d.inbound_flt true 0 (0x1C100 + 8 * n) 4
    have htb := s.d.inbound_tb2 true 0 (0x1C100 + 8 * n) 4
    generalize s.d.inbound true 0 (0x1C100 + 8 * n) 4 = e at hc hx hin hsrc hflt htb
    rw [Dev.srcStatWrite_force s.net hn hr hc (by rw [hflt, ha]) (by rw [hsrc, hf]), hflt] at hx
    constructor
    · intro hen
      rw [if_pos hen] at hx
      have hp := (e.injects n).pathFaults_signals s.net
      have hcal := hp.calm (Dev.injects_calm hc (by rw [hflt, ha]) hr) (by decide)
      obtain ⟨h1, h2, h3, h4, h5⟩ := Dev.injects_shows hr ((e.injects n).pathFaults_stays s.net)
      have hny : ∀ x : Dev, x.notify.src = x.src := fun x => x.notify_src
      have hcaln := Dev.sameBut.calm (Dev.notify_same ((e.injects n).pathFaults s.net)) hcal (by simp) (by simp)
      refine ⟨_, hx, ?_, ?_, ?_, ?_, ?_, fun h40 h68 => ?_, hcaln.blank, hcaln.fatal,
        finish_same ((hin.up _).trans ((e.injects_signals n).mono_same.trans hp.mono_same))⟩
      · rw [hny]; exact h1
      · rw [hny]; exact h2
      · rw [hny]; exact h3
      · rw [hny, ← hflt]; exact h4
      · rw [hny, ← htb]; exact h5
      · obtain ⟨-, hcnt, -, -, hreal, -⟩ := Src.marked_fields ({ e.src n with force := true, forceScope := e.flt.injScope }) n e.flt.injScope e.tb2 true
          (!true || e.flt.injAct)
        have hs : ((e.injects n).pathFaults s.net).src n =
            ({ e.src n with force := true, forceScope := e.flt.injScope } : Src).marked n e.flt.injScope e.tb2 true (!true || e.flt.injAct) := by
          rw [hp.src n (by simp [h40, h68]), Dev.injects, Dev.src_signal hr h68, Dev.src_modSrc_self]
          rfl
        rw [hny, hs, ← hsrc]
        exact ⟨hcnt, hreal.trans (Bool.or_false _)⟩
    · intro hen
      rw [if_neg (by simp [hen])] at hx
      have hp := e.pathFaults_signals s.net
      refine ⟨_, hx, fun k h40 h68 => ?_, finish_same ((hin.up _).trans hp.mono_same)⟩
      rw [Dev.notify_src, hp.src k (by simp [h40, h68]), hsrc]
  · intro s n hreach hn h40 h68 hcalm hf
    have hc := (Dev.calm.of_obl hcalm).inbound true 0 (0x1C100 + 8 * n) 4
    have hx : ∀ v : Word, pf0Wr s 0 (0x1C100 + 8 * n) (fun d => d.srcStatWrite s.net n v.toNat) =
        .next { s with d := ((s.d.inbound true 0 (0x1C100 + 8 * n) 4).srcStatWrite s.net n v.toNat).notify } := fun v => pf0Wr_next hreach
    have hin := s.d.inbound_same true 0 (0x1C100 + 8 * n) 4
    have hsrc : (s.d.inbound true 0 (0x1C100 + 8 * n) 4).src n = s.d.src n := rfl
    have htb := s.d.inbound_tb2 true 0 (0x1C100 + 8 * n) 4
    generalize s.d.inbound true 0 (0x1C100 + 8 * n) 4 = e at hc hx hin hsrc htb
    have hpath : ∀ x : Dev, (x.pathFaults s.net).notify.src n = x.src n := fun x => by
      rw [Dev.notify_src, (x.pathFaults_signals s.net).src n (by simp [h40, h68])]
    have hl := Dev.srcStatWrite_latched s.net hn hc (by rw [hsrc, hf])
    rw [hsrc] at hl
    refine ⟨fun hco => ?_, fun hco => ?_, fun ho h12 => ?_⟩
    · refine ⟨_, (hx 2).trans (by rw [show (2 : Word).toNat = 2 from rfl, hl, if_pos (by simp [hco])]), ?_,
        finish_same ((hin.up _).trans (((e.modSrc_same n _).up _).trans (Dev.pathFaults_signals _ _).mono_same))⟩
      rw [hpath, Dev.src_modSrc_self, hsrc]
    · refine ⟨_, (hx 2).trans (by rw [show (2 : Word).toNat = 2 from rfl, hl, if_neg (by simp [hco])]), ?_,
        finish_same ((hin.up _).trans (Dev.pathFaults_signals _ _).mono_same)⟩
      rw [hpath, hsrc]
    · refine ⟨_, (hx 16).trans (by rw [show (16 : Word).toNat = 16 from rfl,
        Dev.srcStatWrite_out s.net hn h12 hc (by rw [hsrc, hf]) (by rw [hsrc, ho])]), ?_,
        finish_same ((hin.up _).trans (((e.modSrc_same n _).up _).trans (Dev.pathFaults_signals _ _).mono_same))⟩
      rw [hpath, Dev.src_modSrc_self, hsrc, htb]
      rfl
  · intro s v hreach hcalm h0 h3 hf hs
    have hc := (Dev.calm.of_obl hcalm).inbound true 0 0x1C000 4
    have hx : exec (.fltCtlLock 0 v) s = .next { s with d := ((s.d.inbound true 0 0x1C000 4).fltCtlWrite s.net v.toNat).notify } := by
      rw [exec_fltCtlLock, execFltCtlLock, pf0Wr_next hreach]
    have hin := s.d.inbound_same true 0 0x1C000 4
    have hsrc : ∀ m, (s.d.inbound true 0 0x1C000 4).src m = s.d.src m := fun _ => rfl
    have hflt := s.d.inbound_flt true 0 0x1C000 4
    generalize s.d.inbound true 0 0x1C000 4 = e at hc hx hin hsrc hflt
    rw [Dev.fltCtlWrite_of s.net hc h0 (by rw [hflt, hs]) (fun m hm => by rw [hsrc, hf m hm])] at hx
    have hp := Dev.pathFaults_signals { e with flt := e.flt.controlled v.toNat } s.net
    have hm : Dev.sameBut fltParts e { e with flt := e.flt.controlled v.toNat } := Dev.sameBut.mono (e.withFlt_same rfl) (by decide)
    obtain ⟨-, -, -, hact, hen, hlk⟩ := hp.flags
    obtain ⟨-, -, -, nact, nen, nlk⟩ := (Dev.notify_signals (ns := []) (Dev.pathFaults { e with flt := e.flt.controlled v.toNat } s.net)).flags
    refine ⟨_, hx, ?_, ?_, ?_, finish_same ((hin.up _).trans (hm.trans (hp.mono_same (ps := fltParts))))⟩
    · refine nlk.trans (hlk.trans ?_)
      change (e.flt.lock || bitOf v.toNat 3) = true
      rw [h3, Bool.or_true]
    · refine nen.trans (hen.trans ?_)
      rw [← hflt]
      rfl
    · refine nact.trans (hact.trans ?_)
      rw [← hflt]
      rfl
  · intro s e he ht
    have hx : exec .errNPulseEnd s = .next { s with d := ({ s.d with flt := { s.d.flt with errEnd := none } } : Dev).notify } := by
      rw [exec_errNPulseEnd, execErrNPulseEnd, he]
      exact if_pos ht
    have hn := ({ s.d with flt := { s.d.flt with errEnd := none } } : Dev).notify_same
    refine ⟨_, hx, ?_, Dev.errN_ended s, hn .src (by simp), finish_same (s.d.withFlt_same rfl)⟩
    exact (congrArg Flt.errEnd (hn.flt (by simp))).trans rfl
  · intro s n scope since i h12 h40 h68 hcalm hi hs ht hc hf hr ho hq hck
    have hx := exec_quietPeriodEnd_next hi hs ht hc hf hr ho hq hck
    constructor
    · intro hl
      rw [if_neg (by omega), (Dev.recovered_calm (Dev.calm.of_obl hcalm) h12 i).settles] at hx
      refine ⟨_, hx, ?_, finish_same ((s.d.recovered_same n i).trans (Dev.pathFaults_signals _ _).mono_same)⟩
      rw [Dev.notify_src, (Dev.pathFaults_signals _ _).src n (by simp [h40, h68]), Dev.src_recovered s.d i h68]
      simp [Src.recovers, satAdd, hi]
    · intro hl
      have hcal : (s.d.modSrc n (fun x => { x with out := true })).calm :=
        (s.d.modSrc_signals (n := n) (ns := [n]) (fun x => { x with out := true }) (by simp)).calm (Dev.calm.of_obl hcalm) (by simp; omega)
      rw [if_pos (by omega), hcal.settles] at hx
      refine ⟨_, hx, ?_, finish_same (s.d.modSrc_same n _)⟩
      rw [Dev.notify_src, Dev.src_modSrc_self]
  · intro s e n hrl hfat he hn hb ha hw
    let d := s.d.modSrc n (fun x => { x with out := true, insts := { scope := 0, since := some s.d.tb2, full := true } :: x.insts })
    have hout : (d.src n).out = true := by rw [Dev.src_modSrc_self]
    have hx : exec .fatalRecoveryTimeout s = .next { s with d := (d.settleFatal s.net n).notify } := by
      rw [exec_fatalRecoveryTimeout, execFatalRecoveryTimeout]
      simp only [hrl]
      exact if_pos (by simp [hfat, he])
    rw [Dev.settleFatal_again s.net n (Dev.fatalCause_of hn hout) hfat (by rw [show d.flt.relock = some (e, n) from hrl]; rfl) ha hb] at hx
    have hny := (({ d.heldAgain with flt := { d.heldAgain.flt with causeEnd := none } } : Dev)).notify_same
    have hflt := hny.flt (by simp)
    refine ⟨_, hx, ?_, ?_, ?_, fun ca hca aa haa => ?_, ?_, finish_same ((((s.d.modSrc_same n _).up _).trans
      (((d.withFlt_same rfl).up _).trans ((Dev.holdLoops_same _).up _))).trans (Dev.sameBut.up _ (Dev.withFlt_same _ rfl)))⟩
    · rw [Dev.notify_src]
      exact hout
    · exact (congrArg Flt.fatal hflt).trans hfat
    · exact (congrArg Flt.relock hflt).trans rfl
    · have hl : (({ d.heldAgain with flt := { d.heldAgain.flt with causeEnd := none } } : Dev)).loop aa = (s.d.loop aa).toHold :=
        Dev.loop_holdLoops (d := ({ d with flt := { d.flt with relock := none } } : Dev)) hw hca haa
      rw [Dev.notify_loop, hl]
      exact ⟨rfl, rfl, rfl⟩
    · rw [Dev.notify_fab]
      rfl

end Sys2Proof.Machine

/-! ## Forced steps of TB0 over a queue listed twice (O45, O46) -/
namespace Sys2Proof.Machine
set_option Elab.async false

/-- A SNAPSHOT waits for an instant of TB0, and the queue table, not in canonical form, lists queue 3 twice: its second entry, which no read
finds, holds a batch with a COMMIT_TIME, and its first differs from the default by a predecessor's Midnight of 1 alone. A step of −1 ns makes that
the default, and the second entry is found. -/
def queueListedTwice (f : Tim → Tim) : State :=
  Tests.on (fun d => { d with
    io := { d.io with queues := [(3, { prevMidnight := 1 }), (3, { cmds := [{ sqe := Tests.entry [(0, 1), (16, 600000000), (24, 1)], executed := true }] })] },
    jobs := { d.jobs with snap := [{ q := 5, idx := 0, trig := 2, time := 590000000 }] },
    tim := f d.tim }) Tests.ready

/-- How many batches are scheduled after the step, if the step makes a state. -/
def scheduledAfter (i : Instr) (s : State) : Option Nat :=
  match exec i s with
  | .next t => some t.d.scheduledBatches.length
  | _ => none

/-- STEP_PENDING with the step forced, and an exchange on its way. -/
def exchangeForcesStep : State := queueListedTwice (fun t => { t with src := 2, state := 4, forceNext := true, ptmOut := true })

theorem exchangeForcesStep_due : exchangeForcesStep.d.tim.ptmOut = true ∧ exchangeForcesStep.d.clocked = true ∧ exchangeForcesStep.d.tim.src = 2 ∧
    exchangeForcesStep.d.tim.state = 4 ∧ exchangeForcesStep.d.hasScheduled = true ∧ exchangeForcesStep.d.tim.forceNext = true := by
  and_intros <;> decide +kernel

theorem scheduledAfter_exchange : scheduledAfter (.ptmResponse true 579999999) exchangeForcesStep = some 1 := by decide +kernel

/-- Refutes O45: its clause on a forced step does not ask for a canonical queue table. -/
theorem not_measurementsDisciplineTime : ¬ Obligations.MeasurementsDisciplineTime := by
  unfold Obligations.MeasurementsDisciplineTime
  rintro ⟨-, -, -, -, hresponse⟩
  obtain ⟨ho, hc, hs, h4, hw, hf⟩ := exchangeForcesStep_due
  obtain ⟨⟨t, hx, -, -, -, -, -, -, -, -, hforced⟩, -⟩ := hresponse exchangeForcesStep 579999999 ho hc hs
  obtain ⟨-, -, -, hnone, -⟩ := hforced (.inl h4) hw (.inr hf)
  have h : scheduledAfter (.ptmResponse true 579999999) exchangeForcesStep = some 0 := by
    unfold scheduledAfter
    rw [hx]
    simp [hnone]
  rw [scheduledAfter_exchange] at h
  cases h

/-- FREE_RUN, with a software step of −1 ns ready in TIM_SET. -/
def softwareForcesStep : State := queueListedTwice (fun t => { t with set := 579999999 })

theorem softwareForcesStep_due : softwareForcesStep.d.reach 0 = true ∧ softwareForcesStep.d.tim.state = 0 ∧ softwareForcesStep.d.tim.src = 0 ∧
    softwareForcesStep.d.tim.stepUsed = false ∧ softwareForcesStep.d.hasScheduled = true := by
  and_intros <;> decide +kernel

theorem scheduledAfter_software : scheduledAfter (.timStepForce 0 3) softwareForcesStep = some 1 := by decide +kernel

/-- Refutes O46: its clause on a forced step does not ask for a canonical queue table. -/
theorem not_timeIsSteppedAndSentOut : ¬ Obligations.TimeIsSteppedAndSentOut := by
  unfold Obligations.TimeIsSteppedAndSentOut
  rintro ⟨-, -, -, -, hforce, -, -⟩
  obtain ⟨hr, h0, hs, hu, hw⟩ := softwareForcesStep_due
  obtain ⟨-, -, hforced⟩ := hforce softwareForcesStep hr
  obtain ⟨t, hx, -, -, hnone, -⟩ := hforced h0 hs hu hw
  have h : scheduledAfter (.timStepForce 0 3) softwareForcesStep = some 0 := by
    unfold scheduledAfter
    rw [hx]
    simp [hnone]
  rw [scheduledAfter_software] at h
  cases h

end Sys2Proof.Machine

/-! ## A stalled route engine and a slot without its command (O57) -/
namespace Sys2Proof.Machine
set_option Elab.async false

/-- Slot 7 is in ROUTING, and its queue holds no command. -/
def routingWithoutCommand : State := Tests.withSlot 7 { state := .routing, queue := 3 } Tests.ready

theorem routingWithoutCommand_ready : routingWithoutCommand.d.clocked = true ∧ routingWithoutCommand.d.cal.again = false := by
  and_intros <;> decide +kernel

/-- A stall of the route engine discards the slots whose commands it finds, and leaves slot 7. -/
theorem slot7After_masterStall : slot7After (.masterStall 3 0) routingWithoutCommand = some .routing := by decide +kernel

/-- Refutes O57: its clause on a stalled master does not ask that a slot in ROUTING has its command in its queue. -/
theorem not_clocksAndTemperatureAreWatched : ¬ Obligations.ClocksAndTemperatureAreWatched := by
  unfold Obligations.ClocksAndTemperatureAreWatched
  rintro ⟨-, -, -, hstall, -⟩
  obtain ⟨hc, ha⟩ := routingWithoutCommand_ready
  obtain ⟨t, hx, -, -, -, -, -, -, hrouting, -⟩ := hstall routingWithoutCommand 3 0 (by decide) (by decide) hc ha
  have h : slot7After (.masterStall 3 0) routingWithoutCommand = some (t.d.slot 7).state := by
    unfold slot7After
    rw [hx]
  rw [slot7After_masterStall] at h
  exact hrouting rfl 7 (by decide) (Option.some.inj h).symm

end Sys2Proof.Machine

/-! ## SPDM (O51) -/
namespace Sys2Proof.Machine
set_option Elab.async false

theorem foldr_bytesLE (n : Nat) : ∀ v : Nat, (bytesLE v n).foldr (fun (b : Byte) a => b.toNat + 256 * a) 0 = v % 256 ^ n := by
  induction n with
  | zero => intro v; simp [bytesLE, Nat.mod_one]
  | succ n ih =>
    intro v
    rw [bytesLE, List.foldr_cons, ih, pow_succ, Nat.mul_comm (256 ^ n) 256, Nat.mod_mul]
    simp

/-- A field that bytesLE has written reads as its value. -/
theorem leField_bytesLE (pre post : List Byte) (v n lo : Nat) (h : pre.length = lo) : leField (pre ++ (bytesLE v n ++ post)) lo n = v % 256 ^ n := by
  have ht : ((pre ++ (bytesLE v n ++ post)).drop lo).take n = bytesLE v n := by
    rw [← h, List.drop_left]
    exact List.take_left' (length_bytesLE v n)
  rw [leField, ht, foldr_bytesLE]

/-! ### What the responder does -/

/-- The state in which a request is looked at. -/
def Dev.spdmAt (d : Dev) : Dev := { d with fresh := d.fresh + 1 }

/-- The answer, as it leaves the device. -/
def spdmSent (s : State) (d : Dev) (doe : Bool) (code : Nat) (bs : List Byte) : State :=
  { s with d := (d.send (.spdm doe code (bs ++ Config.spdmBody s.d.fresh))).notify }

variable {s : State} {doe : Bool} {m : SpdmMsg} {code : Nat} {i : Instr} {g : Dev → Option (List Byte × Dev)}

theorem spdm_some {bs : List Byte} {d : Dev} (hu : s.d.spdmUp doe = true) (hm : m.good = true) (h : g s.d.spdmAt = some (bs, d)) :
    spdm s doe m code g = .next (spdmSent s d doe code bs) := by
  change g { s.d with fresh := s.d.fresh + 1 } = _ at h
  unfold spdm
  rw [if_neg (by simp [hu])]
  simp only [hm, if_true, h]
  rfl

/-- A bad request, and one that is out of order, is answered ERROR. -/
theorem spdm_none (hu : s.d.spdmUp doe = true) (h : m.good = false ∨ g s.d.spdmAt = none) :
    spdm s doe m code g = .next (spdmSent s s.d.spdmAt doe 0x7F []) := by
  change _ ∨ g { s.d with fresh := s.d.fresh + 1 } = _ at h
  unfold spdm
  rw [if_neg (by simp [hu])]
  rcases h with h | h
  · simp only [h]
    rfl
  · simp only [h, ite_self]
    rfl

theorem spdmSent_answers {d : Dev} (doe : Bool) (code : Nat) (bs : List Byte) (ho : d.io.out = s.d.io.out := by rfl)
    (hf : d.fresh = s.d.fresh + 1 := by rfl) : Obl.spdmAnswers s (spdmSent s d doe code bs) doe code bs := by
  obtain ⟨l, hl⟩ := (d.send (.spdm doe code (bs ++ Config.spdmBody s.d.fresh))).notify_sentOn
  refine ⟨⟨l, hl.trans ?_⟩, (Dev.notify_fresh _).trans hf⟩
  rw [← ho]
  rfl

theorem spdmSent_same {ps : List Part} {d : Dev} (doe : Bool) (code : Nat) (bs : List Byte) (h : Dev.sameBut ps s.d d) :
    State.sameBut ps s (spdmSent s d doe code bs) := finish_same (h.trans ((d.send_same _).mono (by simp)))

theorem Dev.spdmAt_same (d : Dev) : Dev.sameBut [.fresh] d d.spdmAt := d.withFresh_same _

/-- An answer that changes nothing but the counter of fresh values. -/
theorem spdm_answered {bs : List Byte} (hi : exec i s = spdm s doe m code g) (hu : s.d.spdmUp doe = true) (hm : m.good = true) (h : g s.d.spdmAt = some (bs, s.d.spdmAt)) :
    ∃ t, exec i s = .next t ∧ Obl.spdmAnswers s t doe code bs ∧ State.sameBut [.fresh] s t :=
  ⟨_, hi.trans (spdm_some hu hm h), spdmSent_answers doe code bs, spdmSent_same doe code bs (Dev.spdmAt_same _)⟩

theorem spdm_refused (hi : exec i s = spdm s doe m code g) (hu : s.d.spdmUp doe = true) (h : m.good = false ∨ g s.d.spdmAt = none) :
    ∃ t, exec i s = .next t ∧ Obl.spdmAnswers s t doe 0x7F [] ∧ State.sameBut [.fresh] s t :=
  ⟨_, hi.trans (spdm_none hu h), spdmSent_answers doe 0x7F [], spdmSent_same doe 0x7F [] (Dev.spdmAt_same _)⟩

/-! ### Sessions -/

theorem Dev.session_setSession_other (d : Dev) (doe : Bool) (x : Session) : (d.setSession doe x).session (!doe) = d.session (!doe) := by
  cases doe <;> rfl

theorem Dev.setSession_same (d : Dev) (doe : Bool) (x : Session) : Dev.sameBut [.sec] d (d.setSession doe x) := d.withSec_same _

theorem spdmSent_session (d : Dev) (doe : Bool) (code : Nat) (bs : List Byte) : (spdmSent s d doe code bs).d.session = d.session := by
  funext b
  change Dev.session (Dev.notify _) b = _
  rw [Dev.session, Dev.notify_sec]
  rfl

/-- An answer that sets the session. -/
theorem spdm_sets {bs : List Byte} {x : Session} (hi : exec i s = spdm s doe m code g) (hu : s.d.spdmUp doe = true) (hm : m.good = true)
    (h : g s.d.spdmAt = some (bs, s.d.spdmAt.setSession doe x)) :
    ∃ t, exec i s = .next t ∧ Obl.spdmAnswers s t doe code bs ∧ t.d.session doe = x ∧ t.d.session (!doe) = s.d.session (!doe) ∧
      State.sameBut [.sec, .fresh] s t := by
  refine ⟨_, hi.trans (spdm_some hu hm h), spdmSent_answers doe code bs, ?_, ?_,
    spdmSent_same doe code bs (((Dev.spdmAt_same _).up _).trans ((Dev.setSession_same _ doe x).up _))⟩
  · rw [spdmSent_session, Dev.session_setSession, if_pos rfl]
  · rw [spdmSent_session, Dev.session_setSession_other]
    rfl

/-- A session that is up ends (R392). -/
def Dev.sessionOver (d : Dev) (doe : Bool) : Dev := (d.setSession doe {}).setLeaf 0 0x1D4 16

theorem Dev.endSession_over {d : Dev} {doe : Bool} (h : (d.session doe).state = 2) : d.endSession doe = d.sessionOver doe := by
  unfold Dev.endSession
  rw [if_neg (by intro h0; exact absurd (h.symm.trans h0) (by decide))]
  rfl

theorem Dev.sessionOver_same (d : Dev) (doe : Bool) : Dev.sameBut [.sec, .views] d (d.sessionOver doe) :=
  ((d.setSession_same doe _).up _).trans ((Dev.setLeaf_same _ _ _ _).up _)

theorem Dev.sessionOver_leaf (d : Dev) (doe : Bool) : bitOf (((d.sessionOver doe).view 0).leaf.get 0 0x1D4) 4 = true := by
  rw [Dev.sessionOver, Dev.leaf_setLeaf_self, bitOf_or]
  simp [bitOf]

/-! ### The responses of R391 and R393 -/

/-- Measurement block k of R393. -/
theorem execGetMeasurements_block (hu : s.d.spdmUp doe = true) (hm : m.good = true) (h1 : 1 ≤ m.param) (h8 : m.param ≤ 8) :
    ∃ t, exec (.getMeasurements doe m) s = .next t ∧
      Obl.spdmAnswers s t doe 0x60 (s.d.measBlock m.param ++ Config.sign false (s.d.measBlock m.param)) ∧ State.sameBut [.fresh] s t := by
  refine spdm_answered (exec_getMeasurements doe m s) hu hm ?_
  dsimp only
  rw [if_neg (by omega), if_neg (by omega), if_neg (by omega)]
  rfl


/-- Requests that do not fit the session's state are answered ERROR. -/
theorem session_refused (hu : s.d.spdmUp doe = true) (hi : i ∈ (if (s.d.session doe).state = 0 then [] else [Instr.keyExchange doe m]) ++
    (if (s.d.session doe).state = 1 then [] else [.finish doe m]) ++
    (if (s.d.session doe).state = 2 then [] else [.heartbeat doe m, .endSession doe m])) :
    ∃ t, exec i s = .next t ∧ Obl.spdmAnswers s t doe 0x7F [] ∧ State.sameBut [.fresh] s t := by
  rcases List.mem_append.mp hi with hi | hi
  · rcases List.mem_append.mp hi with hi | hi
    · split at hi
      · cases hi
      · next h0 =>
        obtain rfl := List.mem_singleton.mp hi
        exact spdm_refused (exec_keyExchange doe m s) hu (.inr (if_pos h0))
    · split at hi
      · cases hi
      · next h1 =>
        obtain rfl := List.mem_singleton.mp hi
        exact spdm_refused (exec_finish doe m s) hu (.inr (if_pos h1))
  · split at hi
    · cases hi
    · next h2 =>
      rcases List.mem_cons.mp hi with rfl | hi
      · exact spdm_refused (exec_heartbeat doe m s) hu (.inr (if_pos h2))
      · obtain rfl := List.mem_singleton.mp hi
        exact spdm_refused (exec_endSession doe m s) hu (.inr (if_pos h2))

/-- Settles O51: bad requests, requests with a fixed answer, measurement blocks, sessions, and the heartbeat that does not come. -/
theorem spdmIsAnswered : Obligations.SpdmIsAnswered := by
  refine ⟨?_, ?_, ?_, ?_, ?_⟩
  · intro s doe m i hu hm hi
    simp only [List.mem_cons, List.not_mem_nil, or_false] at hi
    rcases hi with rfl | rfl | rfl | rfl | rfl | rfl | rfl | rfl | rfl | rfl | rfl
    · exact spdm_refused (exec_getVersion doe m s) hu (.inl hm)
    · exact spdm_refused (exec_getCapabilities doe m s) hu (.inl hm)
    · exact spdm_refused (exec_negotiateAlgorithms doe m s) hu (.inl hm)
    · exact spdm_refused (exec_getDigests doe m s) hu (.inl hm)
    · exact spdm_refused (exec_getCertificate doe m s) hu (.inl hm)
    · exact spdm_refused (exec_spdmChallenge doe m s) hu (.inl hm)
    · exact spdm_refused (exec_getMeasurements doe m s) hu (.inl hm)
    · exact spdm_refused (exec_keyExchange doe m s) hu (.inl hm)
    · exact spdm_refused (exec_finish doe m s) hu (.inl hm)
    · exact spdm_refused (exec_heartbeat doe m s) hu (.inl hm)
    · exact spdm_refused (exec_endSession doe m s) hu (.inl hm)
  · intro s doe m i code bs hu hm hi
    rcases List.mem_append.mp hi with hi | hi
    · rcases List.mem_append.mp hi with hi | hi
      · simp only [List.mem_cons, Prod.mk.injEq, List.not_mem_nil, or_false] at hi
        rcases hi with ⟨rfl, rfl, rfl⟩ | ⟨rfl, rfl, rfl⟩ | ⟨rfl, rfl, rfl⟩ | ⟨rfl, rfl, rfl⟩
        · exact spdm_answered (exec_getVersion doe m s) hu hm rfl
        · exact spdm_answered (exec_getCapabilities doe m s) hu hm rfl
        · exact spdm_answered (exec_negotiateAlgorithms doe m s) hu hm rfl
        · exact spdm_answered (exec_getDigests doe m s) hu hm rfl
      · split at hi
        · next h0 =>
          simp only [List.mem_cons, Prod.mk.injEq, List.not_mem_nil, or_false] at hi
          rcases hi with ⟨rfl, rfl, rfl⟩ | ⟨rfl, rfl, rfl⟩ | ⟨rfl, rfl, rfl⟩
          · exact spdm_answered (exec_getCertificate doe m s) hu hm (if_pos h0)
          · exact spdm_answered (exec_spdmChallenge doe m s) hu hm (if_pos h0)
          · refine spdm_answered (exec_getMeasurements doe m s) hu hm ?_
            dsimp only
            rw [if_neg (by omega), if_pos h0]
            rfl
        · next h0 =>
          simp only [List.mem_cons, Prod.mk.injEq, List.not_mem_nil, or_false] at hi
          rcases hi with ⟨rfl, rfl, rfl⟩ | ⟨rfl, rfl, rfl⟩
          · exact spdm_refused (exec_getCertificate doe m s) hu (.inr (if_neg h0))
          · exact spdm_refused (exec_spdmChallenge doe m s) hu (.inr (if_neg h0))
    · split at hi
      · next h8 =>
        simp only [List.mem_cons, Prod.mk.injEq, List.not_mem_nil, or_false] at hi
        obtain ⟨rfl, rfl, rfl⟩ := hi
        exact spdm_refused (exec_getMeasurements doe m s) hu (.inr (if_pos h8))
      · cases hi
  · intro s doe m hu hm h1 h8
    obtain ⟨t, hx, ha, hs⟩ := execGetMeasurements_block hu hm h1 h8
    refine ⟨t, _, hx, ha, fun h => ⟨fun b hb => ?_, fun hb => ?_⟩, fun h => ?_, fun h => ?_, fun h => ?_, hs⟩
    · rw [h]
      change leField (match s.d.cal.inForce with | some b => _ | none => _) 0 8 = _
      rw [hb]
      exact (leField_bytesLE [] _ _ 8 0 rfl).trans (by norm_num)
    · rw [h]
      change (match s.d.cal.inForce with | some b => _ | none => _) = _
      rw [hb]
    · rw [h]; rfl
    · rw [h]
      have hl := leField_bytesLE (bytesLE Config.islandFw.toNat 4 ++ digestBytes Config.islandRom) [] s.d.mi.sealState 1 68 (by simp [digestBytes])
      rw [List.append_nil] at hl
      exact hl
    · rw [h]; rfl
  · intro s doe m hu hm
    refine ⟨fun h0 => ?_, fun h1 => ?_, fun h2 => ⟨?_, ?_⟩, fun i hi => session_refused hu hi⟩
    · exact spdm_sets (exec_keyExchange doe m s) hu hm (if_neg (not_not.mpr h0))
    · exact spdm_sets (exec_finish doe m s) hu hm (if_neg (not_not.mpr h1))
    · obtain ⟨t, hx, ha, hb, -, hs⟩ := spdm_sets (exec_heartbeat doe m s) hu hm (if_neg (not_not.mpr h2))
      exact ⟨t, hx, ha, hb, hs⟩
    · have hov : s.d.spdmAt.endSession doe = s.d.spdmAt.sessionOver doe := Dev.endSession_over (d := s.d.spdmAt) h2
      refine ⟨_, (exec_endSession doe m s).trans (spdm_some hu hm (if_neg (not_not.mpr h2))), spdmSent_answers doe _ _ ?_ ?_, ?_, ?_, ?_,
        spdmSent_same doe _ _ (((Dev.spdmAt_same _).up _).trans ((Dev.endSession_same _ doe).up _))⟩
      · rw [hov]; rfl
      · rw [hov]; rfl
      · rw [spdmSent_session, hov]
        exact (Dev.session_setSession _ _ _ _).trans (if_pos rfl)
      · rw [spdmSent_session, hov]
        exact Dev.session_setSession_other _ doe _
      · change bitOf (((Dev.notify _).view 0).leaf.get 0 0x1D4) 4 = true
        rw [Dev.notify_view, hov]
        exact Dev.sessionOver_leaf _ doe
  · intro s doe e hb he h2
    have hx : exec (.heartbeatTimeout doe) s = .next { s with d := (s.d.endSession doe).notify } := by
      rw [exec_heartbeatTimeout, execHeartbeatTimeout]
      simp only [hb]
      exact if_pos he
    have hses : ∀ d : Dev, d.notify.session = d.session := fun d => by funext b; rw [Dev.session, Dev.notify_sec, Dev.session]
    refine ⟨_, hx, ?_, ?_, ?_, finish_same (s.d.endSession_same doe)⟩
    · rw [hses, Dev.endSession_over h2]
      exact (Dev.session_setSession _ _ _ _).trans (if_pos rfl)
    · rw [hses, Dev.endSession_over h2]
      exact Dev.session_setSession_other _ doe _
    · rw [Dev.notify_view, Dev.endSession_over h2]
      exact Dev.sessionOver_leaf _ doe

end Sys2Proof.Machine

/-! ## The VOAs on their blank codes, and the start of blank -/
namespace Sys2Proof.Machine
set_option Elab.async false

theorem mem_planes_of {col ca : Nat} (h : ca < 32768) (hc : caCol ca = col) :
    ca ∈ ((List.range 512).map (mkCa 0 col)) ++ ((List.range 512).map (mkCa 1 col)) := by
  unfold caCol at hc
  rcases Nat.lt_or_ge ca 16384 with hp | hp
  · refine List.mem_append_left _ (List.mem_map.mpr ⟨ca % 512, List.mem_range.mpr (Nat.mod_lt _ (by decide)), ?_⟩)
    unfold mkCa
    omega
  · refine List.mem_append_right _ (List.mem_map.mpr ⟨ca % 512, List.mem_range.mpr (Nat.mod_lt _ (by decide)), ?_⟩)
    unfold mkCa
    omega

theorem caCol_of_mem_planes {col ca : Nat} (hcol : col < 32)
    (h : ca ∈ ((List.range 512).map (mkCa 0 col)) ++ ((List.range 512).map (mkCa 1 col))) : ca < 32768 ∧ caCol ca = col := by
  unfold caCol
  rcases List.mem_append.mp h with h | h
  · obtain ⟨i, hi, rfl⟩ := List.mem_map.mp h
    rw [List.mem_range] at hi
    unfold mkCa
    omega
  · obtain ⟨i, hi, rfl⟩ := List.mem_map.mp h
    rw [List.mem_range] at hi
    unfold mkCa
    omega

theorem mem_outVoas {ca : Nat} : ca ∈ outVoas ↔ isOutVoa ca = true := by
  unfold isOutVoa
  rw [Bool.and_eq_true, decide_eq_true_eq, beq_iff_eq]
  exact ⟨caCol_of_mem_planes (by decide), fun ⟨h, hc⟩ => mem_planes_of h hc⟩

theorem mem_inVoas {ca : Nat} : ca ∈ inVoas ↔ isInVoa ca = true := by
  unfold isInVoa
  rw [Bool.and_eq_true, decide_eq_true_eq, beq_iff_eq]
  exact ⟨caCol_of_mem_planes (by decide), fun ⟨h, hc⟩ => mem_planes_of h hc⟩

/-- A cell overridden to its blank code, with the waveform of the edge. -/
def Cell.overridden (c : Cell) (shape : Nat) (w : Wave) : Cell := { c with f := c.blankCode, fDue := none, shape := shape, wave := some w }

/-- What an override of VOAs leaves of each cell. -/
def Dev.overridden (d : Dev) (ca : Nat) : Cell :=
  (d.cell ca).overridden (fieldOf d.drv.shapeSel 12 4) { edge := d.tb2, old := d.driveNow ca, bank := d.drv.bank }

theorem Dev.cell_overrideVoas {d : Dev} (h : Tab.wf {} d.fab.cells = true) {cas : List Nat} (hr : cas.Pairwise (· < ·)) (ca : Nat) :
    (d.overrideVoas cas).cell ca = if ca ∈ cas then d.overridden ca else d.cell ca :=
  Tab.get_modMany _ _ _ _ hr ((Tab.wf_iff {} _).mp h).1

theorem Dev.overrideVoas_loops (d : Dev) (cas : List Nat) : (d.overrideVoas cas).fab.loops = d.fab.loops := rfl

theorem Dev.overrideVoas_view (d : Dev) (cas : List Nat) (f : Nat) : (d.overrideVoas cas).view f = d.view f := rfl

theorem Dev.overrideVoas_flt (d : Dev) (cas : List Nat) : (d.overrideVoas cas).flt = d.flt := rfl

theorem Dev.overrideVoas_same (d : Dev) (cas : List Nat) : Dev.sameBut [.fab, .mon] d (d.overrideVoas cas) := by
  unfold Dev.overrideVoas
  extract_lets shape cells met
  have h1 : Dev.sameBut [.fab, .mon] d { d with fab := { d.fab with cells := cells } } := (d.withFab_same _).up _
  have h2 : Dev.sameBut [.fab, .mon] { d with fab := { d.fab with cells := cells } }
      { d with fab := { d.fab with cells := cells }, mon := { d.mon with met := met } } := (Dev.withMon_same _ _).up _
  exact (h1.trans h2).trans ((Dev.countN_same _ _ _).mono (by simp))

/-! ### Blank without a batch in the commit unit -/

theorem Dev.blankSlot_free {d : Dev} (n : Net) {k : Nat} (h : (d.slot k).state = .free) : d.blankSlot n k = d := by
  unfold Dev.blankSlot
  dsimp only
  rw [h]

/-- With every slot free and no restore, blank finds nothing in the commit unit. -/
theorem Dev.blankSlots_idle {d : Dev} (n : Net) (hs : ∀ k, k < 16 → (d.slot k).state = .free) (hr : d.cmt.restoring = []) : d.blankSlots n = d := by
  have hl : ∀ l : List Nat, (∀ k ∈ l, k < 16) → l.foldl (fun d k => d.blankSlot n k) d = d := by
    intro l
    induction l with
    | nil => exact fun _ => rfl
    | cons k l ih =>
      intro hk
      rw [List.foldl_cons, Dev.blankSlot_free n (hs k (hk k List.mem_cons_self))]
      exact ih fun j hj => hk j (List.mem_cons_of_mem _ hj)
  have hc : ({ d.cmt with restoring := [] } : Cmt) = d.cmt := by rw [← hr]
  have hfold : (List.range 16).foldl (fun d k => d.blankSlot n k) d = d := hl _ fun k hk => List.mem_range.mp hk
  unfold Dev.blankSlots
  simp only [hfold, hr, List.foldl_nil, List.map_nil, hc]

/-- The registers of blank as it starts. -/
def Flt.blanking (f : Flt) (now : Nat) : Flt :=
  { f with blank := true, stage2 := false, releasing := false, blankAt := now, causeEnd := none, blankCnt := satAdd f.blankCnt 1 16 }

/-- Blank as it starts with an idle commit unit. -/
def Dev.blanks (d : Dev) : Dev := (({ d with flt := d.flt.blanking d.tb2 } : Dev).setLeaf 0 0x12C 2).overrideVoas outVoas

theorem Dev.blankStart_idle {d : Dev} (n : Net) (hs : ∀ k, k < 16 → (d.slot k).state = .free) (hr : d.cmt.restoring = []) : d.blankStart n = d.blanks :=
  Dev.blankSlots_idle (d := d.blanks) n hs hr

/-- A cause starts blank in an armed device that is not blanked. -/
theorem Dev.blankSync_starts {d : Dev} (n : Net) (ha : d.drv.armed = true) (hc : d.blankCause = true) (hb : d.flt.blank = false)
    (hs : ∀ k, k < 16 → (d.slot k).state = .free) (hr : d.cmt.restoring = []) : d.blankSync n = d.blanks := by
  unfold Dev.blankSync
  rw [if_neg (by simp [ha]), if_pos hc, if_neg (by simp [Dev.blankOn, hb]), Dev.blankStart_idle n hs hr]

/-- Blank as it starts, before the VOAs. -/
def Dev.blankSet (d : Dev) : Dev := ({ d with flt := d.flt.blanking d.tb2 } : Dev).setLeaf 0 0x12C 2

theorem Dev.blanks_eq (d : Dev) : d.blanks = d.blankSet.overrideVoas outVoas := rfl

theorem Dev.blankSet_same (d : Dev) : Dev.sameBut [.flt, .views] d d.blankSet :=
  ((d.withFlt_same (x := d.flt.blanking d.tb2) rfl).mono (qs := [.flt, .views]) (by decide)).trans ((Dev.setLeaf_same _ _ _ _).mono (qs := [.flt, .views]) (by decide))

theorem Dev.blanks_same (d : Dev) : Dev.sameBut [.flt, .views, .fab, .mon] d d.blanks :=
  (d.blankSet_same.mono (by decide)).trans ((Dev.overrideVoas_same _ _).mono (by decide))

theorem Dev.blanks_flt (d : Dev) : d.blanks.flt = d.flt.blanking d.tb2 := Dev.overrideVoas_flt d.blankSet outVoas

theorem Dev.blanks_loops (d : Dev) : d.blanks.fab.loops = d.fab.loops := Dev.overrideVoas_loops d.blankSet outVoas

/-- The cause of blank is in PF0's view. -/
theorem Dev.blanks_cause (d : Dev) : bitOf ((d.blanks.view 0).leaf.get 0 0x12C) 1 = true := by
  rw [Dev.blanks_eq, Dev.overrideVoas_view, Dev.blankSet, Dev.leaf_setLeaf_self, bitOf_or]
  simp [bitOf]

theorem Dev.cell_blanks {d : Dev} (h : Tab.wf {} d.fab.cells = true) (ca : Nat) :
    (isOutVoa ca = true → (d.blanks.cell ca).f = (d.cell ca).blankCode) ∧ (isOutVoa ca = false → d.blanks.cell ca = d.cell ca) := by
  have hc := Dev.cell_overrideVoas (d := d.blankSet) h outVoas_rise ca
  refine ⟨fun hv => ?_, fun hv => ?_⟩
  · rw [Dev.blanks_eq, hc, if_pos (mem_outVoas.mpr hv)]
    rfl
  · rw [Dev.blanks_eq, hc, if_neg (by rw [mem_outVoas, hv]; simp)]
    rfl

/-- LIGHT_PERMIT is withdrawn in blank. -/
theorem Dev.permit_blanked {d : Dev} (h : d.flt.blank = true) : d.notify.flt.permit = false := by
  have hp := (State.pinsFollow_notify ({ d := d } : State) d).2.2
  refine hp.trans ((Dev.sameBut.pins d.notify_same).2.2.2.trans ?_)
  simp [Dev.permitOk, h]

/-- During blank every output VOA is overridden. -/
theorem Dev.blanked_of {d : Dev} {ca : Nat} (hv : isOutVoa ca = true) (hb : d.flt.blank = true) (hr : d.flt.releasing = false) :
    d.blanked ca = true := by simp [Dev.blanked, hv, hb, hr]

end Sys2Proof.Machine

/-! ## Debug: challenges, tokens, RELOCK and the TAP (O53) -/
namespace Sys2Proof.Machine
set_option Elab.async false

/-- A device with a fresh challenge. -/
def Dev.challenged (d : Dev) : Dev :=
  { d with sec := { d.sec with chal := Config.fresh d.fresh, chalEnd := some (d.tb2 + 60000000000) }, fresh := d.fresh + 1 }

theorem Dev.newChallenge_eq (d : Dev) : d.newChallenge = d.challenged := rfl

theorem Dev.challenged_same (d : Dev) : Dev.sameBut [.sec, .fresh] d d.challenged :=
  ((d.withSec_same { d.sec with chal := Config.fresh d.fresh, chalEnd := some (d.tb2 + 60000000000) }).mono (by decide)).trans
    ((Dev.withFresh_same _ _).mono (by decide))

/-! ### Tokens -/

/-- A token that is accepted (R395). -/
def Dev.unlocked (d : Dev) (token : List Byte) : Dev :=
  ({ d.setLeaf 0 0x1D4 8 with sec := { d.sec with level := leField token 48 1, chalEnd := none } } : Dev).once 82 0

/-- A token that is not. -/
def Dev.refusedToken (d : Dev) : Dev :=
  ({ d.setLeaf 0 0x1D4 8 with
    sec := { d.sec with chalEnd := none, fails := d.sec.fails + 1, lockout := decide (3 ≤ d.sec.fails + 1) } } : Dev).once 81 0

theorem Dev.dbgAttempt_lockout {d : Dev} (token : List Byte) (h : d.sec.lockout = true) : d.dbgAttempt token = d.setLeaf 0 0x1D4 8 := by
  unfold Dev.dbgAttempt
  exact if_pos h

theorem Dev.dbgAttempt_ok {d : Dev} {token : List Byte} (h : d.sec.lockout = false) (ht : d.dbgTokenOk token = true) :
    d.dbgAttempt token = d.unlocked token := by
  have hl : (d.setLeaf 0 0x1D4 8).sec.lockout = false := h
  have ht' : (d.setLeaf 0 0x1D4 8).dbgTokenOk token = true := ht
  unfold Dev.dbgAttempt
  exact (if_neg (by rw [hl]; simp)).trans (if_pos ht')

theorem Dev.dbgAttempt_bad {d : Dev} {token : List Byte} (h : d.sec.lockout = false) (ht : d.dbgTokenOk token = false) :
    d.dbgAttempt token = d.refusedToken := by
  have hl : (d.setLeaf 0 0x1D4 8).sec.lockout = false := h
  have ht' : (d.setLeaf 0 0x1D4 8).dbgTokenOk token = false := ht
  unfold Dev.dbgAttempt
  exact (if_neg (by rw [hl]; simp)).trans (if_neg (by rw [ht']; simp))

abbrev tokenParts : List Part := [.sec, .views, .src, .flt, .fns]

theorem Dev.setLeaf_token (d : Dev) : bitOf (((d.setLeaf 0 0x1D4 8).view 0).leaf.get 0 0x1D4) 3 = true := by
  rw [Dev.leaf_setLeaf_self, bitOf_or]
  simp [bitOf]

/-- What an attempt leaves, in a device that is s's but for what a host write counts. -/
theorem Dev.dbgAttempt_tried {s : State} {e : Dev} (hin : Dev.sameBut [] s.d e) (token : List Byte) (hsrc : e.flt.src = s.d.flt.src)
    (hsec : e.sec = s.d.sec) (ht : e.dbgTokenOk token = s.d.dbgTokenOk token) :
    Obl.unlockTried s { s with d := (e.dbgAttempt token).notify } token := by
  have hcause : ∀ x : Dev, ∀ n, (∀ k, bitOf (((e.setLeaf 0 0x1D4 8).view 0).leaf.get 0 0x1D4) k = true → bitOf ((x.view 0).leaf.get 0 0x1D4) k = true) →
      bitOf (((x.once n 0).notify.view 0).leaf.get 0 0x1D4) 3 = true := fun x n hx => by
    rw [Dev.notify_view]
    exact (x.once_signals n 0).causes _ _ _ (hx 3 e.setLeaf_token)
  cases hl : e.sec.lockout with
  | true =>
    rw [Dev.dbgAttempt_lockout token hl]
    rw [hsec] at hl
    refine ⟨?_, finish_same ((hin.mono (by simp)).trans ((Dev.setLeaf_same e 0 0x1D4 8).mono (by decide))), fun _ => ⟨?_, ?_⟩, fun h => ?_, fun h => ?_⟩
    · rw [Dev.notify_view]; exact e.setLeaf_token
    · rw [Dev.notify_sec]; exact hsec
    · exact (Dev.notify_same _ .src (by simp)).trans hsrc
    · rw [hl] at h; cases h
    · rw [hl] at h; cases h
  | false =>
    cases hok : e.dbgTokenOk token with
    | true =>
      rw [Dev.dbgAttempt_ok hl hok]
      rw [hsec] at hl
      rw [ht] at hok
      obtain ⟨-, hcnt, -⟩ := Src.marked_fields (e.src 82) 82 0 e.tb2 false true
      refine ⟨hcause _ 82 fun k hk => hk, finish_same ?_, fun h => ?_, fun _ _ => ⟨?_, ?_⟩, fun _ h => ?_⟩
      · exact (hin.mono (by simp)).trans (((Dev.setLeaf_same e 0 0x1D4 8).mono (qs := tokenParts) (by decide)).trans
          (((Dev.withSec_same _ _).mono (qs := tokenParts) (by decide)).trans ((Dev.once_same _ _ _).mono (by decide))))
      · rw [hl] at h; cases h
      · rw [Dev.notify_sec, Dev.unlocked, (Dev.once_same _ _ _).sec, ← hsec]
      · rw [Dev.notify_src, Dev.unlocked, Dev.src_once (by decide) (by decide)]
        have : s.d.src 82 = e.src 82 := by rw [Dev.src, ← hsrc, Dev.src]
        rw [this]
        exact hcnt
      · rw [hok] at h; cases h
    | false =>
      rw [Dev.dbgAttempt_bad hl hok]
      rw [hsec] at hl
      rw [ht] at hok
      obtain ⟨-, hcnt, -⟩ := Src.marked_fields (e.src 81) 81 0 e.tb2 false true
      refine ⟨hcause _ 81 fun k hk => hk, finish_same ?_, fun h => ?_, fun _ h => ?_, fun _ _ => ⟨?_, ?_⟩⟩
      · exact (hin.mono (by simp)).trans (((Dev.setLeaf_same e 0 0x1D4 8).mono (qs := tokenParts) (by decide)).trans
          (((Dev.withSec_same _ _).mono (qs := tokenParts) (by decide)).trans ((Dev.once_same _ _ _).mono (by decide))))
      · rw [hl] at h; cases h
      · rw [hok] at h; cases h
      · rw [Dev.notify_sec, Dev.refusedToken, (Dev.once_same _ _ _).sec, ← hsec]
      · rw [Dev.notify_src, Dev.refusedToken, Dev.src_once (by decide) (by decide)]
        have : s.d.src 81 = e.src 81 := by rw [Dev.src, ← hsrc, Dev.src]
        rw [this]
        exact hcnt

/-! ### SEC_DBG_CTL -/

theorem Dev.secDbgWrite_chal (d : Dev) : d.secDbgWrite 1 none = d.challenged := rfl

theorem Dev.secDbgWrite_submit (d : Dev) (token : List Byte) : d.secDbgWrite 2 (some (token, .ok)) = d.dbgAttempt token := rfl

theorem Dev.secDbgWrite_unread (d : Dev) (token : List Byte) {how : HostRead} (h : how ≠ .ok) : d.secDbgWrite 2 (some (token, how)) = d.once 63 0 := by
  cases how with
  | ok => exact absurd rfl h
  | _ => rfl

theorem Dev.secDbgWrite_relock (d : Dev) : d.secDbgWrite 4 none = { d with sec := { d.sec with level := 0 } } := rfl

/-! ### The TAP -/

/-- The instruction loaded, with EXTEST's cause of blank (R330). -/
def Dev.tapLoaded (d : Dev) (i : Nat) : Dev := { d with sec := { d.sec with jtag := i }, flt := { d.flt with extest := i == 0 } }

theorem exec_jtag (s : State) {code i : Nat} (ho : s.d.pwr.off = false) (hi : i = if 4 ≤ code ∧ s.d.sec.level = 0 then 3 else code) :
    exec (.jtagInstructionLoad code) s = .next { s with d := ((if i = 2 then (s.d.tapLoaded i).send (.tap (bytesLE 0x15A12A6B 4))
      else s.d.tapLoaded i).blankSync s.net).notify } := by
  subst hi
  rw [exec_jtagInstructionLoad, execJtagInstructionLoad, if_neg (by simp [ho])]
  rfl

theorem tap_idcode : bytesLE 0x15A12A6B 4 = [0x6B, 0x2A, 0xA1, 0x15] := by decide


theorem exec_secDbg (s : State) (v : Word) (token : Option (List Byte × HostRead)) (h : s.d.reach 0 = true) :
    pf0Wr s 0 0x2A010 (fun d => d.secDbgWrite v.toNat token) =
      .next { s with d := ((s.d.inbound true 0 0x2A010 4).secDbgWrite v.toNat token).notify } := by rw [pf0Wr_next h]

theorem Dev.tapLoaded_same (d : Dev) (i : Nat) : Dev.sameBut [.sec, .flt] d (d.tapLoaded i) :=
  ((d.withSec_same { d.sec with jtag := i }).mono (qs := [.sec, .flt]) (by decide)).trans
    ((Dev.withFlt_same (d := { d with sec := { d.sec with jtag := i } }) (x := { d.flt with extest := i == 0 }) rfl).mono (qs := [.sec, .flt]) (by decide))

/-- Settles O53: challenges, tokens, RELOCK and the TAP. -/
theorem debugIsUnlockedByToken : Obligations.DebugIsUnlockedByToken := by
  refine ⟨?_, ?_, ?_, ?_, ?_, ?_⟩
  · intro s hreach
    have hx : exec (.chalReq 0 1) s = .next { s with d := (s.d.inbound true 0 0x2A010 4).challenged.notify } := by
      rw [exec_chalReq, execChalReq, exec_secDbg s _ _ hreach]
      rfl
    refine ⟨_, hx, ?_, ?_, finish_same ((Dev.inbound_same s.d true 0 0x2A010 4).up _ |>.trans (Dev.challenged_same _))⟩
    · rw [Dev.notify_sec]; rfl
    · rw [Dev.notify_fresh]; rfl
  · intro s hc hu
    have hx : exec .dbgChal s = .next { s with d := (s.d.challenged.send (.tap (bytesLE (Config.fresh s.d.fresh).toNat 32))).notify } := by
      rw [exec_dbgChal, execDbgChal, onTap, if_pos (by simp [hc, hu])]
      rfl
    obtain ⟨l, hl⟩ := (s.d.challenged.send (.tap (bytesLE (Config.fresh s.d.fresh).toNat 32))).notify_sentOn
    refine ⟨_, l, hx, ?_, hl, finish_same (s.d.challenged_same.trans ((Dev.send_same _ _).mono (by simp)))⟩
    rw [Dev.notify_sec]; rfl
  · intro s token hreach
    have hin := s.d.inbound_same true 0 0x2A010 4
    constructor
    · have hx : exec (.submit 0 2 token .ok) s = .next { s with d := ((s.d.inbound true 0 0x2A010 4).dbgAttempt token).notify } := by
        rw [exec_submit, execSubmit, exec_secDbg s _ _ hreach]
        rfl
      exact ⟨_, hx, Dev.dbgAttempt_tried hin token rfl rfl rfl⟩
    · intro how hhow
      have hx : exec (.submit 0 2 token how) s = .next { s with d := ((s.d.inbound true 0 0x2A010 4).once 63 0).notify } := by
        rw [exec_submit, execSubmit, exec_secDbg s _ _ hreach, show (2 : Word).toNat = 2 from rfl, Dev.secDbgWrite_unread _ token hhow]
      obtain ⟨hlat, -⟩ := Src.marked_fields ((s.d.inbound true 0 0x2A010 4).src 63) 63 0 (s.d.inbound true 0 0x2A010 4).tb2 false true
      refine ⟨_, hx, ?_, ?_, finish_same ((hin.up _).trans (Dev.once_signals _ 63 0).mono_same)⟩
      · rw [Dev.notify_sec, (Dev.once_same _ _ _).sec]; rfl
      · rw [Dev.notify_src, Dev.src_once (by decide) (by decide)]
        exact hlat
  · intro s token hc hu
    have hx : exec (.dbgToken token) s = .next { s with d := (s.d.dbgAttempt token).notify } := by
      rw [exec_dbgToken, execDbgToken, onTap, if_pos (by simp [hc, hu])]
      rfl
    exact ⟨_, hx, Dev.dbgAttempt_tried (.refl _ _) token rfl rfl rfl⟩
  · intro s hreach
    have hx : exec (.relock 0 4) s = .next { s with d := ({ s.d.inbound true 0 0x2A010 4 with sec := { s.d.sec with level := 0 } } : Dev).notify } := by
      rw [exec_relock, execRelock, exec_secDbg s _ _ hreach]
      rfl
    refine ⟨_, hx, ?_, finish_same (((Dev.inbound_same s.d true 0 0x2A010 4).up _).trans (Dev.withSec_same _ _))⟩
    rw [Dev.notify_sec]
  · intro s code i ho hi
    have hx := exec_jtag s ho hi
    constructor
    · intro h0 hc hb
      have hex : s.d.flt.extest = false := by
        unfold Dev.blankCause at hc
        simp only [Bool.or_eq_false_iff] at hc
        exact hc.2
      have hload : Dev.sameBut [.sec] s.d (s.d.tapLoaded i) := by
        have hflt : ({ s.d.flt with extest := i == 0 } : Flt) = s.d.flt := by
          rw [show (i == 0) = s.d.flt.extest by rw [hex]; simp [h0]]
        unfold Dev.tapLoaded
        rw [hflt]
        exact s.d.withSec_same _
      have hsync : ∀ x : Dev, x.blankCause = false → x.blankOn = false → x.blankSync s.net = x := fun x h1 h2 => by
        simp [Dev.blankSync, h1, h2]
      have hc' : (s.d.tapLoaded i).blankCause = false := by
        have hi0 : (i == 0) = false := by simp [h0]
        unfold Dev.blankCause at hc ⊢
        simp only [Bool.or_eq_false_iff] at hc ⊢
        exact ⟨hc.1, hi0⟩
      split at hx
      · next h2 =>
        rw [hsync ((s.d.tapLoaded i).send (.tap (bytesLE 0x15A12A6B 4))) hc' hb] at hx
        obtain ⟨l, hl⟩ := ((s.d.tapLoaded i).send (.tap (bytesLE 0x15A12A6B 4))).notify_sentOn
        refine ⟨_, l, hx, ?_, ?_, finish_same (hload.trans ((Dev.send_same _ _).mono (by simp)))⟩
        · rw [Dev.notify_sec]; rfl
        · rw [if_pos h2, ← tap_idcode]
          refine hl.trans ?_
          rw [List.append_assoc]
          rfl
      · next h2 =>
        rw [hsync _ hc' hb] at hx
        obtain ⟨l, hl⟩ := (s.d.tapLoaded i).notify_sentOn
        refine ⟨_, l, hx, ?_, ?_, finish_same hload⟩
        · rw [Dev.notify_sec]; rfl
        · rw [if_neg h2, List.append_nil]
          exact hl
    · intro h0 ha hcalm hs hr hw
      have hcal := Dev.calm.of_obl hcalm
      rw [if_neg (by omega), Dev.blankSync_starts (d := s.d.tapLoaded i) s.net ha (by simp [Dev.blankCause, Dev.tapLoaded, h0]) hcal.blank hs hr] at hx
      have hflt := (Dev.notify_same (s.d.tapLoaded i).blanks).flt (by simp)
      have hbl : ((s.d.tapLoaded i).blanks.notify).flt.blank = true := congrArg Flt.blank hflt
      refine ⟨_, hx, ?_, ?_, hbl, Dev.permit_blanked rfl, fun ca hca => ⟨?_, ?_⟩, fun ca hca => ?_,
        finish_same (((Dev.tapLoaded_same s.d i).mono (by decide)).trans ((Dev.blanks_same _).mono (by decide)))⟩
      · rw [Dev.notify_sec, (Dev.blanks_same _).sec]
        exact h0
      · refine (congrArg Flt.extest hflt).trans ?_
        change (i == 0) = true
        simp [h0]
      · rw [Dev.notify_cell]
        exact (Dev.cell_blanks (d := s.d.tapLoaded i) hw ca).1 hca
      · have hrel : ((s.d.tapLoaded i).blanks.notify).flt.releasing = false := congrArg Flt.releasing hflt
        exact Dev.blanked_of hca hbl hrel
      · rw [Dev.notify_cell]
        exact (Dev.cell_blanks (d := s.d.tapLoaded i) hw ca).2 hca

end Sys2Proof.Machine

/-! ## Fatal sources rise and fall quiet; supply, rails and power (O56) -/
namespace Sys2Proof.Machine
set_option Elab.async false

/-! ### A fatal source in a calm, armed device -/

/-- The fatal state as it begins: every loop is held (R329). -/
def Dev.fatals (d : Dev) : Dev :=
  ({ d with flt := { d.flt with fatal := true, relock := none, fatalCnt := satAdd d.flt.fatalCnt 1 16 } } : Dev).holdLoops

theorem Dev.fatals_same (d : Dev) : Dev.sameBut [.flt, .fab] d d.fatals :=
  ((Dev.withFlt_same (d := d) (x := { d.flt with fatal := true, relock := none, fatalCnt := satAdd d.flt.fatalCnt 1 16 }) rfl).mono
    (qs := [.flt, .fab]) (by decide)).trans ((Dev.holdLoops_same _).mono (by decide))

theorem Dev.settleFatal_rises {d : Dev} (n : Net) (k : Nat) (hc : d.fatalCause = true) (hf : d.flt.fatal = false) (ha : d.drv.armed = true)
    (hb : d.flt.blank = false) (hs : ∀ k, k < 16 → (d.slot k).state = .free) (hr : d.cmt.restoring = []) :
    d.settleFatal n k = d.fatals.blanks := by
  have h1 : d.fatalSync k = d.fatals := by
    unfold Dev.fatalSync
    rw [if_pos hc, if_pos (by simp [hf])]
    rfl
  have h2 : d.fatals.relockCheck n = d.fatals := Dev.relockCheck_of rfl
  have hcause : d.fatals.blankCause = true := by
    change (d.flt.blankN || d.flt.swBlank || true || d.flt.extest) = true
    simp
  rw [Dev.settleFatal, h1, h2]
  exact Dev.blankSync_starts n ha hcause hb hs hr

/-- An occurrence of a fatal source holds the fatal state until it has recovered. -/
theorem Src.fatalHold_fatal {n : Nat} (hn : n < 13) (s : Src) (scope now : Nat) (b : Bool) :
    (s.marked n scope now false true).fatalHold b = true := by
  have hc : srcClass n = 2 := by
    have : ∀ n, n < 13 → srcClass n = 2 := by decide
    exact this n hn
  have hi : (s.marked n scope now false true).insts.any (·.full) = true := by
    unfold Src.marked
    extract_lets s'
    rw [if_pos (by simp [hc])]
    change ((((s'.insts.find? (fun i => i.scope == scope)).getD {}).full || true) || _) = true
    simp
  simp [Src.fatalHold, hi]

/-- A quiet device, in the words of the model's functions. -/
structure Dev.quiet (d : Dev) : Prop where
  calm : d.calm
  armed : d.drv.armed = true
  free : ∀ k, k < 16 → (d.slot k).state = .free
  noRestore : d.cmt.restoring = []
  cells : Tab.wf {} d.fab.cells = true
  loops : Tab.wf {} d.fab.loops = true

theorem Dev.quiet.of_obl {s : State} (h : Obl.quietDevice s) : s.d.quiet := by
  obtain ⟨h1, h2, h3, h4, h5, h6, -⟩ := h
  exact ⟨.of_obl h1, h2, h3, h4, h5, h6⟩

/-- What leaves the sources and faults, the fabric, the drivers and the commit unit leaves a quiet device quiet. -/
theorem Dev.quiet.of {d e : Dev} (h : d.quiet) (hc : e.calm) (hd : e.drv.armed = d.drv.armed) (hm : e.cmt = d.cmt) (hf : e.fab = d.fab) : e.quiet :=
  ⟨hc, hd.trans h.armed, fun k hk => by rw [Dev.slot, hm]; exact h.free k hk, by rw [hm]; exact h.noRestore, by rw [hf]; exact h.cells,
    by rw [hf]; exact h.loops⟩

/-- An occurrence of a fatal source in a device that was quiet settles as the fatal state and blank. -/
theorem Dev.quiet.rises {d e : Dev} (h : d.quiet) {n : Nat} (hn : n < 13) (hs : d.signals [n, 68] e) {x : Src} {scope now : Nat}
    (hx : e.src n = x.marked n scope now false true) (net : Net) (k : Nat) : e.settleFatal net k = e.fatals.blanks := by
  obtain ⟨hf, hb, -⟩ := hs.flags
  have hcmt : e.cmt = d.cmt := hs.same .cmt (by decide)
  have hdrv : e.drv = d.drv := hs.same .drv (by decide)
  refine Dev.settleFatal_rises net k (List.any_eq_true.mpr ⟨n, List.mem_range.mpr hn, ?_⟩) (hf.trans h.calm.fatal) (by rw [hdrv, h.armed])
    (hb.trans h.calm.blank) (fun k hk => by rw [Dev.slot, hcmt]; exact h.free k hk) (by rw [hcmt, h.noRestore])
  rw [hx]
  exact Src.fatalHold_fatal hn x scope now _

/-- What follows is what the statements ask of a fatal source that rises. -/
theorem fatalRises_of {s : State} {d e : Dev} {n : Nat} (hq : d.quiet) (hfab : d.fab = s.d.fab) (hcnt : d.flt.fatalCnt = s.d.flt.fatalCnt)
    (hs : d.signals [n, 68] e) (hl : (e.src n).latched = true) (hc : (e.src n).count = min ((s.d.src n).count + 1) 65535) :
    Obl.fatalRises s { s with d := e.fatals.blanks.notify } n := by
  have hefab : e.fab = d.fab := hs.same.fab
  have hflt := (Dev.notify_same e.fatals.blanks).flt (by simp)
  have hsrc : e.fatals.blanks.notify.src n = e.src n := by
    rw [Dev.notify_src, (Dev.blanks_same _).src, (Dev.fatals_same e).src]
  have hecnt : e.flt.fatalCnt = d.flt.fatalCnt := by rw [← hs.flt]
  have hbl : e.fatals.blanks.notify.flt.blank = true := congrArg Flt.blank hflt
  refine ⟨?_, ?_, congrArg Flt.fatal hflt, (congrArg Flt.fatalCnt hflt).trans ?_, hbl, Dev.permit_blanked rfl, fun ca hca => ?_, fun ca hca aa haa => ?_⟩
  · rw [hsrc]; exact hl
  · rw [hsrc]; exact hc
  · change satAdd e.flt.fatalCnt 1 16 = _
    rw [hecnt, hcnt]
    rfl
  · have hcell := (Dev.cell_blanks (d := e.fatals) (by exact (congrArg Fab.cells hefab) ▸ hq.cells) ca).1 hca
    rw [Dev.notify_cell, hcell]
    change (e.cell ca).blankCode = _
    rw [Dev.cell, hefab, hfab, Dev.cell]
  · have hloop : e.fatals.blanks.loop aa = (s.d.loop aa).toHold := by
      have h1 : e.fatals.blanks.loop aa = e.fatals.loop aa := by rw [Dev.loop, Dev.blanks_loops, Dev.loop]
      have h2 : e.fatals.loop aa = (e.loop aa).toHold :=
        Dev.loop_holdLoops (d := ({ e with flt := { e.flt with fatal := true, relock := none, fatalCnt := satAdd e.flt.fatalCnt 1 16 } } : Dev))
          (by exact (congrArg Fab.loops hefab) ▸ hq.loops) hca haa
      rw [h1, h2, Dev.loop, hefab, hfab, Dev.loop]
    rw [Dev.notify_loop, hloop]
    exact ⟨rfl, rfl, rfl⟩

abbrev fatalParts : List Part := [.src, .flt, .fns, .views, .fab, .mon]

/-- A fatal condition that comes in a quiet device. -/
theorem fatalOn_rises {s : State} {d : Dev} (hq : d.quiet) (hfab : d.fab = s.d.fab) (hflt : d.flt = s.d.flt) {n : Nat} (hn : n < 13)
    (hc : 0 ∉ (s.d.src n).conds) (net : Net) :
    Obl.fatalRises s { s with d := (d.fatalOn net n 0).notify } n ∧ 0 ∈ ((d.fatalOn net n 0).notify.src n).conds ∧
      Dev.sameBut fatalParts d (d.fatalOn net n 0) := by
  have hres : srcReserved n = false := by
    have : ∀ n, n < 13 → srcReserved n = false := by decide
    exact this n hn
  have hsrc : d.src n = s.d.src n := by rw [Dev.src, hflt, Dev.src]
  have hsig := d.condOn_signals n 0
  have hx := Dev.src_condOn hres (by omega) d 0
  rw [hsrc, if_neg hc] at hx
  have hset := hq.rises hn hsig hx net n
  obtain ⟨hlat, hcnt, hconds, -⟩ := Src.marked_fields ({ s.d.src n with conds := 0 :: (s.d.src n).conds }) n 0 d.tb2 false true
  rw [Dev.fatalOn, hset]
  refine ⟨fatalRises_of hq hfab (by rw [hflt]) hsig (by rw [hx]; exact hlat) (by rw [hx]; exact hcnt), ?_, ?_⟩
  · rw [Dev.notify_src, (Dev.blanks_same _).src, (Dev.fatals_same _).src, hx, hconds]
    exact List.mem_cons_self
  · exact (hsig.same.mono (by decide)).trans (((Dev.fatals_same _).mono (by decide)).trans ((Dev.blanks_same _).mono (by decide)))

/-! ### A fatal condition that ends -/

/-- The source whose one condition ends, its one scope starting its quiet time. -/
theorem Dev.src_condOff_only {d : Dev} {n : Nat} {i : Inst} (hc : (d.src n).conds = [0]) (hi : (d.src n).insts = [i]) (h0 : i.scope = 0)
    (hs : i.since = none) (hf : (d.src n).force = false) :
    (d.condOff n 0).src n = { d.src n with conds := [], insts := [{ i with since := some d.tb2 }] } := by
  rw [Dev.condOff, Dev.src_modSrc_self]
  simp [hc, hi, h0, hs, hf, Src.currentAt]

/-- The fatal state goes on while a scope has not recovered. -/
theorem fatalOff_quiets {s : State} {d : Dev} {n : Nat} {i : Inst} (h : Obl.fatalStands s n i) (hn : n < 13) (hflt : d.flt = s.d.flt)
    (htb : d.tb2 = s.d.tb2) (net : Net) : d.fatalOff net n 0 = d.condOff n 0 ∧ Obl.fatalQuiets s { s with d := (d.fatalOff net n 0).notify } n i := by
  obtain ⟨hfat, hrel, hb, hrl, hce, hconds, hinsts, h0, hfull, hsince, hforce, -⟩ := h
  have hsrc : ∀ k, d.src k = s.d.src k := fun k => by rw [Dev.src, hflt, Dev.src]
  have hx := Dev.src_condOff_only (d := d) (n := n) (by rw [hsrc, hconds]) (by rw [hsrc, hinsts]) h0 hsince (by rw [hsrc, hforce])
  have hcause : (d.condOff n 0).fatalCause = true := by
    refine List.any_eq_true.mpr ⟨n, List.mem_range.mpr hn, ?_⟩
    rw [hx]
    simp [Src.fatalHold, hfull]
  have hflags : ∀ x : Flt, { x with src := d.flt.src } = d.flt → x.fatal = true ∧ x.relock = none ∧ x.blank = true ∧ x.releasing = false ∧
      x.causeEnd = none := fun x hx => by
    rw [hflt] at hx
    exact ⟨(congrArg Flt.fatal hx).trans hfat, (congrArg Flt.relock hx).trans hrel, (congrArg Flt.blank hx).trans hb,
      (congrArg Flt.releasing hx).trans hrl, (congrArg Flt.causeEnd hx).trans hce⟩
  obtain ⟨f1, f2, f3, f4, f5⟩ := hflags (d.condOff n 0).flt rfl
  have hsync : (d.condOff n 0).fatalSync n = d.condOff n 0 := by
    unfold Dev.fatalSync
    rw [if_pos hcause, if_neg (by simp [f1]), if_neg (by simp [f2])]
  have hblank : (d.condOff n 0).blankSync net = d.condOff n 0 := by
    have hself : ({ (d.condOff n 0).flt with causeEnd := none } : Flt) = (d.condOff n 0).flt := by rw [← f5]
    unfold Dev.blankSync
    rw [if_pos (show (d.condOff n 0).blankCause = true by simp [Dev.blankCause, f1]),
      if_pos (show (d.condOff n 0).blankOn = true by simp [Dev.blankOn, f3, f4]), hself]
    split <;> rfl
  have hoff : d.fatalOff net n 0 = d.condOff n 0 := by rw [Dev.fatalOff, Dev.settleFatal, hsync, Dev.relockCheck_of f2, hblank]
  have hn' := (Dev.notify_same (d.condOff n 0)).flt (by simp)
  refine ⟨hoff, ?_⟩
  rw [hoff]
  refine ⟨?_, (congrArg Flt.fatal hn').trans f1, (congrArg Flt.blank hn').trans f3, fun k hk => ?_⟩
  · rw [Dev.notify_src, hx, hsrc, htb]
  · rw [Dev.notify_src, (d.condOff_signals n 0).src k (by simpa using hk), hsrc]

end Sys2Proof.Machine

/-! ## Supply, rails and power (O56) -/
namespace Sys2Proof.Machine
set_option Elab.async false

theorem Dev.sameBut.view {ps : List Part} {d e : Dev} (h : Dev.sameBut ps d e) (hp : Part.views ∉ ps := by decide) : e.view = d.view := by
  have hv : e.io.views = d.io.views := h .views hp
  funext f
  rw [Dev.view, hv, Dev.view]

/-! ### A store that is abandoned -/

theorem Dev.storeAbandon_idle {d : Dev} (h : d.cal.storing = false) (p : Bool) : d.storeAbandon p = d := by
  unfold Dev.storeAbandon
  rw [if_pos (by simp [h])]

/-- The registers of a store that is abandoned for the first time, by the supply or by a stalled master (R242, R243). -/
def Cal.abandoned (c : Cal) (power : Bool) (now : Nat) : Cal :=
  { c with storing := false, pfAbort := c.pfAbort || power, retry := !c.again, retryAt := if power then none else some now }

theorem Dev.storeAbandon_once {d : Dev} (h : d.cal.storing = true) (ha : d.cal.again = false) (p : Bool) :
    d.storeAbandon p = ({ d.resetBursts (fun b => b.master == 5) with cal := d.cal.abandoned p d.tb2 } : Dev).count 3028 := by
  unfold Dev.storeAbandon
  rw [if_neg (by simp [h])]
  exact if_neg (by simp [ha])

theorem Dev.storeAbandon_same {d : Dev} (ha : d.cal.again = false) (p : Bool) : Dev.sameBut [.cal] d (d.storeAbandon p) := by
  cases h : d.cal.storing with
  | false => rw [Dev.storeAbandon_idle h]; exact .refl _ d
  | true =>
    rw [Dev.storeAbandon_once h ha]
    exact ((d.resetBursts_same _).up _).trans ((Dev.withCal_same _ _).trans ((Dev.count_same _ _).up _))

theorem Dev.storeAbandon_cal {d : Dev} (ha : d.cal.again = false) (p : Bool) :
    (d.storeAbandon p).cal = if d.cal.storing then d.cal.abandoned p d.tb2 else d.cal := by
  cases h : d.cal.storing with
  | false => rw [Dev.storeAbandon_idle h]; rfl
  | true => rw [Dev.storeAbandon_once h ha]; rfl

/-! ### Supply -/

/-- VIN48 falls below V_WARN. -/
def Dev.warned (d : Dev) : Dev := (({ d with pwr := { d.pwr with vinWarn := true } } : Dev).condOn 15 0).setLeaf 0 0x1D8 4

theorem exec_vinWarn_next {s : State} {mv : Nat} (ho : s.d.pwr.off = false) (hw : s.d.pwr.vinWarn = false) (hm : mv < s.d.pwr.vWarn) :
    exec (.vinWarn mv) s = .next { s with d := (s.d.warned.storeAbandon true).notify } := by
  rw [exec_vinWarn, execVinWarn, if_neg (by simp [ho, hw]; omega), finish_next]
  rfl

theorem Dev.warned_signals (d : Dev) : Dev.signals [15, 68] ({ d with pwr := { d.pwr with vinWarn := true } } : Dev) d.warned :=
  (Dev.condOn_signals _ 15 0).trans (Dev.setLeaf_signals _ _ _ _)

theorem Dev.warned_src {d : Dev} (h : 0 ∉ (d.src 15).conds) :
    d.warned.src 15 = ({ d.src 15 with conds := 0 :: (d.src 15).conds } : Src).marked 15 0 d.tb2 false true := by
  have hx := Dev.src_condOn (n := 15) (by decide) (by decide) ({ d with pwr := { d.pwr with vinWarn := true } } : Dev) 0
  exact hx.trans (if_neg h)

theorem Dev.warned_leaf (d : Dev) : bitOf ((d.warned.view 0).leaf.get 0 0x1D8) 2 = true := by
  rw [Dev.warned, Dev.leaf_setLeaf_self, bitOf_or]
  simp [bitOf]

theorem Dev.warned_cal (d : Dev) : d.warned.cal = d.cal := (d.warned_signals.same .cal (by decide))

theorem Dev.warned_pwr (d : Dev) : d.warned.pwr = { d.pwr with vinWarn := true } := (d.warned_signals.same .pwr (by decide))

theorem Dev.warned_same (d : Dev) : Dev.sameBut [.pwr, .cal, .src, .flt, .fns, .views] d d.warned :=
  ((d.withPwr_same _).mono (by decide)).trans (d.warned_signals.same.mono (by decide))

/-- Every driver is high-impedance, and every heater at 0. -/
theorem Dev.loop_driversOff {d : Dev} (h : Tab.wf {} d.fab.loops = true) (aa : Nat) :
    (d.driversOff.loop aa).u = 0 ∧ (d.driversOff.loop aa).drv = 0 := by
  have hg := Tab.get_mapVals (d := ({} : Loop))
    (f := fun _ l => { l with drv := 0, drvPrev := 0, drvNext := none, u := 0, dither := false, ap := 0, amplNext := none }) (fun _ => rfl) aa h
  have hl : d.driversOff.loop aa = { d.loop aa with drv := 0, drvPrev := 0, drvNext := none, u := 0, dither := false, ap := 0, amplNext := none } := hg
  rw [hl]
  exact ⟨rfl, rfl⟩

theorem Dev.driversOff_same (d : Dev) : Dev.sameBut [.drv, .fab] d d.driversOff :=
  ((d.withDrv_same { d.drv with armed := false }).mono (qs := [.drv, .fab]) (by decide)).trans
    ((Dev.withFab_same ({ d with drv := { d.drv with armed := false } } : Dev) d.driversOff.fab).mono (by decide))

/-- The control side below the lockout. -/
def Dev.lockedOut (d : Dev) : Dev :=
  { d.driversOff with
    pwr := { off := true, phase := .stopped, refSel := d.pwr.refSel, strapId := d.pwr.strapId },
    io := { d.io with linkUp := false, linkGen := 0, linkWidth := 0, linkFlit := false } }

theorem Dev.lockedOut_same (d : Dev) : Dev.sameBut [.pwr, .drv, .fab, .link] d d.lockedOut := by
  have h1 : Dev.sameBut [.pwr, .drv, .fab, .link] d d.driversOff := d.driversOff_same.mono (by decide)
  have h2 : Dev.sameBut [.pwr, .drv, .fab, .link] d.driversOff d.lockedOut := by
    intro p hp
    cases p <;> simp_all [Part.same, Dev.lockedOut, Dev.driversOff, Dev.fn]
  exact h1.trans h2

theorem exec_uvlo_next {s : State} {mv : Nat} (ho : s.d.pwr.off = false) (hc : s.d.cal.storing = false) (hm : mv < 3700) :
    exec (.uvlo mv) s = .next { s with d := s.d.lockedOut.notify, isl := { s.isl with dip := true } } := by
  rw [exec_uvlo, execUvlo, if_neg (by simp [ho]; omega), Dev.storeAbandon_idle hc]
  rfl

/-! ### VIN48 returns -/

/-- The end of FS15. -/
def Dev.unwarned (d : Dev) : Dev :=
  ({ d with pwr := { d.pwr with vinWarn := false }, cal := if d.cal.retry then { d.cal with retryAt := some d.tb2 } else d.cal } : Dev).condOff 15 0

/-- What VIN48_RETURN ends of FS15, FS01 and FS02. -/
def Dev.ends15 (d : Dev) (mv : Nat) : Dev := if d.pwr.vinWarn && decide (d.pwr.vWarn + 50 ≤ mv) then d.unwarned else d
def Dev.ends1 (d : Dev) (n : Net) (mv : Nat) : Dev := if !(d.src 1).conds.isEmpty && decide (3800 ≤ mv) then d.fatalOff n 1 0 else d
def Dev.ends2 (d : Dev) (n : Net) (mv : Nat) : Dev := if !(d.src 2).conds.isEmpty && decide (mv ≤ 6200) then d.fatalOff n 2 0 else d

theorem exec_vin48Return_next {s : State} (mv : Nat) (ho : s.d.pwr.off = false) :
    exec (.vin48Return mv) s = .next { s with d := (((s.d.ends15 mv).ends1 s.net mv).ends2 s.net mv).notify } := by
  rw [exec_vin48Return, execVin48Return, if_neg (by simp [ho])]
  rfl

theorem Dev.ends1_of {d : Dev} (n : Net) (mv : Nat) (h : (d.src 1).conds = []) : d.ends1 n mv = d := if_neg (by simp [h])

theorem Dev.ends2_of {d : Dev} (n : Net) (mv : Nat) (h : (d.src 2).conds = []) : d.ends2 n mv = d := if_neg (by simp [h])

theorem exec_vin48Return_unwarned {s : State} {mv : Nat} (ho : s.d.pwr.off = false) (h1 : (s.d.src 1).conds = []) (h2 : (s.d.src 2).conds = [])
    (hw : s.d.pwr.vinWarn = true) (hm : s.d.pwr.vWarn + 50 ≤ mv) : exec (.vin48Return mv) s = .next { s with d := s.d.unwarned.notify } := by
  have hsrc : ∀ k, k ≠ 15 → s.d.unwarned.src k = s.d.src k := fun k hk => (Dev.condOff_signals _ 15 0).src k (by simpa using hk)
  have h15 : s.d.ends15 mv = s.d.unwarned := if_pos (by simp [hw, hm])
  rw [exec_vin48Return_next mv ho, h15, Dev.ends1_of _ _ (by rw [hsrc 1 (by decide), h1]), Dev.ends2_of _ _ (by rw [hsrc 2 (by decide), h2])]

theorem exec_vin48Return_low {s : State} {mv : Nat} {i : Inst} (h : Obl.fatalStands s 1 i) (h2 : (s.d.src 2).conds = [])
    (hw : s.d.pwr.vinWarn = false) (hm : 3800 ≤ mv) : exec (.vin48Return mv) s = .next { s with d := (s.d.fatalOff s.net 1 0).notify } := by
  obtain ⟨hoff, -⟩ := fatalOff_quiets (d := s.d) h (by decide) rfl rfl s.net
  obtain ⟨-, -, -, -, -, hconds, -, -, -, -, -, ho⟩ := h
  have h15 : s.d.ends15 mv = s.d := if_neg (by simp [hw])
  have h1 : s.d.ends1 s.net mv = s.d.fatalOff s.net 1 0 := if_pos (by simp [hconds, hm])
  rw [exec_vin48Return_next mv ho, h15, h1, Dev.ends2_of _ _ (by rw [hoff, (Dev.condOff_signals _ 1 0).src 2 (by simp), h2])]

/-! ### Rails -/

/-- A rail leaves its window. -/
def Dev.railLost (d : Dev) (rail : Nat) : Dev := { d with pwr := { d.pwr with rails := d.pwr.rails - 2 ^ rail } }

theorem Dev.railLost_same (d : Dev) (rail : Nat) : Dev.sameBut [.pwr] d (d.railLost rail) := d.withPwr_same _

/-- HRAIL below its window. -/
def Dev.hrailLow (d : Dev) (mv : Nat) : Dev := ({ d with drv := { d.drv with hrailMv := mv, err := d.drv.err ||| 64 } } : Dev).condOn 18 0

theorem Dev.railTick_low {d : Dev} (n : Net) {mv : Nat} (ha : d.drv.armed = true) (h1 : 4000 ≤ mv) (h2 : mv < 4700) (hc : (d.src 11).conds = []) :
    d.railTick n mv = d.hrailLow mv := by
  have h11 : ((d.hrailLow mv).src 11).conds = [] := by
    rw [Dev.hrailLow, (Dev.condOn_signals _ 18 0).src 11 (by simp)]
    exact hc
  unfold Dev.railTick
  rw [if_neg (by simp [ha])]
  dsimp only
  rw [if_pos h2, if_neg (by omega)]
  exact if_pos ((congrArg List.isEmpty h11).trans rfl)


/-! ### Power -/

/-- How many means in a row, up to 100. -/
def runOf (c : Nat) (on : Bool) : Nat := if on then min 100 (c + 1) else 0

/-- The power registers with a new mean (R404). -/
def Pwr.averaged (p : Pwr) (now vin pin : Nat) : Pwr :=
  { p with meanAt := now + 1, vin := min vin 65535, pin := pin, peak := max p.peak pin,
           overW := runOf p.overW (decide (10 * p.warn < pin)), underW := runOf p.underW (decide (pin + 100 ≤ 10 * p.warn)),
           overA := runOf p.overA (decide (10 * p.alarm < pin)), underA := runOf p.underA (decide (pin + 100 ≤ 10 * p.alarm)) }

/-- A threshold's condition after so many means over and under it. -/
def Dev.threshold (d : Dev) (k ov under bit : Nat) : Dev :=
  if ov = 100 then (if (d.src k).conds.isEmpty then (d.condOn k 0).setLeaf 0 0x1D8 bit else d)
  else if under = 100 then d.condOff k 0 else d

/-- Both thresholds judged. -/
def Dev.judged (d : Dev) (p : Pwr) : Dev := (({ d with pwr := p } : Dev).threshold 16 p.overW p.underW 1).threshold 17 p.overA p.underA 2

/-- The caps follow the conditions. -/
def Dev.capped (d : Dev) : Dev := { d with pwr := { d.pwr with capWarn := !(d.src 16).conds.isEmpty, capAlarm := !(d.src 17).conds.isEmpty } }

theorem exec_powerMean_next {s : State} (vin pin : Nat) (hm : s.d.tb2 % 1000000 = 0) (h0 : s.d.tb2 ≠ 0) (ha : s.d.pwr.meanAt ≠ s.d.tb2 + 1)
    (hc : s.d.clocked = true) :
    exec (.powerMean vin pin) s = .next { s with d := (s.d.judged (s.d.pwr.averaged s.d.tb2 vin (min pin 65535))).capped.notify } := by
  rw [exec_powerMean, execPowerMean, if_neg (by simp [hm, h0, ha, hc])]
  rfl

theorem Dev.threshold_signals (d : Dev) (k ov under bit : Nat) : d.signals [k, 68] (d.threshold k ov under bit) := by
  unfold Dev.threshold
  split
  · split
    · exact (d.condOn_signals k 0).trans (Dev.setLeaf_signals _ _ _ _)
    · exact .refl _ d
  · split
    · exact (d.condOff_signals k 0).mono (by simp)
    · exact .refl _ d

/-- A threshold passed sets its condition and its cause. -/
theorem Dev.threshold_over {d : Dev} {k : Nat} (under bit : Nat) (hk : srcReserved k = false) (h68 : k ≠ 68) (hc : (d.src k).conds = []) :
    0 ∈ ((d.threshold k 100 under bit).src k).conds ∧
      ∀ b, bitOf bit b = true → bitOf (((d.threshold k 100 under bit).view 0).leaf.get 0 0x1D8) b = true := by
  have ht : d.threshold k 100 under bit = (d.condOn k 0).setLeaf 0 0x1D8 bit := by
    unfold Dev.threshold
    rw [if_pos rfl, if_pos (by simp [hc])]
  rw [ht]
  refine ⟨?_, fun b hb => ?_⟩
  · exact Dev.mem_conds_condOn hk h68 d 0
  · rw [Dev.leaf_setLeaf_self, bitOf_or, hb, Bool.or_true]

/-- A threshold no longer passed ends its condition. -/
theorem Dev.threshold_under {d : Dev} {k ov : Nat} (bit : Nat) (ho : ov ≠ 100) (hc : (d.src k).conds = [0]) :
    ((d.threshold k ov 100 bit).src k).conds = [] := by
  unfold Dev.threshold
  rw [if_neg ho, if_pos rfl, Dev.conds_condOff, hc]
  rfl

theorem Dev.judged_signals (d : Dev) (p : Pwr) : Dev.signals [16, 17, 68] ({ d with pwr := p } : Dev) (d.judged p) :=
  ((Dev.threshold_signals _ 16 p.overW p.underW 1).mono (by simp)).trans ((Dev.threshold_signals _ 17 p.overA p.underA 2).mono (by simp))

theorem Dev.judged_src16 (d : Dev) (p : Pwr) : (d.judged p).src 16 = (({ d with pwr := p } : Dev).threshold 16 p.overW p.underW 1).src 16 :=
  (Dev.threshold_signals _ 17 p.overA p.underA 2).src 16 (by decide)

theorem Dev.threshold16_src17 (d : Dev) (p : Pwr) : (({ d with pwr := p } : Dev).threshold 16 p.overW p.underW 1).src 17 = d.src 17 :=
  (Dev.threshold_signals _ 16 p.overW p.underW 1).src 17 (by decide)

theorem runOf_full {c : Nat} {on : Bool} (h : on = true) (hc : 99 ≤ c) : runOf c on = 100 := by
  unfold runOf
  rw [if_pos h]
  omega

theorem Dev.capped_same (d : Dev) : Dev.sameBut [.pwr] d d.capped := d.withPwr_same _

/-- Means over the warning threshold: FS16, its cap and its cause. -/
theorem Dev.judged_warn {d : Dev} {p : Pwr} (h : p.overW = 100) (hc : (d.src 16).conds = []) :
    0 ∈ ((d.judged p).src 16).conds ∧ (d.judged p).capped.pwr.capWarn = true ∧ bitOf (((d.judged p).view 0).leaf.get 0 0x1D8) 0 = true := by
  obtain ⟨h1, h2⟩ := Dev.threshold_over (d := ({ d with pwr := p } : Dev)) (k := 16) p.underW 1 (by decide) (by decide) hc
  rw [← h] at h1 h2
  have hm : 0 ∈ ((d.judged p).src 16).conds := by rw [Dev.judged_src16]; exact h1
  refine ⟨hm, ?_, (Dev.threshold_signals _ 17 p.overA p.underA 2).causes _ _ _ (h2 0 (by decide))⟩
  change (!((d.judged p).src 16).conds.isEmpty) = true
  cases hl : ((d.judged p).src 16).conds with
  | nil => rw [hl] at hm; cases hm
  | cons _ _ => rfl

/-- Means over the alarm threshold: FS17, its cap and its cause. -/
theorem Dev.judged_alarm {d : Dev} {p : Pwr} (h : p.overA = 100) (hc : (d.src 17).conds = []) :
    0 ∈ ((d.judged p).src 17).conds ∧ (d.judged p).capped.pwr.capAlarm = true ∧ bitOf (((d.judged p).view 0).leaf.get 0 0x1D8) 1 = true := by
  obtain ⟨h1, h2⟩ := Dev.threshold_over (d := (({ d with pwr := p } : Dev).threshold 16 p.overW p.underW 1)) (k := 17) p.underA 2 (by decide)
    (by decide) (by rw [Dev.threshold16_src17, hc])
  rw [← h] at h1 h2
  refine ⟨h1, ?_, h2 1 (by decide)⟩
  change (!((d.judged p).src 17).conds.isEmpty) = true
  cases hl : ((d.judged p).src 17).conds with
  | nil => exact absurd (hl ▸ (show 0 ∈ ((d.judged p).src 17).conds from h1)) (by simp)
  | cons _ _ => rfl

/-- Means under the warning threshold end FS16 and its cap. -/
theorem Dev.judged_calm {d : Dev} {p : Pwr} (ho : p.overW ≠ 100) (hu : p.underW = 100) (hc : (d.src 16).conds = [0]) :
    ((d.judged p).src 16).conds = [] ∧ (d.judged p).capped.pwr.capWarn = false := by
  have h1 := Dev.threshold_under (d := ({ d with pwr := p } : Dev)) (k := 16) 1 ho hc
  rw [← hu] at h1
  have hm : ((d.judged p).src 16).conds = [] := by rw [Dev.judged_src16]; exact h1
  refine ⟨hm, ?_⟩
  change (!((d.judged p).src 16).conds.isEmpty) = false
  rw [hm]
  rfl

abbrev pwrFaultParts : List Part := [.pwr, .src, .flt, .fns, .views]

/-- Settles O56: supply, rails, power and the permit loop. -/
theorem supplyIsWatched : Obligations.SupplyIsWatched := by
  refine ⟨?_, ?_, ?_, ?_, ?_, ?_, ?_, ?_, ?_⟩
  · intro s mv ho hw hm hc ha
    have hab := Dev.storeAbandon_same (d := s.d.warned) (by rw [Dev.warned_cal, ha]) true
    have hcal : ((s.d.warned.storeAbandon true).notify).cal = if s.d.cal.storing then s.d.cal.abandoned true s.d.warned.tb2 else s.d.cal := by
      rw [Dev.notify_cal, Dev.storeAbandon_cal (by rw [Dev.warned_cal, ha]), Dev.warned_cal]
    obtain ⟨hlat, hcnt, hconds, -⟩ := Src.marked_fields ({ s.d.src 15 with conds := 0 :: (s.d.src 15).conds }) 15 0 s.d.tb2 false true
    have hsrc : ((s.d.warned.storeAbandon true).notify).src 15 =
        ({ s.d.src 15 with conds := 0 :: (s.d.src 15).conds } : Src).marked 15 0 s.d.tb2 false true := by
      rw [Dev.notify_src, hab.src, Dev.warned_src hc]
    refine ⟨_, exec_vinWarn_next ho hw hm, ?_, ?_, ?_, ?_, fun hst => ?_, fun hst => ?_, finish_same (s.d.warned_same.trans (hab.mono (by decide)))⟩
    · rw [Dev.notify_pwr, (show (s.d.warned.storeAbandon true).pwr = s.d.warned.pwr from hab .pwr (by decide)), Dev.warned_pwr]
    · rw [hsrc, hconds]; exact List.mem_cons_self
    · rw [hsrc]; exact hcnt
    · rw [Dev.notify_view, hab.view]; exact s.d.warned_leaf
    · rw [hcal, if_pos hst]
      exact ⟨rfl, by simp [Cal.abandoned, ha], by simp [Cal.abandoned]⟩
    · rw [hcal, if_neg (by simp [hst])]
  · intro s mv hquiet hst
    have hq := Dev.quiet.of_obl hquiet
    obtain ⟨-, -, -, -, -, hloops, hoff⟩ := hquiet
    refine ⟨fun hm hc => ?_, fun hm hc => ?_, fun hm hw => ?_⟩
    · obtain ⟨h1, h2, h3⟩ := fatalOn_rises (s := s) hq rfl rfl (n := 1) (by decide) hc s.net
      refine ⟨_, ?_, h1, h2, finish_same h3⟩
      rw [exec_vin48Low, execVin48Low, if_neg (by simp [hoff]; omega), Dev.storeAbandon_idle hst, finish_next]
    · obtain ⟨h1, h2, h3⟩ := fatalOn_rises (s := s) hq rfl rfl (n := 2) (by decide) hc s.net
      refine ⟨_, ?_, h1, h2, finish_same h3⟩
      rw [exec_vin48High, execVin48High, if_neg (by simp [hoff]; omega), finish_next]
    · refine ⟨_, exec_uvlo_next hoff hst hm, ?_, ?_, fun aa => ?_, ?_, rfl, rfl, rfl, rfl, s.d.lockedOut_same.trans ((Dev.notify_same _).mono (by simp))⟩
      · rw [Dev.notify_pwr]; rfl
      · rw [Dev.notify_drv]; rfl
      · rw [Dev.notify_loop]
        exact (Dev.loop_driversOff hw aa).2
      · obtain ⟨-, hlink, -⟩ := (Dev.notify_same s.d.lockedOut).link (by simp)
        exact hlink.trans rfl
  · intro s mv ho h1 h2 hw hm
    refine ⟨_, exec_vin48Return_unwarned ho h1 h2 hw hm, ?_, ?_, ?_, finish_same ?_⟩
    · rw [Dev.notify_pwr]; rfl
    · rw [Dev.notify_src, Dev.unwarned, Dev.conds_condOff]; simp
    · rw [Dev.notify_cal]; rfl
    · exact ((s.d.withPwr_same { s.d.pwr with vinWarn := false }).mono (qs := [.pwr, .src, .cal]) (by decide)).trans
        (((Dev.withCal_same _ _).mono (qs := [.pwr, .src, .cal]) (by decide)).trans ((Dev.condOff_same _ 15 0).mono (by decide)))
  · intro s mv i h h2 hw hm
    obtain ⟨hoff, hquiets⟩ := fatalOff_quiets (d := s.d) h (by decide) rfl rfl s.net
    exact ⟨_, exec_vin48Return_low h h2 hw hm, hquiets, finish_same (by rw [hoff]; exact Dev.condOff_same _ 1 0)⟩
  · intro s rail mv hquiet hr hb hin hc
    have hq := Dev.quiet.of_obl hquiet
    obtain ⟨-, -, -, -, -, -, hoff⟩ := hquiet
    have hq' : (s.d.railLost rail).quiet := hq.of ((s.d.railLost_same rail).calm hq.calm) rfl rfl rfl
    obtain ⟨h1, h2, h3⟩ := fatalOn_rises (s := s) hq' rfl rfl (n := 3) (by decide) hc s.net
    refine ⟨_, ?_, h1, h2, ?_, finish_same (((s.d.railLost_same rail).mono (by decide)).trans (h3.mono (by decide)))⟩
    · rw [exec_railOutOfWindow, execRailOutOfWindow, if_neg (by simp [hoff, hin, hb]; omega)]
      dsimp only
      rw [if_pos hr]
      exact congrArg (finish s) (if_neg (show ¬(s.d.src 3).conds.contains 0 = true by simpa using hc))
    · rw [Dev.notify_pwr]
      exact h3 .pwr (by decide)
  · intro s mv hquiet hb h1 h2 h11 hc
    have hq := Dev.quiet.of_obl hquiet
    obtain ⟨-, -, -, -, -, -, hoff⟩ := hquiet
    have hout : railIn 5 mv = false := by simp [railIn]; omega
    have hx : exec (.railOutOfWindow 5 mv) s = .next { s with d := ((s.d.railLost 5).hrailLow mv).notify } := by
      rw [exec_railOutOfWindow, execRailOutOfWindow, if_neg (by simp [hoff, hb, hout])]
      exact congrArg (finish s) (Dev.railTick_low (d := s.d.railLost 5) s.net hq.armed h1 h2 h11)
    have hsig := Dev.condOn_signals ({ s.d.railLost 5 with drv := { s.d.drv with hrailMv := mv, err := s.d.drv.err ||| 64 } } : Dev) 18 0
    refine ⟨_, hx, ?_, ?_, ?_, ?_, finish_same ?_⟩
    · rw [Dev.notify_pwr]
      exact hsig.same .pwr (by decide)
    · rw [Dev.notify_drv]
      exact hsig.same .drv (by decide)
    · rw [Dev.notify_src]
      exact Dev.mem_conds_condOn (by decide) (by decide) _ 0
    · have hn := (Dev.notify_same ((s.d.railLost 5).hrailLow mv)).flt (by simp)
      exact (congrArg Flt.fatal hn).trans (hsig.flags.1.trans hq.calm.fatal)
    · exact ((s.d.railLost_same 5).mono (by decide)).trans (((Dev.withDrv_same _ _).mono (qs := [.src, .flt, .fns, .views, .pwr, .drv]) (by decide)).trans
        (hsig.same.mono (by decide)))
  · intro s rail mv i h hr hb hin hall
    obtain ⟨hoff, hquiets⟩ := fatalOff_quiets (d := ({ s.d with pwr := { s.d.pwr with rails := s.d.pwr.rails + 2 ^ rail } } : Dev)) h (by decide) rfl
      rfl s.net
    obtain ⟨-, -, -, -, -, hconds, -, -, -, -, -, ho⟩ := h
    refine ⟨_, ?_, ?_, hquiets, finish_same ?_⟩
    · rw [exec_railInWindow, execRailInWindow, if_neg (by simp [ho, hin, hb]; omega)]
      dsimp only
      rw [if_neg (by omega)]
      exact if_pos ⟨hall, show (s.d.src 3).conds.contains 0 = true by rw [hconds]; rfl⟩
    · rw [Dev.notify_pwr, hoff]
      rfl
    · rw [hoff]
      exact ((s.d.withPwr_same _).mono (qs := [.src, .pwr]) (by decide)).trans ((Dev.condOff_same _ 3 0).mono (by decide))
  · intro s vin pin hm h0 ha hc hp hv
    have hx := exec_powerMean_next vin pin hm h0 ha hc
    rw [show min pin 65535 = pin by omega] at hx
    have hpwr : (s.d.judged (s.d.pwr.averaged s.d.tb2 vin pin)).pwr = s.d.pwr.averaged s.d.tb2 vin pin :=
      (s.d.judged_signals _).same .pwr (by decide)
    have hcap : ∀ x : Dev, x.capped.pwr.vin = x.pwr.vin ∧ x.capped.pwr.pin = x.pwr.pin ∧ x.capped.pwr.peak = x.pwr.peak := fun x => ⟨rfl, rfl, rfl⟩
    have hsrc : ∀ x : Dev, x.capped.notify.src = x.src := fun x => x.capped.notify_src
    have hview : ∀ x : Dev, x.capped.notify.view = x.view := fun x => x.capped.notify_view
    refine ⟨_, hx, ?_, ?_, ?_, fun h9 hw hc16 => ?_, fun h9 hw hc17 => ?_, fun h9 hw hc16 => ?_, finish_same ?_⟩
    · rw [Dev.notify_pwr, (hcap _).1, hpwr]
      exact Nat.min_eq_left (by omega)
    · rw [Dev.notify_pwr, (hcap _).2.1, hpwr]; rfl
    · rw [Dev.notify_pwr, (hcap _).2.2, hpwr]; rfl
    · rw [Dev.notify_pwr, hsrc, hview]
      exact Dev.judged_warn (runOf_full (by simp [hw]) h9) hc16
    · rw [Dev.notify_pwr, hsrc, hview]
      exact Dev.judged_alarm (runOf_full (by simp [hw]) h9) hc17
    · rw [Dev.notify_pwr, hsrc]
      refine Dev.judged_calm ?_ (runOf_full (by simp [hw]) h9) hc16
      change runOf _ (decide (10 * s.d.pwr.warn < pin)) ≠ 100
      rw [show decide (10 * s.d.pwr.warn < pin) = false by simp; omega]
      simp [runOf]
    · exact ((s.d.withPwr_same _).mono (qs := pwrFaultParts) (by decide)).trans
        (((s.d.judged_signals _).same.mono (by decide)).trans ((Dev.capped_same _).mono (by decide)))
  · intro s hquiet hperm
    have hq := Dev.quiet.of_obl hquiet
    obtain ⟨-, -, -, -, -, -, hoff⟩ := hquiet
    have hsig := s.d.once_signals 10 0
    have hx := Dev.src_once (n := 10) (by decide) (by decide) s.d 0
    obtain ⟨hlat, hcnt, hconds, -⟩ := Src.marked_fields (s.d.src 10) 10 0 s.d.tb2 false true
    have hset := hq.rises (by decide) hsig hx s.net 10
    refine ⟨_, ?_, fatalRises_of hq rfl rfl hsig (by rw [hx]; exact hlat) (by rw [hx]; exact hcnt), ?_, finish_same
      ((hsig.same.mono (by decide)).trans (((Dev.fatals_same _).mono (by decide)).trans ((Dev.blanks_same _).mono (by decide))))⟩
    · rw [exec_permitSense, execPermitSense, if_neg (by simp [hoff, hperm]), hset, finish_next]
    · rw [Dev.notify_src, (Dev.blanks_same _).src, (Dev.fatals_same _).src, hx, hconds]

end Sys2Proof.Machine

/-! ## Dusk (O55) -/
namespace Sys2Proof.Machine
set_option Elab.async false

theorem Dev.toStep_same (d : Dev) (k : Nat) : Dev.sameBut [.pwr] d (d.toStep k) := d.withPwr_same _

theorem Dev.notify_permit (d : Dev) : d.notify.flt.permit = d.permitOk :=
  ((State.pinsFollow_notify ({ d := d } : State) d).2.2).trans (Dev.sameBut.pins d.notify_same).2.2.2

theorem Dev.lane_of_lanes {d e : Dev} (h : e.seq.lanes = d.seq.lanes) (l : Nat) : e.lane l = d.lane l := by rw [Dev.lane, h, Dev.lane]

/-- Two passes over rising keys. -/
theorem Tab.get_modMany_twice {α : Type} [DecidableEq α] {d : α} (f : Nat → α → α) {ks ls : List Nat} {t : Tab α} (j : Nat)
    (hk : ks.Pairwise (· < ·)) (hl : ls.Pairwise (· < ·)) (h : Tab.wf d t = true) :
    (Tab.modMany d f ls (Tab.modMany d f ks t)).get d j =
      if j ∈ ls then f j (if j ∈ ks then f j (t.get d j) else t.get d j) else if j ∈ ks then f j (t.get d j) else t.get d j := by
  rw [Tab.get_modMany d f ls j hl ((Tab.wf_iff d _).mp (Tab.wf_modMany d f hk h)).1, Tab.get_modMany d f ks j hk ((Tab.wf_iff d t).mp h).1]

/-! ### The start of Dusk -/

/-- The registers at the start of Dusk. -/
def Dev.duskSet (d : Dev) : Dev := { d with pwr := { d.pwr with phase := .dusk, step := 0, stepAt := d.tb2, duskAt := d.tb2, duskWait := false } }

/-- Every queue aborts, for Dusk. -/
def Dev.duskAborts (d : Dev) : Dev := (List.range 64).foldl (fun d q => d.startAbort .dusk q) d.duskSet

/-- The sequencer stops, if it plays. -/
def Dev.seqQuiet (d : Dev) : Dev := if d.seq.state == .stopped then d else d.seqStop

theorem Dev.duskAborts_same (d : Dev) : Dev.sameBut [.queues, .cmt, .mon] d.duskSet d.duskAborts :=
  .foldl (fun d q => d.startAbort_same .dusk q) _ _

theorem Dev.seqQuiet_same (d : Dev) : Dev.sameBut [.seq, .views] d d.seqQuiet := .ite (.refl _ d) d.seqStop_same

theorem Dev.seqQuiet_seq (d : Dev) : d.seqQuiet.seq.state = .stopped ∧ d.seqQuiet.seq.lanes = d.seq.lanes := by
  by_cases h : d.seq.state = .stopped
  · rw [show d.seqQuiet = d from if_pos (by simp [h])]
    exact ⟨h, rfl⟩
  · rw [show d.seqQuiet = d.seqStop from if_neg (by simpa using h), d.seqStop_seq]
    exact ⟨rfl, rfl⟩

/-- Lanes that are not bound have nothing to release. -/
theorem Dev.unbindLanes_idle {d : Dev} : ∀ {ls : List Nat}, (∀ l ∈ ls, (d.lane l).bound = false) → ls.foldl (fun d l => d.unbindLane l) d = d := by
  intro ls
  induction ls with
  | nil => intro _; rfl
  | cons l ls ih =>
    intro h
    have hl : d.unbindLane l = d := by
      unfold Dev.unbindLane
      exact if_pos (by simp [h l List.mem_cons_self])
    rw [List.foldl_cons, hl]
    exact ih fun k hk => h k (List.mem_cons_of_mem _ hk)

theorem Dev.startDusk_steps (d : Dev) : d.startDusk = (List.range 4).foldl (fun d l => d.unbindLane l) d.duskAborts.calEnd.seqQuiet := by
  unfold Dev.startDusk Dev.duskAborts Dev.seqQuiet
  generalize hq : List.range 64 = qs
  rfl

/-- With no calibration run and no lane bound, Dusk starts with the aborts and the stop of the sequencer alone. -/
theorem Dev.startDusk_eq {d : Dev} (hr : d.cal.run = none) (hl : ∀ l, l < 4 → (d.lane l).bound = false) : d.startDusk = d.duskAborts.seqQuiet := by
  have hcal : d.duskAborts.calEnd = d.duskAborts := by
    unfold Dev.calEnd
    rw [show d.duskAborts.cal.run = none from (congrArg Cal.run (d.duskAborts_same .cal (by decide))).trans hr]
  have hlane : ∀ l, d.duskAborts.seqQuiet.lane l = d.lane l :=
    Dev.lane_of_lanes ((d.duskAborts.seqQuiet_seq).2.trans (congrArg Seq.lanes (d.duskAborts_same .seq (by decide))))
  rw [Dev.startDusk_steps, hcal]
  exact Dev.unbindLanes_idle fun l h => by rw [hlane]; exact hl l (List.mem_range.mp h)

theorem Dev.queue_duskAborts (d : Dev) (q : Nat) : d.duskAborts.queue q = if q < 64 then (d.queue q).abortStarts .dusk d.tb2 else d.queue q := by
  have h := Dev.queue_foldl_startAbort .dusk (List.range 64) d.duskSet q List.nodup_range
  simp only [List.mem_range] at h
  exact h

theorem Queue.abortStarts_dusk_idle {x : Queue} (h : x.state ∉ runStates) (now : Nat) : x.abortStarts .dusk now = x := by
  unfold Queue.abortStarts
  split
  · rfl
  · next hn =>
    rw [if_pos (show x.aborting = true from ?_)]
    · exact if_neg (by decide)
    · unfold Queue.aborting
      cases hx : x.state <;> simp_all

abbrev duskParts : List Part := [.pwr, .queues, .cmt, .mon, .seq, .views]

/-- The start of Dusk, with no calibration run and no lane bound. -/
theorem Dev.startDusk_does {d : Dev} (hr : d.cal.run = none) (hl : ∀ l, l < 4 → (d.lane l).bound = false) :
    d.startDusk.pwr = { d.pwr with phase := .dusk, step := 0, stepAt := d.tb2, duskAt := d.tb2, duskWait := false } ∧
      (∀ q, d.startDusk.queue q = if q < 64 then (d.queue q).abortStarts .dusk d.tb2 else d.queue q) ∧
      d.startDusk.seq.state = .stopped ∧ d.startDusk.seq.lanes = d.seq.lanes ∧ Dev.sameBut duskParts d d.startDusk := by
  have ha := d.duskAborts_same
  have hs := d.duskAborts.seqQuiet_same
  rw [Dev.startDusk_eq hr hl]
  refine ⟨(hs .pwr (by decide)).trans (ha .pwr (by decide)), fun q => ?_, (Dev.seqQuiet_seq _).1,
    (Dev.seqQuiet_seq _).2.trans (congrArg Seq.lanes (ha .seq (by decide))),
    ((d.withPwr_same _).mono (by decide)).trans ((ha.mono (by decide)).trans (hs.mono (by decide)))⟩
  rw [hs.queue, Dev.queue_duskAborts]

/-! ### The steps of Dusk -/

theorem exec_duskStepEnd_next {s : State} (hp : s.d.pwr.phase = .dusk) (hc : s.d.clocked = true)
    (hq : s.d.pwr.step = 0 → ∀ q, q < 64 → (s.d.queue q).aborting = false) (ht : s.d.pwr.step = 4 → s.d.pwr.stepAt + 8000000 ≤ s.d.tb2)
    (hb : s.d.pwr.step = 1 → s.d.blankOn = false) : exec .duskStepEnd s = .next { s with d := s.d.duskStep.notify } := by
  have hbusy : (s.d.pwr.step == 0 && (List.range 64).any (fun q => (s.d.queue q).aborting)) = false := by
    by_cases h0 : s.d.pwr.step = 0
    · simpa [h0] using hq h0
    · simp [h0]
  have hramp : (s.d.pwr.step == 4 && decide (s.d.tb2 < s.d.pwr.stepAt + 8000000)) = false := by
    by_cases h4 : s.d.pwr.step = 4
    · simpa [h4] using ht h4
    · simp [h4]
  rw [exec_duskStepEnd, execDuskStepEnd, if_neg (by simp [hp, hc, hbusy, hramp]), if_neg (fun h => by simp [hb h.1] at h), finish_next]

theorem exec_duskStepEnd_blank {s : State} (hp : s.d.pwr.phase = .dusk) (hc : s.d.clocked = true) (h1 : s.d.pwr.step = 1) (hb : s.d.blankOn = true) :
    exec .duskStepEnd s = .next { s with d := (s.d.toStep 2).notify } := by
  rw [exec_duskStepEnd, execDuskStepEnd, if_neg (by simp [hp, hc, h1]), if_pos ⟨h1, hb⟩, finish_next]

theorem Dev.wf_overrideVoas {d : Dev} (h : Tab.wf {} d.fab.cells = true) {cas : List Nat} (hr : cas.Pairwise (· < ·)) :
    Tab.wf {} (d.overrideVoas cas).fab.cells = true := Tab.wf_modMany ({} : Cell) _ hr h

/-- The VOAs at their blank codes, input and output alike. -/
def Dev.darkened (d : Dev) : Dev := (d.overrideVoas outVoas).overrideVoas inVoas

theorem isVoaCa_iff {ca : Nat} : isVoaCa ca = true ↔ ca ∈ inVoas ∨ ca ∈ outVoas := by
  rw [isVoaCa, Bool.or_eq_true, mem_inVoas, mem_outVoas]

theorem Dev.darkTargets_same (d : Dev) : Dev.sameBut [.fab] d d.darkTargets := d.withFab_same _

/-- The target of a cell in the dark. -/
def Cell.darkens (c : Cell) : Cell := if c.dark then c else c.darkTarget

theorem Cell.darkens_twice (c : Cell) : c.darkens.darkens.phiTgt = c.darkens.phiTgt ∧ c.darkens.darkens.f = c.f ∧ c.darkens.f = c.f := by
  unfold Cell.darkens
  cases hd : c.dark <;> simp [hd, Cell.darkTarget, Cell.blankCode]

theorem Dev.cell_darkTargets {d : Dev} (h : Tab.wf {} d.fab.cells = true) (ca : Nat) :
    d.darkTargets.cell ca = if ca ∈ outVoas then (if ca ∈ inVoas then (d.cell ca).darkens else d.cell ca).darkens
      else if ca ∈ inVoas then (d.cell ca).darkens else d.cell ca := by
  have hi := inVoas_rise
  have ho := outVoas_rise
  unfold Dev.darkTargets
  generalize inVoas = ks at *
  generalize outVoas = ls at *
  exact Tab.get_modMany_twice (fun _ => Cell.darkens) ca hi ho h

theorem Dev.darkTargets_loops (d : Dev) : d.darkTargets.fab.loops = d.fab.loops := by
  unfold Dev.darkTargets
  generalize inVoas = ks, outVoas = ls
  rfl

/-- What the override of a VOA leaves of its cell's dark state, its place and its code. -/
theorem Dev.cell_override_once {d : Dev} (h : Tab.wf {} d.fab.cells = true) {cas : List Nat} (hr : cas.Pairwise (· < ·)) (ca : Nat) :
    ((d.overrideVoas cas).cell ca).phiTh = (d.cell ca).phiTh ∧ ((d.overrideVoas cas).cell ca).dark = (d.cell ca).dark ∧
      (ca ∈ cas → ((d.overrideVoas cas).cell ca).f = (d.cell ca).blankCode) ∧ (ca ∉ cas → (d.overrideVoas cas).cell ca = d.cell ca) := by
  rw [Dev.cell_overrideVoas h hr]
  split
  · next hm => exact ⟨rfl, rfl, fun _ => rfl, fun hn => absurd hm hn⟩
  · next hm => exact ⟨rfl, rfl, fun h => absurd h hm, fun _ => rfl⟩

/-- The cells at the second step of Dusk. -/
theorem Dev.cell_darkened {d : Dev} (h : Tab.wf {} d.fab.cells = true) (ca : Nat) :
    (isVoaCa ca = true → (d.darkened.darkTargets.cell ca).f = (d.cell ca).blankCode ∧
      ((d.cell ca).dark = false → (d.darkened.darkTargets.cell ca).phiTgt = (d.cell ca).phiTh + (d.cell ca).blankCode)) ∧
    (isVoaCa ca = false → d.darkened.darkTargets.cell ca = d.cell ca) := by
  have hw1 : Tab.wf {} (d.overrideVoas outVoas).fab.cells = true := Dev.wf_overrideVoas h outVoas_rise
  have hw2 : Tab.wf {} d.darkened.fab.cells = true := Dev.wf_overrideVoas hw1 inVoas_rise
  obtain ⟨hp1, hd1, hin1, hout1⟩ := Dev.cell_override_once h outVoas_rise ca
  obtain ⟨hp2, hd2, hin2, hout2⟩ := Dev.cell_override_once hw1 inVoas_rise ca
  have hbc : ((d.overrideVoas outVoas).cell ca).blankCode = (d.cell ca).blankCode := by rw [Cell.blankCode, hp1]; rfl
  have hdark : (d.darkened.cell ca).dark = (d.cell ca).dark := hd2.trans hd1
  have hphi : (d.darkened.cell ca).phiTh = (d.cell ca).phiTh := hp2.trans hp1
  have htgt : (d.cell ca).dark = false → (d.darkened.cell ca).darkens.phiTgt = (d.cell ca).phiTh + (d.cell ca).blankCode := fun hd => by
    rw [Cell.darkens, if_neg (by simp [hdark, hd])]
    simp only [Cell.darkTarget, Cell.blankCode, hphi]
  obtain ⟨h2t, h2f, h1f⟩ := (d.darkened.cell ca).darkens_twice
  rw [Dev.cell_darkTargets hw2]
  by_cases ho : ca ∈ outVoas <;> by_cases hi : ca ∈ inVoas
  · rw [if_pos ho, if_pos hi]
    have hf : (d.darkened.cell ca).f = (d.cell ca).blankCode := (hin2 hi).trans hbc
    exact ⟨fun _ => ⟨h2f.trans hf, fun hd => h2t.trans (htgt hd)⟩, fun hv => by rw [isVoaCa_iff.mpr (.inl hi)] at hv; cases hv⟩
  · rw [if_pos ho, if_neg hi]
    have hf : (d.darkened.cell ca).f = (d.cell ca).blankCode := (congrArg Cell.f (hout2 hi)).trans (hin1 ho)
    exact ⟨fun _ => ⟨h1f.trans hf, fun hd => htgt hd⟩, fun hv => by rw [isVoaCa_iff.mpr (.inr ho)] at hv; cases hv⟩
  · rw [if_neg ho, if_pos hi]
    have hf : (d.darkened.cell ca).f = (d.cell ca).blankCode := (hin2 hi).trans hbc
    exact ⟨fun _ => ⟨h1f.trans hf, fun hd => htgt hd⟩, fun hv => by rw [isVoaCa_iff.mpr (.inl hi)] at hv; cases hv⟩
  · rw [if_neg ho, if_neg hi]
    exact ⟨fun hv => absurd (isVoaCa_iff.mp hv) (by simp [ho, hi]), fun _ => (hout2 hi).trans (hout1 ho)⟩

/-- A loop whose dither is asked to end. -/
def Loop.undither (l : Loop) : Loop := { l with amplNext := if l.dither then some 0 else none }

/-- Every dither is asked to end. -/
def Dev.undithered (d : Dev) : Dev := { d with fab := { d.fab with loops := d.fab.loops.mapVals {} (fun _ l => l.undither) } }

/-- The loops at the third step of Dusk. -/
theorem Dev.loop_undithered {d : Dev} (h : Tab.wf {} d.fab.loops = true) {ca aa : Nat} (hc : ca ∈ allCells) (ha : aa ∈ heatersOf ca) :
    d.undithered.holdLoops.loop aa = (d.loop aa).undither.toHold := by
  have hw : Tab.wf {} (d.fab.loops.mapVals {} (fun _ l => l.undither)) = true :=
    Tab.wf_mapVals ({} : Loop) _ h
  rw [Dev.loop_holdLoops (d := d.undithered) hw hc ha]
  exact congrArg Loop.toHold (Tab.get_mapVals (f := fun _ l => Loop.undither l) (fun _ => rfl) aa h)

/-- Settles O55: the request, and the steps of Dusk. -/
theorem duskPutsToRest : Obligations.DuskPutsToRest := by
  refine ⟨fun s hr => ⟨fun hp hrun hl => ?_, fun hp => ?_, fun hp => ?_⟩, fun s hp hc hw h8 hrun hl => ?_, fun s hp hc => ⟨fun h0 hq => ?_,
    fun h1 hb => ?_, fun h1 hb hwf => ?_, fun h2 hwf => ?_, fun h4 ht hwf => ?_, fun h5 => ?_⟩⟩
  · have hin := s.d.inbound_same true 0 0x25000 4
    have hpwr := hin .pwr (by decide)
    obtain ⟨h1, h2, h3, h4, h5⟩ := Dev.startDusk_does (d := s.d.inbound true 0 0x25000 4) ((congrArg Cal.run (hin .cal (by decide))).trans hrun)
      (fun l hk => by rw [Dev.lane_of_lanes (congrArg Seq.lanes (hin .seq (by decide)))]; exact hl l hk)
    have hx : exec (.duskReq 0 1) s = .next { s with d := ((s.d.inbound true 0 0x25000 4).startDusk).notify } := by
      rw [exec_duskReq, execDuskReq, pf0Wr_next hr, Dev.duskWrite, if_neg (by decide), hpwr, hp]
    rw [hin.tb2, hpwr] at h1
    simp only [hin.queue, hin.tb2] at h2
    refine ⟨_, hx, ?_, fun q hq hst => ?_, fun q hst => ?_, ?_, ?_, finish_same ((hin.up _).trans h5)⟩
    · rw [Dev.notify_pwr, h1]
    · rw [Dev.notify_queue, h2, if_pos hq, Queue.abortStarts_of_run hst]
    · rw [Dev.notify_queue, h2, Queue.abortStarts_dusk_idle hst, ite_self]
    · rw [Dev.notify_seq, h3]
    · rw [Dev.notify_seq, h4]
      exact congrArg Seq.lanes (hin .seq (by decide))
  · have hin := s.d.inbound_same true 0 0x25000 4
    have hpwr := hin .pwr (by decide)
    have hx : exec (.duskReq 0 1) s = .next { s with d := ({ s.d.inbound true 0 0x25000 4 with
        pwr := { (s.d.inbound true 0 0x25000 4).pwr with duskWait := true } } : Dev).notify } := by
      rw [exec_duskReq, execDuskReq, pf0Wr_next hr, Dev.duskWrite, if_neg (by decide), hpwr, hp]
    refine ⟨_, hx, ?_, finish_same ((hin.up _).trans (Dev.withPwr_same _ _))⟩
    rw [Dev.notify_pwr]
    exact congrArg (fun p : Pwr => { p with duskWait := true }) hpwr
  · have hin := s.d.inbound_same true 0 0x25000 4
    have hpwr := hin .pwr (by decide)
    have hx : exec (.duskReq 0 1) s = .next { s with d := (s.d.inbound true 0 0x25000 4).notify } := by
      rw [exec_duskReq, execDuskReq, pf0Wr_next hr, Dev.duskWrite, if_neg (by decide), hpwr]
      simp only [List.mem_cons, List.not_mem_nil, or_false] at hp
      rcases hp with h | h | h <;> rw [h]
    exact ⟨_, hx, finish_same hin⟩
  · obtain ⟨h1, -, -, -, h5⟩ := Dev.startDusk_does hrun hl
    have hx : exec (.dawnStepEnd false) s = .next { s with d := s.d.startDusk.notify } := by
      rw [exec_dawnStepEnd, execDawnStepEnd]
      rw [if_neg (by simp [hp, hc, hw, h8, Dev.dawnMet]), if_pos hw, finish_next]
    refine ⟨_, hx, ?_, ?_, ?_, finish_same h5⟩ <;> rw [Dev.notify_pwr, h1]
  · have hx := exec_duskStepEnd_next hp hc (fun _ q hk => by simp [Queue.aborting, hq q hk]) (by omega) (by omega)
    rw [show s.d.duskStep = s.d.toStep 1 by simp only [Dev.duskStep, h0]] at hx
    refine ⟨_, hx, ?_, ?_, finish_same (s.d.toStep_same 1)⟩
    · rw [Dev.notify_pwr]; rfl
    · rw [Dev.notify_permit]
      simp [Dev.permitOk, Dev.toStep, hp]
  · refine ⟨_, exec_duskStepEnd_blank hp hc h1 hb, ?_, finish_same (s.d.toStep_same 2)⟩
    rw [Dev.notify_pwr]; rfl
  · have hx := exec_duskStepEnd_next hp hc (by omega) (by omega) (fun _ => hb)
    rw [show s.d.duskStep = s.d.darkened.darkTargets.toStep 2 by rw [Dev.duskStep, h1]; rfl] at hx
    have hsame : Dev.sameBut [.fab, .mon] s.d s.d.darkened := (s.d.overrideVoas_same outVoas).trans (Dev.overrideVoas_same _ inVoas)
    have hsame2 : Dev.sameBut [.fab, .mon] s.d s.d.darkened.darkTargets := hsame.trans ((Dev.darkTargets_same _).mono (by decide))
    refine ⟨_, hx, ?_, fun ca hv => ?_, fun ca hv => ?_, ?_, finish_same ((hsame2.mono (by decide)).trans ((Dev.toStep_same _ 2).mono (by decide)))⟩
    · rw [Dev.notify_pwr, Dev.toStep, hsame2.tb2, show s.d.darkened.darkTargets.pwr = s.d.pwr from hsame2 .pwr (by decide)]
    · rw [Dev.notify_cell]
      exact (Dev.cell_darkened hwf ca).1 hv
    · rw [Dev.notify_cell]
      exact (Dev.cell_darkened hwf ca).2 hv
    · rw [Dev.notify_fab]
      change s.d.darkened.darkTargets.fab.loops = s.d.fab.loops
      rw [Dev.darkTargets_loops, Dev.darkened, Dev.overrideVoas_loops, Dev.overrideVoas_loops]
  · have hx := exec_duskStepEnd_next hp hc (by omega) (by omega) (by omega)
    rw [show s.d.duskStep = s.d.undithered.holdLoops.toStep 3 by rw [Dev.duskStep, h2]; rfl] at hx
    refine ⟨_, hx, ?_, fun ca hca aa haa => ?_, ?_, finish_same (((s.d.withFab_same _).mono (qs := [.pwr, .fab]) (by decide)).trans
      (((Dev.holdLoops_same _).mono (by decide)).trans ((Dev.toStep_same _ 3).mono (by decide))))⟩
    · rw [Dev.notify_pwr]; rfl
    · rw [Dev.notify_loop, show (s.d.undithered.holdLoops.toStep 3).loop aa = _ from Dev.loop_undithered hwf hca haa]
      exact ⟨rfl, rfl, fun hd => by simp [Loop.toHold, Loop.undither, hd]⟩
    · rw [Dev.notify_fab]; rfl
  · have hx := exec_duskStepEnd_next hp hc (by omega) (fun _ => ht) (by omega)
    rw [show s.d.duskStep = s.d.driversOff.toStep 5 by simp only [Dev.duskStep, h4]] at hx
    refine ⟨_, hx, ?_, ?_, fun aa => ?_, ?_, finish_same ((s.d.driversOff_same.mono (by decide)).trans ((Dev.toStep_same _ 5).mono (by decide)))⟩
    · rw [Dev.notify_pwr]; rfl
    · rw [Dev.notify_drv]; rfl
    · rw [Dev.notify_loop]
      exact Dev.loop_driversOff hwf aa
    · rw [Dev.notify_fab]; rfl
  · have hx := exec_duskStepEnd_next hp hc (by omega) (by omega) (by omega)
    rw [show s.d.duskStep = { s.d with pwr := { s.d.pwr with phase := .parked, duskUs := min 65535 ((s.d.tb2 - s.d.pwr.duskAt) / 1000) } } by
      simp only [Dev.duskStep, h5]] at hx
    refine ⟨_, hx, ?_, finish_same (s.d.withPwr_same _)⟩
    rw [Dev.notify_pwr]

end Sys2Proof.Machine

/-! ## The message counter and its chained partners (O58) -/
namespace Sys2Proof.Machine
set_option Elab.async false

/-! ### Counters 3017 to 3019 as one number -/

/-- Counter 3017 chained to 3018, which is chained to 3019, with their values. -/
structure Pmc.chain3 (p : Pmc) (a b c : Nat) : Prop where
  en : p.en = true
  free : (p.ctr.get {} 3016).chain = false
  low : p.ctr.get {} 3017 = { value := a, chain := true }
  mid : p.ctr.get {} 3018 = { value := b, chain := true }
  high : p.ctr.get {} 3019 = { value := c }

/-- A count at 3017 goes to the counter's own table. -/
theorem Pmc.chain3.add {p : Pmc} {a b c : Nat} (h : p.chain3 a b c) : p.add 3017 1 = { p with ctr := ctrAdd 64 p.ctr 3017 1 } :=
  if_neg (by simp [h.en, Pmc.isPartner, h.free, ctrReserved])

theorem Pmc.chain3.count_low {p : Pmc} {a b c : Nat} (h : p.chain3 a b c) (ha : a + 1 < 2 ^ 32) : (p.add 3017 1).chain3 (a + 1) b c := by
  have hc : ctrAdd 64 p.ctr 3017 1 = p.ctr.set {} 3017 { value := a + 1, chain := true } := by
    rw [ctrAdd]
    simp only [h.low, Bool.not_true, Bool.false_eq_true, if_false]
    exact if_pos ha
  rw [h.add, hc]
  exact ⟨h.en, by simp [Tab.get_set, h.free], by simp, by simp [Tab.get_set, h.mid], by simp [Tab.get_set, h.high]⟩

/-- A count that overflows 3017 goes on to 3018. -/
theorem Pmc.chain3.carry {p : Pmc} {b c : Nat} (h : p.chain3 (2 ^ 32 - 1) b c) :
    ctrAdd 64 p.ctr 3017 1 = ctrAdd 63 (p.ctr.set {} 3017 { value := 0, chain := true }) 3018 1 := by
  rw [ctrAdd]
  simp only [h.low, Bool.not_true, Bool.false_eq_true, if_false]
  exact if_neg (by decide)

theorem Pmc.chain3.count_mid {p : Pmc} {b c : Nat} (h : p.chain3 (2 ^ 32 - 1) b c) (hb : b + 1 < 2 ^ 32) : (p.add 3017 1).chain3 0 (b + 1) c := by
  have hm : (p.ctr.set {} 3017 { value := 0, chain := true }).get {} 3018 = { value := b, chain := true } := by simp [Tab.get_set, h.mid]
  have hc : ctrAdd 64 p.ctr 3017 1 =
      (p.ctr.set {} 3017 { value := 0, chain := true }).set {} 3018 { value := b + 1, chain := true } := by
    rw [h.carry, ctrAdd]
    simp only [hm, Bool.not_true, Bool.false_eq_true, if_false]
    exact if_pos hb
  rw [h.add, hc]
  exact ⟨h.en, by simp [Tab.get_set, h.free], by simp [Tab.get_set], by simp, by simp [Tab.get_set, h.high]⟩

theorem Pmc.chain3.count_high {p : Pmc} (h : p.chain3 (2 ^ 32 - 1) (2 ^ 32 - 1) 0) : (p.add 3017 1).chain3 0 0 1 := by
  have hm : (p.ctr.set {} 3017 { value := 0, chain := true }).get {} 3018 = { value := 2 ^ 32 - 1, chain := true } := by simp [Tab.get_set, h.mid]
  have hh : ((p.ctr.set {} 3017 { value := 0, chain := true }).set {} 3018 { value := 0, chain := true }).get {} 3019 = {} := by
    simp [Tab.get_set, h.high]
  have hc : ctrAdd 64 p.ctr 3017 1 =
      ((p.ctr.set {} 3017 { value := 0, chain := true }).set {} 3018 { value := 0, chain := true }).set {} 3019 { value := 1 } := by
    rw [h.carry, ctrAdd]
    simp only [hm, Bool.not_true, Bool.false_eq_true, if_false]
    refine (if_neg (by decide)).trans ?_
    simp only [if_true]
    change ctrAdd 62 ((p.ctr.set {} 3017 { value := 0, chain := true }).set {} 3018 { value := 0, chain := true }) 3019 1 = _
    rw [ctrAdd]
    simp only [hh, Bool.not_true, Bool.false_eq_true, if_false]
    rfl
  rw [h.add, hc]
  exact ⟨h.en, by simp [Tab.get_set, h.free], by simp [Tab.get_set], by simp [Tab.get_set], by simp⟩

/-- Fewer than 2^64 counts stand in 3017 and 3018. -/
theorem Pmc.chain3.counts {p : Pmc} (h : p.chain3 0 0 0) : ∀ m : Nat, m < 2 ^ 64 →
    ((fun p : Pmc => p.add 3017 1)^[m] p).chain3 (m % 2 ^ 32) (m / 2 ^ 32) 0 := by
  intro m
  induction m with
  | zero => intro _; exact h
  | succ m ih =>
    intro hm
    have hp := ih (by omega)
    rw [Function.iterate_succ_apply']
    by_cases ha : m % 2 ^ 32 + 1 < 2 ^ 32
    · rw [show (m + 1) % 2 ^ 32 = m % 2 ^ 32 + 1 by omega, show (m + 1) / 2 ^ 32 = m / 2 ^ 32 by omega]
      exact hp.count_low ha
    · rw [show m % 2 ^ 32 = 2 ^ 32 - 1 by omega] at hp
      rw [show (m + 1) % 2 ^ 32 = 0 by omega, show (m + 1) / 2 ^ 32 = m / 2 ^ 32 + 1 by omega]
      exact hp.count_mid (by omega)

/-- The count 2^64 goes on to 3019. -/
theorem Pmc.chain3.counts_all {p : Pmc} (h : p.chain3 0 0 0) {m : Nat} (hm : m = 2 ^ 64) :
    ((fun p : Pmc => p.add 3017 1)^[m] p).chain3 0 0 1 := by
  obtain ⟨k, rfl⟩ : ∃ k, m = k + 1 := ⟨m - 1, by omega⟩
  have hp := h.counts k (by omega)
  rw [show k % 2 ^ 32 = 2 ^ 32 - 1 by omega, show k / 2 ^ 32 = 2 ^ 32 - 1 by omega] at hp
  rw [Function.iterate_succ_apply']
  exact hp.count_high

/-! ### Messages of many functions -/

/-- A function that sends its message: its vector is not masked, and its event ring has a cause. -/
def callingFn : Fn := { msixMask := false, evt := { cause := true } }

theorem Dev.atnSum_calling {d : Dev} {f : Nat} (hv : d.io.views = []) (hf : d.fn f = callingFn) : d.atnSum f ≠ 0 := by
  have hview : d.view f = {} := by rw [Dev.view, hv]; rfl
  have hleaf : 1 ≤ d.leaf f 0x110 &&& d.leafEn f 0x110 := by
    unfold Dev.leaf Dev.leafEn
    rw [show leafAt 0x110 = some (0x110, 1, none, 0xF, 5) from rfl]
    simp only [hview, hf]
    cases hz : (f == 0) <;> cases hc : d.io.tel.ring.cause <;> simp_all [callingFn, pack, b2n, Tab.get]
  have hgroup : 1 ≤ d.group f 1 :=
    hleaf.trans (List.le_sum_of_mem (List.mem_map.mpr ⟨(0x110, 1, none, 0xF, 5), by decide, rfl⟩))
  have hbit : (bitOf (d.view f).en 1 && decide (d.group f 1 ≠ 0)) = true := by
    rw [hview]
    simpa [bitOf] using Nat.one_le_iff_ne_zero.mp hgroup
  have hsum : 2 ^ 1 ≤ d.atnSum f := List.le_sum_of_mem (List.mem_map.mpr ⟨1, by simp, if_pos hbit⟩)
  omega

theorem Dev.pmc_pinTo (d : Dev) (n : String) (o w : Bool) : (d.pinTo n o w).pmc = d.pmc := by
  unfold Dev.pinTo
  split <;> rfl

/-- Messages of functions that may send them are counted one by one. -/
theorem Dev.pmc_messages : ∀ (fs : List Nat) {d : Dev}, (∀ f ∈ fs, d.fn f = callingFn) →
    (fs.foldl Dev.message d).pmc = (fun p : Pmc => p.add 3017 1)^[fs.length] d.pmc := by
  intro fs
  induction fs with
  | nil => intro d _; rfl
  | cons f fs ih =>
    intro d h
    have hf := h f List.mem_cons_self
    rw [List.foldl_cons, Dev.message_sends (by rw [hf]; rfl) (by rw [hf]; rfl) (by rw [hf]; rfl),
      ih (d := (d.send (.msix f)).count 3017) (fun g hg => h g (List.mem_cons_of_mem _ hg))]
    rfl

/-- With every function calling for the first time, a notification counts them all. -/
theorem Dev.pmc_notify_calling {d : Dev} (ha : d.io.atnOn = []) (hv : d.io.views = []) (hf : ∀ f, f < d.io.numVfs + 1 → d.fn f = callingFn) :
    d.notify.pmc = (fun p : Pmc => p.add 3017 1)^[d.io.numVfs + 1] d.pmc := by
  have hon : d.fnList.filter (fun f => decide (d.atnSum f ≠ 0)) = d.fnList :=
    List.filter_eq_self.mpr fun f hm => decide_eq_true (Dev.atnSum_calling hv (hf f (List.mem_range.mp hm)))
  have hnew : d.fnList.filter (fun f => !d.io.atnOn.contains f) = d.fnList := List.filter_eq_self.mpr fun f _ => by simp [ha]
  have hfold : (((d.fnList.filter (fun f => decide (d.atnSum f ≠ 0))).filter (fun f => !d.io.atnOn.contains f)).foldl Dev.message d) =
      d.fnList.foldl Dev.message d := by rw [hon, hnew]
  unfold Dev.notify
  extract_lets on d1 attn err permit d2 d3 d4
  have h4 : d4.pmc = d1.pmc := (d3.pmc_pinTo _ _ _).trans ((d2.pmc_pinTo _ _ _).trans (d1.pmc_pinTo _ _ _))
  refine h4.trans ((congrArg Dev.pmc hfold).trans ((Dev.pmc_messages d.fnList fun f hm => hf f (List.mem_range.mp hm)).trans ?_))
  rw [show d.fnList.length = d.io.numVfs + 1 from List.length_range]

/-! ### The counterexample -/

theorem Tab.get_const {α : Type} (d v : α) : ∀ (ks : List Nat) (j : Nat), Tab.get d (ks.map (fun k => (k, v))) j = if j ∈ ks then v else d := by
  intro ks j
  induction ks with
  | nil => rfl
  | cons k ks ih =>
    rw [List.map_cons, Tab.get, ih]
    by_cases hk : k = j
    · simp [hk]
    · simp [hk, Ne.symm hk]

/-- A device with n VFs, whose every function waits for its message, and with counters 3017 and 3018 chained. -/
def crowd (n : Nat) : State :=
  { Tests.ready with
    d := { Tests.ready.d with
      io := { Tests.ready.d.io with numVfs := n, fns := (List.range (n + 1)).map (fun f => (f, callingFn)) }
      pmc := { ctr := [(3017, { chain := true }), (3018, { chain := true })] } } }

theorem fn_crowd {n f : Nat} (h : f < n + 1) : (crowd n).d.fn f = callingFn := (Tab.get_const _ _ _ _).trans (if_pos (List.mem_range.mpr h))

theorem crowd_reach (n : Nat) : (crowd n).d.reach 0 = true := by
  have hf := fn_crowd (n := n) (f := 0) (by omega)
  unfold Dev.reach
  rw [hf]
  simp only [Nat.zero_le, decide_true]
  rfl

/-- The device as the write of CLEAR_ALL leaves it, before the messages. -/
def crowdCleared (n : Nat) : Dev := ((crowd n).d.inbound true 0 0x20000 4).pmcCtlWrite 5

theorem crowdCleared_chain (n : Nat) : (crowdCleared n).pmc.chain3 0 0 0 := ⟨rfl, rfl, rfl, rfl, rfl⟩

theorem crowdCleared_pmc {n : Nat} (hn : n + 1 = 2 ^ 64) : ((crowdCleared n).notify.pmc.ctr.get {} 3019).value = 1 := by
  rw [Dev.pmc_notify_calling (d := crowdCleared n) rfl rfl (fun f hf => fn_crowd (n := n) hf)]
  exact congrArg Ctr.value ((crowdCleared_chain n).counts_all hn).high

/-- Refutes O58: with 2^64 functions that send a message at a CLEAR_ALL, the count of messages carries through both counters that the statement
sets apart. It does not ask that the functions are at most 16. -/
theorem not_countersAreSnappedSetAndCleared : ¬ Obligations.CountersAreSnappedSetAndCleared := by
  unfold Obligations.CountersAreSnappedSetAndCleared
  rintro ⟨hctl, -⟩
  obtain ⟨n, hn⟩ : ∃ n, n + 1 = 2 ^ 64 := ⟨2 ^ 64 - 1, by norm_num⟩
  obtain ⟨-, -, hclear⟩ := hctl (crowd n) 5 (crowd_reach n) (by rfl)
  obtain ⟨t, hx, -, -, hctr, -⟩ := hclear (by decide) (by decide)
  have he : exec (.clearAll 0 5) (crowd n) = .next { crowd n with d := (crowdCleared n).notify } := by
    rw [exec_clearAll, execClearAll, pf0Wr_next (crowd_reach n)]
    rfl
  rw [he] at hx
  obtain rfl := Host.Outcome.next.inj hx
  have h1 := crowdCleared_pmc hn
  rw [hctr 3019 (by decide) (by decide)] at h1
  exact absurd h1 Nat.zero_ne_one

end Sys2Proof.Machine

/-! ## Registers (O59) -/
namespace Sys2Proof.Machine
set_option Elab.async false

/-! ### Reads by the host -/

theorem Dev.modCap_same (d : Dev) (f : Nat) (g : Capture → Capture) : Dev.sameBut [.cap] d (d.modCap f g) := by
  intro p hp; cases p <;> simp_all [Part.same, Io.sameLink, Dev.fn, Dev.modCap]

/-- The answer of a read is among what is sent, after what was sent before. -/
theorem Dev.send_notified (d : Dev) (o : Out) : ∃ later, ((d.send o).notify).io.out = later ++ o :: d.io.out := (d.send o).notify_sentOn

/-- A read that a reachable function makes. -/
theorem hostRd_next {s : State} {f bar addr len : Nat} {g : Dev → Nat × Dev} (h : s.d.reach f = true) :
    hostRd s f bar addr len g = .next { s with d :=
      ((g (s.d.inbound false bar addr len)).2.send (.readData f (g (s.d.inbound false bar addr len)).1)).notify } := by
  unfold hostRd
  rw [if_pos h]
  rfl

/-- A read of one word of BAR0. -/
theorem bar0Read_word {off : Nat} (n : Net) (d : Dev) (f : Nat) (h : off % 4 = 0) :
    bar0Read n d f off 4 = ((regRead n d f off).1 % 2 ^ 32, (regRead n d f off).2) := by
  unfold bar0Read
  dsimp only
  rw [show (off + 4 + 3) / 4 - off / 4 = 1 by omega, List.range_one]
  simp only [List.foldl_cons, List.foldl_nil, show 4 * (off / 4 + 0) = off by omega, h]
  simp

/-- The inbound request of a read of one word. -/
def Dev.asked (d : Dev) (bar off : Nat) : Dev := d.inbound false bar off 4

theorem Dev.asked_same (d : Dev) (bar off : Nat) : Dev.sameBut [] d (d.asked bar off) := d.inbound_same _ _ _ _

/-- What a read of a word of BAR0 answers, from what the register file gives for it. -/
theorem hostRead_word {s : State} {f off v : Nat} {e : Dev} (hr : s.d.reach f = true) (h4 : off % 4 = 0) (hoff : off < 0x40000)
    (hx : regRead s.net (s.d.asked 0 off) f off = (v, e)) :
    hostRead f 0 off 4 s = .next { s with d := (e.send (.readData f (v % 2 ^ 32))).notify } := by
  unfold hostRead
  rw [if_neg (by decide), hostRd_next hr]
  simp only [if_pos trivial, if_pos (show off + 4 ≤ 0x100000 by omega)]
  rw [bar0Read_word _ _ _ h4]
  rw [show s.d.inbound false 0 off 4 = s.d.asked 0 off from rfl, hx]

/-- The state after a read: the answer is sent, and but for what the read itself does nothing changes. -/
theorem read_does {s : State} {f v : Nat} {e : Dev} {ps : List Part} (hout : e.io.out = s.d.io.out) (hs : Dev.sameBut ps s.d e) :
    (∃ later, ((e.send (.readData f v)).notify).io.out = later ++ Out.readData f v :: s.d.io.out) ∧
      State.sameBut ps s { s with d := (e.send (.readData f v)).notify } := by
  refine ⟨?_, finish_same (hs.trans ((e.send_same _).mono (by simp)))⟩
  rw [← hout]
  exact e.send_notified _

theorem regVisible_pf0 (d : Dev) (off : Nat) : regVisible d 0 off = true := rfl

/-- The read of a register that captures nothing, with no word captured. -/
theorem regRead_plain {n : Net} {d : Dev} {off v : Nat} (ho : off < 0x80000) (hv : regValue n d 0 off = some v) (hc : capturedBy off = [])
    (hn : (d.cap 0).words.get none off = none) : regRead n d 0 off = (v, d.readClears off) := by
  unfold regRead
  rw [if_neg (by omega), if_neg (by simp [regVisible_pf0]), hv]
  simp only [hc, hn]
  rfl

/-- The read of a captured word uses it up. -/
theorem regRead_captured {n : Net} {d : Dev} {off v w : Nat} (ho : off < 0x80000) (hv : regValue n d 0 off = some v) (hc : capturedBy off = [])
    (hn : (d.cap 0).words.get none off = some w) :
    regRead n d 0 off = (w, (d.modCap 0 (fun c => { c with words := c.words.set none off none })).readClears off) := by
  unfold regRead
  rw [if_neg (by omega), if_neg (by simp [regVisible_pf0]), hv]
  simp only [hc, hn]
  rfl

/-- The read of a low word captures its high words. -/
theorem regRead_captures {n : Net} {d : Dev} {off v : Nat} (ho : off < 0x80000) (hv : regValue n d 0 off = some v) (hc : capturedBy off ≠ []) :
    regRead n d 0 off = (v, d.modCap 0 (fun c => { c with words := (capturedBy off).foldl (fun t x => t.set none x (some ((regValue n d 0 x).getD 0))) c.words })) := by
  unfold regRead
  rw [if_neg (by omega), if_neg (by simp [regVisible_pf0]), hv]
  dsimp only
  rw [if_neg (by simpa using hc)]

/-- A read of a table of BAR2. -/
theorem hostRead_mrt {s : State} {f off v : Nat} {e : Dev} (hr : s.d.reach f = true) (hlo : 0x900000 ≤ off) (hoff : off < 0x980000)
    (hx : bar2Read s.net (s.d.asked 2 off) s.mem f off 4 = (v, e)) :
    hostRead f 2 off 4 s = .next { s with d := (e.send (.readData f v)).notify } := by
  unfold hostRead
  rw [if_neg (by decide), hostRd_next hr]
  simp only [if_neg (show ¬ 2 = 0 by decide), if_pos trivial, if_pos (show off + 4 ≤ 0x4000000 by omega)]
  rw [show s.d.inbound false 2 off 4 = s.d.asked 2 off from rfl, hx]

/-- The value word of a result captures its time. -/
theorem bar2Read_value {n : Net} {d : Dev} {m : Mem} {f mpa : Nat} (hm : mpa < 65536) (hv : d.mrtVisible f mpa = true) :
    bar2Read n d m f (0x900000 + 8 * mpa) 4 = ((d.mrt mpa).word, d.modCap f (fun c => { c with mrt := some (mpa, (d.mrt mpa).time) })) := by
  unfold bar2Read
  dsimp only
  rw [show (0x900000 + 8 * mpa - 0x900000) / 8 = mpa by omega, if_pos ⟨rfl, by omega, by omega, by omega, hv⟩, if_pos (by omega)]

/-- The time word of a result gives the captured time, and uses it up. -/
theorem bar2Read_time {n : Net} {d : Dev} {m : Mem} {f mpa w : Nat} (hm : mpa < 65536) (hv : d.mrtVisible f mpa = true)
    (hc : (d.cap f).mrt = some (mpa, w)) : bar2Read n d m f (0x900004 + 8 * mpa) 4 = (w, d.modCap f (fun c => { c with mrt := none })) := by
  unfold bar2Read
  dsimp only
  rw [show (0x900004 + 8 * mpa - 0x900000) / 8 = mpa by omega, if_pos ⟨rfl, by omega, by omega, by omega, hv⟩, if_neg (by omega), hc]
  exact if_pos rfl

theorem Dev.cap_sent (d : Dev) (f : Nat) (g : Capture → Capture) (o : Out) : (((d.modCap f g).send o).notify).cap f = g (d.cap f) := by
  rw [Dev.notify_cap]
  exact Dev.cap_modCap_self d f g

/-! ### A VF sees 0 in PF0's blocks -/

/-- The addresses of PF0's blocks. -/
theorem regVisible_pf0_block {d : Dev} {f off : Nat} (hf : f ≠ 0) (h16 : f < 16) (h1 : 0x4000 ≤ off) (h2 : off < 0x1E000) : regVisible d f off = false := by
  unfold regVisible
  have h : ¬ off < 0x44 := by omega
  have h' : ¬ off < 0x2124 + 0x40 * f := by omega
  have h'' : ¬ 0x1E000 ≤ off := by omega
  simp [hf, h, h', h'']

theorem regRead_hidden {n : Net} {d : Dev} {f off : Nat} (ho : off < 0x80000) (h : regVisible d f off = false) : regRead n d f off = (0, d) := by
  unfold regRead
  rw [if_neg (by omega), if_pos (by simp [h])]

/-! ### Writes by the host -/

/-- A write of one word to BAR0. -/
theorem bar0Write_word {off : Nat} (f : Nat) (w : Word) (s : State) (h : off % 4 = 0) : bar0Write f off (bytesLE w.toNat 4) s = wordWrite f off w.toNat 4 s := by
  have hl : (bytesLE w.toNat 4).length = 4 := rfl
  have hw : leField (bytesLE w.toNat 4) 0 4 = w.toNat := by
    have hle := leField_bytesLE [] [] w.toNat 4 0 rfl
    rw [List.append_nil, List.nil_append] at hle
    rw [hle]
    exact Nat.mod_eq_of_lt w.isLt
  unfold bar0Write
  dsimp only
  rw [hl, show (off + 4 + 3) / 4 - off / 4 = 1 by omega, List.range_one]
  simp only [List.foldl_cons, List.foldl_nil, show 4 * (off / 4 + 0) = off by omega, Nat.max_self, Nat.min_self, Nat.sub_self, Nat.add_sub_cancel_left]
  rw [hw]
  simp

/-- The effect of a register write of a reachable function. -/
theorem exec_registerWrite_next {s : State} {f off : Nat} {bs : List Byte} (h : s.d.reach f = true) : exec (.registerWrite f 0 off bs) s =
      .next { bar0Write f off bs { s with d := s.d.inbound true 0 off bs.length } with
        d := (bar0Write f off bs { s with d := s.d.inbound true 0 off bs.length }).d.notify } := by
  rw [exec_registerWrite, execRegisterWrite, if_neg (by simp [h]), if_neg (by decide)]
  dsimp only
  rw [if_pos rfl]

theorem wordWrite_hidden {f off v nbytes : Nat} {s : State} (ho : off < 0x80000) (h : regVisible s.d f off = false) : wordWrite f off v nbytes s = s := by
  unfold wordWrite
  rw [if_neg (by omega), if_pos (by simp [h])]

/-- A write where no register lies. -/
theorem wordWrite_nowhere {off v nbytes : Nat} {s : State} (ho : off < 0x80000) (h : regValue s.net s.d 0 off = none) :
    wordWrite 0 off v nbytes s = { s with d := s.d.decodeError off } := by
  unfold wordWrite
  rw [if_neg (by omega), if_neg (by simp [regVisible_pf0]), if_pos (by simp [h]), if_pos rfl]

/-- A write of a part of a register. -/
theorem wordWrite_part {off v nbytes x : Nat} {s : State} (ho : off < 0x80000) (h : regValue s.net s.d 0 off = some x) (hn : nbytes ≠ 4) :
    wordWrite 0 off v nbytes s = { s with d := s.d.decodeError off } := by
  unfold wordWrite
  rw [if_neg (by omega), if_neg (by simp [regVisible_pf0]), if_neg (by simp [h]), if_pos hn]

/-- A decode error: its registers and its source. -/
theorem Dev.decodeError_does (d : Dev) (off : Nat) :
    (d.decodeError off).bmx = { d.bmx with decode := true, decMaster := 9, decTarget := 2, addr := off } ∧
      (d.decodeError off).src 72 = (d.src 72).marked 72 0 d.tb2 false true ∧ Dev.sameBut [.bmx, .src, .flt, .fns, .views] d (d.decodeError off) := by
  have hsig := Dev.once_signals ({ d with bmx := { d.bmx with decode := true, decMaster := 9, decTarget := 2, addr := off } } : Dev) 72 0
  exact ⟨hsig.same .bmx (by decide), Dev.src_once (n := 72) (by decide) (by decide) _ 0,
    ((d.withBmx_same _).mono (by decide)).trans (hsig.same.mono (by decide))⟩

/-- The write of the scratch register. -/
theorem wordWrite_scratch (f v : Nat) (s : State) : wordWrite f 0x40 v 4 s = { s with d := s.d.modFn f (fun x => { x with scratch := v }) } := by
  have hvis : regVisible s.d f 0x40 = true := by simp [regVisible]
  unfold wordWrite
  rw [if_neg (by decide), if_neg (by simp [hvis])]
  rfl

theorem Dev.scratch_notify (d : Dev) (f : Nat) : (d.notify.fn f).scratch = (d.fn f).scratch := by
  have h := congrArg Fn.scratch (d.notify_fn_all f)
  exact h

/-- The read of a value word of the result table. -/
theorem exec_mrtValueRead_does {s : State} {f mpa : Nat} (hr : s.d.reach f = true) (hm : mpa < 65536) (hv : s.d.mrtVisible f mpa = true) :
    ∃ t later, exec (.mrtValueRead f mpa) s = .next t ∧ t.d.io.out = later ++ Out.readData f (s.d.mrt mpa).word :: s.d.io.out ∧
      (t.d.cap f).mrt = some (mpa, (s.d.mrt mpa).time) ∧ State.sameBut [.cap] s t := by
  have hx : exec (.mrtValueRead f mpa) s = .next { s with d := (((s.d.asked 2 (0x900000 + 8 * mpa)).modCap f
      (fun c => { c with mrt := some (mpa, (s.d.mrt mpa).time) })).send (.readData f (s.d.mrt mpa).word)).notify } := by
    rw [exec_mrtValueRead, execMrtValueRead]
    exact hostRead_mrt hr (by omega) (by omega) (bar2Read_value hm hv)
  obtain ⟨⟨later, hout⟩, hs⟩ := read_does (s := s) (f := f) (v := (s.d.mrt mpa).word)
    (e := (s.d.asked 2 (0x900000 + 8 * mpa)).modCap f (fun c => { c with mrt := some (mpa, (s.d.mrt mpa).time) })) rfl
    ((s.d.asked_same _ _).up [.cap] |>.trans (Dev.modCap_same _ _ _))
  refine ⟨_, later, hx, hout, ?_, hs⟩
  exact congrArg Capture.mrt (Dev.cap_sent _ f _ _)

/-- The read of a time word that is captured. -/
theorem exec_mrtTimeRead_does {s : State} {f mpa w : Nat} (hr : s.d.reach f = true) (hm : mpa < 65536) (hv : s.d.mrtVisible f mpa = true)
    (hc : (s.d.cap f).mrt = some (mpa, w)) :
    ∃ t later, exec (.captureRead f 2 (0x900004 + 8 * mpa) 4) s = .next t ∧ t.d.io.out = later ++ Out.readData f w :: s.d.io.out ∧
      (t.d.cap f).mrt = none ∧ State.sameBut [.cap] s t := by
  have hx : exec (.captureRead f 2 (0x900004 + 8 * mpa) 4) s = .next { s with d := (((s.d.asked 2 (0x900004 + 8 * mpa)).modCap f
      (fun c => { c with mrt := none })).send (.readData f w)).notify } := by
    rw [exec_captureRead, execCaptureRead]
    exact hostRead_mrt hr (by omega) (by omega) (bar2Read_time hm hv hc)
  obtain ⟨⟨later, hout⟩, hs⟩ := read_does (s := s) (f := f) (v := w)
    (e := (s.d.asked 2 (0x900004 + 8 * mpa)).modCap f (fun c => { c with mrt := none })) rfl
    ((s.d.asked_same _ _).up [.cap] |>.trans (Dev.modCap_same _ _ _))
  refine ⟨_, later, hx, hout, ?_, hs⟩
  exact congrArg Capture.mrt (Dev.cap_sent _ f _ _)

/-- Settles O59: captured reads, tables, PF0's blocks, and writes. -/
theorem registersAreReadAndWritten : Obligations.RegistersAreReadAndWritten := by
  refine ⟨fun s hr => ⟨?_, fun w hw hc => ?_, fun hc hpin hpeak => ?_⟩, fun s f mpa hr hm hv hw => ?_, fun s f mpa w hr hm hv hc => ?_,
    fun s f off w hr hf h16 h1 h2 h4 => ⟨?_, ?_⟩, fun s f w hr => ?_, fun s v hr => ?_, fun s bs off hr hb => ?_⟩
  · have htim : (s.d.asked 0 0x1A010).tim = s.d.tim := s.d.asked_same _ _ .tim (by decide)
    have hv : regValue s.net (s.d.asked 0 0x1A010) 0 0x1A010 = some (half s.d.tb0 0) := by rw [Dev.tb0, ← htim]; rfl
    have hx := hostRead_word hr (by decide) (by decide) (regRead_captures (by decide) hv (by decide))
    obtain ⟨⟨later, hout⟩, hs⟩ := read_does (s := s) (f := 0) (v := half s.d.tb0 0 % 2 ^ 32)
      (e := (s.d.asked 0 0x1A010).modCap 0 (fun c => { c with words := (capturedBy 0x1A010).foldl (fun t x => t.set none x
        (some ((regValue s.net (s.d.asked 0 0x1A010) 0 x).getD 0))) c.words })) rfl
      ((s.d.asked_same 0 0x1A010).up [.cap] |>.trans (Dev.modCap_same _ _ _))
    refine ⟨_, later, hx, ?_, ?_, hs⟩
    · rw [hout]
      simp [half]
    · rw [Dev.notify_cap]
      have hh : regValue s.net (s.d.asked 0 0x1A010) 0 0x1A014 = some (half s.d.tb0 1) := by rw [Dev.tb0, ← htim]; rfl
      rw [show ((((s.d.asked 0 0x1A010).modCap 0 _).send _).cap 0) = _ from Dev.cap_modCap_self _ 0 _]
      rw [show capturedBy 0x1A010 = [0x1A014, 0x1A018] from rfl]
      simp [Tab.get_set, hh, half]
  · have hv : regValue s.net (s.d.asked 0 0x1A014) 0 0x1A014 = some (half (s.d.asked 0 0x1A014).tb0 1) := rfl
    have hx := hostRead_word hr (by decide) (by decide) (regRead_captured (by decide) hv (by decide) hc)
    obtain ⟨⟨later, hout⟩, hs⟩ := read_does (s := s) (f := 0) (v := w % 2 ^ 32)
      (e := ((s.d.asked 0 0x1A014).modCap 0 (fun c => { c with words := c.words.set none 0x1A014 none })).readClears 0x1A014) rfl
      ((s.d.asked_same 0 0x1A014).up [.cap] |>.trans (Dev.modCap_same _ _ _))
    rw [Nat.mod_eq_of_lt hw] at hout hs hx
    refine ⟨_, later, hx, hout, ?_, hs⟩
    rw [Dev.notify_cap]
    rw [show ((((s.d.asked 0 0x1A014).modCap 0 _).readClears 0x1A014).send _).cap 0 = _ from Dev.cap_modCap_self _ 0 _]
    simp
  · have hpwr : (s.d.asked 0 0x2500C).pwr = s.d.pwr := s.d.asked_same _ _ .pwr (by decide)
    have hv : regValue s.net (s.d.asked 0 0x2500C) 0 0x2500C = some (pack [(s.d.pwr.pin, 0), (s.d.pwr.peak, 16)]) := by rw [← hpwr]; rfl
    have hx := hostRead_word hr (by decide) (by decide) (regRead_plain (by decide) hv (by decide) hc)
    rw [show pack [(s.d.pwr.pin, 0), (s.d.pwr.peak, 16)] % 2 ^ 32 = s.d.pwr.pin + s.d.pwr.peak * 65536 by simp [pack]; omega] at hx
    obtain ⟨⟨later, hout⟩, hs⟩ := read_does (s := s) (f := 0) (v := s.d.pwr.pin + s.d.pwr.peak * 65536)
      (e := (s.d.asked 0 0x2500C).readClears 0x2500C) rfl ((s.d.asked_same 0 0x2500C).up [.pwr] |>.trans (Dev.withPwr_same _ _))
    refine ⟨_, later, hx, hout, ?_, hs⟩
    rw [Dev.notify_pwr]
    exact congrArg (fun p : Pwr => { p with peak := 0 }) hpwr
  · exact exec_mrtValueRead_does hr hm hv
  · exact exec_mrtTimeRead_does hr hm hv hc
  · have hx := hostRead_word (e := s.d.asked 0 off) (v := 0) hr h4 (by omega)
      (regRead_hidden (by omega) (regVisible_pf0_block hf h16 h1 h2))
    obtain ⟨⟨later, hout⟩, hs⟩ := read_does (s := s) (f := f) (v := 0) (e := s.d.asked 0 off) rfl (s.d.asked_same 0 off)
    exact ⟨_, later, hx, hout, hs⟩
  · have hw := bar0Write_word f w { s with d := s.d.inbound true 0 off (bytesLE w.toNat 4).length } h4
    rw [wordWrite_hidden (by omega) (regVisible_pf0_block hf h16 h1 h2)] at hw
    refine ⟨_, exec_registerWrite_next hr, ?_⟩
    rw [hw]
    exact finish_same (s.d.inbound_same _ _ _ _)
  · have hw := bar0Write_word (off := 0x40) f w { s with d := s.d.inbound true 0 0x40 (bytesLE w.toNat 4).length } (by decide)
    rw [wordWrite_scratch] at hw
    have hin := s.d.inbound_same true 0 0x40 (bytesLE w.toNat 4).length
    refine ⟨_, exec_registerWrite_next hr, ?_, fun g hg => ?_, ?_⟩ <;> rw [hw]
    · rw [Dev.scratch_notify, Dev.fn_modFn, if_pos rfl]
    · rw [Dev.scratch_notify, Dev.fn_modFn, if_neg hg]
      rfl
    · exact finish_same ((hin.up _).trans (Dev.modFn_same _ _ _))
  · have hin := s.d.inbound_same true 0 0x44 4
    have hglb := hin .glb (by decide)
    refine ⟨_, by rw [exec_glbCtlLock, execGlbCtlLock, pf0Wr_next hr], ?_, finish_same ?_⟩
    · rw [Dev.notify_glb]
      exact congrArg (fun g : Glb => ({ vfTimeEn := if g.lock then g.vfTimeEn else bitOf v.toNat 0, lock := g.lock || bitOf v.toNat 1 } : Glb)) hglb
    · exact (hin.up _).trans (Dev.withGlb_same _ _)
  · have hin := s.d.inbound_same true 0 off bs.length
    have hw : bar0Write 0 off bs { s with d := s.d.inbound true 0 off bs.length } =
        { s with d := (s.d.inbound true 0 off bs.length).decodeError off } := by
      rcases hb with ⟨rfl, hl⟩ | ⟨rfl, hl⟩
      · unfold bar0Write
        rw [hl]
        exact wordWrite_nowhere (off := 0x60000) (v := leField bs 0 4 * 2 ^ 0) (nbytes := 4) (by decide) rfl
      · unfold bar0Write
        rw [hl]
        exact wordWrite_part (off := 0x40) (v := leField bs 0 2 * 2 ^ 0) (nbytes := 2) (by decide) rfl (by decide)
    obtain ⟨hbmx, hsrc, hsame⟩ := (s.d.inbound true 0 off bs.length).decodeError_does off
    obtain ⟨hlat, hcnt, -⟩ := Src.marked_fields (s.d.src 72) 72 0 s.d.tb2 false true
    rw [hin.src, hin.tb2] at hsrc
    refine ⟨_, exec_registerWrite_next hr, ?_, ?_, ?_, ?_⟩ <;> rw [hw]
    · rw [Dev.notify_bmx, hbmx]
      exact congrArg (fun x : Bmx => { x with decode := true, decMaster := 9, decTarget := 2, addr := off }) (hin .bmx (by decide))
    · rw [Dev.notify_src, hsrc, hlat]
    · rw [Dev.notify_src, hsrc, hcnt]
    · exact finish_same ((hin.up _).trans hsame)

end Sys2Proof.Machine

/-! ## The island's records (R369 to R373) -/
namespace Sys2Proof.Machine
set_option Elab.async false

/-! ### Fields of bytes written one after another -/

theorem leField_skip {xs ys : List Byte} {lo n : Nat} (h : xs.length ≤ lo) : leField (xs ++ ys) lo n = leField ys (lo - xs.length) n := by
  unfold leField
  rw [List.drop_append, List.drop_eq_nil_of_le h, List.nil_append]

theorem leField_skip_bytesLE {v m : Nat} {ys : List Byte} {lo n : Nat} (h : m ≤ lo) : leField (bytesLE v m ++ ys) lo n = leField ys (lo - m) n := by
  have hl := leField_skip (xs := bytesLE v m) (ys := ys) (lo := lo) (n := n) (by rw [length_bytesLE]; exact h)
  rw [hl, length_bytesLE]

theorem leField_skip_byte {b : Byte} {ys : List Byte} {lo n : Nat} (h : 1 ≤ lo) : leField (b :: ys) lo n = leField ys (lo - 1) n :=
  leField_skip (xs := [b]) h

theorem leField_first {v n : Nat} {ys : List Byte} : leField (bytesLE v n ++ ys) 0 n = v % 256 ^ n := by
  have h := leField_bytesLE [] ys v n 0 rfl
  rwa [List.nil_append] at h

theorem leField_all {v n : Nat} : leField (bytesLE v n) 0 n = v % 256 ^ n := by
  have h := leField_first (v := v) (n := n) (ys := [])
  rwa [List.append_nil] at h

/-- A number in more bytes begins with its low bytes. -/
theorem bytesLE_add (m : Nat) : ∀ (v n : Nat), bytesLE v (m + n) = bytesLE v m ++ bytesLE (v / 256 ^ m) n := by
  induction m with
  | zero => intro v n; simp [bytesLE]
  | succ m ih =>
    intro v n
    rw [show m + 1 + n = (m + n) + 1 by omega, bytesLE, ih, bytesLE, List.cons_append, Nat.div_div_eq_div_mul, ← Nat.pow_succ']

theorem length_padTo (n : Nat) (bs : List Byte) : (padTo n bs).length = n := by
  simp [padTo]
  omega

theorem padTo_of_length {n : Nat} {bs : List Byte} (h : bs.length = n) : padTo n bs = bs := by
  rw [padTo, List.take_of_length_le (by omega), h, Nat.sub_self, List.replicate_zero, List.append_nil]

/-- A field of what is padded. -/
theorem leField_padTo {n lo m : Nat} {bs : List Byte} (h : lo + m ≤ bs.length) (hn : lo + m ≤ n) : leField (padTo n bs) lo m = leField bs lo m := by
  unfold leField padTo
  congr 1
  rw [List.drop_append_of_le_length (by simp; omega), List.take_append_of_le_length (by simp; omega), List.drop_take, List.take_take,
    Nat.min_eq_left (by omega)]

theorem leField_within {xs ys : List Byte} {lo n : Nat} (h : lo + n ≤ xs.length) : leField (xs ++ ys) lo n = leField xs lo n := by
  unfold leField
  rw [List.drop_append_of_le_length (by omega), List.take_append_of_le_length (by simp; omega)]

theorem length_digestBytes (h : BitVec 512) : (digestBytes h).length = 64 := by rw [digestBytes, length_bytesLE]

theorem leField_bitVec {w n : Nat} (h : BitVec w) (hn : 256 ^ n = 2 ^ w) : leField (bytesLE h.toNat n) 0 n = h.toNat := by
  rw [leField_all, hn]
  exact BitVec.toNat_mod_cancel h

theorem leField_digestBytes {h : BitVec 512} : leField (digestBytes h) 0 64 = h.toNat :=
  leField_bitVec h (by rw [show 256 = 2 ^ 8 by rfl, ← pow_mul])

/-! ### The bytes of a record -/

/-- The flags of a record as written. -/
def IRec.flagsOf (r : IRec) (unc : Bool) : Nat := if unc then r.flags ||| 0x20 else r.flags

/-- The first 104 bytes of a record. -/
def Isl.recHead (i : Isl) (unc : Bool) (r : IRec) : List Byte :=
  bytesLE i.next 8 ++ (bytesLE r.typ 1 ++ (bytesLE 1 1 ++ (bytesLE (r.flagsOf unc) 2 ++ (bytesLE r.ports 4 ++
    (bytesLE r.tStart 8 ++ (bytesLE r.tEnd 8 ++ (bytesLE r.esnStart 8 ++ (bytesLE r.esnEnd 8 ++ (bytesLE r.tb0Start 8 ++ (bytesLE r.eIn 8 ++
    (bytesLE r.eOut 8 ++ (bytesLE r.pewIn 2 ++ (bytesLE r.pewOut 2 ++ (bytesLE r.n 4 ++ (bytesLE r.tSpec 4 ++ (bytesLE r.tBlank 4 ++
    (bytesLE r.tDark 4 ++ (bytesLE r.aClaim 2 ++ (bytesLE r.xchk 1 ++ ([0] ++
    (bytesLE i.epoch 2 ++ (bytesLE i.unsealF 1 ++ ([0] ++ bytesLE Config.islandFw.toNat 4)))))))))))))))))))))))

theorem Isl.length_recHead (i : Isl) (unc : Bool) (r : IRec) : (i.recHead unc r).length = 104 := by
  simp [Isl.recHead, length_bytesLE]

theorem Isl.recBytes_eq (i : Isl) (unc : Bool) (r : IRec) : i.recBytes unc r = i.recHead unc r ++ (padTo 88 r.extra ++ digestBytes i.chain) := by
  have h : i.recBytes unc r = padTo 104 (i.recHead unc r) ++ padTo 88 r.extra ++ digestBytes i.chain := by
    simp only [Isl.recBytes, Isl.recHead, IRec.flagsOf, List.append_assoc]
  rw [h, padTo_of_length (i.length_recHead unc r), List.append_assoc]

theorem Isl.length_recBytes (i : Isl) (unc : Bool) (r : IRec) : (i.recBytes unc r).length = 256 := by
  rw [Isl.recBytes_eq, List.length_append, List.length_append, Isl.length_recHead, length_padTo, length_digestBytes]

/-- A field of the first 104 bytes. -/
theorem Isl.leField_recBytes_head {i : Isl} {unc : Bool} {r : IRec} {lo n : Nat} (h : lo + n ≤ 104) :
    leField (i.recBytes unc r) lo n = leField (i.recHead unc r) lo n := by
  rw [Isl.recBytes_eq, leField_within (by rw [Isl.length_recHead]; exact h)]

/-- A field of the bytes 104 to 191. -/
theorem Isl.leField_recBytes_extra {i : Isl} {unc : Bool} {r : IRec} {lo n : Nat} (h : lo + n ≤ r.extra.length) (hn : lo + n ≤ 88) :
    leField (i.recBytes unc r) (104 + lo) n = leField r.extra lo n := by
  rw [Isl.recBytes_eq, leField_skip (by rw [Isl.length_recHead]; omega), Isl.length_recHead, Nat.add_sub_cancel_left,
    leField_within (by rw [length_padTo]; exact hn), leField_padTo h hn]

theorem Isl.leField_recBytes_chain (i : Isl) (unc : Bool) (r : IRec) : leField (i.recBytes unc r) 192 64 = i.chain.toNat := by
  rw [Isl.recBytes_eq, leField_skip (by rw [Isl.length_recHead]; decide), Isl.length_recHead, leField_skip (by rw [length_padTo]), length_padTo]
  exact leField_digestBytes

section
variable (i : Isl) (unc : Bool) (r : IRec)

theorem Isl.rec_index : leField (i.recBytes unc r) 0 8 = i.next % 2 ^ 64 := by
  rw [Isl.leField_recBytes_head (by decide), Isl.recHead, leField_first, show 256 ^ 8 = 2 ^ 64 by norm_num]

theorem Isl.rec_typ : leField (i.recBytes unc r) 8 1 = r.typ % 256 := by
  rw [Isl.leField_recBytes_head (by decide)]
  simp [Isl.recHead, leField_skip_bytesLE, leField_first]

theorem Isl.rec_version : leField (i.recBytes unc r) 9 1 = 1 := by
  rw [Isl.leField_recBytes_head (by decide)]
  simp [Isl.recHead, leField_skip_bytesLE, leField_first]

theorem Isl.rec_flags : leField (i.recBytes unc r) 10 2 = r.flagsOf unc % 65536 := by
  rw [Isl.leField_recBytes_head (by decide)]
  simp [Isl.recHead, leField_skip_bytesLE, leField_first]

theorem Isl.rec_port : leField (i.recBytes unc r) 12 2 = r.ports % 65536 := by
  rw [Isl.leField_recBytes_head (by decide)]
  simp [Isl.recHead, leField_skip_bytesLE, leField_first, bytesLE_add 2 r.ports 2]

theorem Isl.rec_tStart : leField (i.recBytes unc r) 16 8 = r.tStart % 2 ^ 64 := by
  rw [Isl.leField_recBytes_head (by decide)]
  simp [Isl.recHead, leField_skip_bytesLE, leField_first]

theorem Isl.rec_tEnd : leField (i.recBytes unc r) 24 8 = r.tEnd % 2 ^ 64 := by
  rw [Isl.leField_recBytes_head (by decide)]
  simp [Isl.recHead, leField_skip_bytesLE, leField_first]

theorem Isl.rec_esnStart : leField (i.recBytes unc r) 32 8 = r.esnStart % 2 ^ 64 := by
  rw [Isl.leField_recBytes_head (by decide)]
  simp [Isl.recHead, leField_skip_bytesLE, leField_first]

theorem Isl.rec_esnEnd : leField (i.recBytes unc r) 40 8 = r.esnEnd % 2 ^ 64 := by
  rw [Isl.leField_recBytes_head (by decide)]
  simp [Isl.recHead, leField_skip_bytesLE, leField_first]

theorem Isl.rec_eIn : leField (i.recBytes unc r) 56 8 = r.eIn % 2 ^ 64 := by
  rw [Isl.leField_recBytes_head (by decide)]
  simp [Isl.recHead, leField_skip_bytesLE, leField_first]

theorem Isl.rec_eOut : leField (i.recBytes unc r) 64 8 = r.eOut % 2 ^ 64 := by
  rw [Isl.leField_recBytes_head (by decide)]
  simp [Isl.recHead, leField_skip_bytesLE, leField_first]

theorem Isl.rec_n : leField (i.recBytes unc r) 76 4 = r.n % 2 ^ 32 := by
  rw [Isl.leField_recBytes_head (by decide)]
  simp [Isl.recHead, leField_skip_bytesLE, leField_first]

theorem Isl.rec_xchk : leField (i.recBytes unc r) 94 1 = r.xchk % 256 := by
  rw [Isl.leField_recBytes_head (by decide)]
  simp [Isl.recHead, leField_skip_bytesLE, leField_first]

theorem Isl.rec_epoch : leField (i.recBytes unc r) 96 2 = i.epoch % 65536 := by
  rw [Isl.leField_recBytes_head (by decide)]
  simp [Isl.recHead, leField_skip_bytesLE, leField_skip_byte, leField_first]

end

theorem bitOf_mod {v w k : Nat} (h : k < w) : bitOf (v % 2 ^ w) k = bitOf v k := by
  simp [bitOf_eq_testBit, h]

/-- The flag of an uncertain time (R362). -/
theorem IRec.flagsOf_unc {r : IRec} (h : bitOf r.flags 5 = false) (unc : Bool) : bitOf (r.flagsOf unc % 65536) 5 = unc := by
  rw [show 65536 = 2 ^ 16 by rfl, bitOf_mod (by decide), IRec.flagsOf]
  cases unc with
  | false => exact h
  | true => rw [if_pos rfl, bitOf_or, h]; rfl

/-- Every other flag is written as it is. -/
theorem IRec.flagsOf_other {r : IRec} {k : Nat} (h : bitOf 0x20 k = false) (hk : k < 16) (unc : Bool) :
    bitOf (r.flagsOf unc % 65536) k = bitOf r.flags k := by
  rw [show 65536 = 2 ^ 16 by rfl, bitOf_mod hk, IRec.flagsOf]
  cases unc with
  | false => rfl
  | true => rw [if_pos rfl, bitOf_or, h, Bool.or_false]

/-! ### The store -/

/-- The island's store takes a record: the block being filled holds the records written so far. -/
def Isl.fits (i : Isl) : Prop :=
  i.hasRoom = true ∧ (i.blocks.find? (fun b => b.num == i.next / 64)).map (·.recs.length) = (if i.next % 64 = 0 then none else some (i.next % 64))

/-- A record of 256 bytes is written to j after i's records: with i's next INDEX, chained to the record before it. -/
def Isl.records (i j : Isl) (rec : List Byte) : Prop :=
  rec.length = 256 ∧ leField rec 0 8 = i.next % 2 ^ 64 ∧ leField rec 9 1 = 1 ∧ leField rec 192 64 = i.chain.toNat ∧
  j.recAt i.next = some rec ∧ j.next = i.next + 1 ∧ j.chain = Config.sha3 rec

/-- The blocks with one more record. -/
def Isl.blocksWith (i : Isl) (bs : List Byte) : List Block :=
  if i.next % 64 = 0 then (if 192 ≤ i.blocks.length then i.blocks.drop 1 else i.blocks) ++ [{ num := i.next / 64, openAt := i.mono, recs := [bs] }]
  else i.blocks.map (fun (b : Block) => if b.num = i.next / 64 then { b with recs := b.recs ++ [bs] } else b)

theorem Isl.put_eq {i : Isl} (h : i.hasRoom = true) (unc : Bool) (r : IRec) : i.put unc r =
    ({ i with blocks := i.blocksWith (i.recBytes unc r), next := i.next + 1, chain := Config.sha3 (i.recBytes unc r) } : Isl).checkReserve := by
  unfold Isl.put
  rw [if_neg (by simp [h])]
  rfl

/-- What the store of a record can change. -/
def Isl.stores (i j : Isl) : Prop :=
  ∃ bl n c rv rn g ev, j = { i with blocks := bl, next := n, chain := c, reserve := rv, reserveNum := rn, gap := g, events := ev }

theorem Isl.stores.refl (i : Isl) : i.stores i := ⟨_, _, _, _, _, _, _, rfl⟩

theorem Isl.stores.trans {i j k : Isl} (h : i.stores j) (h' : j.stores k) : i.stores k := by
  obtain ⟨_, _, _, _, _, _, _, rfl⟩ := h
  obtain ⟨_, _, _, _, _, _, _, rfl⟩ := h'
  exact ⟨_, _, _, _, _, _, _, rfl⟩

/-- What the store of a record leaves unchanged: time, the map, what is open, the fuses, acknowledgement and configuration. -/
theorem Isl.stores.keeps {i j : Isl} (h : i.stores j) : (j.tb1 = i.tb1 ∧ j.epoch = i.epoch ∧ j.uncStart = i.uncStart ∧ j.uncClock = i.uncClock) ∧
    (j.map = i.map ∧ j.ivs = i.ivs ∧ j.uncl = i.uncl ∧ j.taps = i.taps) ∧ (j.sealF = i.sealF ∧ j.unsealF = i.unsealF ∧ j.ackNext = i.ackNext) ∧
    (j.splitMin = i.splitMin ∧ j.blockMax = i.blockMax ∧ j.ackSrc = i.ackSrc ∧ j.cfgData = i.cfgData) := by
  obtain ⟨_, _, _, _, _, _, _, rfl⟩ := h
  exact ⟨⟨rfl, rfl, rfl, rfl⟩, ⟨rfl, rfl, rfl, rfl⟩, ⟨rfl, rfl, rfl⟩, ⟨rfl, rfl, rfl, rfl⟩⟩

theorem Isl.event_stores (i : Isl) (k a b c : Nat) : i.stores (i.event k a b c) := ⟨_, _, _, _, _, _, _, rfl⟩

/-- The check of the reserve moves no record. -/
theorem Isl.checkReserve_spec (i : Isl) : i.stores i.checkReserve ∧ i.checkReserve.blocks = i.blocks ∧ i.checkReserve.next = i.next ∧
    i.checkReserve.chain = i.chain := by
  unfold Isl.checkReserve
  split
  · exact ⟨⟨_, _, _, _, _, _, _, rfl⟩, rfl, rfl, rfl⟩
  · exact ⟨.refl i, rfl, rfl, rfl⟩

theorem Isl.checkReserve_none {i : Isl} (h : i.next % 64 ≠ 0 ∨ 2 ≤ i.freeBlocks) : i.checkReserve = i := by
  unfold Isl.checkReserve
  refine if_neg ?_
  simp only [Bool.and_eq_true, beq_iff_eq, decide_eq_true_eq, not_and]
  omega

theorem Isl.put_stores (i : Isl) (unc : Bool) (r : IRec) : i.stores (i.put unc r) := by
  cases h : i.hasRoom with
  | false => rw [show i.put unc r = i from if_pos (by simp [h])]; exact .refl i
  | true =>
    rw [Isl.put_eq h]
    exact Isl.stores.trans ⟨_, _, _, _, _, _, _, rfl⟩ (Isl.checkReserve_spec _).1

theorem Isl.recAt_blocksWith {i : Isl} (h : i.fits) (bs : List Byte) :
    ((i.blocksWith bs).find? (fun b => b.num == i.next / 64)).bind (fun b => b.recs[i.next % 64]?) = some bs := by
  obtain ⟨-, hf⟩ := h
  unfold Isl.blocksWith
  by_cases h0 : i.next % 64 = 0
  · rw [if_pos h0] at hf ⊢
    have hn : i.blocks.find? (fun b => b.num == i.next / 64) = none := by simpa using hf
    have hd : (if 192 ≤ i.blocks.length then i.blocks.drop 1 else i.blocks).find? (fun b => b.num == i.next / 64) = none := by
      split
      · exact List.find?_eq_none.mpr fun b hb => List.find?_eq_none.mp hn b (List.mem_of_mem_drop hb)
      · exact hn
    rw [List.find?_append, hd]
    simp [h0]
  · rw [if_neg h0] at hf ⊢
    obtain ⟨b, hb, hl⟩ : ∃ b, i.blocks.find? (fun b => b.num == i.next / 64) = some b ∧ b.recs.length = i.next % 64 := by
      cases hx : i.blocks.find? (fun b => b.num == i.next / 64) with
      | none => rw [hx] at hf; cases hf
      | some b => rw [hx] at hf; exact ⟨b, rfl, Option.some.inj hf⟩
    have hcomp : ((fun b : Block => b.num == i.next / 64) ∘ fun (b : Block) => if b.num = i.next / 64 then { b with recs := b.recs ++ [bs] } else b) =
        fun b => b.num == i.next / 64 := by
      funext b
      dsimp only [Function.comp]
      split <;> rfl
    have hnum : b.num = i.next / 64 := by simpa using List.find?_some hb
    rw [List.find?_map, hcomp, hb]
    simp only [Option.map_some, Option.bind_some, if_pos hnum]
    rw [← hl, List.getElem?_append_right (le_refl _), Nat.sub_self]
    rfl

/-- A record that fits is written. -/
theorem Isl.put_records {i : Isl} (h : i.fits) (unc : Bool) (r : IRec) : i.records (i.put unc r) (i.recBytes unc r) := by
  obtain ⟨-, hbl, hnx, hch⟩ := Isl.checkReserve_spec
    ({ i with blocks := i.blocksWith (i.recBytes unc r), next := i.next + 1, chain := Config.sha3 (i.recBytes unc r) } : Isl)
  rw [Isl.put_eq h.1]
  refine ⟨i.length_recBytes unc r, i.rec_index unc r, i.rec_version unc r, i.leField_recBytes_chain unc r, ?_, hnx, hch⟩
  unfold Isl.recAt
  rw [hbl]
  exact Isl.recAt_blocksWith h _

/-- What is written depends on the store alone. -/
theorem Isl.records.of {i j k l : Isl} {rec : List Byte} (h : i.records j rec) (h1 : k.next = i.next) (h2 : k.chain = i.chain)
    (h3 : l.blocks = j.blocks) (h4 : l.next = j.next) (h5 : l.chain = j.chain) : k.records l rec := by
  obtain ⟨a, b, c, d, e, f, g⟩ := h
  refine ⟨a, by rw [h1]; exact b, c, by rw [h2]; exact d, ?_, by rw [h4, h1]; exact f, h5.trans g⟩
  rw [h1, Isl.recAt, h3]
  exact e

/-! ### The effects of the island -/

/-- What follows the island outside it: FS92 and the seal's pin (R358). -/
def Dev.afterIsl (d : Dev) (old new : Isl) : Dev :=
  ((if new.reserve then d.condOn 92 0 else d.condOff 92 0).pinTo "MI_SEAL" old.pinSeal new.pinSeal).notify

theorem finishIsl_next (s : State) (d : Dev) (i : Isl) : finishIsl s d i = .next { s with d := d.afterIsl s.isl i, isl := i } := rfl

theorem Dev.pinTo_signals {ns : List Nat} (d : Dev) (n : String) (o w : Bool) : d.signals ns (d.pinTo n o w) :=
  .quiet (d.pinTo_same n o w) (fun f => by rw [d.pinTo_fn]) (d.pinTo_sentOn n o w)

theorem Dev.afterIsl_signals (d : Dev) (old new : Isl) : d.signals [92, 68] (d.afterIsl old new) := by
  have h : d.signals [92, 68] (if new.reserve then d.condOn 92 0 else d.condOff 92 0) := by
    split
    · exact d.condOn_signals 92 0
    · exact (d.condOff_signals 92 0).mono (by simp)
  exact h.trans ((Dev.pinTo_signals _ _ _ _).trans (Dev.notify_signals _))

theorem islandOnly_after {s : State} {d : Dev} (h : Dev.sameBut faultParts s.d d) (i : Isl) :
    Obl.islandOnly s { s with d := d.afterIsl s.isl i, isl := i } :=
  ⟨rfl, rfl, rfl, (h.mono (by decide)).trans ((d.afterIsl_signals s.isl i).same.mono (by decide))⟩

theorem onIsl_next {s : State} (h : s.isl.up = true) (g : Isl → Isl) :
    onIsl s g = .next { s with d := s.d.afterIsl s.isl (g s.isl), isl := g s.isl } := if_pos h

/-- The effect of a command on the island alone. -/
theorem onIsl_does {s : State} (h : s.isl.up = true) (g : Isl → Isl) :
    ∃ t, onIsl s g = .next t ∧ t.isl = g s.isl ∧ Obl.islandOnly s t := ⟨_, onIsl_next h g, rfl, islandOnly_after (.refl _ s.d) _⟩

end Sys2Proof.Machine

/-! ## The reader port (O49) -/
namespace Sys2Proof.Machine
set_option Elab.async false

theorem onReader_next {s : State} (h : s.isl.up = true) (g : Isl → List Byte × Isl) :
    onReader s g = .next { s with d := (s.d.send (.reader s.isl.addr (g s.isl).1)).afterIsl s.isl (g s.isl).2, isl := (g s.isl).2 } := if_pos h

/-- A request of the reader is answered at the island's address, and nothing outside the island changes. -/
theorem onReader_does {s : State} (h : s.isl.up = true) {g : Isl → List Byte × Isl} {bs : List Byte} {i : Isl} (hg : g s.isl = (bs, i)) :
    ∃ t later, onReader s g = .next t ∧ t.d.io.out = later ++ Out.reader s.isl.addr bs :: s.d.io.out ∧ t.isl = i ∧ Obl.islandOnly s t := by
  obtain ⟨later, hl⟩ := ((s.d.send (.reader s.isl.addr bs)).afterIsl_signals s.isl i).sent
  refine ⟨_, later, ?_, hl, rfl, islandOnly_after ((s.d.send_same _).up _) i⟩
  rw [onReader_next h, hg]

/-! ### IDENTIFY -/

/-- The status word of IDENTIFY. -/
def Isl.statusWord (i : Isl) (unc : Bool) : Nat := pack [(b2n unc, 0), (b2n i.uncClock, 1), (b2n i.reserve, 2), (b2n Config.islandSelfTest, 3)]

/-- The approval in IDENTIFY. -/
def approvalBytes : List Byte := if Config.variantS then bytesLE Config.approvalId.toNat 32 else List.replicate 32 0

theorem length_approvalBytes : approvalBytes.length = 32 := by
  unfold approvalBytes
  split
  · exact length_bytesLE _ _
  · exact List.length_replicate

/-- The bytes of IDENTIFY from TB1 on. -/
def Isl.identityTail (i : Isl) (unc : Bool) : List Byte :=
  bytesLE i.tb1 8 ++ (bytesLE i.epoch 2 ++ (bytesLE (i.statusWord unc) 2 ++ (bytesLE i.next 8 ++ (bytesLE i.ackNext 8 ++
    (bytesLE i.freeBlocks 2 ++ (bytesLE i.splitMin 2 ++ (bytesLE i.blockMax 2 ++ (bytesLE (b2n i.ackSrc) 1 ++ ([0] ++ bytesLE i.gap.pend 4)))))))))

/-- The bytes of IDENTIFY before TB1. -/
def Isl.identityHead (i : Isl) : List Byte :=
  [1] ++ (bytesLE i.sealState 1 ++ (bytesLE i.seals 1 ++ (bytesLE i.unsealF 1 ++ (bytesLE Config.islandFw.toNat 4 ++ (digestBytes Config.islandRom ++
    (digestBytes (Config.islandCfgDigest i.cfgData) ++ (approvalBytes ++ bytesLE Config.serial.toNat 16)))))))

theorem Isl.identity_eq (i : Isl) (unc : Bool) : i.identity unc = i.identityHead ++ i.identityTail unc := by
  unfold Isl.identity Isl.identityHead Isl.identityTail
  extract_lets st
  change _ ++ _ ++ _ ++ _ ++ _ ++ _ ++ _ ++ approvalBytes ++ _ ++ _ ++ _ ++ bytesLE (i.statusWord unc) 2 ++ _ ++ _ ++ _ ++ _ ++ _ ++ _ ++ _ ++ _ = _
  simp only [List.append_assoc]

theorem Isl.length_identityHead (i : Isl) : i.identityHead.length = 184 := by
  simp [Isl.identityHead, length_bytesLE, length_digestBytes, length_approvalBytes]

theorem Isl.length_identityTail (i : Isl) (unc : Bool) : (i.identityTail unc).length = 40 := by
  simp [Isl.identityTail, length_bytesLE]

theorem Isl.length_identity (i : Isl) (unc : Bool) : (i.identity unc).length = 224 := by
  rw [Isl.identity_eq, List.length_append, Isl.length_identityHead, Isl.length_identityTail]

theorem Isl.leField_identity (i : Isl) (unc : Bool) (lo n : Nat) : leField (i.identity unc) (184 + lo) n = leField (i.identityTail unc) lo n := by
  rw [Isl.identity_eq, leField_skip (by rw [Isl.length_identityHead]; omega), Isl.length_identityHead, Nat.add_sub_cancel_left]

theorem Isl.statusWord_unc (i : Isl) (unc : Bool) : bitOf (i.statusWord unc % 65536) 0 = unc := by
  rw [show 65536 = 2 ^ 16 by rfl, bitOf_mod (by decide)]
  unfold Isl.statusWord
  cases unc <;> cases i.uncClock <;> cases i.reserve <;> cases Config.islandSelfTest <;> rfl

theorem Isl.identity_fields (i : Isl) (unc : Bool) :
    leField (i.identity unc) 184 8 = i.tb1 % 2 ^ 64 ∧ leField (i.identity unc) 192 2 = i.epoch % 65536 ∧
      bitOf (leField (i.identity unc) 194 2) 0 = unc ∧ leField (i.identity unc) 196 8 = i.next % 2 ^ 64 ∧
      leField (i.identity unc) 204 8 = i.ackNext % 2 ^ 64 ∧ leField (i.identity unc) 214 2 = i.splitMin % 65536 ∧
      leField (i.identity unc) 216 2 = i.blockMax % 65536 := by
  have h := i.leField_identity unc
  refine ⟨(h 0 8).trans ?_, (h 8 2).trans ?_, (congrArg (bitOf · 0) (h 10 2)).trans ?_, (h 12 8).trans ?_, (h 20 8).trans ?_, (h 30 2).trans ?_,
    (h 32 2).trans ?_⟩
  all_goals simp only [Isl.identityTail, leField_skip_bytesLE, leField_first, Nat.reduceLeDiff, Nat.reduceSub, Nat.reducePow]
  exact i.statusWord_unc unc

/-- The version and the seal's state at the head of IDENTIFY. -/
theorem Isl.identity_head_fields (i : Isl) (unc : Bool) : leField (i.identity unc) 0 1 = 1 ∧ leField (i.identity unc) 1 1 = i.sealState % 256 := by
  rw [Isl.identity_eq, leField_within (by rw [Isl.length_identityHead]; decide), leField_within (by rw [Isl.length_identityHead]; decide)]
  unfold Isl.identityHead
  refine ⟨rfl, ?_⟩
  rw [leField_skip (by decide)]
  exact leField_first

theorem Isl.sealState_eq (i : Isl) : i.sealState % 256 = if i.seals = 0 then 0 else if i.unsealF < i.seals then 1 else 2 := by
  unfold Isl.sealState Isl.isSealed
  split
  · rfl
  · simp only [decide_eq_true_eq]
    split <;> rfl

/-! ### Reads and the seal -/

theorem Isl.readStream_record {i : Isl} {r : List Byte} (hc : i.certs = false) (ht : i.inTrailer = false) (h0 : i.streamOff = 0)
    (ho : i.oldest ≤ i.streamPos) (hr : i.recAt i.streamPos = some r) (hl : r.length = 256) :
    i.readStream 241 = (0 :: r.take 240, { i with streamOff := 240 }) := by
  have hs : i.stream 4 240 = (r.take 240, { i with streamOff := 240 }) := by
    rw [Isl.stream]
    simp only [ht, Bool.false_eq_true, if_false, hr, h0, hl]
    simp
  have hne : (r.take 240).isEmpty = false := by
    rw [List.isEmpty_eq_false_iff_exists_mem] at *
    exact List.exists_mem_of_length_pos (by simp [hl])
  unfold Isl.readStream
  dsimp only
  rw [if_neg (by simp [hc]), if_neg (by simp; omega), show min (241 - 1) 240 = 240 by rfl, hs]
  exact if_neg (by simp [hne])

theorem Isl.readStream_end {i : Isl} (hc : i.certs = false) (ht : i.inTrailer = false) (ho : i.oldest ≤ i.streamPos)
    (hr : i.recAt i.streamPos = none) : i.readStream 241 = ([1], i) := by
  have hs : i.stream 4 240 = ([], i) := by
    rw [Isl.stream]
    simp [ht, hr]
  unfold Isl.readStream
  dsimp only
  rw [if_neg (by simp [hc]), if_neg (by simp; omega), show min (241 - 1) 240 = 240 by rfl, hs]
  rfl

theorem Isl.readStream_gone {i : Isl} (hc : i.certs = false) (ht : i.inTrailer = false) (ho : i.streamPos < i.oldest) :
    i.readStream 241 = ([2], i) := by
  unfold Isl.readStream
  dsimp only
  rw [if_neg (by simp [hc]), if_pos ⟨ho, by simp [ht]⟩]

/-- With no reserve an acknowledgement moves the acknowledged records alone. -/
theorem Isl.acknowledge_eq {i : Isl} (h : i.reserve = false) (unc : Bool) (k : Nat) :
    i.acknowledge unc k = { i with ackNext := max i.ackNext (k + 1) } := by
  unfold Isl.acknowledge
  split
  · next hk =>
    rw [Nat.max_eq_right (by omega)]
    exact if_neg (by simp [h])
  · next hk => rw [Nat.max_eq_left (by omega)]

/-- The record of a change of the seal. -/
def Isl.sealRec (i : Isl) (hash : BitVec 512) : IRec :=
  { typ := 6, flags := i.sealFlag, ports := noPorts 6, tStart := i.tb1,
    extra := bytesLE i.sealState 1 ++ bytesLE i.seals 1 ++ bytesLE i.unsealF 1 ++ [0] ++ digestBytes hash }

/-- The fuse of a change of the seal is blown. -/
def Isl.fuse (i : Isl) (op : Nat) : Isl := if op = 0 then { i with unsealF := i.unsealF + 1 } else { i with sealF := i.sealF + 1 }

/-- What is open was not sealed throughout. -/
def Isl.opened (i : Isl) : Isl :=
  if i.isSealed then i
  else { i with ivs := i.ivs.mapVals none (fun _ o => o.map (fun (v : Interval) => { v with sealedAll := false })),
                uncl := i.uncl.mapVals {} (fun _ u => if u.isOpen then { u with sealedAll := false } else u) }

/-- A change of the seal up to its result. -/
def Isl.resealed (i : Isl) (unc : Bool) (op : Nat) : Isl := (i.fuse op).opened.put unc ((i.fuse op).opened.sealRec (Config.sha3 i.tokenBytes))

theorem Isl.changeSeal_eq (i : Isl) (unc : Bool) (op : Nat) : i.changeSeal unc op =
    ((i.resealed unc op).result 0).event 5 (pack [((i.resealed unc op).sealState, 0), ((i.resealed unc op).unsealF, 8)]) 0 0 := rfl

theorem Isl.fuse_spec (i : Isl) {op : Nat} (h : op ≤ 1) :
    (i.fuse op).sealF = i.sealF + (if op = 1 then 1 else 0) ∧ (i.fuse op).unsealF = i.unsealF + (if op = 0 then 1 else 0) := by
  have h01 : op = 0 ∨ op = 1 := by omega
  rcases h01 with rfl | rfl <;> exact ⟨rfl, rfl⟩

theorem Isl.fuse_store (i : Isl) (op : Nat) :
    (i.fuse op).blocks = i.blocks ∧ (i.fuse op).next = i.next ∧ (i.fuse op).chain = i.chain ∧ (i.fuse op).ackNext = i.ackNext := by
  unfold Isl.fuse
  split <;> exact ⟨rfl, rfl, rfl, rfl⟩

theorem Isl.opened_spec (i : Isl) : i.opened.sealF = i.sealF ∧ i.opened.unsealF = i.unsealF ∧ i.opened.blocks = i.blocks ∧ i.opened.next = i.next ∧
    i.opened.chain = i.chain ∧ i.opened.ackNext = i.ackNext := by
  unfold Isl.opened
  split <;> exact ⟨rfl, rfl, rfl, rfl, rfl, rfl⟩

/-- A result and its event leave the rest of the island. -/
theorem Isl.told_spec (i : Isl) (r k a b c : Nat) :
    ((((i.result r).event k a b c).tb1 = i.tb1 ∧ ((i.result r).event k a b c).epoch = i.epoch ∧ ((i.result r).event k a b c).uncStart = i.uncStart ∧
      ((i.result r).event k a b c).uncClock = i.uncClock) ∧
    (((i.result r).event k a b c).map = i.map ∧ ((i.result r).event k a b c).ivs = i.ivs ∧ ((i.result r).event k a b c).ackNext = i.ackNext) ∧
    (((i.result r).event k a b c).sealF = i.sealF ∧ ((i.result r).event k a b c).unsealF = i.unsealF) ∧
    (((i.result r).event k a b c).lastResult = r ∧ ((i.result r).event k a b c).token = [])) ∧
    (((i.result r).event k a b c).blocks = i.blocks ∧ ((i.result r).event k a b c).next = i.next ∧
      ((i.result r).event k a b c).chain = i.chain) :=
  ⟨⟨⟨rfl, rfl, rfl, rfl⟩, ⟨rfl, rfl, rfl⟩, ⟨rfl, rfl⟩, rfl, rfl⟩, rfl, rfl, rfl⟩

/-- The room for a record depends on the blocks, the next INDEX and what is acknowledged. -/
theorem Isl.fits.of {i j : Isl} (h : i.fits) (hb : j.blocks = i.blocks) (hn : j.next = i.next) (ha : j.ackNext = i.ackNext) : j.fits := by
  obtain ⟨h1, h2⟩ := h
  refine ⟨?_, by rw [hb, hn]; exact h2⟩
  have hf : j.freeBlocks = i.freeBlocks := by
    unfold Isl.freeBlocks Isl.blockFree
    rw [hb, ha]
  rw [Isl.hasRoom, hn, hf]
  exact h1

/-- IDENTIFY (R376). -/
theorem exec_identify_does {s : State} (hu : s.isl.up = true) : ∃ t later, exec .identify s = .next t ∧
    t.d.io.out = later ++ Out.reader s.isl.addr (s.isl.identity (uncertain s)) :: s.d.io.out ∧ t.isl = s.isl ∧ Obl.islandOnly s t := by
  rw [exec_identify, execIdentify]
  exact onReader_does hu rfl

theorem exec_challenge_does {s : State} (hu : s.isl.up = true) : ∃ t later, exec .challenge s = .next t ∧
    t.d.io.out = later ++ Out.reader s.isl.addr (bytesLE (Config.fresh s.d.fresh).toNat 32) :: s.d.io.out ∧
    t.isl = { s.isl with chal := some (Config.fresh s.d.fresh, s.isl.mono + 60000000000) } ∧ t.d.fresh = s.d.fresh + 1 ∧ t.net = s.net ∧
    t.mem = s.mem ∧ t.pending = s.pending ∧ Dev.sameBut [.src, .flt, .fns, .views, .fresh] s.d t.d := by
  have hsig := (({ s.d with fresh := s.d.fresh + 1 } : Dev).send (.reader s.isl.addr (bytesLE (Config.fresh s.d.fresh).toNat 32))).afterIsl_signals s.isl
    { s.isl with chal := some (Config.fresh s.d.fresh, s.isl.mono + 60000000000) }
  obtain ⟨later, hl⟩ := hsig.sent
  have hfresh := hsig.same .fresh (by decide)
  have hsame : Dev.sameBut [.src, .flt, .fns, .views, .fresh] s.d _ := ((s.d.withFresh_same (s.d.fresh + 1)).mono (by decide)).trans
    (((Dev.send_same _ _).mono (by simp)).trans (hsig.same.mono (by decide)))
  have hx : exec .challenge s = finishIsl s (({ s.d with fresh := s.d.fresh + 1 } : Dev).send
      (.reader s.isl.addr (bytesLE (Config.fresh s.d.fresh).toNat 32)))
      { s.isl with chal := some (Config.fresh s.d.fresh, s.isl.mono + 60000000000) } := by
    rw [exec_challenge, execChallenge, if_neg (by simp [hu])]
    rfl
  rw [finishIsl_next] at hx
  exact ⟨_, later, hx, hl, rfl, hfresh, rfl, rfl, rfl, hsame⟩

theorem exec_seek_does {s : State} (hu : s.isl.up = true) (x : Nat) : ∃ t, exec (.seek 0 x) s = .next t ∧ Obl.islandOnly s t ∧
    (s.isl.next ≤ x → t.isl = { s.isl with lastResult := 4, token := [] }) ∧
    (x < s.isl.next → x < s.isl.oldest → t.isl = { s.isl with lastResult := 2, token := [] }) ∧
    (x < s.isl.next → s.isl.oldest ≤ x →
      t.isl = { s.isl with lastResult := 0, token := [], certs := false, streamPos := x, streamOff := 0, inTrailer := false }) := by
  rw [exec_seek, execSeek]
  obtain ⟨t, hx, hi, ho⟩ := onIsl_does hu (fun i =>
    if 0 = 1 then { i.result 0 with certs := true, streamPos := 0, streamOff := 0, inTrailer := false }
    else if 0 ≠ 0 then i.result (oddResult 0)
    else if i.next ≤ x then i.result 4
    else if x < i.oldest then i.result 2
    else { i.result 0 with certs := false, streamPos := x, streamOff := 0, inTrailer := false })
  dsimp only at hi
  rw [if_neg (by decide), if_neg (by decide)] at hi
  refine ⟨t, hx, ho, fun h => ?_, fun h h2 => ?_, fun h h2 => ?_⟩
  · rw [hi, if_pos h]; rfl
  · rw [hi, if_neg (by omega), if_pos h2]; rfl
  · rw [hi, if_neg (by omega), if_neg (by omega)]; rfl

theorem exec_ack_does {s : State} (hu : s.isl.up = true) (hr : s.isl.reserve = false) (k : DWord) : ∃ t, exec (.ack k) s = .next t ∧ Obl.islandOnly s t ∧
    (s.isl.next ≤ k.toNat → t.isl = { s.isl with lastResult := 4, token := [] }) ∧
    (k.toNat < s.isl.next → t.isl = { s.isl with lastResult := 0, token := [], ackNext := max s.isl.ackNext (k.toNat + 1) }) := by
  rw [exec_ack, execAck]
  obtain ⟨t, hx, hi, ho⟩ := onIsl_does hu (fun i => if i.next ≤ k.toNat then i.result 4 else (i.acknowledge (uncertain s) k.toNat).result 0)
  refine ⟨t, hx, ho, fun h => ?_, fun h => ?_⟩
  · rw [hi, if_pos h]; rfl
  · rw [hi, if_neg (by omega), Isl.acknowledge_eq hr]; rfl

/-- The record of TIME_SET. -/
def Isl.timeRec (i : Isl) (old ns : Nat) : IRec := { typ := 5, flags := i.sealFlag, ports := noPorts 5, tStart := ns, extra := bytesLE old 8 }

/-- The island with its time set, before the record. -/
def Isl.timed (i : Isl) (ns : Nat) : Isl := { i with tb1 := ns, epoch := (i.epoch + 1) % 65536, uncStart := false, splitAt := ns }

/-- The island after TIME_SET. -/
def Isl.timeWritten (i : Isl) (unc : Bool) (ns : Nat) : Isl := (i.timed ns).put unc ((i.timed ns).timeRec i.tb1 ns)

theorem exec_timeSet_next {s : State} (hu : s.isl.up = true) (v : DWord) : ∃ t unc, exec (.timeSet v) s = .next t ∧
    t.isl = ((s.isl.timeWritten unc v.toNat).result 0).event 6 (s.isl.timeWritten unc v.toNat).epoch 0 0 ∧ Obl.islandOnly s t := by
  obtain ⟨t, hx, hi, ho⟩ := onIsl_does hu (fun i => ((i.timeWritten (s.isl.uncClock || s.d.pwr.off || !s.d.pwr.pllLock) v.toNat).result 0).event 6
    (i.timeWritten (s.isl.uncClock || s.d.pwr.off || !s.d.pwr.pllLock) v.toNat).epoch 0 0)
  refine ⟨t, _, ?_, hi, ho⟩
  rw [exec_timeSet, execTimeSet, onIsl_next hu]
  rw [onIsl_next hu] at hx
  exact hx

theorem exec_timeSet_does {s : State} (hu : s.isl.up = true) (hroom : s.isl.fits) (v : DWord) : ∃ t rec, exec (.timeSet v) s = .next t ∧
    s.isl.records t.isl rec ∧ leField rec 8 1 = 5 ∧ leField rec 16 8 = v.toNat ∧
    leField rec 104 8 = s.isl.tb1 % 2 ^ 64 ∧ leField rec 96 2 = (s.isl.epoch + 1) % 65536 ∧ t.isl.tb1 = v.toNat ∧
    t.isl.epoch = (s.isl.epoch + 1) % 65536 ∧ t.isl.uncStart = false ∧ t.isl.uncClock = s.isl.uncClock ∧ t.isl.lastResult = 0 ∧
    t.isl.ivs = s.isl.ivs ∧ t.isl.map = s.isl.map ∧ t.isl.ackNext = s.isl.ackNext ∧ Obl.islandOnly s t := by
  obtain ⟨t, unc, hx, hi, ho⟩ := exec_timeSet_next hu v
  have hfit : (s.isl.timed v.toNat).fits := hroom.of rfl rfl rfl
  have hrec := Isl.put_records hfit unc ((s.isl.timed v.toNat).timeRec s.isl.tb1 v.toNat)
  obtain ⟨⟨⟨htb, hep, hus, huc⟩, ⟨hmap, hivs, hack⟩, -, hres, -⟩, hbl, hnx, hch⟩ :=
    (s.isl.timeWritten unc v.toNat).told_spec 0 6 (s.isl.timeWritten unc v.toNat).epoch 0 0
  rw [← hi] at htb hep hus huc hmap hivs hack hres hbl hnx hch
  have hkeeps := ((s.isl.timed v.toNat).put_stores unc ((s.isl.timed v.toNat).timeRec s.isl.tb1 v.toNat)).keeps
  rw [← Isl.timeWritten] at hkeeps hrec
  obtain ⟨⟨htb1, hep1, hus1, huc1⟩, ⟨hmap1, hivs1, -, -⟩, ⟨-, -, hack1⟩, -⟩ := hkeeps
  refine ⟨t, _, hx, hrec.of (k := s.isl) (l := t.isl) rfl rfl hbl hnx hch, Isl.rec_typ _ _ _, ?_, ?_, ?_, htb.trans htb1, hep.trans hep1, hus.trans hus1,
    huc.trans huc1, hres, hivs.trans hivs1, hmap.trans hmap1, hack.trans hack1, ho⟩
  · rw [Isl.rec_tStart]
    exact Nat.mod_eq_of_lt v.isLt
  · rw [show 104 = 104 + 0 by rfl, Isl.leField_recBytes_extra (by simp [Isl.timeRec, length_bytesLE]) (by decide)]
    exact leField_all
  · rw [Isl.rec_epoch]
    exact Nat.mod_eq_of_lt (Nat.mod_lt _ (by decide))

/-- A change of the seal that is allowed: with a bad token nothing, and with a good one the fuse and its record (R375). -/
theorem exec_sealOp_does {s : State} (hu : s.isl.up = true) {op : Nat} (hop : op ≤ 1)
    (h : op = 1 ∧ s.isl.seals ≤ s.isl.unsealF ∧ s.isl.seals < 8 ∨ op = 0 ∧ s.isl.unsealF < 8) (hroom : s.isl.fits) :
    ∃ t, exec (.sealOp op) s = .next t ∧ Obl.islandOnly s t ∧
      (s.isl.tokenOk op = false → t.isl = { s.isl with lastResult := 5, token := [] }) ∧
      (s.isl.tokenOk op = true → t.isl.sealF = s.isl.sealF + (if op = 1 then 1 else 0) ∧
        t.isl.unsealF = s.isl.unsealF + (if op = 0 then 1 else 0) ∧ t.isl.lastResult = 0 ∧ t.isl.token = [] ∧
        ∃ rec, s.isl.records t.isl rec ∧ leField rec 8 1 = 6 ∧ leField rec 106 1 = t.isl.unsealF % 256 ∧
          leField rec 108 64 = (Config.sha3 s.isl.tokenBytes).toNat) := by
  obtain ⟨t, hx, hi, ho⟩ := onIsl_does hu (fun i =>
    if 2 ≤ op then i.result (oddResult 2)
    else if op = 1 ∧ (i.isSealed ∨ 8 ≤ i.seals) then i.result 3
    else if op = 0 ∧ 8 ≤ i.unsealF then i.result 3
    else if !i.tokenOk op then i.result 5
    else i.changeSeal (uncertain s) op)
  have hs : op = 1 → s.isl.isSealed = false := fun h1 => by
    unfold Isl.isSealed
    simp
    omega
  rw [if_neg (by omega), if_neg (fun h' => by simp [hs h'.1] at h'; omega), if_neg (by omega)] at hi
  refine ⟨t, by rw [exec_sealOp, execSealOp]; exact hx, ho, fun hk => ?_, fun hk => ?_⟩
  · rw [hi, if_pos (by simp [hk])]; rfl
  · rw [if_neg (by simp [hk]), Isl.changeSeal_eq] at hi
    obtain ⟨hsf, huf⟩ := s.isl.fuse_spec hop
    obtain ⟨hb1, hn1, hc1, ha1⟩ := s.isl.fuse_store op
    obtain ⟨hsf2, huf2, hb2, hn2, hc2, ha2⟩ := (s.isl.fuse op).opened_spec
    have hfit : (s.isl.fuse op).opened.fits := hroom.of (hb2.trans hb1) (hn2.trans hn1) (ha2.trans ha1)
    have hrec := Isl.put_records hfit (uncertain s) ((s.isl.fuse op).opened.sealRec (Config.sha3 s.isl.tokenBytes))
    have hkeeps := ((s.isl.fuse op).opened.put_stores (uncertain s) ((s.isl.fuse op).opened.sealRec (Config.sha3 s.isl.tokenBytes))).keeps
    rw [← Isl.resealed] at hkeeps hrec
    obtain ⟨-, -, ⟨hsf3, huf3, -⟩, -⟩ := hkeeps
    obtain ⟨⟨-, -, ⟨hsf4, huf4⟩, hres, htok⟩, hbl, hnx, hch⟩ := (s.isl.resealed (uncertain s) op).told_spec 0 5
      (pack [((s.isl.resealed (uncertain s) op).sealState, 0), ((s.isl.resealed (uncertain s) op).unsealF, 8)]) 0 0
    rw [← hi] at hsf4 huf4 hres htok hbl hnx hch
    have hunseal : t.isl.unsealF = (s.isl.fuse op).opened.unsealF := huf4.trans huf3
    refine ⟨hsf4.trans (hsf3.trans (hsf2.trans hsf)), hunseal.trans (huf2.trans huf), hres, htok, _,
      hrec.of (k := s.isl) (l := t.isl) (hn2.trans hn1).symm (hc2.trans hc1).symm hbl hnx hch, Isl.rec_typ _ _ _, ?_, ?_⟩
    · rw [hunseal, show 106 = 104 + 2 by rfl,
        Isl.leField_recBytes_extra (by simp [Isl.sealRec, length_bytesLE, length_digestBytes]) (by decide)]
      simp [Isl.sealRec, leField_skip_bytesLE, leField_first]
    · rw [show 108 = 104 + 4 by rfl,
        Isl.leField_recBytes_extra (by simp [Isl.sealRec, length_bytesLE, length_digestBytes]) (by decide)]
      simp [Isl.sealRec, leField_skip_bytesLE, leField_skip_byte, leField_digestBytes]

theorem exec_configWrite_does {s : State} (hu : s.isl.up = true) {bs : List Byte} (hs : s.isl.seals ≤ s.isl.unsealF) (h2 : 2 ≤ bs.length)
    (h240 : bs.length ≤ 240) : ∃ t, exec (.configWrite bs) s = .next t ∧ t.isl.cfgData = s.isl.cfgData ++ [bs] ∧ 1 ≤ t.isl.splitMin ∧
      t.isl.splitMin ≤ 1440 ∧ 1 ≤ t.isl.blockMax ∧ t.isl.blockMax ≤ 1440 ∧ t.isl.lastResult = 0 ∧ t.isl.tb1 = s.isl.tb1 ∧ t.isl.next = s.isl.next ∧
        t.isl.sealF = s.isl.sealF ∧ t.isl.unsealF = s.isl.unsealF ∧ Obl.islandOnly s t := by
  obtain ⟨t, hx, hi, ho⟩ := onIsl_does hu (fun i =>
    if i.isSealed then i.result 3
    else if bs.length < 2 ∨ 240 < bs.length then i.result 1
    else
      let data := i.cfgData ++ [bs]
      let c := Config.islandConfig data
      { i.result 0 with cfgData := data, splitMin := clampN c.1 1 1440, blockMax := clampN c.2.1 1 1440, ackSrc := c.2.2 })
  have hclamp : ∀ x, 1 ≤ clampN x 1 1440 ∧ clampN x 1 1440 ≤ 1440 := fun x => by unfold clampN; omega
  dsimp only at hi
  rw [if_neg (by simp [Isl.isSealed]; omega), if_neg (by omega)] at hi
  refine ⟨t, by rw [exec_configWrite, execConfigWrite]; exact hx, ?_⟩
  rw [hi]
  exact ⟨rfl, (hclamp _).1, (hclamp _).2, (hclamp _).1, (hclamp _).2, rfl, rfl, rfl, rfl, rfl, ho⟩

/-- Settles O49: reads, the stream, acknowledgements, the time, tokens, the seal and the configuration. -/
theorem readerPortAnswers : Obligations.ReaderPortAnswers := by
  refine ⟨fun s hu => ⟨?_, ?_, exec_challenge_does hu⟩, fun s x hu => ⟨?_, exec_seek_does hu x⟩, fun s r hu hc ht h0 =>
    ⟨fun ho hr hl => ?_, fun ho hr => ?_, fun ho => ?_⟩, fun s k hu hres => exec_ack_does hu hres k, fun s v hu hroom => exec_timeSet_does hu hroom v,
    fun s n bs hu hn hb hl => ?_, fun s op hu hop => ⟨fun h => ?_, fun h hroom => exec_sealOp_does hu hop h hroom⟩,
    fun s bs hu => ⟨fun hs => ?_, exec_configWrite_does hu⟩⟩
  · obtain ⟨t, later, hx, hout, hi, honly⟩ := exec_identify_does hu
    obtain ⟨h1, h2, h3, h4, h5, h6, h7⟩ := s.isl.identity_fields (uncertain s)
    obtain ⟨h8, h9⟩ := s.isl.identity_head_fields (uncertain s)
    exact ⟨t, later, _, hx, hout, s.isl.length_identity _, h8, h9.trans s.isl.sealState_eq, h1, h2, h3, h4, h5, h6, h7, hi, honly⟩
  · rw [exec_lastResult, execLastResult]
    exact onReader_does hu rfl
  · rw [exec_seek, execSeek]
    exact onIsl_does hu _
  · rw [exec_read, execRead]
    exact onReader_does hu (s.isl.readStream_record hc ht h0 ho hr hl)
  · rw [exec_read, execRead]
    exact onReader_does hu (s.isl.readStream_end hc ht ho hr)
  · rw [exec_read, execRead]
    exact onReader_does hu (s.isl.readStream_gone hc ht ho)
  · obtain ⟨t, hx, hi, ho⟩ := onIsl_does hu (fun i =>
      if 20 ≤ n then { i with lastResult := oddResult 1 }
      else if bs.isEmpty ∨ 239 < bs.length then { i with lastResult := 1 }
      else { i with lastResult := 0, token := i.token.set [] n bs })
    rw [if_neg (by omega), if_neg (by simp [hb]; omega)] at hi
    exact ⟨t, by rw [exec_token, execToken]; exact hx, hi, ho⟩
  · obtain ⟨t, hx, hi, ho⟩ := onIsl_does hu (fun i =>
      if 2 ≤ op then i.result (oddResult 2)
      else if op = 1 ∧ (i.isSealed ∨ 8 ≤ i.seals) then i.result 3
      else if op = 0 ∧ 8 ≤ i.unsealF then i.result 3
      else if !i.tokenOk op then i.result 5
      else i.changeSeal (uncertain s) op)
    refine ⟨t, by rw [exec_sealOp, execSealOp]; exact hx, ?_, ho⟩
    rw [hi, if_neg (by omega)]
    rcases h with ⟨h1, h2⟩ | ⟨h1, h2⟩
    · rw [if_pos ⟨h1, by simpa [Isl.isSealed] using h2⟩]; rfl
    · rw [if_neg (by omega), if_pos ⟨h1, h2⟩]; rfl
  · obtain ⟨t, hx, hi, ho⟩ := onIsl_does hu (fun i =>
      if i.isSealed then i.result 3
      else if bs.length < 2 ∨ 240 < bs.length then i.result 1
      else
        let data := i.cfgData ++ [bs]
        let c := Config.islandConfig data
        { i.result 0 with cfgData := data, splitMin := clampN c.1 1 1440, blockMax := clampN c.2.1 1 1440, ackSrc := c.2.2 })
    dsimp only at hi
    rw [if_pos (by simpa [Isl.isSealed] using hs)] at hi
    exact ⟨t, by rw [exec_configWrite, execConfigWrite]; exact hx, hi, ho⟩

end Sys2Proof.Machine

/-! ## Samples and the claimed map (O47) -/
namespace Sys2Proof.Machine
set_option Elab.async false

/-! ### Tables -/

theorem Tab.mem_of_get {α : Type} {d v : α} {k : Nat} : ∀ {t : Tab α}, t.get d k = v → v ≠ d → (k, v) ∈ t := by
  intro t
  induction t with
  | nil => intro h hv; exact absurd h.symm hv
  | cons p t ih =>
    obtain ⟨k', w⟩ := p
    intro h hv
    rw [Tab.get] at h
    split at h
    · next hk => rw [← hk, ← h]; exact List.mem_cons_self
    · exact List.mem_cons_of_mem _ (ih h hv)

theorem Tab.get_of_mem {α : Type} [DecidableEq α] {d v : α} {k : Nat} {t : Tab α} (hw : Tab.wf d t = true) (h : (k, v) ∈ t) : t.get d k = v := by
  have hp := ((Tab.wf_iff d t).mp hw).1
  clear hw
  induction t with
  | nil => cases h
  | cons p t ih =>
    obtain ⟨k', w⟩ := p
    obtain ⟨h1, h2⟩ := List.pairwise_cons.mp hp
    rw [Tab.get]
    rcases List.mem_cons.mp h with h | h
    · obtain ⟨rfl, rfl⟩ := Prod.mk.inj h
      exact if_pos rfl
    · rw [if_neg (by have := h1 _ h; dsimp only at this; omega)]
      exact ih h h2

/-! ### A half of a sample -/

/-- An interval with one half of a sample: complete, with both of one millisecond (R366). -/
def Interval.halved (v : Interval) (c : Claim) (blank : Bool) (ms p : Nat) (input : Bool) : Interval :=
  let v := if input then { v with pIn := some (ms, p) } else { v with pOut := some (ms, p) }
  match v.pIn, v.pOut with
  | some (m1, a), some (m2, b) => if m1 = m2 then v.sample c blank a b else v
  | _, _ => v

/-- The same of an output, if it has an interval and a claim. -/
def halvedOf (v : Option Interval) (c : Option Claim) (blank : Bool) (ms p : Nat) (input : Bool) : Option Interval :=
  match v, c with
  | some v, some c => some (v.halved c blank ms p input)
  | v, _ => v

/-- Half a sample changes the interval of its output alone. -/
theorem Isl.half_eq (i : Isl) (o ms p : Nat) (input : Bool) : ∃ x, i.half o ms p input = { i with ivs := x } ∧
    ∀ k, x.get none k = if k = o then halvedOf (i.ivs.get none o) (i.map.get none o) i.blank ms p input else i.ivs.get none k := by
  unfold Isl.half halvedOf
  cases hv : i.ivs.get none o with
  | none => exact ⟨i.ivs, rfl, fun k => by split <;> simp_all⟩
  | some v =>
    cases hc : i.map.get none o with
    | none => exact ⟨i.ivs, rfl, fun k => by split <;> simp_all⟩
    | some c => exact ⟨_, rfl, fun k => Tab.get_set _ _ _ _ _⟩

/-- Halves of samples at outputs named once. -/
theorem Isl.halves_eq (ms p : Nat) (input : Bool) : ∀ (os : List Nat) (i : Isl), os.Nodup →
    ∃ x, os.foldl (fun i o => i.half o ms p input) i = { i with ivs := x } ∧
      ∀ k, x.get none k = if k ∈ os then halvedOf (i.ivs.get none k) (i.map.get none k) i.blank ms p input else i.ivs.get none k := by
  intro os
  induction os with
  | nil => intro i _; exact ⟨i.ivs, rfl, fun k => by simp⟩
  | cons o os ih =>
    intro i hn
    obtain ⟨ho, hn⟩ := List.nodup_cons.mp hn
    obtain ⟨x, hx, hget⟩ := i.half_eq o ms p input
    obtain ⟨y, hy, hget2⟩ := ih { i with ivs := x } hn
    refine ⟨y, by rw [List.foldl_cons, hx, hy], fun k => ?_⟩
    rw [hget2, hget]
    by_cases hk : k = o
    · subst hk
      simp [ho]
    · simp [hk]

/-- The energies of a sample. -/
def Interval.energies (v : Interval) (pin pout : Nat) : Interval :=
  { v with n := v.n + 1, ovr := v.ovr || decide (nwOver < pin) || decide (nwOver < pout),
           eIn := if nwFloor ≤ pin then v.eIn + pin else v.eIn, sqIn := if nwFloor ≤ pin then v.sqIn + pin * pin else v.sqIn,
           eOut := if nwFloor ≤ pout then v.eOut + pout else v.eOut, sqOut := if nwFloor ≤ pout then v.sqOut + pout * pout else v.sqOut }

/-- The class of a sample. -/
def Interval.classed (v : Interval) (blank : Bool) (a pin pout : Nat) : Interval :=
  if blank then { v with tBlank := v.tBlank + 1 }
  else if pin < nwDark then { v with tDark := v.tDark + 1 }
  else if !overLoss pin pout a 152 && !underLoss pin pout a then { v with tSpec := v.tSpec + 1 }
  else v

/-- The cross-check of a sample. -/
def Interval.crossed (v : Interval) (blank : Bool) (a pin pout : Nat) : Interval :=
  if blank || decide (pin < nwEval) then v
  else if overLoss pin pout a 400 || underLoss pin pout a then
    { v with evald := v.evald + 1, bad := v.bad + 1, contra := v.contra || decide (100 ≤ v.bad + 1) }
  else { v with evald := v.evald + 1, bad := 0 }

theorem Interval.sample_eq (v : Interval) (c : Claim) (blank : Bool) (pin pout : Nat) :
    v.sample c blank pin pout = ((v.energies pin pout).classed blank c.att pin pout).crossed blank c.att pin pout := rfl

/-- A class is counted, and nothing else. -/
theorem Interval.classed_spec (v : Interval) (blank : Bool) (a pin pout : Nat) :
    (v.classed blank a pin pout).tBlank = v.tBlank + (if blank then 1 else 0) ∧
      (v.classed blank a pin pout).tDark = v.tDark + (if !blank ∧ pin < 317 then 1 else 0) ∧
      (v.classed blank a pin pout).tSpec =
        v.tSpec + (if !blank ∧ 317 ≤ pin ∧ overLoss pin pout a 152 = false ∧ underLoss pin pout a = false then 1 else 0) ∧
      ∃ x y z, v.classed blank a pin pout = { v with tBlank := x, tDark := y, tSpec := z } := by
  unfold Interval.classed nwDark
  cases blank with
  | true => exact ⟨rfl, by simp, by simp, _, _, _, rfl⟩
  | false =>
    by_cases hd : pin < 317
    · have h3 : ¬ 317 ≤ pin := by omega
      simp only [Bool.false_eq_true, if_false, if_pos hd]
      exact ⟨rfl, by simp [hd], by simp [h3], _, _, _, rfl⟩
    · have h3 : 317 ≤ pin := by omega
      simp only [Bool.false_eq_true, if_false, if_neg hd]
      by_cases hs : overLoss pin pout a 152 = false ∧ underLoss pin pout a = false
      · rw [if_pos (by simp [hs])]
        exact ⟨rfl, by simp [hd], by simp [h3, hs], _, _, _, rfl⟩
      · rw [if_neg (by simpa using hs)]
        exact ⟨rfl, by simp [hd], by rw [if_neg (fun h => hs h.2.2)]; rfl, _, _, _, rfl⟩

/-- The cross-check of a sample that is evaluated. -/
theorem Interval.crossed_spec (v : Interval) (blank : Bool) (a pin pout : Nat) :
    (blank = true ∨ pin < 1000 → v.crossed blank a pin pout = v) ∧
    (blank = false → 1000 ≤ pin → (v.crossed blank a pin pout).evald = v.evald + 1 ∧
      (v.crossed blank a pin pout).bad = (if overLoss pin pout a 400 ∨ underLoss pin pout a then v.bad + 1 else 0) ∧
      (v.crossed blank a pin pout).contra = (v.contra || decide (100 ≤ (v.crossed blank a pin pout).bad))) ∧
    ∃ x y z, v.crossed blank a pin pout = { v with evald := x, bad := y, contra := z } := by
  unfold Interval.crossed nwEval
  by_cases he : blank = true ∨ pin < 1000
  · rw [if_pos (by simpa using he)]
    refine ⟨fun _ => rfl, fun hb hp => ?_, _, _, _, rfl⟩
    rcases he with he | he
    · rw [hb] at he; cases he
    · omega
  · rw [if_neg (by simpa using he)]
    refine ⟨fun h => absurd h he, ?_⟩
    by_cases hc : overLoss pin pout a 400 = true ∨ underLoss pin pout a = true
    · rw [if_pos (by simpa using hc), if_pos hc]
      exact ⟨fun _ _ => ⟨rfl, rfl, rfl⟩, _, _, _, rfl⟩
    · rw [if_neg (by simpa using hc), if_neg hc]
      exact ⟨fun _ _ => ⟨rfl, rfl, by simp⟩, _, _, _, rfl⟩

/-- A complete sample (R366, R367). -/
theorem Interval.sample_spec (v : Interval) (c : Claim) (blank : Bool) (pin pout : Nat) :
    Obl.sampled v (v.sample c blank pin pout) blank (c.atten + (if c.bridge then 68 else 0)) pin pout := by
  rw [Interval.sample_eq, show c.atten + (if c.bridge then 68 else 0) = c.att by unfold Claim.att bridgeAtt; rfl]
  obtain ⟨hb, hd, hs, x, y, z, hx⟩ := (v.energies pin pout).classed_spec blank c.att pin pout
  obtain ⟨h1, h2, x', y', z', hy⟩ := ((v.energies pin pout).classed blank c.att pin pout).crossed_spec blank c.att pin pout
  have hfloor : ∀ e p : Nat, (if nwFloor ≤ p then e + p else e) = e + (if 100 ≤ p then p else 0) := fun e p => by
    unfold nwFloor
    split <;> rfl
  have hev : ((v.energies pin pout).classed blank c.att pin pout).evald = v.evald ∧ ((v.energies pin pout).classed blank c.att pin pout).bad = v.bad ∧
      ((v.energies pin pout).classed blank c.att pin pout).contra = v.contra := by
    rw [hx]
    exact ⟨rfl, rfl, rfl⟩
  refine ⟨by rw [hy, hx]; rfl, by rw [hy, hx]; exact hfloor _ _, by rw [hy, hx]; exact hfloor _ _, by rw [hy]; exact hb, by rw [hy]; exact hd,
    by rw [hy]; exact hs, fun h => by rw [h1 h]; exact hev, fun hbl hp => ?_, by rw [hy, hx]; rfl, by rw [hy, hx]; rfl, by rw [hy, hx]; rfl⟩
  obtain ⟨h3, h4, h5⟩ := h2 hbl hp
  rw [hev.1] at h3
  rw [hev.2.1] at h4
  rw [hev.2.2] at h5
  exact ⟨h3, h4, h5⟩

theorem Interval.sample_pOut (v : Interval) (c : Claim) (blank : Bool) (pin pout : Nat) : (v.sample c blank pin pout).pOut = v.pOut := by
  obtain ⟨-, -, -, x, y, z, hx⟩ := (v.energies pin pout).classed_spec blank c.att pin pout
  obtain ⟨-, -, x', y', z', hy⟩ := ((v.energies pin pout).classed blank c.att pin pout).crossed_spec blank c.att pin pout
  rw [Interval.sample_eq, hy, hx]
  rfl

/-- An output's sample that completes its input's (R366). -/
theorem Isl.half_completes {i : Isl} {o ms p a : Nat} {v : Interval} {c : Claim} (hv : i.ivs.get none o = some v) (hc : i.map.get none o = some c)
    (hin : v.pIn = some (ms, a)) : i.half o ms p false =
      { i with ivs := i.ivs.set none o (some (({ v with pOut := some (ms, p) } : Interval).sample c i.blank a p)) } := by
  unfold Isl.half
  rw [hv, hc]
  simp only [Bool.false_eq_true, if_false, hin, if_true]

/-! ### Taps -/

theorem Isl.copyBlank_same {i : Isl} {f : Flt} (h : i.blank = (f.blank && !f.releasing)) : i.copyBlank f = i := by
  unfold Isl.copyBlank
  exact if_neg (by simp [h])

/-- A tap's sample of a millisecond that it has not had (R359, R366). -/
theorem exec_islandSample_does {s : State} {tap p ms : Nat} (hu : s.isl.up = true) (ht : tap < 1024) (hms : ms = s.isl.tb1 / 1000000)
    (hslot : s.isl.tb1 % 1000000 / 15625 = tap % 64) (hnew : s.isl.taps.get 0 tap ≠ ms + 1) (hb : s.isl.blank = (s.d.flt.blank && !s.d.flt.releasing)) :
    ∃ t, exec (.islandSample tap p) s = .next t ∧ Obl.islandOnly s t ∧ t.isl =
      if tap < 512 then ((s.isl.ivs.filter (fun e => match e.2 with
          | some v => v.inp == tap
          | none => false)).map (·.1)).foldl (fun i o => i.half o ms p true) { s.isl with taps := s.isl.taps.set 0 tap (ms + 1) }
      else if (s.isl.map.get none (tap - 512)).isSome then ({ s.isl with taps := s.isl.taps.set 0 tap (ms + 1) } : Isl).half (tap - 512) ms p false
      else ({ s.isl with taps := s.isl.taps.set 0 tap (ms + 1) } : Isl).unclSample (uncertain s) (tap - 512) p := by
  subst hms
  obtain ⟨t, hx, hi, ho⟩ := onIsl_does hu (fun i =>
    let i := { i with taps := i.taps.set 0 tap (s.isl.tb1 / 1000000 + 1) }
    if tap < 512 then
      ((i.ivs.filter (fun e => match e.2 with
        | some v => v.inp == tap
        | none => false)).map (·.1)).foldl (fun i o => i.half o (s.isl.tb1 / 1000000) p true) i
    else if (i.map.get none (tap - 512)).isSome then i.half (tap - 512) (s.isl.tb1 / 1000000) p false
    else i.unclSample (uncertain s) (tap - 512) p)
  refine ⟨t, ?_, ho, hi⟩
  rw [exec_islandSample, execIslandSample, Isl.copyBlank_same hb]
  dsimp only
  rw [if_neg (by rintro (h | h | h) <;> omega)]
  exact hx

/-- Nothing of the island's time, fuses, acknowledgement and configuration differs. -/
theorem islandKeeps_of {s t : State} {i j : Isl} (hi : t.isl = j) (hs : i.stores j) (h : i.tb1 = s.isl.tb1 ∧ i.epoch = s.isl.epoch ∧ i.sealF = s.isl.sealF ∧
    i.unsealF = s.isl.unsealF ∧ i.ackNext = s.isl.ackNext ∧ i.splitMin = s.isl.splitMin ∧ i.blockMax = s.isl.blockMax ∧ i.ackSrc = s.isl.ackSrc ∧
    i.cfgData = s.isl.cfgData) : Obl.islandKeeps s t := by
  obtain ⟨⟨h1, h2, -, -⟩, -, ⟨h3, h4, h5⟩, h6, h7, h8, h9⟩ := hs.keeps
  obtain ⟨g1, g2, g3, g4, g5, g6, g7, g8, g9⟩ := h
  unfold Obl.islandKeeps
  rw [hi, h1, h2, h3, h4, h5, h6, h7, h8, h9]
  exact ⟨g1, g2, g3, g4, g5, g6, g7, g8, g9⟩

/-- Light at an output that no claim names. -/
theorem Isl.unclSample_light {i : Isl} {p : Nat} (h : 317 ≤ p) (unc : Bool) (o : Nat) : ∃ x, i.unclSample unc o p = { i with uncl := x } ∧
    (x.get {} o).count = (if i.blank then 0 else min 100 ((i.uncl.get {} o).count + 1)) ∧
    (x.get {} o).eOut = (i.uncl.get {} o).eOut + (if (i.uncl.get {} o).isOpen then p else 0) := by
  unfold Isl.unclSample
  rw [if_neg (by unfold nwDark; omega)]
  refine ⟨_, rfl, ?_, ?_⟩ <;> rw [Tab.get_mod_self] <;> cases (i.uncl.get {} o).isOpen <;> cases i.blank <;> rfl

/-- With no reserve a closed record is put, and a contradiction is told. -/
theorem Isl.close_put {i : Isl} (h : i.reserve = false) (unc : Bool) (r : IRec) : ∃ ev, i.close unc r = { i.put unc r with events := ev } := by
  unfold Isl.close
  rw [if_neg (by simp [h])]
  dsimp only
  split
  · exact ⟨_, rfl⟩
  · exact ⟨_, rfl⟩

theorem Isl.events_stores (i : Isl) (ev : List (Nat × Nat × Nat × Nat)) : i.stores { i with events := ev } := ⟨_, _, _, _, _, _, _, rfl⟩

/-- What the close of a record changes. -/
theorem Isl.close_stores (i : Isl) (unc : Bool) (r : IRec) : i.stores (i.close unc r) := by
  cases h : i.reserve with
  | false =>
    obtain ⟨ev, he⟩ := Isl.close_put h unc r
    rw [he]
    exact (i.put_stores unc r).trans (Isl.events_stores _ _)
  | true =>
    unfold Isl.close
    rw [if_pos h]
    exact ⟨_, _, _, _, _, _, _, rfl⟩

/-- A record that fits, closed with no reserve, is written. -/
theorem Isl.close_records {i : Isl} (h : i.fits) (hr : i.reserve = false) (unc : Bool) (r : IRec) : i.records (i.close unc r) (i.recBytes unc r) := by
  obtain ⟨ev, he⟩ := Isl.close_put hr unc r
  rw [he]
  exact (Isl.put_records h unc r).of rfl rfl rfl rfl rfl

theorem Isl.closeUncl_open {i : Isl} {o : Nat} (h : (i.uncl.get {} o).isOpen = true) (unc : Bool) (tEnd flags : Nat) : i.closeUncl unc o tEnd flags =
    ({ i with uncl := i.uncl.set {} o { count := (i.uncl.get {} o).count } } : Isl).close unc ((i.uncl.get {} o).toRec o tEnd flags) := by
  unfold Isl.closeUncl
  exact if_neg (by simp [h])

/-- The island with the count of an output's light at 0. -/
def Isl.darkened (i : Isl) (o : Nat) : Isl := { i with uncl := i.uncl.mod {} o (fun u => { u with count := 0 }) }

theorem Isl.uncl_darkened (i : Isl) (o : Nat) : (i.darkened o).uncl.get {} o = { i.uncl.get {} o with count := 0 } :=
  Tab.get_mod_self ({} : Unclaimed) i.uncl o (fun u => { u with count := 0 })

/-- The island whose output has no open record. -/
def Isl.unopened (i : Isl) (o : Nat) : Isl := { i with uncl := (i.darkened o).uncl.set {} o {} }

/-- The end of light at an output with an open record. -/
theorem Isl.unclSample_dark {i : Isl} {p o : Nat} (h : p < 317) (hopen : (i.uncl.get {} o).isOpen = true) (unc : Bool) :
    i.unclSample unc o p = (i.unopened o).close unc (({ i.uncl.get {} o with count := 0 } : Unclaimed).toRec o i.tb1 0) := by
  have hs : i.unclSample unc o p = (i.darkened o).closeUncl unc o i.tb1 0 := if_pos h
  rw [hs, Isl.closeUncl_open (by rw [Isl.uncl_darkened]; exact hopen), Isl.uncl_darkened]
  rfl

/-! ### Entries of the claimed map -/

/-- The claim of an entry. -/
def claimOf (e : LinkEntry) : Option Claim := e.inp.map (fun p => { inp := p, bridge := e.bridge, atten := e.atten })

/-- What an entry can change. -/
def Isl.follows (i j : Isl) : Prop := ∃ m v u k, k = { i with map := m, ivs := v, uncl := u } ∧ k.stores j

theorem Isl.follows.trans {i j k : Isl} (h : i.follows j) (h' : j.follows k) : i.follows k := by
  obtain ⟨_, _, _, _, rfl, _, _, _, _, _, _, _, rfl⟩ := h
  obtain ⟨_, _, _, _, rfl, _, _, _, _, _, _, _, rfl⟩ := h'
  exact ⟨_, _, _, _, rfl, _, _, _, _, _, _, _, rfl⟩

theorem Isl.stores.follows {i j : Isl} (h : i.stores j) : i.follows j := ⟨_, _, _, i, rfl, h⟩

theorem Isl.follows.refl (i : Isl) : i.follows i := (Isl.stores.refl i).follows

theorem Isl.follows_ivs (i : Isl) (m : Tab (Option Claim)) (v : Tab (Option Interval)) (u : Tab Unclaimed) :
    i.follows { i with map := m, ivs := v, uncl := u } := ⟨_, _, _, _, rfl, .refl _⟩

/-- The close of an interval: its output has none, and every other keeps its own. -/
theorem Isl.closeIv_spec (i : Isl) (unc : Bool) (o tEnd esnEnd flags : Nat) :
    i.follows (i.closeIv unc o tEnd esnEnd flags) ∧ (i.closeIv unc o tEnd esnEnd flags).map = i.map ∧
      ∀ k, (i.closeIv unc o tEnd esnEnd flags).ivs.get none k = if k = o then none else i.ivs.get none k := by
  unfold Isl.closeIv
  cases hv : i.ivs.get none o with
  | none => exact ⟨.refl i, rfl, fun k => by split <;> simp_all⟩
  | some v =>
    have hs := ({ i with ivs := i.ivs.set none o none } : Isl).close_stores unc (v.toRec o tEnd esnEnd flags)
    obtain ⟨-, ⟨hm, hi, -, -⟩, -, -⟩ := hs.keeps
    refine ⟨(i.follows_ivs i.map _ i.uncl).trans hs.follows, hm, fun k => ?_⟩
    rw [hi]
    exact Tab.get_set _ _ _ _ _

theorem Isl.closeUncl_spec (i : Isl) (unc : Bool) (o tEnd flags : Nat) :
    i.follows (i.closeUncl unc o tEnd flags) ∧ (i.closeUncl unc o tEnd flags).map = i.map ∧ (i.closeUncl unc o tEnd flags).ivs = i.ivs := by
  unfold Isl.closeUncl
  dsimp only
  split
  · exact ⟨.refl i, rfl, rfl⟩
  · have hs := ({ i with uncl := i.uncl.set {} o { count := (i.uncl.get {} o).count } } : Isl).close_stores unc ((i.uncl.get {} o).toRec o tEnd flags)
    obtain ⟨-, ⟨hm, hi, -, -⟩, -, -⟩ := hs.keeps
    exact ⟨(i.follows_ivs i.map i.ivs _).trans hs.follows, hm, hi⟩

theorem Isl.openIv_spec (i : Isl) (o : Nat) (c : Claim) (v : Interval) : i.follows (i.openIv o c v) ∧ (i.openIv o c v).map = i.map ∧
    ((i.openIv o c v).ivs.get none o).isSome = true ∧ ∀ k, k ≠ o → (i.openIv o c v).ivs.get none k = i.ivs.get none k := by
  refine ⟨i.follows_ivs i.map _ i.uncl, rfl, ?_, fun k hk => ?_⟩
  · unfold Isl.openIv
    rw [Tab.get_set_self]
    rfl
  · unfold Isl.openIv
    rw [Tab.get_set, if_neg hk]

/-- An entry: the claim of its output is the entry's, with an interval if it names an input, and every other output keeps its own. -/
theorem Isl.entry_spec (i : Isl) (unc : Bool) (stamp es ee : Nat) (tb0 : Option Nat) (flags : Nat) (e : LinkEntry) :
    i.follows (i.entry unc stamp es ee tb0 flags e) ∧
    (∀ k, (i.entry unc stamp es ee tb0 flags e).map.get none k = if k = e.out then (claimOf e) else i.map.get none k) ∧
    ((claimOf e).isSome = true → ((i.entry unc stamp es ee tb0 flags e).ivs.get none e.out).isSome = true) ∧
    ∀ k, k ≠ e.out → (i.entry unc stamp es ee tb0 flags e).ivs.get none k = i.ivs.get none k := by
  have hmap : ∀ k, (i.map.set none e.out (claimOf e)).get none k = if k = e.out then (claimOf e) else i.map.get none k := fun k => Tab.get_set _ _ _ _ _
  have hfm : i.follows { i with map := i.map.set none e.out (claimOf e) } := i.follows_ivs _ i.ivs i.uncl
  unfold Isl.entry
  rw [show (e.inp.map (fun p => ({ inp := p, bridge := e.bridge, atten := e.atten } : Claim))) = (claimOf e) from rfl]
  dsimp only
  split
  · next hn =>
    refine ⟨hfm, hmap, ?_, fun k _ => rfl⟩
    simp [hn]
  · next hn =>
    obtain ⟨h1, h2, h3⟩ := ({ i with map := i.map.set none e.out (claimOf e) } : Isl).closeIv_spec unc e.out stamp ee flags
    refine ⟨hfm.trans h1, fun k => by rw [h2]; exact hmap k, ?_, fun k hk => by rw [h3, if_neg hk]⟩
    simp [hn]
  · next c _ hc =>
    obtain ⟨h1, h2, h3⟩ := ({ i with map := i.map.set none e.out (claimOf e) } : Isl).closeUncl_spec unc e.out stamp flags
    obtain ⟨g1, g2, g3, g4⟩ := Isl.openIv_spec (({ i with map := i.map.set none e.out (claimOf e) } : Isl).closeUncl unc e.out stamp flags) e.out c
      { tStart := stamp, esnStart := es, tb0Start := tb0, resync := flags == 0x100, openStart := i.started && flags == 0x100 }
    exact ⟨hfm.trans (h1.trans g1), fun k => by rw [← hmap k]; exact congrArg (·.get none k) (g2.trans h2), fun _ => g3, fun k hk => by
      rw [← congrArg (·.get none k) h3]; exact g4 k hk⟩
  · next o c _ hc =>
    split
    · next hk =>
      refine ⟨hfm.trans (Isl.follows_ivs _ _ _ _), hmap, fun _ => ?_, fun k hk => Tab.get_mod_ne _ _ _ hk⟩
      unfold Isl.keepIv
      rw [Tab.get_mod_self, Option.isSome_map]
      exact hk.2
    · obtain ⟨h1, h2, h3⟩ := ({ i with map := i.map.set none e.out (claimOf e) } : Isl).closeIv_spec unc e.out stamp ee flags
      obtain ⟨g1, g2, g3, g4⟩ := Isl.openIv_spec (({ i with map := i.map.set none e.out (claimOf e) } : Isl).closeIv unc e.out stamp ee flags) e.out c
        { tStart := stamp, esnStart := es, tb0Start := tb0, resync := flags == 0x100, openStart := i.started && flags == 0x100 }
      refine ⟨hfm.trans (h1.trans g1), fun k => ?_, fun _ => g3, fun k hk => ?_⟩
      · rw [← hmap k]
        exact congrArg (·.get none k) (g2.trans h2)
      · rw [← (show _ = i.ivs.get none k from (h3 k).trans (if_neg hk))]
        exact g4 k hk

/-- Entries of outputs named once, one after another. -/
theorem Isl.entries_spec {g : Isl → LinkEntry → Isl} (hg : ∀ i e, i.follows (g i e) ∧
      (∀ k, (g i e).map.get none k = if k = e.out then claimOf e else i.map.get none k) ∧
      ((claimOf e).isSome = true → ((g i e).ivs.get none e.out).isSome = true) ∧ ∀ k, k ≠ e.out → (g i e).ivs.get none k = i.ivs.get none k) :
    ∀ (es : List LinkEntry) (i : Isl), (es.map (·.out)).Nodup → i.follows (es.foldl g i) ∧
      (∀ e ∈ es, (es.foldl g i).map.get none e.out = claimOf e ∧ ((claimOf e).isSome = true → ((es.foldl g i).ivs.get none e.out).isSome = true)) ∧
      ∀ k, k ∉ es.map (·.out) → (es.foldl g i).map.get none k = i.map.get none k ∧ (es.foldl g i).ivs.get none k = i.ivs.get none k := by
  intro es
  induction es with
  | nil => intro i _; exact ⟨.refl i, fun e he => (by cases he), fun k _ => ⟨rfl, rfl⟩⟩
  | cons e es ih =>
    intro i hn
    obtain ⟨he, hn⟩ := List.nodup_cons.mp hn
    obtain ⟨h1, h2, h3, h4⟩ := hg i e
    obtain ⟨g1, g2, g3⟩ := ih (g i e) hn
    obtain ⟨f1, f2⟩ := g3 e.out he
    rw [List.foldl_cons]
    refine ⟨h1.trans g1, fun x hx => ?_, fun k hk => ?_⟩
    · rcases List.mem_cons.mp hx with rfl | hx
      · exact ⟨by rw [f1, h2, if_pos rfl], fun hc => by rw [f2]; exact h3 hc⟩
      · exact g2 x hx
    · rw [List.map_cons, List.mem_cons, not_or] at hk
      obtain ⟨f1, f2⟩ := g3 k hk.2
      exact ⟨by rw [f1, h2, if_neg hk.1], by rw [f2, h4 k hk.1]⟩

/-- The entries of a full map, one an output. -/
def fullEntries (es : List LinkEntry) : List LinkEntry :=
  (List.range 512).map (fun o => (es.find? (fun e => e.out == o)).getD { out := o, inp := none, bridge := false, atten := 0 })

theorem fullEntry_out (es : List LinkEntry) (o : Nat) :
    ((es.find? (fun e => e.out == o)).getD { out := o, inp := none, bridge := false, atten := 0 }).out = o := by
  cases h : es.find? (fun e => e.out == o) with
  | none => rfl
  | some e => simpa using List.find?_some h

theorem fullEntries_out (es : List LinkEntry) : (fullEntries es).map (·.out) = List.range 512 := by
  unfold fullEntries
  rw [List.map_map]
  refine (List.map_congr_left fun o _ => ?_).trans (List.map_id _)
  exact fullEntry_out es o

theorem claimOf_fullEntry (es : List LinkEntry) (o : Nat) :
    claimOf ((es.find? (fun e => e.out == o)).getD { out := o, inp := none, bridge := false, atten := 0 }) =
      (es.find? (fun e => e.out == o)).bind (fun e => e.inp.map (fun p => ({ inp := p, bridge := e.bridge, atten := e.atten } : Claim))) := by
  cases h : es.find? (fun e => e.out == o) <;> rfl

/-! ### Deltas -/

/-- The island with a message of the link, and without the strobes up to its own. -/
def Isl.linked (i : Isl) (n : Nat) : Isl := { i with lastLink := i.mono, fifo := i.fifo.filter (fun f => decide (n < f.1)) }

/-- A delta of one entry at a strobe that the island has seen. -/
theorem exec_delta_does {s : State} {n stamp : Nat} (hu : s.isl.up = true) (hd : s.isl.deaf = false)
    (hf : s.isl.fifo.find? (fun f => f.1 == n) = some (n, stamp)) (esn tb0 : Nat) (rel : Bool) {e : LinkEntry} (ho : e.out < 512) :
    ∃ t, exec (.snapshotLinkDelta (some n) esn tb0 rel [e]) s = .next t ∧
      t.isl = (s.isl.linked n).entry (uncertain s) stamp esn (if rel then 0 else esn) (some tb0) 0 e ∧ Obl.islandOnly s t := by
  obtain ⟨t, hx, hi, hi2⟩ := onIsl_does hu (fun i =>
    let i := { i with lastLink := i.mono }
    if i.deaf then i
    else
      let stamp := (((some n).bind (fun n => i.fifo.find? (fun f => f.1 == n))).map (·.2)).getD i.tb1
      let i := { i with fifo := match some n with
        | some n => i.fifo.filter (fun f => decide (n < f.1))
        | none => i.fifo }
      [e].foldl (fun i e => if e.out < 512 then i.entry (uncertain s) stamp esn (if rel then 0 else esn) (some tb0) 0 e else i) i)
  refine ⟨t, ?_, ?_, hi2⟩
  · rw [exec_snapshotLinkDelta, execSnapshotLinkDelta]
    exact hx
  · rw [hi]
    dsimp only
    rw [if_neg (by simp [hd]), List.foldl_cons, List.foldl_nil, if_pos ho, Option.bind_some, hf]
    rfl

/-- An entry of an output that has no claim opens an interval. -/
theorem Isl.entry_opens {i : Isl} {e : LinkEntry} {p : Nat} (hp : e.inp = some p) (hm : i.map.get none e.out = none)
    (hn : (i.uncl.get {} e.out).isOpen = false) (unc : Bool) (stamp es ee : Nat) (tb0 : Option Nat) :
    i.entry unc stamp es ee tb0 0 e = ({ i with map := i.map.set none e.out (some { inp := p, bridge := e.bridge, atten := e.atten }) } : Isl).openIv e.out
      { inp := p, bridge := e.bridge, atten := e.atten } { tStart := stamp, esnStart := es, tb0Start := tb0, openStart := i.started && false } := by
  have hc : ∀ j : Isl, (j.uncl.get {} e.out).isOpen = false → j.closeUncl unc e.out stamp 0 = j := fun j hj => if_pos (by simp [hj])
  unfold Isl.entry
  rw [hp, hm]
  dsimp only [Option.map_some]
  rw [hc { i with map := i.map.set none e.out (some { inp := p, bridge := e.bridge, atten := e.atten }) } hn]
  rfl

/-- An entry of an output whose input stays keeps its interval. -/
theorem Isl.entry_keeps {i : Isl} {e : LinkEntry} {p : Nat} {c : Claim} {v : Interval} (hp : e.inp = some p) (hm : i.map.get none e.out = some c)
    (hc : c.inp = p) (hv : i.ivs.get none e.out = some v) (unc : Bool) (stamp es ee : Nat) (tb0 : Option Nat) :
    i.entry unc stamp es ee tb0 0 e = ({ i with map := i.map.set none e.out (some { inp := p, bridge := e.bridge, atten := e.atten }) } : Isl).keepIv e.out
      { inp := p, bridge := e.bridge, atten := e.atten } := by
  unfold Isl.entry
  rw [hp, hm]
  dsimp only [Option.map_some]
  exact if_pos ⟨hc, by rw [hv]; rfl⟩

/-- The island without the claim and the interval of an output. -/
def Isl.cleared (i : Isl) (o : Nat) : Isl := { i with map := i.map.set none o none, ivs := i.ivs.set none o none }

/-- An entry without an input closes its output's interval. -/
theorem Isl.entry_closes {i : Isl} {e : LinkEntry} {c : Claim} {v : Interval} (hp : e.inp = none) (hm : i.map.get none e.out = some c)
    (hv : i.ivs.get none e.out = some v) (unc : Bool) (stamp es ee : Nat) (tb0 : Option Nat) :
    i.entry unc stamp es ee tb0 0 e = (i.cleared e.out).close unc (v.toRec e.out stamp ee 0) := by
  unfold Isl.entry
  rw [hp, hm]
  dsimp only [Option.map_none]
  unfold Isl.closeIv
  dsimp only
  rw [hv]
  rfl

/-- The close of a record with a reserve: it is counted in the gap. -/
theorem Isl.close_lost {i : Isl} (h : i.reserve = true) (unc : Bool) (r : IRec) : (i.close unc r).next = i.next ∧ (i.close unc r).chain = i.chain ∧
    (i.close unc r).gap.lost = i.gap.lost + 1 ∧ (i.close unc r).gap.energy = i.gap.energy + r.eOut := by
  unfold Isl.close
  rw [if_pos h]
  refine ⟨rfl, rfl, ?_, ?_⟩ <;> dsimp only <;> split <;> rfl

/-- The full map that a deaf island follows. -/
theorem exec_fullMap_does {s : State} (hu : s.isl.up = true) (hd : s.isl.deaf = true) (es : List LinkEntry) : ∃ t j, exec (.fullMap es) s = .next t ∧
    t.isl = { j with deaf := false, started := false } ∧ Obl.islandOnly s t ∧
    j = (fullEntries es).foldl (fun i e => i.entry (uncertain s) i.tb1 0 0 none 0x100 e) { s.isl with lastLink := s.isl.mono } := by
  rw [exec_fullMap, execFullMap, onIsl_next hu]
  dsimp only
  rw [if_neg (by simp [hd])]
  exact ⟨_, _, rfl, rfl, islandOnly_after (.refl _ s.d) _, rfl⟩

theorem Interval.toRec_flags (v : Interval) (o tEnd ee : Nat) : bitOf (v.toRec o tEnd ee 0).flags 5 = false := by
  have h : ∀ a b c d e f : Bool, bitOf (pack [(b2n a, 0), (b2n b, 2), (b2n c, 4), (b2n d, 6), (b2n e, 7)] ||| (if f then 0x100 else 0) ||| 0) 5 = false := by
    decide
  exact h _ _ _ _ _ _

theorem Interval.xchk_byte (v : Interval) : v.xchk % 256 = if v.contra then 1 else if 100 ≤ v.evald then 0 else 2 := by
  unfold Interval.xchk
  cases v.contra
  · simp only [Bool.false_eq_true, if_false]
    split <;> rfl
  · rfl

/-- Settles O47: samples, outputs without a claim, deltas, the full map and silence. -/
theorem islandFollowsTheClaimedMap : Obligations.IslandFollowsTheClaimedMap := by
  refine ⟨fun s tap p ms hu ht hms hslot hnew hb hw => ⟨fun h512 => ?_, fun o v c a ho hv hc hin => ?_, fun o ho hm hp => ?_,
    fun o ho hm hp hopen hres hroom => ?_⟩, fun s hu o ho hm hopen hcnt => ?_, fun s n stamp esn tb0 o rel e hu hd ho heo hf => ?_,
    fun s st esn tb0 rel es hu hd => ?_, fun s es hu => ⟨fun hd => ?_, fun hd => ?_⟩, fun s hu hd hl => ?_⟩
  · obtain ⟨t, hx, hon, hi⟩ := exec_islandSample_does (p := p) hu ht hms hslot hnew hb
    have hnd : ((s.isl.ivs.filter (fun e => match e.2 with
        | some v => v.inp == tap
        | none => false)).map (·.1)).Nodup := by
      have hp := ((Tab.wf_iff none s.isl.ivs).mp hw).1
      exact List.Pairwise.map _ (fun a b h => Nat.ne_of_lt h) (hp.filter _)
    obtain ⟨x, hx2, hget⟩ := Isl.halves_eq ms p true _ { s.isl with taps := s.isl.taps.set 0 tap (ms + 1) } hnd
    rw [if_pos h512, hx2] at hi
    have hmem : ∀ o v, s.isl.ivs.get none o = some v → (o ∈ (s.isl.ivs.filter (fun e => match e.2 with
        | some v => v.inp == tap
        | none => false)).map (·.1) ↔ v.inp = tap) := by
      intro o v hv
      refine ⟨fun h => ?_, fun h => List.mem_map.mpr ⟨(o, some v), List.mem_filter.mpr ⟨Tab.mem_of_get hv (by simp), by simpa using h⟩, rfl⟩⟩
      obtain ⟨⟨k, w⟩, hk, rfl⟩ := List.mem_map.mp h
      obtain ⟨hk, hw2⟩ := List.mem_filter.mp hk
      have := Tab.get_of_mem hw hk
      rw [hv] at this
      subst this
      simpa using hw2
    refine ⟨t, hx, islandKeeps_of hi (.refl _) ⟨rfl, rfl, rfl, rfl, rfl, rfl, rfl, rfl, rfl⟩, hon, by rw [hi], by rw [hi], by rw [hi],
      fun o v hv hne => ?_, fun o v c hv hin hc hout => ?_⟩
    · rw [hi]
      exact (hget o).trans ((if_neg (fun h => hne ((hmem o v hv).mp h))).trans hv)
    · rw [hi]
      refine (hget o).trans ((if_pos ((hmem o v hv).mpr hin)).trans ?_)
      dsimp only
      rw [hv, hc]
      refine congrArg some ?_
      unfold Interval.halved
      dsimp only [if_true]
      split
      · next m1 a m2 b h1 h2 =>
        refine if_neg fun hm => ?_
        obtain ⟨h3, -⟩ := Prod.mk.inj (Option.some.inj h1)
        exact hout b (by rw [h3, hm]; exact h2)
      · rfl
  · obtain ⟨t, hx, hon, hi⟩ := exec_islandSample_does (p := p) hu ht hms hslot hnew hb
    have hto : tap - 512 = o := by omega
    rw [if_neg (by omega), hto, if_pos (by rw [hc]; rfl), Isl.half_completes (i := { s.isl with taps := s.isl.taps.set 0 tap (ms + 1) }) hv hc hin] at hi
    exact ⟨t, _, hx, hi, Interval.sample_pOut _ _ _ _ _, Interval.sample_spec _ c _ a p, hon⟩
  · obtain ⟨t, hx, hon, hi⟩ := exec_islandSample_does (p := p) hu ht hms hslot hnew hb
    have hto : tap - 512 = o := by omega
    rw [if_neg (by omega), hto, if_neg (by rw [hm]; decide)] at hi
    obtain ⟨x, hx2, h1, h2⟩ := Isl.unclSample_light (i := { s.isl with taps := s.isl.taps.set 0 tap (ms + 1) }) hp (uncertain s) o
    rw [hx2] at hi
    exact ⟨t, hx, islandKeeps_of hi (.refl _) ⟨rfl, rfl, rfl, rfl, rfl, rfl, rfl, rfl, rfl⟩, hon, by rw [hi], by rw [hi]; exact h1, by rw [hi]; exact h2⟩
  · obtain ⟨t, hx, hon, hi⟩ := exec_islandSample_does (p := p) hu ht hms hslot hnew hb
    have hto : tap - 512 = o := by omega
    rw [if_neg (by omega), hto, if_neg (by rw [hm]; decide),
      Isl.unclSample_dark (i := { s.isl with taps := s.isl.taps.set 0 tap (ms + 1) }) hp hopen] at hi
    have hfit : (({ s.isl with taps := s.isl.taps.set 0 tap (ms + 1) } : Isl).unopened o).fits := Isl.fits.of (i := s.isl) hroom rfl rfl rfl
    have hrec := Isl.close_records hfit hres (uncertain s) (({ s.isl.uncl.get {} o with count := 0 } : Unclaimed).toRec o s.isl.tb1 0)
    have hst := (({ s.isl with taps := s.isl.taps.set 0 tap (ms + 1) } : Isl).unopened o).close_stores (uncertain s)
      (({ s.isl.uncl.get {} o with count := 0 } : Unclaimed).toRec o s.isl.tb1 0)
    have huncl := hst.keeps.2.1.2.2.1
    rw [← hi] at hrec huncl
    refine ⟨t, _, hx, hrec.of rfl rfl rfl rfl rfl, Isl.rec_typ _ _ _, ?_, Isl.rec_tEnd _ _ _, Isl.rec_eOut _ _ _, ?_,
      islandKeeps_of hi hst ⟨rfl, rfl, rfl, rfl, rfl, rfl, rfl, rfl, rfl⟩, hon⟩
    · rw [Isl.rec_port]
      change (0x1FF + o * 65536) % 65536 = 0x1FF
      omega
    · rw [huncl]
      exact Tab.get_set_self _ _ _ _
  · obtain ⟨t, hx, hi, hon⟩ := onIsl_does hu (fun i => { i with
      uncl := i.uncl.set {} o { s.isl.uncl.get {} o with isOpen := true, tStart := i.tb1, sealedAll := i.isSealed } })
    refine ⟨t, ?_, hi, hon⟩
    rw [exec_unclaimedOpen, execUnclaimedOpen]
    rw [if_neg (by simp [hm, hopen]; omega)]
    exact hx
  · subst heo
    obtain ⟨t, hx, hi, hon⟩ := exec_delta_does hu hd hf esn tb0 rel ho
    refine ⟨fun p hp hm hn => ?_, fun p c v hp hm hc hv => ?_, fun c v hp hm hv hres hroom => ?_, fun c v hp hm hv hres => ?_⟩
    · rw [Isl.entry_opens (i := s.isl.linked n) hp hm hn] at hi
      refine ⟨t, hx, hi.trans ?_, hon⟩
      unfold Isl.openIv
      rw [Bool.and_false]
      rfl
    · rw [Isl.entry_keeps (i := s.isl.linked n) hp hm hc hv] at hi
      refine ⟨t, hx, by rw [hi]; rfl, ?_, fun k hk => ?_, islandKeeps_of hi (.refl _) ⟨rfl, rfl, rfl, rfl, rfl, rfl, rfl, rfl, rfl⟩, hon⟩
      · rw [hi]
        exact (Tab.get_mod_self _ _ _ _).trans (by rw [show (s.isl.linked n).ivs.get none e.out = some v from hv]; rfl)
      · rw [hi]
        exact Tab.get_mod_ne _ _ _ hk
    · rw [Isl.entry_closes (i := s.isl.linked n) hp hm hv] at hi
      have hfit : ((s.isl.linked n).cleared e.out).fits := Isl.fits.of (i := s.isl) hroom rfl rfl rfl
      have hrec := Isl.close_records hfit hres (uncertain s) (v.toRec e.out stamp (if rel then 0 else esn) 0)
      have hst := ((s.isl.linked n).cleared e.out).close_stores (uncertain s) (v.toRec e.out stamp (if rel then 0 else esn) 0)
      obtain ⟨-, ⟨hmap, hivs, -, -⟩, -⟩ := hst.keeps
      rw [← hi] at hrec hmap hivs
      refine ⟨t, _, hx, hrec.of rfl rfl rfl rfl rfl, Isl.rec_typ _ _ _, Isl.rec_tStart _ _ _, Isl.rec_tEnd _ _ _, Isl.rec_esnStart _ _ _, ?_,
        Isl.rec_eIn _ _ _, Isl.rec_eOut _ _ _, Isl.rec_n _ _ _, (Isl.rec_xchk _ _ _).trans v.xchk_byte, ?_, ?_, ?_, fun k hk => ?_,
        islandKeeps_of hi hst ⟨rfl, rfl, rfl, rfl, rfl, rfl, rfl, rfl, rfl⟩, hon⟩
      · rw [Isl.rec_esnEnd]
        cases rel <;> rfl
      · rw [Isl.rec_flags]
        exact IRec.flagsOf_unc (v.toRec_flags _ _ _) _
      · rw [hivs]
        exact Tab.get_set_self _ _ _ _
      · rw [hmap]
        exact Tab.get_set_self _ _ _ _
      · rw [hivs]
        exact (Tab.get_set _ _ _ _ _).trans (if_neg hk)
    · rw [Isl.entry_closes (i := s.isl.linked n) hp hm hv] at hi
      obtain ⟨h1, h2, h3, h4⟩ := Isl.close_lost (i := (s.isl.linked n).cleared e.out) hres (uncertain s) (v.toRec e.out stamp (if rel then 0 else esn) 0)
      have hst := ((s.isl.linked n).cleared e.out).close_stores (uncertain s) (v.toRec e.out stamp (if rel then 0 else esn) 0)
      obtain ⟨-, ⟨-, hivs, -, -⟩, -⟩ := hst.keeps
      rw [← hi] at h1 h2 h3 h4 hivs
      refine ⟨t, hx, h1, h2, h3, h4, ?_, islandKeeps_of hi hst ⟨rfl, rfl, rfl, rfl, rfl, rfl, rfl, rfl, rfl⟩, hon⟩
      rw [hivs]
      exact Tab.get_set_self _ _ _ _
  · rw [exec_snapshotLinkDelta, execSnapshotLinkDelta, onIsl_next hu]
    dsimp only
    rw [if_pos hd]
    exact ⟨_, rfl, rfl, islandOnly_after (.refl _ s.d) _⟩
  · rw [exec_fullMap, execFullMap, onIsl_next hu]
    dsimp only
    rw [if_pos (by simp [hd])]
    exact ⟨_, rfl, rfl, islandOnly_after (.refl _ s.d) _⟩
  · obtain ⟨t, j, hx, hi, hon, hj⟩ := exec_fullMap_does hu hd es
    obtain ⟨hfol, hent, -⟩ := Isl.entries_spec (fun i e => i.entry_spec (uncertain s) i.tb1 0 0 none 0x100 e) (fullEntries es)
      { s.isl with lastLink := s.isl.mono } (by rw [fullEntries_out]; exact List.nodup_range)
    rw [← hj] at hfol hent
    have hat : ∀ o, o < 512 → j.map.get none o = ((es.find? (fun e => e.out == o)).bind (fun e => e.inp.map (fun p =>
        ({ inp := p, bridge := e.bridge, atten := e.atten } : Claim)))) ∧ ((j.map.get none o).isSome = true → (j.ivs.get none o).isSome = true) := by
      intro o ho
      have h := hent _ (List.mem_map.mpr ⟨o, List.mem_range.mpr ho, rfl⟩)
      rw [fullEntry_out] at h
      rw [h.1, ← claimOf_fullEntry]
      exact ⟨rfl, h.2⟩
    obtain ⟨m, v, u, k, hk, hst⟩ := hfol
    have hll : j.lastLink = s.isl.mono := by
      obtain ⟨_, _, _, _, _, _, _, rfl⟩ := hst
      rw [hk]
    refine ⟨t, hx, by rw [hi], by rw [hi], by rw [hi]; exact hll, fun o ho => by rw [hi]; exact (hat o ho).1, fun o c ho hc => ?_, ?_, hon⟩
    · rw [hi] at hc ⊢
      exact (hat o ho).2 (by rw [show j.map.get none o = some c from hc]; rfl)
    · obtain ⟨⟨h1, h2, -, -⟩, -, ⟨h3, h4, h5⟩, h6, h7, h8, h9⟩ := hst.keeps
      rw [hk] at h1 h2 h3 h4 h5 h6 h7 h8 h9
      unfold Obl.islandKeeps
      rw [hi]
      exact ⟨h1, h2, h3, h4, h5, h6, h7, h8, h9⟩
  · obtain ⟨t, hx, hi, hon⟩ := onIsl_does hu (fun i => { i with deaf := true })
    refine ⟨t, ?_, hi, hon⟩
    rw [exec_linkSilence, execLinkSilence, if_neg (by simp [hd]; omega)]
    exact hx

end Sys2Proof.Machine

/-! ## Splits, blocks, checkpoints and starts (O48) -/
namespace Sys2Proof.Machine
set_option Elab.async false

/-! ### A record after another -/

/-- The block being filled after one more record. -/
theorem Isl.find_blocksWith {i : Isl} (h : i.fits) (bs : List Byte) : ∃ b, (i.blocksWith bs).find? (fun b => b.num == i.next / 64) = some b ∧
    b.recs.length = i.next % 64 + 1 ∧
    (i.next % 64 ≠ 0 → ∃ b0, i.blocks.find? (fun b => b.num == i.next / 64) = some b0 ∧ b0.recs.length = i.next % 64 ∧ b.recs = b0.recs ++ [bs]) := by
  obtain ⟨-, hf⟩ := h
  unfold Isl.blocksWith
  by_cases h0 : i.next % 64 = 0
  · rw [if_pos h0] at hf ⊢
    have hn : i.blocks.find? (fun b => b.num == i.next / 64) = none := by simpa using hf
    have hd : (if 192 ≤ i.blocks.length then i.blocks.drop 1 else i.blocks).find? (fun b => b.num == i.next / 64) = none := by
      split
      · exact List.find?_eq_none.mpr fun b hb => List.find?_eq_none.mp hn b (List.mem_of_mem_drop hb)
      · exact hn
    rw [List.find?_append, hd]
    exact ⟨{ num := i.next / 64, openAt := i.mono, recs := [bs] }, by simp, by simp [h0], fun h => absurd h0 h⟩
  · rw [if_neg h0] at hf ⊢
    obtain ⟨b, hb, hl⟩ : ∃ b, i.blocks.find? (fun b => b.num == i.next / 64) = some b ∧ b.recs.length = i.next % 64 := by
      cases hx : i.blocks.find? (fun b => b.num == i.next / 64) with
      | none => rw [hx] at hf; cases hf
      | some b => rw [hx] at hf; exact ⟨b, rfl, Option.some.inj hf⟩
    have hcomp : ((fun b : Block => b.num == i.next / 64) ∘ fun (b : Block) => if b.num = i.next / 64 then { b with recs := b.recs ++ [bs] } else b) =
        fun b => b.num == i.next / 64 := by
      funext b
      dsimp only [Function.comp]
      split <;> rfl
    have hnum : b.num = i.next / 64 := by simpa using List.find?_some hb
    rw [List.find?_map, hcomp, hb]
    simp only [Option.map_some, if_pos hnum]
    exact ⟨_, rfl, by simp [hl], fun _ => ⟨b, rfl, hl, rfl⟩⟩

theorem Isl.put_store {i : Isl} (h : i.hasRoom = true) (unc : Bool) (r : IRec) :
    (i.put unc r).blocks = i.blocksWith (i.recBytes unc r) ∧ (i.put unc r).next = i.next + 1 := by
  obtain ⟨-, hbl, hnx, -⟩ := Isl.checkReserve_spec
    ({ i with blocks := i.blocksWith (i.recBytes unc r), next := i.next + 1, chain := Config.sha3 (i.recBytes unc r) } : Isl)
  rw [Isl.put_eq h]
  exact ⟨hbl, hnx⟩

/-- Behind a record that does not fill its block there is room for the next. -/
theorem Isl.put_fits {i : Isl} (h : i.fits) (hn : i.next % 64 ≠ 63) (unc : Bool) (r : IRec) : (i.put unc r).fits := by
  obtain ⟨hbl, hnx⟩ := Isl.put_store h.1 unc r
  obtain ⟨b, hb, hl, -⟩ := Isl.find_blocksWith h (i.recBytes unc r)
  refine ⟨?_, ?_⟩
  · rw [Isl.hasRoom, hnx]
    simp
    omega
  · rw [hbl, hnx, show (i.next + 1) / 64 = i.next / 64 by omega, hb, if_neg (by omega), Option.map_some, hl]
    congr 1
    omega

/-- A record of the block being filled stays as it is. -/
theorem Isl.put_recAt {i : Isl} (h : i.fits) (unc : Bool) (r : IRec) {k : Nat} (hk : k / 64 = i.next / 64) (hl : k % 64 < i.next % 64) :
    (i.put unc r).recAt k = i.recAt k := by
  obtain ⟨hbl, -⟩ := Isl.put_store h.1 unc r
  obtain ⟨b, hb, -, hr⟩ := Isl.find_blocksWith h (i.recBytes unc r)
  obtain ⟨b0, hb0, hl0, hrecs⟩ := hr (by omega)
  rw [Isl.recAt, Isl.recAt, hbl, hk, hb, hb0, Option.bind_some, Option.bind_some, hrecs, List.getElem?_append_left (by omega)]

theorem Isl.freeBlocks_blocksWith {i : Isl} (h : i.next % 64 ≠ 0) (bs : List Byte) {n : Nat} {c : BitVec 512} :
    ({ i with blocks := i.blocksWith bs, next := n, chain := c } : Isl).freeBlocks = i.freeBlocks := by
  have hc : ((fun b => !i.blockFree b) ∘ fun (b : Block) => if b.num = i.next / 64 then { b with recs := b.recs ++ [bs] } else b) =
      fun b => !i.blockFree b := by
    funext b
    dsimp only [Function.comp]
    split <;> rfl
  change 192 - ((i.blocksWith bs).filter (fun b => !i.blockFree b)).length = _
  unfold Isl.blocksWith
  rw [if_neg h, List.filter_map, List.length_map, hc]
  rfl

/-- A record that leaves its block open, or two free blocks, begins no reserve. -/
theorem Isl.put_reserve {i : Isl} (h : i.hasRoom = true) (hn : i.next % 64 ≠ 63 ∨ 2 ≤ i.freeBlocks) (unc : Bool) (r : IRec) :
    (i.put unc r).reserve = i.reserve := by
  rw [Isl.put_eq h, Isl.checkReserve_none]
  by_cases h63 : i.next % 64 = 63
  · right
    rw [Isl.freeBlocks_blocksWith (by omega)]
    omega
  · left
    dsimp only
    omega

/-! ### Splits -/

theorem Isl.isSealed_of {i j : Isl} (h : i.stores j) : j.isSealed = i.isSealed := by
  obtain ⟨_, _, _, _, _, _, _, rfl⟩ := h
  rfl

theorem Interval.toRec_splitEnd (v : Interval) (o tEnd ee : Nat) : bitOf (v.toRec o tEnd ee 8).flags 3 = true := by
  change bitOf (_ ||| _ ||| 8) 3 = true
  rw [bitOf_or]
  exact Bool.or_true _

theorem Interval.toRec_restart (v : Interval) (o tEnd ee : Nat) : bitOf (v.toRec o tEnd ee 2).flags 1 = true := by
  change bitOf (_ ||| _ ||| 2) 1 = true
  rw [bitOf_or]
  exact Bool.or_true _

/-- The island without the interval of an output. -/
def Isl.ended (i : Isl) (o : Nat) : Isl := { i with ivs := i.ivs.set none o none }

theorem Isl.closeIv_of {i : Isl} {o : Nat} {v : Interval} (h : i.ivs.get none o = some v) (unc : Bool) (tEnd ee flags : Nat) :
    i.closeIv unc o tEnd ee flags = (i.ended o).close unc (v.toRec o tEnd ee flags) := by
  unfold Isl.closeIv
  rw [h]
  rfl

/-- A split of one interval, with a claim, and no reserve. -/
theorem exec_split_does {s : State} {k o : Nat} {v : Interval} {c : Claim} (hu : s.isl.up = true) (hk : k = s.isl.tb1 / s.isl.splitNs)
    (hlt : s.isl.splitAt / s.isl.splitNs < k) (hv : s.isl.ivs = [(o, some v)]) (hun : s.isl.uncl = []) (hm : s.isl.map.get none o = some c) :
    ∃ t j, exec .split s = .next t ∧ Obl.islandOnly s t ∧
      j = (s.isl.closeIv (uncertain s) o (k * s.isl.splitNs) 0 8).openIv o c { tStart := k * s.isl.splitNs, splitStart := true } ∧
      (j.reserve = false → t.isl = { j with splitAt := k * s.isl.splitNs }) := by
  subst hk
  rw [exec_split, execSplit]
  dsimp only
  rw [if_neg (by omega), onIsl_next hu]
  refine ⟨_, _, rfl, islandOnly_after (.refl _ s.d) _, rfl, fun hr => ?_⟩
  rw [hv, hun]
  simp only [Tab.keys, List.map_cons, List.map_nil, List.filter_nil, List.foldl_cons, List.foldl_nil, hm]
  rw [if_neg (by rw [hr]; decide)]

/-! ### Blocks -/

/-- What a trailer signs. -/
def Isl.trailerHead (i : Isl) (b : Block) : List Byte :=
  bytesLE b.num 8 ++ (bytesLE (64 * b.num) 8 ++ (bytesLE i.tb1 8 ++ digestBytes (Config.sha3 (b.recs.getLast?.getD []))))

theorem Isl.length_trailerHead (i : Isl) (b : Block) : (i.trailerHead b).length = 88 := by
  simp [Isl.trailerHead, length_bytesLE, length_digestBytes]

theorem Isl.trailer_eq (i : Isl) (b : Block) :
    i.trailer b = i.trailerHead b ++ (padTo 4627 (Config.sign true (i.trailerHead b)) ++ List.replicate 21 0) := by
  simp only [Isl.trailer, Isl.trailerHead, List.append_assoc]

theorem Isl.trailer_spec (i : Isl) (b : Block) : (i.trailer b).length = 4736 ∧ leField (i.trailer b) 0 8 = b.num % 2 ^ 64 ∧
    leField (i.trailer b) 8 8 = 64 * b.num % 2 ^ 64 ∧ leField (i.trailer b) 16 8 = i.tb1 % 2 ^ 64 ∧
    leField (i.trailer b) 24 64 = (Config.sha3 (b.recs.getLast?.getD [])).toNat ∧
    ((i.trailer b).drop 88).take 4627 = padTo 4627 (Config.sign true ((i.trailer b).take 88)) := by
  have hl := i.length_trailerHead b
  have hw : ∀ lo n, lo + n ≤ 88 → leField (i.trailer b) lo n = leField (i.trailerHead b) lo n := fun lo n h => by
    rw [Isl.trailer_eq, leField_within (by omega)]
  refine ⟨?_, ?_, ?_, ?_, ?_, ?_⟩
  · rw [Isl.trailer_eq, List.length_append, List.length_append, hl, length_padTo, List.length_replicate]
  · rw [hw 0 8 (by decide), Isl.trailerHead, leField_first, show 256 ^ 8 = 2 ^ 64 by norm_num]
  · rw [hw 8 8 (by decide)]
    simp [Isl.trailerHead, leField_skip_bytesLE, leField_first]
  · rw [hw 16 8 (by decide)]
    simp [Isl.trailerHead, leField_skip_bytesLE, leField_first]
  · rw [hw 24 64 (by decide)]
    simp [Isl.trailerHead, leField_skip_bytesLE, leField_digestBytes]
  · rw [Isl.trailer_eq, List.drop_left' hl, List.take_left' hl, List.take_left' (length_padTo _ _)]

/-- A block that is due is filled and signed. -/
theorem exec_blockSigning_does {s : State} {b : Block} (hu : s.isl.up = true)
    (hf : s.isl.blocks.find? (fun x => x.trailer.isNone && (x.recs.length == 64 || decide (x.openAt + s.isl.blockMax * 60000000000 ≤ s.isl.mono))) = some b) :
    ∃ t j, exec .blockSigning s = .next t ∧ Obl.islandOnly s t ∧ t.isl = j.signBlock b.num ∧
      j = (List.range (64 - b.recs.length)).foldl (fun (i : Isl) _ => i.put (uncertain s) { typ := 7, flags := i.sealFlag, ports := noPorts 7 }) s.isl := by
  rw [exec_blockSigning, execBlockSigning]
  dsimp only
  rw [hf]
  dsimp only
  rw [onIsl_next hu]
  exact ⟨_, _, rfl, islandOnly_after (.refl _ s.d) _, rfl, rfl⟩

/-- The block being filled, alone in the store, with m records more. -/
def Isl.filled (i : Isl) (b : Block) (m : Nat) (j : Isl) : Prop :=
  i.stores j ∧ j.next = i.next + m ∧ ∃ ext, j.blocks = [{ b with recs := b.recs ++ ext }] ∧ ext.length = m ∧ ∀ r ∈ ext, leField r 8 1 = 7

theorem Isl.filled_step {i j : Isl} {b : Block} {m : Nat} (h : i.filled b m j) (hn : b.num = i.next / 64) (hm : i.next % 64 + m < 64)
    (h0 : 0 < i.next % 64) (unc : Bool) (fl po : Nat) : i.filled b (m + 1) (j.put unc { typ := 7, flags := fl, ports := po }) := by
  obtain ⟨hs, hnx, ext, hb, hl, hr⟩ := h
  have hroom : j.hasRoom = true := by
    rw [Isl.hasRoom, hnx]
    simp
    omega
  obtain ⟨hbl, hnx2⟩ := Isl.put_store hroom unc { typ := 7, flags := fl, ports := po }
  refine ⟨hs.trans (j.put_stores _ _), by omega, ext ++ [j.recBytes unc { typ := 7, flags := fl, ports := po }], ?_, by simp [hl], fun r hx => ?_⟩
  · rw [hbl, Isl.blocksWith, if_neg (by omega), hb, List.map_cons, List.map_nil, if_pos (by rw [hnx]; dsimp only; omega), List.append_assoc]
  · rcases List.mem_append.mp hx with hx | hx
    · exact hr r hx
    · rw [List.mem_singleton.mp hx]
      exact Isl.rec_typ _ _ _

/-- Filling a block to its 64 records. -/
theorem Isl.fill_block {i : Isl} {b : Block} (hb : i.blocks = [b]) (hn : b.num = i.next / 64) (h0 : 0 < i.next % 64) (unc : Bool) :
    ∀ m, i.next % 64 + m ≤ 64 → i.filled b m
      ((List.range m).foldl (fun (i : Isl) _ => i.put unc { typ := 7, flags := i.sealFlag, ports := noPorts 7 }) i) := by
  intro m
  induction m with
  | zero => intro _; exact ⟨.refl i, rfl, [], by simp [hb], rfl, fun r h => by cases h⟩
  | succ m ih =>
    intro hm
    rw [List.range_succ, List.foldl_append, List.foldl_cons, List.foldl_nil]
    exact Isl.filled_step (ih (by omega)) hn (by omega) h0 _ _ _

/-! ### Starts -/

/-- The island as a start takes it from the checkpoint, before its record. -/
def Isl.restarted (o : Isl) (strap : Nat) (blank : Bool) : Isl :=
  { o with up := true, dip := false, tb1 := o.ckpt, sub := 0, uncStart := true, uncClock := false, addr := 0x58 + strap % 4,
           fifo := [], blank := blank, blankAt := o.ckpt, map := [], deaf := true, started := true,
           lastLink := o.mono, ivs := o.ckptIvs, uncl := o.ckptUncl, taps := [], gap := o.ckptGap, chal := none, token := [],
           lastResult := 0, certs := false, streamPos := 0, streamOff := 0, inTrailer := false, ckptAt := o.mono, splitAt := o.ckpt,
           events := [] }

/-- The record of a start. -/
def Isl.startRec (i : Isl) (outs : Nat) : IRec :=
  { typ := 4, flags := i.sealFlag, ports := noPorts 4, tStart := i.ckpt, extra := bytesLE i.ckpt 8 ++ bytesLE outs 4 }

/-- The island with the record of its start. -/
def Isl.startPut (i : Isl) (outs : Nat) : Isl := i.put true (i.startRec outs)

/-- The end of a start: nothing is left of the checkpoint. -/
def Isl.startEnd (i : Isl) : Isl := ({ i with uncl := [], ckptIvs := [], ckptUncl := [], ckptGap := i.gap } : Isl).event 7 0 0 0

theorem exec_islandStart_does {s : State} (h : s.isl.up = false ∨ s.isl.dip = true) (hu : s.isl.ckptUncl = []) :
    ∃ t i, exec .islandStart s = .next t ∧ Obl.islandOnly s t ∧
      i = s.isl.restarted s.d.pwr.strapId (s.d.flt.blank && !s.d.flt.releasing) ∧
      t.isl = (s.isl.ckptIvs.keys.foldl (fun (i : Isl) k => i.closeIv true k s.isl.ckpt 0 2) (i.startPut s.isl.ckptIvs.keys.length)).startEnd := by
  rw [exec_islandStart, execIslandStart]
  dsimp only
  rw [if_neg (by rcases h with h | h <;> simp [h]), finishIsl_next]
  have hun : (s.isl.ckptUncl.filter (fun e => e.2.isOpen)).map (·.1) = [] := by rw [hu]; rfl
  rw [hun]
  exact ⟨_, _, rfl, islandOnly_after ((Dev.condOff_same _ 91 0).mono (by decide)) _, rfl, rfl⟩

/-- A start with one interval in the checkpoint: its own record, and the record of that interval (R372). -/
theorem exec_islandStart_one {s : State} {o : Nat} {v : Interval} (h : s.isl.up = false ∨ s.isl.dip = true) (hu : s.isl.ckptUncl = [])
    (hroom : s.isl.fits) (hv : s.isl.ckptIvs = [(o, some v)]) (h62 : s.isl.next % 64 < 62) (hres : s.isl.reserve = false) :
    ∃ t r1 r2, exec .islandStart s = .next t ∧ t.isl.next = s.isl.next + 2 ∧ t.isl.recAt s.isl.next = some r1 ∧ leField r1 8 1 = 4 ∧
      leField r1 112 4 = 1 ∧ t.isl.recAt (s.isl.next + 1) = some r2 ∧ leField r2 8 1 = 1 ∧ bitOf (leField r2 10 2) 1 = true ∧
      leField r2 24 8 = s.isl.ckpt % 2 ^ 64 ∧ leField r2 64 8 = v.eOut % 2 ^ 64 ∧ leField r2 192 64 = (Config.sha3 r1).toNat ∧
      t.isl.ivs = [] ∧ Obl.islandOnly s t := by
  obtain ⟨t, i, hx, hon, hi, ht⟩ := exec_islandStart_does h hu
  have hfit : i.fits := hroom.of (by rw [hi]; rfl) (by rw [hi]; rfl) (by rw [hi]; rfl)
  have hnx : i.next = s.isl.next := by rw [hi]; rfl
  have hck : i.ckpt = s.isl.ckpt := by rw [hi]; rfl
  have hivs : i.ivs = [(o, some v)] := by rw [← hv, hi]; rfl
  have hrec := Isl.put_records hfit true (i.startRec 1)
  have hst := (i.put_stores true (i.startRec 1)).keeps.2.1.2.1
  have hfit2 := Isl.put_fits hfit (by rw [hnx]; omega) true (i.startRec 1)
  have hres2 : (i.put true (i.startRec 1)).reserve = false :=
    (Isl.put_reserve hfit.1 (.inl (by rw [hnx]; omega)) true (i.startRec 1)).trans (by rw [hi]; exact hres)
  rw [hv] at ht
  change t.isl = ((i.put true (i.startRec 1)).closeIv true o s.isl.ckpt 0 2).startEnd at ht
  generalize i.put true (i.startRec 1) = j at *
  rw [Isl.closeIv_of (by rw [hst, hivs]; exact if_pos rfl)] at ht
  have hfit3 : (j.ended o).fits := hfit2.of rfl rfl rfl
  obtain ⟨-, -, -, -, hrec1, hnx1, hch1⟩ := hrec
  obtain ⟨ev, hev⟩ := Isl.close_put (i := j.ended o) hres2 true (v.toRec o s.isl.ckpt 0 2)
  have hrec2 := Isl.put_records hfit3 true (v.toRec o s.isl.ckpt 0 2)
  have hold := Isl.put_recAt hfit3 true (v.toRec o s.isl.ckpt 0 2) (k := s.isl.next) (by change _ = j.next / 64; omega) (by change _ < j.next % 64; omega)
  have hivs2 := ((j.ended o).put_stores true (v.toRec o s.isl.ckpt 0 2)).keeps.2.1.2.1
  rw [hev] at ht
  generalize (j.ended o).put true (v.toRec o s.isl.ckpt 0 2) = l at *
  obtain ⟨-, -, -, -, hrec3, hnx3, -⟩ := hrec2
  have hrecAt : ∀ k, t.isl.recAt k = l.recAt k := fun k => by rw [ht]; rfl
  have hnext : (j.ended o).next = s.isl.next + 1 := by
    rw [← hnx]
    exact hnx1
  refine ⟨t, i.recBytes true (i.startRec 1), (j.ended o).recBytes true (v.toRec o s.isl.ckpt 0 2), hx, ?_, ?_, Isl.rec_typ _ _ _, ?_, ?_,
    Isl.rec_typ _ _ _, ?_, Isl.rec_tEnd _ _ _, Isl.rec_eOut _ _ _, ?_, ?_, hon⟩
  · rw [ht]
    change l.next = s.isl.next + 2
    rw [hnx3, hnext]
  · rw [hrecAt, hold]
    rw [hnx] at hrec1
    exact hrec1
  · rw [show 112 = 104 + 8 by rfl, Isl.leField_recBytes_extra (by simp [Isl.startRec, length_bytesLE]) (by decide)]
    simp [Isl.startRec, leField_skip_bytesLE, leField_all]
  · rw [hrecAt, ← hnext]
    exact hrec3
  · rw [Isl.rec_flags, IRec.flagsOf_other (by decide) (by decide)]
    exact v.toRec_restart _ _ _
  · rw [Isl.leField_recBytes_chain]
    exact congrArg BitVec.toNat hch1
  · rw [ht]
    change l.ivs = []
    rw [hivs2, Isl.ended]
    dsimp only
    rw [hst, hivs]
    simp [Tab.set]

/-- A start with nothing in the checkpoint. -/
theorem exec_islandStart_empty {s : State} (h : s.isl.up = false ∨ s.isl.dip = true) (hu : s.isl.ckptUncl = []) (hroom : s.isl.fits)
    (hv : s.isl.ckptIvs = []) :
    ∃ t rec, exec .islandStart s = .next t ∧ s.isl.records t.isl rec ∧ leField rec 8 1 = 4 ∧ bitOf (leField rec 10 2) 5 = true ∧
      leField rec 16 8 = s.isl.ckpt % 2 ^ 64 ∧ leField rec 104 8 = s.isl.ckpt % 2 ^ 64 ∧ leField rec 112 4 = 0 ∧ t.isl.up = true ∧
      t.isl.tb1 = s.isl.ckpt ∧ t.isl.uncStart = true ∧ t.isl.addr = 0x58 + s.d.pwr.strapId % 4 ∧ t.isl.map = [] ∧ t.isl.deaf = true ∧
      t.isl.ivs = [] ∧ t.isl.chal = none ∧ t.isl.ackNext = s.isl.ackNext ∧ t.isl.sealF = s.isl.sealF ∧ t.isl.unsealF = s.isl.unsealF ∧
      Obl.islandOnly s t := by
  obtain ⟨t, i, hx, hon, hi, ht⟩ := exec_islandStart_does h hu
  have hfit : i.fits := hroom.of (by rw [hi]; rfl) (by rw [hi]; rfl) (by rw [hi]; rfl)
  have hrec := Isl.put_records hfit true (i.startRec 0)
  rw [hv] at ht
  change t.isl = (i.put true (i.startRec 0)).startEnd at ht
  have hck : i.ckpt = s.isl.ckpt := by rw [hi]; rfl
  have hw := hrec.of (k := s.isl) (l := t.isl) (by rw [hi]; rfl) (by rw [hi]; rfl) (by rw [ht]; rfl) (by rw [ht]; rfl) (by rw [ht]; rfl)
  obtain ⟨_, _, _, _, _, _, _, hst⟩ := i.put_stores true (i.startRec 0)
  rw [hst] at ht
  refine ⟨t, _, hx, hw, Isl.rec_typ _ _ _, ?_, ?_, ?_, ?_, ?_, ?_, ?_, ?_, ?_, ?_, ?_, ?_, ?_, ?_, ?_, hon⟩
  · rw [Isl.rec_flags]
    refine IRec.flagsOf_unc ?_ true
    change bitOf i.sealFlag 5 = false
    unfold Isl.sealFlag
    split <;> rfl
  · rw [Isl.rec_tStart, ← hck]
    rfl
  · rw [show 104 = 104 + 0 by rfl, Isl.leField_recBytes_extra (by simp [Isl.startRec, length_bytesLE]) (by decide)]
    simp [Isl.startRec, leField_first, hck]
  · rw [show 112 = 104 + 8 by rfl, Isl.leField_recBytes_extra (by simp [Isl.startRec, length_bytesLE]) (by decide)]
    simp [Isl.startRec, leField_skip_bytesLE, leField_all]
  all_goals rw [ht, hi]
  exacts [rfl, rfl, rfl, rfl, rfl, rfl, hv, rfl, rfl, rfl, rfl]

/-- Settles O48: splits, blocks, checkpoints, starts and the clock check. -/
theorem islandKeepsItsRecords : Obligations.IslandKeepsItsRecords := by
  refine ⟨fun s k o v c hu hk hlt hv hun hm hres hroom hfree => ?_, fun s b hu hb hf => ⟨fun hl huniq => ?_, fun hbl hnum hlen h0 => ?_⟩, fun s hu hck => ?_,
    fun s h hun hroom => ⟨exec_islandStart_empty h hun hroom, fun o v hv _ h62 hres => exec_islandStart_one h hun hroom hv h62 hres⟩,
    fun s hu hc => ?_, fun s hu hc => ?_⟩
  · obtain ⟨t, j, hx, hon, hj, ht⟩ := exec_split_does hu hk hlt hv hun hm
    have hget : s.isl.ivs.get none o = some v := by rw [hv]; exact if_pos rfl
    rw [Isl.closeIv_of hget] at hj
    have hfit : (s.isl.ended o).fits := Isl.fits.of (i := s.isl) hroom rfl rfl rfl
    have hrec := Isl.close_records hfit hres (uncertain s) (v.toRec o (k * s.isl.splitNs) 0 8)
    have hst := (s.isl.ended o).close_stores (uncertain s) (v.toRec o (k * s.isl.splitNs) 0 8)
    obtain ⟨ev, hev⟩ := Isl.close_put (i := s.isl.ended o) hres (uncertain s) (v.toRec o (k * s.isl.splitNs) 0 8)
    have hresj : j.reserve = false := by
      rw [hj, hev]
      exact (Isl.put_reserve (i := s.isl.ended o) hfit.1 hfree _ _).trans hres
    have hseal := Isl.isSealed_of hst
    have hti := ht hresj
    rw [hj] at hti
    generalize (s.isl.ended o).close (uncertain s) (v.toRec o (k * s.isl.splitNs) 0 8) = l at *
    obtain ⟨⟨h1, h2, -, -⟩, -, ⟨h3, h4, h5⟩, h6, h7, h8, h9⟩ := hst.keeps
    refine ⟨t, _, hx, hrec.of rfl rfl (by rw [hti]; rfl) (by rw [hti]; rfl) (by rw [hti]; rfl), Isl.rec_typ _ _ _, ?_, Isl.rec_tEnd _ _ _,
      Isl.rec_esnEnd _ _ _, ?_, by rw [hti]; rfl, ?_, hon⟩
    · rw [Isl.rec_flags, IRec.flagsOf_other (by decide) (by decide)]
      exact v.toRec_splitEnd _ _ _
    · rw [hti]
      refine (Tab.get_set_self _ _ _ _).trans ?_
      rw [hseal]
      rfl
    · unfold Obl.islandKeeps
      rw [hti]
      exact ⟨h1, h2, h3, h4, h5, h6, h7, h8, h9⟩
  · obtain ⟨t, j, hx, hon, ht, hj⟩ := exec_blockSigning_does hu hf
    rw [hl] at hj
    obtain ⟨h1, h2, h3, h4, h5, h6⟩ := s.isl.trailer_spec b
    refine ⟨t, s.isl.trailer b, hx, ?_, h1, h2, h3, h4, h5, h6, hon⟩
    rw [ht, show j = s.isl from hj]
    have hmap : s.isl.blocks.map (fun (x : Block) => if x.num = b.num then { x with trailer := some (s.isl.trailer x) } else x) =
        s.isl.blocks.map (fun (x : Block) => if x.num = b.num then { x with trailer := some (s.isl.trailer b) } else x) := by
      refine List.map_congr_left fun x hm => ?_
      by_cases hn : x.num = b.num
      · rw [huniq x hm hn]
      · rw [if_neg hn, if_neg hn]
    unfold Isl.signBlock
    rw [hmap]
    rfl
  · obtain ⟨t, j, hx, hon, ht, hj⟩ := exec_blockSigning_does hu hf
    obtain ⟨hst, hnx, ext, hb2, hl2, hr2⟩ := Isl.fill_block hbl hnum (by omega) (uncertain s) (64 - b.recs.length) (by omega)
    rw [← hj] at hst hnx hb2
    have hblk : t.isl.blocks = [{ b with recs := b.recs ++ ext, trailer := some (j.trailer { b with recs := b.recs ++ ext }) }] := by
      rw [ht]
      change j.blocks.map _ = _
      rw [hb2, List.map_cons, List.map_nil, if_pos rfl]
    refine ⟨t, _, hx, hblk, ?_, rfl, by simp [hl2]; omega, List.take_left' rfl, fun r hr => hr2 r ?_, rfl, ?_, hon⟩
    · rw [ht]
      change j.next = _
      omega
    · rwa [List.drop_left' rfl] at hr
    · exact islandKeeps_of (i := j) (j := j.signBlock b.num) ht ⟨_, _, _, _, _, _, _, rfl⟩ (by
        obtain ⟨⟨h1, h2, -, -⟩, -, ⟨h3, h4, h5⟩, h6, h7, h8, h9⟩ := hst.keeps
        exact ⟨h1, h2, h3, h4, h5, h6, h7, h8, h9⟩)
  · rw [exec_checkpoint, execCheckpoint, if_neg (by omega), onIsl_next hu]
    exact ⟨_, rfl, rfl, islandOnly_after (.refl _ s.d) _⟩
  · have hsig := (s.d.condOn 91 0).afterIsl_signals s.isl { s.isl with uncClock := true }
    rw [exec_clockCheck, execClockCheck, if_neg (by simp [hu, hc]), finishIsl_next]
    refine ⟨_, rfl, rfl, ?_, by simp [uncertain], islandOnly_after (Dev.condOn_same _ 91 0) _⟩
    rw [hsig.src 91 (by decide)]
    exact Dev.mem_conds_condOn (by decide) (by decide) _ 0
  · have hsig := (s.d.condOff 91 0).afterIsl_signals s.isl { s.isl with uncClock := false }
    rw [exec_iclkAgreement, execIclkAgreement, if_neg (by simp [hu, hc]), finishIsl_next]
    refine ⟨_, rfl, rfl, ?_, islandOnly_after ((Dev.condOff_same _ 91 0).mono (by decide)) _⟩
    rw [hsig.src 91 (by decide), Dev.conds_condOff]
    simp

end Sys2Proof.Machine

/-! ## Heartbeats and ISLAND_READ (O50) -/
namespace Sys2Proof.Machine
set_option Elab.async false

/-! ### Heartbeats -/

theorem Dev.islEvt_signals (d : Dev) (e : Nat × Nat × Nat × Nat) : d.signals [68] (d.islEvt e) := by
  unfold Dev.islEvt
  split
  · exact (d.evt_signals 0 8 e.1 e.2.1 e.2.2.1 e.2.2.2 (by simp)).trans (Dev.setLeaf_signals _ _ _ _)
  · exact .refl _ d

theorem Dev.islEvts_signals (evs : List (Nat × Nat × Nat × Nat)) (d : Dev) : d.signals [68] (evs.foldl Dev.islEvt d) :=
  .foldl Dev.islEvt_signals evs d

/-- The island's events set their cause. -/
theorem Dev.islEvts_leaf {d : Dev} (he : d.mi.evtEn = true) {evs : List (Nat × Nat × Nat × Nat)} (hne : evs ≠ []) :
    bitOf (((evs.foldl Dev.islEvt d).view 0).leaf.get 0 0x1D0) 0 = true := by
  cases evs with
  | nil => exact absurd rfl hne
  | cons e rest =>
    have h1 : bitOf (((d.islEvt e).view 0).leaf.get 0 0x1D0) 0 = true := by
      rw [Dev.islEvt, if_pos he, Dev.leaf_setLeaf_self, bitOf_or]
      exact Bool.or_true _
    exact ((d.islEvt e).islEvts_signals rest).causes 0 0x1D0 0 h1

/-- The MI registers after a heartbeat. -/
def State.beaten (s : State) : Mi :=
  { s.d.mi with
    alive := true, lastBeat := s.d.tb2, sealState := s.isl.sealState, uncertain := uncertain s, clockFault := s.isl.uncClock,
    reserve := s.isl.reserve, hostAck := s.isl.ackSrc, free := s.isl.freeBlocks, next := s.isl.next, ack := s.isl.ackNext, tb1 := s.isl.tb1,
    gap := s.isl.gap.pend + s.isl.gap.all }

/-- The events of a heartbeat: the island's, and the one of its store when it becomes nearly full. -/
def State.beatEvents (s : State) : List (Nat × Nat × Nat × Nat) :=
  s.isl.events ++ (if s.d.mi.alive && decide (s.d.mi.nearFull < s.d.mi.free) && decide (s.isl.freeBlocks ≤ s.d.mi.nearFull)
    then [(2, s.isl.freeBlocks, 0, 0)] else [])

/-- The state after a heartbeat. -/
def State.afterBeat (s : State) : State :=
  { s with d := (s.beatEvents.foldl Dev.islEvt ({ s.d with mi := s.beaten }.condOff 90 0)).afterIsl s.isl { s.isl with events := [] },
           isl := { s.isl with events := [] } }

theorem exec_islandHeartbeat_next {s : State} (hu : s.isl.up = true) (hk : s.d.clocked = true) :
    exec .islandHeartbeat s = .next s.afterBeat := by
  rw [exec_islandHeartbeat, execIslandHeartbeat]
  exact if_neg (by simp [hu, hk])

/-- A heartbeat's effect outside the island. -/
theorem State.beat_signals (s : State) : ({ s.d with mi := s.beaten }.condOff 90 0).signals [92, 68] s.afterBeat.d :=
  ((Dev.islEvts_signals _ _).mono (by simp)).trans (Dev.afterIsl_signals _ _ _)

theorem State.beat_same (s : State) : Dev.sameBut faultParts { s.d with mi := s.beaten } s.afterBeat.d :=
  ((Dev.condOff_same { s.d with mi := s.beaten } 90 0).up faultParts).trans s.beat_signals.same

theorem State.beat_mi (s : State) : s.afterBeat.d.mi = s.beaten := s.beat_same .mi (by decide)

/-! ### A lost heartbeat -/

theorem exec_heartbeatLoss_next {s : State} (hc : 0 ∉ (s.d.src 90).conds) (ht : s.d.mi.lastBeat + 100000000 ≤ s.d.tb2) (hk : s.d.clocked = true)
    (hq : s.d.mi.reqs = []) :
    exec .heartbeatLoss s = .next { s with d := ({ s.d with mi := { s.d.mi with alive := false } }.condOn 90 0).notify } := by
  have hmi : ({ s.d with mi := { s.d.mi with alive := false } }.condOn 90 0).mi = { s.d.mi with alive := false } :=
    Dev.condOn_same _ 90 0 .mi (by decide)
  have hd : ∀ d : Dev, d.mi.reqs = [] → d.dropMailbox stBlocked = d := by
    intro d h
    have hm : { d.mi with reqs := [] } = d.mi := by rw [← h]
    rw [Dev.dropMailbox, h, hm]
    rfl
  rw [exec_heartbeatLoss, execHeartbeatLoss, if_neg (by simp [hc, hk]; omega), finish_next, hd _ (by rw [hmi]; exact hq)]

/-- FS90 sets its cause as it comes. -/
theorem Dev.leaf_condOn_fs90 {d : Dev} (h : 0 ∉ (d.src 90).conds) : bitOf (((d.condOn 90 0).view 0).leaf.get 0 0x1D0) 2 = true := by
  have hc : d.condOn 90 0 = (d.modSrc 90 (fun s => { s with conds := 0 :: s.conds })).signal 90 0 false := by
    unfold Dev.condOn
    exact if_neg (by simpa using h)
  rw [hc, Dev.signal_eq (by decide)]
  refine (Dev.faultEvents_signals (ns := [68]) _ _ _ _ _ (by simp)).causes 0 0x1D0 2 ?_
  rw [Dev.noted, if_pos rfl, Dev.leaf_setLeaf_self, bitOf_or]
  exact Bool.or_true _

/-! ### ISLAND_READ at the host -/

theorem exec_islandRead_next {s : State} {c : Cmd} (h : Obl.adminFront s 0 0x45 c) :
    exec (.islandRead 0) s = .next { s with d := (s.d.islandRead 0 c).notify } := by
  rw [exec_islandRead, execIslandRead, onAdmin_of_front h, finish_next]

theorem Dev.islandRead_malformed {d : Dev} {c : Cmd}
    (h : sqeClean c.sqe = false ∨ sqeAddr c.sqe % 8 ≠ 0 ∨ 2 < sqeField c.sqe 20 1) :
    d.islandRead 0 c = d.adminDone 0 c.idx (statusComp stMalformed) := by
  unfold Dev.islandRead
  refine if_pos ?_
  obtain h | h | h := h
  · simp [h]
  · simp [h]
  · simp [show ¬ sqeField c.sqe 20 1 ≤ 2 by omega]

theorem Dev.islandRead_of {d : Dev} {c : Cmd} (h1 : sqeClean c.sqe = true) (h2 : sqeAddr c.sqe % 8 = 0) (h3 : sqeField c.sqe 20 1 ≤ 2) :
    d.islandRead 0 c = if d.mi.alive = false then d.adminDone 0 c.idx (statusComp stBlocked)
      else { d.adminBegin 0 c.idx with mi := { (d.adminBegin 0 c.idx).mi with reqs := (d.adminBegin 0 c.idx).mi.reqs ++ [(0, c.idx, c.sqe)] } } := by
  unfold Dev.islandRead
  rw [if_neg (by simp [h1, h2, h3])]
  cases d.mi.alive <;> rfl

/-! ### The island's reply -/

/-- The mailbox with the requests that still wait. -/
def Dev.mailboxLeft (d : Dev) (rest : List (Nat × Nat × Sqe)) : Dev := { d with mi := { d.mi with reqs := rest } }

/-- The record or structure that a reply brings goes to host memory. -/
def Dev.replied (d : Dev) (a : Nat) (bs : List Byte) : Dev := if bs.isEmpty then d else d.toHost a bs.length (.hostBulk a bs)

theorem Dev.mailboxLeft_same (d : Dev) (rest : List (Nat × Nat × Sqe)) : Dev.sameBut [.mi] d (d.mailboxLeft rest) := d.withMi_same _

theorem Dev.mailboxLeft_fn (d : Dev) (rest : List (Nat × Nat × Sqe)) : (d.mailboxLeft rest).fn = d.fn := rfl

theorem Dev.replied_signals {ns : List Nat} (d : Dev) (a : Nat) (bs : List Byte) : d.signals ns (d.replied a bs) := by
  unfold Dev.replied
  split
  · exact .refl _ d
  · exact d.toHost_signals _ _ _

/-- An admin command that completes, whatever events follow: it is answered. -/
theorem State.adminAnswers_signals {s t : State} {d : Dev} {f : Nat} {c : Cmd} {ns : List Nat} (comp : Comp) (hf : d.fn f = s.d.fn f)
    (hout : d.io.out = s.d.io.out) (hc : (s.d.fn f).cmds = [c]) (ho : (s.d.fn f).orphans = []) (hr : s.d.acqRuns f)
    (ht : (d.adminDone f c.idx comp).signals ns t.d) : State.adminAnswers s t f { comp with cid := sqeCid c.sqe } := by
  obtain ⟨-, -, -, -, -, -, -, -, hacq, hcm, -⟩ := (ht.fn f).fields
  obtain ⟨later, hl⟩ := ht.sent
  obtain ⟨ha, hm⟩ := hr
  have hr' : (d.modFn f (fun x => { x with cmds := [] })).acqRuns f := by simp [Dev.acqRuns, hf, ha, hm]
  have he := Dev.adminDone_only comp (hf ▸ hc) (hf ▸ ho)
  rw [Dev.acqPush_of hr'] at he
  refine ⟨⟨later, ?_⟩, ?_, ?_⟩
  · rw [hl, he]; simp [hf, hout]
  · rw [hcm, he]; simp
  · rw [hacq, he]; simp [hf, Ring.pushed]

section
variable {s : State} {c : Cmd} {rest : List (Nat × Nat × Sqe)} (hq : s.d.mi.reqs = (0, c.idx, c.sqe) :: rest) (hu : s.isl.up = true)
  (hk : s.d.clocked = true) (hc : (s.d.fn 0).cmds = [c]) (ho : (s.d.fn 0).orphans = []) (hm : (s.d.fn 0).flrAt = none)
  (ha : (s.d.fn 0).aqActive = true)

/-- The state after the island has answered. -/
def State.islandReplied (s : State) (c : Cmd) (rest : List (Nat × Nat × Sqe)) (i : Isl) (bs : List Byte) (comp : Comp) : State :=
  { s with d := ((((s.d.mailboxLeft rest).replied (sqeAddr c.sqe) bs).adminDone 0 c.idx comp).setLeaf 0 0x1D0 2).afterIsl s.isl i, isl := i }

include hq hu hk hm in
theorem exec_islandReply_next {i : Isl} {bs : List Byte} {comp : Comp} (hi : s.isl.answer (uncertain s) c.sqe = (i, bs, comp)) :
    exec .islandReply s = .next (s.islandReplied c rest i bs comp) := by
  have hw : (s.d.mailboxLeft rest).mayWrite 0 = true := by simp [Dev.mayWrite, Dev.mailboxLeft, Dev.fn] at hm ⊢; exact hm
  have hr : (if (0 < 16 ∧ (s.d.mailboxLeft rest).mayWrite 0) ∧ !bs.isEmpty then
      (s.d.mailboxLeft rest).toHost (sqeAddr c.sqe) bs.length (.hostBulk (sqeAddr c.sqe) bs) else s.d.mailboxLeft rest) =
      (s.d.mailboxLeft rest).replied (sqeAddr c.sqe) bs := by
    unfold Dev.replied
    cases bs <;> simp [hw]
  rw [exec_islandReply, execIslandReply, hq]
  dsimp only
  rw [if_neg (by simp [hu, hk]), hi]
  dsimp only
  rw [if_pos (show 0 < 16 by decide), finishIsl_next, State.islandReplied, ← hr]
  rfl

theorem Dev.islandReplied_signals (d : Dev) (old new : Isl) : d.signals [92, 68] ((d.setLeaf 0 0x1D0 2).afterIsl old new) :=
  (d.setLeaf_signals 0 0x1D0 2).trans (Dev.afterIsl_signals _ _ _)

theorem State.islandReplied_same (s : State) (c : Cmd) (rest : List (Nat × Nat × Sqe)) (i : Isl) (bs : List Byte) (comp : Comp) :
    Dev.sameBut faultParts (s.d.mailboxLeft rest) (s.islandReplied c rest i bs comp).d :=
  ((Dev.replied_signals (ns := []) _ _ bs).same.trans ((Dev.adminDone_same _ _ _ _).up _)).trans (Dev.islandReplied_signals _ _ _).same

theorem State.islandReplied_mi (s : State) (c : Cmd) (rest : List (Nat × Nat × Sqe)) (i : Isl) (bs : List Byte) (comp : Comp) :
    (s.islandReplied c rest i bs comp).d.mi = { s.d.mi with reqs := rest } := s.islandReplied_same c rest i bs comp .mi (by decide)

theorem Dev.mailboxLeft_back {d e : Dev} {rest : List (Nat × Nat × Sqe)} (h : Dev.sameBut faultParts (d.mailboxLeft rest) e) :
    Dev.sameBut faultParts d { e with mi := d.mi } := by
  intro p hp
  cases p with
  | mi => rfl
  | _ => exact h _ hp

/-- But for the mailbox's requests, a reply leaves the device but for its events. -/
theorem State.islandReplied_only (s : State) (c : Cmd) (rest : List (Nat × Nat × Sqe)) (i : Isl) (bs : List Byte) (comp : Comp) :
    Obl.islandOnly s { s.islandReplied c rest i bs comp with d := { (s.islandReplied c rest i bs comp).d with mi := s.d.mi } } := by
  exact ⟨rfl, rfl, rfl, (Dev.mailboxLeft_back (s.islandReplied_same c rest i bs comp)).mono (by decide)⟩

theorem State.islandReplied_leaf (s : State) (c : Cmd) (rest : List (Nat × Nat × Sqe)) (i : Isl) (bs : List Byte) (comp : Comp) :
    bitOf (((s.islandReplied c rest i bs comp).d.view 0).leaf.get 0 0x1D0) 1 = true := by
  refine (Dev.afterIsl_signals _ s.isl i).causes 0 0x1D0 1 ?_
  rw [Dev.leaf_setLeaf_self, bitOf_or]
  exact Bool.or_true _

include hc ho hm ha in
/-- A reply without data completes its command. -/
theorem State.islandReplied_answers (i : Isl) (comp : Comp) :
    State.adminAnswers s (s.islandReplied c rest i [] comp) 0 { comp with cid := sqeCid c.sqe } :=
  State.adminAnswers_signals (d := s.d.mailboxLeft rest) comp rfl rfl hc ho ⟨ha, hm⟩ (Dev.islandReplied_signals _ _ _)

end

/-! ### What the island answers -/

theorem Isl.answer_ack {i : Isl} {unc : Bool} {s : Sqe} (h2 : sqeField s 20 1 = 2) (hh : i.ackSrc = true) (hf : sqeField s 24 8 < i.next)
    (hr : i.reserve = false) : i.answer unc s = ({ i with ackNext := max i.ackNext (sqeField s 24 8 + 1) }, [],
      { dw3 := max i.ackNext (sqeField s 24 8 + 1) - i.ackNext }) := by
  unfold Isl.answer
  rw [h2]
  refine (if_neg (by simp [hh])).trans ((if_neg (by omega)).trans ?_)
  rw [Isl.acknowledge_eq hr]

theorem Isl.answer_ack_blocked {i : Isl} {unc : Bool} {s : Sqe} (h2 : sqeField s 20 1 = 2) (hh : i.ackSrc = false) :
    i.answer unc s = (i, [], statusComp stBlocked) := by
  unfold Isl.answer
  rw [h2]
  exact if_pos (by simp [hh])

/-- One record fits in 256 bytes, its block's trailer does not. -/
theorem Isl.units_one {i : Isl} {k : Nat} {r : List Byte} (hr : i.recAt k = some r) : i.units 1 k 256 = (r, 1) := by
  rw [Isl.units, hr]
  dsimp only
  rw [if_neg (by decide)]
  split
  · simp [Isl.units]
  · rfl

theorem Isl.answer_record {i : Isl} {unc : Bool} {s : Sqe} {r : List Byte} (h1 : sqeField s 20 1 = 1) (ho : i.oldest ≤ sqeField s 24 8)
    (hn : sqeField s 24 8 < i.next) (hc : sqeField s 32 4 = 1) (hl : sqeField s 16 4 = 256) (hr : i.recAt (sqeField s 24 8) = some r)
    (hlen : r.length = 256) : i.answer unc s = (i, r, { dw2 := 256, dw3 := 1 }) := by
  unfold Isl.answer
  rw [h1, hl, hc]
  refine (if_neg (by omega)).trans ?_
  rw [show min 1 12288 = 1 by rfl, Isl.units_one hr]
  dsimp only
  rw [hlen]

/-- Settles O50, by what a heartbeat, a request and its reply make of the mailbox. -/
theorem mailboxCarriesRequests : Obligations.MailboxCarriesRequests := by
  refine ⟨?_, ?_, ?_, ?_⟩
  · intro s hu hk
    refine ⟨_, exec_islandHeartbeat_next hu hk, ?_, ?_, ?_, ?_, ?_, ?_, ?_, ?_, ?_, ?_, ?_, ?_, rfl, ?_, fun hne he => ?_, rfl,
      rfl, rfl, ((s.d.withMi_same s.beaten).mono (by decide)).trans (s.beat_same.mono (by decide))⟩
    · exact congrArg Mi.alive s.beat_mi
    · exact congrArg Mi.lastBeat s.beat_mi
    · exact congrArg Mi.next s.beat_mi
    · exact congrArg Mi.ack s.beat_mi
    · exact congrArg Mi.tb1 s.beat_mi
    · exact congrArg Mi.free s.beat_mi
    · exact congrArg Mi.uncertain s.beat_mi
    · exact congrArg Mi.clockFault s.beat_mi
    · exact congrArg Mi.reserve s.beat_mi
    · exact congrArg Mi.hostAck s.beat_mi
    · exact congrArg Mi.gap s.beat_mi
    · exact (congrArg Mi.reqs s.beat_mi).trans rfl
    · rw [s.beat_signals.src 90 (by decide), Dev.conds_condOff]
      simp
    · refine (Dev.afterIsl_signals _ s.isl { s.isl with events := [] }).causes 0 0x1D0 0
        (Dev.islEvts_leaf (d := ({ s.d with mi := s.beaten } : Dev).condOff 90 0) he ?_)
      exact fun h => hne (List.append_eq_nil_iff.mp h).1
  · intro s hc ht hk hq
    have hs := Dev.condOn_same { s.d with mi := { s.d.mi with alive := false } } 90 0
    have hsrc := Dev.src_condOn (n := 90) (by decide) (by decide) { s.d with mi := { s.d.mi with alive := false } } 0
    rw [if_neg (show (0 : Nat) ∉ (Dev.src { s.d with mi := { s.d.mi with alive := false } } 90).conds from hc)] at hsrc
    have hmk := Src.marked_fields ({ s.d.src 90 with conds := 0 :: (s.d.src 90).conds } : Src) 90 0 s.d.tb2 false true
    refine ⟨_, exec_heartbeatLoss_next hc ht hk hq, ?_, ?_, ?_, ?_, finish_same (((s.d.withMi_same _).up _).trans (hs.up _))⟩
    · rw [Dev.notify_mi]
      exact hs .mi (by decide)
    · rw [Dev.notify_src]
      exact Dev.mem_conds_condOn (by decide) (by decide) _ 0
    · rw [Dev.notify_src, hsrc]
      exact hmk.2.1
    · rw [Dev.notify_view]
      exact Dev.leaf_condOn_fs90 hc
  · intro s c h
    refine ⟨fun h1 h2 h3 hal => ?_, fun h1 h2 h3 hal => ?_, fun hbad => ?_⟩
    · have hr : s.d.islandRead 0 c = { s.d.adminBegin 0 c.idx with mi := { s.d.mi with reqs := s.d.mi.reqs ++ [(0, c.idx, c.sqe)] } } := by
        rw [Dev.islandRead_of h1 h2 h3, if_neg (by simp [hal])]
        rfl
      refine ⟨_, exec_islandRead_next h, ?_, ?_, ?_⟩
      · rw [Dev.notify_mi, hr]
      · rw [Dev.notify_fn_cmds, hr]
        exact adminBegin_only h.2.1
      · rw [hr]
        exact finish_same (((adminBegin_same _ _ _).up _).trans ((Dev.withMi_same _ _).up _))
    · have hr : s.d.islandRead 0 c = s.d.adminDone 0 c.idx (statusComp stBlocked) := by rw [Dev.islandRead_of h1 h2 h3, if_pos hal]
      refine ⟨_, exec_islandRead_next h, ?_, ?_⟩ <;> rw [hr]
      · exact adminFront_answers h (statusComp stBlocked) rfl rfl
      · exact finish_same ((Dev.adminDone_same _ _ _ _).up _)
    · refine ⟨_, exec_islandRead_next h, ?_, ?_⟩ <;> rw [Dev.islandRead_malformed hbad]
      · exact adminFront_answers h (statusComp stMalformed) rfl rfl
      · exact finish_same ((Dev.adminDone_same _ _ _ _).up _)
  · intro s c rest hq hu hk hc ho hm ha
    refine ⟨fun h2 hh hf hres => ?_, fun h2 hh => ?_, fun r h1 hol hn hcnt hl hr hlen => ?_⟩
    · refine ⟨_, exec_islandReply_next hq hu hk hm (Isl.answer_ack h2 hh hf hres), rfl, ?_, s.islandReplied_mi c rest _ _ _,
        s.islandReplied_leaf c rest _ _ _, rfl, rfl, rfl, ?_⟩
      · exact State.islandReplied_answers hc ho hm ha _ { dw3 := max s.isl.ackNext (sqeField c.sqe 24 8 + 1) - s.isl.ackNext }
      · exact ((s.d.mailboxLeft_same rest).up _).trans ((s.islandReplied_same c rest _ _ _).mono (by decide))
    · exact ⟨_, exec_islandReply_next hq hu hk hm (Isl.answer_ack_blocked h2 hh), rfl, State.islandReplied_answers hc ho hm ha _ (statusComp stBlocked),
        s.islandReplied_mi c rest _ _ _, s.islandReplied_only c rest _ _ _⟩
    · have hne : r.isEmpty = false := by cases r <;> simp_all
      have hrep : (s.d.mailboxLeft rest).replied (sqeAddr c.sqe) r =
          (s.d.mailboxLeft rest).toHost (sqeAddr c.sqe) r.length (.hostBulk (sqeAddr c.sqe) r) := by
        rw [Dev.replied, hne]
        rfl
      obtain ⟨later, hl'⟩ := (Dev.islandReplied_signals (((s.d.mailboxLeft rest).replied (sqeAddr c.sqe) r).adminDone 0 c.idx { dw2 := 256, dw3 := 1 })
        s.isl s.isl).sent
      refine ⟨_, later, [], exec_islandReply_next hq hu hk hm (Isl.answer_record h1 hol hn hcnt hl hr hlen), rfl, ?_,
        s.islandReplied_only c rest _ _ _⟩
      refine hl'.trans ?_
      rw [hrep, Dev.adminDone_only { dw2 := 256, dw3 := 1 } (by simpa [Dev.mailboxLeft_fn] using hc) (by simpa [Dev.mailboxLeft_fn] using ho),
        Dev.acqPush_of ⟨by simpa [Dev.mailboxLeft_fn] using ha, by simpa [Dev.mailboxLeft_fn] using hm⟩]
      simp [Dev.mailboxLeft_fn]
      rfl

end Sys2Proof.Machine

/-! ## Stores, application and return (O42) -/
namespace Sys2Proof.Machine
set_option Elab.async false

/-! ### Reports -/

/-- Report entries of tiles with one reason, the last first. -/
theorem CalRun.foldl_addReport (reason : Nat) (ts : List Nat) : ∀ r : CalRun, ts.foldl (fun (r : CalRun) t => r.addReport t 0 t reason 0) r =
    { r with reports := (ts.map (fun t => (calKey t 0 t, calWord t 0 reason 0))).reverse ++ r.reports } := by
  induction ts with
  | nil => intro r; rfl
  | cons t ts ih =>
    intro r
    rw [List.foldl_cons, ih, CalRun.addReport]
    simp

theorem pack_four (a b c d i j k l : Nat) : pack [(a, i), (b, j), (c, k), (d, l)] = a * 2 ^ i + (b * 2 ^ j + (c * 2 ^ k + d * 2 ^ l)) := by simp [pack]

theorem calWord_eq (addr kind reason diff : Nat) :
    calWord addr kind reason diff = addr * 2 ^ 0 + (kind * 2 ^ 17 + (reason * 2 ^ 20 + diff * 2 ^ 32)) := pack_four _ _ _ _ _ _ _ _

/-- The reason and the tile of an entry. -/
theorem calWord_tile {t reason : Nat} (ht : t < 336) (hr : reason < 16) :
    calReason (calWord t 0 reason 0) = reason ∧ calWord t 0 reason 0 % 2 ^ 17 = t := by
  rw [calWord_eq, calReason, fieldOf]
  constructor <;> omega

/-- Each of the tiles is in the report. -/
theorem CalRun.exists_report {r : CalRun} {ts : List Nat} {reason t : Nat} (hm : t ∈ ts) (ht : t < 336) (hr : reason < 16) :
    ∃ e ∈ (ts.foldl (fun (r : CalRun) t => r.addReport t 0 t reason 0) r).reports, calReason e.2 = reason ∧ e.2 % 2 ^ 17 = t := by
  refine ⟨(calKey t 0 t, calWord t 0 reason 0), ?_, calWord_tile ht hr⟩
  rw [CalRun.foldl_addReport]
  exact List.mem_append_left _ (List.mem_reverse.mpr (List.mem_map_of_mem hm))

/-! ### Banks -/

theorem Cal.bank_setBank (c : Cal) (b : Bool) (x : Bank) : (c.setBank b x).bank b = x ∧ (c.setBank b x).bank (!b) = c.bank (!b) := by
  cases b <;> exact ⟨rfl, rfl⟩

/-- A bank without its commit record is not valid. -/
theorem Bank.valid_unsealed (g : Nat) (set : DeltaSet) : Bank.valid { gen := g, set := set } = false := by simp [Bank.valid]

theorem bankBytes_seal (b : Bank) : bankBytes b.seal = bankBytes b := rfl

/-- The commit record carries GEN, length and digest of its bank (R241). -/
theorem Bank.seal_record (b : Bank) :
    ∃ c, b.seal.record = some c ∧ c.gen = b.seal.gen ∧ c.len = 1049664 ∧ c.digest = Config.sha3 (bankBytes b.seal) := by
  rw [bankBytes_seal]
  exact ⟨_, rfl, rfl, rfl, rfl⟩

/-- A store writes the bank that is not in force, and gives the generation behind that of the one that is (R242). -/
theorem Cal.nextGen_of {c : Cal} {b : Bool} (h : c.inForce = some b) : c.nextGen = (c.bank b).gen + 1 ∧ c.target = !b := by
  unfold Cal.nextGen Cal.target
  rw [h]
  cases b <;> exact ⟨rfl, rfl⟩

/-- The bank A is in force when it is valid and newer than B, or B is not valid. -/
theorem Cal.inForce_a {c : Cal} (ha : c.bankA.valid = true) (hb : c.bankB.valid = false ∨ c.bankB.gen ≤ c.bankA.gen) : c.inForce = some false := by
  unfold Cal.inForce
  refine if_pos ?_
  obtain hb | hb := hb <;> simp [ha, hb]

theorem Cal.inForce_b {c : Cal} (hb : c.bankB.valid = true) (ha : c.bankA.gen < c.bankB.gen) : c.inForce = some true := by
  unfold Cal.inForce
  rw [if_neg (by simp [hb]; omega), if_pos hb]

/-- With no bank in force neither is valid. -/
theorem Cal.valid_of_none {c : Cal} (h : c.inForce = none) : c.bankB.valid = false := by
  unfold Cal.inForce at h
  cases hb : c.bankB.valid with
  | false => rfl
  | true => rw [hb] at h; split at h <;> simp at h

/-- A valid bank of the next generation is in force. -/
theorem Cal.inForce_setBank {c : Cal} {x : Bank} (hx : x.valid = true) (hg : x.gen = c.nextGen) : (c.setBank c.target x).inForce = some c.target := by
  cases h : c.inForce with
  | none =>
    have ht : c.target = false := by rw [Cal.target, h]; rfl
    rw [ht]
    exact Cal.inForce_a hx (.inl (Cal.valid_of_none (c := c) h))
  | some b =>
    obtain ⟨hn, ht⟩ := Cal.nextGen_of h
    rw [ht]
    cases b with
    | false => exact Cal.inForce_b hx (show c.bankA.gen < x.gen by rw [hg, hn]; exact Nat.lt_succ_self _)
    | true => exact Cal.inForce_a hx (.inr (show c.bankB.gen ≤ x.gen by rw [hg, hn]; exact Nat.le_succ _))

/-! ### A store starts -/

/-- Calibration once a store over the tiles of a step has started. -/
def Cal.storeBegun (c : Cal) (r : CalRun) (step : Nat) (again : Bool) (now : Nat) : Cal :=
  { c.setBank c.target { gen := c.nextGen, set := c.stored r step } with
    run := some { r with active := r.active.map (fun (t : CalTile) => if t.step = step then { t with step := 6, t0 := now } else t) }
    storing := true, storeSet := c.stored r step, storeAt := now, again := again, retry := false, retryAt := none }

theorem Dev.startStore_of {d : Dev} {r : CalRun} (h : d.cal.run = some r) (step : Nat) (again : Bool) :
    d.startStore step again = ({ d with cal := d.cal.storeBegun r step again d.tb2 } : Dev).bus 5 true 1 0 bankLen := by
  unfold Dev.startStore
  rw [h]
  rfl

/-- The bank that a store writes is out of use from its start; the other stays. -/
theorem Cal.storeBegun_banks (c : Cal) (r : CalRun) (step : Nat) (again : Bool) (now : Nat) :
    ((c.storeBegun r step again now).bank c.target).valid = false ∧ (c.storeBegun r step again now).bank (!c.target) = c.bank (!c.target) := by
  obtain ⟨h1, h2⟩ := c.bank_setBank c.target { gen := c.nextGen, set := c.stored r step }
  refine ⟨?_, h2⟩
  have h : (c.storeBegun r step again now).bank c.target = { gen := c.nextGen, set := c.stored r step } := h1
  rw [h, Bank.valid_unsealed]

theorem Cal.setBank_delta (c : Cal) (b : Bool) (x : Bank) : (c.setBank b x).delta = c.delta := by cases b <;> rfl

theorem Dev.storeBegun_same (d : Dev) (c : Cal) : Dev.sameBut [.cal] d (({ d with cal := c } : Dev).bus 5 true 1 0 bankLen) :=
  (d.withCal_same c).trans ((Dev.bus_same _ _ _ _ _ _ _).up _)

theorem exec_store_next {s : State} {r : CalRun} (hr : s.d.cal.run = some r) (hd : ∃ x ∈ r.active, x.step = 5) (hs : s.d.cal.storing = false)
    (ht : s.d.cal.retry = false) (hw : s.d.pwr.vinWarn = false) (hc : (s.d.src 15).conds = []) (hx : s.d.sec.restart = none)
    (hk : s.d.clocked = true) : exec .store s =
      .next { s with d := (({ s.d with cal := s.d.cal.storeBegun r 5 false s.d.tb2 } : Dev).bus 5 true 1 0 bankLen).notify } := by
  rw [exec_store, execStore, hr]
  dsimp only
  rw [if_neg (by simpa [hs, ht, hw, hc, hx, hk] using hd), finish_next, Dev.startStore_of hr]

theorem exec_storeRetry_next {s : State} {r : CalRun} {at2 : Nat} (hr : s.d.cal.run = some r) (ht : s.d.cal.retry = true)
    (ha : s.d.cal.retryAt = some at2) (hl : at2 + 100000000 ≤ s.d.tb2) (hw : s.d.pwr.vinWarn = false) (hk : s.d.clocked = true) :
    exec .storeRetry s =
      .next { s with d := (({ s.d with cal := s.d.cal.storeBegun r 6 true s.d.tb2 } : Dev).bus 5 true 1 0 bankLen).notify } := by
  rw [exec_storeRetry, execStoreRetry, ha]
  dsimp only
  rw [if_pos (by simp [ht, hl, hw, hk]), finish_next, Dev.startStore_of hr]

/-! ### A store ends -/

/-- The tiles of a store are stored. -/
def CalRun.storedTiles (r : CalRun) (now : Nat) : CalRun :=
  { r with active := r.active.map (fun (t : CalTile) => if t.step = 6 then { t with step := 7, t0 := now } else t) }

/-- Calibration once a store's commit record has verified. -/
def Cal.committed (c : Cal) (x : Bank) : Cal :=
  { c.setBank c.target x with
    storing := false, pfAbort := false, noDelta := false, again := false, stores := satAdd (c.setBank c.target x).stores 1 32 }

theorem Cal.setBank_stores (c : Cal) (b : Bool) (x : Bank) : (c.setBank b x).stores = c.stores ∧ (c.setBank b x).run = c.run := by
  cases b <;> exact ⟨rfl, rfl⟩

/-- The control side once a store's commit record has verified. -/
def Dev.storeDone (d : Dev) (x : Bank) : Dev :=
  ((({ d with cal := d.cal.committed x } : Dev).modRun (fun r => r.storedTiles d.tb2)).count 3027).setLeaf 0 0x1C0 16

theorem exec_storeComplete_valid {s : State} (hs : s.d.cal.storing = true) (hk : s.d.clocked = true) (hv : (Obl.newBank s).valid = true) :
    exec (.storeComplete true) s = .next { s with d := (s.d.storeDone (Obl.newBank s)).notify } := by
  have hv' : (Bank.seal { gen := s.d.cal.nextGen, set := s.d.cal.storeSet }).valid = true := hv
  rw [exec_storeComplete, execStoreComplete]
  dsimp only
  rw [if_neg (by simp [hs, hk]), if_neg (by simp [hv'])]
  rfl

theorem exec_storeComplete_bad {s : State} {v : Bool} (hs : s.d.cal.storing = true) (hk : s.d.clocked = true)
    (hv : v = false ∨ (Obl.newBank s).valid = false) : exec (.storeComplete v) s = .next { s with d := (s.d.storeAbandon false).notify } := by
  have hv' : v = false ∨ (Bank.seal { gen := s.d.cal.nextGen, set := s.d.cal.storeSet }).valid = false := hv
  rw [exec_storeComplete, execStoreComplete]
  dsimp only
  rw [if_neg (by simp [hs, hk]), if_pos (by obtain h | h := hv' <;> simp [h]), finish_next]

theorem Dev.storeDone_same (d : Dev) (x : Bank) : Dev.sameBut [.cal, .views] d (d.storeDone x) :=
  ((d.withCal_same _).up _).trans (((Dev.withCal_same _ _).up _).trans (((Dev.count_same _ _).up _).trans ((Dev.setLeaf_same _ _ _ _).up _)))

/-- Calibration after it. -/
theorem Dev.storeDone_cal (d : Dev) (x : Bank) :
    (d.storeDone x).cal = { d.cal.committed x with run := d.cal.run.map (fun r : CalRun => r.storedTiles d.tb2) } := by
  change { d.cal.committed x with run := (d.cal.setBank d.cal.target x).run.map (fun r : CalRun => r.storedTiles d.tb2) } = _
  rw [(d.cal.setBank_stores d.cal.target x).2]

/-! ### A repeated store fails -/

/-- The end of a CAL_RUN leaves the banks and the store. -/
theorem Dev.calCheck_banks (d : Dev) :
    d.calCheck.cal.bankA = d.cal.bankA ∧ d.calCheck.cal.bankB = d.cal.bankB ∧ d.calCheck.cal.storing = d.cal.storing := by
  unfold Dev.calCheck
  split
  · exact ⟨rfl, rfl, rfl⟩
  · split
    · exact ⟨rfl, rfl, rfl⟩
    · extract_lets r next cal d1
      have h : d1.cal = { d.cal with run := none, waiting := d.cal.waiting.drop 1 } := Dev.calFinish_same _ r .cal (by decide)
      have h1 : d1.cal.bankA = d.cal.bankA ∧ d1.cal.bankB = d.cal.bankB ∧ d1.cal.storing = d.cal.storing := by
        rw [h]
        exact ⟨rfl, rfl, rfl⟩
      clear_value next d1
      split
      · exact h1
      · exact h1

/-- A run with tiles to start goes on. -/
theorem Dev.calCheck_of_todo {d : Dev} {r : CalRun} (h : d.cal.run = some r) (ht : r.todo ≠ []) : d.calCheck = d := by
  unfold Dev.calCheck
  rw [h]
  exact if_pos (by simp [ht])

/-- The tiles of a store that has failed twice: reported, and returned or dropped. -/
def CalRun.unstored (r : CalRun) (now : Nat) : CalRun :=
  let r := ((r.active.filter (fun t => t.step == 6)).map (·.tn)).foldl (fun (r : CalRun) tn => r.addReport tn 0 tn 8 0) r
  if r.clear then { r with active := r.active.filter (fun t => t.step != 6) }
  else { r with active := r.active.map (fun (t : CalTile) => if t.step = 6 then { t with step := 8, t0 := now, accepted := [] } else t) }

/-- The control side then, but for the end of the run. -/
def Dev.storeLost (d : Dev) (r : CalRun) : Dev :=
  ({ d with cal := { d.cal with run := some (r.unstored d.tb2), err := d.cal.err ||| 4, retry := false, retryAt := none, again := false } } : Dev).once
    56 0

theorem Dev.storeFails_of {d : Dev} {r : CalRun} (h : d.cal.run = some r) : d.storeFails = (d.storeLost r).calCheck := by
  unfold Dev.storeFails
  rw [h]
  rfl

theorem Dev.storeLost_cal (d : Dev) (r : CalRun) : (d.storeLost r).cal =
    { d.cal with run := some (r.unstored d.tb2), err := d.cal.err ||| 4, retry := false, retryAt := none, again := false } :=
  Dev.once_same _ 56 0 .cal (by decide)

/-- The control side without the store that is given up. -/
def Dev.storeOff (d : Dev) (power : Bool) : Dev :=
  ({ d.resetBursts (fun b => b.master == 5) with cal := d.cal.abandoned power d.tb2 } : Dev).count 3028

theorem Dev.storeAbandon_again {d : Dev} (h : d.cal.storing = true) (ha : d.cal.again = true) (p : Bool) :
    d.storeAbandon p = (d.storeOff p).storeFails := by
  unfold Dev.storeAbandon
  rw [if_neg (by simp [h])]
  exact if_pos ha

theorem Dev.storeOff_same (d : Dev) (p : Bool) : Dev.sameBut [.cal] d (d.storeOff p) :=
  ((d.resetBursts_same _).up _).trans ((Dev.withCal_same _ _).trans ((Dev.count_same _ _).up _))

theorem Dev.storeOff_cal (d : Dev) (p : Bool) : (d.storeOff p).cal = d.cal.abandoned p d.tb2 := rfl

/-- Whether for the first time or again, a store that is abandoned leaves the banks. -/
theorem Dev.storeAbandon_banks {d : Dev} {r : CalRun} (h : d.cal.storing = true) (hr : d.cal.run = some r) (p : Bool) :
    (d.storeAbandon p).cal.storing = false ∧ ∀ b, (d.storeAbandon p).cal.bank b = d.cal.bank b := by
  cases ha : d.cal.again with
  | false =>
    rw [Dev.storeAbandon_cal ha, if_pos h]
    exact ⟨rfl, fun b => rfl⟩
  | true =>
    rw [Dev.storeAbandon_again h ha, Dev.storeFails_of (d := d.storeOff p) (r := r) hr]
    obtain ⟨h1, h2, h3⟩ := ((d.storeOff p).storeLost r).calCheck_banks
    rw [Dev.storeLost_cal] at h1 h2 h3
    refine ⟨h3, fun b => ?_⟩
    cases b
    · exact h1
    · exact h2

theorem CalRun.unstored_of {r : CalRun} (hc : r.clear = false) (now : Nat) : (r.unstored now).active =
    r.active.map (fun (t : CalTile) => if t.step = 6 then { t with step := 8, t0 := now, accepted := [] } else t) ∧ (r.unstored now).todo = r.todo ∧
    (r.unstored now).reports =
      (((r.active.filter (fun t => t.step == 6)).map (·.tn)).foldl (fun (r : CalRun) tn => r.addReport tn 0 tn 8 0) r).reports := by
  unfold CalRun.unstored
  rw [CalRun.foldl_addReport]
  dsimp only
  rw [if_neg (by simp [hc])]
  exact ⟨rfl, rfl, rfl⟩

/-! ### Application -/

/-- The tiles and every loop's command are as before. -/
def Dev.commandsStay (d e : Dev) : Prop := e.tile = d.tile ∧ ∀ aa, (e.loop aa).u = (d.loop aa).u ∧ (e.loop aa).drv = (d.loop aa).drv

theorem Dev.commandsStay.refl (d : Dev) : d.commandsStay d := ⟨rfl, fun _ => ⟨rfl, rfl⟩⟩

theorem Dev.commandsStay.trans {d e g : Dev} (h : d.commandsStay e) (h' : e.commandsStay g) : d.commandsStay g :=
  ⟨h'.1.trans h.1, fun aa => ⟨(h'.2 aa).1.trans (h.2 aa).1, (h'.2 aa).2.trans (h.2 aa).2⟩⟩

theorem Dev.commandsStay.foldl {α : Type} {g : Dev → α → Dev} (h : ∀ (d : Dev) x, d.commandsStay (g d x)) (l : List α) :
    ∀ d : Dev, d.commandsStay (l.foldl g d) := by
  induction l with
  | nil => exact .refl
  | cons x l ih => intro d; exact (h d x).trans (ih _)

theorem Dev.modLoop_commandsStay (d : Dev) (aa : Nat) {f : Loop → Loop} (hf : ∀ l, (f l).u = l.u ∧ (f l).drv = l.drv) :
    d.commandsStay (d.modLoop aa f) := by
  refine ⟨rfl, fun a => ?_⟩
  rw [Dev.loop_modLoop]
  split
  · next h => subst h; exact hf _
  · exact ⟨rfl, rfl⟩

theorem Dev.modMrt_commandsStay (d : Dev) (m : Nat) (f : Mrt → Mrt) : d.commandsStay (d.modMrt m f) := ⟨rfl, fun _ => ⟨rfl, rfl⟩⟩

/-- No applied command moves when coefficients are replaced (R229). -/
theorem Dev.swapCoeffs_commandsStay (d d0 : Dev) (tn : Nat) : d.commandsStay (d.swapCoeffs d0 tn) := by
  refine .foldl (fun d ca => ?_) _ d
  extract_lets d1 c d2
  have h1 : d.commandsStay d1 := by
    refine .foldl (fun x aa => ?_) _ d
    extract_lets m
    split
    · exact x.modLoop_commandsStay aa fun _ => ⟨rfl, rfl⟩
    · exact .refl x
  have h2 : d1.commandsStay d2 := by
    unfold d2
    split
    · exact ⟨rfl, fun _ => ⟨rfl, rfl⟩⟩
    · exact .refl d1
  exact h1.trans (h2.trans (.foldl (fun x m => Dev.modMrt_commandsStay x m _) _ d2))

theorem Dev.recompute_tile (d d0 : Dev) (tn j : Nat) :
    (d.recompute d0 tn).tile j = if j = tn then { d.tile tn with tUse := some (d.sensor tn).temp } else d.tile j := by
  rw [Dev.recompute, (Dev.swapCoeffs_commandsStay _ d0 tn).1, Dev.tile_modTile]

theorem Dev.recompute_loop (d d0 : Dev) (tn aa : Nat) :
    ((d.recompute d0 tn).loop aa).u = (d.loop aa).u ∧ ((d.recompute d0 tn).loop aa).drv = (d.loop aa).drv :=
  (Dev.swapCoeffs_commandsStay _ d0 tn).2 aa

/-- Calibration with the delta of a tile in force. -/
def Dev.deltaPut (d : Dev) (x : CalTile) : Dev := { d with cal := { d.cal with delta := x.accepted.foldl DeltaSet.put d.cal.delta } }

theorem Dev.calTile_of {d : Dev} {r : CalRun} {x : CalTile} (hr : d.cal.run = some r) (ha : r.active = [x]) : d.calTile x.tn = some x := by
  simp [Dev.calTile, hr, ha]

theorem Dev.modRun_cal {d : Dev} {r : CalRun} (h : d.cal.run = some r) (f : CalRun → CalRun) : (d.modRun f).cal = { d.cal with run := some (f r) } := by
  rw [Dev.modRun, h]
  rfl

theorem Dev.count_cal (d : Dev) (n : Nat) : (d.count n).cal = d.cal := rfl

/-- A tile applied and returning. -/
def CalRun.applied (r : CalRun) (x : CalTile) (now : Nat) : CalRun :=
  { r with accept := r.accept + x.accepted.length, active := [{ x with step := 8, t0 := now }] }

theorem exec_calApply_next {s : State} {r : CalRun} {x : CalTile} (hr : s.d.cal.run = some r) (ha : r.active = [x]) (hx : x.step = 7)
    (hc : r.clear = false) (ht : s.d.tb2 % 10000 = 0) (hl : x.t0 < s.d.tb2) (hk : s.d.clocked = true) (hv : (s.d.sensor x.tn).valid = true) :
    ∃ e, exec (.calApply x.tn) s = .next { s with d := e.notify } ∧
      e.cal = { (s.d.deltaPut x).cal with run := some (r.applied x s.d.tb2) } ∧ e.fab = ((s.d.deltaPut x).recompute s.d x.tn).fab ∧
      Dev.sameBut [.cal, .fab, .mon] s.d e := by
  have hrec := (s.d.deltaPut x).recompute_same s.d x.tn
  have hcal : ((s.d.deltaPut x).recompute s.d x.tn).cal = (s.d.deltaPut x).cal := hrec .cal (by decide)
  have hrun : ((s.d.deltaPut x).recompute s.d x.tn).cal.run = some r := by rw [hcal]; exact hr
  have happ : s.d.applyTile x = (((s.d.deltaPut x).recompute s.d x.tn).modRun (fun r => { r with accept := r.accept + x.accepted.length })).count
      3025 := by
    unfold Dev.applyTile
    dsimp only
    rw [if_pos hv]
    rfl
  have htb : (s.d.applyTile x).tb2 = s.d.tb2 := by
    rw [happ]
    exact congrArg Tim.tb2 (hrec .tim (by decide))
  refine ⟨(s.d.applyTile x).modRun (fun r => r.modTile x.tn (fun t => { t with step := 8, t0 := s.d.tb2 })), ?_, ?_, ?_, ?_⟩
  · rw [exec_calApply, execCalApply, hr, Dev.calTile_of hr ha]
    dsimp only
    rw [if_neg (by simp [hx, ht, hl, hk]), if_neg (by simp [hc]), htb, finish_next]
  · rw [happ]
    have h1 := Dev.modRun_cal hrun (fun r => { r with accept := r.accept + x.accepted.length })
    have h2 := Dev.modRun_cal (d := (((s.d.deltaPut x).recompute s.d x.tn).modRun (fun r => { r with accept := r.accept + x.accepted.length })).count
      3025) (congrArg Cal.run h1) (fun r => r.modTile x.tn (fun t => { t with step := 8, t0 := s.d.tb2 }))
    refine h2.trans ?_
    rw [Dev.count_cal, h1, hcal]
    simp [CalRun.applied, CalRun.modTile, ha]
  · rw [happ]
    rfl
  · rw [happ]
    exact ((s.d.withCal_same _).up _).trans ((hrec.up _).trans (((Dev.withCal_same _ _).up _).trans (((Dev.count_same _ _).up _).trans
      ((Dev.withCal_same _ _).up _))))

/-! ### Return -/

/-- A spare is no tile's own loop engine. -/
theorem Dev.spareOf_ge {d : Dev} {tn k : Nat} (h : d.spareOf tn = some k) : 336 ≤ k := by
  have hm := List.mem_of_find?_eq_some h
  simp only [sparesOf, List.mem_map] at hm
  omega

theorem exec_calReturn_next {s : State} {r : CalRun} {x : CalTile} (hr : s.d.cal.run = some r) (ha : r.active = [x]) (hx : x.step = 8)
    (ht : s.d.tb2 % 10000 = 0) (hl : x.t0 < s.d.tb2) (hs : s.d.leState x.tn = .lent) (hc : (s.d.le x.tn).cause = some .cal)
    (hk : s.d.clocked = true) : exec (.calReturn x.tn) s = .next { s with d := (s.d.startReturn x.tn).notify } := by
  rw [exec_calReturn, execCalReturn, Dev.calTile_of hr ha]
  dsimp only
  rw [if_neg (by simp [hx, ht, hl, hs, hc, hk]), finish_next]

theorem Dev.startReturn_of {d : Dev} {tn k : Nat} (h : d.spareOf tn = some k) :
    d.startReturn tn = (d.modLe k (fun x => { x with state := some .moving })).modLe tn
      (fun l => { l with state := some .moving, pend := none, moveAt := some d.tb2, back := true }) := by
  unfold Dev.startReturn
  rw [h]
  rfl

/-- Settles O42, by what each step of a store, an application and a return makes of calibration. -/
theorem calibrationStores : Obligations.CalibrationStores := by
  refine ⟨?_, ?_, ?_, ?_, ?_⟩
  · intro s r hr hd hs ht hw hc hx hk
    obtain ⟨hb1, hb2⟩ := s.d.cal.storeBegun_banks r 5 false s.d.tb2
    refine ⟨_, exec_store_next hr hd hs ht hw hc hx hk, ?_, ?_, ?_, ?_, ?_, ?_, ?_, finish_same (s.d.storeBegun_same _)⟩ <;> rw [Dev.notify_cal]
    · rfl
    · rfl
    · exact hb1
    · exact hb2
    · rfl
    · exact s.d.cal.setBank_delta _ _
    · rfl
  · intro s r hs hk hr
    refine ⟨?_, fun ha => ?_, fun ha ht hc hn => ?_⟩
    · have hbank : (Obl.newBank s).gen = s.d.cal.nextGen ∧ (Obl.newBank s).set = s.d.cal.storeSet := ⟨rfl, rfl⟩
      cases hv : (Obl.newBank s).valid with
      | false =>
        obtain ⟨h1, h2⟩ := Dev.storeAbandon_banks hs hr false
        refine ⟨_, exec_storeComplete_bad hs hk (.inr hv), ?_, ?_, hbank.1, hbank.2, Bank.seal_record _, fun b hb => Cal.nextGen_of hb, nofun⟩
        · rw [Dev.notify_cal]; exact h1
        · rw [Dev.notify_cal]; exact h2 _
      | true =>
        obtain ⟨h1, h2⟩ := s.d.cal.bank_setBank s.d.cal.target (Obl.newBank s)
        have hcal : (s.d.storeDone (Obl.newBank s)).notify.cal = _ := (Dev.notify_cal _).trans (s.d.storeDone_cal (Obl.newBank s))
        refine ⟨_, exec_storeComplete_valid hs hk hv, ?_, ?_, hbank.1, hbank.2, Bank.seal_record _, fun b hb => Cal.nextGen_of hb, fun _ =>
          ⟨?_, ?_, ?_, ?_, ?_, ?_, finish_same (s.d.storeDone_same _)⟩⟩
        · dsimp only; rw [hcal]; rfl
        · dsimp only; rw [hcal]; exact h2
        · dsimp only; rw [hcal]; exact h1
        · dsimp only; rw [hcal]; exact Cal.inForce_setBank hv rfl
        · dsimp only; rw [hcal]
          change satAdd (s.d.cal.setBank s.d.cal.target (Obl.newBank s)).stores 1 32 = _
          rw [(s.d.cal.setBank_stores _ _).1]
          rfl
        · dsimp only; rw [hcal]; rfl
        · dsimp only; rw [hcal, hr]; rfl
        · rw [Dev.notify_view, Dev.storeDone, Dev.leaf_setLeaf_self, bitOf_or]
          exact Bool.or_true _
    · refine ⟨_, exec_storeComplete_bad hs hk (.inl rfl), ?_, finish_same (Dev.storeAbandon_same ha false)⟩
      rw [Dev.notify_cal, Dev.storeAbandon_cal ha, if_pos hs, Cal.abandoned, ha]
      simp [ha]
    · obtain ⟨u1, u2, u3⟩ := CalRun.unstored_of hc s.d.tb2
      have hlc := (s.d.storeOff false).storeLost_cal r
      have htb : (s.d.storeOff false).tb2 = s.d.tb2 := (s.d.storeOff_same false).tb2
      rw [htb] at hlc
      have hfa : s.d.storeAbandon false = (s.d.storeOff false).storeLost r := by
        rw [Dev.storeAbandon_again hs ha, Dev.storeFails_of (d := s.d.storeOff false) (r := r) hr,
          Dev.calCheck_of_todo (r := r.unstored s.d.tb2) (by rw [hlc])
          (by rw [u2]; exact ht)]
      have hsrc : ((s.d.storeOff false).storeLost r).src 56 = _ := Dev.src_once (by decide) (by decide) _ 0
      refine ⟨_, r.unstored s.d.tb2, exec_storeComplete_bad hs hk (.inl rfl), ?_, ?_, ?_, ?_, ?_, u1, fun x hx h6 => ?_, finish_same ?_⟩
      · rw [Dev.notify_cal, hfa, hlc]; rfl
      · rw [Dev.notify_cal, hfa, hlc]
      · rw [Dev.notify_cal, hfa, hlc]
        change bitOf (s.d.cal.err ||| 4) 2 = true
        rw [bitOf_or]
        exact Bool.or_true _
      · rw [Dev.notify_src, hfa, hsrc]
        exact (Src.marked_fields _ _ _ _ _ _).1
      · rw [Dev.notify_cal, hfa, hlc]
      · rw [u3]
        exact CalRun.exists_report (List.mem_map_of_mem (List.mem_filter.mpr ⟨hx, by simp [h6]⟩)) (hn x hx) (by decide)
      · rw [hfa]
        exact ((s.d.storeOff_same false).up _).trans (((Dev.withCal_same _ _).up _).trans ((Dev.once_same _ _ _).up _))
  · intro s r at2 hr ht ha hl hw hk
    obtain ⟨hb1, hb2⟩ := s.d.cal.storeBegun_banks r 6 true s.d.tb2
    refine ⟨_, exec_storeRetry_next hr ht ha hl hw hk, ?_, ?_, ?_, ?_, ?_, ?_, finish_same (s.d.storeBegun_same _)⟩ <;> rw [Dev.notify_cal]
    · rfl
    · rfl
    · rfl
    · exact hb1
    · exact hb2
    · rfl
  · intro s r x hr ha hx hc ht hl hk hv
    obtain ⟨e, he, hcal, hfab, hsame⟩ := exec_calApply_next hr ha hx hc ht hl hk hv
    have htile : e.tile = ((s.d.deltaPut x).recompute s.d x.tn).tile := by funext j; rw [Dev.tile, hfab, Dev.tile]
    have hloop : e.loop = ((s.d.deltaPut x).recompute s.d x.tn).loop := by funext j; rw [Dev.loop, hfab, Dev.loop]
    refine ⟨_, he, ?_, ?_, fun aa => ?_, finish_same hsame⟩
    · rw [Dev.notify_cal, hcal]; rfl
    · rw [Dev.notify_tile, htile, Dev.recompute_tile, if_pos rfl]; rfl
    · rw [Dev.notify_loop, hloop]
      exact (s.d.deltaPut x).recompute_loop s.d x.tn aa
  · intro s r x k hr ha hx ht hl hs hc hk hsp hn
    have hne : k ≠ x.tn := by have := Dev.spareOf_ge hsp; omega
    refine ⟨_, exec_calReturn_next hr ha hx ht hl hs hc hk, ?_, ?_, fun j h1 h2 => ?_, ?_, finish_same ?_⟩ <;> rw [Dev.startReturn_of hsp]
    · rw [Dev.notify_le, Dev.le_modLe_self, Dev.le_modLe, if_neg hne.symm]
    · rw [Dev.notify_le, Dev.le_modLe, if_neg hne, Dev.le_modLe_self]
    · rw [Dev.notify_le, Dev.le_modLe, if_neg h1, Dev.le_modLe, if_neg h2]
    · rw [Dev.notify_fab]; rfl
    · exact (Dev.modLe_same _ _ _).trans (Dev.modLe_same _ _ _)

end Sys2Proof.Machine

/-! ## Windows, estimates and acceptance of a calibration; interpolation (O41) -/
namespace Sys2Proof.Machine
set_option Elab.async false

/-! ### A tile starts -/

/-- A tile whose takeover is asked for. -/
def Cal.started (c : Cal) (tn now : Nat) : CalTile :=
  { tn := tn, step := 2, t0 := now, win := c.win, tolPh := c.tolPh, tolSlope := c.tolSlope, tolDb := c.tolDb, tolR := c.tolR }

/-- The control side once the next tile has asked for a spare. -/
def Dev.tileStarted (d : Dev) (tn : Nat) : Dev :=
  ((d.modRun (fun r => { r with todo := r.todo.drop 1, active := r.active ++ [d.cal.started tn d.tb2], waitFrom := d.tb2 })).modLe tn
    (fun l => { l with cause := some .cal })).askMove tn false false

theorem exec_calTileStart_next {s : State} {r : CalRun} {tn : Nat} {rest : List Nat} (hr : s.d.cal.run = some r) (ht : r.todo = tn :: rest)
    (hi : s.d.injIn tn = false) (hs : s.d.spareLeft (tilePlane tn) = true) (ho : s.d.leState tn = .own) (hp : (s.d.le tn).pend = none)
    (hx : s.d.sec.restart = none) (hrun : s.d.pwr.phase = .run) (hk : s.d.clocked = true) :
    exec (.calTileStart tn) s = .next { s with d := (s.d.tileStarted tn).notify } := by
  rw [exec_calTileStart, execCalTileStart, hr]
  dsimp only
  rw [if_neg (by simp [ht, hi, hs, ho, hp, hx, hk, Dev.loopsOn, hrun]), finish_next]
  rfl

theorem Dev.tileStarted_le (d : Dev) (tn k : Nat) : (d.tileStarted tn).le k =
    if k = tn then { d.le tn with cause := some .cal, pend := some d.tb2, back := false } else d.le k := by
  rw [Dev.tileStarted, Dev.askMove, Dev.le_modLe]
  split
  · rw [Dev.le_modLe_self, Bool.or_false]
    rfl
  · next h =>
    rw [Dev.le_modLe, if_neg h]
    rfl

theorem Dev.tileStarted_same (d : Dev) (tn : Nat) : Dev.sameBut [.cal, .fab] d (d.tileStarted tn) :=
  ((d.withCal_same _).up _).trans (((Dev.modLe_same _ _ _).up _).trans ((Dev.askMove_same _ _ _ _).up _))

/-! ### A window is judged -/

theorem Dev.foldl_fail (es : List (Nat × Nat)) : ∀ t : CalTile, es.foldl (fun t e => t.fail e (t.windowCond e)) t =
    { t with bad := (es.foldl (fun t e => t.fail e (t.windowCond e)) t).bad } := by
  induction es with
  | nil => intro t; rfl
  | cons e es ih =>
    intro t
    rw [List.foldl_cons, ih (t.fail e (t.windowCond e))]
    rfl

/-- The judgement of a window marks elements alone. -/
theorem judgedTile_eq (r : CalRun) (x : CalTile) : Obl.judgedTile r x = { x with bad := (Obl.judgedTile r x).bad } := Dev.foldl_fail _ x

theorem judgedTile_keeps (r : CalRun) (x : CalTile) : (Obl.judgedTile r x).tn = x.tn ∧ (Obl.judgedTile r x).t0 = x.t0 ∧
    (Obl.judgedTile r x).win = x.win ∧ (Obl.judgedTile r x).now = x.now ∧ (Obl.judgedTile r x).accepted = x.accepted := by
  rw [judgedTile_eq]
  exact ⟨rfl, rfl, rfl, rfl, rfl⟩

theorem judgedTile_elems (r : CalRun) (x : CalTile) : (Obl.judgedTile r x).elems r = x.elems r := by rw [judgedTile_eq]; rfl

theorem judgedTile_estimate (d : Dev) (n : Net) (r : CalRun) (x : CalTile) (ms : List CalMeas) (kind addr : Nat) :
    d.estimate n (Obl.judgedTile r x) ms kind addr = d.estimate n x ms kind addr := by rw [judgedTile_eq]; rfl

/-! ### W1 closes -/

/-- What a fold of writes leaves at a key that one of them writes, where writes of a key agree. -/
theorem Tab.get_foldl_set {α β : Type} [DecidableEq α] (dflt : α) (key : β → Nat) (val : β → α) {k : β} (l : List β) (hk : k ∈ l)
    (h : ∀ j ∈ l, key j = key k → val j = val k) (t : Tab α) : (l.foldl (fun t j => t.set dflt (key j) (val j)) t).get dflt (key k) = val k := by
  have hgen : ∀ (l : List β) (t : Tab α), (∀ j ∈ l, key j = key k → val j = val k) →
      (k ∈ l ∨ t.get dflt (key k) = val k) → (l.foldl (fun t j => t.set dflt (key j) (val j)) t).get dflt (key k) = val k := by
    intro l
    induction l with
    | nil => intro t _ hor; exact hor.resolve_left List.not_mem_nil
    | cons j l ih =>
      intro t hl hor
      refine ih _ (fun i hi => hl i (List.mem_cons_of_mem j hi)) ?_
      by_cases hj : key j = key k
      · right
        dsimp only
        rw [hj, Tab.get_set_self]
        exact hl j List.mem_cons_self hj
      · obtain hm | ht := hor
        · exact .inl ((List.mem_cons.mp hm).resolve_left fun he => hj (by rw [he]))
        · right
          dsimp only
          rw [Tab.get_set_ne _ _ _ (Ne.symm hj)]
          exact ht
  exact hgen l t h (.inl hk)

/-- The kinds of a tile's elements. -/
theorem CalTile.kind_lt {x : CalTile} {r : CalRun} {e : Nat × Nat} (h : e ∈ x.elems r) : e.1 < 8 := by
  rw [CalTile.elems, List.mem_append] at h
  obtain h | h := h
  · obtain ⟨k, hk, he⟩ := List.mem_flatMap.mp h
    obtain ⟨a, -, rfl⟩ := List.mem_map.mp he
    have hk' := List.mem_of_mem_filter hk
    simp only [List.mem_cons, List.not_mem_nil, or_false] at hk'
    dsimp only
    omega
  · obtain ⟨k, -, rfl⟩ := List.mem_map.mp h
    exact (by decide : 4 < 8)

/-- The estimates of W1 as kept. -/
theorem Dev.closeFirst_est {d : Dev} {n : Net} {r : CalRun} {t : CalTile} {ms : List CalMeas} {e : Nat × Nat} (he : e ∈ t.elems r) {a : Nat}
    (ha : a ∈ estAddrs e.1 e.2) : (d.closeFirst n r t ms).est.get none (statKey e.1 a) = d.estimate n t ms e.1 a := by
  have hm : (e.1, a) ∈ (t.elems r).flatMap (fun e => (estAddrs e.1 e.2).map (fun a => (e.1, a))) :=
    List.mem_flatMap.mpr ⟨e, he, List.mem_map_of_mem ha⟩
  refine Tab.get_foldl_set none (fun p : Nat × Nat => statKey p.1 p.2) (fun p => d.estimate n t ms p.1 p.2) (k := (e.1, a)) _ hm ?_ []
  intro j hj hkey
  obtain ⟨e', he', hj'⟩ := List.mem_flatMap.mp hj
  obtain ⟨a', -, rfl⟩ := List.mem_map.mp hj'
  have h1 := CalTile.kind_lt he
  have h2 := CalTile.kind_lt he'
  simp only [statKey] at hkey
  obtain ⟨hk, ha'⟩ : e'.1 = e.1 ∧ a' = a := by omega
  rw [hk, ha']

section
variable {s : State} {r : CalRun} {x : CalTile} {ms : List CalMeas} (hr : s.d.cal.run = some r) (ha : r.active = [x])
  (ht : x.t0 + 10000000 * x.win ≤ s.d.tb2) (hk : s.d.clocked = true) (hw : bitOf r.kinds 5 = true → x.swept = true)
  (hm : x.measured r ms = true)
include hr ha ht hk hw hm

theorem exec_calWindowEnd_first (h3 : x.step = 3) : exec (.calWindowEnd x.tn ms) s = .next { s with
    d := (s.d.modRun (fun r' => r'.modTile x.tn (fun _ => s.d.closeFirst s.net r' (Obl.judgedTile r x) ms))).notify } := by
  have hj : (Obl.judgedTile r x).step = 3 := by rw [judgedTile_eq]; exact h3
  have hsw : (bitOf r.kinds 5 && !x.swept) = false := by
    cases hb : bitOf r.kinds 5 with
    | false => rfl
    | true => rw [hw hb]; rfl
  rw [exec_calWindowEnd, execCalWindowEnd, hr, Dev.calTile_of hr ha]
  dsimp only
  rw [if_neg (by simp [h3, ht, hsw, hm, hk])]
  change (if (Obl.judgedTile r x).step = 3 then _ else _) = _
  rw [if_pos hj]
  rfl

/-- A tile evaluated. -/
def Dev.evaluated (d : Dev) (n : Net) (r : CalRun) (x : CalTile) (ms : List CalMeas) : CalTile :=
  { (d.evaluate n r (Obl.judgedTile r x) ms).2 with step := 5, t0 := d.tb2, now := [], w1 := [], est := [], bad := [] }

/-- The run once W2 has closed. -/
def Dev.secondRun (d : Dev) (n : Net) (r : CalRun) (x : CalTile) (ms : List CalMeas) : CalRun :=
  (d.evaluate n r (Obl.judgedTile r x) ms).1.modTile x.tn (fun _ => d.evaluated n r x ms)

/-- The control side then, but for the tile's CAL modes. -/
def Dev.secondClosed (d : Dev) (n : Net) (r : CalRun) (x : CalTile) (ms : List CalMeas) : Dev :=
  { d with cal := { d.cal with run := some (d.secondRun n r x ms) } }

theorem exec_calWindowEnd_second (h4 : x.step = 4) :
    ∃ k, exec (.calWindowEnd x.tn ms) s = .next { s with d := (((s.d.secondClosed s.net r x ms).uncal x.tn).countN 3026 k).notify } := by
  have hj : (Obl.judgedTile r x).step ≠ 3 := by rw [judgedTile_eq]; simp [h4]
  have hsw : (bitOf r.kinds 5 && !x.swept) = false := by
    cases hb : bitOf r.kinds 5 with
    | false => rfl
    | true => rw [hw hb]; rfl
  refine ⟨((s.d.secondRun s.net r x ms).reports.filter (fun e => calReason e.2 == 1)).length -
    (r.reports.filter (fun e => calReason e.2 == 1)).length, ?_⟩
  rw [exec_calWindowEnd, execCalWindowEnd, hr, Dev.calTile_of hr ha]
  dsimp only
  rw [if_neg (by simp [h4, ht, hsw, hm, hk])]
  change (if (Obl.judgedTile r x).step = 3 then _ else _) = _
  rw [if_neg hj]
  rfl

end

/-! ### W2 closes -/

/-- What the evaluation of an element has accepted. -/
def Dev.verdict (d : Dev) (n : Net) (t : CalTile) (ms : List CalMeas) (e : Nat × Nat) : Option (Nat × Nat × List Int) :=
  match d.evalElem n t ms e with
  | .ok v => some (e.1, e.2, v)
  | .error _ => none

theorem Dev.verdict_eq_some {d : Dev} {n : Net} {t : CalTile} {ms : List CalMeas} {e : Nat × Nat} {k a : Nat} {v : List Int} :
    d.verdict n t ms e = some (k, a, v) ↔ e = (k, a) ∧ d.evalElem n t ms (k, a) = .ok v := by
  obtain ⟨k', a'⟩ := e
  unfold Dev.verdict
  constructor
  · intro h
    split at h
    · next w hw =>
      obtain ⟨rfl, rfl, rfl⟩ : k' = k ∧ a' = a ∧ w = v := by simpa using h
      exact ⟨rfl, hw⟩
    · cases h
  · rintro ⟨he, hv⟩
    rw [he, hv]

/-- The evaluation reports what it does not accept, and leaves the run's tiles. -/
theorem Dev.evaluate_spec (d : Dev) (n : Net) (r : CalRun) (t : CalTile) (ms : List CalMeas) : (d.evaluate n r t ms).1.active = r.active ∧
    (d.evaluate n r t ms).2 = { t with accepted := t.accepted ++ (t.elems r).filterMap (d.verdict n t ms) } := by
  have hgen : ∀ (es : List (Nat × Nat)) (acc : CalRun × CalTile),
      (es.foldl (fun (acc : CalRun × CalTile) (e : Nat × Nat) => match d.evalElem n t ms e with
        | .ok v => (acc.1, { acc.2 with accepted := acc.2.accepted ++ [(e.1, e.2, v)] })
        | .error (reason, diff) => (acc.1.addReport t.tn e.1 e.2 reason diff, acc.2)) acc).1.active = acc.1.active ∧
      (es.foldl (fun (acc : CalRun × CalTile) (e : Nat × Nat) => match d.evalElem n t ms e with
        | .ok v => (acc.1, { acc.2 with accepted := acc.2.accepted ++ [(e.1, e.2, v)] })
        | .error (reason, diff) => (acc.1.addReport t.tn e.1 e.2 reason diff, acc.2)) acc).2 =
        { acc.2 with accepted := acc.2.accepted ++ es.filterMap (d.verdict n t ms) } := by
    intro es
    induction es with
    | nil => intro acc; simp
    | cons e es ih =>
      intro acc
      rw [List.foldl_cons, List.filterMap_cons, Dev.verdict]
      cases hv : d.evalElem n t ms e with
      | ok v =>
        obtain ⟨h1, h2⟩ := ih (acc.1, { acc.2 with accepted := acc.2.accepted ++ [(e.1, e.2, v)] })
        refine ⟨h1, h2.trans ?_⟩
        simp
      | error p =>
        obtain ⟨reason, diff⟩ := p
        exact ih (acc.1.addReport t.tn e.1 e.2 reason diff, acc.2)
  exact hgen (t.elems r) (r, t)

/-- A heater that leaves CAL for the mode it had. -/
def Loop.uncaled (l : Loop) : Loop := if l.mode = 4 then { l with mode := l.prevMode.getD 5, prevMode := none, preset := 1 } else l

/-- A cell that leaves CAL. -/
def Dev.uncalCell (d : Dev) (ca : Nat) : Dev :=
  if (d.cell ca).cal then (d.modHeaters ca Loop.uncaled).modCell ca (fun c => { c with cal := false }) else d

theorem Dev.uncal_eq (d : Dev) (tn : Nat) : d.uncal tn = (tileCells tn).foldl Dev.uncalCell d := rfl

theorem Dev.uncalCell_cal (d : Dev) (ca x : Nat) : ((d.uncalCell ca).cell x).cal = (decide (x ≠ ca) && (d.cell x).cal) := by
  unfold Dev.uncalCell
  split
  · rw [Dev.cell_modCell, Dev.modHeaters_cell]
    by_cases h : x = ca <;> simp [h]
  · next hc => by_cases h : x = ca <;> simp [h, hc]

theorem Dev.uncalCell_loop (d : Dev) (ca aa : Nat) :
    (d.uncalCell ca).loop aa = if (d.cell ca).cal = true ∧ aa ∈ heatersOf ca then (d.loop aa).uncaled else d.loop aa := by
  unfold Dev.uncalCell
  split
  · next hc =>
    rw [Dev.loop_modCell, Dev.loop_modHeaters]
    simp [hc]
  · next hc => simp [hc]

/-- Cells given back are out of CAL, and no other is put into it. -/
theorem Dev.foldl_uncalCell_cal (cas : List Nat) :
    ∀ (d : Dev) (x : Nat), ((cas.foldl Dev.uncalCell d).cell x).cal = (decide (x ∉ cas) && (d.cell x).cal) := by
  induction cas with
  | nil => intro d x; simp
  | cons ca cas ih =>
    intro d x
    rw [List.foldl_cons, ih, Dev.uncalCell_cal, ← Bool.and_assoc]
    congr 1
    by_cases h : x = ca <;> by_cases h' : x ∈ cas <;> simp [h, h']

/-- A heater of a cell that is not in CAL stays as it is. -/
theorem Dev.foldl_uncalCell_idle (cas : List Nat) {aa : Nat} : ∀ d : Dev, (d.cell (aaCell aa)).cal = false →
    (cas.foldl Dev.uncalCell d).loop aa = d.loop aa := by
  induction cas with
  | nil => intro d _; rfl
  | cons ca cas ih =>
    intro d h
    rw [List.foldl_cons, ih _ (by rw [Dev.uncalCell_cal, h, Bool.and_false]), Dev.uncalCell_loop]
    refine if_neg fun ⟨hc, hm⟩ => ?_
    rw [aaCell_of_heater hm, hc] at h
    cases h

/-- A heater of a cell given back leaves CAL, once. -/
theorem Dev.foldl_uncalCell_loop (cas : List Nat) {ca aa : Nat} (hm : aa ∈ heatersOf ca) : ∀ d : Dev, ca ∈ cas → (d.cell ca).cal = true →
    (cas.foldl Dev.uncalCell d).loop aa = (d.loop aa).uncaled := by
  have hcell : aaCell aa = ca := aaCell_of_heater hm
  induction cas with
  | nil => intro d h; cases h
  | cons b cas ih =>
    intro d hmem hc
    rw [List.foldl_cons]
    by_cases hb : ca = b
    · subst hb
      rw [Dev.foldl_uncalCell_idle cas _ (by rw [Dev.uncalCell_cal, hcell]; simp), Dev.uncalCell_loop, if_pos ⟨hc, hm⟩]
    · rw [ih _ ((List.mem_cons.mp hmem).resolve_left hb) (by rw [Dev.uncalCell_cal, hc]; simp [hb]), Dev.uncalCell_loop]
      congr 1
      refine if_neg fun ⟨_, hm'⟩ => hb ?_
      rw [← hcell, aaCell_of_heater hm']

theorem Loop.uncaled_of {l : Loop} (h : l.mode = 4) : l.uncaled.mode = l.prevMode.getD 5 ∧ l.uncaled.preset = 1 := by
  rw [Loop.uncaled, if_pos h]
  exact ⟨rfl, rfl⟩

theorem Dev.countN_cal (d : Dev) (n k : Nat) : (d.countN n k).cal = d.cal := rfl

theorem Dev.countN_fab (d : Dev) (n k : Nat) : (d.countN n k).cell = d.cell ∧ (d.countN n k).loop = d.loop := ⟨rfl, rfl⟩

/-! ### One element -/

theorem Dev.estimate_bias {d : Dev} {n : Net} {x : CalTile} {ms : List CalMeas} {addr : Nat} (h : (x.stat 0 addr).n ≠ 0) :
    ∃ b, d.estimate n x ms 0 addr = some b := by
  unfold Dev.estimate
  extract_lets st ca
  rw [if_neg (by decide), if_neg (by decide), if_neg h, if_pos rfl]
  exact ⟨_, rfl⟩

/-- An element of one estimate, with one of both windows: accepted or reported by their agreement. -/
theorem Dev.evalElem_single {d : Dev} {n : Net} {x : CalTile} {ms : List CalMeas} {kind addr : Nat} {a b : Int} (hs : estAddrs kind addr = [addr])
    (hb : x.badOf (kind, addr) = 0) (h1 : x.est.get none (statKey kind addr) = some a) (h2 : d.estimate n x ms kind addr = some b) :
    d.evalElem n x ms (kind, addr) = if (d.agreement x kind addr a b).2 < (d.agreement x kind addr a b).1
      then .error (1, min (if (d.agreement x kind addr a b).2 ≤ 0 then 65535
        else ((d.agreement x kind addr a b).1 * 16 / (d.agreement x kind addr a b).2).toNat) 65535)
      else .ok (d.newDelta x kind addr [meanEst kind a b]) := by
  unfold Dev.evalElem
  dsimp only
  rw [hs, if_neg (by simp [hb])]
  simp only [List.filterMap_cons, List.filterMap_nil, h1, h2, List.length_cons, List.length_nil, ne_eq, not_true_eq_false, if_false, List.map_cons,
    List.map_nil, List.filter_cons, List.filter_nil]
  by_cases h : (d.agreement x kind addr a b).2 < (d.agreement x kind addr a b).1
  · rw [if_pos h, if_pos (by simpa using h)]
    rfl
  · rw [if_neg h, if_neg (by simpa using h)]
    rfl

theorem Dev.agreement_bias (d : Dev) (x : CalTile) (addr : Nat) (a b : Int) :
    d.agreement x 0 addr a b = (((arc (a - b)).natAbs : Int), (x.tolPh : Int) * 1048576) := by
  unfold Dev.agreement
  exact if_pos rfl

theorem Dev.newDelta_bias (d : Dev) (x : CalTile) (ca : Nat) (v : Int) :
    d.newDelta x 0 (hpAa ca) [v] = [divRound (arc (v - cellCoeffAt ca 0 (d.tBar x x.tn) {})) 65536] := by
  have h : aaCell (hpAa ca) = ca := aaCell_of_heater (hpAa_mem_heatersOf ca)
  have he : d.newDelta x 0 (hpAa ca) [v] = [divRound (arc (v - cellCoeffAt (aaCell (hpAa ca)) 0 (d.tBar x x.tn) {})) 65536] := rfl
  rw [he, h]

/-- A limit and a value as the model compares them. -/
theorem limit_lt_iff {p t : Nat} : (t : Int) * 1048576 < (p : Int) ↔ t * 1048576 < p := by omega

/-- The quotient of natural numbers as the model divides. -/
theorem toNat_ratio (p q : Nat) : ((p : Int) * 16 / (q : Int)).toNat = p * 16 / q := by
  rw [show (p : Int) * 16 = ((p * 16 : Nat) : Int) by push_cast; rfl, ← Int.natCast_ediv, Int.toNat_natCast]

/-! ### No spare in time -/

/-- The run once the tiles of a plane are given up. -/
def CalRun.notSpared (r : CalRun) (tn now : Nat) : CalRun :=
  { (r.todo.filter (fun t => tilePlane t == tilePlane tn)).foldl (fun (r : CalRun) t => r.addReport t 0 t 7 0) r with
    todo := ((r.todo.filter (fun t => tilePlane t == tilePlane tn)).foldl (fun (r : CalRun) t => r.addReport t 0 t 7 0) r).todo.filter
      (fun t => !(tilePlane t == tilePlane tn))
    waitFrom := now }

theorem CalRun.notSpared_of (r : CalRun) (tn now : Nat) : (r.notSpared tn now).todo = r.todo.filter (fun t => !(tilePlane t == tilePlane tn)) ∧
    (r.notSpared tn now).active = r.active ∧ (r.notSpared tn now).waitFrom = now := by
  unfold CalRun.notSpared
  rw [CalRun.foldl_addReport]
  exact ⟨rfl, rfl, rfl⟩

/-- A run with tiles at work goes on. -/
theorem Dev.calCheck_of_active {d : Dev} {r : CalRun} (h : d.cal.run = some r) (ht : r.active ≠ []) : d.calCheck = d := by
  unfold Dev.calCheck
  rw [h]
  exact if_pos (by simp [ht])

/-- The control side then. -/
def Dev.notSpared (d : Dev) (r : CalRun) : Dev :=
  ({ d with cal := { d.cal with run := some r, err := d.cal.err ||| 2 } } : Dev).setLeaf 0 0x1C0 4

theorem exec_spareWaitTimeout_next {s : State} {r : CalRun} {tn : Nat} {rest : List Nat} (hr : s.d.cal.run = some r) (ht : r.todo = tn :: rest)
    (ha : r.active ≠ []) (hw : s.d.cal.spareWait ≠ 0) (hl : r.waitFrom + 10000000 * s.d.cal.spareWait < s.d.tb2) (hk : s.d.clocked = true) :
    exec (.spareWaitTimeout tn) s = .next { s with d := (s.d.notSpared (r.notSpared tn s.d.tb2)).notify } := by
  have hc : (s.d.notSpared (r.notSpared tn s.d.tb2)).calCheck = s.d.notSpared (r.notSpared tn s.d.tb2) :=
    Dev.calCheck_of_active (r := r.notSpared tn s.d.tb2) rfl (by rw [(r.notSpared_of tn s.d.tb2).2.1]; exact ha)
  rw [exec_spareWaitTimeout, execSpareWaitTimeout, hr]
  dsimp only
  rw [if_neg (by simp [ht, hw, hl, hk]), ← hc]
  rfl

/-! ### Interpolation -/

theorem interpTurn_tile {tick tn : Nat} (htn : tn < 336) (h : tick % 10000 = 25 * tn) : interpTurn tick = some tn := by
  unfold interpTurn
  dsimp only
  rw [h, if_pos (by omega), Nat.mul_div_cancel_left _ (by decide)]

theorem exec_interpolation_next {s : State} {tn : Nat} (htn : tn < 336) (hk : s.d.clocked = true) (hp : s.d.pwr.phase = .run)
    (hi : s.d.cal.interpEn = true) (h0 : s.d.tb2 % 10000 = 0) (h1 : 10000 ≤ s.d.tb2) (ht : (s.d.tb2 / 10000 - 1) % 10000 = 25 * tn) :
    exec .interpolation s = .next { s with
      d := (if (s.d.sensor tn).valid = false then s.d.interpHold tn else (s.d.recompute s.d tn).count 3029).notify } := by
  rw [exec_interpolation, execInterpolation]
  dsimp only
  rw [if_neg (by simp [h0, h1, hk, hi, Dev.loopsOn, hp]), interpTurn_tile htn ht]
  dsimp only
  rw [if_pos htn, if_pos htn]
  cases (s.d.sensor tn).valid <;> rfl

/-- Settles O41, by what each window, evaluation and interpolation makes of calibration. -/
theorem calibrationMeasures : Obligations.CalibrationMeasures := by
  refine ⟨?_, ?_, ?_, ?_, ?_, ?_, ?_⟩
  · intro s r tn rest hr ht hi hs ho hp hx hrun hk
    refine ⟨_, exec_calTileStart_next hr ht hi hs ho hp hx hrun hk, ?_, ?_, fun k h => ?_, ?_, finish_same (s.d.tileStarted_same tn)⟩
    · rw [Dev.notify_cal]
      refine (Dev.modRun_cal hr _).trans ?_
      rw [ht]
      rfl
    · rw [Dev.notify_le, Dev.tileStarted_le, if_pos rfl]
    · rw [Dev.notify_le, Dev.tileStarted_le, if_neg h]
    · rw [Dev.notify_fab]; rfl
  · intro s r x ms hr ha h3 ht hk hw hm
    obtain ⟨hjtn, hjt0, hjwin, hjnow, -⟩ := judgedTile_keeps r x
    refine ⟨_, s.d.closeFirst s.net r (Obl.judgedTile r x) ms, exec_calWindowEnd_first hr ha ht hk hw hm h3, ?_, rfl, ?_, ?_, ?_, rfl, rfl,
      fun e he a hea => ?_, finish_same (s.d.withCal_same _)⟩
    · rw [Dev.notify_cal, Dev.modRun_cal hr, CalRun.modTile, ha]
      simp
    · exact hjtn
    · rw [Dev.closeFirst, hjt0, hjwin]
      exact Nat.le_max_left _ _
    · exact hjnow
    · rw [Dev.closeFirst_est (by rw [judgedTile_elems]; exact he) hea, judgedTile_estimate]
  · intro s r x ms hr ha h4 hacc ht hk hw hm
    obtain ⟨k, hx⟩ := exec_calWindowEnd_second hr ha ht hk hw hm h4
    obtain ⟨he1, he2⟩ := s.d.evaluate_spec s.net r (Obl.judgedTile r x) ms
    obtain ⟨hjtn, -, -, -, hjacc⟩ := judgedTile_keeps r x
    have hcell : (s.d.secondClosed s.net r x ms).cell = s.d.cell := rfl
    have hloop : (s.d.secondClosed s.net r x ms).loop = s.d.loop := rfl
    have hcal : (((s.d.secondClosed s.net r x ms).uncal x.tn).countN 3026 k).notify.cal = (s.d.secondClosed s.net r x ms).cal :=
      (Dev.notify_cal _).trans ((Dev.countN_cal _ _ _).trans ((s.d.secondClosed s.net r x ms).uncal_same x.tn .cal (by decide)))
    have hrun : (((s.d.secondClosed s.net r x ms).uncal x.tn).countN 3026 k).notify.cal.run = some (s.d.secondRun s.net r x ms) := by rw [hcal]; rfl
    have hdelta : (((s.d.secondClosed s.net r x ms).uncal x.tn).countN 3026 k).notify.cal.delta = s.d.cal.delta := by rw [hcal]; rfl
    refine ⟨_, s.d.secondRun s.net r x ms, s.d.evaluated s.net r x ms, hx, hrun, ?_, rfl, ?_, fun k a v => ?_, hdelta,
      fun ca hca => ?_, fun ca hca hc aa haa hmode => ?_, finish_same ?_⟩
    · rw [Dev.secondRun, CalRun.modTile, he1, ha]
      simp
    · rw [Dev.evaluated, he2]
      exact hjtn
    · have hacc' : (Obl.judgedTile r x).accepted = [] := hjacc.trans hacc
      rw [Dev.evaluated, he2, hacc', judgedTile_elems, List.nil_append, List.mem_filterMap]
      constructor
      · rintro ⟨e, hmem, hv⟩
        obtain ⟨rfl, hv'⟩ := Dev.verdict_eq_some.mp hv
        exact ⟨hmem, hv'⟩
      · rintro ⟨hmem, hv⟩
        exact ⟨_, hmem, Dev.verdict_eq_some.mpr ⟨rfl, hv⟩⟩
    · rw [Dev.notify_cell, (Dev.countN_fab _ _ _).1, Dev.uncal_eq, Dev.foldl_uncalCell_cal]
      simp [hca]
    · rw [Dev.notify_loop, (Dev.countN_fab _ _ _).2, Dev.uncal_eq]
      have hl := Dev.foldl_uncalCell_loop (tileCells x.tn) haa (s.d.secondClosed s.net r x ms) hca (by rw [hcell]; exact hc)
      rw [hloop] at hl
      have h := Loop.uncaled_of hmode
      rw [← hl] at h
      exact h
    · exact ((s.d.withCal_same _).up _).trans (((Dev.uncal_same _ _).up _).trans ((Dev.countN_same _ _ _).up _))
  · intro s x ms ca a hb h1 hn
    obtain ⟨b, h2⟩ := s.d.estimate_bias (n := s.net) (ms := ms) hn
    have hev := Dev.evalElem_single (kind := 0) rfl hb h1 h2
    rw [Dev.agreement_bias, Dev.newDelta_bias] at hev
    dsimp only at hev
    refine ⟨b, h2, fun hle => ?_, fun hlt => ?_⟩
    · rw [hev, if_neg (fun h => absurd (limit_lt_iff.mp h) (Nat.not_lt.mpr hle))]
      rfl
    · rw [if_pos (limit_lt_iff.mpr hlt)] at hev
      refine ⟨_, hev, fun hp => ?_⟩
      rw [if_neg (by omega), show (x.tolPh : Int) * 1048576 = ((x.tolPh * 1048576 : Nat) : Int) by push_cast; rfl, toNat_ratio]
  · intro s x ms e h
    unfold Dev.evalElem
    exact if_pos h
  · intro s r tn rest hr ht ha hw hl hk hn
    obtain ⟨h1, h2, h3⟩ := r.notSpared_of tn s.d.tb2
    refine ⟨_, r.notSpared tn s.d.tb2, exec_spareWaitTimeout_next hr ht ha hw hl hk, ?_, ?_, h2, h3, fun j hj hp => ?_, ?_, ?_, finish_same ?_⟩
    · rw [Dev.notify_cal]; rfl
    · rw [h1, ht]
      simp [bne]
    · refine CalRun.exists_report (List.mem_filter.mpr ⟨by rw [ht]; exact hj, by simp [hp]⟩) (hn j hj) (by decide)
    · rw [Dev.notify_cal]; rfl
    · rw [Dev.notify_view, Dev.notSpared, Dev.leaf_setLeaf_self, bitOf_or]
      exact Bool.or_true _
    · exact ((s.d.withCal_same _).up _).trans ((Dev.setLeaf_same _ _ _ _).up _)
  · intro s tn htn hk hp hi h0 h1 ht
    have hx := exec_interpolation_next htn hk hp hi h0 h1 ht
    refine ⟨fun hv => ?_, fun hv hc => ?_⟩
    · rw [if_neg (by simp [hv])] at hx
      refine ⟨_, hx, ?_, fun aa => ?_, fun j hj => ?_, finish_same ((s.d.recompute_same s.d tn).trans ((Dev.count_same _ _).up _))⟩
      · rw [Dev.notify_tile]
        exact (s.d.recompute_tile s.d tn tn).trans (if_pos rfl)
      · rw [Dev.notify_loop]
        exact s.d.recompute_loop s.d tn aa
      · rw [Dev.notify_tile]
        exact (s.d.recompute_tile s.d tn j).trans (if_neg hj)
    · rw [if_pos hv, Dev.interpHold, if_pos htn] at hx
      have hs := Dev.condOn_same { s.d with cal := { s.d.cal with err := s.d.cal.err ||| 8 } } 27 tn
      have hsrc := Dev.src_condOn (n := 27) (by decide) (by decide) { s.d with cal := { s.d.cal with err := s.d.cal.err ||| 8 } } tn
      rw [if_neg (show tn ∉ (Dev.src { s.d with cal := { s.d.cal with err := s.d.cal.err ||| 8 } } 27).conds from hc)] at hsrc
      refine ⟨_, hx, ?_, ?_, ?_, finish_same (((s.d.withCal_same _).up _).trans (hs.up _))⟩
      · rw [Dev.notify_cal]
        exact hs .cal (by decide)
      · rw [Dev.notify_src]
        exact Dev.mem_conds_condOn (by decide) (by decide) _ tn
      · rw [Dev.notify_src, hsrc]
        exact (Src.marked_fields _ _ _ _ _ _).1

end Sys2Proof.Machine

/-! ## What steps, completions and the strobe leave: darkness and rolls -/
namespace Sys2Proof.Machine
set_option Elab.async false

/-! ### The strobe leaves the fabric and the slots -/

theorem Dev.loadSample_same (d : Dev) (m : Mem) (x t : Nat) : Dev.sameBut [.seq] d (d.loadSample m x t) :=
  .foldl (fun d _ => d.modLane_same _ _) _ d

theorem Dev.syncEvent_same (d : Dev) (x : Nat) : Dev.sameBut [.seq] d (d.syncEvent x) := by
  unfold Dev.syncEvent
  extract_lets o d1
  exact Dev.sameBut.trans (.ite ((d.send_same _).up _) (.refl _ _) : Dev.sameBut [.seq] d d1) (d1.withSeq_same _)

theorem Dev.flTrigger_same (d : Dev) (p : Fl → Bool) : Dev.sameBut [.mon] d (d.flTrigger p) := d.withMon_same _

theorem Dev.trigLines_same (d : Dev) (l : Nat) : Dev.sameBut [.seq, .mon] d (d.trigLines l) :=
  Dev.sameBut.trans ((d.flTrigger_same _).up _) (.foldl (fun d x => .ite ((d.syncEvent_same x).up _) (.refl _ _)) _ _)

/-- What the sequencer's progress can change. -/
abbrev seqParts : List Part := [.seq, .mon, .fns, .views, .src, .flt]

theorem Dev.startIteration_same (d : Dev) (m : Mem) (t : Nat) : Dev.sameBut seqParts d (d.startIteration m t) := by
  unfold Dev.startIteration
  extract_lets x q d1 d2
  have h2 : Dev.sameBut seqParts d d2 := ((d.withSeq_same _).up _).trans (((d1.loadSample_same m _ _).up _).trans ((Dev.trigLines_same _ _).up _))
  exact .ite (h2.trans ((d2.withSeq_same _).up _)) h2

theorem Dev.seqErr_sameSeq (d : Dev) (b : Nat) : Dev.sameBut seqParts d (d.seqErr b) := (d.seqErr_same b).mono (by decide)

theorem Dev.reachSeg_same (d : Dev) (m : Mem) (g t : Nat) : Dev.sameBut seqParts d (d.reachSeg m g t) := by
  unfold Dev.reachSeg
  extract_lets x d1
  exact .ite ((d.seqErr_sameSeq _).trans ((Dev.seqStop_same _).up _)) (.ite (.ite (((d.withSeq_same _).up _).trans ((Dev.seqStop_same _).up _))
    (((d.withSeq_same _).up _).trans ((Dev.seqErr_sameSeq _ _).trans (Dev.seqErr_sameSeq _ _))))
    (((d.withSeq_same _).up _).trans (Dev.startIteration_same _ _ _)))

theorem Dev.injTrigger_same (d : Dev) (t : Nat) : Dev.sameBut [.mon] d (d.injTrigger t) := d.withMon_same _

theorem Dev.seqTrigger_same (d : Dev) (m : Mem) (t : Nat) : Dev.sameBut seqParts d (d.seqTrigger m t) := .ite (d.reachSeg_same _ _ _) (.refl _ _)

theorem Dev.midnightTriggers_same (d : Dev) (m : Mem) : Dev.sameBut seqParts d (d.midnightTriggers m) := by
  unfold Dev.midnightTriggers
  extract_lets d1
  have h1 : Dev.sameBut seqParts d d1 := .foldl (fun d x => .ite ((d.syncEvent_same x).up _) (.refl _ _)) _ d
  exact h1.trans (((d1.injTrigger_same _).up _).trans (((Dev.flTrigger_same _ _).up _).trans (Dev.seqTrigger_same _ _ _)))

/-- The control side behind a strobe. -/
def Dev.strobed (d : Dev) (m : Mem) (n : Net) : Dev := ((((d.midnightTriggers m).count 2896).pathFaults n).singlesGone n).snapMidnight

theorem strobe_eq (s : State) (n : Net) (d : Dev) : strobe s (n, d) = { s with net := n, d := (d.strobed s.mem n).notify, isl := { s.isl with
    strobe := s.isl.strobe + 1, fifo := if s.isl.up then (s.isl.fifo ++ [(s.isl.strobe + 1, s.isl.tb1)]).drop (s.isl.fifo.length - 15) else [] } } := by
  unfold strobe Dev.strobed
  rfl

theorem Dev.singlesGone_keeps (d : Dev) (n : Net) : (d.singlesGone n).fab = d.fab ∧ (d.singlesGone n).cmt.slots = d.cmt.slots := by
  unfold Dev.singlesGone
  extract_lets gone d1
  have h : Dev.sameBut [.src] d d1 := .foldl (fun d x => d.condOff_same 37 x) _ d
  have hc : d1.cmt = d.cmt := h .cmt (by decide)
  have hs : d1.cmt.slots = d.cmt.slots := by rw [hc]
  exact ⟨h .fab (by decide), hs⟩

theorem Dev.snapMidnight_keeps (d : Dev) : d.snapMidnight.fab = d.fab ∧ d.snapMidnight.cmt = d.cmt := ⟨rfl, rfl⟩

theorem Dev.strobed_keeps (d : Dev) (m : Mem) (n : Net) : (d.strobed m n).fab = d.fab ∧ (d.strobed m n).slot = d.slot := by
  have h : Dev.sameBut seqParts d (((d.midnightTriggers m).count 2896).pathFaults n) :=
    ((d.midnightTriggers_same m).trans ((Dev.count_same _ _).up _)).trans ((Dev.pathFaults_signals _ n).same.mono (by decide))
  obtain ⟨h1, h2⟩ := (((d.midnightTriggers m).count 2896).pathFaults n).singlesGone_keeps n
  have hf : (((d.midnightTriggers m).count 2896).pathFaults n).fab = d.fab := h .fab (by decide)
  have hc : (((d.midnightTriggers m).count 2896).pathFaults n).cmt = d.cmt := h .cmt (by decide)
  refine ⟨?_, ?_⟩
  · rw [Dev.strobed, (Dev.snapMidnight_keeps _).1, h1, hf]
  · funext k
    rw [Dev.slot, Dev.strobed, (Dev.snapMidnight_keeps _).2, h2, hc, Dev.slot]

/-! ### A completion gives a slot no roll -/

section
variable {k : Nat} {d e : Dev}

/-- A slot has no roll. -/
def Dev.noRoll (k : Nat) (d : Dev) : Prop := (d.slot k).rolls = []

theorem Dev.noRoll.same {ps : List Part} (h : d.noRoll k) (hs : Dev.sameBut ps d e) (hc : Part.cmt ∉ ps := by decide) : e.noRoll k := by
  have he : e.cmt = d.cmt := hs .cmt hc
  rw [Dev.noRoll, Dev.slot, he]
  exact h

theorem Dev.noRoll.modSlot {j : Nat} {f : Slot → Slot} (h : d.noRoll k) (hf : ∀ x, x.rolls = [] → (f x).rolls = []) : (d.modSlot j f).noRoll k := by
  rw [Dev.noRoll, Dev.slot_modSlot]
  split
  · next hj => rw [hj] at h; exact hf _ h
  · exact h

theorem Dev.noRoll.ite {c : Prop} {dec : Decidable c} (hd : d.noRoll k) (he : e.noRoll k) : (if c then d else e).noRoll k := by
  split <;> assumption

theorem Dev.noRoll.foldl {α : Type} {f : Dev → α → Dev} (hf : ∀ d x, d.noRoll k → (f d x).noRoll k) {l : List α} :
    ∀ {d : Dev}, d.noRoll k → (l.foldl f d).noRoll k := by
  induction l with
  | nil => exact fun h => h
  | cons x l ih => exact fun h => ih (hf _ x h)

theorem Dev.noRoll.modQueue {q : Nat} {f : Queue → Queue} (h : d.noRoll k) : (d.modQueue q f).noRoll k := h

theorem Dev.noRoll.freeSlot {j : Nat} (h : d.noRoll k) : (d.freeSlot j).noRoll k := by
  have hl : ((d.slot j).lanes.foldl Dev.releaseLane d).noRoll k := Dev.noRoll.foldl (f := Dev.releaseLane) (fun _ _ h0 => h0) h
  exact hl.modSlot fun _ _ => rfl

theorem Dev.noRoll.withJobs {x : Jobs} (h : d.noRoll k) : Dev.noRoll k { d with jobs := x } := h

theorem Dev.noRoll.dropCmds {q : Nat} {g : Nat → Bool} (h : d.noRoll k) : (d.dropCmds q g).noRoll k :=
  .modQueue (.withJobs (.foldl (fun _ _ h0 => .ite h0.freeSlot h0) h))

theorem Dev.noRoll.stallAt {q i : Nat} (h : d.noRoll k) : (d.stallAt q i).noRoll k := h.dropCmds.modQueue

theorem Dev.noRoll.cqPush {q : Nat} {c : Comp} {imm : Bool} (h : d.noRoll k) : (d.cqPush q c imm).noRoll k := h

theorem Dev.noRoll.drain1 {q : Nat} (h : d.noRoll k) : (d.drain1 q).noRoll k := by
  unfold Dev.drain1
  split
  · exact h
  · split
    · exact h
    · extract_lets st d1 d2 d3 d4
      have h1 : d1.noRoll k := h.modQueue
      have h2 : d2.noRoll k := by
        unfold d2
        split
        · exact h1.freeSlot
        · exact h1
      have h3 : d3.noRoll k := .ite h2.stallAt h2
      have h4 : d4.noRoll k := .ite h3 h3.cqPush
      exact .ite (h4.same (d4.evt_same _ _ _ _ _ _)) h4

theorem Dev.noRoll.complete {q i : Nat} {c : Comp} (h : d.noRoll k) : (d.complete q i c).noRoll k := .foldl (fun _ _ h0 => h0.drain1) h.modQueue

end

/-- A settling slot completes or waits. -/
theorem Dev.advance_of_settling {d : Dev} {n : Net} {k : Nat} (h : (d.slot k).state = .settling) :
    d.advance n k = d ∨ ∃ q i c, d.advance n k = d.complete q i c := by
  unfold Dev.advance
  extract_lets s first
  by_cases hd : d.slotDone k = true
  · rw [if_pos hd]
    exact .inl rfl
  · rw [if_neg hd]
    have hs : s.state = .settling := h
    clear_value first
    split
    case h_2 | h_3 =>
      split
      · exact .inr ⟨_, _, _, rfl⟩
      · exact .inl rfl
    case h_1 heq | h_4 heq => exact absurd (hs.symm.trans heq) (by decide)
    case h_5 => exact absurd hs (by assumption)

/-! ### Darkness of a cell -/

theorem Dev.injDone_same (d : Dev) (ks : List Nat) (v f t : Nat) : Dev.sameBut [.mon, .views] d (d.injDone ks v f t) :=
  .foldl (fun d k => ((d.modInj_same k _).up _).trans ((Dev.setLeaf_same _ _ _ _).up _)) ks d

theorem Dev.injAbandon_same (d : Dev) (mpa : Nat) : Dev.sameBut [.mon, .views] d (d.injAbandon mpa) := by
  unfold Dev.injAbandon
  split
  · exact .refl _ _
  · extract_lets x ks d1
    have h1 : Dev.sameBut [.mon, .views] d d1 := .foldl (fun d k => d.injDone_same _ _ _ _) ks d
    split
    · exact .refl _ _
    · exact h1.trans (((d1.withMon_same _).up _).trans (((Dev.count_same _ _).up _).trans ((Dev.count_same _ _).up _)))

theorem Dev.invalid_same (d : Dev) (mpa t : Nat) : Dev.sameBut [.mon] d (d.invalid mpa t) :=
  (d.modMrt_same _ _).trans ((Dev.count_same _ _).up _)

theorem Dev.abandon_same (d : Dev) (mpa : Nat) : Dev.sameBut [.mon, .views] d (d.abandon mpa) := by
  unfold Dev.abandon
  extract_lets d1 t m
  have h1 : Dev.sameBut [.mon, .views] d d1 := .ite (.refl _ _) (d.injAbandon_same mpa)
  exact .ite h1 (h1.trans (((d1.invalid_same _ _).up _).trans ((Dev.modMrt_same _ _ _).up _)))

section
variable {x : Nat} {d e : Dev}

/-- A cell is DARK. -/
def Dev.darkAt (x : Nat) (d : Dev) : Prop := (d.cell x).dark = true

theorem Dev.darkAt.same {ps : List Part} (h : d.darkAt x) (hs : Dev.sameBut ps d e) (hf : Part.fab ∉ ps := by decide) : e.darkAt x := by
  have he : e.fab = d.fab := hs .fab hf
  rw [Dev.darkAt, Dev.cell, he]
  exact h

theorem Dev.darkAt.modCell {ca : Nat} {f : Cell → Cell} (h : d.darkAt x) (hf : ∀ c, (f c).dark = c.dark := by intro; rfl) :
    (d.modCell ca f).darkAt x := by
  rw [Dev.darkAt, Dev.cell_modCell]
  split
  · next hj => rw [hf, ← hj]; exact h
  · exact h

theorem Dev.darkAt.foldl {α : Type} {f : Dev → α → Dev} (hf : ∀ d x', d.darkAt x → (f d x').darkAt x) {l : List α} :
    ∀ {d : Dev}, d.darkAt x → (l.foldl f d).darkAt x := by
  induction l with
  | nil => exact fun h => h
  | cons y l ih => exact fun h => ih (hf _ y h)

theorem Dev.darkAt.modMet {m : Nat} {f : Met → Met} (h : d.darkAt x) : (d.modMet m f).darkAt x := h
theorem Dev.darkAt.modLoop {aa : Nat} {f : Loop → Loop} (h : d.darkAt x) : (d.modLoop aa f).darkAt x := h
theorem Dev.darkAt.withJobs {j : Jobs} (h : d.darkAt x) : Dev.darkAt x { d with jobs := j } := h

theorem Dev.darkAt.modHeaters {ca : Nat} {f : Loop → Loop} (h : d.darkAt x) : (d.modHeaters ca f).darkAt x := .foldl (fun _ _ h0 => h0.modLoop) h

theorem Dev.darkAt.ffStep {ca : Nat} (h : d.darkAt x) : (d.ffStep ca).darkAt x := by
  rw [Dev.darkAt, Dev.cell_ffStep]
  exact h

theorem Dev.darkAt.enterFast {ca : Nat} (h : d.darkAt x) : (d.enterFast ca).darkAt x := by
  unfold Dev.enterFast
  split
  · exact h
  · exact Dev.darkAt.modCell ((h.same (d.abandon_same _)).same (Dev.abandon_same _ _))

theorem Dev.darkAt.stepTo {ca kind : Nat} {f : Int} (h : d.darkAt x) : (d.stepTo ca f kind).darkAt x := by
  have h1 : (((d.enterFast ca).restartMet (mkMpa ca 0)).restartMet (mkMpa ca 1)).darkAt x := h.enterFast.modMet.modMet
  exact .ffStep (.modHeaters (.modLoop h1.modCell))

/-- A VOA that steps to DARK is dark, and leaves every other dark. -/
theorem Dev.darkAt.stepVoa {ca : Nat} {dark : Bool} {a : Int} (h : ca = x ∧ dark = true ∨ ca ≠ x ∧ d.darkAt x) :
    (d.stepVoa ca dark a).darkAt x := by
  unfold Dev.stepVoa
  extract_lets d1
  have h1 : d1.darkAt x := by
    unfold d1
    rw [Dev.darkAt, Dev.cell_modCell]
    obtain ⟨rfl, hd⟩ | ⟨hne, hd⟩ := h
    · rw [if_pos rfl]; exact hd
    · rw [if_neg hne.symm]; exact hd
  split
  · split
    · exact h1.modCell
    · exact h1
  · exact h1.stepTo

/-- The VOA of an output without a connection is made dark, and none other is touched. -/
theorem Dev.darkAt.voaAt {n : Net} {c : Change} {ca : Nat} (hn : n.voaConn x = none) (h : ca = x ∨ d.darkAt x) : (d.voaAt n c ca).1.darkAt x := by
  unfold Dev.voaAt
  extract_lets dark side a y
  by_cases hx : ca = x
  · subst hx
    have hd : dark = true := by
      unfold dark
      rw [voaHeldDark, hn]
    rw [if_pos hd, hn]
    split
    · next hc =>
      have hy : y.dark = true := by simpa using hc
      exact hy
    · exact Dev.darkAt.stepVoa (.inl ⟨rfl, rfl⟩)
  · have hd : d.darkAt x := h.resolve_left hx
    have hs : ∀ dark a, (d.stepVoa ca dark a).darkAt x := fun dark a => .stepVoa (.inr ⟨hx, hd⟩)
    split
    · split
      · exact hd
      · exact hs _ _
    · split
      · exact hs _ _
      · exact hd

/-- A pass over VOAs that comes to such an output. -/
theorem Dev.darkAt.voas {n : Net} {c : Change} (hn : n.voaConn x = none) {l : List Nat} : ∀ {a : Dev × List Nat}, x ∈ l ∨ a.1.darkAt x →
    (l.foldl (fun (d, l) ca => let (d, s) := d.voaAt n c ca; (d, if s then ca :: l else l)) a).1.darkAt x := by
  induction l with
  | nil => exact fun h => h.resolve_left List.not_mem_nil
  | cons ca l ih =>
    intro a h
    refine ih ?_
    obtain h | h := h
    · obtain rfl | h := List.mem_cons.mp h
      · exact .inr (.voaAt hn (.inl rfl))
      · exact .inl h
    · exact .inr (.voaAt hn (.inr h))

theorem Dev.darkAt.attFinish (h : d.darkAt x) : d.attFinish.darkAt x := .foldl (fun _ _ h0 => (h0.withJobs).same (Dev.complete_same _ _ _ _)) h

theorem Dev.darkAt.freeMet {m : Nat} (h : d.darkAt x) : (d.freeMet m).darkAt x := by
  unfold Dev.freeMet
  split
  · exact h.modMet
  · exact h

theorem Dev.darkAt.setRef {n : Net} {i o : Nat} (h : d.darkAt x) : (d.setRef n i o).darkAt x := .foldl (fun _ _ h0 => h0.modMet) h

theorem Dev.darkAt.supersede {ks : List Nat} (h : d.darkAt x) : (d.supersede ks).darkAt x := h.withJobs

end

theorem mem_joinNats {x : Nat} {a b : List Nat} : x ∈ joinNats a b ↔ x ∈ a ∨ x ∈ b := by rw [joinNats, List.mem_eraseDups, List.mem_append]

theorem mem_pairs {x : Nat} {f g : Nat → Nat} {l : List Nat} {o : Nat} (ho : o ∈ l) (hx : x = f o ∨ x = g o) :
    x ∈ l.flatMap (fun o => [f o, g o]) := by
  refine List.mem_flatMap.mpr ⟨o, ho, ?_⟩
  obtain rfl | rfl := hx <;> simp

/-- A commit that takes an output from its connection makes both its VOAs dark (R66). -/
theorem makeCommit_darkAt {n : Net} {d : Dev} {ch : Change} {c : Conn} {o x : Nat} (hc : c ∈ n.conns) (hu : o ∈ c.outs) (hg : c ∉ ch.conns)
    (hx : x = outVoa 0 o ∨ x = outVoa 1 o) (hn : (n.apply ch).voaConn x = none) : (makeCommit n d ch).dev.darkAt x := by
  unfold makeCommit
  extract_lets esn n1 was now d0 _ d1 tgts cons _ d2 d3 d4 swCells moved esnSw newly relight d5 steps d6 ins outs newOuts d7 d8 voas freedIn freedOut freed
    before lit bridged chg
  have hwas : o ∈ was.flatMap (·.1.outs) := by
    refine List.mem_flatMap.mpr ⟨(c, n.pathOf c), ?_, hu⟩
    refine List.mem_map.mpr ⟨c, List.mem_filter.mpr ⟨hc, ?_⟩, rfl⟩
    have hm : n1.conns.contains c = false := by
      rw [List.contains_eq_mem]
      exact decide_eq_false hg
    rw [hm]
    rfl
  have hv : x ∈ voas := List.mem_append_right _ (mem_pairs (mem_joinNats.mpr (.inl hwas)) hx)
  have h9 := Dev.darkAt.voas (c := ch) hn (l := voas) (a := (d8, ([] : List Nat))) (.inl hv)
  exact .foldl (fun _ _ h => h.setRef) (Dev.darkAt.attFinish (.supersede (.foldl (fun _ _ h => h.freeMet.freeMet) h9)))

end Sys2Proof.Machine

/-! ## Rolls (O30) -/
namespace Sys2Proof.Machine
set_option Elab.async false

/-! ### The ramp -/

/-- A cell of a roll as its ramp starts, a quarter turn from where it stands. -/
def Cell.ramping (z : Cell) (now stop : Nat) (target : Int) : Cell :=
  { z with ramp := some (now, stop, z.phiTgt, z.phiTgt + outOfSplit z.phiTgt target) }

theorem outOfSplit_quarter (phi target : Int) : outOfSplit phi target = 4194304 ∨ outOfSplit phi target = -4194304 := by
  unfold outOfSplit
  split
  · exact .inl rfl
  · exact .inr rfl

/-- Only a bridged connection has a SPLIT cell. -/
theorem bridge_of_splitCell {n : Net} {c : Conn} {ca : Nat} (h : splitCellOf n c = some ca) : ∃ o2, c.out2 = some o2 := by
  unfold splitCellOf at h
  split at h
  · cases h
  · next o2 ho => exact ⟨o2, ho⟩

theorem exec_rollRampStart_next {s : State} {k i ca o2 : Nat} {c : Conn} (hst : (s.d.slot k).state = .rolling) (hr : (s.d.slot k).rolls = [(i, none)])
    (ha : (s.d.slot k).abortAt = none) (hn : (s.d.slot k).knownAt < s.d.tb2) (ht : s.d.tb2 % 1000 = 0) (hc : s.net.ofIn i = some c)
    (hs : splitCellOf s.net c = some ca) (ho : c.out2 = some o2) :
    exec (.rollRampStart k) s = .next { s with d := ((([ca, twinCa ca].foldl (fun d y => d.modCell y (fun z =>
      z.ramping d.tb2 (s.d.tb2 + (s.d.slot k).rampUs * 1000) (swPhase (finalState s.net c o2)))) s.d)).modSlot k (fun y =>
        { y with rolls := y.rolls.map (fun r => (r.1, some (s.d.tb2 + (s.d.slot k).rampUs * 1000))) })).notify } := by
  rw [exec_rollRampStart, execRollRampStart]
  dsimp only
  rw [if_neg (by simp [hst, hr, hn, ht]), hr, ha]
  simp only [List.foldl_cons, List.foldl_nil, hc, hs, ho]
  rfl

theorem twinCa_ne (ca : Nat) : twinCa ca ≠ ca := by
  unfold twinCa
  split <;> omega

/-! ### The release -/

/-- The map without the output that a roll leaves. -/
def Net.released (n : Net) (c : Conn) : List Conn := n.conns.filterMap (fun y => if y.inp = c.inp then y.less c.out else some y)

/-- What is left of a connection less an output does not use it, unless both its branches did. -/
theorem Conn.less_uses {y z : Conn} {o : Nat} (h : y.less o = some z) (hz : z.uses o = true) : y.out = o ∧ y.out2 = some o := by
  unfold Conn.less at h
  split at h
  · next h2 =>
    split at h
    · cases h
    · next hne =>
      cases h
      simp [Conn.uses, h2, hne] at hz
  · next p h2 =>
    split at h
    · next he =>
      cases h
      exact ⟨he, by simpa [Conn.uses, h2] using hz⟩
    · next hne =>
      split at h
      · cases h
        simp [Conn.uses, hne] at hz
      · next hp =>
        cases h
        simp [Conn.uses, hne, h2, hp] at hz

section
variable {n : Net} {c : Conn} {o2 : Nat} (ho : c.out2 = some o2) (hne : c.out ≠ o2) (hu : ∀ x ∈ n.conns, x.uses c.out = true → x = c)
include ho hne hu

/-- No connection of the map uses the output any more. -/
theorem Net.released_uses {z : Conn} (hz : z ∈ n.released c) : z.uses c.out = false := by
  obtain ⟨y, hy, hyz⟩ := List.mem_filterMap.mp hz
  by_contra hzu
  rw [Bool.not_eq_false] at hzu
  split at hyz
  · obtain ⟨h1, h2⟩ := Conn.less_uses hyz hzu
    have hyc : y = c := hu y hy (by simp [Conn.uses, h1])
    rw [hyc, ho] at h2
    exact hne (Option.some.inj h2).symm
  · next hi =>
    cases hyz
    exact hi (by rw [hu _ hy hzu])

/-- The connection is left on OUT2 alone. -/
theorem Net.released_find {i : Nat} (hc : n.ofIn i = some c) :
    (n.released c).find? (fun x => x.inp == i) = some { c with out := o2, out2 := none } := by
  have hi : c.inp = i := by simpa using List.find?_some hc
  have hless : c.less c.out = some { c with out := o2, out2 := none } := by simp [Conn.less, ho]
  have hgen : ∀ l : List Conn, l.find? (fun x => x.inp == i) = some c →
      (l.filterMap (fun y => if y.inp = c.inp then y.less c.out else some y)).find? (fun x => x.inp == i) =
        some { c with out := o2, out2 := none } := by
    intro l
    induction l with
    | nil => intro h; cases h
    | cons y l ih =>
      intro h
      by_cases hy : y.inp = i
      · rw [List.find?_cons_of_pos (by simpa using hy)] at h
        obtain rfl := Option.some.inj h
        rw [List.filterMap_cons, if_pos rfl, hless]
        exact List.find?_cons_of_pos (by simpa using hy)
      · rw [List.find?_cons_of_neg (by simpa using hy)] at h
        rw [List.filterMap_cons, if_neg (by rw [hi]; exact hy)]
        refine (List.find?_cons_of_neg (by simpa using hy)).trans (ih h)
  exact hgen n.conns hc

end

/-- The release commit: one commit that leaves the map's other output, and what follows it keeps its darkness and has no roll left. -/
theorem exec_releaseCommit_spec {s : State} {k i e : Nat} {c : Conn} (hst : (s.d.slot k).state = .rolling) (hr : (s.d.slot k).rolls = [(i, some e)])
    (he : e < s.d.tb2) (ht : s.d.tb2 % 2 = 0) (hk : s.d.clocked = true) (hc : s.net.ofIn i = some c) :
    ∃ (ch : Change) (d : Dev), exec (.releaseCommit k) s = .next (strobe s ((makeCommit s.net s.d ch).net, d)) ∧ ch.conns = s.net.released c ∧
      (s.d.atEsn (s.d.cmt.esn + 1)).keeps d ∧ (∀ x, (makeCommit s.net s.d ch).dev.darkAt x → d.darkAt x) ∧ d.noRoll k := by
  rw [exec_releaseCommit]
  generalize hx : execReleaseCommit k s = o
  unfold execReleaseCommit at hx
  extract_lets x due cs sw conns m d1 d2 freed d3 d4 at hx
  have hcs : cs = [c] := by
    change (s.d.slot k).rolls.filterMap (fun r => s.net.ofIn r.1) = [c]
    rw [hr]
    simp [hc]
  have hconns : conns = s.net.released c := by
    unfold conns
    rw [hcs]
    rfl
  have hdue : (x.state != .rolling || !due || s.d.tb2 % 2 == 1 || !s.d.clocked) = false := by
    have h1 : x.state = .rolling := hst
    have h2 : due = true := by
      change (!(s.d.slot k).rolls.isEmpty && (s.d.slot k).rolls.all _) = true
      rw [hr]
      simp [he]
    rw [h1, h2, hk]
    simp [ht]
  rw [if_neg (by rw [hdue]; decide)] at hx
  subst hx
  have hm : m.of s := makeCommit_of (.refl _)
  have k1 : m.dev.keeps d1 := .foldl (fun _ _ h => .foldl (fun _ _ h => h.modCell) h) (.refl _)
  have k2 : m.dev.keeps d2 := .foldl (fun _ _ h => h.ffStep.ffStep) k1
  have k3 : m.dev.keeps d3 := .foldl (fun _ _ h => h.modCell) k2
  have k4 : m.dev.keeps d4 := k3.modSlot
  refine ⟨_, _, rfl, hconns, hm.2.trans k4.count.advance, fun y hy => ?_, ?_⟩
  · have h1 : d1.darkAt y := .foldl (fun _ _ h => .foldl (fun _ _ h => h.modCell) h) hy
    have h2 : d2.darkAt y := .foldl (fun _ _ h => h.ffStep.ffStep) h1
    have h3 : d3.darkAt y := .foldl (fun _ _ h => h.modCell fun z => by split <;> rfl) h2
    have h4 : (d4.count 2924).darkAt y := h3
    obtain ha | ⟨q, j, comp, ha⟩ := Dev.advance_of_settling (d := d4.count 2924) (n := m.net) (k := k) (by simp [d4])
    · rw [ha]; exact h4
    · rw [ha]; exact h4.same (Dev.complete_same _ _ _ _)
  · have h4 : (d4.count 2924).noRoll k := by simp [d4, Dev.noRoll]
    obtain ha | ⟨q, j, comp, ha⟩ := Dev.advance_of_settling (d := d4.count 2924) (n := m.net) (k := k) (by simp [d4])
    · rw [ha]; exact h4
    · rw [ha]; exact h4.complete

/-- Settles O30, by what the start of the ramp and the release commit make of a roll. -/
theorem rollsRampAndRelease : Obligations.RollsRampAndRelease := by
  refine ⟨?_, ?_⟩
  · intro s k i ca c _ hst hr ha hn ht hc hs _
    obtain ⟨o2, ho⟩ := bridge_of_splitCell hs
    have hx := exec_rollRampStart_next hst hr ha hn ht hc hs ho
    have hne := twinCa_ne ca
    refine ⟨_, hx, ?_, fun x hx' => ⟨_, outOfSplit_quarter (s.d.cell x).phiTgt (swPhase (finalState s.net c o2)), ?_⟩,
      fun x h1 h2 => ?_, finish_same ?_⟩
    · rw [Dev.notify_slot, Dev.slot_modSlot, if_pos rfl]
      change (s.d.slot k).rolls.map _ = _
      rw [hr]
      rfl
    · rw [Dev.notify_cell]
      change (((s.d.modCell ca _).modCell (twinCa ca) _).cell x) = _
      obtain rfl | rfl : x = ca ∨ x = twinCa ca := by simpa using hx'
      · rw [Dev.cell_modCell, if_neg hne.symm, Dev.cell_modCell_self]
        rfl
      · rw [Dev.cell_modCell_self, Dev.cell_modCell, if_neg hne]
        rfl
    · rw [Dev.notify_cell]
      change (((s.d.modCell ca _).modCell (twinCa ca) _).cell x) = _
      rw [Dev.cell_modCell, if_neg h2, Dev.cell_modCell, if_neg h1]
    · exact Dev.sameBut.trans (.foldl (fun d y => (d.modCell_same y _).up _) _ s.d) ((Dev.modSlot_same _ _ _).up _)
  · intro s k i e o2 c _ hst hr he ht hk hc ho hne hout hu
    obtain ⟨ch, d, hx, hch, hkeep, hdark, hroll⟩ := exec_releaseCommit_spec hst hr he ht hk hc
    obtain ⟨hfab, hslot⟩ := d.strobed_keeps s.mem (makeCommit s.net s.d ch).net
    have hesn : (d.strobed s.mem (makeCommit s.net s.d ch).net).cmt.esn = s.d.cmt.esn + 1 :=
      Dev.keeps.esn (hkeep.midnightTriggers.count.pathFaults.singlesGone.snapMidnight)
    have hconns : (makeCommit s.net s.d ch).net.conns = s.net.released c := hch
    have hmem : c ∈ s.net.conns := List.mem_of_find?_eq_some hc
    have huc : c.uses c.out = true := by simp [Conn.uses]
    have hgone : ∀ l : Net, l.conns = s.net.released c → l.ofOut c.out = none := by
      intro l hl
      rw [Net.ofOut, hl]
      exact List.find?_eq_none.mpr fun z hz => by rw [Net.released_uses ho hne hu hz]; decide
    have hvoa : ∀ p, (s.net.apply ch).voaConn (outVoa p c.out) = none := by
      intro p
      rw [Net.voaConn, isInVoa_outVoa hout, if_neg (by decide), caIdx_outVoa hout]
      exact hgone _ hch
    have hd : ∀ p, p = 0 ∨ p = 1 → ((d.strobed s.mem (makeCommit s.net s.d ch).net).notify.cell (outVoa p c.out)).dark = true := by
      intro p hp
      rw [Dev.notify_cell, Dev.cell, hfab]
      refine hdark _ (makeCommit_darkAt hmem List.mem_cons_self ?_ ?_ (hvoa p))
      · rw [hch]
        exact fun h => by simpa [huc] using Net.released_uses ho hne hu h
      · obtain rfl | rfl := hp
        · exact .inl rfl
        · exact .inr rfl
    rw [strobe_eq] at hx
    refine ⟨_, hx, ?_, ?_, hgone _ hconns, hd 0 (.inl rfl), hd 1 (.inr rfl), ?_, rfl, rfl, rfl⟩
    · rw [Dev.notify_cmt]
      exact hesn
    · rw [Net.ofIn, hconns]
      exact Net.released_find ho hne hu hc
    · rw [Dev.notify_slot, hslot]
      exact hroll

end Sys2Proof.Machine
